-- ==== Sys2Proof/Word.lean ====
section
/-!
DEFINITION. The word types of the module (R7, R12) and their plainest arithmetic.
-/

namespace Sys2Proof

/-- A control-space register: 64 bits (R12). -/
abbrev Word := BitVec 64

/-- A byte (R7). -/
abbrev Byte := BitVec 8

/-- A module physical address: 48 bits (R171). -/
abbrev Addr := BitVec 48

end Sys2Proof
end

