-- ==== Sys2Proof/Machine/Bits.lean ====
section
/-!
DEFINITION. Bit-field, byte-order and saturation helpers.
-/

namespace Sys2Proof.Machine

/-- Bits `[hi:lo]` of a number. -/
def bits (hi lo v : Nat) : Nat := (v >>> lo) % 2 ^ (hi + 1 - lo)

/-- Bit `i` of a number. -/
def bit (i v : Nat) : Bool := v.testBit i

/-- `x` placed at bits `[hi:lo]`, cut to the field. -/
def place (hi lo x : Nat) : Nat := (x % 2 ^ (hi + 1 - lo)) <<< lo

/-- `v` with bits `[hi:lo]` replaced by `x`. -/
def setBits (hi lo v x : Nat) : Nat := v - (bits hi lo v <<< lo) + place hi lo x

/-- 1 for true. -/
def b2n (b : Bool) : Nat := if b then 1 else 0

/-- `v` cut to `w` bits, saturating. -/
def sat (w v : Nat) : Nat := min v (2 ^ w - 1)

/-- The number whose little-endian bytes are given. -/
def leNat : List Byte → Nat
  | [] => 0
  | b :: bs => b.toNat + 256 * leNat bs

/-- `n` little-endian bytes of `v`. -/
def leBytes : Nat → Nat → List Byte
  | 0, _ => []
  | n + 1, v => BitVec.ofNat 8 v :: leBytes n (v / 256)

/-- Bytes `off … off + n - 1` of a list; bytes past the end read zero. -/
def byteSlice (bs : List Byte) (off n : Nat) : List Byte :=
  let x := (bs.drop off).take n
  x ++ List.replicate (n - x.length) 0

/-- The little-endian number in bytes `off … off + n - 1`. -/
def leAt (bs : List Byte) (off n : Nat) : Nat := leNat (byteSlice bs off n)

/-- The indices below `n` at which a number has a 1 bit, rising. -/
def bitsOn (n v : Nat) : List Nat := (List.range n).filter (fun i => v.testBit i)

/-- The number of 1 bits below bit `n`. -/
def popCount (n v : Nat) : Nat := (bitsOn n v).length

/-- The number with 1 bits at the listed places. -/
def maskOf (xs : List Nat) : Nat := xs.foldl (fun m i => m ||| (1 <<< i)) 0

/-- Even parity over the `n` low bits of `v`: 1 when the number of ones is odd. -/
def parity (n v : Nat) : Nat := popCount n v % 2

/-- `v` read as a two's-complement number of `w` bits. -/
def signed (w v : Nat) : Int :=
  if v % 2 ^ w < 2 ^ (w - 1) then (v % 2 ^ w : Nat) else ((v % 2 ^ w : Nat) : Int) - (2 ^ w : Nat)

/-- The `w`-bit two's-complement code of an integer. -/
def unsigned (w : Nat) (x : Int) : Nat := (x % ((2 ^ w : Nat) : Int)).toNat

/-- Keep the first occurrence of each element. -/
def dedup {α : Type} [DecidableEq α] : List α → List α
  | [] => []
  | x :: xs => x :: (dedup xs).filter (fun y => y ≠ x)

/-- No element occurs twice. -/
def noDup {α : Type} [DecidableEq α] : List α → Bool
  | [] => true
  | x :: xs => (!xs.contains x) && noDup xs

/-- The list rises strictly. -/
def rising : List Nat → Bool
  | [] => true
  | [_] => true
  | x :: y :: t => decide (x < y) && rising (y :: t)

/-- Insert into a list kept in rising order of `key`. -/
def insertBy {α : Type} (key : α → Nat) (x : α) : List α → List α
  | [] => [x]
  | y :: ys => if key x < key y then x :: y :: ys else y :: insertBy key x ys

/-- Sort by a key (stable insertion sort). -/
def sortBy {α : Type} (key : α → Nat) : List α → List α
  | [] => []
  | x :: xs => insertBy key x (sortBy key xs)

/-- The element with the least key, the first of equals. -/
def minBy {α : Type} (key : α → Nat) : List α → Option α
  | [] => none
  | x :: xs =>
    match minBy key xs with
    | none => some x
    | some y => if key y < key x then some y else some x

/-- Replace element `i` of a list. -/
def lset {α : Type} : List α → Nat → α → List α
  | [], _, _ => []
  | _ :: t, 0, v => v :: t
  | x :: t, i + 1, v => x :: lset t i v

/-- Element `i` of a list, or `d`. -/
def lget {α : Type} (d : α) : List α → Nat → α
  | [], _ => d
  | x :: _, 0 => x
  | _ :: t, i + 1 => lget d t i

/-- Round `n` up to a multiple of `k`. -/
def roundUp (n k : Nat) : Nat := (n + k - 1) / k * k

/-- Ceiling division. -/
def cdiv (n k : Nat) : Nat := (n + k - 1) / k

end Sys2Proof.Machine
end

