-- ==== Sys2Proof/Machine/RegTable.lean ====
section
/-!
DEFINITION. The register index of Table 15.3 (R490): every register's offset, the bits of each access code of its
field table (Table 0.5, R12, R13) and its value at reset. A field whose reset the spec gives as "—" is 0 here
(assumption log 2); a field whose reset is "Flash" has the default topology table of R429 (log 3). GLB_ID and
T2C_CAPS are the order number's (R2) and are read through `csRead`.
-/

namespace Sys2Proof.Machine

/-- One register: its offset, its reset value, and the bits of each access code. -/
structure RegRow where
  off : Nat
  reset : Nat
  /-- bits of RW fields -/
  rw : Nat
  /-- bits of RWL fields -/
  rwl : Nat
  /-- bits of W1C fields -/
  w1c : Nat
  /-- bits of W1S fields -/
  w1s : Nat
  /-- bits of WO fields -/
  wo : Nat
  /-- bits of reserved fields -/
  resv : Nat
  deriving DecidableEq, Repr

/-- Module identification (00_scope.md). -/
abbrev rGLB_ID : Nat := 0x000000

/-- Registers of the GLB block. -/
def regsGLB : List RegRow := [
  ⟨rGLB_ID, 0x4C550009B1300800, 0x0, 0x0, 0x0, 0x0, 0x0, 0xFF⟩]

/-- Fabric geometry (01_fabric.md). -/
abbrev rFAB_GEOM : Nat := 0x010000
/-- Bay power request (01_fabric.md). -/
abbrev rFAB_BAY_ON : Nat := 0x010008
/-- Forced power-down (01_fabric.md). -/
abbrev rFAB_BAY_FORCE : Nat := 0x010010
/-- Bay state (01_fabric.md). -/
abbrev rFAB_BAY_STATE : Nat := 0x010018
/-- Bay fences (01_fabric.md). -/
abbrev rFAB_BAY_FENCE : Nat := 0x010020
/-- Bay clock targets, bays 0–7 (01_fabric.md). -/
abbrev rFAB_BAY_CLK_LO : Nat := 0x010028
/-- Bay clock targets, bays 8–15 (01_fabric.md). -/
abbrev rFAB_BAY_CLK_HI : Nat := 0x010030
/-- Island select (01_fabric.md). -/
abbrev rFAB_ISL_SEL : Nat := 0x010038
/-- Island status (01_fabric.md). -/
abbrev rFAB_ISL_STAT : Nat := 0x010040
/-- Fabric error status (01_fabric.md). -/
abbrev rFAB_ERR : Nat := 0x010048
/-- First fault site (01_fabric.md). -/
abbrev rFAB_ERR_SITE : Nat := 0x010050

/-- Registers of the FAB block. -/
def regsFAB : List RegRow := [
  ⟨rFAB_GEOM, 0xC0810A010282020, 0x0, 0x0, 0x0, 0x0, 0x0, 0xF⟩,
  ⟨rFAB_BAY_ON, 0x0, 0xFFFF, 0x0, 0x0, 0x0, 0x0, 0xFFFFFFFFFFFF0000⟩,
  ⟨rFAB_BAY_FORCE, 0x0, 0x0, 0x0, 0x0, 0xFFFF, 0x0, 0xFFFFFFFFFFFF0000⟩,
  ⟨rFAB_BAY_STATE, 0x0, 0x0, 0x0, 0x0, 0x0, 0x0, 0x0⟩,
  ⟨rFAB_BAY_FENCE, 0x0, 0x0, 0x0, 0x0, 0x0, 0x0, 0xFFFFFFFFFFFF8000⟩,
  ⟨rFAB_BAY_CLK_LO, 0x2424242424242424, 0xFFFFFFFFFFFFFFFF, 0x0, 0x0, 0x0, 0x0, 0x0⟩,
  ⟨rFAB_BAY_CLK_HI, 0x2424242424242424, 0xFFFFFFFFFFFFFFFF, 0x0, 0x0, 0x0, 0x0, 0x0⟩,
  ⟨rFAB_ISL_SEL, 0x0, 0x3FF, 0x0, 0x0, 0x0, 0x0, 0xFFFFFFFFFFFFFC00⟩,
  ⟨rFAB_ISL_STAT, 0x0, 0x0, 0x0, 0x0, 0x0, 0x0, 0xFFFFF0C0⟩,
  ⟨rFAB_ERR, 0x0, 0x0, 0x0, 0x1F, 0x0, 0x0, 0xFFFFFFFFFFFFFFE0⟩,
  ⟨rFAB_ERR_SITE, 0x0, 0x0, 0x0, 0x0, 0x0, 0x0, 0xFFFFFFFF7F000040⟩]

/-- Arithmetic capabilities (02_arithmetic.md). -/
abbrev rACL_CAPS : Nat := 0x030000
/-- Special-function table select (02_arithmetic.md). -/
abbrev rACL_SFU_SEL : Nat := 0x030008
/-- Special-function table value (02_arithmetic.md). -/
abbrev rACL_SFU_COEF : Nat := 0x030010
/-- Arithmetic error status (02_arithmetic.md). -/
abbrev rACL_ERR : Nat := 0x030018
/-- First arithmetic fault site (02_arithmetic.md). -/
abbrev rACL_ERR_SITE : Nat := 0x030020
/-- Residue fault injection (02_arithmetic.md). -/
abbrev rACL_INJ : Nat := 0x030028
/-- Arithmetic event counts (02_arithmetic.md). -/
abbrev rACL_CNT : Nat := 0x030030

/-- Registers of the ACL block. -/
def regsACL : List RegRow := [
  ⟨rACL_CAPS, 0x40008070FF011FFF, 0x0, 0x0, 0x0, 0x0, 0x0, 0x0⟩,
  ⟨rACL_SFU_SEL, 0x0, 0xE3FF, 0x0, 0x0, 0x0, 0x0, 0xFFFFFFFFFFFF1C00⟩,
  ⟨rACL_SFU_COEF, 0x0, 0x0, 0x0, 0x0, 0x0, 0x0, 0xFFFFFFFE00000000⟩,
  ⟨rACL_ERR, 0x0, 0x0, 0x0, 0x3FF, 0x0, 0x0, 0xFFFFFFFFFFFFFC00⟩,
  ⟨rACL_ERR_SITE, 0x0, 0x0, 0x0, 0x0, 0x0, 0x0, 0xFFFFFFFF7F00003F⟩,
  ⟨rACL_INJ, 0x0, 0x0, 0x0, 0x0, 0x0, 0x8000000000FFFF80, 0x7FFFFFFFFF00007F⟩,
  ⟨rACL_CNT, 0x0, 0xFFFFFFFFFFFFFFFF, 0x0, 0x0, 0x0, 0x0, 0x0⟩]

/-- Store-cell capabilities (03_store_cells_tiling.md). -/
abbrev rSCL_CAPS : Nat := 0x040000
/-- Patrol scrub (03_store_cells_tiling.md). -/
abbrev rSCL_SCRUB : Nat := 0x040008
/-- Store-cell error status (03_store_cells_tiling.md). -/
abbrev rSCL_ERR : Nat := 0x040010
/-- First store-cell fault site (03_store_cells_tiling.md). -/
abbrev rSCL_ERR_SITE : Nat := 0x040018
/-- First store-cell fault address (03_store_cells_tiling.md). -/
abbrev rSCL_ERR_ADDR : Nat := 0x040020
/-- Corrected-error count (03_store_cells_tiling.md). -/
abbrev rSCL_CE_CNT : Nat := 0x040028
/-- SRAM error injection (03_store_cells_tiling.md). -/
abbrev rSCL_INJ : Nat := 0x040030

/-- Registers of the SCL block. -/
def regsSCL : List RegRow := [
  ⟨rSCL_CAPS, 0x180104026202088, 0x0, 0x0, 0x0, 0x0, 0x0, 0x0⟩,
  ⟨rSCL_SCRUB, 0x10400, 0x1FFFF, 0x0, 0x0, 0x0, 0x0, 0xFFFFFFFFFFFE0000⟩,
  ⟨rSCL_ERR, 0x0, 0x0, 0x0, 0xFF, 0x0, 0x0, 0xFFFFFFFFFFFFFF00⟩,
  ⟨rSCL_ERR_SITE, 0x0, 0x0, 0x0, 0x0, 0x0, 0x0, 0xFFFFFFFF7F00000F⟩,
  ⟨rSCL_ERR_ADDR, 0x0, 0x0, 0x0, 0x0, 0x0, 0x0, 0x3FFF000000000000⟩,
  ⟨rSCL_CE_CNT, 0x0, 0xFFFFFFFF, 0x0, 0x0, 0x0, 0x0, 0xFFFFFFFF00000000⟩,
  ⟨rSCL_INJ, 0x0, 0x0, 0x0, 0x0, 0x0, 0xC000001FFFFFF800, 0x3FFFFFE0000007FF⟩]

/-- Exhibit loader capabilities (04_exhibits.md). -/
abbrev rEXH_CAPS : Nat := 0x020000
/-- Load select (04_exhibits.md). -/
abbrev rEXH_LOAD_SEL : Nat := 0x020008
/-- Load status (04_exhibits.md). -/
abbrev rEXH_LOAD_STAT : Nat := 0x020010
/-- Bay epochs (04_exhibits.md). -/
abbrev rEXH_BAY_EPOCH : Nat := 0x020018
/-- Stall-watchdog period (04_exhibits.md). -/
abbrev rEXH_WDOG : Nat := 0x020020
/-- Split group select (04_exhibits.md). -/
abbrev rEXH_SPLIT_SEL : Nat := 0x020028
/-- Split group control (04_exhibits.md). -/
abbrev rEXH_SPLIT_CTL : Nat := 0x020030
/-- Split group exhibits (04_exhibits.md). -/
abbrev rEXH_SPLIT_IMG : Nat := 0x020038
/-- Split group status (04_exhibits.md). -/
abbrev rEXH_SPLIT_STAT : Nat := 0x020040
/-- Exhibit error status (04_exhibits.md). -/
abbrev rEXH_ERR : Nat := 0x020048
/-- First exhibit fault site (04_exhibits.md). -/
abbrev rEXH_ERR_SITE : Nat := 0x020050
/-- Last refusal (04_exhibits.md). -/
abbrev rEXH_REFUSE : Nat := 0x020058

/-- Registers of the EXH block. -/
def regsEXH : List RegRow := [
  ⟨rEXH_CAPS, 0xB5401FF06200410, 0x0, 0x0, 0x0, 0x0, 0x0, 0x0⟩,
  ⟨rEXH_LOAD_SEL, 0x0, 0xF, 0x0, 0x0, 0x0, 0x0, 0xFFFFFFFFFFFFFFF0⟩,
  ⟨rEXH_LOAD_STAT, 0x0, 0x0, 0x0, 0x0, 0x0, 0x0, 0x1FFFFFFF⟩,
  ⟨rEXH_BAY_EPOCH, 0x0, 0x0, 0x0, 0x0, 0x0, 0x0, 0x0⟩,
  ⟨rEXH_WDOG, 0x64, 0xFFFF, 0x0, 0x0, 0x0, 0x0, 0xFFFFFFFFFFFF0000⟩,
  ⟨rEXH_SPLIT_SEL, 0x0, 0x3, 0x0, 0x0, 0x0, 0x0, 0xFFFFFFFFFFFFFFFC⟩,
  ⟨rEXH_SPLIT_CTL, 0x4001084000002000, 0xFFFFFFC0FFFFFFFF, 0x0, 0x0, 0x0, 0x0, 0x3F00000000⟩,
  ⟨rEXH_SPLIT_IMG, 0x0, 0x3FF, 0x0, 0x0, 0x0, 0x0, 0xFFFFFFFFFFFFFC00⟩,
  ⟨rEXH_SPLIT_STAT, 0x0, 0x0, 0x0, 0x0, 0x0, 0x0, 0x0⟩,
  ⟨rEXH_ERR, 0x0, 0x0, 0x0, 0x1F, 0x0, 0x0, 0xFFFFFFFFFFFFFFE0⟩,
  ⟨rEXH_ERR_SITE, 0x0, 0x0, 0x0, 0x0, 0x0, 0x0, 0xFFFFFFFF7F000000⟩,
  ⟨rEXH_REFUSE, 0x0, 0x0, 0x0, 0x0, 0x0, 0x0, 0xFF00⟩]

/-- T1 capabilities (05_memory_tiers.md). -/
abbrev rT1C_CAPS : Nat := 0x050000
/-- T1 pool status (05_memory_tiers.md). -/
abbrev rT1C_POOL : Nat := 0x050008
/-- T1 patrol scrub (05_memory_tiers.md). -/
abbrev rT1C_SCRUB : Nat := 0x050010
/-- T1 error status (05_memory_tiers.md). -/
abbrev rT1C_ERR : Nat := 0x050018
/-- First T1 fault address (05_memory_tiers.md). -/
abbrev rT1C_ERR_ADDR : Nat := 0x050020
/-- T1 corrected-error count (05_memory_tiers.md). -/
abbrev rT1C_CE_CNT : Nat := 0x050028

/-- Registers of the T1C block. -/
def regsT1C : List RegRow := [
  ⟨rT1C_CAPS, 0x500033010002008, 0x0, 0x0, 0x0, 0x0, 0x0, 0x0⟩,
  ⟨rT1C_POOL, 0x100003300330, 0x0, 0x0, 0x0, 0x0, 0x0, 0xFFFF000000000000⟩,
  ⟨rT1C_SCRUB, 0x10400, 0x1FFFF, 0x0, 0x0, 0x0, 0x0, 0xFFFFFFFFFFFE0000⟩,
  ⟨rT1C_ERR, 0x0, 0x0, 0x0, 0x7, 0x0, 0x0, 0xFFFFFFFFFFFFFFF8⟩,
  ⟨rT1C_ERR_ADDR, 0x0, 0x0, 0x0, 0x0, 0x0, 0x0, 0xFFF000000000000⟩,
  ⟨rT1C_CE_CNT, 0x0, 0xFFFFFFFF, 0x0, 0x0, 0x0, 0x0, 0xFFFFFFFF00000000⟩]

/-- T2 capabilities (05_memory_tiers.md). -/
abbrev rT2C_CAPS : Nat := 0x060000
/-- T2 control (05_memory_tiers.md). -/
abbrev rT2C_CTL : Nat := 0x060008
/-- T2 status (05_memory_tiers.md). -/
abbrev rT2C_STAT : Nat := 0x060010
/-- T2 pool status (05_memory_tiers.md). -/
abbrev rT2C_POOL : Nat := 0x060018
/-- T2 error status (05_memory_tiers.md). -/
abbrev rT2C_ERR : Nat := 0x060020
/-- First T2 fault address (05_memory_tiers.md). -/
abbrev rT2C_ERR_ADDR : Nat := 0x060028
/-- T2 corrected-error count (05_memory_tiers.md). -/
abbrev rT2C_CE_CNT : Nat := 0x060030

/-- Registers of the T2C block. -/
def regsT2C : List RegRow := [
  ⟨rT2C_CAPS, 0x830105020020000, 0x0, 0x0, 0x0, 0x0, 0x0, 0xFFFF⟩,
  ⟨rT2C_CTL, 0x461001000000000, 0xFFF1FFFFFFF00000, 0x2000000000000, 0x0, 0x0, 0x0, 0xC0000000FFFFF⟩,
  ⟨rT2C_STAT, 0x0, 0x0, 0x0, 0x0, 0x0, 0x0, 0xFFFE000000000000⟩,
  ⟨rT2C_POOL, 0x0, 0x0, 0x0, 0x0, 0x0, 0x0, 0x0⟩,
  ⟨rT2C_ERR, 0x0, 0x0, 0x0, 0x3F, 0x0, 0x0, 0xFFFFFFFFFFFFFFC0⟩,
  ⟨rT2C_ERR_ADDR, 0x0, 0x0, 0x0, 0x0, 0x0, 0x0, 0xFFF000000000000⟩,
  ⟨rT2C_CE_CNT, 0x0, 0xFFFFFFFF, 0x0, 0x0, 0x0, 0x0, 0xFFFFFFFF00000000⟩]

/-- T3 control (05_memory_tiers.md). -/
abbrev rT3C_CTL : Nat := 0x070000
/-- T3 status (05_memory_tiers.md). -/
abbrev rT3C_STAT : Nat := 0x070008
/-- T3 pool status (05_memory_tiers.md). -/
abbrev rT3C_POOL : Nat := 0x070010
/-- T3 error status (05_memory_tiers.md). -/
abbrev rT3C_ERR : Nat := 0x070018
/-- First T3 fault address (05_memory_tiers.md). -/
abbrev rT3C_ERR_ADDR : Nat := 0x070020
/-- T3 corrected-error count (05_memory_tiers.md). -/
abbrev rT3C_CE_CNT : Nat := 0x070028

/-- Registers of the T3C block. -/
def regsT3C : List RegRow := [
  ⟨rT3C_CTL, 0x2, 0x2, 0x1, 0x0, 0x0, 0x0, 0xFFFFFFFFFFFFFFFC⟩,
  ⟨rT3C_STAT, 0x0, 0x0, 0x0, 0x0, 0x0, 0x0, 0x0⟩,
  ⟨rT3C_POOL, 0x0, 0x0, 0x0, 0x0, 0x0, 0x0, 0x0⟩,
  ⟨rT3C_ERR, 0x0, 0x0, 0x0, 0x3F, 0x0, 0x0, 0xFFFFFFFFFFFFFFC0⟩,
  ⟨rT3C_ERR_ADDR, 0x0, 0x0, 0x0, 0x0, 0x0, 0x0, 0xFF000000000000⟩,
  ⟨rT3C_CE_CNT, 0x0, 0xFFFFFFFF, 0x0, 0x0, 0x0, 0x0, 0xFFFFFFFF00000000⟩]

/-- Docent capabilities (06_docents_arbiters.md). -/
abbrev rDOC_CAPS : Nat := 0x080000
/-- Docent enable (06_docents_arbiters.md). -/
abbrev rDOC_EN : Nat := 0x080008
/-- Docent forced stop (06_docents_arbiters.md). -/
abbrev rDOC_FORCE : Nat := 0x080010
/-- Docent activity (06_docents_arbiters.md). -/
abbrev rDOC_BUSY : Nat := 0x080018
/-- Docent draining (06_docents_arbiters.md). -/
abbrev rDOC_DRAIN : Nat := 0x080020
/-- Docent segments (06_docents_arbiters.md). -/
abbrev rDOC_SEG : Nat := 0x080028
/-- Itinerary queue select (06_docents_arbiters.md). -/
abbrev rDOC_IQ_SEL : Nat := 0x080030
/-- Itinerary queue control (06_docents_arbiters.md). -/
abbrev rDOC_IQ_CTL : Nat := 0x080038
/-- Itinerary list (06_docents_arbiters.md). -/
abbrev rDOC_IQ_BASE : Nat := 0x080040
/-- Itinerary queue docent mask (06_docents_arbiters.md). -/
abbrev rDOC_IQ_DOCS : Nat := 0x080048
/-- Itinerary queue status (06_docents_arbiters.md). -/
abbrev rDOC_IQ_STAT : Nat := 0x080050
/-- Itinerary queue bytes (06_docents_arbiters.md). -/
abbrev rDOC_IQ_BYTES : Nat := 0x080058
/-- Docent error status (06_docents_arbiters.md). -/
abbrev rDOC_ERR : Nat := 0x080060

/-- Registers of the DOC block. -/
def regsDOC : List RegRow := [
  ⟨rDOC_CAPS, 0x4040402001000200, 0x0, 0x0, 0x0, 0x0, 0x0, 0x0⟩,
  ⟨rDOC_EN, 0xFFFFFFFFFFFFFFFF, 0xFFFFFFFFFFFFFFFF, 0x0, 0x0, 0x0, 0x0, 0x0⟩,
  ⟨rDOC_FORCE, 0x0, 0x0, 0x0, 0x0, 0xFFFFFFFFFFFFFFFF, 0x0, 0x0⟩,
  ⟨rDOC_BUSY, 0x0, 0x0, 0x0, 0x0, 0x0, 0x0, 0x0⟩,
  ⟨rDOC_DRAIN, 0x0, 0x0, 0x0, 0x0, 0x0, 0x0, 0x0⟩,
  ⟨rDOC_SEG, 0x400040, 0xFFFFFFFF, 0x0, 0x0, 0x0, 0x0, 0xFFFFFFFF00000000⟩,
  ⟨rDOC_IQ_SEL, 0x0, 0x3F, 0x0, 0x0, 0x0, 0x0, 0xFFFFFFFFFFFFFFC0⟩,
  ⟨rDOC_IQ_CTL, 0x80000000000, 0x903F7F0000000000, 0x0, 0x0, 0x6000000000000000, 0x0, 0xFC080FFFFFFFFFF⟩,
  ⟨rDOC_IQ_BASE, 0x0, 0xFFFFFFFFFFFFFFFF, 0x0, 0x0, 0x0, 0x0, 0x0⟩,
  ⟨rDOC_IQ_DOCS, 0xFFFFFFFFFFFFFFFF, 0xFFFFFFFFFFFFFFFF, 0x0, 0x0, 0x0, 0x0, 0x0⟩,
  ⟨rDOC_IQ_STAT, 0x0, 0x0, 0x0, 0x0, 0x0, 0x0, 0x1F0000000000FF80⟩,
  ⟨rDOC_IQ_BYTES, 0x0, 0x0, 0x0, 0x0, 0x0, 0x0, 0x0⟩,
  ⟨rDOC_ERR, 0x0, 0x0, 0x0, 0x3F, 0x0, 0x0, 0xFFFFFFFFFFFFFFC0⟩]

/-- Arbiter capabilities (06_docents_arbiters.md). -/
abbrev rARB_CAPS : Nat := 0x090000
/-- Arbiter select (06_docents_arbiters.md). -/
abbrev rARB_SEL : Nat := 0x090008
/-- Grant count (06_docents_arbiters.md). -/
abbrev rARB_GRANTS : Nat := 0x090010
/-- Wait total (06_docents_arbiters.md). -/
abbrev rARB_WAIT : Nat := 0x090018
/-- Longest wait (06_docents_arbiters.md). -/
abbrev rARB_WAIT_MAX : Nat := 0x090020
/-- Arbiter holder (06_docents_arbiters.md). -/
abbrev rARB_OWNER : Nat := 0x090028
/-- User-class closing bits (06_docents_arbiters.md). -/
abbrev rARB_CLOSE : Nat := 0x090030
/-- Per-tenant closing (06_docents_arbiters.md). -/
abbrev rARB_CLOSE_TEN : Nat := 0x090038
/-- Per-tenant drain status (06_docents_arbiters.md). -/
abbrev rARB_CLOSE_TEN_STAT : Nat := 0x090040
/-- Counter clear (06_docents_arbiters.md). -/
abbrev rARB_CNT_CLR : Nat := 0x090048

/-- Registers of the ARB block. -/
def regsARB : List RegRow := [
  ⟨rARB_CAPS, 0x130025004000400, 0x0, 0x0, 0x0, 0x0, 0x0, 0xFF⟩,
  ⟨rARB_SEL, 0x0, 0x1FF007F, 0x0, 0x0, 0x0, 0x0, 0xFFFFFFFFFE00FF80⟩,
  ⟨rARB_GRANTS, 0x0, 0x0, 0x0, 0x0, 0x0, 0x0, 0xFFFF000000000000⟩,
  ⟨rARB_WAIT, 0x0, 0x0, 0x0, 0x0, 0x0, 0x0, 0x0⟩,
  ⟨rARB_WAIT_MAX, 0x0, 0x0, 0x0, 0x0, 0x0, 0x0, 0xFFFFFFFF00000000⟩,
  ⟨rARB_OWNER, 0x0, 0x0, 0x0, 0x0, 0x0, 0x0, 0xFFFFFFFFFFFE0080⟩,
  ⟨rARB_CLOSE, 0x0, 0x3, 0x0, 0x0, 0x0, 0x0, 0xFFFFFFFFFFFFFFF0⟩,
  ⟨rARB_CLOSE_TEN, 0x0, 0xFFFFFFFFFFFFFFFF, 0x0, 0x0, 0x0, 0x0, 0x0⟩,
  ⟨rARB_CLOSE_TEN_STAT, 0x1, 0x0, 0x0, 0x0, 0x0, 0x0, 0xFFFFFFFFFFFFFFFE⟩,
  ⟨rARB_CNT_CLR, 0x0, 0x0, 0x0, 0x0, 0x0, 0x3, 0xFFFFFFFFFFFFFFFC⟩]

/-- Serving capabilities (07_serving.md). -/
abbrev rSRV_CAPS : Nat := 0x0A0000
/-- Serving control (07_serving.md). -/
abbrev rSRV_CTL : Nat := 0x0A0008
/-- Admission control (07_serving.md). -/
abbrev rSRV_ADMIT_CTL : Nat := 0x0A0010
/-- Admission status (07_serving.md). -/
abbrev rSRV_ADMIT_STAT : Nat := 0x0A0018
/-- Service select (07_serving.md). -/
abbrev rSRV_SVC_SEL : Nat := 0x0A0020
/-- Service configuration (07_serving.md). -/
abbrev rSRV_SVC_CFG : Nat := 0x0A0028
/-- Service loads and shape (07_serving.md). -/
abbrev rSRV_SVC_SHAPE : Nat := 0x0A0030
/-- Service vocabulary (07_serving.md). -/
abbrev rSRV_SVC_TOKENS : Nat := 0x0A0038
/-- Service pools (07_serving.md). -/
abbrev rSRV_SVC_POOLS : Nat := 0x0A0040
/-- Service time allowances (07_serving.md). -/
abbrev rSRV_SVC_TIME : Nat := 0x0A0048
/-- Service status (07_serving.md). -/
abbrev rSRV_SVC_STAT : Nat := 0x0A0050
/-- Entry release (07_serving.md). -/
abbrev rSRV_REQ_FREE : Nat := 0x0A0058
/-- Serving error status (07_serving.md). -/
abbrev rSRV_ERR : Nat := 0x0A0060

/-- Registers of the SRV block. -/
def regsSRV : List RegRow := [
  ⟨rSRV_CAPS, 0x4000300040880000, 0x0, 0x0, 0x0, 0x0, 0x0, 0xFF⟩,
  ⟨rSRV_CTL, 0x0, 0x1, 0x0, 0x0, 0x2, 0x0, 0xFFFFFFFFFFFFFFF0⟩,
  ⟨rSRV_ADMIT_CTL, 0xC35080000000, 0xFFFFFFFF00000000, 0x0, 0x0, 0x0, 0x0, 0x7FFFFFFF⟩,
  ⟨rSRV_ADMIT_STAT, 0x0, 0x0, 0x0, 0x0, 0x0, 0x0, 0x0⟩,
  ⟨rSRV_SVC_SEL, 0x0, 0x3F, 0x0, 0x0, 0x0, 0x0, 0xFFFFFFFFFFFFFFC0⟩,
  ⟨rSRV_SVC_CFG, 0x0, 0xFFFFC000FFFFFFFF, 0x0, 0x0, 0x0, 0x0, 0x3FFF00000000⟩,
  ⟨rSRV_SVC_SHAPE, 0x2080000000, 0xFFFFFFFFFE000000, 0x0, 0x0, 0x0, 0x0, 0x1FFFFFF⟩,
  ⟨rSRV_SVC_TOKENS, 0xFFFFFFFF00000000, 0xFFFFFFFFFFFFFFFF, 0x0, 0x0, 0x0, 0x0, 0x0⟩,
  ⟨rSRV_SVC_POOLS, 0x0, 0xFFFFFFFFFFFFFFFF, 0x0, 0x0, 0x0, 0x0, 0x0⟩,
  ⟨rSRV_SVC_TIME, 0x0, 0xFFFFFFFFFFFFFFFF, 0x0, 0x0, 0x0, 0x0, 0x0⟩,
  ⟨rSRV_SVC_STAT, 0x0, 0x0, 0x0, 0x0, 0x0, 0x0, 0x1000000000000⟩,
  ⟨rSRV_REQ_FREE, 0x0, 0x0, 0x0, 0x0, 0x0, 0x3FFF, 0xFFFFFFFFFFFFC000⟩,
  ⟨rSRV_ERR, 0x0, 0x0, 0x0, 0x1F, 0x0, 0x0, 0xFFFFFFFFFFFFFFE0⟩]

/-- Sampler capabilities (07_serving.md). -/
abbrev rSMP_CAPS : Nat := 0x0B0000
/-- Sampler enable (07_serving.md). -/
abbrev rSMP_EN : Nat := 0x0B0008
/-- Sampler forced stop (07_serving.md). -/
abbrev rSMP_FORCE : Nat := 0x0B0010
/-- Sampler status (07_serving.md). -/
abbrev rSMP_STAT : Nat := 0x0B0018
/-- Parameter set select (07_serving.md). -/
abbrev rSMP_SET_SEL : Nat := 0x0B0020
/-- Temperature and top-p (07_serving.md). -/
abbrev rSMP_SET_TEMP : Nat := 0x0B0028
/-- Repetition penalty (07_serving.md). -/
abbrev rSMP_SET_PEN : Nat := 0x0B0030
/-- Presence and frequency penalties (07_serving.md). -/
abbrev rSMP_SET_PF : Nat := 0x0B0038
/-- Min-p and top-k (07_serving.md). -/
abbrev rSMP_SET_K : Nat := 0x0B0040
/-- Sampler error status (07_serving.md). -/
abbrev rSMP_ERR : Nat := 0x0B0048

/-- Registers of the SMP block. -/
def regsSMP : List RegRow := [
  ⟨rSMP_CAPS, 0x4FF080004000400, 0x0, 0x0, 0x0, 0x0, 0x0, 0x0⟩,
  ⟨rSMP_EN, 0xF, 0xF, 0x0, 0x0, 0x0, 0x0, 0xFFFFFFFFFFFFFFF0⟩,
  ⟨rSMP_FORCE, 0x0, 0x0, 0x0, 0x0, 0xF, 0x0, 0xFFFFFFFFFFFFFFF0⟩,
  ⟨rSMP_STAT, 0x55, 0xFFFFFFFF00000000, 0x0, 0x0, 0x0, 0x0, 0xFFFFFF00⟩,
  ⟨rSMP_SET_SEL, 0x0, 0xFF, 0x0, 0x0, 0x0, 0x0, 0xFFFFFFFFFFFFFF00⟩,
  ⟨rSMP_SET_TEMP, 0x3F8000003F800000, 0xFFFFFFFFFFFFFFFF, 0x0, 0x0, 0x0, 0x0, 0x0⟩,
  ⟨rSMP_SET_PEN, 0x3F8000003F800000, 0xFFFFFFFF00000000, 0x0, 0x0, 0x0, 0x0, 0x0⟩,
  ⟨rSMP_SET_PF, 0x0, 0xFFFFFFFFFFFFFFFF, 0x0, 0x0, 0x0, 0x0, 0x0⟩,
  ⟨rSMP_SET_K, 0x80000000, 0xFFFFFFFF000007FF, 0x0, 0x0, 0x0, 0x0, 0x7FFFF800⟩,
  ⟨rSMP_ERR, 0x0, 0x0, 0x0, 0xF, 0x0, 0x0, 0xFFFFFFFFFFFFFFF0⟩]

/-- Queue capabilities (08_queues_tenants.md). -/
abbrev rQUE_CAPS : Nat := 0x0C0000
/-- Queue scanner control (08_queues_tenants.md). -/
abbrev rQUE_CTL : Nat := 0x0C0008
/-- Pair select (08_queues_tenants.md). -/
abbrev rQUE_PAIR_SEL : Nat := 0x0C0010
/-- Pair configuration (08_queues_tenants.md). -/
abbrev rQUE_PAIR_CFG : Nat := 0x0C0018
/-- Submission ring base (08_queues_tenants.md). -/
abbrev rQUE_SQ_BASE : Nat := 0x0C0020
/-- Completion ring base (08_queues_tenants.md). -/
abbrev rQUE_CQ_BASE : Nat := 0x0C0028
/-- Pair status (08_queues_tenants.md). -/
abbrev rQUE_PAIR_STAT : Nat := 0x0C0030
/-- Scanner status (08_queues_tenants.md). -/
abbrev rQUE_SCAN_STAT : Nat := 0x0C0038
/-- UCIe status (08_queues_tenants.md). -/
abbrev rQUE_UCIE : Nat := 0x0C0040
/-- Queue error status (08_queues_tenants.md). -/
abbrev rQUE_ERR : Nat := 0x0C0048

/-- Registers of the QUE block. -/
def regsQUE : List RegRow := [
  ⟨rQUE_CAPS, 0x4001080201007D0, 0x0, 0x0, 0x0, 0x0, 0x0, 0x0⟩,
  ⟨rQUE_CTL, 0x4000000000000, 0x800FFFFFFFFF0000, 0x0, 0x0, 0x4000000000000000, 0x0, 0xFF000000000FFFF⟩,
  ⟨rQUE_PAIR_SEL, 0x0, 0x3FF, 0x0, 0x0, 0x0, 0x0, 0xFFFFFFFFFFFFFC00⟩,
  ⟨rQUE_PAIR_CFG, 0x210000000000000, 0x8FFC000000000000, 0x0, 0x0, 0x4000000000000000, 0x0, 0x3FFFFFFFFFFFF⟩,
  ⟨rQUE_SQ_BASE, 0x0, 0xFFFFFFFFFFFF, 0x0, 0x0, 0x0, 0x0, 0xFFFF000000000000⟩,
  ⟨rQUE_CQ_BASE, 0x0, 0xFFFFFFFFFFFF, 0x0, 0x0, 0x0, 0x0, 0xFFFF000000000000⟩,
  ⟨rQUE_PAIR_STAT, 0x0, 0x0, 0x0, 0x0, 0x0, 0x0, 0xFFFF0000⟩,
  ⟨rQUE_SCAN_STAT, 0x0, 0x0, 0x0, 0x0, 0x0, 0x0, 0xFFE003FF00000000⟩,
  ⟨rQUE_UCIE, 0x20000000000000, 0x0, 0x0, 0x0, 0x0, 0x0, 0xFFFFFFFFFFFF⟩,
  ⟨rQUE_ERR, 0x0, 0x0, 0x0, 0x7F, 0x0, 0x0, 0xFFFFFFFFFFFFFF80⟩]

/-- Tenant capabilities (08_queues_tenants.md). -/
abbrev rTEN_CAPS : Nat := 0x0D0000
/-- Tenant select (08_queues_tenants.md). -/
abbrev rTEN_SEL : Nat := 0x0D0008
/-- Tenant control (08_queues_tenants.md). -/
abbrev rTEN_CTL : Nat := 0x0D0010
/-- Pre-emption save copy (08_queues_tenants.md). -/
abbrev rTEN_SAVE : Nat := 0x0D0018
/-- Tenant status (08_queues_tenants.md). -/
abbrev rTEN_STAT : Nat := 0x0D0020
/-- Tenant reset (08_queues_tenants.md). -/
abbrev rTEN_RESET : Nat := 0x0D0028
/-- Engine time (08_queues_tenants.md). -/
abbrev rTEN_ACC_CYC : Nat := 0x0D0030
/-- T1 bytes (08_queues_tenants.md). -/
abbrev rTEN_ACC_T1 : Nat := 0x0D0038
/-- T2 bytes (08_queues_tenants.md). -/
abbrev rTEN_ACC_T2 : Nat := 0x0D0040
/-- T3 bytes (08_queues_tenants.md). -/
abbrev rTEN_ACC_T3 : Nat := 0x0D0048
/-- Link bytes (08_queues_tenants.md). -/
abbrev rTEN_ACC_LINK : Nat := 0x0D0050
/-- Energy (08_queues_tenants.md). -/
abbrev rTEN_ACC_MJ : Nat := 0x0D0058
/-- Unattributed energy (08_queues_tenants.md). -/
abbrev rTEN_ACC_COMMON : Nat := 0x0D0060
/-- Slice set select (08_queues_tenants.md). -/
abbrev rTEN_SLICE_SEL : Nat := 0x0D0068
/-- Slice set configuration (08_queues_tenants.md). -/
abbrev rTEN_SLICE_CFG : Nat := 0x0D0070
/-- Slice set status (08_queues_tenants.md). -/
abbrev rTEN_SLICE_STAT : Nat := 0x0D0078
/-- Bay scan control (08_queues_tenants.md). -/
abbrev rTEN_SCAN_CTL : Nat := 0x0D0080
/-- Bay scan status (08_queues_tenants.md). -/
abbrev rTEN_SCAN_STAT : Nat := 0x0D0088
/-- Tenant error status (08_queues_tenants.md). -/
abbrev rTEN_ERR : Nat := 0x0D0090

/-- Registers of the TEN block. -/
def regsTEN : List RegRow := [
  ⟨rTEN_CAPS, 0x40040032000186A0, 0x0, 0x0, 0x0, 0x0, 0x0, 0x0⟩,
  ⟨rTEN_SEL, 0x0, 0x3F, 0x0, 0x0, 0x0, 0x0, 0xFFFFFFFFFFFFFFC0⟩,
  ⟨rTEN_CTL, 0xFA0000000000, 0x8FFFFFC000000000, 0x0, 0x0, 0x4000000000000000, 0x0, 0x3FFFFFFFFF⟩,
  ⟨rTEN_SAVE, 0xFFFFFFFF, 0xFFFFFFFF, 0x0, 0x0, 0x0, 0x0, 0xFFFFFFFF00000000⟩,
  ⟨rTEN_STAT, 0x0, 0x0, 0x0, 0x0, 0x0, 0x0, 0x0⟩,
  ⟨rTEN_RESET, 0x0, 0x0, 0x0, 0x0, 0xFFFFFFFFFFFFFFFF, 0x0, 0x0⟩,
  ⟨rTEN_ACC_CYC, 0x0, 0xFFFFFFFFFFFFFFFF, 0x0, 0x0, 0x0, 0x0, 0x0⟩,
  ⟨rTEN_ACC_T1, 0x0, 0xFFFFFFFFFFFFFFFF, 0x0, 0x0, 0x0, 0x0, 0x0⟩,
  ⟨rTEN_ACC_T2, 0x0, 0xFFFFFFFFFFFFFFFF, 0x0, 0x0, 0x0, 0x0, 0x0⟩,
  ⟨rTEN_ACC_T3, 0x0, 0xFFFFFFFFFFFFFFFF, 0x0, 0x0, 0x0, 0x0, 0x0⟩,
  ⟨rTEN_ACC_LINK, 0x0, 0xFFFFFFFFFFFFFFFF, 0x0, 0x0, 0x0, 0x0, 0x0⟩,
  ⟨rTEN_ACC_MJ, 0x0, 0xFFFFFFFFFFFFFFFF, 0x0, 0x0, 0x0, 0x0, 0x0⟩,
  ⟨rTEN_ACC_COMMON, 0x0, 0xFFFFFFFFFFFFFFFF, 0x0, 0x0, 0x0, 0x0, 0x0⟩,
  ⟨rTEN_SLICE_SEL, 0x0, 0x3, 0x0, 0x0, 0x0, 0x0, 0xFFFFFFFFFFFFFFFC⟩,
  ⟨rTEN_SLICE_CFG, 0x0, 0x800000000000FFFF, 0x0, 0x0, 0x0, 0x0, 0x7FFFFFFFFFFF0000⟩,
  ⟨rTEN_SLICE_STAT, 0x0, 0x0, 0x0, 0x0, 0x0, 0x0, 0xFF000000000000⟩,
  ⟨rTEN_SCAN_CTL, 0x0, 0xF, 0x0, 0x0, 0xC000000000000000, 0x0, 0x3FFFFFFFFFFFFFF0⟩,
  ⟨rTEN_SCAN_STAT, 0x0, 0x0, 0x0, 0x0, 0x0, 0x0, 0x1FFFFFF00000000⟩,
  ⟨rTEN_ERR, 0x0, 0x0, 0x0, 0x3F, 0x0, 0x0, 0xFFFFFFFFFFFFFFC0⟩]

/-- Link capabilities (09_efast_links.md). -/
abbrev rLNK_CAPS : Nat := 0x0E0000
/-- Link policy (09_efast_links.md). -/
abbrev rLNK_POLICY : Nat := 0x0E0008
/-- Port select (09_efast_links.md). -/
abbrev rLNK_SEL : Nat := 0x0E0010
/-- Port control (09_efast_links.md). -/
abbrev rLNK_PORT_CTL : Nat := 0x0E0018
/-- Port status (09_efast_links.md). -/
abbrev rLNK_PORT_STAT : Nat := 0x0E0020
/-- Far identity (09_efast_links.md). -/
abbrev rLNK_PORT_FAR_ID : Nat := 0x0E0028
/-- FEC counts (09_efast_links.md). -/
abbrev rLNK_PORT_FEC : Nat := 0x0E0030
/-- Replay counts (09_efast_links.md). -/
abbrev rLNK_PORT_REPLAY : Nat := 0x0E0038
/-- Drop counts (09_efast_links.md). -/
abbrev rLNK_PORT_DROP : Nat := 0x0E0040
/-- Notice counts (09_efast_links.md). -/
abbrev rLNK_NOTICE_CNT : Nat := 0x0E0048
/-- Link error status (09_efast_links.md). -/
abbrev rLNK_ERR : Nat := 0x0E0050
/-- First link fault (09_efast_links.md). -/
abbrev rLNK_ERR_PORT : Nat := 0x0E0058

/-- Registers of the LNK block. -/
def regsLNK : List RegRow := [
  ⟨rLNK_CAPS, 0x2008C80318000302, 0x0, 0x0, 0x0, 0x0, 0x0, 0x0⟩,
  ⟨rLNK_POLICY, 0x20000000000000, 0x80FFFFFF00000000, 0x0, 0x0, 0x0, 0x0, 0x7F000000FFFFFFFF⟩,
  ⟨rLNK_SEL, 0x0, 0x1F, 0x0, 0x0, 0x0, 0x0, 0xFFFFFFFFFFFFFFE0⟩,
  ⟨rLNK_PORT_CTL, 0x8000000000000000, 0x9000000000000000, 0x0, 0x0, 0x6000000000000000, 0x0, 0xFFFFFFFFFFFFFFF⟩,
  ⟨rLNK_PORT_STAT, 0x0, 0x0, 0x0, 0x0, 0x0, 0x0, 0x3F0000000000⟩,
  ⟨rLNK_PORT_FAR_ID, 0x0, 0x0, 0x0, 0x0, 0x0, 0x0, 0x0⟩,
  ⟨rLNK_PORT_FEC, 0x0, 0xFFFFFFFFFFFFFFFF, 0x0, 0x0, 0x0, 0x0, 0x0⟩,
  ⟨rLNK_PORT_REPLAY, 0x0, 0xFFFFFFFFFFFFFFFF, 0x0, 0x0, 0x0, 0x0, 0x0⟩,
  ⟨rLNK_PORT_DROP, 0x0, 0xFFFFFFFFFFFFFFF, 0x0, 0x0, 0x0, 0x0, 0xF000000000000000⟩,
  ⟨rLNK_NOTICE_CNT, 0x0, 0xFFFFFFFFFFFFFFFF, 0x0, 0x0, 0x0, 0x0, 0x0⟩,
  ⟨rLNK_ERR, 0x0, 0x0, 0x0, 0xFF, 0x0, 0x0, 0xFFFFFFFFFFFFFF00⟩,
  ⟨rLNK_ERR_PORT, 0x0, 0x0, 0x0, 0x0, 0x0, 0x0, 0xFFFFFFFF7FFFFE00⟩]

/-- Own coordinate and sizes (09_efast_links.md). -/
abbrev rTOP_SELF : Nat := 0x0F0000
/-- Topology control (09_efast_links.md). -/
abbrev rTOP_CTL : Nat := 0x0F0008
/-- Topology select (09_efast_links.md). -/
abbrev rTOP_SEL : Nat := 0x0F0010
/-- Port expectation (09_efast_links.md). -/
abbrev rTOP_PORT : Nat := 0x0F0018
/-- Expected far identity (09_efast_links.md). -/
abbrev rTOP_PORT_ID : Nat := 0x0F0020
/-- Cordon entry (09_efast_links.md). -/
abbrev rTOP_CORDON : Nat := 0x0F0028
/-- Live table status (09_efast_links.md). -/
abbrev rTOP_STAT : Nat := 0x0F0030
/-- Module time (09_efast_links.md). -/
abbrev rTOP_TIME : Nat := 0x0F0038
/-- Next PPS second (09_efast_links.md). -/
abbrev rTOP_TIME_SET : Nat := 0x0F0040
/-- Time status (09_efast_links.md). -/
abbrev rTOP_TIME_STAT : Nat := 0x0F0048
/-- Topology error status (09_efast_links.md). -/
abbrev rTOP_ERR : Nat := 0x0F0050

/-- Registers of the TOP block. -/
def regsTOP : List RegRow := [
  ⟨rTOP_SELF, 0x411100000000000, 0xFFFFF000FFFFFFFF, 0x0, 0x0, 0x0, 0x0, 0xFFF00000000⟩,
  ⟨rTOP_CTL, 0x0, 0x60000000FFFFFFFF, 0x0, 0x0, 0x8000000000000000, 0x0, 0x1FFFFFFF00000000⟩,
  ⟨rTOP_SEL, 0x0, 0x3F1F, 0x0, 0x0, 0x0, 0x0, 0xFFFFFFFFFFFFC0E0⟩,
  ⟨rTOP_PORT, 0x8000000000000000, 0xC00000FFFFFFFFFF, 0x0, 0x0, 0x0, 0x0, 0x3FFFFF0000000000⟩,
  ⟨rTOP_PORT_ID, 0x0, 0xFFFFFFFFFFFFFFFF, 0x0, 0x0, 0x0, 0x0, 0x0⟩,
  ⟨rTOP_CORDON, 0x0, 0x80000000FFFFFFFF, 0x0, 0x0, 0x0, 0x0, 0x7FFFFFFF00000000⟩,
  ⟨rTOP_STAT, 0x0, 0x0, 0x0, 0x0, 0x0, 0x0, 0x7FFFFFFF⟩,
  ⟨rTOP_TIME, 0x0, 0x0, 0x0, 0x0, 0x0, 0x0, 0x0⟩,
  ⟨rTOP_TIME_SET, 0x0, 0xFFFFFFFFFFFFFFFF, 0x0, 0x0, 0x0, 0x0, 0x0⟩,
  ⟨rTOP_TIME_STAT, 0x0, 0x0, 0x0, 0x0, 0x0, 0x0, 0x1FE0FFFF00000000⟩,
  ⟨rTOP_ERR, 0x0, 0x0, 0x0, 0xF, 0x0, 0x0, 0xFFFFFFFFFFFFFFF0⟩]

/-- Integrity capabilities (10_integrity_recovery.md). -/
abbrev rINT_CAPS : Nat := 0x100000
/-- Integrity control (10_integrity_recovery.md). -/
abbrev rINT_CTL : Nat := 0x100008
/-- Module fault status (10_integrity_recovery.md). -/
abbrev rINT_STAT : Nat := 0x100010
/-- Incident counts (10_integrity_recovery.md). -/
abbrev rINT_CNT : Nat := 0x100018
/-- Integrity error status (10_integrity_recovery.md). -/
abbrev rINT_ERR : Nat := 0x100020
/-- First CRC mismatch (10_integrity_recovery.md). -/
abbrev rINT_CRC : Nat := 0x100028
/-- Hold control (10_integrity_recovery.md). -/
abbrev rINT_HOLD_CTL : Nat := 0x100030
/-- Hold time (10_integrity_recovery.md). -/
abbrev rINT_HOLD_AT : Nat := 0x100038
/-- Held tenants (10_integrity_recovery.md). -/
abbrev rINT_HOLD_TEN : Nat := 0x100040
/-- Condition check control (10_integrity_recovery.md). -/
abbrev rINT_CHK_CTL : Nat := 0x100048
/-- Condition check results (10_integrity_recovery.md). -/
abbrev rINT_CHK_STAT : Nat := 0x100050
/-- First check failure (10_integrity_recovery.md). -/
abbrev rINT_CHK_FAIL : Nat := 0x100058

/-- Registers of the INT block. -/
def regsINT : List RegRow := [
  ⟨rINT_CAPS, 0x1388FFFF00000000, 0x0, 0x0, 0x0, 0x0, 0x0, 0xFFFFFFFF⟩,
  ⟨rINT_CTL, 0x1, 0x1, 0x0, 0x0, 0x0, 0x0, 0xFFFFFFFFFFFFFFFE⟩,
  ⟨rINT_STAT, 0x0, 0x0, 0x0, 0x0, 0x0, 0x0, 0x7F00FFFF0000FFF8⟩,
  ⟨rINT_CNT, 0x0, 0xFFFFFFFFFFFFFFFF, 0x0, 0x0, 0x0, 0x0, 0x0⟩,
  ⟨rINT_ERR, 0x0, 0x0, 0x0, 0x7F, 0x0, 0x0, 0xFFFFFFFFFFFFFF80⟩,
  ⟨rINT_CRC, 0x0, 0x0, 0x0, 0x0, 0x0, 0x0, 0x7FFFFC000000000⟩,
  ⟨rINT_HOLD_CTL, 0x0, 0x8000000000000000, 0x0, 0x0, 0x0, 0x0, 0x3FFFFFFFFFFFFFFF⟩,
  ⟨rINT_HOLD_AT, 0x0, 0xFFFFFFFFFFFFFFFF, 0x0, 0x0, 0x0, 0x0, 0x0⟩,
  ⟨rINT_HOLD_TEN, 0x0, 0xFFFFFFFFFFFFFFFF, 0x0, 0x0, 0x0, 0x0, 0x0⟩,
  ⟨rINT_CHK_CTL, 0x3E8000000000000, 0xFFFF000000000000, 0x0, 0x0, 0xFFFF, 0x0, 0xFFFFFFFF0000⟩,
  ⟨rINT_CHK_STAT, 0x0, 0x0, 0x0, 0x0, 0x0, 0x0, 0x0⟩,
  ⟨rINT_CHK_FAIL, 0x0, 0x0, 0x0, 0x0, 0x0, 0x0, 0xFFFFFFFF7000007F⟩]

/-- Power capabilities (11_power_thermal.md). -/
abbrev rPWR_CAPS : Nat := 0x120000
/-- Power cap (11_power_thermal.md). -/
abbrev rPWR_CAP : Nat := 0x120008
/-- Brake (11_power_thermal.md). -/
abbrev rPWR_BRAKE : Nat := 0x120010
/-- Guarantee clock (11_power_thermal.md). -/
abbrev rPWR_GUAR : Nat := 0x120018
/-- Input measurement (11_power_thermal.md). -/
abbrev rPWR_IN : Nat := 0x120020
/-- Power peaks (11_power_thermal.md). -/
abbrev rPWR_PEAK : Nat := 0x120028
/-- Input energy (11_power_thermal.md). -/
abbrev rPWR_ENERGY : Nat := 0x120030
/-- Power model select (11_power_thermal.md). -/
abbrev rPWR_MODEL_SEL : Nat := 0x120038
/-- Power model (11_power_thermal.md). -/
abbrev rPWR_MODEL : Nat := 0x120040
/-- Temperatures (11_power_thermal.md). -/
abbrev rPWR_THERM : Nat := 0x120048
/-- Night watch (11_power_thermal.md). -/
abbrev rPWR_NW : Nat := 0x120050
/-- Power error status (11_power_thermal.md). -/
abbrev rPWR_ERR : Nat := 0x120058

/-- Registers of the PWR block. -/
def regsPWR : List RegRow := [
  ⟨rPWR_CAPS, 0xED81068C878F028, 0x0, 0x0, 0x0, 0x0, 0x0, 0x0⟩,
  ⟨rPWR_CAP, 0xED80ED800000024, 0xFFFF000000000000, 0x0, 0x0, 0x0, 0x0, 0xFFFFFFC0⟩,
  ⟨rPWR_BRAKE, 0x708000000000000, 0xFFFF000000000000, 0x0, 0x0, 0x0, 0x0, 0x3FC007000000⟩,
  ⟨rPWR_GUAR, 0x1818, 0x3F, 0x0, 0x0, 0x0, 0x0, 0xFFFFFFF0000C0C0⟩,
  ⟨rPWR_IN, 0x0, 0x0, 0x0, 0x0, 0x0, 0x0, 0xFFFF⟩,
  ⟨rPWR_PEAK, 0x0, 0xFFFFFFFF00000000, 0x0, 0x0, 0x0, 0x0, 0xFFFFFFFF⟩,
  ⟨rPWR_ENERGY, 0x0, 0xFFFFFFFFFFFFFFFF, 0x0, 0x0, 0x0, 0x0, 0x0⟩,
  ⟨rPWR_MODEL_SEL, 0x0, 0x3F, 0x0, 0x0, 0x0, 0x0, 0xFFFFFFFFFFFFFFC0⟩,
  ⟨rPWR_MODEL, 0x0, 0x0, 0x0, 0x0, 0x0, 0x0, 0xFFFF0000⟩,
  ⟨rPWR_THERM, 0x5F73000000000000, 0xFF00000000, 0x0, 0x0, 0x0, 0x0, 0xFFE⟩,
  ⟨rPWR_NW, 0x0, 0xFFFF, 0x0, 0x0, 0xC000000000000000, 0x0, 0xFFFFFFFFFFF0000⟩,
  ⟨rPWR_ERR, 0x0, 0x0, 0x0, 0x3F, 0x0, 0x0, 0xFFFFFFFFFFFFFFC0⟩]

/-- Start status (12_boot_update.md). -/
abbrev rBOOT_STAT : Nat := 0x130000
/-- Boot lock (12_boot_update.md). -/
abbrev rBOOT_LOCK : Nat := 0x130008
/-- Soft reset (12_boot_update.md). -/
abbrev rBOOT_RESET : Nat := 0x130010
/-- Running firmware (12_boot_update.md). -/
abbrev rBOOT_FW : Nat := 0x130018
/-- Flash device (12_boot_update.md). -/
abbrev rBOOT_FLASH : Nat := 0x130020
/-- Start error status (12_boot_update.md). -/
abbrev rBOOT_ERR : Nat := 0x130028

/-- Registers of the BOOT block. -/
def regsBOOT : List RegRow := [
  ⟨rBOOT_STAT, 0x0, 0x0, 0x0, 0x0, 0x0, 0x0, 0xFFF00000000⟩,
  ⟨rBOOT_LOCK, 0x0, 0x0, 0x0, 0x0, 0x1, 0x0, 0xFFFFFFFFFFFFFFFE⟩,
  ⟨rBOOT_RESET, 0x0, 0x0, 0x0, 0x0, 0x0, 0xFF00000000000001, 0xFFFFFFFFFFFFFE⟩,
  ⟨rBOOT_FW, 0x0, 0x0, 0x0, 0x0, 0x0, 0x0, 0x0⟩,
  ⟨rBOOT_FLASH, 0x1B00000000, 0x0, 0x0, 0x0, 0x0, 0x0, 0x0⟩,
  ⟨rBOOT_ERR, 0x0, 0x0, 0x0, 0x1F, 0x0, 0x0, 0xFFFFFFFFFFFFFFE0⟩]

/-- Update session status (12_boot_update.md). -/
abbrev rUPD_STAT : Nat := 0x140000
/-- Update control (12_boot_update.md). -/
abbrev rUPD_CTL : Nat := 0x140008
/-- Slot A (12_boot_update.md). -/
abbrev rUPD_SLOT_A : Nat := 0x140010
/-- Slot B (12_boot_update.md). -/
abbrev rUPD_SLOT_B : Nat := 0x140018
/-- Minimum security version (12_boot_update.md). -/
abbrev rUPD_MIN_SVN : Nat := 0x140020
/-- Activation record (12_boot_update.md). -/
abbrev rUPD_PAUSE : Nat := 0x140028
/-- Update error status (12_boot_update.md). -/
abbrev rUPD_ERR : Nat := 0x140030

/-- Registers of the UPD block. -/
def regsUPD : List RegRow := [
  ⟨rUPD_STAT, 0x0, 0x0, 0x0, 0x0, 0x0, 0x0, 0x1F00FFFFFFFF⟩,
  ⟨rUPD_CTL, 0x0, 0x0, 0x0, 0x0, 0xC000000000000000, 0x0, 0x3FFFFFFFFFFFFFFF⟩,
  ⟨rUPD_SLOT_A, 0x0, 0x0, 0x0, 0x0, 0x0, 0x0, 0xFFF000000000000⟩,
  ⟨rUPD_SLOT_B, 0x0, 0x0, 0x0, 0x0, 0x0, 0x0, 0xFFF000000000000⟩,
  ⟨rUPD_MIN_SVN, 0x0, 0x0, 0x0, 0x0, 0x0, 0x0, 0xFFFFFFFFFFFF0000⟩,
  ⟨rUPD_PAUSE, 0x0, 0x0, 0x0, 0x0, 0x0, 0x0, 0x0⟩,
  ⟨rUPD_ERR, 0x0, 0x0, 0x0, 0x3F, 0x0, 0x0, 0xFFFFFFFFFFFFFFC0⟩]

/-- Security capabilities (13_security.md). -/
abbrev rSEC_CAPS : Nat := 0x150000
/-- Module identity (13_security.md). -/
abbrev rSEC_ID : Nat := 0x150008
/-- Index state (13_security.md). -/
abbrev rSEC_IDX : Nat := 0x150010
/-- Attestation control (13_security.md). -/
abbrev rSEC_ATT_CTL : Nat := 0x150018
/-- Attestation buffer (13_security.md). -/
abbrev rSEC_ATT_ADDR : Nat := 0x150020
/-- Key slot select (13_security.md). -/
abbrev rSEC_KEY_SEL : Nat := 0x150028
/-- Key hash word (13_security.md). -/
abbrev rSEC_KEY_WORD : Nat := 0x150030
/-- Key slot control (13_security.md). -/
abbrev rSEC_KEY_CTL : Nat := 0x150038
/-- Key slot tenants (13_security.md). -/
abbrev rSEC_KEY_TEN : Nat := 0x150040
/-- Signature requirement (13_security.md). -/
abbrev rSEC_EXH_REQ : Nat := 0x150048
/-- Window select (13_security.md). -/
abbrev rSEC_WIN_SEL : Nat := 0x150050
/-- Tenant window (13_security.md). -/
abbrev rSEC_WIN : Nat := 0x150058
/-- Credential control (13_security.md). -/
abbrev rSEC_CRED_CTL : Nat := 0x150060
/-- Credential key (13_security.md). -/
abbrev rSEC_CRED_KEY : Nat := 0x150068
/-- Security error status (13_security.md). -/
abbrev rSEC_ERR : Nat := 0x150070

/-- Registers of the SEC block. -/
def regsSEC : List RegRow := [
  ⟨rSEC_CAPS, 0x8020F0A04040000, 0x0, 0x0, 0x0, 0x0, 0x0, 0xFF⟩,
  ⟨rSEC_ID, 0x0, 0x0, 0x0, 0x0, 0x0, 0x0, 0x0⟩,
  ⟨rSEC_IDX, 0x0, 0x0, 0x0, 0x0, 0x0, 0x0, 0xFFE000FF0000⟩,
  ⟨rSEC_ATT_CTL, 0x0, 0x4000000000000000, 0x0, 0x0, 0x8000000000000000, 0x0, 0xFFFFFFFFF0000⟩,
  ⟨rSEC_ATT_ADDR, 0x0, 0xFFFFFFFFFFFF, 0x0, 0x0, 0x0, 0x0, 0xFFFF000000000000⟩,
  ⟨rSEC_KEY_SEL, 0x0, 0x703, 0x0, 0x0, 0x0, 0x0, 0xFFFFFFFFFFFFF8FC⟩,
  ⟨rSEC_KEY_WORD, 0x0, 0x0, 0xFFFFFFFFFFFFFFFF, 0x0, 0x0, 0x0, 0x0⟩,
  ⟨rSEC_KEY_CTL, 0x0, 0x0, 0x80000000FFFFFFFF, 0x0, 0x0, 0x0, 0x7FFFFFFF00000000⟩,
  ⟨rSEC_KEY_TEN, 0x0, 0x0, 0xFFFFFFFFFFFFFFFF, 0x0, 0x0, 0x0, 0x0⟩,
  ⟨rSEC_EXH_REQ, 0x0, 0x0, 0xFFFFFFFFFFFFFFFF, 0x0, 0x0, 0x0, 0x0⟩,
  ⟨rSEC_WIN_SEL, 0x0, 0x3F, 0x0, 0x0, 0x0, 0x0, 0xFFFFFFFFFFFFFFC0⟩,
  ⟨rSEC_WIN, 0x0, 0x800FFFFF000FFFFF, 0x0, 0x0, 0x0, 0x0, 0x7FF00000FFF00000⟩,
  ⟨rSEC_CRED_CTL, 0x0, 0xF8000000FFFFFFFF, 0x0, 0x0, 0x0, 0x0, 0x7FF000000000000⟩,
  ⟨rSEC_CRED_KEY, 0x0, 0x0, 0x0, 0x0, 0x0, 0xFFFFFFFFFFFFFFFF, 0x0⟩,
  ⟨rSEC_ERR, 0x0, 0x0, 0x0, 0xFF, 0x0, 0x0, 0xFFFFFFFFFFFFFF00⟩]

/-- Log control (14_management.md). -/
abbrev rLOG_CTL : Nat := 0x110000
/-- Log status (14_management.md). -/
abbrev rLOG_STAT : Nat := 0x110008
/-- Log head (14_management.md). -/
abbrev rLOG_HEAD : Nat := 0x110010
/-- Entry select (14_management.md). -/
abbrev rLOG_RD_SEL : Nat := 0x110018
/-- Entry data (14_management.md). -/
abbrev rLOG_RD : Nat := 0x110020

/-- Registers of the LOG block. -/
def regsLOG : List RegRow := [
  ⟨rLOG_CTL, 0xE00000000000000, 0xCF00000000000000, 0x0, 0x0, 0x0, 0x0, 0x30FFFFFFFFFFFFFF⟩,
  ⟨rLOG_STAT, 0x0, 0x0, 0x0, 0x40000000, 0x0, 0x0, 0x3FFF0000⟩,
  ⟨rLOG_HEAD, 0x0, 0xFFFFFFFF, 0x0, 0x0, 0x0, 0x0, 0xFFFFFFFF00000000⟩,
  ⟨rLOG_RD_SEL, 0x0, 0x3FFFFFFFF, 0x0, 0x0, 0x0, 0x0, 0x7FFFFFFC00000000⟩,
  ⟨rLOG_RD, 0x0, 0x0, 0x0, 0x0, 0x0, 0x0, 0x0⟩]

/-- Census capabilities (14_management.md). -/
abbrev rMON_CAPS : Nat := 0x160000
/-- Unit select (14_management.md). -/
abbrev rMON_SEL : Nat := 0x160008
/-- Unit source (14_management.md). -/
abbrev rMON_CFG : Nat := 0x160010
/-- Unit control (14_management.md). -/
abbrev rMON_CTL : Nat := 0x160018
/-- Bin edge (14_management.md). -/
abbrev rMON_EDGE : Nat := 0x160020
/-- Minimum and maximum (14_management.md). -/
abbrev rMON_RANGE : Nat := 0x160028
/-- Sample count (14_management.md). -/
abbrev rMON_COUNT : Nat := 0x160030
/-- Sample sum (14_management.md). -/
abbrev rMON_SUM : Nat := 0x160038
/-- Bin count (14_management.md). -/
abbrev rMON_BIN : Nat := 0x160040
/-- Sideband state (14_management.md). -/
abbrev rMON_MGMT : Nat := 0x160048
/-- Management view (14_management.md). -/
abbrev rMON_VIEW : Nat := 0x160050
/-- Management error status (14_management.md). -/
abbrev rMON_ERR : Nat := 0x160058

/-- Registers of the MON block. -/
def regsMON : List RegRow := [
  ⟨rMON_CAPS, 0x4020100C00000000, 0x0, 0x0, 0x0, 0x0, 0x0, 0xFFFFFFFF⟩,
  ⟨rMON_SEL, 0x0, 0x1F003F, 0x0, 0x0, 0x0, 0x0, 0xFFFFFFFFFFE0FFC0⟩,
  ⟨rMON_CFG, 0x10000, 0xFFFFFFC0FFFF0000, 0x0, 0x0, 0x0, 0x0, 0x3F0000FFFF⟩,
  ⟨rMON_CTL, 0x0, 0x8000000000000000, 0x0, 0x0, 0x6000000000000000, 0x0, 0xFFFFFFF00000000⟩,
  ⟨rMON_EDGE, 0xFFFFFFFF, 0xFFFFFFFF, 0x0, 0x0, 0x0, 0x0, 0xFFFFFFFF00000000⟩,
  ⟨rMON_RANGE, 0xFFFFFFFF, 0x0, 0x0, 0x0, 0x0, 0x0, 0x0⟩,
  ⟨rMON_COUNT, 0x0, 0x0, 0x0, 0x0, 0x0, 0x0, 0x0⟩,
  ⟨rMON_SUM, 0x0, 0x0, 0x0, 0x0, 0x0, 0x0, 0x0⟩,
  ⟨rMON_BIN, 0x0, 0x0, 0x0, 0x0, 0x0, 0x0, 0xFFFFFFFF00000000⟩,
  ⟨rMON_MGMT, 0x0, 0x0, 0x8000000000000000, 0x0, 0x0, 0x0, 0x3F0080FF00000000⟩,
  ⟨rMON_VIEW, 0x0, 0x0, 0x0, 0x0, 0x0, 0x0, 0xFFFF0000⟩,
  ⟨rMON_ERR, 0x0, 0x0, 0x0, 0xF, 0x0, 0x0, 0xFFFFFFFFFFFFFFF0⟩]

/-- The blocks of Table 15.2, by block number (offset ÷ 0x1_0000). -/
def regBlock (b : Nat) : List RegRow :=
  match b with
  | 0x00 => regsGLB
  | 0x01 => regsFAB
  | 0x02 => regsEXH
  | 0x03 => regsACL
  | 0x04 => regsSCL
  | 0x05 => regsT1C
  | 0x06 => regsT2C
  | 0x07 => regsT3C
  | 0x08 => regsDOC
  | 0x09 => regsARB
  | 0x0A => regsSRV
  | 0x0B => regsSMP
  | 0x0C => regsQUE
  | 0x0D => regsTEN
  | 0x0E => regsLNK
  | 0x0F => regsTOP
  | 0x10 => regsINT
  | 0x11 => regsLOG
  | 0x12 => regsPWR
  | 0x13 => regsBOOT
  | 0x14 => regsUPD
  | 0x15 => regsSEC
  | 0x16 => regsMON
  | _ => []

/-- The register at an offset, if there is one (R487). -/
def regRow (off : Nat) : Option RegRow := (regBlock (off / 0x10000)).find? (fun r => r.off = off)

/-- What a register key (index × 2^24 + offset) holds when nothing has written it: its reset value. -/
def regReset (key : Nat) : Word :=
  match regRow (key % 0x1000000) with
  | some r => BitVec.ofNat 64 r.reset
  | none => 0

/-- The key of entry `idx` of the register at `off` (one entry for each unit behind a select register). -/
def regKey (off idx : Nat) : Nat := idx * 0x1000000 + off

/-- The bits of a register that are not reserved (R13). -/
def regMask (off : Nat) : Nat :=
  match regRow off with
  | some r => 0xFFFFFFFFFFFFFFFF - r.resv
  | none => 0

end Sys2Proof.Machine
end

