-- ==== Sys2Proof/Machine/Fp.lean ====
section
/-!
DEFINITION. Number formats and exact arithmetic (chapter 02): the encodings of Tables 2.2 and 2.3, packing (R64),
the four rounding modes (R80), IEEE 754 binary32 operations (R86), the 16-bit tree (R76 to R79), anchored
accumulation (R66 to R75), and conversion (R83 to R85, R512).
-/

namespace Sys2Proof.Machine

/-- A value as the arithmetic sees it: NaN, a signed infinity, or (-1)^neg × m × 2^e exactly. -/
inductive Num where
  | nan
  | inf (neg : Bool)
  | fin (neg : Bool) (m : Nat) (e : Int)
  deriving DecidableEq, Repr

/-- Format codes of Table 2.2 (R59). -/
def fFP32 : Nat := 0x0
def fBF16 : Nat := 0x1
def fFP16 : Nat := 0x2
def fINT8 : Nat := 0x3
def fINT4 : Nat := 0x4
def fE4M3 : Nat := 0x5
def fE5M2 : Nat := 0x6
def fE3M2 : Nat := 0x7
def fE2M3 : Nat := 0x8
def fE2M1 : Nat := 0x9
def fMXINT8 : Nat := 0xA
def fINT32 : Nat := 0xB
def fPARTIAL : Nat := 0xC

/-- MX element formats (R59). -/
def fmtIsMx (f : Nat) : Bool := decide (fE4M3 ≤ f) && decide (f ≤ fMXINT8)

/-- The 16-bit MAC formats. -/
def fmtIs16 (f : Nat) : Bool := decide (f = fBF16) || decide (f = fFP16)

/-- The integer MAC formats. -/
def fmtIsInt (f : Nat) : Bool := decide (f = fINT8) || decide (f = fINT4)

/-- Element bits of a format (Table 2.2); PARTIAL is 144 bits in all (R75). -/
def fmtBits (f : Nat) : Nat :=
  if f = fFP32 ∨ f = fINT32 then 32 else if f = fBF16 ∨ f = fFP16 then 16
  else if f = fE3M2 ∨ f = fE2M3 then 6 else if f = fE2M1 ∨ f = fINT4 then 4
  else if f = fPARTIAL then 144 else 8

/-- Elements in one token (Table 2.4, R64). -/
def fmtPer (f : Nat) : Nat :=
  if f = fFP32 ∨ f = fINT32 then 16 else if f = fBF16 ∨ f = fFP16 then 32
  else if f = fE2M1 ∨ f = fINT4 then 128 else if f = fPARTIAL then 3 else 64

/-- Element `i` of a token payload (Tables 2.4 and R75: for PARTIAL, the 128-bit acc with its metadata above it). -/
def fmtElem (f : Nat) (payload i : Nat) : Nat :=
  if f = fPARTIAL then
    bits (128 * i + 127) (128 * i) payload + 2 ^ 128 * bits (384 + 16 * i + 15) (384 + 16 * i) payload
  else bits (fmtBits f * i + fmtBits f - 1) (fmtBits f * i) payload

/-- Every element of a token payload. -/
def fmtUnpack (f : Nat) (payload : Nat) : List Nat := (List.range (fmtPer f)).map (fmtElem f payload)

/-- The payload of one token from its elements (Table 2.4); places without an element are zero. -/
def fmtPack (f : Nat) (xs : List Nat) : Nat :=
  ((List.range (fmtPer f)).zip xs).foldl (fun p (i, x) =>
    if f = fPARTIAL then
      p + (x % 2 ^ 128) * 2 ^ (128 * i) + (x / 2 ^ 128 % 2 ^ 16) * 2 ^ (384 + 16 * i)
    else p + (x % 2 ^ fmtBits f) * 2 ^ (fmtBits f * i)) 0

/-- Exponent bits, fraction bits and bias of a floating-point format; `none` for the integer formats. -/
def fmtFloat (f : Nat) : Option (Nat × Nat × Nat) :=
  if f = fFP32 then some (8, 23, 127) else if f = fBF16 then some (8, 7, 127)
  else if f = fFP16 then some (5, 10, 15) else if f = fE4M3 then some (4, 3, 7)
  else if f = fE5M2 then some (5, 2, 15) else if f = fE3M2 then some (3, 2, 3)
  else if f = fE2M3 then some (2, 3, 1) else if f = fE2M1 then some (2, 1, 1) else none

/-- The value of a code of format `f` (Table 2.3, R60; IEEE 754 for FP32, BF16, FP16). -/
def fmtDecode (f code : Nat) : Num :=
  match fmtFloat f with
  | some (eb, mb, bias) =>
    let neg := code.testBit (eb + mb)
    let ex := bits (eb + mb - 1) mb code
    let fr := code % 2 ^ mb
    let top := 2 ^ eb - 1
    if (f = fFP32 ∨ f = fBF16 ∨ f = fFP16 ∨ f = fE5M2) ∧ ex = top then
      if fr = 0 then .inf neg else .nan
    else if f = fE4M3 ∧ ex = top ∧ fr = 7 then .nan
    else if ex = 0 then .fin neg fr (1 - (bias : Int) - mb)
    else .fin neg (2 ^ mb + fr) ((ex : Int) - bias - mb)
  | none =>
    let w := fmtBits f
    let n := signed w code
    let e : Int := if f = fMXINT8 then -6 else 0
    .fin (decide (n < 0)) n.natAbs e

/-- Q of Table 2.3: every finite element is below 2^Q in magnitude. -/
def fmtQ (f : Nat) : Int :=
  if f = fE4M3 then 9 else if f = fE5M2 then 16 else if f = fE3M2 then 5
  else if f = fE2M3 then 3 else if f = fE2M1 then 3 else 2

/-- `m ÷ 2^s` rounded to an integer in a mode of R80 (0 RNE, 1 toward zero, 2 up, 3 down) for the sign given. -/
def roundShift (mode : Nat) (neg : Bool) (m s : Nat) : Nat :=
  let q := m >>> s
  let r := m - (q <<< s)
  if r = 0 then q
  else if mode = 0 then
    if 2 * r > 2 ^ s then q + 1 else if 2 * r < 2 ^ s then q else if q % 2 = 1 then q + 1 else q
  else if mode = 1 then q
  else if mode = 2 then (if neg then q else q + 1)
  else (if neg then q + 1 else q)

/-- `m × 2^e` in units of `2^q`, rounded. -/
def roundTo (mode : Nat) (neg : Bool) (m : Nat) (e q : Int) : Nat :=
  if q ≤ e then m <<< (e - q).toNat else roundShift mode neg m (q - e).toNat

/-- ⌊log2⌋ of `m × 2^e`, for `m` above 0. -/
def exponentOf (m : Nat) (e : Int) : Int := e + (Nat.log2 m : Int)

/-- The canonical NaN of a format (R82); formats without one give 0. -/
def canonNan (f : Nat) : Nat :=
  if f = fFP32 then 0x7FC00000 else if f = fBF16 then 0x7FC0 else if f = fFP16 then 0x7E00
  else if f = fE4M3 then 0x7F else if f = fE5M2 then 0x7E else 0

/-- The code of an infinity. -/
def infCode (f : Nat) (neg : Bool) : Nat :=
  match fmtFloat f with
  | some (eb, mb, _) => b2n neg * 2 ^ (eb + mb) + (2 ^ eb - 1) * 2 ^ mb
  | none => 0

/-- The largest finite code of FP32, BF16 or FP16. -/
def maxCode (f : Nat) (neg : Bool) : Nat := infCode f neg - 1

/-- Round an exact finite value to FP32, BF16 or FP16 (R80, R81). -/
def fpEncodeFin (f mode : Nat) (neg : Bool) (m : Nat) (e : Int) : Nat :=
  match fmtFloat f with
  | none => 0
  | some (eb, mb, bias) =>
    let sgn := b2n neg * 2 ^ (eb + mb)
    if m = 0 then sgn
    else
      let emin : Int := 1 - (bias : Int)
      let q : Int := max (emin - mb) (exponentOf m e - mb)
      let k := roundTo mode neg m e q
      let (k, q) := if k = 2 ^ (mb + 1) then (2 ^ mb, q + 1) else (k, q)
      if k < 2 ^ mb then sgn + k
      else
        let ex := q + mb + bias
        if ex ≥ (2 ^ eb - 1 : Nat) then
          if mode = 0 then infCode f neg
          else if mode = 1 then maxCode f neg
          else if mode = 2 then (if neg then maxCode f neg else infCode f neg)
          else (if neg then infCode f neg else maxCode f neg)
        else sgn + ex.toNat * 2 ^ mb + (k - 2 ^ mb)

/-- A value to FP32, BF16 or FP16. -/
def fpEncode (f mode : Nat) : Num → Nat
  | .nan => canonNan f
  | .inf neg => infCode f neg
  | .fin neg m e => fpEncodeFin f mode neg m e

/-- A finite FP32, BF16 or FP16 code whose exponent field is zero and fraction is not (a subnormal) becomes a zero of
the same sign when FTZ16 applies (R79). -/
def flush (f : Nat) (ftz : Bool) (code : Nat) : Nat :=
  match fmtFloat f with
  | some (eb, mb, _) =>
    if ftz && decide (bits (eb + mb - 1) mb code = 0) then
      (if code.testBit (eb + mb) then 2 ^ (eb + mb) else 0)
    else code
  | none => code

/-- Negation of a value. -/
def Num.neg : Num → Num
  | .nan => .nan
  | .inf s => .inf (!s)
  | .fin s m e => .fin (!s) m e

/-- The exact product. -/
def numMul : Num → Num → Num
  | .nan, _ => .nan
  | _, .nan => .nan
  | .inf a, .inf b => .inf (a != b)
  | .inf a, .fin b m _ => if m = 0 then .nan else .inf (a != b)
  | .fin a m _, .inf b => if m = 0 then .nan else .inf (a != b)
  | .fin a m e, .fin b n d => .fin (a != b) (m * n) (e + d)

/-- A signed integer of units `2^q`, for `q` not above `e`. -/
def toUnits (neg : Bool) (m : Nat) (e q : Int) : Int :=
  let k : Int := (m <<< (e - q).toNat : Nat)
  if neg then -k else k

/-- The exact sum; an exact zero sum of unlike signs is +0 (round to nearest, IEEE 754). -/
def numAdd : Num → Num → Num
  | .nan, _ => .nan
  | _, .nan => .nan
  | .inf a, .inf b => if a = b then .inf a else .nan
  | .inf a, .fin _ _ _ => .inf a
  | .fin _ _ _, .inf b => .inf b
  | .fin a m e, .fin b n d =>
    let q := min e d
    let s := toUnits a m e q + toUnits b n d q
    if s = 0 then .fin (a && b) 0 q else .fin (decide (s < 0)) s.natAbs q

/-- FP32 code to value. -/
def f32 (c : Nat) : Num := fmtDecode fFP32 (c % 2 ^ 32)

/-- Value to FP32, round to nearest, ties to even. -/
def toF32 (x : Num) : Nat := fpEncode fFP32 0 x

/-- FP32 addition (R86). -/
def f32Add (x y : Nat) : Nat := toF32 (numAdd (f32 x) (f32 y))

/-- FP32 subtraction. -/
def f32Sub (x y : Nat) : Nat := toF32 (numAdd (f32 x) (f32 y).neg)

/-- FP32 multiplication. -/
def f32Mul (x y : Nat) : Nat := toF32 (numMul (f32 x) (f32 y))

/-- FP32 fused multiply-add, rounded once. -/
def f32Fma (x y z : Nat) : Nat := toF32 (numAdd (numMul (f32 x) (f32 y)) (f32 z))

/-- Is the FP32 code a NaN? -/
def f32IsNan (x : Nat) : Bool := decide (f32 x = .nan)

/-- Strict order on values that are not NaN; −0 is not below +0. -/
def numLt : Num → Num → Bool
  | .nan, _ => false
  | _, .nan => false
  | .inf a, .inf b => a && !b
  | .inf a, .fin _ _ _ => a
  | .fin _ _ _, .inf b => !b
  | .fin a m e, .fin b n d =>
    let q := min e d
    decide (toUnits a m e q < toUnits b n d q)

/-- FP32 less-than (R510). -/
def f32Lt (x y : Nat) : Bool := numLt (f32 x) (f32 y)

/-- FP32 minimum (R86): NaN if either is NaN; min(+0, −0) = −0. -/
def f32Min (x y : Nat) : Nat :=
  if f32IsNan x || f32IsNan y then canonNan fFP32
  else if f32Lt x y then x % 2 ^ 32 else if f32Lt y x then y % 2 ^ 32
  else if x.testBit 31 then x % 2 ^ 32 else y % 2 ^ 32

/-- FP32 maximum (R86): max(+0, −0) = +0. -/
def f32Max (x y : Nat) : Nat :=
  if f32IsNan x || f32IsNan y then canonNan fFP32
  else if f32Lt x y then y % 2 ^ 32 else if f32Lt y x then x % 2 ^ 32
  else if x.testBit 31 then y % 2 ^ 32 else x % 2 ^ 32

/-- FP32 absolute value; a NaN becomes the canonical NaN (R82). -/
def f32Abs (x : Nat) : Nat := if f32IsNan x then canonNan fFP32 else x % 2 ^ 31

/-- FP32 negation; a NaN becomes the canonical NaN. -/
def f32Neg (x : Nat) : Nat :=
  if f32IsNan x then canonNan fFP32 else if x.testBit 31 then x % 2 ^ 31 else x % 2 ^ 31 + 2 ^ 31

/-- An FP32 value converted toward zero to an integer; `none` for NaN and infinities. -/
def f32Trunc (x : Nat) : Option Int :=
  match f32 x with
  | .fin s m e =>
    let k : Nat := if 0 ≤ e then m <<< e.toNat else m >>> (-e).toNat
    some (if s then -(k : Int) else k)
  | _ => none

/-! ### The 16-bit path (R76 to R79) -/

/-- One BF16 or FP16 product, formed exactly and rounded once to FP32 (R76, R79). -/
def prod16 (f : Nat) (ftz : Bool) (a b : Nat) : Nat :=
  flush fFP32 ftz (toF32 (numMul (fmtDecode f (flush f ftz a)) (fmtDecode f (flush f ftz b))))

/-- FP32 addition of the 16-bit path (R77, R79). -/
def add16 (ftz : Bool) (x y : Nat) : Nat := flush fFP32 ftz (f32Add x y)

/-- The fixed tree over eight products (R77). -/
def tree8 (ftz : Bool) (p : List Nat) : Nat :=
  let g := lget 0 p
  add16 ftz (add16 ftz (add16 ftz (g 0) (g 1)) (add16 ftz (g 2) (g 3)))
    (add16 ftz (add16 ftz (g 4) (g 5)) (add16 ftz (g 6) (g 7)))

/-- The run over the groups of eight of one K-tile, in increasing K order (R78). -/
def run16 (f : Nat) (ftz : Bool) : Nat → Nat → List Nat → List Nat → Nat
  | 0, run, _, _ => run
  | n + 1, run, as, bs =>
    let p := ((as.take 8).zip (bs.take 8)).map (fun (a, b) => prod16 f ftz a b)
    run16 f ftz n (add16 ftz run (tree8 ftz p)) (as.drop 8) (bs.drop 8)

/-! ### Anchored exact accumulation (R66 to R75) -/

/-- An accumulator entry: 128-bit acc, 11-bit anchor, three flags (R56, R67). -/
structure Acc where
  acc : Int := 0
  anchor : Int := -254
  nan : Bool := false
  pinf : Bool := false
  ninf : Bool := false
  deriving DecidableEq, Repr

/-- An integer of units rounded to nearest even after division by 2^s. -/
def rneDiv (x : Int) (s : Nat) : Int :=
  let k : Int := (roundShift 0 (decide (x < 0)) x.natAbs s : Nat)
  if x < 0 then -k else k

/-- The largest scale-product exponent of the blocks that are not NaN, or −254 (R66 step 3). -/
def sMax (xa xb : List Nat) : Int :=
  (xa.zip xb).foldl (fun m (a, b) => if a = 255 ∨ b = 255 then m else max m ((a : Int) + b - 254)) (-254)

/-- The anchor of one output element (R66). -/
def anchorOf (fa fb : Nat) (xa xb : List Nat) : Int := sMax xa xb + fmtQ fa + fmtQ fb

/-- A block of the tile has a NaN scale on either operand (R66 step 2). -/
def nanBlock (xa xb : List Nat) : Bool := (xa.zip xb).any (fun (a, b) => decide (a = 255) || decide (b = 255))

/-- Realignment at the start of a K-tile (R71). -/
def accRealign (a : Acc) (anchor : Int) : Acc :=
  if anchor ≤ a.anchor then a
  else { a with acc := rneDiv a.acc (anchor - a.anchor).toNat, anchor := anchor }

/-- Add one product (R68, R69, R72). -/
def accAdd (a : Acc) (x y : Num) (s : Int) : Acc :=
  match x, y with
  | .nan, _ => { a with nan := true }
  | _, .nan => { a with nan := true }
  | .fin n m e, .fin k l d =>
    let neg := n != k
    let q := roundTo 0 neg (m * l) (e + d + s) (a.anchor - 112)
    { a with acc := a.acc + (if neg then -(q : Int) else q) }
  | x, y =>
    match numMul x y with
    | .inf true => { a with ninf := true }
    | .inf false => { a with pinf := true }
    | _ => { a with nan := true }

/-- The result of a chain of an MX pair (R73): NaN, an infinity or acc × 2^(A − 112); an exact zero is +0. -/
def accNum (a : Acc) : Num :=
  if a.nan || (a.pinf && a.ninf) then .nan
  else if a.pinf then .inf false
  else if a.ninf then .inf true
  else .fin (decide (a.acc < 0)) a.acc.natAbs (a.anchor - 112)

/-- An MX result in FP32 or BF16 (R73). -/
def accFinish (f mode : Nat) (a : Acc) : Nat := fpEncode f mode (accNum a)

/-- An integer result in FP32 or BF16 under scales `sa` and `sb` (R72, R74). -/
def accFinishInt (f mode : Nat) (a : Acc) (sa sb : Num) : Nat :=
  let neg := decide (a.acc < 0)
  let isZero : Num → Bool := fun x => match x with | .fin _ 0 _ => true | _ => false
  let isInf : Num → Bool := fun x => match x with | .inf _ => true | _ => false
  let sgn : Num → Bool := fun x => match x with | .inf s => s | .fin s _ _ => s | .nan => false
  if a.nan || decide (sa = .nan) || decide (sb = .nan) then canonNan f
  else if isInf sa || isInf sb then
    if a.acc = 0 ∨ isZero sa ∨ isZero sb then canonNan f
    else infCode f ((neg != sgn sa) != sgn sb)
  else if a.acc = 0 then 0
  else fpEncode f mode (numMul (.fin neg a.acc.natAbs (a.anchor - 112)) (numMul sa sb))

/-- The INT32 output of an integer pair (R74). -/
def accInt32 (a : Acc) : Nat := unsigned 32 a.acc

/-- An entry as a PARTIAL element: the 128-bit acc with its metadata word above it (R75). -/
def accToPartial (a : Acc) : Nat :=
  unsigned 128 a.acc + 2 ^ 128 * (unsigned 11 a.anchor + 2 ^ 11 * b2n a.nan + 2 ^ 12 * b2n a.pinf + 2 ^ 13 * b2n a.ninf)

/-- An entry read back from a PARTIAL element (R75). -/
def accFromPartial (x : Nat) : Acc :=
  let md := x / 2 ^ 128
  { acc := signed 128 x, anchor := signed 11 md, nan := md.testBit 11, pinf := md.testBit 12, ninf := md.testBit 13 }

/-! ### Conversion (R83 to R86, R512) -/

/-- emax of R83. -/
def fmtEmax (f : Nat) : Int :=
  if f = fE4M3 then 8 else if f = fE5M2 then 15 else if f = fE3M2 then 4
  else if f = fE2M3 then 2 else if f = fE2M1 then 2 else 0

/-- The largest finite element code of an MX type, without sign. -/
def mxMaxCode (f : Nat) : Nat :=
  if f = fE4M3 then 0x7E else if f = fE5M2 then 0x7B else if f = fE3M2 then 0x1F
  else if f = fE2M3 then 0x1F else if f = fE2M1 then 0x7 else 127

/-- The scale code of a block (R83), from its valid elements. -/
def mxScale (f : Nat) (xs : List Num) : Nat :=
  if xs.any (fun x => decide (x = .nan)) then 0xFF
  else if (f ≠ fE5M2) ∧ xs.any (fun x => match x with | .inf _ => true | _ => false) then 0xFF
  else
    let top : Option Int := xs.foldl (fun t x =>
      match x with
      | .fin _ m e =>
        if m = 0 then t
        else match t with
          | none => some (exponentOf m e)
          | some u => some (max u (exponentOf m e))
      | _ => t) none
    match top with
    | none => 0
    | some t => (max (-127) (min 127 (t - fmtEmax f)) + 127).toNat

/-- One element divided by 2^X and rounded to an MX type, with whether it saturated (R84). -/
def mxElem (f mode : Nat) (x : Int) (v : Num) : Nat × Bool :=
  match v with
  | .nan => (canonNan f, false)
  | .inf neg => if f = fE5M2 then (infCode f neg, false) else (canonNan f, false)
  | .fin neg m e =>
    match fmtFloat f with
    | none =>
      let k := roundTo mode neg m (e - x) (-6)
      if k = 0 then (0, false)
      else if neg then (if 128 < k then (unsigned 8 (-128), true) else (unsigned 8 (-(k : Int)), false))
      else (if 127 < k then (127, true) else (k, false))
    | some (eb, mb, bias) =>
      let sgn := b2n neg * 2 ^ (eb + mb)
      if m = 0 then (sgn, false)
      else
        let emin : Int := 1 - (bias : Int)
        let q : Int := max (emin - mb) (exponentOf m (e - x) - mb)
        let k := roundTo mode neg m (e - x) q
        let (k, q) := if k = 2 ^ (mb + 1) then (2 ^ mb, q + 1) else (k, q)
        let code := if k < 2 ^ mb then k else (q + mb + bias).toNat * 2 ^ mb + (k - 2 ^ mb)
        if mxMaxCode f < code then (sgn + mxMaxCode f, true) else (sgn + code, false)

/-- A block of up to 32 FP32 values to an MX type: scale code, element codes, saturated count, NaN count (R83, R84,
R119). -/
def mxBlock (f mode : Nat) (vals : List Nat) (valid : List Bool) : Nat × List Nat × Nat × Nat :=
  let nums := vals.map f32
  let ok := ((nums.zip valid).filter (fun p => p.2)).map Prod.fst
  let sc := mxScale f ok
  if sc = 0xFF then
    (0xFF, valid.map (fun v => if v then canonNan f else 0), 0, (valid.filter id).length)
  else
    let es := (nums.zip valid).map (fun (v, b) => if b then mxElem f mode ((sc : Int) - 127) v else (0, false))
    (sc, es.map Prod.fst, (es.filter (fun p => p.2)).length, 0)

/-- FP32 to INT8 or INT4 with reciprocal scale `r` (R85): code and whether it saturated. -/
def intQuant (f mode r x : Nat) : Nat × Bool :=
  let w := fmtBits f
  let hi : Int := (2 ^ (w - 1) - 1 : Nat)
  match numMul (f32 x) (f32 r) with
  | .nan => (0, false)
  | .inf neg => (unsigned w (if neg then -hi - 1 else hi), true)
  | .fin neg m e =>
    let k := roundTo mode neg m e 0
    let v : Int := if neg then -(k : Int) else k
    if hi < v then (unsigned w hi, true) else if v < -hi - 1 then (unsigned w (-hi - 1), true) else (unsigned w v, false)

/-- A conversion of the vector unit to FP32 (R86, R512), for one element of format `f`. -/
def convToF32 (f code : Nat) : Nat :=
  if f = fPARTIAL then accFinish fFP32 0 (accFromPartial code)
  else toF32 (fmtDecode f code)

/-- The six-level tree of R87 over the lanes given, adjacent results combined in index order. -/
def pairUp (op : Nat → Nat → Nat) : List Nat → List Nat
  | x :: y :: t => op x y :: pairUp op t
  | t => t

/-- The tree of R87, `n` levels. -/
def reduceTree (op : Nat → Nat → Nat) : Nat → List Nat → Nat
  | 0, xs => lget 0 xs 0
  | n + 1, xs => reduceTree op n (pairUp op xs)

end Sys2Proof.Machine
end

