-- ==== Sys2Proof/Machine/Tab.lean ====
section
/-!
DEFINITION. Tables keyed by a number: a list of pairs in one canonical form (keys strictly rising, no entry equal to
what an unlisted key reads as), so that equal contents are equal data.
-/

namespace Sys2Proof.Machine

/-- A table: `(key, value)` pairs. -/
abbrev Tab (α : Type) := List (Nat × α)

/-- The value at key `k`; `d` says what an unlisted key reads as. -/
def tget {α : Type} (d : Nat → α) : Tab α → Nat → α
  | [], k => d k
  | (a, v) :: t, k => if a = k then v else tget d t k

/-- `t` without key `k`. -/
def tdel {α : Type} (t : Tab α) (k : Nat) : Tab α := t.filter (fun p => decide (p.1 ≠ k))

/-- `t` with key `k` holding `v`, in canonical form again. -/
def tset {α : Type} [DecidableEq α] (d : Nat → α) : Tab α → Nat → α → Tab α
  | [], k, v => if v = d k then [] else [(k, v)]
  | (a, w) :: t, k, v =>
    if a < k then (a, w) :: tset d t k v
    else
      let rest := tdel ((a, w) :: t) k
      if v = d k then rest else (k, v) :: rest

/-- Canonical form: every key is above `lo`, keys rise strictly, and no entry is the default. -/
def twfFrom {α : Type} [DecidableEq α] (d : Nat → α) : Nat → Tab α → Bool
  | _, [] => true
  | lo, (a, v) :: t => decide (lo ≤ a) && decide (v ≠ d a) && twfFrom d (a + 1) t

/-- Canonical form of a table. -/
def twf {α : Type} [DecidableEq α] (d : Nat → α) (t : Tab α) : Bool := twfFrom d 0 t

/-- Keys listed in a table. -/
def tkeys {α : Type} (t : Tab α) : List Nat := t.map Prod.fst

end Sys2Proof.Machine
end

