-- ==== Sys2Proof/Machine/Types.lean ====
section
/-!
DEFINITION. The names the spec gives things: sites, tokens, statuses, fault classes, register blocks, move kinds,
and the physical observations that an event brings with it.
-/

namespace Sys2Proof.Machine

/-- Order numbers of Table 0.1 (R1, R2). -/
inductive Variant where
  | a384
  | a288
  deriving DecidableEq, Repr

/-- A site die.row.column (R9); die 0 is west. -/
structure Site where
  die : Fin 2
  row : Fin 40
  col : Fin 32
  deriving DecidableEq, Repr

/-- A token: 64 B of payload and 24 bits of sideband (R26, Table 1.3). -/
structure Token where
  payload : BitVec 512
  sb : BitVec 24
  deriving DecidableEq, Repr

/-- What a memory code reports when a stored unit is read (R55, R100, R177, R182, R187). -/
inductive Found where
  /-- no error -/
  | clean
  /-- an error the code corrected -/
  | corrected
  /-- an error the code detected and could not correct -/
  | uncorrectable
  deriving DecidableEq, Repr

/-- Bay states, Table 1.7 (R42). -/
inductive BayState where
  | off
  | powering
  | idle
  | allocated
  | switching
  | draining
  | testing
  | faulted
  | scanning
  deriving DecidableEq, Repr

/-- Load states, Table 4.9 (R151). -/
inductive LoadState where
  | free
  | loading
  | ready
  | running
  | replacing
  | releasing
  deriving DecidableEq, Repr

/-- Itinerary queue states (DOC_IQ_STAT). -/
inductive IqState where
  | off
  | running
  | draining
  | done
  | stopped
  deriving DecidableEq, Repr

/-- Unit states shared by the scanner, a pair and the serving block (QUE_CTL, QUE_PAIR_CFG, SRV_CTL). -/
inductive UnitState where
  | off
  | running
  | draining
  deriving DecidableEq, Repr

/-- Docent service states (R229). -/
inductive DocState where
  | enabled
  | draining
  | stopped
  deriving DecidableEq, Repr

/-- Tenant states (TEN_CTL.STATE). -/
inductive TenState where
  | off
  | enabled
  | draining
  | resetting
  deriving DecidableEq, Repr

/-- Sampler states (SMP_STAT). -/
inductive SmpState where
  | off
  | idle
  | busy
  | draining
  deriving DecidableEq, Repr

/-- Request states, Table 7.2 (R247). -/
inductive ReqState where
  | free
  | admitted
  | prefill
  | decode
  | verify
  | parked
  | draining
  | done
  | cancelled
  | faulted
  deriving DecidableEq, Repr

/-- Prefix states, Table 7.4. -/
inductive PfxState where
  | free
  | live
  | releasing
  deriving DecidableEq, Repr

/-- Service states (SRV_SVC_CFG.STATE). -/
inductive SvcState where
  | off
  | standby
  | staging
  | ready
  deriving DecidableEq, Repr

/-- Port states, Table 9.9 (R341). -/
inductive PortState where
  | off
  | training
  | checking
  | active
  | lowRate
  | quarantined
  | failed
  | draining
  deriving DecidableEq, Repr

/-- Slice set states (TEN_SLICE_STAT). -/
inductive SliceState where
  | off
  | idle
  | active
  | switching
  deriving DecidableEq, Repr

/-- Condition check results (INT_CHK_STAT). -/
inductive ChkRes where
  | none
  | waiting
  | testing
  | passed
  | failed
  | busy
  | off
  deriving DecidableEq, Repr

/-- Update session states (UPD_STAT). -/
inductive UpdState where
  | idle
  | staging
  | verified
  | armed
  | pause
  | trial
  deriving DecidableEq, Repr

/-- Night-watch states (PWR_NW). -/
inductive NwState where
  | active
  | entering
  | watch
  | leaving
  deriving DecidableEq, Repr

/-- How far the start sequence of Table 12.4 has come. `dark`: rails off, waiting for the start; `waitRefclk`: step 1
done, waiting for REFCLK before step 4 (R501); `ready`; `stopped` (R431); `off`: no always-on supply (R494). -/
inductive BootPhase where
  /-- rails off until a reset or the supply returns -/
  | off
  /-- reset: the start sequence may begin -/
  | dark
  /-- steps 1 to 3 done, REFCLK absent (R501) -/
  | waitRefclk
  | ready
  | stopped
  deriving DecidableEq, Repr

/-- A state that a state effecter is set to (Table 14.3). -/
inductive EffState where
  | active
  | watch
  | reset
  deriving DecidableEq, Repr

/-- Attestation engine states (SEC_ATT_CTL.STATE). -/
inductive AttState where
  | idle
  | busy
  | done
  | failed
  deriving DecidableEq, Repr

/-- Fault classes, Table 10.3 (R374). -/
inductive FClass where
  | A
  | B
  | C
  | D
  deriving DecidableEq, Repr

/-- Register blocks, Table 15.2 (R490). -/
inductive Blk where
  | glb | fab | exh | acl | scl | t1c | t2c | t3c | doc | arb | srv | smp | que | ten | lnk | top | int | log
  | pwr | boot | upd | sec | mon
  deriving DecidableEq, Repr

/-- Completion statuses, Table 8.13 (R306). -/
inductive Status where
  | ok | okCancelLate | declined | cancelled | busy | tileOverflow | shapeInvalid | poisoned | residueMismatch
  | eccUncorrectable | staleToken | stallWatchdog | linkLost | remoteTimeout | guaranteeSuspended | tenantReset
  | preempted | firmwarePause
  deriving DecidableEq, Repr

/-- Move kinds, Table 5.9 (R200). -/
inductive MoveKind where
  | fetch | ingest | alloc | writeback | drop | exportStage
  deriving DecidableEq, Repr

/-- A tier (R169). -/
inductive Tier where
  | t1 | t2 | t3
  deriving DecidableEq, Repr

/-- Residue-check units of an A-cell, coded as ACL_ERR_SITE.UNIT. -/
inductive AclUnit where
  | mul | align | acc | round | vec | sfu | anchor
  deriving DecidableEq, Repr

/-- A 256 B Efast flit; byte n at bits [8n+7:8n] (R329). -/
abbrev Flit := BitVec 2048

/-- A control-die access (R284, R286). `found` says what a read of T2 meets, by 64 B unit counted from the first; a unit
not listed is clean (R182). A read of an entry in the request-table or prefix-table window meets there what its storage
holds (R376). -/
inductive CdAcc where
  | read (addr : Nat) (len : Nat) (found : List (Nat × Found))
  | write (addr : Nat) (data : List Byte)
  deriving DecidableEq, Repr

/-- One 10 microsecond measurement (R392): VIN in 10 mV, input current in 10 mA, input power in W, the highest 1 ms
average in W, energy in mJ added, and the bays' energy meters in mJ. -/
structure PowerMeas where
  vin : BitVec 16
  iin : BitVec 16
  pin : BitVec 16
  avg1ms : BitVec 16
  mj : Nat
  bayMj : List Nat
  deriving DecidableEq, Repr

/-- What the hardware answers to one start (R423 to R431): the physical outcomes that Table 12.4 meets. -/
structure StartObs where
  /-- time from step 1 to step 10 in microseconds -/
  bootUs : BitVec 32
  /-- read ID and SFDP fit Table 12.1 (R418) -/
  flashOk : Bool
  jedec : BitVec 24
  /-- the identity region's CRC and the PUF check hold (R426, R446) -/
  identityOk : Bool
  trims0Ok : Bool
  trims1Ok : Bool
  railsOk : Bool
  /-- REFCLK is present at step 4 (R501) -/
  refclk : Bool
  /-- index sectors that fail to program or read back before one holds the reservation of step 5 (R454) -/
  reserveFails : Nat
  /-- UCIe modules that trained, and those on repaired lanes (R283) -/
  ucieUp : BitVec 4
  ucieRep : BitVec 4
  /-- T2 stacks that trained, and those with repaired lanes (R180) -/
  t2Up : BitVec 8
  t2Rep : BitVec 8
  /-- T3: channels holding a DIMM, supported by Table 5.5, of one kind, of 8,000 MT/s at least, trained (R185) -/
  t3Present : BitVec 16
  t3Supported : Bool
  t3Alike : Bool
  t3FastEnough : Bool
  t3All8800 : Bool
  t3Trained : BitVec 16
  t3Gib : Nat
  deriving DecidableEq, Repr

/-- A failed test of a condition check (INT_CHK_FAIL.TEST) and the site it names. -/
structure ChkFail where
  test : Fin 7
  site : Site
  deriving DecidableEq, Repr

end Sys2Proof.Machine
end

