-- ==== Sys2Proof/Machine/Units.lean ====
section
/-!
DEFINITION. The state of each kind of unit of the fabric, the cells, the loads, the movers and the queues
(chapters 01 to 06, 08, 10 and 14), as plain records. Every field has its value at reset as its default.
-/

namespace Sys2Proof.Machine

/-! ### Fabric (chapter 01, 04) -/

/-- What a bay is finishing before it acts on its ON bit (R43): clearing after a release, or powering down. -/
inductive BayAct where
  | none
  | clearing
  | downing
  deriving DecidableEq, Repr

/-- One bay (R42, R43, Table 1.7). -/
structure Bay where
  st : BayState := .off
  act : BayAct := .none
  /-- the state to which a scan or a check returns -/
  ret : BayState := .off
  /-- the load that holds the bay -/
  load : Option Nat := none
  epoch : Nat := 0
  deriving DecidableEq, Repr

/-- A configured route slot with its queue (R19, R21, R141, R162). -/
structure Slot where
  inp : Nat := 0
  stream : Nat := 0
  /-- outputs, bit k = output k (R141) -/
  outs : Nat := 0
  spill : Nat := 15
  epoch : Nat := 0
  q : List Token := []
  /-- tokens in the spill ring in arrival order, each with its SRAM line (R162) -/
  spilled : List (Nat × Token) := []
  deriving DecidableEq, Repr

/-- The rest of one site's switch (R49, R154, R158). -/
structure SiteSt where
  /-- stopped inputs, bit per input (R49) -/
  stopped : Nat := 0
  /-- the token kept in the pass-through register of each stopped input (R49) -/
  held : List (Nat × Token) := []
  /-- configuration-path queue (R154) -/
  cfgQ : List Token := []
  /-- staging store: the tokens of the staged block (R154) -/
  staged : List Token := []
  /-- the site still has to switch to its staged block -/
  switching : Bool := false
  deriving DecidableEq, Repr

/-- One clock island (R35 to R37, FAB_ISL_STAT). -/
structure Island where
  clk : Nat := 0
  /-- clock code limits: cap (and guarantee), brake, thermal, droop; 36 = no limit -/
  limCap : Nat := 36
  limBrake : Nat := 36
  limTherm : Nat := 36
  limDroop : Nat := 36
  /-- temperature limit that the power controller publishes once the rail has settled (R390, R410) -/
  wantTherm : Nat := 36
  /-- STALL_CYC in thousandths of a cycle -/
  stall : Nat := 0
  deriving DecidableEq, Repr

/-! ### A-cell (chapter 02, R144, R146) -/

/-- A LOOP in progress: the body's first and last-plus-one word, the iterations left, the rule and the iteration. -/
structure LoopSt where
  lo : Nat := 0
  hi : Nat := 0
  left : Nat := 0
  rule : Nat := 0
  iter : Nat := 0
  deriving DecidableEq, Repr

/-- One A-cell. -/
structure ACell where
  /-- 448 content bits of the ACFG token, if the site has one (R144) -/
  acfg : Option Nat := none
  /-- step words in order (R146) -/
  steps : List Nat := []
  pc : Nat := 0
  ended : Bool := true
  loops : List LoopSt := []
  /-- constant registers 0 to 15 -/
  consts : List Nat := List.replicate 16 0
  /-- epoch in which the cell runs (R157) -/
  epoch : Nat := 0
  stopped : Bool := false
  /-- streams on which the replacement's marker has arrived, bit per stream (R157) -/
  marked : Nat := 0
  /-- armed residue injection: unit (R98) -/
  inj : Option Nat := none
  /-- the TILE step word issued and not yet run (row TILE) -/
  tile : Option Nat := none
  /-- tiles completed by the cell in the command (R138) -/
  tiles : Nat := 0
  /-- a chain is open in the bank, its products per output element so far, its K-tiles, a mismatch in it -/
  chainOpen : Bool := false
  chainLen : Nat := 0
  chainTiles : Nat := 0
  chainBad : Bool := false
  /-- the accumulator bank in use (R56) -/
  bank : Nat := 0
  /-- entries of the open chain that depend on a poisoned operand (R30, R55) -/
  poison : List Nat := []
  /-- tokens of the held operand and its scales for each K-tile of a TALL or WIDE chain, poison at bit 512 of each, and
  the piece reached: 1 + quarter × K-tiles + K-tile once the last held operand is in (R121) -/
  heldOps : List (List Nat) := []
  piece : Nat := 0
  deriving DecidableEq, Repr

/-! ### S-cell (chapter 03) -/

/-- One ring table entry with its hand-over state (R105, R106, R142). -/
structure Ring where
  base : Nat := 0
  lines : Nat := 0
  /-- slot count minus 1 -/
  slots : Nat := 0
  producer : Nat := 0
  consumers : Nat := 0
  /-- slots that the producer has filled and not every consumer has read: (slot, consumers still to read) -/
  full : List (Nat × Nat) := []
  deriving DecidableEq, Repr

/-- One address generator: its 785-bit program (R143) and its walk. -/
structure Gen where
  prog : Option Nat := none
  running : Bool := false
  /-- walk index i0 to i5 -/
  idx : List Nat := [0, 0, 0, 0, 0, 0]
  /-- ring slot in use -/
  slot : Nat := 0
  /-- scale tokens of the present tile passed so far, when the program has a scale pass -/
  scale : Nat := 0
  /-- the scale pass of the present tile is done -/
  scaled : Bool := false
  deriving DecidableEq, Repr

/-- One S-cell. -/
structure SCell where
  rings : List (Option Ring) := List.replicate 8 none
  gens : List Gen := [{}, {}]
  epoch : Nat := 0
  stopped : Bool := false
  marked : Nat := 0
  /-- lines waiting for a correction write-back (R100) -/
  writeBack : List Nat := []
  /-- next row for scrub in each bank (R102) -/
  scrubRow : List Nat := List.replicate 16 0
  deriving DecidableEq, Repr

/-- One SRAM line of 64 B: its data, the poison pattern (R101), and the bits of codeword 0 that SCL_INJ flipped (R130:
0, 1 or 2). -/
structure Line where
  data : BitVec 512 := 0
  poison : Bool := false
  inj : Nat := 0
  deriving DecidableEq, Repr

/-! ### Loads (chapter 04) -/

/-- How far a replacement has come (R155). -/
inductive ReplPhase where
  | staging
  | closing
  deriving DecidableEq, Repr

/-- What an image gives its load: header, placard, records and marks (R131 to R138). -/
structure Image where
  addr : Nat := 0
  bytes : Nat := 0
  digest : List Byte := []
  /-- the signature was required and found valid, or present and valid -/
  signed : Bool := false
  nBays : Nat := 0
  seam : Nat := 0
  place : Nat := 0
  kind : Nat := 0
  collection : Nat := 0xFFFFFFFF
  wdogUs : Nat := 0
  placard : List Byte := []
  recs : List (List Byte) := []
  marks : List (List Byte) := []
  /-- configuration tokens of ROUTES then SITES, as 512-bit numbers with the image's relative columns -/
  tokens : List Nat := []
  deriving DecidableEq, Repr

/-- A replacement in progress: the command, the new image entry, the phase. -/
structure Repl where
  cmd : Option Nat := none
  entry : Nat := 0
  image : Image := {}
  phase : ReplPhase := .staging
  deriving DecidableEq, Repr

/-- The mark at which a pre-empted load resumes (R317): where the programs of its cells and generators stand there, and
which ring slots are full. Its rings' lines and its accumulator entries lie in the save copy. -/
structure Saved where
  acells : List (Nat × ACell) := []
  scells : List (Nat × SCell) := []
  deriving DecidableEq, Repr

/-- One load handle (Table 4.9, R151). -/
structure Load where
  st : LoadState := .free
  tenant : Nat := 0
  bays : Nat := 0
  /-- verified-image entry in use -/
  entry : Nat := 0
  image : Image := {}
  sliced : Bool := false
  /-- the EXHIBIT_LOAD command that is loading it -/
  loadCmd : Option Nat := none
  /-- command at the head: taken by the load; `started` once its checks have passed and its bindings are whole -/
  cmd : Option Nat := none
  started : Bool := false
  /-- commands dispatched to the load and waiting, oldest first -/
  waiting : List Nat := []
  /-- shape table of the command (R112) -/
  shape : List (Option Nat) := List.replicate 32 none
  /-- binding slots (R198) -/
  binds : List (Option Nat) := List.replicate 16 none
  /-- conditions of Table 10.2 met by the command in progress, bit per rank; ranks 10 to 12 are the fault flags of
  R372 -/
  causes : Nat := 0
  repl : Option Repl := none
  /-- the EXHIBIT_RELEASE that waits for the release, and one with FORCE that waits for the command's completion -/
  relCmd : Option Nat := none
  relForce : Option Nat := none
  /-- the release has unpinned everything and waits for its bays to be cleared (R150) -/
  torn : Bool := false
  /-- page map of binding 15: logical page (slot × 65,536 + page) and frame (R251); `none` = no service's command -/
  kvMap : Option (List (Nat × Nat)) := none
  /-- bytes of one frame of binding 15 -/
  kvFrame : Nat := 0
  /-- a command pre-empted at a mark: where each cell's program stands (R317) -/
  saved : Option Saved := none
  /-- last command end seen, for AT_TILE and WORK_LOAD (counts command ends) -/
  ends : Nat := 0
  deriving DecidableEq, Repr

/-- A verified-image entry (R148). -/
structure ImgEntry where
  valid : Bool := false
  image : Image := {}
  /-- age order, for replacement of entries -/
  stamp : Nat := 0
  deriving DecidableEq, Repr

/-- Live state of a split group (R165, R166). -/
structure SplitSt where
  /-- the target computed at the start of the present window -/
  target : Nat := 0
  last : Nat := 0
  moves : Nat := 0
  deriving DecidableEq, Repr

/-! ### Moves, docents, itinerary queues, arbiters (chapters 05, 06) -/

/-- A run of allocation units held by a copy (R206): pool 0 = T1 vaults, 1 = T1 edge, 2 = T2, 3 = T3; for a spread,
its bays and rows. -/
structure Alloc where
  copy : Nat := 0
  pool : Nat := 0
  start : Nat := 0
  count : Nat := 0
  bays : Nat := 0
  rowLo : Nat := 0
  rowHi : Nat := 0
  deriving DecidableEq, Repr

/-- Phases of a move. -/
inductive MovePhase where
  /-- taken as in flight; its checks and placement are still to come -/
  | new
  /-- waiting at its start for a disabled docent (R214, R229) -/
  | held
  /-- divided into shares -/
  | copying
  /-- ended with a status; its step has still to complete -/
  | done
  deriving DecidableEq, Repr

/-- One move in flight (R200, R205, R214, R215). Moves are numbered in the order in which they started. -/
structure Move where
  kind : MoveKind := .fetch
  src : Option Nat := none
  dst : Option Nat := none
  /-- the LOWER that a WRITEBACK or DROP writes over -/
  lower : Option Nat := none
  stage : Nat := 0
  tenant : Nat := 0
  /-- the queue that carries it, and its step -/
  iq : Nat := 0
  step : Nat := 0
  /-- the MOVE command, or the SNAPSHOT whose write-back it is -/
  cmd : Option Nat := none
  snap : Option Nat := none
  phase : MovePhase := .new
  size : Nat := 0
  /-- it has allocated its destination -/
  made : Bool := false
  /-- the docents over which a move with no T1 side is dealt: the queue's mask, then those enabled at the division -/
  docs : Nat := 0
  /-- docent and bytes carried of each share not yet complete, docent order -/
  shares : List (Nat × Nat) := []
  /-- a fresh uncorrectable unit was found at the source (R370) -/
  fresh : Bool := false
  /-- some unit is carried poison -/
  poison : Bool := false
  /-- the source's CRC, if it was valid at the start -/
  crcWas : Option Nat := none
  skipBusy : Bool := false
  /-- status code once done -/
  status : Nat := 0
  deriving DecidableEq, Repr

/-- One itinerary queue (R216 to R230). -/
structure Iq where
  st : IqState := .off
  next : Nat := 0
  /-- moves in flight -/
  fly : List Nat := []
  lastStatus : Nat := 0
  lastStep : Nat := 0
  bytes : Nat := 0
  /-- steps cancelled and not started (R224) -/
  cancelled : List Nat := []
  /-- steps that have completed (AFTER_STEP) -/
  stepsDone : List Nat := []
  /-- MOVE commands waiting, oldest first (R222) -/
  cmds : List Nat := []
  /-- a queue-wide cancel waits for steps in flight (R225) -/
  cancelling : Bool := false
  /-- a command of the AT_TILE load has ended since the step became next (Table 6.3): `ends` seen then, per load -/
  endsSeen : List Nat := List.replicate 16 0
  deriving DecidableEq, Repr

/-- One arbiter (R234 to R236); `heirs` in order. -/
structure Arb where
  holder : Option Nat := none
  heirs : List Nat := []
  deriving DecidableEq, Repr

/-- One requester at one arbiter: consecutive losses, backing off, module cycle of its first loss (R235, R239). -/
structure ArbReq where
  losses : Nat := 0
  backing : Bool := false
  since : Option Nat := none
  deriving DecidableEq, Repr

/-! ### Serving (chapter 07) -/

/-- What the serving block is doing for a request, finer than its state (Table 7.2). -/
inductive ReqPhase where
  | none
  /-- waiting for prefill -/
  | waiting
  /-- its prefill command is in progress -/
  | prefill
  /-- its pages are being handed over (R252) -/
  | handover
  /-- its first draw: the head command after prefill -/
  | draw
  /-- in DECODE between steps -/
  | idle
  /-- in a step -/
  | step
  /-- its pages are being moved to park frames (R254) -/
  | parking
  /-- its pages are being fetched after RESUME (R254) -/
  | fetching
  deriving DecidableEq, Repr

/-- Where the pages of a request lie. -/
inductive PageLoc where
  | none
  | prefill
  | decode
  | park
  deriving DecidableEq, Repr

/-- One request-table entry (Table 7.1) with what the serving block keeps of it beside the table. -/
structure Req where
  st : ReqState := .free
  gsusp : Bool := false
  cancel : Bool := false
  widened : Bool := false
  penFull : Bool := false
  tenant : Nat := 0
  svc : Nat := 0
  priority : Nat := 0
  draft : Nat := 0
  collection : Nat := 0
  deadline : Nat := 0
  seed : Nat := 0
  committed : Nat := 0
  promptEnd : Nat := 0
  limit : Nat := 0
  /-- PREFIX as the entry shows it -/
  handle : Nat := 0
  pageList : Nat := 0
  pages : Nat := 0
  penList : Nat := 0
  penLen : Nat := 0
  out : Nat := 0
  prov : Nat := 0
  /-- POOL: pool of the decode load -/
  pool : Nat := 0
  param : Nat := 0
  ph : ReqPhase := .none
  /-- the SUBMIT that its completion answers -/
  cmd : Option Nat := none
  /-- CANCEL commands that wait for it to enter DRAINING -/
  cancels : List Nat := []
  /-- a PARK that waits -/
  parkCmd : Option Nat := none
  /-- REG_PREFIX with G = 0 -/
  reg : Bool := false
  /-- prompt tokens L and the prompt's address -/
  prompt : Nat := 0
  promptAt : Nat := 0
  /-- index of the prefix it uses, and that prefix's whole pages -/
  pfx : Option Nat := none
  /-- batch slot on its decode load; with it the request holds its frames in the decode pool (R258) -/
  slot : Option Nat := none
  /-- the load and the pool of its prefill -/
  preLoad : Nat := 0
  prePool : Nat := 0
  /-- private frames: in the decode pool, the prefill pool and the park copy, in page order -/
  frames : List Nat := []
  preFrames : List Nat := []
  parkFrames : List Nat := []
  loc : PageLoc := .none
  /-- admitted as a deadline request before the last write that lowered the guarantee code (R406) -/
  oldCode : Bool := false
  /-- order of admission -/
  stamp : Nat := 0
  /-- pb of R259 in units of `boundUnit` -/
  pb : Nat := 0
  /-- drafts proposed with the last committed record (R274) -/
  proposed : List Nat := []
  /-- drafts of the step in progress -/
  drafts : List Nat := []
  /-- positions of the step whose records are still to come -/
  due : List Nat := []
  /-- tokens drawn in the step and not yet committed: token, LOGPROB -/
  drawn : List (Nat × Nat) := []
  /-- the step's tokens are committed -/
  decided : Bool := false
  /-- a list was not sufficient: the request joins the widened head command (R269) -/
  wide : Bool := false
  /-- how the request ends once DRAINING: state, status code -/
  endSt : ReqState := .free
  endStatus : Nat := 0
  deriving DecidableEq, Repr

/-- The resident copy of a prefix in one pool (R256). -/
structure PfxHome where
  pool : Nat := 0
  users : Nat := 0
  frames : List Nat := []
  deriving DecidableEq, Repr

/-- One prefix-table entry (Table 7.4). -/
structure Pfx where
  st : PfxState := .free
  tenant : Nat := 0
  svc : Nat := 0
  /-- generation, 18 bits -/
  gen : Nat := 0
  length : Nat := 0
  refs : Nat := 0
  pageList : Nat := 0
  pages : Nat := 0
  /-- park frames in page order -/
  frames : List Nat := []
  homes : List PfxHome := []
  deriving DecidableEq, Repr

/-- The three commands of a step (R263). -/
inductive SrvPhase where
  | decode
  | head
  | wide
  deriving DecidableEq, Repr

/-- A step in progress (R263), or a request's first draw. -/
structure SrvStep where
  svc : Nat := 0
  reqs : List Nat := []
  ph : SrvPhase := .decode
  /-- the command in progress; `none` when it has ended and records are still to come -/
  cmd : Option Nat := none
  deriving DecidableEq, Repr

/-- One sampler: its state and the request whose record it holds. -/
structure Smp where
  st : SmpState := .idle
  req : Option Nat := none
  deriving DecidableEq, Repr

/-! ### Queues and tenants (chapter 08) -/

/-- A command taken by the module and not yet completed. `pair` is `none` for the serving block's own commands. -/
structure Cmd where
  op : Nat := 0
  tenant : Nat := 0
  pair : Option Nat := none
  /-- descriptor number in its pair -/
  num : Nat := 0
  desc : List Byte := []
  /-- module time of dispatch -/
  time : Nat := 0
  /-- its unit has taken it -/
  taken : Bool := false
  /-- a FENCE or SNAPSHOT: the earlier commands of its scope that have not completed -/
  waits : List Nat := []
  /-- a SUBMIT, CANCEL, PARK or RESUME whose admission has been decided no longer holds a fence (R301) -/
  decided : Bool := false
  /-- tenant reset: completes TENANT_RESET when its work ends (R308 step 7) -/
  reset : Bool := false
  /-- serving block work: the requests it serves, its service, the step that it belongs to -/
  reqs : List Nat := []
  svc : Nat := 0
  step : Nat := 0
  /-- SNAPSHOT bookkeeping: started, copies left, copies and bytes written back -/
  snapOn : Bool := false
  snapTier : Nat := 1
  snapCopies : Nat := 0
  snapBytes : Nat := 0
  deriving DecidableEq, Repr

/-- One queue pair (R288 to R292). -/
structure Pair where
  st : UnitState := .off
  sqHead : Nat := 0
  cqTail : Nat := 0
  cqHead : Nat := 0
  /-- CQ_HEAD as last read, whether it was accepted or ignored -/
  cqSeen : Nat := 0
  held : Nat := 0
  done : Nat := 0
  dispatched : Nat := 0
  /-- module time of the last visit since enable -/
  lastVisit : Option Nat := none
  gapMax : Nat := 0
  deriving DecidableEq, Repr

/-- A descriptor in a tenant's intake. -/
structure Intake where
  pair : Nat := 0
  num : Nat := 0
  desc : List Byte := []
  deriving DecidableEq, Repr

/-- One tenant (R307). -/
structure Tenant where
  st : TenState := .off
  debt : Nat := 0
  deriving DecidableEq, Repr

/-- One slice set (R316). -/
structure SliceSet where
  st : SliceState := .off
  tenant : Nat := 0
  switches : Nat := 0
  /-- a pre-emption is pending: module time of slice end -/
  pend : Option Nat := none
  nextTen : Nat := 0
  deriving DecidableEq, Repr

/-! ### Incident log, integrity, census (chapters 10, 14) -/

/-- One incident (Table 14.6). -/
structure Incident where
  time : Nat := 0
  seq : Nat := 0
  cls : FClass := .A
  injected : Bool := false
  blk : Nat := 0
  /-- ERR bit, 0xFF = none -/
  code : Nat := 0xFF
  /-- completion status, 0xFF = none -/
  status : Nat := 0xFF
  tenant : Option Nat := none
  locus : Nat := 0
  arg0 : Nat := 0
  arg1 : Nat := 0
  arg2 : Nat := 0
  /-- logged in stop mode (R483) -/
  stop : Bool := false
  deriving DecidableEq, Repr

/-- A condition check of one bay (R385). -/
structure Chk where
  res : ChkRes := .none
  /-- module time of the request -/
  since : Nat := 0
  deriving DecidableEq, Repr

/-- One census unit's live or copied values (R477, R479). -/
structure CensusVals where
  min : Nat := 0xFFFFFFFF
  max : Nat := 0
  count : Nat := 0
  sum : Nat := 0
  bins : List Nat := List.replicate 32 0
  missed : Nat := 0
  deriving DecidableEq, Repr

/-- One census unit. -/
structure Census where
  live : CensusVals := {}
  copy : CensusVals := {}
  copied : Bool := false
  /-- raw values waiting (R478), oldest first -/
  intake : List Nat := []
  deriving DecidableEq, Repr

/-! ### Links, streams, topology and credentials (chapters 09, 13) -/

/-- A sequenced flit in a replay buffer: its SEQ, its bytes as sent and in the clear, and how often it was resent
(R331). -/
structure Held where
  seq : Nat := 0
  bytes : List Byte := []
  clear : List Byte := []
  resent : Nat := 0
  deriving DecidableEq, Repr

/-- Key and salt of one direction of a session (R467). -/
structure Keys where
  key : List Byte := []
  salt : List Byte := []
  deriving DecidableEq, Repr

/-- A key exchange at one end (R466, R467). -/
structure Kex where
  /-- an exchange is in progress; this end started it -/
  on : Bool := false
  mine : Bool := false
  /-- credential slot and CRED_ID in use, and that slot's credential when the exchange began -/
  slot : Nat := 0
  cred : Nat := 0
  secret : List Byte := []
  /-- random draw of the initiator's key pair -/
  draw : Nat := 0
  /-- message whose fragments are arriving: KTYPE, next FRAG, bytes so far -/
  kind : Nat := 0
  frag : Nat := 0
  msg : List Byte := []
  /-- the encapsulation key -/
  ek : List Byte := []
  /-- step 4 is done: TH, confirm key of the partner, keys of each direction -/
  formed : Bool := false
  th : List Byte := []
  theirs : List Byte := []
  txKeys : Keys := {}
  rxKeys : Keys := {}
  deriving DecidableEq, Repr

/-- One Efast port (R326 to R332, R341, R354, R357 to R359). -/
structure Port where
  st : PortState := .off
  /-- the state that a DRAINING port returns to (R324) -/
  back : PortState := .off
  reason : Nat := 0
  version : Nat := 0
  /-- ENC_REQ at the last training (R359) -/
  encReq : Bool := false
  /-- bytes 0x08 to 0x23 of the far end's last HELLO and of this end's -/
  far : List Byte := []
  mine : List Byte := []
  /-- the far end requests low rate; this end has told so; lanes 1 to 7 retrain (R354) -/
  farLow : Bool := false
  toldLow : Bool := false
  retraining : Bool := false
  /-- SEQ of the next sequenced flit sent, and the SEQ expected -/
  tx : Nat := 0
  rx : Nat := 0
  replay : List Held := []
  /-- LINK messages that wait for room in the replay buffer -/
  waiting : List (List Byte) := []
  /-- hop credits held, per VC; those the partner holds; receive entries freed and not reported (R332) -/
  credits : List Nat := [0, 0, 0, 0]
  partner : List Nat := [0, 0, 0, 0]
  freed : List Nat := [0, 0, 0, 0]
  /-- module time of the last NAK and of the last drop incident -/
  lastNak : Option Nat := none
  lastDrop : Option Nat := none
  /-- drops since that incident; times of the drops of the last millisecond (R357) -/
  drops : Nat := 0
  dropTimes : List Nat := []
  /-- session: established, credential slot, SESSION of the next exchange, phase and keys of each direction with the
  position reached (R358, R359) -/
  enc : Bool := false
  slot : Nat := 0
  session : Nat := 0
  phase : Bool := false
  txKeys : Keys := {}
  txPos : Nat := 0
  rxPhase : Bool := false
  rxKeys : Keys := {}
  rxPos : Nat := 0
  rxNew : Option Keys := none
  kex : Kex := {}
  deriving DecidableEq, Repr

/-- A routed flit in an inbound queue: its bytes in the clear, the VC of its next hop, and the receive entry it holds
(R332, R346). -/
structure Fwd where
  bytes : List Byte := []
  vc : Nat := 0
  entry : Option (Nat × Nat) := none
  deriving DecidableEq, Repr

/-- One remote stream of a load at its gateway (R335 to R340). -/
structure Stream where
  gen : Nat := 0
  /-- index of the next token taken from the edge link, and of the next token expected from the peer -/
  index : Nat := 0
  inIndex : Nat := 0
  /-- credits spent, per outbound REMOTE record of the stream in record order -/
  spent : List Nat := []
  /-- outbound records whose peer has been cut, bit each -/
  cut : Nat := 0
  /-- tokens in the packing buffer -/
  pack : List Token := []
  /-- inbound store -/
  store : List Token := []
  /-- credits owed and not yet returned -/
  owed : Nat := 0
  /-- a CUT was accepted in this generation -/
  cutHere : Bool := false
  /-- a LOST notice gives the next generation (R352) -/
  lostGen : Option Nat := none
  deriving DecidableEq, Repr

/-- The live topology table (R344, R353, R364): images of TOP_SELF, TOP_PORT, TOP_PORT_ID, TOP_CORDON and VERSION. -/
structure LiveTop where
  self : Nat := 0x0411100000000000
  ports : List Nat := List.replicate 32 0x8000000000000000
  ids : List Nat := List.replicate 32 0
  cordons : List Nat := List.replicate 64 0
  version : Nat := 0
  deriving DecidableEq, Repr

/-- A slot journal record (Table 12.9); as shipped, slot A is GOOD and ACTIVE (R424). -/
structure Journal where
  seq : Nat := 0
  active : Nat := 0
  stA : Nat := 4
  stB : Nat := 0
  cfg : Nat := 0
  topo : Nat := 0
  minSvn : Nat := 0
  verA : Nat := 0
  verB : Nat := 0
  svnA : Nat := 0
  svnB : Nat := 0
  deriving DecidableEq, Repr

/-- A link credential slot (R465): four key words, `none` where not written since it was last cleared. -/
structure Cred where
  valid : Bool := false
  id : Nat := 0
  key : List (Option Nat) := [none, none, none, none]
  deriving DecidableEq, Repr

/-- A request to the attestation engine (R455): from the sideband with its nonce, or a GO of SEC_ATT_CTL. -/
structure AttReq where
  sideband : Bool := false
  /-- KIND: an identity record rather than a report -/
  identity : Bool := false
  nonce : List Byte := []
  deriving DecidableEq, Repr

/-! ### Sideband (chapter 14) -/

/-- What management last wrote to an effecter: the pending value, when, whether the present value has agreed with it
since, and whether the disagreement has been reported (R475). -/
structure Eff where
  pending : Nat := 0
  writtenAt : Nat := 0
  agreed : Bool := false
  deriving DecidableEq, Repr

/-- Completion of a sideband request, by name: the message formats are the standards'. -/
inductive SbCode where
  | none
  | ok
  | error
  | notReady
  | busy
  | unsupported
  deriving DecidableEq, Repr

/-- An answer: its completion and the values it carries, in the order that the request's row lists them. -/
structure SbResp where
  code : SbCode := .none
  vals : List Nat := []
  deriving DecidableEq, Repr

end Sys2Proof.Machine
end

