-- ==== Sys2Proof/Syntax.lean ====
section
/-!
DEFINITION. The commands of the block: one constructor for each row of spec/opcode_table.json, in the table's order.
A command names the unit it acts on; where a row is a physical event, its operands also carry what the hardware
observed (an error found, a level measured), since the spec's state does not determine it.
-/

namespace Sys2Proof

open Machine

inductive Instr where
  -- fabric: tokens, clocks and bays (01_fabric)
  | tokenHop (site : Site) (input : Fin 9) (feed : Option Token) (noise : Token)
  | creditReturn (site : Site) (out : Fin 9) (stream : Fin 64)
  | tokenConsume (site : Site) (stream : Fin 64) (opbuf : Found)
  | islandClockChange (isl : Fin 640) (droop : Option (Fin 37))
  | railSettled (bay : Fin 16)
  | bayOn (bay : Fin 16)
  | bayOff (bay : Fin 16)
  | bayForce (bay : Fin 16)
  | bayPowerUpDone (bay : Fin 16)
  | bayClearDone (bay : Fin 16)
  | bayPowerDownDone (bay : Fin 16)
  | bayClkWrite (hi : Bool) (v : Word)
  | stallWatchdog (load : Fin 16) (bay : Fin 16)
  -- arithmetic cells (02_arithmetic)
  | tileStart (site : Site) (mismatch : Option AclUnit)
  | tile (site : Site)
  | vec (site : Site) (mismatch : Bool)
  | sfu (site : Site) (mismatch : Bool)
  | conv (site : Site)
  | reduce (site : Site) (mismatch : Bool)
  | constStep (site : Site)
  | loopStep (site : Site)
  | endStep (site : Site)
  | aclInj (v : Word)
  -- store cells (03_store_cells_tiling)
  | fabRd (site : Site) (gen : Fin 2) (found : Found)
  | fabWr (site : Site) (gen : Fin 2) (found : Found)
  | t1Rd (site : Site) (gen : Fin 2) (found : Found)
  | t1Wr (site : Site) (gen : Fin 2) (found : Found)
  | correctionWriteback (site : Site) (line : Fin 6144)
  | sramScrub (site : Site) (bank : Fin 16) (found : Found)
  | sclScrubWrite (v : Word)
  | sclInj (v : Word)
  -- commands and exhibits (04_exhibits, 08_queues_tenants)
  | run (cmd : Nat)
  | commandStart (load : Fin 16)
  | commandComplete (load : Fin 16)
  | exhibitLoad (cmd : Nat)
  | exhibitLoadReplace (cmd : Nat)
  | exhibitLoadSliced (cmd : Nat)
  | configTokenArrive (site : Site)
  | loadConfigured (load : Fin 16)
  | replaceClose (load : Fin 16)
  | epochMarker (site : Site) (input : Fin 9) (stream : Fin 64)
  | switchSlow (bay : Fin 16)
  | exhibitRelease (cmd : Nat)
  | exhibitReleaseForce (cmd : Nat)
  | splitWindow
  | exhSplitCtlWrite (v : Word)
  | exhWdogWrite (v : Word)
  -- moves (05_memory_tiers, 06_docents_arbiters)
  | moveFetch (move : Nat)
  | moveIngest (move : Nat)
  | moveAlloc (move : Nat)
  | moveWriteback (move : Nat)
  | moveDrop (move : Nat)
  | moveExport (move : Nat)
  | moveComplete (move : Nat)
  | docentShare (docent : Fin 64) (found : List (Nat × Found))
  -- control-die accesses and windows (08, 15)
  | cdAccess (acc : CdAcc)
  | csBadAccess (write : Bool) (off : Nat) (bytes : Nat)
  | csUnassigned (write : Bool) (off : Nat)
  | windowWrite (off : Nat) (v : Word)
  | windowLatchRead (prefixWindow : Bool) (entry : Nat)
  | censusEnable (unit : Fin 64) (en : Bool)
  | censusSnap (unit : Fin 64)
  | censusClear (unit : Fin 64)
  | logHeadWrite (v : Word)
  | logRdSelWrite (v : Word)
  | regWrite (off : Nat) (v : Word)
  -- tier upkeep (05)
  | refreshWindow (tier : Tier) (unit : Nat)
  | calibrationWindow (tier : Tier) (unit : Fin 16) (finished : Bool)
  | t1Scrub (addr : Nat) (found : Found)
  | tierScrub (tier : Tier) (addr : Nat) (found : Found)
  | t1cScrubWrite (v : Word)
  | t2cCtlWrite (v : Word)
  -- itinerary queues and docents (06)
  | iqStepStart (iq : Fin 64)
  | iqStepComplete (move : Nat)
  | docentEnable (docent : Fin 64)
  | docentDisable (docent : Fin 64)
  | docentForce (docent : Fin 64)
  | docSegWrite (v : Word)
  | iqEnable (iq : Fin 64) (v : Word)
  | iqDisable (iq : Fin 64)
  | iqCancel (iq : Fin 64)
  | iqForce (iq : Fin 64)
  -- arbiters (06)
  | arbPresent (arb : Fin 306) (reqs : List (Fin 128))
  | arbBackoffExpire (arb : Fin 306) (req : Fin 128)
  | arbDrop (arb : Fin 306)
  | arbCloseWrite (v : Word)
  | arbCloseTenWrite (v : Word)
  | arbCntClrAll
  | arbCntClrSel
  -- serving (07)
  | svcEnableReady (svc : Fin 64) (v : Word)
  | svcEnableStandby (svc : Fin 64) (v : Word)
  | svcDisable (svc : Fin 64)
  | submit (cmd : Nat)
  | cancel (cmd : Nat)
  | park (cmd : Nat)
  | resume (cmd : Nat)
  | release (cmd : Nat)
  | prefillStart (svc : Fin 64)
  | prefillEnd (load : Fin 16)
  | handoverComplete (req : Fin 16384)
  | decodeStepStart (load : Fin 16)
  | candidateRecord (rec : List Token) (laneFault : Bool)
  | parkComplete (req : Fin 16384)
  | resumeFetchComplete (req : Fin 16384)
  | requestRelease (req : Fin 16384)
  | srvReqFree (v : Word)
  | srvEnable
  | srvDisable
  | srvForce
  | samplerEnable (smp : Fin 4)
  | samplerDisable (smp : Fin 4)
  | samplerForce (smp : Fin 4)
  | paramSetWrite (off : Nat) (v : Word)
  | dlOpenRestore
  -- queues and tenants (08)
  | scannerVisit (pair : Fin 1024)
  | dispatch (tenant : Fin 64)
  | fence (cmd : Nat)
  | fenceComplete (cmd : Nat)
  | snapshot (cmd : Nat)
  | ucieModuleFail (m : Fin 4)
  | queScannerEnable
  | queScannerDisable
  | queScannerForce
  | pairEnable (pair : Fin 1024)
  | pairDisable (pair : Fin 1024)
  | pairForce (pair : Fin 1024)
  | tenantEnable (tenant : Fin 64)
  | tenantDisable (tenant : Fin 64)
  | tenantForce (tenant : Fin 64)
  | tenCtlWrite (tenant : Fin 64) (v : Word)
  | tenantReset (tenant : Fin 64)
  | sliceSetEnable (set : Fin 4) (v : Word)
  | sliceEnd (set : Fin 4)
  | preemptMark (set : Fin 4)
  | tenantSwitch (set : Fin 4)
  | remoteTimeout (load : Fin 16)
  | scanOut (bay : Fin 16)
  | scanIn (bay : Fin 16)
  | scanComplete (bay : Fin 16) (ns : BitVec 32)
  -- Efast links (09)
  | idleFlit (port : Fin 32) (flit : Flit)
  | dataFlit (port : Fin 32) (flit : Flit) (found : Found)
  | creditFlit (port : Fin 32) (flit : Flit) (found : Found)
  | noticeLost (port : Fin 32) (flit : Flit) (found : Found)
  | noticeCut (port : Fin 32) (flit : Flit) (found : Found)
  | hello (port : Fin 32) (flit : Flit)
  | keepalive (port : Fin 32) (flit : Flit)
  | rate (port : Fin 32) (flit : Flit)
  | timeReq (port : Fin 32) (flit : Flit)
  | timeResp (port : Fin 32) (flit : Flit)
  | quar (port : Fin 32) (flit : Flit)
  | kex (port : Fin 32) (flit : Flit)
  | nak (port : Fin 32) (flit : Flit) (found : Found)
  | replayTimeout (port : Fin 32)
  | laneLockLost (port : Fin 32)
  | linkSilence (port : Fin 32)
  | fecThreshold (port : Fin 32)
  | laneTrainingDone (port : Fin 32)
  | laneTrainingTimeout (port : Fin 32)
  | laneRetrainDone (port : Fin 32)
  | helloTimer (port : Fin 32)
  | keepaliveTimer (port : Fin 32)
  | dataFlitTimer (load : Fin 16) (stream : Fin 64)
  | creditFlitTimer (load : Fin 16) (stream : Fin 64)
  | mcastCut (load : Fin 16) (stream : Fin 64) (peer : BitVec 32)
  | bundleResume (bundle : Fin 8)
  | rekeyLimit (port : Fin 32)
  | kexTimeout (port : Fin 32)
  | timeSyncTimer
  | ppsEdge
  | ppsLost
  | portEnable (port : Fin 32)
  | portDisable (port : Fin 32)
  | portForce (port : Fin 32)
  | portRetrain (port : Fin 32)
  | portLow (port : Fin 32) (low : Bool)
  | lnkPolicyWrite (v : Word)
  | topologyCommit
  -- holds and condition checks (10)
  | holdEnable (en : Bool)
  | holdAt
  | checkRequest (bay : Fin 16)
  | checkStart (bay : Fin 16)
  | checkEnd (bay : Fin 16) (fail : Option ChkFail)
  | checkTimeout (bay : Fin 16)
  -- power (11)
  | capPeriod (meas : PowerMeas)
  | capTargetWrite (v : BitVec 16)
  | brakeLevelWrite (v : BitVec 16)
  | guaranteeCodeWrite (v : BitVec 6)
  | brakeAssert
  | brakeRelease
  | sensorRead (src : Fin 674) (degC : BitVec 8)
  | thermAlertRelease
  | thermalCutoff
  | vinSag
  | vinRecover
  | vinLoss
  | nightWatchEnter
  | nightWatchExit
  -- reset, start and update (12, 16)
  | modReset
  | powerOn
  | softReset (v : Word)
  | start (obs : StartObs)
  | refclkTimeout
  | refclkLost
  | bootLockSet
  | updateBlock (cmd : Nat) (flashOk : Bool)
  | updateManifest (cmd : Nat) (flashOk : Bool)
  | updateActivate (cmd : Nat)
  | updateConfirm (cmd : Nat)
  | updGo
  | updAbort
  | activationRevert
  -- security (13)
  | attestReport
  | attestIdentity
  | reservationComplete (ok : Bool)
  | secWinWrite (v : Word)
  | credValidWrite (v : Word)
  | credKeyWrite (v : Word)
  -- sideband (14)
  | mctpPacket (pecOk : Bool) (packet : List Byte)
  | entdaa (da : BitVec 7)
  | rstdaa
  | enec (events : Byte)
  | disec (events : Byte)
  | setmwl (len : BitVec 16)
  | setmrl (len : BitVec 16)
  | getmwl
  | getmrl
  | getpid
  | getbcr
  | getdcr
  | getstatus
  | setEndpointId (eid : Byte)
  | getEndpointId
  | getMctpVersionSupport (msgType : Byte)
  | getMessageTypeSupport
  | gettid
  | settid (tid : Byte)
  | getpldmversion (pldmType : Byte)
  | getpldmtypes
  | getpldmcommands (pldmType : Byte)
  | getpdrrepositoryinfo
  | getpdr (handle : BitVec 32)
  | getsensorreading (sensor : BitVec 16)
  | getstatesensorreadings (sensor : BitVec 16)
  | setnumericeffectervalue (effecter : BitVec 16) (v : BitVec 32)
  | getnumericeffectervalue (effecter : BitVec 16)
  | setstateeffecterstates (effecter : BitVec 16) (st : EffState)
  | getstateeffecterstates (effecter : BitVec 16)
  | lvStatus
  | lvLogRead (seq : BitVec 32) (count : Fin 33)
  | lvLogAck (head : BitVec 32)
  | lvCensusRead (unit : Fin 64) (snap : Bool) (clear : Bool)
  | lvAttest (kind : Bool) (nonce : List Byte)
  | lvAttestRead (off : Nat) (len : Fin 1025)
  | lvCsRead (off : Nat)
  | lvCsWrite (off : Nat) (v : Word)
  -- management view, census and log (14)
  | viewRefresh
  | viewStale
  | effecterDisagree (effecter : BitVec 16)
  | censusEvent (unit : Fin 64) (raw : Nat) (tenant : Fin 64)
  | censusSample (unit : Fin 64) (level : Nat)
  | logDrain
  | ibiHoldoffEnd
  -- other registers and the later rows
  | activationPartsReady
  | nightWatchEntered
  | nightWatchLeft
  | vinReturn
  | aonSupplyLost
  | refclkArrive
  deriving DecidableEq, Repr

end Sys2Proof
end

