-- ==== Sys2Proof/Machine/State.lean ====
section
/-!
DEFINITION. The state of the block: every register (Table 15.3), the memory of the three tiers, and every unit's own
state, as plain data; the ways a step can stop; and the state after reset. A `Tab` field lists only what differs from
its default, in canonical form (`twf`).
-/

namespace Sys2Proof.Machine

/-- Ways the block stops with a fault. No command of this model raises one: every row has an effect, and a command
that comes out of turn leaves the state unchanged (assumption log 14). -/
inductive Fault where
  /-- Never raised. Safe. -/
  | none
  deriving DecidableEq, Repr

/-- Ways a command is refused. -/
inductive Refusal where
  /-- Raised by `exec` for a row that has no meaning yet. Safe. -/
  | notModelled (mnemonic : String)
  deriving DecidableEq, Repr

/-- The fabric (chapters 01, 04): bays, switches, links, islands. -/
structure Fab where
  /-- bays 0 to 15 -/
  bays : Tab Bay := []
  /-- route slots, site × 32 + 16 × (epoch mod 2) + slot: a replacement holds both sets (R158) -/
  slots : Tab (Option Slot) := []
  /-- staged route slots that are not live yet (R158), keyed as `slots` -/
  newSlots : Tab (Option Slot) := []
  /-- the rest of each switch, by site -/
  sites : Tab SiteSt := []
  /-- credit counts of senders, site × 2048 + output × 64 + stream; output 9 is the cell (R31) -/
  credits : Tab Nat := []
  /-- credits on their way back to the sender (R32), keyed as `credits` -/
  creditsFly : Tab Nat := []
  /-- tokens on their way to a switch input, site × 16 + input, oldest first; input 15 is the configuration path as its docent feeds it (R154) -/
  wires : Tab (List Token) := []
  /-- the slot granted last at each output link (R23), site × 16 + output -/
  lastGrant : Tab Nat := []
  /-- clock islands 0 to 639 -/
  islands : Tab Island := []
  deriving DecidableEq, Repr

/-- The cells (chapters 02, 03). -/
structure Cells where
  /-- A-cells, by site -/
  acells : Tab ACell := []
  /-- accumulator entries, site × 8192 + bank × 4096 + entry (R56) -/
  accs : Tab Acc := []
  /-- FP32 runs of the 16-bit path (R78), keyed as `accs` -/
  runs : Tab Nat := []
  /-- lane registers, site × 1024 + register × 64 + lane (R146) -/
  lanes : Tab Nat := []
  /-- poison of 16 lanes of a lane register, site × 64 + register × 4 + quarter -/
  lanePoison : Tab Bool := []
  /-- tokens at the local port of a cell, not yet consumed, site × 64 + stream -/
  arr : Tab (List Token) := []
  /-- tokens consumed and checked: the operand buffer of an A-cell, the port of an S-cell; site × 64 + stream -/
  got : Tab (List Token) := []
  /-- tokens a cell has produced and not yet sent, site × 64 + stream -/
  cout : Tab (List Token) := []
  /-- S-cells, by site -/
  scells : Tab SCell := []
  /-- SRAM lines, site × 8192 + line (R99) -/
  lines : Tab Line := []
  deriving DecidableEq, Repr

/-- Exhibit loads (chapter 04). -/
structure Exh where
  /-- load handles 0 to 15 -/
  loads : Tab Load := []
  /-- verified-image entries 0 to 31 (R148) -/
  imgs : Tab ImgEntry := []
  /-- split groups 0 to 3 -/
  splits : Tab SplitSt := []
  /-- age order of verified-image entries -/
  stamp : Nat := 0
  /-- sites of a bay that have switched in the present replacement, by bay -/
  wdogWait : Tab Nat := []
  deriving DecidableEq, Repr

/-- Docents, itinerary queues, moves and pools (chapters 05, 06). -/
structure Mov where
  /-- docents 0 to 63 -/
  docs : Tab DocState := []
  /-- itinerary queues 0 to 63 -/
  iqs : Tab Iq := []
  /-- moves in flight, by number -/
  moves : Tab (Option Move) := []
  /-- number of the next move -/
  nextMove : Nat := 0
  /-- runs of units held in the pools (R206) -/
  allocs : List Alloc := []
  /-- consecutive unfinished calibration windows (R189), T2 stacks 0 to 7, T3 channels 16 to 31 -/
  calMiss : Tab Nat := []
  deriving DecidableEq, Repr

/-- Shared-port arbiters (chapter 06). -/
structure Arbs where
  /-- arbiters 0 to 305 -/
  arbs : Tab Arb := []
  /-- requesters, arbiter × 128 + requester -/
  reqs : Tab ArbReq := []
  deriving DecidableEq, Repr

/-- The serving block and the samplers (chapter 07). -/
structure Srv where
  /-- state of the serving block (SRV_CTL) -/
  st : UnitState := .off
  /-- request-table entries 0 to 16,383 -/
  reqs : Tab Req := []
  /-- prefix-table entries 0 to 12,287 -/
  pfxs : Tab Pfx := []
  /-- steps in progress: key h = the step of decode load h, key 16 + i = the first draw of request i -/
  steps : Tab (Option SrvStep) := []
  /-- copies that each service pins (R244) -/
  pins : Tab (List Nat) := []
  /-- order of admission -/
  stamp : Nat := 0
  /-- samplers 0 to 3 -/
  smps : Tab Smp := []
  deriving DecidableEq, Repr

/-- Queue pairs, scanner, commands (chapter 08). -/
structure Que where
  /-- pairs 0 to 1,023 -/
  pairs : Tab Pair := []
  /-- intake of each tenant, oldest first -/
  intakes : Tab (List Intake) := []
  /-- commands taken and not completed, by number -/
  cmds : Tab (Option Cmd) := []
  /-- number of the next command -/
  nextCmd : Nat := 0
  /-- queue scanner state -/
  scanner : UnitState := .off
  /-- module time at which the present rotation began -/
  rotStart : Nat := 0
  /-- pair visited last -/
  rotLast : Nat := 0
  /-- UCIe modules in service, bit each -/
  ucieUp : Nat := 0
  /-- UCIe modules on repaired lanes -/
  ucieRep : Nat := 0
  /-- UCIe has trained (step 8) -/
  ucieOn : Bool := false
  deriving DecidableEq, Repr

/-- Tenants, slice sets, scan store (chapter 08). -/
structure Tens where
  /-- tenants 0 to 63 -/
  tenants : Tab Tenant := []
  /-- engine time of each tenant not yet counted, in thousandths of an A-cell cycle (R310) -/
  engFrac : Tab Nat := []
  /-- slice sets 0 to 3 -/
  slices : Tab SliceSet := []
  /-- the scan store: 64-bit words by offset ÷ 8 within the bay (R322) -/
  scanStore : Tab Word := []
  /-- bay of the stored scan -/
  scanBay : Option Nat := none
  /-- 0 idle, 1 scanning out, 2 scanning in -/
  scanDir : Nat := 0
  /-- bays whose scan waits for a command boundary or a check (R321, R387) -/
  scanWant : List Nat := []
  deriving DecidableEq, Repr

/-- Halt, hold and condition checks (chapter 10). -/
structure Integ where
  /-- HALT_CAUSE; 0 = not halted -/
  halt : Nat := 0
  /-- the hold is in effect (R380) -/
  holdOn : Bool := false
  /-- condition check of each bay -/
  chks : Tab Chk := []
  deriving DecidableEq, Repr

/-- The incident log (chapter 14). -/
structure Log where
  /-- SEQ that the next incident takes -/
  wr : Nat := 0
  /-- LOST -/
  lost : Nat := 0
  /-- incidents waiting, oldest first (R482) -/
  intake : List Incident := []
  /-- slots 0 to 4,095 -/
  slots : Tab (Option Incident) := []
  /-- the read latch (LOG_RD_SEL) -/
  latch : Option Incident := none
  /-- less than 100 µs since the last IBI (R485) -/
  ibiHold : Bool := false
  /-- highest class held back -/
  ibiWait : Option Nat := none
  deriving DecidableEq, Repr

/-- Census, management view, sideband (chapter 14). -/
structure Mon where
  /-- census units 0 to 63 -/
  census : Tab Census := []
  /-- the management view: values by sensor ID (Table 14.3) -/
  view : Tab Nat := []
  /-- module time of the view (R474) -/
  viewAt : Nat := 0
  /-- no view has been taken for 5 ms, or since the reset -/
  stale : Bool := true
  /-- what management last wrote to each effecter (R472) -/
  effs : Tab (Option Eff) := []
  /-- PLDM terminus ID -/
  tid : Nat := 0
  /-- I3C maximum write length -/
  mwl : Nat := 0
  /-- I3C maximum read length -/
  mrl : Nat := 0
  deriving DecidableEq, Repr

/-- What leaves the block: the model's own record of it. -/
structure Out where
  /-- data returned by the last control-die read -/
  cdRead : List Byte := []
  /-- POISON of that data -/
  cdPoison : Bool := false
  /-- answer to the last sideband request -/
  resp : SbResp := {}
  /-- data bytes of the in-band interrupts raised, oldest first (R485) -/
  ibis : List Nat := []
  /-- flits sent on each port, oldest first -/
  flits : Tab (List Flit) := []
  /-- THERM_ALERT_N is asserted (low) -/
  alert : Bool := false
  deriving DecidableEq, Repr

/-- Power, thermal, night watch (chapter 11). -/
structure Pwr where
  /-- night watch (PWR_NW.STATE) -/
  nw : NwState := .active
  /-- PWR_BRAKE_N holds the brake (R400) -/
  pin : Bool := false
  /-- 10 µs measurements in a row more than 2 % above the effective cap with the ceiling at FLOOR (R396) -/
  overN : Nat := 0
  /-- the ceiling has gone below FLOOR under R396 -/
  under : Bool := false
  /-- last reading of each temperature sensor in °C (Table 11.4) -/
  temps : Tab (Option Nat) := []
  /-- module time since which a sensor has read 115 °C or more (R412) -/
  hotAt : Tab (Option Nat) := []
  /-- module time of the last change of an island's temperature limit (R410) -/
  thermAt : Tab (Option Nat) := []
  deriving DecidableEq, Repr

/-- Start and resets (chapter 12). -/
structure Boot where
  /-- how far the start sequence has come -/
  phase : BootPhase := .dark
  /-- the reset cause that the always-on supply has recorded (Table 12.3) -/
  cause : Nat := 0
  /-- the start that waits for REFCLK (R501) -/
  obs : Option StartObs := none
  /-- bytes of the flash device that differ from what was shipped (R419) -/
  flash : Tab (Option Byte) := []
  /-- the latest journal record (R424) -/
  jrn : Journal := {}
  /-- journal records in the present half: the next place, counted over both halves (R444) -/
  jrnNext : Nat := 0
  /-- SEQ of the configuration block applied at start (Table 13.3) -/
  cfgSeq : Nat := 0
  /-- its copy -/
  cfgCopy : Nat := 0
  /-- SHA-256 of it -/
  cfgHash : List Byte := List.replicate 32 0
  deriving DecidableEq, Repr

/-- Firmware and settings update (chapter 12). -/
structure UpdS where
  /-- state of the update session -/
  st : UpdState := .idle
  /-- the session has begun to write firmware parts (R435) -/
  begun : Bool := false
  /-- parts that the verified manifest names, bit part − 1 -/
  parts : Nat := 0
  /-- accesses that wait for the firmware pause to end, or for T2 to serve after night watch, oldest first (R416, R439) -/
  held : List Instr := []
  /-- module time at which GO was taken -/
  goAt : Nat := 0
  deriving DecidableEq, Repr

/-- Efast links and remote streams (chapter 09). -/
structure Lnk where
  /-- ports 0 to 31 -/
  ports : Tab Port := []
  /-- inbound queues, inbound bundle × 64 + VC × 16 + egress bundle; inbound bundle 8 = this module (R346) -/
  queues : Tab (List Fwd) := []
  /-- bundles that pause for a change of their ports, bit each (R347) -/
  paused : Nat := 0
  /-- remote streams, load × 64 + stream -/
  streams : Tab Stream := []
  /-- routed flits of this module to itself, oldest first -/
  own : List (List Byte) := []
  /-- LOST notices taken locally: load, stream, generation, oldest first (R351) -/
  localLost : List (Nat × Nat × Nat) := []
  deriving DecidableEq, Repr

/-- Topology and time (chapter 09). -/
structure Top where
  /-- the live table -/
  live : LiveTop := {}
  /-- LOCKED (R361) -/
  locked : Bool := false
  /-- HOLDOVER -/
  holdover : Bool := false
  /-- module time of the last TIME_PPS edge taken -/
  ppsAt : Option Nat := none
  /-- port toward the parent -/
  parent : Nat := 0
  /-- last offset measured, in ns -/
  offset : Int := 0
  /-- the last offset lay within ±5 ns -/
  good : Bool := false
  /-- nanoseconds still to be slewed -/
  slew : Int := 0
  /-- nanoseconds since the slew last moved module time -/
  slewFrac : Nat := 0
  /-- quarters of a nanosecond by which module time is ahead of the value it slows down for -/
  behind : Nat := 0
  /-- quarters of a nanosecond passed at the slow rate -/
  frac : Nat := 0
  deriving DecidableEq, Repr

/-- Identity and credentials (chapter 13). -/
structure Sec where
  /-- module identity, once a start has derived it (R448) -/
  ident : Nat := 0
  /-- link credential slots 0 and 1 -/
  creds : Tab Cred := []
  /-- a bottom tree is reserved: SEC_IDX.TREE names it (R452) -/
  held : Bool := false
  /-- sectors that failed in the reservation in progress (R454) -/
  tried : List Nat := []
  /-- attestation requests not yet served, oldest first (R455) -/
  attQ : List AttReq := []
  /-- the report or identity record in the management engine's own buffer (R473) -/
  buf : List Byte := []
  /-- state of that buffer -/
  bufSt : AttState := .idle
  deriving DecidableEq, Repr

/-- Read latches of control-space windows (R488). -/
structure Win where
  /-- latched request entry: its number and its 64 B -/
  req : Option (Nat × List Byte) := none
  /-- latched prefix entry: its number and its 32 B -/
  pfx : Option (Nat × List Byte) := none
  deriving DecidableEq, Repr

/-- The state of the block. -/
structure State where
  /-- the order number (R1, R2); LV9-A384 here (assumption log 8) -/
  variant : Variant := .a384
  /-- module time in ns (R8, TOP_TIME) -/
  now : Nat := 0
  /-- registers that hold what was written or recorded, by `regKey`; an unlisted one holds its reset value -/
  regs : Tab Word := []
  /-- bytes of T1, T2 and T3 by module physical address (R171); an unlisted byte reads 0 (assumption log 1) -/
  mem : List Host.Cell := []
  /-- carried poison, per 32 B of T1, T2 and T3: address ÷ 32 (R178) -/
  poison : Tab Bool := []
  fab : Fab := {}
  cell : Cells := {}
  exh : Exh := {}
  mov : Mov := {}
  arb : Arbs := {}
  srv : Srv := {}
  que : Que := {}
  ten : Tens := {}
  int : Integ := {}
  log : Log := {}
  mon : Mon := {}
  out : Out := {}
  pwr : Pwr := {}
  boot : Boot := {}
  upd : UpdS := {}
  lnk : Lnk := {}
  top : Top := {}
  sec : Sec := {}
  win : Win := {}
  /-- the model's own counter of free values (assumption log 6) -/
  fresh : Nat := 0
  /-- commands waiting, first in, first out -/
  pending : List Instr := []
  deriving DecidableEq, Repr

/-- The block right after reset, before its start sequence: every register at its reset value, every unit OFF or
empty, memory with nothing listed, no command waiting. -/
def State.reset : State := {}

/-- What a byte of memory that nothing has written reads as (assumption log 1). -/
def memDefault (_ : Nat) : Byte := 0

/-- Bays 0 to 15: the value at a key. -/
def State.bay (s : State) (k : Nat) : Bay := tget (fun _ => {}) s.fab.bays k
/-- Route slots, site × 32 + 16 × (epoch mod 2) + slot: a replacement holds both sets (R158): the value at a key. -/
def State.slot (s : State) (k : Nat) : Option Slot := tget (fun _ => none) s.fab.slots k
/-- Staged route slots that are not live yet (R158), keyed as `slots`: the value at a key. -/
def State.newSlot (s : State) (k : Nat) : Option Slot := tget (fun _ => none) s.fab.newSlots k
/-- The rest of each switch, by site: the value at a key. -/
def State.site (s : State) (k : Nat) : SiteSt := tget (fun _ => {}) s.fab.sites k
/-- Credit counts of senders, site × 2048 + output × 64 + stream; output 9 is the cell (R31): the value at a key. -/
def State.credit (s : State) (k : Nat) : Nat := tget (fun _ => 0) s.fab.credits k
/-- Credits on their way back to the sender (R32), keyed as `credits`: the value at a key. -/
def State.creditFly (s : State) (k : Nat) : Nat := tget (fun _ => 0) s.fab.creditsFly k
/-- Tokens on their way to a switch input, site × 16 + input, oldest first; input 15 is the configuration path as its docent feeds it (R154): the value at a key. -/
def State.wire (s : State) (k : Nat) : List Token := tget (fun _ => []) s.fab.wires k
/-- The slot granted last at each output link (R23), site × 16 + output: the value at a key. -/
def State.lastGrant (s : State) (k : Nat) : Nat := tget (fun _ => 0) s.fab.lastGrant k
/-- Clock islands 0 to 639: the value at a key. -/
def State.island (s : State) (k : Nat) : Island := tget (fun _ => {}) s.fab.islands k
/-- A-cells, by site: the value at a key. -/
def State.acell (s : State) (k : Nat) : ACell := tget (fun _ => {}) s.cell.acells k
/-- Accumulator entries, site × 8192 + bank × 4096 + entry (R56): the value at a key. -/
def State.acc (s : State) (k : Nat) : Acc := tget (fun _ => {}) s.cell.accs k
/-- FP32 runs of the 16-bit path (R78), keyed as `accs`: the value at a key. -/
def State.run16At (s : State) (k : Nat) : Nat := tget (fun _ => 0) s.cell.runs k
/-- Lane registers, site × 1024 + register × 64 + lane (R146): the value at a key. -/
def State.lane (s : State) (k : Nat) : Nat := tget (fun _ => 0) s.cell.lanes k
/-- Poison of 16 lanes of a lane register, site × 64 + register × 4 + quarter: the value at a key. -/
def State.laneBad (s : State) (k : Nat) : Bool := tget (fun _ => false) s.cell.lanePoison k
/-- Tokens at the local port of a cell, not yet consumed, site × 64 + stream: the value at a key. -/
def State.arrived (s : State) (k : Nat) : List Token := tget (fun _ => []) s.cell.arr k
/-- Tokens consumed and checked: the operand buffer of an A-cell, the port of an S-cell; site × 64 + stream: the value at a key. -/
def State.got (s : State) (k : Nat) : List Token := tget (fun _ => []) s.cell.got k
/-- Tokens a cell has produced and not yet sent, site × 64 + stream: the value at a key. -/
def State.cout (s : State) (k : Nat) : List Token := tget (fun _ => []) s.cell.cout k
/-- S-cells, by site: the value at a key. -/
def State.scell (s : State) (k : Nat) : SCell := tget (fun _ => {}) s.cell.scells k
/-- SRAM lines, site × 8192 + line (R99): the value at a key. -/
def State.line (s : State) (k : Nat) : Line := tget (fun _ => {}) s.cell.lines k
/-- Load handles 0 to 15: the value at a key. -/
def State.load (s : State) (k : Nat) : Load := tget (fun _ => {}) s.exh.loads k
/-- Verified-image entries 0 to 31 (R148): the value at a key. -/
def State.imgEntry (s : State) (k : Nat) : ImgEntry := tget (fun _ => {}) s.exh.imgs k
/-- Split groups 0 to 3: the value at a key. -/
def State.split (s : State) (k : Nat) : SplitSt := tget (fun _ => {}) s.exh.splits k
/-- Age order of verified-image entries. -/
def State.imgStamp (s : State) : Nat := s.exh.stamp
/-- Sites of a bay that have switched in the present replacement, by bay: the value at a key. -/
def State.wdogWait (s : State) (k : Nat) : Nat := tget (fun _ => 0) s.exh.wdogWait k
/-- Docents 0 to 63: the value at a key. -/
def State.doc (s : State) (k : Nat) : DocState := tget (fun _ => .enabled) s.mov.docs k
/-- Itinerary queues 0 to 63: the value at a key. -/
def State.iq (s : State) (k : Nat) : Iq := tget (fun _ => {}) s.mov.iqs k
/-- Moves in flight, by number: the value at a key. -/
def State.move (s : State) (k : Nat) : Option Move := tget (fun _ => none) s.mov.moves k
/-- Number of the next move. -/
def State.nextMove (s : State) : Nat := s.mov.nextMove
/-- Runs of units held in the pools (R206). -/
def State.allocs (s : State) : List Alloc := s.mov.allocs
/-- Consecutive unfinished calibration windows (R189), T2 stacks 0 to 7, T3 channels 16 to 31: the value at a key. -/
def State.calMiss (s : State) (k : Nat) : Nat := tget (fun _ => 0) s.mov.calMiss k
/-- Arbiters 0 to 305: the value at a key. -/
def State.arbiter (s : State) (k : Nat) : Arb := tget (fun _ => {}) s.arb.arbs k
/-- Requesters, arbiter × 128 + requester: the value at a key. -/
def State.arbReq (s : State) (k : Nat) : ArbReq := tget (fun _ => {}) s.arb.reqs k
/-- State of the serving block (SRV_CTL). -/
def State.srvSt (s : State) : UnitState := s.srv.st
/-- Request-table entries 0 to 16,383: the value at a key. -/
def State.req (s : State) (k : Nat) : Req := tget (fun _ => {}) s.srv.reqs k
/-- Prefix-table entries 0 to 12,287: the value at a key. -/
def State.pfx (s : State) (k : Nat) : Pfx := tget (fun _ => {}) s.srv.pfxs k
/-- Steps in progress: key h = the step of decode load h, key 16 + i = the first draw of request i: the value at a key. -/
def State.srvStep (s : State) (k : Nat) : Option SrvStep := tget (fun _ => none) s.srv.steps k
/-- Copies that each service pins (R244): the value at a key. -/
def State.svcPins (s : State) (k : Nat) : List Nat := tget (fun _ => []) s.srv.pins k
/-- Order of admission. -/
def State.reqStamp (s : State) : Nat := s.srv.stamp
/-- Samplers 0 to 3: the value at a key. -/
def State.smp (s : State) (k : Nat) : Smp := tget (fun _ => {}) s.srv.smps k
/-- Pairs 0 to 1,023: the value at a key. -/
def State.pair (s : State) (k : Nat) : Pair := tget (fun _ => {}) s.que.pairs k
/-- Intake of each tenant, oldest first: the value at a key. -/
def State.intake (s : State) (k : Nat) : List Intake := tget (fun _ => []) s.que.intakes k
/-- Commands taken and not completed, by number: the value at a key. -/
def State.cmd (s : State) (k : Nat) : Option Cmd := tget (fun _ => none) s.que.cmds k
/-- Number of the next command. -/
def State.nextCmd (s : State) : Nat := s.que.nextCmd
/-- Queue scanner state. -/
def State.scanner (s : State) : UnitState := s.que.scanner
/-- Module time at which the present rotation began. -/
def State.rotStart (s : State) : Nat := s.que.rotStart
/-- Pair visited last. -/
def State.rotLast (s : State) : Nat := s.que.rotLast
/-- UCIe modules in service, bit each. -/
def State.ucieUp (s : State) : Nat := s.que.ucieUp
/-- UCIe modules on repaired lanes. -/
def State.ucieRep (s : State) : Nat := s.que.ucieRep
/-- UCIe has trained (step 8). -/
def State.ucieOn (s : State) : Bool := s.que.ucieOn
/-- Tenants 0 to 63: the value at a key. -/
def State.tenant (s : State) (k : Nat) : Tenant := tget (fun _ => {}) s.ten.tenants k
/-- Engine time of each tenant not yet counted, in thousandths of an A-cell cycle (R310): the value at a key. -/
def State.engFrac (s : State) (k : Nat) : Nat := tget (fun _ => 0) s.ten.engFrac k
/-- Slice sets 0 to 3: the value at a key. -/
def State.slice (s : State) (k : Nat) : SliceSet := tget (fun _ => {}) s.ten.slices k
/-- The scan store: 64-bit words by offset ÷ 8 within the bay (R322): the value at a key. -/
def State.scanWord (s : State) (k : Nat) : Word := tget (fun _ => 0) s.ten.scanStore k
/-- Bay of the stored scan. -/
def State.scanBay (s : State) : Option Nat := s.ten.scanBay
/-- 0 idle, 1 scanning out, 2 scanning in. -/
def State.scanDir (s : State) : Nat := s.ten.scanDir
/-- Bays whose scan waits for a command boundary or a check (R321, R387). -/
def State.scanWant (s : State) : List Nat := s.ten.scanWant
/-- HALT_CAUSE; 0 = not halted. -/
def State.haltCause (s : State) : Nat := s.int.halt
/-- The hold is in effect (R380). -/
def State.holdOn (s : State) : Bool := s.int.holdOn
/-- Condition check of each bay: the value at a key. -/
def State.chk (s : State) (k : Nat) : Chk := tget (fun _ => {}) s.int.chks k
/-- SEQ that the next incident takes. -/
def State.logWr (s : State) : Nat := s.log.wr
/-- LOST. -/
def State.logLost (s : State) : Nat := s.log.lost
/-- Incidents waiting, oldest first (R482). -/
def State.logIntake (s : State) : List Incident := s.log.intake
/-- Slots 0 to 4,095: the value at a key. -/
def State.logSlot (s : State) (k : Nat) : Option Incident := tget (fun _ => none) s.log.slots k
/-- The read latch (LOG_RD_SEL). -/
def State.logLatch (s : State) : Option Incident := s.log.latch
/-- Less than 100 µs since the last IBI (R485). -/
def State.ibiHold (s : State) : Bool := s.log.ibiHold
/-- Highest class held back. -/
def State.ibiWait (s : State) : Option Nat := s.log.ibiWait
/-- Census units 0 to 63: the value at a key. -/
def State.census (s : State) (k : Nat) : Census := tget (fun _ => {}) s.mon.census k
/-- The management view: values by sensor ID (Table 14.3): the value at a key. -/
def State.viewVal (s : State) (k : Nat) : Nat := tget (fun _ => 0) s.mon.view k
/-- Module time of the view (R474). -/
def State.viewAt (s : State) : Nat := s.mon.viewAt
/-- No view has been taken for 5 ms, or since the reset. -/
def State.viewStale (s : State) : Bool := s.mon.stale
/-- What management last wrote to each effecter (R472): the value at a key. -/
def State.effecter (s : State) (k : Nat) : Option Eff := tget (fun _ => none) s.mon.effs k
/-- PLDM terminus ID. -/
def State.tid (s : State) : Nat := s.mon.tid
/-- I3C maximum write length. -/
def State.mwl (s : State) : Nat := s.mon.mwl
/-- I3C maximum read length. -/
def State.mrl (s : State) : Nat := s.mon.mrl
/-- Data returned by the last control-die read. -/
def State.cdRead (s : State) : List Byte := s.out.cdRead
/-- POISON of that data. -/
def State.cdPoison (s : State) : Bool := s.out.cdPoison
/-- Answer to the last sideband request. -/
def State.resp (s : State) : SbResp := s.out.resp
/-- Data bytes of the in-band interrupts raised, oldest first (R485). -/
def State.ibis (s : State) : List Nat := s.out.ibis
/-- Flits sent on each port, oldest first: the value at a key. -/
def State.sentFlits (s : State) (k : Nat) : List Flit := tget (fun _ => []) s.out.flits k
/-- THERM_ALERT_N is asserted (low). -/
def State.thermAlert (s : State) : Bool := s.out.alert
/-- Night watch (PWR_NW.STATE). -/
def State.nwSt (s : State) : NwState := s.pwr.nw
/-- PWR_BRAKE_N holds the brake (R400). -/
def State.pinBrake (s : State) : Bool := s.pwr.pin
/-- 10 µs measurements in a row more than 2 % above the effective cap with the ceiling at FLOOR (R396). -/
def State.capOver (s : State) : Nat := s.pwr.overN
/-- The ceiling has gone below FLOOR under R396. -/
def State.capUnder (s : State) : Bool := s.pwr.under
/-- Last reading of each temperature sensor in °C (Table 11.4): the value at a key. -/
def State.temp (s : State) (k : Nat) : Option Nat := tget (fun _ => none) s.pwr.temps k
/-- Module time since which a sensor has read 115 °C or more (R412): the value at a key. -/
def State.hotSince (s : State) (k : Nat) : Option Nat := tget (fun _ => none) s.pwr.hotAt k
/-- Module time of the last change of an island's temperature limit (R410): the value at a key. -/
def State.thermAt (s : State) (k : Nat) : Option Nat := tget (fun _ => none) s.pwr.thermAt k
/-- How far the start sequence has come. -/
def State.bootPhase (s : State) : BootPhase := s.boot.phase
/-- The reset cause that the always-on supply has recorded (Table 12.3). -/
def State.bootCause (s : State) : Nat := s.boot.cause
/-- The start that waits for REFCLK (R501). -/
def State.startObs (s : State) : Option StartObs := s.boot.obs
/-- Bytes of the flash device that differ from what was shipped (R419): the value at a key. -/
def State.flashAt (s : State) (k : Nat) : Option Byte := tget (fun _ => none) s.boot.flash k
/-- The latest journal record (R424). -/
def State.journal (s : State) : Journal := s.boot.jrn
/-- Journal records in the present half: the next place, counted over both halves (R444). -/
def State.jrnNext (s : State) : Nat := s.boot.jrnNext
/-- SEQ of the configuration block applied at start (Table 13.3). -/
def State.cfgSeq (s : State) : Nat := s.boot.cfgSeq
/-- Its copy. -/
def State.cfgCopy (s : State) : Nat := s.boot.cfgCopy
/-- SHA-256 of it. -/
def State.cfgHash (s : State) : List Byte := s.boot.cfgHash
/-- State of the update session. -/
def State.updSt (s : State) : UpdState := s.upd.st
/-- The session has begun to write firmware parts (R435). -/
def State.updBegun (s : State) : Bool := s.upd.begun
/-- Parts that the verified manifest names, bit part − 1. -/
def State.updManifest (s : State) : Nat := s.upd.parts
/-- Accesses that wait for the firmware pause to end, or for T2 to serve after night watch, oldest first (R416, R439). -/
def State.heldRows (s : State) : List Instr := s.upd.held
/-- Module time at which GO was taken. -/
def State.updGoAt (s : State) : Nat := s.upd.goAt
/-- Ports 0 to 31: the value at a key. -/
def State.port (s : State) (k : Nat) : Port := tget (fun _ => {}) s.lnk.ports k
/-- Inbound queues, inbound bundle × 64 + VC × 16 + egress bundle; inbound bundle 8 = this module (R346): the value at a key. -/
def State.lnkQ (s : State) (k : Nat) : List Fwd := tget (fun _ => []) s.lnk.queues k
/-- Bundles that pause for a change of their ports, bit each (R347). -/
def State.pausedBundles (s : State) : Nat := s.lnk.paused
/-- Remote streams, load × 64 + stream: the value at a key. -/
def State.stream (s : State) (k : Nat) : Stream := tget (fun _ => {}) s.lnk.streams k
/-- Routed flits of this module to itself, oldest first. -/
def State.localFlits (s : State) : List (List Byte) := s.lnk.own
/-- LOST notices taken locally: load, stream, generation, oldest first (R351). -/
def State.localLost (s : State) : List (Nat × Nat × Nat) := s.lnk.localLost
/-- The live table. -/
def State.live (s : State) : LiveTop := s.top.live
/-- LOCKED (R361). -/
def State.timeLocked (s : State) : Bool := s.top.locked
/-- HOLDOVER. -/
def State.holdover (s : State) : Bool := s.top.holdover
/-- Module time of the last TIME_PPS edge taken. -/
def State.ppsAt (s : State) : Option Nat := s.top.ppsAt
/-- Port toward the parent. -/
def State.timeParent (s : State) : Nat := s.top.parent
/-- Last offset measured, in ns. -/
def State.timeOffset (s : State) : Int := s.top.offset
/-- The last offset lay within ±5 ns. -/
def State.timeGood (s : State) : Bool := s.top.good
/-- Nanoseconds still to be slewed. -/
def State.slewLeft (s : State) : Int := s.top.slew
/-- Nanoseconds since the slew last moved module time. -/
def State.slewFrac (s : State) : Nat := s.top.slewFrac
/-- Quarters of a nanosecond by which module time is ahead of the value it slows down for. -/
def State.timeBehind (s : State) : Nat := s.top.behind
/-- Quarters of a nanosecond passed at the slow rate. -/
def State.timeFrac (s : State) : Nat := s.top.frac
/-- Module identity, once a start has derived it (R448). -/
def State.ident (s : State) : Nat := s.sec.ident
/-- Link credential slots 0 and 1: the value at a key. -/
def State.cred (s : State) (k : Nat) : Cred := tget (fun _ => {}) s.sec.creds k
/-- A bottom tree is reserved: SEC_IDX.TREE names it (R452). -/
def State.treeHeld (s : State) : Bool := s.sec.held
/-- Sectors that failed in the reservation in progress (R454). -/
def State.idxTried (s : State) : List Nat := s.sec.tried
/-- Attestation requests not yet served, oldest first (R455). -/
def State.attQ (s : State) : List AttReq := s.sec.attQ
/-- The report or identity record in the management engine's own buffer (R473). -/
def State.attBuf (s : State) : List Byte := s.sec.buf
/-- State of that buffer. -/
def State.attBufSt (s : State) : AttState := s.sec.bufSt
/-- Latched request entry: its number and its 64 B. -/
def State.reqLatch (s : State) : Option (Nat × List Byte) := s.win.req
/-- Latched prefix entry: its number and its 32 B. -/
def State.pfxLatch (s : State) : Option (Nat × List Byte) := s.win.pfx

/-- What a register entry holds. -/
def State.reg (s : State) (off : Nat) (idx : Nat := 0) : Word := tget regReset s.regs (regKey off idx)

/-- Bits `[hi:lo]` of a register entry. -/
def State.fld (s : State) (off hi lo : Nat) (idx : Nat := 0) : Nat := bits hi lo (s.reg off idx).toNat

/-- One bit of a register entry. -/
def State.flag (s : State) (off i : Nat) (idx : Nat := 0) : Bool := (s.reg off idx).toNat.testBit i

/-- A byte of memory. -/
def State.byte (s : State) (a : Nat) : Byte := tget memDefault s.mem a

/-- `n` bytes of memory from an address. -/
def State.bytes (s : State) (a n : Nat) : List Byte := (List.range n).map (fun i => s.byte (a + i))

/-- The little-endian number in `n` bytes of memory. -/
def State.le (s : State) (a n : Nat) : Nat := leNat (s.bytes a n)

/-- Carried poison of the 32 B that holds an address. -/
def State.bad (s : State) (a : Nat) : Bool := tget (fun _ => false) s.poison (a / 32)

end Sys2Proof.Machine
end

