-- ==== Sys2Proof/Config.lean ====
section
/-!
DEFINITION. What the spec leaves to the part or to no one: values without a body, which no proof can see. A claim
about one holds whatever it is.
-/

namespace Sys2Proof

/-- Free value number `n`: a value that the spec does not state (assumption log 6). -/
opaque Config.freeNat : Nat → Nat

/-- A byte of the module's flash as shipped (R432; assumption log 9). -/
opaque Config.shippedFlash : Nat → Byte

/-- Tokens of one stream, less one, that a cell's local port holds before its switch must wait (R31; assumption log 10). -/
opaque Config.localPort : Nat

/-- The split target that a backlog gives when TOK_PER_BAY is 0, which no rule states (R166; assumption log 165). -/
opaque Config.splitAtZero : Nat → Nat

/-- Coefficient `coef` of segment `seg` of special function `fn`, an FP32 bit pattern: the spec says where the table is
read and gives no value of it (R88, R90; assumption log 19). -/
opaque Config.sfuCoef (fn seg coef : Nat) : BitVec 32

/-- Reduction constant 0 to 3 of the special-function table: log2e, ln2_hi, ln2_lo, ln2 (assumption log 19). -/
opaque Config.sfuConst (i : Nat) : BitVec 32

/-- The encapsulation key of the ML-KEM-768 key pair made from random draw `n`, as bytes (R467; assumption log 46). -/
opaque Config.kemPub : Nat → Nat → Byte

/-- The ciphertext and the secret that an encapsulation to a key makes from random draw `n` (R467; assumption log 46). -/
opaque Config.kemCipher : List Byte → Nat → Nat → Byte
opaque Config.kemShared : List Byte → Nat → Nat → Byte

/-- The secret that the key pair of draw `n` opens a ciphertext to (R467; assumption log 46). -/
opaque Config.kemOpen : Nat → List Byte → Nat → Byte

/-- Coordinate of the rack's time root in dimension 0 (X) or 1 (Y): no register holds it (R361; assumption log 51). -/
opaque Config.timeRoot : Nat → Nat

/-- HSS signatures of the device attestation key over a message with leaf `leaf` of bottom tree `tree`, byte `i`
(R451, R458; assumption log 47). -/
opaque Config.deviceSig : List Byte → Nat → Nat → Nat → Byte

/-- Length and bytes of the traversal state that a reservation of tree `q` writes (R453; assumption log 47). -/
opaque Config.treeStateLen : Nat → Nat
opaque Config.treeState : Nat → Nat → Byte

/-- The power model of this module in W as calibrated: outside the fabric, all docents, the fabric at a clock code
(R393; assumption log 58). -/
opaque Config.pFix : Nat
opaque Config.pDoc : Nat
opaque Config.pFab : Nat → Nat

/-- FMT_VER (0), COUNT (1) and SEQ (2) of the header over a live topology table of a VERSION, for its hash: the table has
them only in flash (R429, Table 13.3; assumption log 59). -/
opaque Config.topoHead : Nat → Nat → Nat

/-- A configuration block converted to a format: its records' number and bytes (R428; assumption log 60). -/
opaque Config.convCount : List Byte → Nat → Nat
opaque Config.convByte : List Byte → Nat → Nat → Byte

/-- Answers of the sideband that its standards and the running firmware fix and the spec does not state, number `i` of
item `item` (R469; assumption log 61). -/
opaque Config.sideband : Nat → Nat → Nat

end Sys2Proof
end

