-- ==== Sys2Proof/Machine/Act.lean ====
section
/-!
DEFINITION. What a step can do to the state, said once: the primitive changes (`Upd`), each applied by `applyUpd`,
and the scripts built from them (`Act`): a change, a sequence, or a script that depends on the state reached so far.
Every meaning of this model is a script, so a property kept by every primitive change is kept by every step.
-/

namespace Sys2Proof.Machine

/-- A primitive change of the state. -/
inductive Upd where
  /-- module time becomes `t` -/
  | now (t : Nat)
  /-- register entry `idx` of the register at `off` becomes `v`, its reserved bits staying zero (R13) -/
  | reg (off idx : Nat) (v : Nat)
  /-- a byte of memory is written -/
  | byte (a : Nat) (v : Byte)
  /-- carried poison of the 32 B unit `k` is set or cleared -/
  | bad (k : Nat) (b : Bool)
  /-- the next free value will be number `n` -/
  | fresh (n : Nat)
  /-- every volatile part returns to its state at reset; the order number, the flash and what the always-on supply keeps stay (R422) -/
  | wipe
  /-- bays 0 to 15 -/
  | bay (k : Nat) (v : Bay)
  /-- route slots, site × 32 + 16 × (epoch mod 2) + slot: a replacement holds both sets (R158) -/
  | slot (k : Nat) (v : Option Slot)
  /-- staged route slots that are not live yet (R158), keyed as `slots` -/
  | newSlot (k : Nat) (v : Option Slot)
  /-- the rest of each switch, by site -/
  | site (k : Nat) (v : SiteSt)
  /-- credit counts of senders, site × 2048 + output × 64 + stream; output 9 is the cell (R31) -/
  | credit (k : Nat) (v : Nat)
  /-- credits on their way back to the sender (R32), keyed as `credits` -/
  | creditFly (k : Nat) (v : Nat)
  /-- tokens on their way to a switch input, site × 16 + input, oldest first; input 15 is the configuration path as its docent feeds it (R154) -/
  | wire (k : Nat) (v : List Token)
  /-- the slot granted last at each output link (R23), site × 16 + output -/
  | lastGrant (k : Nat) (v : Nat)
  /-- clock islands 0 to 639 -/
  | island (k : Nat) (v : Island)
  /-- A-cells, by site -/
  | acell (k : Nat) (v : ACell)
  /-- accumulator entries, site × 8192 + bank × 4096 + entry (R56) -/
  | acc (k : Nat) (v : Acc)
  /-- FP32 runs of the 16-bit path (R78), keyed as `accs` -/
  | run16At (k : Nat) (v : Nat)
  /-- lane registers, site × 1024 + register × 64 + lane (R146) -/
  | lane (k : Nat) (v : Nat)
  /-- poison of 16 lanes of a lane register, site × 64 + register × 4 + quarter -/
  | laneBad (k : Nat) (v : Bool)
  /-- tokens at the local port of a cell, not yet consumed, site × 64 + stream -/
  | arrived (k : Nat) (v : List Token)
  /-- tokens consumed and checked: the operand buffer of an A-cell, the port of an S-cell; site × 64 + stream -/
  | got (k : Nat) (v : List Token)
  /-- tokens a cell has produced and not yet sent, site × 64 + stream -/
  | cout (k : Nat) (v : List Token)
  /-- S-cells, by site -/
  | scell (k : Nat) (v : SCell)
  /-- SRAM lines, site × 8192 + line (R99) -/
  | line (k : Nat) (v : Line)
  /-- load handles 0 to 15 -/
  | load (k : Nat) (v : Load)
  /-- verified-image entries 0 to 31 (R148) -/
  | imgEntry (k : Nat) (v : ImgEntry)
  /-- split groups 0 to 3 -/
  | split (k : Nat) (v : SplitSt)
  /-- age order of verified-image entries -/
  | imgStamp (v : Nat)
  /-- sites of a bay that have switched in the present replacement, by bay -/
  | wdogWait (k : Nat) (v : Nat)
  /-- docents 0 to 63 -/
  | doc (k : Nat) (v : DocState)
  /-- itinerary queues 0 to 63 -/
  | iq (k : Nat) (v : Iq)
  /-- moves in flight, by number -/
  | move (k : Nat) (v : Option Move)
  /-- number of the next move -/
  | nextMove (v : Nat)
  /-- runs of units held in the pools (R206) -/
  | allocs (v : List Alloc)
  /-- consecutive unfinished calibration windows (R189), T2 stacks 0 to 7, T3 channels 16 to 31 -/
  | calMiss (k : Nat) (v : Nat)
  /-- arbiters 0 to 305 -/
  | arbiter (k : Nat) (v : Arb)
  /-- requesters, arbiter × 128 + requester -/
  | arbReq (k : Nat) (v : ArbReq)
  /-- state of the serving block (SRV_CTL) -/
  | srvSt (v : UnitState)
  /-- request-table entries 0 to 16,383 -/
  | req (k : Nat) (v : Req)
  /-- prefix-table entries 0 to 12,287 -/
  | pfx (k : Nat) (v : Pfx)
  /-- steps in progress: key h = the step of decode load h, key 16 + i = the first draw of request i -/
  | srvStep (k : Nat) (v : Option SrvStep)
  /-- copies that each service pins (R244) -/
  | svcPins (k : Nat) (v : List Nat)
  /-- order of admission -/
  | reqStamp (v : Nat)
  /-- samplers 0 to 3 -/
  | smp (k : Nat) (v : Smp)
  /-- pairs 0 to 1,023 -/
  | pair (k : Nat) (v : Pair)
  /-- intake of each tenant, oldest first -/
  | intake (k : Nat) (v : List Intake)
  /-- commands taken and not completed, by number -/
  | cmd (k : Nat) (v : Option Cmd)
  /-- number of the next command -/
  | nextCmd (v : Nat)
  /-- queue scanner state -/
  | scanner (v : UnitState)
  /-- module time at which the present rotation began -/
  | rotStart (v : Nat)
  /-- pair visited last -/
  | rotLast (v : Nat)
  /-- UCIe modules in service, bit each -/
  | ucieUp (v : Nat)
  /-- UCIe modules on repaired lanes -/
  | ucieRep (v : Nat)
  /-- UCIe has trained (step 8) -/
  | ucieOn (v : Bool)
  /-- tenants 0 to 63 -/
  | tenant (k : Nat) (v : Tenant)
  /-- engine time of each tenant not yet counted, in thousandths of an A-cell cycle (R310) -/
  | engFrac (k : Nat) (v : Nat)
  /-- slice sets 0 to 3 -/
  | slice (k : Nat) (v : SliceSet)
  /-- the scan store: 64-bit words by offset ÷ 8 within the bay (R322) -/
  | scanWord (k : Nat) (v : Word)
  /-- bay of the stored scan -/
  | scanBay (v : Option Nat)
  /-- 0 idle, 1 scanning out, 2 scanning in -/
  | scanDir (v : Nat)
  /-- bays whose scan waits for a command boundary or a check (R321, R387) -/
  | scanWant (v : List Nat)
  /-- HALT_CAUSE; 0 = not halted -/
  | haltCause (v : Nat)
  /-- the hold is in effect (R380) -/
  | holdOn (v : Bool)
  /-- condition check of each bay -/
  | chk (k : Nat) (v : Chk)
  /-- SEQ that the next incident takes -/
  | logWr (v : Nat)
  /-- LOST -/
  | logLost (v : Nat)
  /-- incidents waiting, oldest first (R482) -/
  | logIntake (v : List Incident)
  /-- slots 0 to 4,095 -/
  | logSlot (k : Nat) (v : Option Incident)
  /-- the read latch (LOG_RD_SEL) -/
  | logLatch (v : Option Incident)
  /-- less than 100 µs since the last IBI (R485) -/
  | ibiHold (v : Bool)
  /-- highest class held back -/
  | ibiWait (v : Option Nat)
  /-- census units 0 to 63 -/
  | census (k : Nat) (v : Census)
  /-- the management view: values by sensor ID (Table 14.3) -/
  | viewVal (k : Nat) (v : Nat)
  /-- module time of the view (R474) -/
  | viewAt (v : Nat)
  /-- no view has been taken for 5 ms, or since the reset -/
  | viewStale (v : Bool)
  /-- what management last wrote to each effecter (R472) -/
  | effecter (k : Nat) (v : Option Eff)
  /-- PLDM terminus ID -/
  | tid (v : Nat)
  /-- I3C maximum write length -/
  | mwl (v : Nat)
  /-- I3C maximum read length -/
  | mrl (v : Nat)
  /-- data returned by the last control-die read -/
  | cdRead (v : List Byte)
  /-- POISON of that data -/
  | cdPoison (v : Bool)
  /-- answer to the last sideband request -/
  | resp (v : SbResp)
  /-- data bytes of the in-band interrupts raised, oldest first (R485) -/
  | ibis (v : List Nat)
  /-- flits sent on each port, oldest first -/
  | sentFlits (k : Nat) (v : List Flit)
  /-- THERM_ALERT_N is asserted (low) -/
  | thermAlert (v : Bool)
  /-- night watch (PWR_NW.STATE) -/
  | nwSt (v : NwState)
  /-- PWR_BRAKE_N holds the brake (R400) -/
  | pinBrake (v : Bool)
  /-- 10 µs measurements in a row more than 2 % above the effective cap with the ceiling at FLOOR (R396) -/
  | capOver (v : Nat)
  /-- the ceiling has gone below FLOOR under R396 -/
  | capUnder (v : Bool)
  /-- last reading of each temperature sensor in °C (Table 11.4) -/
  | temp (k : Nat) (v : Option Nat)
  /-- module time since which a sensor has read 115 °C or more (R412) -/
  | hotSince (k : Nat) (v : Option Nat)
  /-- module time of the last change of an island's temperature limit (R410) -/
  | thermAt (k : Nat) (v : Option Nat)
  /-- how far the start sequence has come -/
  | bootPhase (v : BootPhase)
  /-- the reset cause that the always-on supply has recorded (Table 12.3) -/
  | bootCause (v : Nat)
  /-- the start that waits for REFCLK (R501) -/
  | startObs (v : Option StartObs)
  /-- bytes of the flash device that differ from what was shipped (R419) -/
  | flashAt (k : Nat) (v : Option Byte)
  /-- the latest journal record (R424) -/
  | journal (v : Journal)
  /-- journal records in the present half: the next place, counted over both halves (R444) -/
  | jrnNext (v : Nat)
  /-- SEQ of the configuration block applied at start (Table 13.3) -/
  | cfgSeq (v : Nat)
  /-- its copy -/
  | cfgCopy (v : Nat)
  /-- SHA-256 of it -/
  | cfgHash (v : List Byte)
  /-- state of the update session -/
  | updSt (v : UpdState)
  /-- the session has begun to write firmware parts (R435) -/
  | updBegun (v : Bool)
  /-- parts that the verified manifest names, bit part − 1 -/
  | updManifest (v : Nat)
  /-- accesses that wait for the firmware pause to end, or for T2 to serve after night watch, oldest first (R416, R439) -/
  | heldRows (v : List Instr)
  /-- module time at which GO was taken -/
  | updGoAt (v : Nat)
  /-- ports 0 to 31 -/
  | port (k : Nat) (v : Port)
  /-- inbound queues, inbound bundle × 64 + VC × 16 + egress bundle; inbound bundle 8 = this module (R346) -/
  | lnkQ (k : Nat) (v : List Fwd)
  /-- bundles that pause for a change of their ports, bit each (R347) -/
  | pausedBundles (v : Nat)
  /-- remote streams, load × 64 + stream -/
  | stream (k : Nat) (v : Stream)
  /-- routed flits of this module to itself, oldest first -/
  | localFlits (v : List (List Byte))
  /-- LOST notices taken locally: load, stream, generation, oldest first (R351) -/
  | localLost (v : List (Nat × Nat × Nat))
  /-- the live table -/
  | live (v : LiveTop)
  /-- LOCKED (R361) -/
  | timeLocked (v : Bool)
  /-- HOLDOVER -/
  | holdover (v : Bool)
  /-- module time of the last TIME_PPS edge taken -/
  | ppsAt (v : Option Nat)
  /-- port toward the parent -/
  | timeParent (v : Nat)
  /-- last offset measured, in ns -/
  | timeOffset (v : Int)
  /-- the last offset lay within ±5 ns -/
  | timeGood (v : Bool)
  /-- nanoseconds still to be slewed -/
  | slewLeft (v : Int)
  /-- nanoseconds since the slew last moved module time -/
  | slewFrac (v : Nat)
  /-- quarters of a nanosecond by which module time is ahead of the value it slows down for -/
  | timeBehind (v : Nat)
  /-- quarters of a nanosecond passed at the slow rate -/
  | timeFrac (v : Nat)
  /-- module identity, once a start has derived it (R448) -/
  | ident (v : Nat)
  /-- link credential slots 0 and 1 -/
  | cred (k : Nat) (v : Cred)
  /-- a bottom tree is reserved: SEC_IDX.TREE names it (R452) -/
  | treeHeld (v : Bool)
  /-- sectors that failed in the reservation in progress (R454) -/
  | idxTried (v : List Nat)
  /-- attestation requests not yet served, oldest first (R455) -/
  | attQ (v : List AttReq)
  /-- the report or identity record in the management engine's own buffer (R473) -/
  | attBuf (v : List Byte)
  /-- state of that buffer -/
  | attBufSt (v : AttState)
  /-- latched request entry: its number and its 64 B -/
  | reqLatch (v : Option (Nat × List Byte))
  /-- latched prefix entry: its number and its 32 B -/
  | pfxLatch (v : Option (Nat × List Byte))


/-- The effect of a primitive change. -/
def applyUpd : Upd → State → State
  | .now t, s => { s with now := t }
  | .reg off idx v, s =>
    { s with regs := tset regReset s.regs (regKey off idx) (BitVec.ofNat 64 (v &&& regMask off)) }
  | .byte a v, s => { s with mem := tset memDefault s.mem a v }
  | .bad k b, s => { s with poison := tset (fun _ => false) s.poison k b }
  | .fresh n, s => { s with fresh := n }
  | .wipe, s => { ({} : State) with
      variant := s.variant, fresh := s.fresh, pending := s.pending
      boot := { cause := s.boot.cause, flash := s.boot.flash } }
  | .bay k v, s => { s with fab := { s.fab with bays := tset (fun _ => {}) s.fab.bays k v } }
  | .slot k v, s => { s with fab := { s.fab with slots := tset (fun _ => none) s.fab.slots k v } }
  | .newSlot k v, s => { s with fab := { s.fab with newSlots := tset (fun _ => none) s.fab.newSlots k v } }
  | .site k v, s => { s with fab := { s.fab with sites := tset (fun _ => {}) s.fab.sites k v } }
  | .credit k v, s => { s with fab := { s.fab with credits := tset (fun _ => 0) s.fab.credits k v } }
  | .creditFly k v, s => { s with fab := { s.fab with creditsFly := tset (fun _ => 0) s.fab.creditsFly k v } }
  | .wire k v, s => { s with fab := { s.fab with wires := tset (fun _ => []) s.fab.wires k v } }
  | .lastGrant k v, s => { s with fab := { s.fab with lastGrant := tset (fun _ => 0) s.fab.lastGrant k v } }
  | .island k v, s => { s with fab := { s.fab with islands := tset (fun _ => {}) s.fab.islands k v } }
  | .acell k v, s => { s with cell := { s.cell with acells := tset (fun _ => {}) s.cell.acells k v } }
  | .acc k v, s => { s with cell := { s.cell with accs := tset (fun _ => {}) s.cell.accs k v } }
  | .run16At k v, s => { s with cell := { s.cell with runs := tset (fun _ => 0) s.cell.runs k v } }
  | .lane k v, s => { s with cell := { s.cell with lanes := tset (fun _ => 0) s.cell.lanes k v } }
  | .laneBad k v, s => { s with cell := { s.cell with lanePoison := tset (fun _ => false) s.cell.lanePoison k v } }
  | .arrived k v, s => { s with cell := { s.cell with arr := tset (fun _ => []) s.cell.arr k v } }
  | .got k v, s => { s with cell := { s.cell with got := tset (fun _ => []) s.cell.got k v } }
  | .cout k v, s => { s with cell := { s.cell with cout := tset (fun _ => []) s.cell.cout k v } }
  | .scell k v, s => { s with cell := { s.cell with scells := tset (fun _ => {}) s.cell.scells k v } }
  | .line k v, s => { s with cell := { s.cell with lines := tset (fun _ => {}) s.cell.lines k v } }
  | .load k v, s => { s with exh := { s.exh with loads := tset (fun _ => {}) s.exh.loads k v } }
  | .imgEntry k v, s => { s with exh := { s.exh with imgs := tset (fun _ => {}) s.exh.imgs k v } }
  | .split k v, s => { s with exh := { s.exh with splits := tset (fun _ => {}) s.exh.splits k v } }
  | .imgStamp v, s => { s with exh := { s.exh with stamp := v } }
  | .wdogWait k v, s => { s with exh := { s.exh with wdogWait := tset (fun _ => 0) s.exh.wdogWait k v } }
  | .doc k v, s => { s with mov := { s.mov with docs := tset (fun _ => .enabled) s.mov.docs k v } }
  | .iq k v, s => { s with mov := { s.mov with iqs := tset (fun _ => {}) s.mov.iqs k v } }
  | .move k v, s => { s with mov := { s.mov with moves := tset (fun _ => none) s.mov.moves k v } }
  | .nextMove v, s => { s with mov := { s.mov with nextMove := v } }
  | .allocs v, s => { s with mov := { s.mov with allocs := v } }
  | .calMiss k v, s => { s with mov := { s.mov with calMiss := tset (fun _ => 0) s.mov.calMiss k v } }
  | .arbiter k v, s => { s with arb := { s.arb with arbs := tset (fun _ => {}) s.arb.arbs k v } }
  | .arbReq k v, s => { s with arb := { s.arb with reqs := tset (fun _ => {}) s.arb.reqs k v } }
  | .srvSt v, s => { s with srv := { s.srv with st := v } }
  | .req k v, s => { s with srv := { s.srv with reqs := tset (fun _ => {}) s.srv.reqs k v } }
  | .pfx k v, s => { s with srv := { s.srv with pfxs := tset (fun _ => {}) s.srv.pfxs k v } }
  | .srvStep k v, s => { s with srv := { s.srv with steps := tset (fun _ => none) s.srv.steps k v } }
  | .svcPins k v, s => { s with srv := { s.srv with pins := tset (fun _ => []) s.srv.pins k v } }
  | .reqStamp v, s => { s with srv := { s.srv with stamp := v } }
  | .smp k v, s => { s with srv := { s.srv with smps := tset (fun _ => {}) s.srv.smps k v } }
  | .pair k v, s => { s with que := { s.que with pairs := tset (fun _ => {}) s.que.pairs k v } }
  | .intake k v, s => { s with que := { s.que with intakes := tset (fun _ => []) s.que.intakes k v } }
  | .cmd k v, s => { s with que := { s.que with cmds := tset (fun _ => none) s.que.cmds k v } }
  | .nextCmd v, s => { s with que := { s.que with nextCmd := v } }
  | .scanner v, s => { s with que := { s.que with scanner := v } }
  | .rotStart v, s => { s with que := { s.que with rotStart := v } }
  | .rotLast v, s => { s with que := { s.que with rotLast := v } }
  | .ucieUp v, s => { s with que := { s.que with ucieUp := v } }
  | .ucieRep v, s => { s with que := { s.que with ucieRep := v } }
  | .ucieOn v, s => { s with que := { s.que with ucieOn := v } }
  | .tenant k v, s => { s with ten := { s.ten with tenants := tset (fun _ => {}) s.ten.tenants k v } }
  | .engFrac k v, s => { s with ten := { s.ten with engFrac := tset (fun _ => 0) s.ten.engFrac k v } }
  | .slice k v, s => { s with ten := { s.ten with slices := tset (fun _ => {}) s.ten.slices k v } }
  | .scanWord k v, s => { s with ten := { s.ten with scanStore := tset (fun _ => 0) s.ten.scanStore k v } }
  | .scanBay v, s => { s with ten := { s.ten with scanBay := v } }
  | .scanDir v, s => { s with ten := { s.ten with scanDir := v } }
  | .scanWant v, s => { s with ten := { s.ten with scanWant := v } }
  | .haltCause v, s => { s with int := { s.int with halt := v } }
  | .holdOn v, s => { s with int := { s.int with holdOn := v } }
  | .chk k v, s => { s with int := { s.int with chks := tset (fun _ => {}) s.int.chks k v } }
  | .logWr v, s => { s with log := { s.log with wr := v } }
  | .logLost v, s => { s with log := { s.log with lost := v } }
  | .logIntake v, s => { s with log := { s.log with intake := v } }
  | .logSlot k v, s => { s with log := { s.log with slots := tset (fun _ => none) s.log.slots k v } }
  | .logLatch v, s => { s with log := { s.log with latch := v } }
  | .ibiHold v, s => { s with log := { s.log with ibiHold := v } }
  | .ibiWait v, s => { s with log := { s.log with ibiWait := v } }
  | .census k v, s => { s with mon := { s.mon with census := tset (fun _ => {}) s.mon.census k v } }
  | .viewVal k v, s => { s with mon := { s.mon with view := tset (fun _ => 0) s.mon.view k v } }
  | .viewAt v, s => { s with mon := { s.mon with viewAt := v } }
  | .viewStale v, s => { s with mon := { s.mon with stale := v } }
  | .effecter k v, s => { s with mon := { s.mon with effs := tset (fun _ => none) s.mon.effs k v } }
  | .tid v, s => { s with mon := { s.mon with tid := v } }
  | .mwl v, s => { s with mon := { s.mon with mwl := v } }
  | .mrl v, s => { s with mon := { s.mon with mrl := v } }
  | .cdRead v, s => { s with out := { s.out with cdRead := v } }
  | .cdPoison v, s => { s with out := { s.out with cdPoison := v } }
  | .resp v, s => { s with out := { s.out with resp := v } }
  | .ibis v, s => { s with out := { s.out with ibis := v } }
  | .sentFlits k v, s => { s with out := { s.out with flits := tset (fun _ => []) s.out.flits k v } }
  | .thermAlert v, s => { s with out := { s.out with alert := v } }
  | .nwSt v, s => { s with pwr := { s.pwr with nw := v } }
  | .pinBrake v, s => { s with pwr := { s.pwr with pin := v } }
  | .capOver v, s => { s with pwr := { s.pwr with overN := v } }
  | .capUnder v, s => { s with pwr := { s.pwr with under := v } }
  | .temp k v, s => { s with pwr := { s.pwr with temps := tset (fun _ => none) s.pwr.temps k v } }
  | .hotSince k v, s => { s with pwr := { s.pwr with hotAt := tset (fun _ => none) s.pwr.hotAt k v } }
  | .thermAt k v, s => { s with pwr := { s.pwr with thermAt := tset (fun _ => none) s.pwr.thermAt k v } }
  | .bootPhase v, s => { s with boot := { s.boot with phase := v } }
  | .bootCause v, s => { s with boot := { s.boot with cause := v } }
  | .startObs v, s => { s with boot := { s.boot with obs := v } }
  | .flashAt k v, s => { s with boot := { s.boot with flash := tset (fun _ => none) s.boot.flash k v } }
  | .journal v, s => { s with boot := { s.boot with jrn := v } }
  | .jrnNext v, s => { s with boot := { s.boot with jrnNext := v } }
  | .cfgSeq v, s => { s with boot := { s.boot with cfgSeq := v } }
  | .cfgCopy v, s => { s with boot := { s.boot with cfgCopy := v } }
  | .cfgHash v, s => { s with boot := { s.boot with cfgHash := v } }
  | .updSt v, s => { s with upd := { s.upd with st := v } }
  | .updBegun v, s => { s with upd := { s.upd with begun := v } }
  | .updManifest v, s => { s with upd := { s.upd with parts := v } }
  | .heldRows v, s => { s with upd := { s.upd with held := v } }
  | .updGoAt v, s => { s with upd := { s.upd with goAt := v } }
  | .port k v, s => { s with lnk := { s.lnk with ports := tset (fun _ => {}) s.lnk.ports k v } }
  | .lnkQ k v, s => { s with lnk := { s.lnk with queues := tset (fun _ => []) s.lnk.queues k v } }
  | .pausedBundles v, s => { s with lnk := { s.lnk with paused := v } }
  | .stream k v, s => { s with lnk := { s.lnk with streams := tset (fun _ => {}) s.lnk.streams k v } }
  | .localFlits v, s => { s with lnk := { s.lnk with own := v } }
  | .localLost v, s => { s with lnk := { s.lnk with localLost := v } }
  | .live v, s => { s with top := { s.top with live := v } }
  | .timeLocked v, s => { s with top := { s.top with locked := v } }
  | .holdover v, s => { s with top := { s.top with holdover := v } }
  | .ppsAt v, s => { s with top := { s.top with ppsAt := v } }
  | .timeParent v, s => { s with top := { s.top with parent := v } }
  | .timeOffset v, s => { s with top := { s.top with offset := v } }
  | .timeGood v, s => { s with top := { s.top with good := v } }
  | .slewLeft v, s => { s with top := { s.top with slew := v } }
  | .slewFrac v, s => { s with top := { s.top with slewFrac := v } }
  | .timeBehind v, s => { s with top := { s.top with behind := v } }
  | .timeFrac v, s => { s with top := { s.top with frac := v } }
  | .ident v, s => { s with sec := { s.sec with ident := v } }
  | .cred k v, s => { s with sec := { s.sec with creds := tset (fun _ => {}) s.sec.creds k v } }
  | .treeHeld v, s => { s with sec := { s.sec with held := v } }
  | .idxTried v, s => { s with sec := { s.sec with tried := v } }
  | .attQ v, s => { s with sec := { s.sec with attQ := v } }
  | .attBuf v, s => { s with sec := { s.sec with buf := v } }
  | .attBufSt v, s => { s with sec := { s.sec with bufSt := v } }
  | .reqLatch v, s => { s with win := { s.win with req := v } }
  | .pfxLatch v, s => { s with win := { s.win with pfx := v } }

/-- A script of changes. -/
inductive Act where
  /-- nothing -/
  | nop
  /-- one primitive change -/
  | upd (u : Upd)
  /-- one script, then another -/
  | seq (a b : Act)
  /-- a script chosen from the state reached -/
  | dyn (f : State → Act)

/-- Run a script. -/
def run : Act → State → State
  | .nop, s => s
  | .upd u, s => applyUpd u s
  | .seq a b, s => run b (run a s)
  | .dyn f, s => run (f s) s

/-- Scripts one after another. -/
def seqs : List Act → Act
  | [] => .nop
  | [a] => a
  | a :: b :: t => .seq a (seqs (b :: t))

/-- The same script for each element of a list, in order. -/
def each {α : Type} (xs : List α) (f : α → Act) : Act := seqs (xs.map f)

/-- A script under a condition on the state. -/
def whenS (c : State → Bool) (a : Act) : Act := .dyn (fun s => if c s then a else .nop)

/-- A script under a fixed condition. -/
def when' (c : Bool) (a : Act) : Act := if c then a else .nop

/-- A script that needs a value. -/
def withSome {α : Type} (x : Option α) (f : α → Act) : Act :=
  match x with
  | some v => f v
  | none => .nop

/-- Change the entry of `bays` at a key. -/
def modBay (k : Nat) (f : Bay → Bay) : Act := .dyn (fun s => .upd (.bay k (f (s.bay k))))
/-- Change the entry of `slots` at a key. -/
def modSlot (k : Nat) (f : Option Slot → Option Slot) : Act := .dyn (fun s => .upd (.slot k (f (s.slot k))))
/-- Change the entry of `newSlots` at a key. -/
def modNewSlot (k : Nat) (f : Option Slot → Option Slot) : Act := .dyn (fun s => .upd (.newSlot k (f (s.newSlot k))))
/-- Change the entry of `sites` at a key. -/
def modSite (k : Nat) (f : SiteSt → SiteSt) : Act := .dyn (fun s => .upd (.site k (f (s.site k))))
/-- Change the entry of `credits` at a key. -/
def modCredit (k : Nat) (f : Nat → Nat) : Act := .dyn (fun s => .upd (.credit k (f (s.credit k))))
/-- Change the entry of `creditsFly` at a key. -/
def modCreditFly (k : Nat) (f : Nat → Nat) : Act := .dyn (fun s => .upd (.creditFly k (f (s.creditFly k))))
/-- Change the entry of `wires` at a key. -/
def modWire (k : Nat) (f : List Token → List Token) : Act := .dyn (fun s => .upd (.wire k (f (s.wire k))))
/-- Change the entry of `lastGrant` at a key. -/
def modLastGrant (k : Nat) (f : Nat → Nat) : Act := .dyn (fun s => .upd (.lastGrant k (f (s.lastGrant k))))
/-- Change the entry of `islands` at a key. -/
def modIsland (k : Nat) (f : Island → Island) : Act := .dyn (fun s => .upd (.island k (f (s.island k))))
/-- Change the entry of `acells` at a key. -/
def modAcell (k : Nat) (f : ACell → ACell) : Act := .dyn (fun s => .upd (.acell k (f (s.acell k))))
/-- Change the entry of `accs` at a key. -/
def modAcc (k : Nat) (f : Acc → Acc) : Act := .dyn (fun s => .upd (.acc k (f (s.acc k))))
/-- Change the entry of `runs` at a key. -/
def modRun16At (k : Nat) (f : Nat → Nat) : Act := .dyn (fun s => .upd (.run16At k (f (s.run16At k))))
/-- Change the entry of `lanes` at a key. -/
def modLane (k : Nat) (f : Nat → Nat) : Act := .dyn (fun s => .upd (.lane k (f (s.lane k))))
/-- Change the entry of `lanePoison` at a key. -/
def modLaneBad (k : Nat) (f : Bool → Bool) : Act := .dyn (fun s => .upd (.laneBad k (f (s.laneBad k))))
/-- Change the entry of `arr` at a key. -/
def modArrived (k : Nat) (f : List Token → List Token) : Act := .dyn (fun s => .upd (.arrived k (f (s.arrived k))))
/-- Change the entry of `got` at a key. -/
def modGot (k : Nat) (f : List Token → List Token) : Act := .dyn (fun s => .upd (.got k (f (s.got k))))
/-- Change the entry of `cout` at a key. -/
def modCout (k : Nat) (f : List Token → List Token) : Act := .dyn (fun s => .upd (.cout k (f (s.cout k))))
/-- Change the entry of `scells` at a key. -/
def modScell (k : Nat) (f : SCell → SCell) : Act := .dyn (fun s => .upd (.scell k (f (s.scell k))))
/-- Change the entry of `lines` at a key. -/
def modLine (k : Nat) (f : Line → Line) : Act := .dyn (fun s => .upd (.line k (f (s.line k))))
/-- Change the entry of `loads` at a key. -/
def modLoad (k : Nat) (f : Load → Load) : Act := .dyn (fun s => .upd (.load k (f (s.load k))))
/-- Change the entry of `imgs` at a key. -/
def modImgEntry (k : Nat) (f : ImgEntry → ImgEntry) : Act := .dyn (fun s => .upd (.imgEntry k (f (s.imgEntry k))))
/-- Change the entry of `splits` at a key. -/
def modSplit (k : Nat) (f : SplitSt → SplitSt) : Act := .dyn (fun s => .upd (.split k (f (s.split k))))
/-- Change the entry of `wdogWait` at a key. -/
def modWdogWait (k : Nat) (f : Nat → Nat) : Act := .dyn (fun s => .upd (.wdogWait k (f (s.wdogWait k))))
/-- Change the entry of `docs` at a key. -/
def modDoc (k : Nat) (f : DocState → DocState) : Act := .dyn (fun s => .upd (.doc k (f (s.doc k))))
/-- Change the entry of `iqs` at a key. -/
def modIq (k : Nat) (f : Iq → Iq) : Act := .dyn (fun s => .upd (.iq k (f (s.iq k))))
/-- Change the entry of `moves` at a key. -/
def modMove (k : Nat) (f : Option Move → Option Move) : Act := .dyn (fun s => .upd (.move k (f (s.move k))))
/-- Change the entry of `calMiss` at a key. -/
def modCalMiss (k : Nat) (f : Nat → Nat) : Act := .dyn (fun s => .upd (.calMiss k (f (s.calMiss k))))
/-- Change the entry of `arbs` at a key. -/
def modArbiter (k : Nat) (f : Arb → Arb) : Act := .dyn (fun s => .upd (.arbiter k (f (s.arbiter k))))
/-- Change the entry of `reqs` at a key. -/
def modArbReq (k : Nat) (f : ArbReq → ArbReq) : Act := .dyn (fun s => .upd (.arbReq k (f (s.arbReq k))))
/-- Change the entry of `reqs` at a key. -/
def modReq (k : Nat) (f : Req → Req) : Act := .dyn (fun s => .upd (.req k (f (s.req k))))
/-- Change the entry of `pfxs` at a key. -/
def modPfx (k : Nat) (f : Pfx → Pfx) : Act := .dyn (fun s => .upd (.pfx k (f (s.pfx k))))
/-- Change the entry of `steps` at a key. -/
def modSrvStep (k : Nat) (f : Option SrvStep → Option SrvStep) : Act := .dyn (fun s => .upd (.srvStep k (f (s.srvStep k))))
/-- Change the entry of `pins` at a key. -/
def modSvcPins (k : Nat) (f : List Nat → List Nat) : Act := .dyn (fun s => .upd (.svcPins k (f (s.svcPins k))))
/-- Change the entry of `smps` at a key. -/
def modSmp (k : Nat) (f : Smp → Smp) : Act := .dyn (fun s => .upd (.smp k (f (s.smp k))))
/-- Change the entry of `pairs` at a key. -/
def modPair (k : Nat) (f : Pair → Pair) : Act := .dyn (fun s => .upd (.pair k (f (s.pair k))))
/-- Change the entry of `intakes` at a key. -/
def modIntake (k : Nat) (f : List Intake → List Intake) : Act := .dyn (fun s => .upd (.intake k (f (s.intake k))))
/-- Change the entry of `cmds` at a key. -/
def modCmd (k : Nat) (f : Option Cmd → Option Cmd) : Act := .dyn (fun s => .upd (.cmd k (f (s.cmd k))))
/-- Change the entry of `tenants` at a key. -/
def modTenant (k : Nat) (f : Tenant → Tenant) : Act := .dyn (fun s => .upd (.tenant k (f (s.tenant k))))
/-- Change the entry of `engFrac` at a key. -/
def modEngFrac (k : Nat) (f : Nat → Nat) : Act := .dyn (fun s => .upd (.engFrac k (f (s.engFrac k))))
/-- Change the entry of `slices` at a key. -/
def modSlice (k : Nat) (f : SliceSet → SliceSet) : Act := .dyn (fun s => .upd (.slice k (f (s.slice k))))
/-- Change the entry of `scanStore` at a key. -/
def modScanWord (k : Nat) (f : Word → Word) : Act := .dyn (fun s => .upd (.scanWord k (f (s.scanWord k))))
/-- Change the entry of `chks` at a key. -/
def modChk (k : Nat) (f : Chk → Chk) : Act := .dyn (fun s => .upd (.chk k (f (s.chk k))))
/-- Change the entry of `slots` at a key. -/
def modLogSlot (k : Nat) (f : Option Incident → Option Incident) : Act := .dyn (fun s => .upd (.logSlot k (f (s.logSlot k))))
/-- Change the entry of `census` at a key. -/
def modCensus (k : Nat) (f : Census → Census) : Act := .dyn (fun s => .upd (.census k (f (s.census k))))
/-- Change the entry of `view` at a key. -/
def modViewVal (k : Nat) (f : Nat → Nat) : Act := .dyn (fun s => .upd (.viewVal k (f (s.viewVal k))))
/-- Change the entry of `effs` at a key. -/
def modEffecter (k : Nat) (f : Option Eff → Option Eff) : Act := .dyn (fun s => .upd (.effecter k (f (s.effecter k))))
/-- Change the entry of `flits` at a key. -/
def modSentFlits (k : Nat) (f : List Flit → List Flit) : Act := .dyn (fun s => .upd (.sentFlits k (f (s.sentFlits k))))
/-- Change the entry of `temps` at a key. -/
def modTemp (k : Nat) (f : Option Nat → Option Nat) : Act := .dyn (fun s => .upd (.temp k (f (s.temp k))))
/-- Change the entry of `hotAt` at a key. -/
def modHotSince (k : Nat) (f : Option Nat → Option Nat) : Act := .dyn (fun s => .upd (.hotSince k (f (s.hotSince k))))
/-- Change the entry of `thermAt` at a key. -/
def modThermAt (k : Nat) (f : Option Nat → Option Nat) : Act := .dyn (fun s => .upd (.thermAt k (f (s.thermAt k))))
/-- Change the entry of `flash` at a key. -/
def modFlashAt (k : Nat) (f : Option Byte → Option Byte) : Act := .dyn (fun s => .upd (.flashAt k (f (s.flashAt k))))
/-- Change the entry of `ports` at a key. -/
def modPort (k : Nat) (f : Port → Port) : Act := .dyn (fun s => .upd (.port k (f (s.port k))))
/-- Change the entry of `queues` at a key. -/
def modLnkQ (k : Nat) (f : List Fwd → List Fwd) : Act := .dyn (fun s => .upd (.lnkQ k (f (s.lnkQ k))))
/-- Change the entry of `streams` at a key. -/
def modStream (k : Nat) (f : Stream → Stream) : Act := .dyn (fun s => .upd (.stream k (f (s.stream k))))
/-- Change the entry of `creds` at a key. -/
def modCred (k : Nat) (f : Cred → Cred) : Act := .dyn (fun s => .upd (.cred k (f (s.cred k))))

/-- Set a whole register entry. -/
def setReg (off v : Nat) (idx : Nat := 0) : Act := .upd (.reg off idx v)

/-- Set bits `[hi:lo]` of a register entry. -/
def setFld (off hi lo x : Nat) (idx : Nat := 0) : Act :=
  .dyn (fun s => .upd (.reg off idx (setBits hi lo (s.reg off idx).toNat x)))

/-- Set bits of a register entry to 1. -/
def orReg (off m : Nat) (idx : Nat := 0) : Act := .dyn (fun s => .upd (.reg off idx ((s.reg off idx).toNat ||| m)))

/-- Add to a field, saturating. -/
def addFld (off hi lo n : Nat) (idx : Nat := 0) : Act :=
  .dyn (fun s => setFld off hi lo (sat (hi + 1 - lo) (s.fld off hi lo idx + n)) idx)

/-- Write bytes to memory. -/
def writeBytes : Nat → List Byte → Act
  | _, [] => .nop
  | a, b :: bs => .seq (.upd (.byte a b)) (writeBytes (a + 1) bs)

/-- Write a little-endian number of `n` bytes. -/
def writeLe (a n v : Nat) : Act := writeBytes a (leBytes n v)

/-- Take the next free value's number (assumption log 6) and go on. -/
def withFresh (f : Nat → Act) : Act := .dyn (fun s => .seq (.upd (.fresh (s.fresh + 1))) (f s.fresh))

end Sys2Proof.Machine
end

