-- ==== Sys2Proof/Machine/Flags.lean ====
section
/-!
DEFINITION. The error flags of every block: ERR registers, first-fault registers, incident counts, the incident log's
intake and in-band interrupts (R13, R53, R97, R129, R211, R374, R481, R482, R485).
-/

namespace Sys2Proof.Machine

/-- Block numbers of Table 15.2 (R490). -/
def blkGLB : Nat := 0x00
def blkFAB : Nat := 0x01
def blkEXH : Nat := 0x02
def blkACL : Nat := 0x03
def blkSCL : Nat := 0x04
def blkT1C : Nat := 0x05
def blkT2C : Nat := 0x06
def blkT3C : Nat := 0x07
def blkDOC : Nat := 0x08
def blkARB : Nat := 0x09
def blkSRV : Nat := 0x0A
def blkSMP : Nat := 0x0B
def blkQUE : Nat := 0x0C
def blkTEN : Nat := 0x0D
def blkLNK : Nat := 0x0E
def blkTOP : Nat := 0x0F
def blkINT : Nat := 0x10
def blkLOG : Nat := 0x11
def blkPWR : Nat := 0x12
def blkBOOT : Nat := 0x13
def blkUPD : Nat := 0x14
def blkSEC : Nat := 0x15
def blkMON : Nat := 0x16

/-- The ERR register of a block, if it has one. -/
def errReg (blk : Nat) : Option Nat :=
  match blk with
  | 0x01 => some rFAB_ERR | 0x02 => some rEXH_ERR | 0x03 => some rACL_ERR | 0x04 => some rSCL_ERR
  | 0x05 => some rT1C_ERR | 0x06 => some rT2C_ERR | 0x07 => some rT3C_ERR | 0x08 => some rDOC_ERR
  | 0x0A => some rSRV_ERR | 0x0B => some rSMP_ERR | 0x0C => some rQUE_ERR | 0x0D => some rTEN_ERR
  | 0x0E => some rLNK_ERR | 0x0F => some rTOP_ERR | 0x10 => some rINT_ERR | 0x12 => some rPWR_ERR
  | 0x13 => some rBOOT_ERR | 0x14 => some rUPD_ERR | 0x15 => some rSEC_ERR | 0x16 => some rMON_ERR
  | _ => none

/-- The first-fault registers that go with an ERR register, each with its VALID bit. -/
def firstFaultsOf (errOff : Nat) : List Nat :=
  if errOff = rFAB_ERR then [rFAB_ERR_SITE]
  else if errOff = rEXH_ERR then [rEXH_ERR_SITE]
  else if errOff = rACL_ERR then [rACL_ERR_SITE]
  else if errOff = rSCL_ERR then [rSCL_ERR_SITE, rSCL_ERR_ADDR]
  else if errOff = rT1C_ERR then [rT1C_ERR_ADDR]
  else if errOff = rT2C_ERR then [rT2C_ERR_ADDR]
  else if errOff = rT3C_ERR then [rT3C_ERR_ADDR]
  else if errOff = rLNK_ERR then [rLNK_ERR_PORT]
  else if errOff = rINT_ERR then [rINT_CRC, rINT_CHK_FAIL]
  else []

/-- The register whose bits an incident carries in ARG0 and ARG1 (Table 14.6); INT has two, chosen by the ERR bit
(log 16). -/
def argReg (blk code : Nat) : Option Nat :=
  match blk with
  | 0x01 => some rFAB_ERR_SITE | 0x02 => some rEXH_ERR_SITE | 0x03 => some rACL_ERR_SITE
  | 0x04 => some rSCL_ERR_ADDR | 0x05 => some rT1C_ERR_ADDR | 0x06 => some rT2C_ERR_ADDR
  | 0x07 => some rT3C_ERR_ADDR | 0x0E => some rLNK_ERR_PORT
  | 0x10 => if code = 0 then some rINT_CRC else if code = 3 then some rINT_CHK_FAIL else none
  | _ => none

/-- Class number (Table 10.3). -/
def FClass.num : FClass → Nat
  | .A => 0
  | .B => 1
  | .C => 2
  | .D => 3

/-- What a unit reports of an incident; the log adds TIME, SEQ and the arguments. -/
structure Inc where
  cls : FClass
  blk : Nat
  /-- ERR bit that it sets; 0xFF = none -/
  code : Nat := 0xFF
  status : Nat := 0xFF
  tenant : Option Nat := none
  locus : Nat := 0
  injected : Bool := false
  /-- the control-space offset concerned, for CODE 0xFF (Table 14.6) -/
  off : Nat := 0
  /-- drops a rate-limited incident stands for (R357) -/
  arg2 : Nat := 0
  deriving DecidableEq, Repr

/-- An in-band interrupt for an incident of class `c` (R485). -/
def raiseIbi (c : Nat) : Act :=
  .dyn fun s =>
    if s.flag rMON_MGMT 62 && s.flag rLOG_CTL (56 + c) then
      if s.ibiHold then .upd (.ibiWait (some (max c (s.ibiWait.getD 0))))
      else .seq (.upd (.ibis (s.ibis ++ [c]))) (.upd (.ibiHold true))
    else .nop

/-- The entry of an incident in the present state (R481). -/
def incidentEntry (x : Inc) (s : State) : Incident :=
  let arg := match argReg x.blk x.code with
    | some r => (s.reg r).toNat
    | none => 0
  { time := s.now, seq := s.logWr, cls := x.cls, injected := x.injected, blk := x.blk, code := x.code,
    status := x.status, tenant := x.tenant, locus := x.locus,
    arg0 := if x.code = 0xFF then x.off else bits 31 0 arg,
    arg1 := if x.code = 0xFF then 0 else bits 63 32 arg, arg2 := x.arg2,
    stop := s.flag rLOG_CTL 63 }

/-- An incident takes the next SEQ and enters the intake of 256, or is lost (R482). -/
def logEntry (x : Inc) : Act :=
  .dyn fun s =>
    .seq (.upd (.logWr ((s.logWr + 1) % 2 ^ 32)))
      (if s.logIntake.length < 256 then .upd (.logIntake (s.logIntake ++ [incidentEntry x s]))
       else .upd (.logLost (sat 16 (s.logLost + 1))))

/-- Set the ERR bit of an incident. -/
def setErr (blk code : Nat) : Act :=
  if code = 0xFF then .nop
  else match errReg blk with
    | some r => orReg r (1 <<< code)
    | none => .nop

/-- Log an incident: its ERR bit, INT_CNT, the log, the interrupt (R374, R481 to R485). -/
def incident (x : Inc) : Act :=
  seqs [setErr x.blk x.code, addFld rINT_CNT (16 * x.cls.num + 15) (16 * x.cls.num) 1, logEntry x, raiseIbi x.cls.num]

/-- A class A incident of a block: a corrected error or a harmless misuse. -/
def incA (blk code : Nat) (off : Nat := 0) : Act := incident { cls := .A, blk := blk, code := code, off := off }

/-- Record a first fault if the register shows none since its ERR register was last cleared to zero (R53, R97, R129,
R211): `vbit` is its VALID bit. -/
def firstFault (r vbit v : Nat) : Act :=
  .dyn fun s => if s.flag r vbit then .nop else setReg r (v ||| (1 <<< vbit))

/-- A write to an ERR register: 1 clears a bit; when every bit is clear, the first-fault registers record again. -/
def clearErr (r v : Nat) : Act :=
  .dyn fun s =>
    let n := (s.reg r).toNat - ((s.reg r).toNat &&& v)
    .seq (setReg r n) (when' (decide (n = 0)) (each (firstFaultsOf r) (fun f => setReg f 0)))

end Sys2Proof.Machine
end

