-- ==== Sys2Proof/Machine/Operands.lean ====
section
/-!
DEFINITION. Every layout the spec gives: sites, islands and vaults (R9, R10, R16, R35, R173), tokens (R26),
configuration tokens (R139 to R146), descriptors of commands (R295 to R304), object descriptors (R193) and step
records (R217).
-/

namespace Sys2Proof.Machine

/-! ### Sites (R9, R10, R16, R35, R52, R173, R212) -/

/-- Site number: the site order of R52, west die first, then row, then column. -/
def siteKey (x : Site) : Nat := x.die.val * 1280 + x.row.val * 32 + x.col.val

def keyDie (k : Nat) : Nat := k / 1280
def keyRow (k : Nat) : Nat := k % 1280 / 32
def keyCol (k : Nat) : Nat := k % 32

/-- The site at die, row and column. -/
def mkKey (die row col : Nat) : Nat := die * 1280 + row * 32 + col

/-- The bay of a site (R10). -/
def keyBay (k : Nat) : Nat := keyDie k * 8 + keyCol k / 4

/-- An A-cell stands at the site (R16). -/
def keyIsA (k : Nat) : Bool := decide ((keyRow k + keyCol k) % 2 = 0)

/-- The clock island of a site (R35). -/
def keyIsland (k : Nat) : Nat := keyDie k * 320 + keyRow k / 2 * 16 + keyCol k / 2

/-- The bay of an island (R35). -/
def islandBay (i : Nat) : Nat := i / 320 * 8 + i % 16 / 2

/-- The vault beneath an S-cell (R173). -/
def keyVault (k : Nat) : Nat := 640 * keyDie k + 16 * keyRow k + keyCol k / 2

/-- The S-cell's site above a vault (R16, R173). -/
def vaultKey (v : Nat) : Nat :=
  let r := v % 640 / 16
  mkKey (v / 640) r (2 * (v % 16) + (r + 1) % 2)

/-- LOCUS of an incident at a site (Table 14.6). -/
def keyLocus (k : Nat) : Nat := keyDie k * 2 ^ 11 + keyRow k * 2 ^ 5 + keyCol k

/-- DIE, ROW and COL as the ERR_SITE registers place them. -/
def keyErrBits (k : Nat) : Nat := place 23 23 (keyDie k) + place 22 17 (keyRow k) + place 16 11 (keyCol k)

/-- Every site of a bay in site order (R10, R52). -/
def baySites (b : Nat) : List Nat :=
  (List.range 40).flatMap (fun r => (List.range 4).map (fun c => mkKey (b / 8) r (4 * (b % 8) + c)))

/-- The pacing A-cell of a bay: its lowest-ordered A-cell (R138). -/
def bayPacer (b : Nat) : Nat := mkKey (b / 8) 0 (4 * (b % 8))

/-- The islands of a bay (R35). -/
def bayIslands (b : Nat) : List Nat :=
  (List.range 20).flatMap (fun q => (List.range 2).map (fun c => b / 8 * 320 + q * 16 + 2 * (b % 8) + c))

/-! ### Links (R17, Table 1.2) -/

/-- The side facing side `k` on the next site: N ↔ S, E ↔ W. -/
def opposite (k : Nat) : Nat := if k < 4 then (k + 2) % 4 else 4 + (k - 4 + 2) % 4

/-- The site next to a site on side `k` (0 to 7 = N0, N1, S0, S1, E0, E1, W0, W1); `none` at an edge of the fabric. -/
def neighbour (x k : Nat) : Option Nat :=
  let d := keyDie x; let r := keyRow x; let c := keyCol x
  if k < 2 then (if r = 0 then none else some (mkKey d (r - 1) c))
  else if k < 4 then (if r = 39 then none else some (mkKey d (r + 1) c))
  else if k < 6 then
    (if c < 31 then some (mkKey d r (c + 1)) else if d = 0 then some (mkKey 1 r 0) else none)
  else if k < 8 then
    (if 0 < c then some (mkKey d r (c - 1)) else if d = 1 then some (mkKey 0 r 31) else none)
  else none

/-- Input `k` of the site is a seam crossing (Table 1.2). -/
def isSeamInput (x k : Nat) : Bool :=
  match neighbour x k with
  | some y => keyDie x != keyDie y
  | none => false

/-- Entries of a slot's own queue: 12 for a seam input, otherwise 8 (R21). -/
def slotOwnDepth (x k : Nat) : Nat := if isSeamInput x k then 12 else 8

/-! ### Tokens (R26 to R28, Table 1.3) -/

namespace Tok
def valid (t : Token) : Bool := t.sb.toNat.testBit 23
def last (t : Token) : Bool := t.sb.toNat.testBit 22
def kind (t : Token) : Nat := bits 21 20 t.sb.toNat
def stream (t : Token) : Nat := bits 19 14 t.sb.toNat
def epoch (t : Token) : Nat := bits 13 10 t.sb.toNat
def poison (t : Token) : Bool := t.sb.toNat.testBit 9
def residue (t : Token) : Nat := bits 7 0 t.sb.toNat
/-- Even parity over bits [23:10] holds (SBPAR). -/
def parityOk (t : Token) : Bool := decide (parity 15 (bits 23 10 t.sb.toNat) = bits 8 8 t.sb.toNat)
/-- The residue modulo 255 of the payload (R28). -/
def residueOf (p : Nat) : Nat := p % 255
/-- The RESIDUE field matches the payload; 0xFF never does (R28). -/
def residueOk (t : Token) : Bool := decide (residue t = residueOf t.payload.toNat)
/-- A token with its RESIDUE and SBPAR computed (R26, R29). -/
def make (payload : Nat) (last : Bool) (kind stream epoch : Nat) (poison : Bool) : Token :=
  let hi := 2 ^ 13 + b2n last * 2 ^ 12 + kind * 2 ^ 10 + stream % 64 * 2 ^ 4 + epoch % 16
  { payload := BitVec.ofNat 512 payload,
    sb := BitVec.ofNat 24 (hi * 2 ^ 10 + b2n poison * 2 ^ 9 + parity 15 hi * 2 ^ 8 + residueOf (payload % 2 ^ 512)) }
/-- The token with POISON set. -/
def setPoison (t : Token) : Token := { t with sb := t.sb ||| 0x200 }
/-- The token with its EPOCH replaced and SBPAR computed anew. -/
def withEpoch (t : Token) (e : Nat) : Token :=
  make t.payload.toNat (last t) (kind t) (stream t) e (poison t)
end Tok

/-- Token kinds (Table 1.4). -/
def kindData : Nat := 0
def kindConfig : Nat := 1
def kindMarker : Nat := 2
def kindReserved : Nat := 3

/-! ### Configuration tokens (R139 to R146); a token is its 512-bit payload -/

def cfgDie (p : Nat) : Nat := bits 511 511 p
def cfgRow (p : Nat) : Nat := bits 510 505 p
def cfgCol (p : Nat) : Nat := bits 504 499 p
def cfgSection (p : Nat) : Nat := bits 498 494 p
def cfgSeq (p : Nat) : Nat := bits 493 480 p
def cfgCount (p : Nat) : Nat := bits 479 464 p
def cfgZero (p : Nat) : Nat := bits 463 448 p
/-- The 448 content bits (R139). -/
def cfgContent (p : Nat) : Nat := bits 447 0 p

/-- Configuration sections (Table 4.6). -/
def secROUTE : Nat := 1
def secRING : Nat := 2
def secAGEN0 : Nat := 3
def secAGEN1 : Nat := 4
def secACFG : Nat := 5
def secSTEPS : Nat := 6

/-- Route slot `i` of a ROUTE token (R141). -/
def routeSlot (content i : Nat) : Nat := bits (24 * i + 23) (24 * i) content
def rsValid (w : Nat) : Bool := w.testBit 23
def rsIn (w : Nat) : Nat := bits 22 19 w
def rsStream (w : Nat) : Nat := bits 18 13 w
def rsOut (w : Nat) : Nat := bits 12 4 w
def rsSpill (w : Nat) : Nat := bits 3 0 w

/-- Ring entry `e` of a RING token (R142). -/
def ringWord (content e : Nat) : Nat := bits (56 * e + 55) (56 * e) content

/-- A ring entry decoded; `none` when not VALID. -/
def ringOf (w : Nat) : Option Ring :=
  if w.testBit 55 then
    some { base := bits 54 42 w, lines := bits 41 29 w, slots := bits 28 26 w, producer := bits 25 24 w,
           consumers := bits 23 21 w }
  else none

/-- Lines of a ring: lines per slot times slot count. -/
def Ring.size (r : Ring) : Nat := r.lines * (r.slots + 1)

/-! Generator programs (R110, R143): 785 bits packed from bit 0. -/

def agMode (p : Nat) : Nat := bits 1 0 p
def agFmt (p : Nat) : Nat := bits 5 2 p
def agStream (p : Nat) : Nat := bits 11 6 p
def agRing (p : Nat) : Nat := bits 14 12 p
def agObj (p : Nat) : Nat := bits 18 15 p
def agScales (p : Nat) : Bool := p.testBit 19
def agTileLvl (p : Nat) : Nat := bits 22 20 p
/-- First bit of level `l`: 90 bits each from bit 23. -/
def agLvl (l : Nat) : Nat := 23 + 90 * l
def agCount (p l : Nat) : Nat := bits (agLvl l + 15) (agLvl l) p
def agRuntime (p l : Nat) : Bool := p.testBit (agLvl l + 16)
def agDim (p l : Nat) : Nat := bits (agLvl l + 19) (agLvl l + 17) p
def agStep (p l : Nat) : Nat := bits (agLvl l + 35) (agLvl l + 20) p
def agSramStride (p l : Nat) : Int := signed 14 (bits (agLvl l + 49) (agLvl l + 36) p)
def agT1Stride (p l : Nat) : Int := signed 40 (bits (agLvl l + 89) (agLvl l + 50) p)
/-- First bit of dimension `d`: 37 bits each after the levels. -/
def agDimAt (d : Nat) : Nat := 563 + 37 * d
def agOrigin (p d : Nat) : Int := signed 32 (bits (agDimAt d + 31) (agDimAt d) p)
def agExtSlot (p d : Nat) : Nat := bits (agDimAt d + 36) (agDimAt d + 32) p

/-- Generator modes (R110). -/
def modeFABRD : Nat := 0
def modeFABWR : Nat := 1
def modeT1RD : Nat := 2
def modeT1WR : Nat := 3

/-- The highest dimension of a walk (R114). -/
def agTopDim (p : Nat) : Nat :=
  ((List.range 6).filter (fun d =>
    decide (agOrigin p d ≠ 0) || (List.range 6).any (fun l => decide (agCount p l ≠ 0) && decide (agDim p l = d)))).foldl max 0

/-! ACFG (R144). -/

def acFmtA (w : Nat) : Nat := bits 3 0 w
def acFmtB (w : Nat) : Nat := bits 7 4 w
def acFmtOut (w : Nat) : Nat := bits 11 8 w
def acRound (w : Nat) : Nat := bits 13 12 w
def acFtz (w : Nat) : Bool := w.testBit 14
def acTile (w : Nat) : Nat := bits 17 15 w
def acOrder (w : Nat) : Nat := bits 20 18 w
def acSmodeA (w : Nat) : Nat := bits 22 21 w
def acSmodeB (w : Nat) : Nat := bits 24 23 w
def acHeldB (w : Nat) : Nat := bits 41 25 w
def acStreamB (w : Nat) : Nat := bits 58 42 w
def acDbuf (w : Nat) : Nat := bits 59 59 w
def acChain (w : Nat) : Nat := bits 74 60 w
/-- Tile-count rule 1, 2 or 3 (R144): 86 bits each from bit 76. -/
def acRule (w r : Nat) : Nat := bits (76 + 86 * (r - 1) + 85) (76 + 86 * (r - 1)) w
def ruValid (r : Nat) : Bool := r.testBit 0
def ruExtSlot (r : Nat) : Nat := bits 5 1 r
def ruOrigin (r : Nat) : Int := signed 32 (bits 37 6 r)
def ruStep (r : Nat) : Nat := bits 53 38 r
def ruOffset (r : Nat) : Int := signed 32 (bits 85 54 r)

/-- The tile menu: M, N, K (Table 3.3, R120). -/
def tileShape (code : Nat) : Option (Nat × Nat × Nat) :=
  match code with
  | 0 => some (64, 64, 256)
  | 1 => some (256, 64, 64)
  | 2 => some (64, 256, 64)
  | 3 => some (8, 512, 128)
  | 4 => some (16, 64, 1024)
  | _ => none

/-! Step words (R146, Table 4.7): OP in [63:58], fields packed from bit 0. -/

def opOf (w : Nat) : Nat := bits 63 58 w
def opTILE : Nat := 1
def opVEC : Nat := 2
def opSFU : Nat := 3
def opCONV : Nat := 4
def opREDUCE : Nat := 5
def opCONST : Nat := 6
def opLOOP : Nat := 7
def opEND : Nat := 8

def tiSA (w : Nat) : Nat := bits 6 0 w
def tiSB (w : Nat) : Nat := bits 13 7 w
def tiXA (w : Nat) : Nat := bits 20 14 w
def tiXB (w : Nat) : Nat := bits 27 21 w
def tiOut (w : Nat) : Nat := bits 34 28 w
def tiPin (w : Nat) : Nat := bits 41 35 w
def tiPout (w : Nat) : Bool := w.testBit 42
def veFn (w : Nat) : Nat := bits 4 0 w
def veX (w : Nat) : Nat := bits 11 5 w
def veY (w : Nat) : Nat := bits 18 12 w
def veZ (w : Nat) : Nat := bits 25 19 w
def veOut (w : Nat) : Nat := bits 32 26 w
def veN (w : Nat) : Nat := bits 48 33 w
def sfFn (w : Nat) : Nat := bits 2 0 w
def sfX (w : Nat) : Nat := bits 9 3 w
def sfOut (w : Nat) : Nat := bits 16 10 w
def sfN (w : Nat) : Nat := bits 32 17 w
def cvFmt (w : Nat) : Nat := bits 3 0 w
def cvX (w : Nat) : Nat := bits 10 4 w
def cvOut (w : Nat) : Nat := bits 17 11 w
def cvN (w : Nat) : Nat := bits 33 18 w
def cvC (w : Nat) : Nat := bits 37 34 w
def reFn (w : Nat) : Nat := bits 0 0 w
def reX (w : Nat) : Nat := bits 7 1 w
def reOut (w : Nat) : Nat := bits 14 8 w
def reN (w : Nat) : Nat := bits 30 15 w
def coReg (w : Nat) : Nat := bits 3 0 w
def coVal (w : Nat) : Nat := bits 35 4 w
def loLen (w : Nat) : Nat := bits 10 0 w
def loCount (w : Nat) : Nat := bits 26 11 w
def loRule (w : Nat) : Nat := bits 28 27 w

/-- Operand selector "none" (R146). -/
def selNone : Nat := 127

/-- Bits of the fields of an OP (Table 4.7). -/
def opFieldBits (op : Nat) : Nat :=
  match op with
  | 1 => 43 | 2 => 49 | 3 => 33 | 4 => 38 | 5 => 31 | 6 => 36 | 7 => 29 | _ => 0

/-! ### Command descriptors (R295 to R304) -/

def dOpcode (d : List Byte) : Nat := leAt d 0 1
def dFlags (d : List Byte) : Nat := leAt d 1 1
def dTag (d : List Byte) : Nat := leAt d 8 8

def opcRUN : Nat := 0x01
def opcMOVE : Nat := 0x02
def opcSERVE : Nat := 0x03
def opcEXLOAD : Nat := 0x04
def opcEXREL : Nat := 0x05
def opcFENCE : Nat := 0x06
def opcSNAP : Nat := 0x07
def opcUBLOCK : Nat := 0x10
def opcUMANIFEST : Nat := 0x11
def opcUACTIVATE : Nat := 0x12
def opcUCONFIRM : Nat := 0x13

/-- Completion status codes (Table 8.13, R306). -/
def Status.code : Status → Nat
  | .ok => 0x00 | .okCancelLate => 0x01 | .declined => 0x02 | .cancelled => 0x03 | .busy => 0x04
  | .tileOverflow => 0x10 | .shapeInvalid => 0x11 | .poisoned => 0x12 | .residueMismatch => 0x13
  | .eccUncorrectable => 0x14 | .staleToken => 0x15 | .stallWatchdog => 0x16 | .linkLost => 0x20
  | .remoteTimeout => 0x21 | .guaranteeSuspended => 0x30 | .tenantReset => 0x40 | .preempted => 0x41
  | .firmwarePause => 0xF0

/-- A copy index field that names none. -/
def noIdx : Nat := 0xFFFFFFFF

/-- A copy index field as a copy (R192, R193). -/
def idxOf (v : Nat) : Option Nat := if v = noIdx then none else some v

/-- Move kind codes (Table 5.9). -/
def moveKindOf (c : Nat) : Option MoveKind :=
  match c with
  | 1 => some .fetch | 2 => some .ingest | 3 => some .alloc | 4 => some .writeback | 5 => some .drop | 6 => some .exportStage
  | _ => none

def MoveKind.code : MoveKind → Nat
  | .fetch => 1 | .ingest => 2 | .alloc => 3 | .writeback => 4 | .drop => 5 | .exportStage => 6

/-! ### Object descriptors (R193, Table 5.7) -/

/-- A descriptor as read. -/
structure Obj where
  addr : Nat := 0
  tier : Nat := 0
  whole : Bool := false
  moving : Bool := false
  dirty : Bool := false
  poisoned : Bool := false
  crcv : Bool := false
  owner : Nat := 0
  writable : Bool := false
  size : Nat := 0
  fmt : Nat := 0
  rank : Nat := 0
  scale : Nat := 0
  pin : Nat := 0
  ext : List Nat := []
  age : Nat := 0
  crc : Nat := 0
  lower : Nat := noIdx
  bays : Nat := 0
  rowLo : Nat := 0
  rowHi : Nat := 0
  stripe : Nat := 0
  tierReq : Nat := 0
  deriving DecidableEq, Repr

/-- Decode the 64 B of a descriptor. -/
def objOf (b : List Byte) : Obj :=
  let st := leAt b 6 1
  let at' := leAt b 7 1
  let fm := leAt b 0x0D 1
  { addr := leAt b 0 6, tier := st % 4, whole := st.testBit 2, moving := st.testBit 3, dirty := st.testBit 4,
    poisoned := st.testBit 5, crcv := st.testBit 6, owner := at' % 64, writable := at'.testBit 6,
    size := leAt b 8 5, fmt := fm % 16, rank := bits 6 4 fm, scale := leAt b 0x0E 1, pin := leAt b 0x0F 1,
    ext := (List.range 6).map (fun d => leAt b (0x10 + 4 * d) 4), age := leAt b 0x28 8, crc := leAt b 0x30 4,
    lower := leAt b 0x34 4, bays := leAt b 0x38 2, rowLo := leAt b 0x3A 1, rowHi := leAt b 0x3B 1,
    stripe := leAt b 0x3C 1, tierReq := leAt b 0x3D 1 }

/-- Encode a descriptor; its two last bytes are zero. -/
def objBytes (o : Obj) : List Byte :=
  leBytes 6 o.addr
    ++ leBytes 1 (o.tier + 4 * b2n o.whole + 8 * b2n o.moving + 16 * b2n o.dirty + 32 * b2n o.poisoned + 64 * b2n o.crcv)
    ++ leBytes 1 (o.owner + 64 * b2n o.writable) ++ leBytes 5 o.size ++ leBytes 1 (o.fmt + 16 * o.rank)
    ++ leBytes 1 o.scale ++ leBytes 1 o.pin
    ++ (List.range 6).flatMap (fun d => leBytes 4 (lget 0 o.ext d)) ++ leBytes 8 o.age ++ leBytes 4 o.crc
    ++ leBytes 4 o.lower ++ leBytes 2 o.bays ++ leBytes 1 o.rowLo ++ leBytes 1 o.rowHi ++ leBytes 1 o.stripe
    ++ leBytes 1 o.tierReq ++ leBytes 2 0

/-! ### Itinerary step records (R217, Table 6.2) -/

/-- A step record as read. -/
structure Step where
  kind : Nat
  trig : Nat
  flags : Nat
  load : Nat
  src : Nat
  dst : Nat
  work : Nat
  arg : Nat
  stage : Nat
  resv : Nat
  deriving DecidableEq, Repr

/-- Decode a 32 B record. -/
def stepOf (b : List Byte) : Step :=
  { kind := leAt b 0 1, trig := leAt b 1 1, flags := leAt b 2 1, load := leAt b 3 1, src := leAt b 4 4,
    dst := leAt b 8 4, work := leAt b 0xC 4, arg := leAt b 0x10 8, stage := leAt b 0x18 6, resv := leAt b 0x1E 2 }

/-- The checks of R217 on the record of step `i`. -/
def stepOk (r : Step) (i : Nat) : Bool :=
  decide (r.resv = 0) && (moveKindOf r.kind).isSome && decide (r.trig ≤ 4) && decide (r.flags < 8)
    && decide (r.load ≤ 15) && (decide (r.load = 0) || decide (r.trig = 1) || r.flags.testBit 2)
    && (if r.flags.testBit 1 then decide (r.work ≤ 16383) else decide (r.work = noIdx))
    && (decide (r.trig ≠ 4) || decide (r.arg < i))

/-! ### REMOTE records (Table 4.4) -/

/-- The REMOTE records among resource records (Table 4.4). -/
def remoteRecs (rs : List (List Byte)) : List (List Byte) := rs.filter (fun r => decide (leAt r 0 1 = 3))
def rmStream (r : List Byte) : Nat := leAt r 1 1
def rmOut (r : List Byte) : Bool := decide (leAt r 2 1 = 1)
def rmPeer (r : List Byte) : List Byte := byteSlice r 3 4
def rmPeerLoad (r : List Byte) : Nat := leAt r 7 1
def rmPeerStream (r : List Byte) : Nat := leAt r 8 1
def rmCredits (r : List Byte) : Nat := leAt r 9 2
def rmGateway (r : List Byte) : Nat := leAt r 11 1

end Sys2Proof.Machine
end

