-- ==== Sys2Proof/Machine/Ops.lean ====
section
/-!
DEFINITION. The shared operations: the address map (R171, R172), carried poison (R178), the object table (R191 to
R199), completions (R289, R292, R305), pins (R198), and accounting (R310).
-/

namespace Sys2Proof.Machine

/-! ### Address map (R171, R172) -/

def baseT1Edge : Nat := 0x000FF0000000
def baseT2 : Nat := 0x001000000000
def baseT3 : Nat := 0x010000000000
def endT3Range : Nat := 0x050000000000
def baseCS : Nat := 0xFF0000000000
def endCS : Nat := 0xFF0010000000
def sizeGiB : Nat := 2 ^ 30
def unit64K : Nat := 2 ^ 16
def unit2M : Nat := 2 ^ 21
def vaultBytes : Nat := 0x03300000

/-- GiB in one T2 stack, by order number (R1, R2). -/
def State.stackGib (s : State) : Nat :=
  match s.variant with
  | .a384 => 48
  | .a288 => 36

/-- Bytes of T2. -/
def State.t2Size (s : State) : Nat := 8 * s.stackGib * sizeGiB

/-- T2 is serving (R180). -/
def State.t2On (s : State) : Bool := s.flag rT2C_STAT 48

/-- T3 is serving (R185). -/
def State.t3On (s : State) : Bool := s.flag rT3C_STAT 63

/-- Bytes of T3: sixteen DIMMs (R171). -/
def State.t3Size (s : State) : Nat := if s.t3On then 16 * s.fld rT3C_STAT 58 48 * sizeGiB else 0

/-- Where an address lies (Table 5.2). -/
inductive Region where
  | t1
  | t2
  | t3
  | cs
  /-- the T3 range beyond the DIMMs, or T3 offline (R185) -/
  | unpopT3
  | unmapped
  deriving DecidableEq, Repr

/-- The region of an address in the present state. -/
def State.region (s : State) (a : Nat) : Region :=
  if a < baseT2 then .t1
  else if a < baseT2 + s.t2Size then (if s.t2On then .t2 else .unmapped)
  else if a < baseT3 then .unmapped
  else if a < baseT3 + s.t3Size then .t3
  else if a < endT3Range then .unpopT3
  else if baseCS ≤ a ∧ a < endCS then .cs
  else .unmapped

/-- End of the T2 reserved region (R183). -/
def State.rsvEnd (s : State) : Nat := baseT2 + s.fld rT2C_CTL 63 56 * sizeGiB

/-- `n` bytes from `a` lie wholly in the T2 reserved region (R183). -/
def State.inRsv (s : State) (a n : Nat) : Bool := decide (baseT2 ≤ a) && decide (a + n ≤ s.rsvEnd)

/-- An access to an unpopulated or unmapped address (R172): one class B incident, with the agent in ERR_ADDR. -/
def badAddress (agent a : Nat) (t3 : Bool) (tenant : Option Nat := none) : Act :=
  let v := place 62 60 agent + bits 47 0 (a / 64 * 64)
  if t3 then
    .seq (firstFault rT3C_ERR_ADDR 63 v) (incident { cls := .B, blk := blkT3C, code := 3, tenant := tenant })
  else
    .seq (firstFault rT2C_ERR_ADDR 63 v) (incident { cls := .B, blk := blkT2C, code := 3, tenant := tenant })

/-! ### Carried poison and memory codes (R177, R178, R182, R187) -/

/-- Set or clear carried poison over `n` bytes from `a`. -/
def markBad (a n : Nat) (b : Bool) : Act :=
  each ((List.range ((a + n + 31) / 32 - a / 32)).map (fun i => a / 32 + i)) (fun k => .upd (.bad k b))

/-- Some 32 B unit of the range is carried poison. -/
def State.anyBad (s : State) (a n : Nat) : Bool :=
  (List.range ((a + n + 31) / 32 - a / 32)).any (fun i => s.bad ((a / 32 + i) * 32))

/-- Agents of the tier ERR_ADDR registers, by name. -/
def agT1Vport : Nat := 0
def agT1Fill : Nat := 1
def agT1Scrub : Nat := 2
def agT1Loader : Nat := 3
def agT2Docent : Nat := 0
def agT2Scanner : Nat := 1
def agT2Cd : Nat := 2
def agScrub : Nat := 3
def agT2Serving : Nat := 4
def agT2Objects : Nat := 5
def agT2Command : Nat := 6

/-- LOCUS of an incident of a tier at an address: the stack of T2 (R181), the channel of T3 (R186), zero for T1
(Table 14.6). -/
def tierLocus (t : Tier) (a : Nat) : Nat :=
  match t with
  | .t1 => 0
  | .t2 => a / 256 % 8
  | .t3 => a / 256 % 16

/-- A corrected error of a tier: count and class A incident (R177, R182, R187). -/
def tierCorrected (t : Tier) (a : Nat) : Act :=
  match t with
  | .t1 => .seq (addFld rT1C_CE_CNT 31 0 1) (incA blkT1C 0)
  | .t2 => .seq (addFld rT2C_CE_CNT 31 0 1) (incident { cls := .A, blk := blkT2C, code := 0, locus := tierLocus .t2 a })
  | .t3 => .seq (addFld rT3C_CE_CNT 31 0 1) (incident { cls := .A, blk := blkT3C, code := 0, locus := tierLocus .t3 a })

/-- The device that a free value names: 0 to 9, or 0xF where the decoder cannot place the error (log 17). -/
def freeDevice (n : Nat) : Nat := if Config.freeNat n % 11 = 10 then 0xF else Config.freeNat n % 11

/-- The first-fault record of an uncorrectable error of a tier (R211). No command says in which device of a subchannel
an error lies, so the DEVICE of T3C_ERR_ADDR is a free value (log 17). -/
def tierRecord (t : Tier) (agent a : Nat) (scrub : Bool) : Act :=
  match t with
  | .t1 => firstFault rT1C_ERR_ADDR 63 (place 62 60 agent + bits 47 0 (a / 32 * 32))
  | .t2 => firstFault rT2C_ERR_ADDR 63 (place 62 60 agent + bits 47 0 (a / 64 * 64))
  | .t3 => withFresh fun n => firstFault rT3C_ERR_ADDR 63
      (place 62 60 agent + (if scrub then 0 else place 59 56 (freeDevice n)) + bits 47 0 (a / 64 * 64))

/-- A fresh uncorrectable error of a tier: ERR bit 1 (or 2 for scrub), first fault, one class B incident (R178); from
scrub, class A (log 18). -/
def tierUncorrectable (t : Tier) (agent a : Nat) (scrub : Bool) (tenant : Option Nat := none) : Act :=
  let blk := match t with
    | .t1 => blkT1C
    | .t2 => blkT2C
    | .t3 => blkT3C
  .seq (tierRecord t agent a scrub)
    (incident { cls := if scrub then .A else .B, blk := blk, code := if scrub then 2 else 1, tenant := tenant,
                locus := tierLocus t a })

/-! ### Object table (R191 to R199) -/

/-- Address of the object table. -/
def State.objBase (s : State) : Nat := s.fld rT2C_CTL 47 20 * 2 ^ 20

/-- Entries of the object table: 2^(12 + OBJ_LOG), OBJ_LOG above 8 taken as 8 (R191, T2C_CTL). -/
def State.objCount (s : State) : Nat := 2 ^ (12 + min 8 (s.fld rT2C_CTL 55 52))

/-- Address of entry `i`. -/
def State.objAddr (s : State) (i : Nat) : Nat := s.objBase + 64 * i

/-- The descriptor of copy `i`; an index beyond the table names no copy (R192). -/
def State.obj (s : State) (i : Nat) : Option Obj :=
  if i < s.objCount then some (objOf (s.bytes (s.objAddr i) 64)) else none

/-- Write descriptor `i`. -/
def setObj (i : Nat) (o : Obj) : Act := .dyn fun s => writeBytes (s.objAddr i) (objBytes o)

/-- Change descriptor `i`, if the index names one. -/
def modObj (i : Nat) (f : Obj → Obj) : Act := .dyn fun s => withSome (s.obj i) (fun o => setObj i (f o))

/-- A free descriptor again: TIER 0 and every field but ATTR cleared (R194). -/
def freeObj (o : Obj) : Obj :=
  { owner := o.owner, writable := o.writable, lower := 0, ext := List.replicate 6 0 }

/-- Indices of resident copies, from the allocator's record. -/
def State.resident (s : State) : List Nat := s.allocs.map (fun a => a.copy)

/-- `i` is the LOWER of a resident copy (R202, R207). -/
def State.isLower (s : State) (i : Nat) : Bool :=
  s.resident.any (fun j => decide (j ≠ i) && (match s.obj j with
    | some o => decide (o.tier ≠ 0) && decide (o.lower = i)
    | none => false))

/-- Add one to a copy's PIN. -/
def pinCopy (i : Nat) : Act := modObj i (fun o => { o with pin := o.pin + 1 })

/-- Take one from a copy's PIN; at zero its AGE becomes the present time (R199). -/
def unpinCopy (i : Nat) : Act :=
  .dyn fun s => modObj i (fun o =>
    if o.pin ≤ 1 then { o with pin := 0, age := s.now } else { o with pin := o.pin - 1 })

/-- The first write of a fabric program or of the serving block into a copy: DIRTY set, CRC no longer valid (R199). -/
def dirtyCopy (i : Nat) : Act := modObj i (fun o => { o with dirty := true, crcv := false })

/-- The vaults of a spread in vault order (R196). -/
def spreadVaults (bays rowLo rowHi : Nat) : List Nat :=
  (List.range 1280).filter (fun v =>
    let k := vaultKey v
    bays.testBit (keyBay k) && decide (rowLo ≤ keyRow k) && decide (keyRow k ≤ rowHi))

/-- Number of vaults of a spread (R196). -/
def spreadCount (bays rowLo rowHi : Nat) : Nat := 2 * popCount 16 bays * (rowHi + 1 - rowLo)

/-- The place of vault `v` in a spread, if it is in it: vaults rise in site order, two for each bay and row. -/
def spreadPlace (bays rowLo rowHi v : Nat) : Option Nat :=
  let k := vaultKey v
  let die := keyDie k
  let b := keyBay k
  if bays.testBit b && decide (rowLo ≤ keyRow k) && decide (keyRow k ≤ rowHi) then
    let west := popCount 8 bays
    let inDie := if die = 0 then west else popCount 16 bays - west
    let before := if die = 0 then popCount b bays else popCount b bays - west
    some ((if die = 0 then 0 else 2 * west * (rowHi + 1 - rowLo))
      + 2 * inDie * (keyRow k - rowLo) + 2 * before + keyCol k % 4 / 2)
  else none

/-- The vault at a place of a spread. -/
def spreadVaultAt (bays rowLo rowHi p : Nat) : Nat :=
  let rows := rowHi + 1 - rowLo
  let west := popCount 8 bays
  let nW := 2 * west * rows
  let die := if p < nW then 0 else 1
  let q := if p < nW then p else p - nW
  let per := if die = 0 then 2 * west else 2 * (popCount 16 bays - west)
  let row := rowLo + q / per
  let m := q % per
  let bs := (bitsOn 16 bays).filter (fun b => decide (b / 8 = die))
  640 * die + 16 * row + (lget 0 bs (m / 2) % 8) * 2 + m % 2

/-- The physical address of object byte `off` of a copy (R195, R196): stripes for a T1 spread, else consecutive. -/
def Obj.phys (o : Obj) (off : Nat) : Nat :=
  if o.tier = 1 ∧ o.bays ≠ 0 then
    let st := 2 ^ o.stripe
    let n := spreadCount o.bays o.rowLo o.rowHi
    let i := off / st
    spreadVaultAt o.bays o.rowLo o.rowHi (i % n) * vaultBytes + o.addr + i / n * st + off % st
  else o.addr + off

/-- Bytes of a copy that lie in the vault at place `p` of its spread: the end of its own last stripe there (R196). -/
def Obj.share (o : Obj) (p : Nat) : Nat :=
  let st := 2 ^ o.stripe
  let n := spreadCount o.bays o.rowLo o.rowHi
  let stripes := cdiv o.size st
  if stripes ≤ p then 0
  else
    let mine := (stripes - p + n - 1) / n
    let lastI := p + (mine - 1) * n
    (mine - 1) * st + min st (o.size - lastI * st)

/-- Read object bytes of a copy, `n` from `off`. -/
def State.objBytesAt (s : State) (o : Obj) (off n : Nat) : List Byte :=
  (List.range n).map (fun i => s.byte (o.phys (off + i)))

/-! ### Accounting (R227, R310) -/

/-- Charge bytes written to a destination tier to a tenant. -/
def chargeBytes (tenant tier n : Nat) : Act :=
  addFld (if tier = 1 then rTEN_ACC_T1 else if tier = 2 then rTEN_ACC_T2 else rTEN_ACC_T3) 63 0 n tenant

/-! ### Pools (R206) -/

/-- Units of a pool: per vault, edge, T2 above the reserved region, T3. -/
def State.poolUnits (s : State) (pool : Nat) : Nat :=
  match pool with
  | 0 => 816
  | 1 => 4096
  | 2 => (baseT2 + s.t2Size - s.rsvEnd) / unit2M
  | _ => s.t3Size / unit2M

/-- Allocations that may collide with a placement: those of the pool; for a spread, those that share a vault. -/
def State.rivals (s : State) (pool bays rowLo rowHi : Nat) : List Alloc :=
  s.allocs.filter (fun a => decide (a.pool = pool) &&
    (decide (pool ≠ 0) ||
      (decide (a.bays &&& bays ≠ 0) && decide (a.rowLo ≤ rowHi) && decide (rowLo ≤ a.rowHi))))

/-- The lowest unit at which `n` units are free among allocations `xs`: 0 or the end of an allocation. -/
def lowestRun (xs : List Alloc) (total n : Nat) : Option Nat :=
  let free (st : Nat) : Bool :=
    decide (st + n ≤ total) && xs.all (fun a => decide (a.start + a.count ≤ st) || decide (st + n ≤ a.start))
  minBy id ((0 :: xs.map (fun a => a.start + a.count)).filter free)

/-- Free units and longest free run of a pool without spreads (T2C_POOL, T3C_POOL). -/
def State.poolFree (s : State) (pool : Nat) : Nat × Nat :=
  let xs := sortBy (fun a => a.start) (s.rivals pool 0 0 0)
  let total := s.poolUnits pool
  let used := (xs.map (fun a => a.count)).sum
  let r := xs.foldl (fun (pos, best) a => (max pos (a.start + a.count), max best (a.start - pos))) (0, 0)
  (total - used, max r.2 (total - r.1))

/-- Free units of one vault (T1C_POOL). -/
def State.vaultFree (s : State) (v : Nat) : Nat :=
  816 - ((s.allocs.filter (fun a => decide (a.pool = 0) &&
    (spreadPlace a.bays a.rowLo a.rowHi v).isSome)).map (fun a => a.count)).sum

/-! ### Halt (R377); the parts of other blocks stand with them -/

/-- The module has halted. -/
def State.halted (s : State) : Bool := decide (s.haltCause ≠ 0)

/-! ### Register writes that a row of the table stands for (R13, R439) -/

/-- A row waits: an access made during a firmware pause completes when the pause ends (R439). -/
def holdRow (i : Instr) : Act := .dyn fun s => .upd (.heldRows (s.heldRows ++ [i]))

/-- A write of `v` to the register at `off` takes effect: non-zero reserved bits are ignored with a class A incident
(R13). -/
def regNow (off v : Nat) (f : Nat → Act) : Act :=
  .seq (when' (decide (v &&& (2 ^ 64 - 1 - regMask off) ≠ 0)) (incA (off / 0x10000) 0xFF off)) (f (v &&& regMask off))

/-- A write that changes one field of a register of several takes effect, or waits. -/
def bitDo (i : Instr) (a : Act) : Act := .dyn fun s => if s.updSt = .pause then holdRow i else a

/-- A write of a whole register takes effect, or waits. -/
def regDo (i : Instr) (off v : Nat) (f : Nat → Act) : Act := bitDo i (regNow off v f)

/-! ### Completions (R289, R290, R292, R305) -/

/-- Address of a pair's progress block (R289). -/
def State.progAddr (s : State) (p : Nat) : Nat := s.fld rQUE_CTL 47 16 * 2 ^ 16 + 64 * p

/-- PHASE of entry `n` of a ring of `slots` slots (R290). -/
def phaseOf (n slots : Nat) : Nat := 1 - n / slots % 2

/-- Completion slots of a pair. -/
def State.cqSlots (s : State) (p : Nat) : Nat := 2 ^ s.fld rQUE_PAIR_CFG 54 50 p

/-- Submission slots of a pair. -/
def State.sqSlots (s : State) (p : Nat) : Nat := 2 ^ s.fld rQUE_PAIR_CFG 59 55 p

/-- The 32 B of a completion (Table 8.11). -/
def completionBytes (c : Cmd) (phase now status result detail : Nat) : List Byte :=
  leBytes 8 (dTag c.desc) ++ leBytes 4 c.num ++ leBytes 1 status ++ leBytes 1 (128 * phase) ++ leBytes 1 c.op
    ++ leBytes 1 (if c.op = opcSERVE then leAt c.desc 0x10 1 else 0) ++ leBytes 8 now ++ leBytes 4 result
    ++ leBytes 4 detail

/-- A DRAINING pair that holds nothing goes OFF, and its EN with it (R324). -/
def settlePair (p : Nat) : Act :=
  .dyn fun s =>
    if (s.pair p).st = .draining ∧ (s.pair p).held = 0 then
      .seq (modPair p (fun x => { x with st := .off })) (setFld rQUE_PAIR_CFG 63 63 0 p)
    else .nop

/-- Numbers of the commands taken and not completed. -/
def State.cmdIds (s : State) : List Nat := tkeys s.que.cmds

/-- Commands of tenant `t` that a descriptor brought and that have not completed. -/
def State.tenantCmds (s : State) (t : Nat) : List Nat :=
  s.cmdIds.filter (fun i => match s.cmd i with
    | some c => decide (c.tenant = t) && c.pair.isSome
    | none => false)

/-- Pairs of a tenant (R288). -/
def tenantPairs (t : Nat) : List Nat := (List.range 16).map (fun i => 16 * t + i)

/-- The last step of the reset of tenant `t` (R308): its pairs, its itinerary queues and the tenant are OFF. -/
def endReset (t : Nat) : Act :=
  .dyn fun s => seqs [
    each (tenantPairs t) (fun p => .seq (.upd (.pair p {})) (setFld rQUE_PAIR_CFG 63 63 0 p)),
    each ((List.range 64).filter (fun q => decide (s.fld rDOC_IQ_CTL 53 48 q = t))) (fun q =>
      .seq (modIq q (fun x => { x with st := .off, cancelling := false })) (setFld rDOC_IQ_CTL 63 61 0 q)),
    modTenant t (fun x => { x with st := .off }),
    setFld rTEN_CTL 63 63 0 t,
    setFld rTEN_RESET t t 0]

/-- Nothing of tenant `t` is left that its reset waits for: commands, loads and steps in flight (R308). -/
def State.resetOver (s : State) (t : Nat) : Bool :=
  decide (s.tenantCmds t = [])
    && (List.range 16).all (fun h => decide ((s.load h).st = .free) || decide ((s.load h).tenant ≠ t))
    && (List.range 64).all (fun q => decide (s.fld rDOC_IQ_CTL 53 48 q ≠ t) || decide ((s.iq q).fly = []))

/-- A DRAINING tenant that holds nothing goes OFF (R307, R324); a RESETTING one ends its reset (R308). -/
def settleTenant (t : Nat) : Act :=
  .dyn fun s =>
    if (s.tenant t).st = .draining ∧ s.intake t = [] ∧ s.tenantCmds t = [] then
      .seq (modTenant t (fun x => { x with st := .off })) (setFld rTEN_CTL 63 63 0 t)
    else if decide ((s.tenant t).st = .resetting) && s.resetOver t then endReset t
    else .nop

/-- Write a completion into the command's pair and drop the command (R305). A halted module writes none (R377); a
command under reset takes TENANT_RESET (R308). -/
def completeCode (id status result detail : Nat) : Act :=
  .dyn fun s => withSome (s.cmd id) fun c =>
    if s.halted then .nop
    else match c.pair with
      | none => .upd (.cmd id none)
      | some p =>
        let n := (s.pair p).done
        let slots := s.cqSlots p
        let status := if c.reset then Status.tenantReset.code else status
        seqs [
          writeBytes (s.fld rQUE_CQ_BASE 47 0 p + 32 * (n % slots))
            (completionBytes c (phaseOf n slots) s.now status result detail),
          modPair p (fun x => { x with done := x.done + 1, cqTail := (x.cqTail + 1) % 2 ^ 32, held := x.held - 1 }),
          writeLe (s.progAddr p + 4) 4 ((s.pair p).cqTail + 1),
          writeLe (s.progAddr p + 0x18) 8 (n + 1),
          .upd (.cmd id none),
          settlePair p,
          settleTenant c.tenant]

/-- Complete with a status of Table 8.13. -/
def complete (id : Nat) (st : Status) (result : Nat := 0) (detail : Nat := 0) : Act :=
  completeCode id st.code result detail

end Sys2Proof.Machine
end

