-- ==== Sys2Proof/Machine/Work.lean ====
section
/-!
DEFINITION. Windows and holds (R380, R462), the life of an itinerary queue (R216, R218, R220, R221, R230), and
cancelled work (R224, R225).
-/

namespace Sys2Proof.Machine

/-! ### Windows (R462) and holds (R380) -/

/-- `n` bytes from `a` lie in tenant `t`'s window, where it has one (R462). -/
def State.inWindow (s : State) (t a n : Nat) : Bool :=
  let lo := baseT2 + s.fld rSEC_WIN 51 32 t * unit64K
  !s.flag rSEC_WIN 63 t || (decide (lo ≤ a) && decide (a + n ≤ lo + s.fld rSEC_WIN 19 0 t * unit64K))

/-- A range outside a tenant's window: SEC_ERR.WINDOW and a class B incident (R462). -/
def windowFault (t : Nat) : Act :=
  incident { cls := .B, blk := blkSEC, code := 3, status := Status.shapeInvalid.code, tenant := some t }

/-- The hold applies to tenant `t` now (R380). -/
def State.holds (s : State) (t : Nat) : Bool := s.holdOn && s.flag rINT_HOLD_TEN t

/-- Tenant `t` shows ENABLED. -/
def State.tenantOn (s : State) (t : Nat) : Bool := decide ((s.tenant t).st = .enabled)

/-! ### Itinerary queues -/

def State.iqListMode (s : State) (q : Nat) : Bool := !s.flag rDOC_IQ_CTL 60 q
def State.iqTenant (s : State) (q : Nat) : Nat := s.fld rDOC_IQ_CTL 53 48 q
def State.iqLimit (s : State) (q : Nat) : Nat := s.fld rDOC_IQ_CTL 46 40 q
def State.iqCount (s : State) (q : Nat) : Nat := s.fld rDOC_IQ_BASE 63 48 q
def State.iqAddr (s : State) (q : Nat) : Nat := s.fld rDOC_IQ_BASE 47 0 q

/-- Step record `i` of the list of queue `q` (R217). -/
def State.iqStep (s : State) (q i : Nat) : Step := stepOf (s.bytes (s.iqAddr q + 32 * i) 32)

/-- The first step at or after `i` that is not cancelled, at most `count`. -/
def skipCancelled (cancelled : List Nat) (count : Nat) : Nat → Nat → Nat
  | 0, i => i
  | n + 1, i => if i < count ∧ cancelled.contains i then skipCancelled cancelled count n (i + 1) else i

/-- A queue with nothing in flight shows what it has reached: DONE, or OFF after draining (R220, R225, R230). -/
def settleIq (q : Nat) : Act :=
  .dyn fun s =>
    let x := s.iq q
    let lm := s.iqListMode q
    let n := s.iqCount q
    let nx := if lm then skipCancelled x.cancelled n n x.next else x.next
    let allOver := decide (x.fly = [])
    if (decide (x.st = .running) || decide (x.st = .draining)) && allOver && x.cancelling then
      .seq (.upd (.iq q { x with next := nx, st := .done, cancelling := false })) (setFld rDOC_IQ_CTL 62 61 0 q)
    else if decide (x.st = .draining) && allOver then
      .seq (.upd (.iq q { x with next := nx, st := .off })) (setFld rDOC_IQ_CTL 61 61 0 q)
    else if decide (x.st = .running) && lm && allOver && decide (n ≤ nx) then
      .upd (.iq q { x with next := nx, st := .done })
    else if x.st = .running then
      .upd (.iq q { x with
        next := nx, endsSeen := if nx = x.next then x.endsSeen else (List.range 16).map (fun h => (s.load h).ends) })
    else .nop

/-- A failure stops the queue (R220). -/
def stopIq (q step status : Nat) : Act :=
  .dyn fun s => .seq
    (modIq q (fun x => { x with st := .stopped, lastStatus := status, lastStep := step }))
    (incident { cls := .B, blk := blkDOC, code := 4, status := status, tenant := some (s.iqTenant q) })

/-- The list's place is right (R221). -/
def State.iqListOk (s : State) (q : Nat) : Bool :=
  decide (s.iqAddr q % 32 = 0) && decide (0 < s.iqCount q) && s.inRsv (s.iqAddr q) (32 * s.iqCount q)

/-- The list begins, or goes on at NEXT: its place is checked first (R221, R462). -/
def beginIq (q : Nat) (fresh : Bool) : Act :=
  .seq (modIq q (fun x => { x with
      st := .running, cancelling := false,
      next := if fresh then 0 else x.next,
      cancelled := if fresh then [] else x.cancelled,
      stepsDone := if fresh then [] else x.stepsDone }))
    (.dyn fun s =>
      if s.iqListMode q then
        if !s.iqListOk q then stopIq q 0 Status.shapeInvalid.code
        else if !s.inWindow (s.iqTenant q) (s.iqAddr q) (32 * s.iqCount q) then
          .seq (windowFault (s.iqTenant q)) (stopIq q 0 Status.shapeInvalid.code)
        else .seq (modIq q (fun x => { x with endsSeen := (List.range 16).map (fun h => (s.load h).ends) })) (settleIq q)
      else .nop)

/-- EN = 1 is written to a queue (R216, R221, R230). -/
def enableIq (q : Nat) : Act :=
  .dyn fun s =>
    if !s.tenantOn (s.iqTenant q) then
      incident { cls := .A, blk := blkDOC, code := 5, tenant := some (s.iqTenant q), off := rDOC_IQ_CTL }
    else .seq (setFld rDOC_IQ_CTL 63 63 1 q)
      (match (s.iq q).st with
        | .off => .seq (modIq q (fun x => { x with bytes := 0 })) (beginIq q false)
        | .done => beginIq q true
        | .stopped => beginIq q true
        | .draining => modIq q (fun x => { x with st := .running })
        | .running => .nop)

/-! ### Cancelled work (R224, R225) -/

/-- MOVE commands that wait in queue `q` complete with `status`. -/
def dropWaiting (q status : Nat) : Act :=
  .dyn fun s => .seq (modIq q (fun x => { x with cmds := [] }))
    (each (s.iq q).cmds (fun id => withSome (s.cmd id) (fun c =>
      completeCode id status (if leAt c.desc 0x18 4 = noIdx then leAt c.desc 0x14 4 else leAt c.desc 0x18 4) 0)))

/-- Steps not started whose record satisfies `p` are cancelled in every list (R224). -/
def cancelSteps (p : Step → Bool) : Act :=
  each (List.range 64) (fun q => .dyn fun s =>
    let x := s.iq q
    let n := s.iqCount q
    if s.iqListMode q && (decide (x.st = .running) || decide (x.st = .draining) || (decide (x.st = .off) && decide (0 < x.next))) then
      let hit := (List.range n).filter (fun i => decide (x.next ≤ i) && p (s.iqStep q i))
      .seq (modIq q (fun x => { x with cancelled := x.cancelled ++ hit })) (settleIq q)
    else .nop)

/-- Request entry `i` has entered CANCELLED or FAULTED (R224). -/
def cancelRequestWork (i : Nat) : Act := cancelSteps (fun r => r.flags.testBit 1 && decide (r.work = i))

/-- Load `h` is released, or its command has completed with a fault status (R224). -/
def cancelLoadWork (h : Nat) : Act := cancelSteps (fun r => r.flags.testBit 2 && decide (r.load = h))

/-- Every step of a queue is cancelled (R224, R225). -/
def cancelIq (q : Nat) : Act :=
  .dyn fun s =>
    let x := s.iq q
    if x.st = .off ∧ s.iqListMode q then
      .seq (modIq q (fun x => { x with st := .done, next := max x.next (s.iqCount q) })) (setFld rDOC_IQ_CTL 62 62 0 q)
    else if x.st = .running ∨ x.st = .draining then
      seqs [
        modIq q (fun x => { x with
          cancelling := true
          next := if s.iqListMode q then max x.next (s.iqCount q) else x.next }),
        orReg rDOC_IQ_CTL (2 ^ 62) q, dropWaiting q Status.cancelled.code, settleIq q]
    else setFld rDOC_IQ_CTL 62 62 0 q

end Sys2Proof.Machine
end

