-- ==== Sys2Proof/Machine/Requests.lean ====
section
/-!
DEFINITION. Services, KV frames and page lists, prefixes, and the course of a request through its prefill, its steps
and its end (R242 to R257, R263, R277 to R280).
-/

namespace Sys2Proof.Machine

/-! ### Services (R242, SRV_SVC registers) -/

def State.svcOn (s : State) (v : Nat) : Bool := s.flag rSRV_SVC_CFG 63 v
def State.svcState (s : State) (v : Nat) : Nat := s.fld rSRV_SVC_CFG 62 61 v
def State.svcPen (s : State) (v : Nat) : Bool := s.flag rSRV_SVC_CFG 60 v
def State.svcSplit (s : State) (v : Nat) : Bool := s.flag rSRV_SVC_CFG 59 v
def State.svcGroup (s : State) (v : Nat) : Nat := s.fld rSRV_SVC_CFG 58 57 v
/-- Tokens of a page (R249). -/
def State.svcPage (s : State) (v : Nat) : Nat := if s.flag rSRV_SVC_CFG 56 v then 256 else 64
def State.svcDraftMax (s : State) (v : Nat) : Nat := s.fld rSRV_SVC_CFG 55 52 v
def State.svcTenant (s : State) (v : Nat) : Nat := s.fld rSRV_SVC_CFG 51 46 v
def State.svcPre (s : State) (v : Nat) : Nat := s.fld rSRV_SVC_SHAPE 63 60 v
def State.svcDec (s : State) (v : Nat) : Nat := s.fld rSRV_SVC_SHAPE 59 56 v
def State.svcHead (s : State) (v : Nat) : Nat := s.fld rSRV_SVC_SHAPE 55 52 v
def State.svcIq (s : State) (v : Nat) : Nat := s.fld rSRV_SVC_SHAPE 51 46 v
def State.svcBatch (s : State) (v : Nat) : Nat := s.fld rSRV_SVC_SHAPE 45 37 v
def State.svcC (s : State) (v : Nat) : Nat := s.fld rSRV_SVC_SHAPE 36 25 v
def State.svcEos (s : State) (v : Nat) : Nat := s.fld rSRV_SVC_TOKENS 63 32 v
def State.svcVocab (s : State) (v : Nat) : Nat := s.fld rSRV_SVC_TOKENS 31 0 v

def svcOFF : Nat := 0
def svcSTANDBY : Nat := 1
def svcSTAGING : Nat := 2
def svcREADY : Nat := 3

/-! ### Split groups (R165, EXH_SPLIT registers) -/

def State.splitOn (s : State) (g : Nat) : Bool := s.flag rEXH_SPLIT_CTL 63 g
def State.splitFirst (s : State) (g : Nat) : Nat := s.fld rEXH_SPLIT_CTL 61 58 g
def State.splitCount (s : State) (g : Nat) : Nat := s.fld rEXH_SPLIT_CTL 57 53 g

/-- Bays of a split group, in order. -/
def State.groupBays (s : State) (g : Nat) : List Nat := (List.range (s.splitCount g)).map (fun i => s.splitFirst g + i)

/-- The load of a bay is a one-bay load on it. -/
def State.bayLoad (s : State) (b : Nat) : Option Nat :=
  match (s.bay b).load with
  | some h => if (s.load h).bays = 1 <<< b then some h else none
  | none => none

/-- A load runs the prefill exhibit of group `g`. -/
def State.runsPrefill (s : State) (g h : Nat) : Bool := decide ((s.load h).entry = s.fld rEXH_SPLIT_IMG 4 0 g)

/-- The bay at place `r` of a group runs prefill. -/
def State.bayPrefills (s : State) (g b : Nat) : Bool :=
  match s.bayLoad b with
  | some h => s.runsPrefill g h
  | none => false

/-- P: the bays of a group that run prefill (R165). -/
def State.groupP (s : State) (g : Nat) : Nat := ((s.groupBays g).filter (s.bayPrefills g)).length

/-- The enabled split group of a load (EXH_LOAD_STAT). -/
def State.splitOf (s : State) (h : Nat) : Option Nat :=
  (List.range 4).find? (fun g => s.splitOn g && (s.groupBays g).any (fun b => decide (s.bayLoad b = some h)))

/-- The decode load of pool `r` of a service (R249). -/
def State.decLoad (s : State) (v r : Nat) : Option Nat :=
  if s.svcSplit v then s.bayLoad (s.splitFirst (s.svcGroup v) + r) else some (s.svcDec v)

/-- Pool number of a service's decode load without a split group; with one load for both stages it is also that of
prefill. -/
def decPool : Nat := 1

/-- Prefill loads of a service with the pool of each, lowest-numbered first (R249, R260). -/
def State.preLoads (s : State) (v : Nat) : List (Nat × Nat) :=
  if s.svcSplit v then
    let g := s.svcGroup v
    (List.range (s.splitCount g)).filterMap (fun r =>
      let b := s.splitFirst g + r
      if s.bayPrefills g b then (s.bayLoad b).map (fun h => (r, h)) else none)
  else [(if s.svcPre v = s.svcDec v then decPool else 0, s.svcPre v)]

/-- A load named by an enabled service (R245). -/
def State.inService (s : State) (h : Nat) : Bool :=
  (List.range 64).any (fun v => s.svcOn v && (decide (s.svcHead v = h) ||
    (if s.svcSplit v then (s.groupBays (s.svcGroup v)).any (fun b => decide (s.bayLoad b = some h))
     else decide (s.svcPre v = h) || decide (s.svcDec v = h))))

/-! ### Pools and frames (R249, R250) -/

/-- Pool-table entry number of the park copy. -/
def parkEntry : Nat := 16

/-- The copy that pool-table entry `r` names. -/
def State.poolCopy (s : State) (v r : Nat) : Option Nat := idxOf (s.le (s.fld rSRV_SVC_POOLS 47 0 v + 4 * r) 4)

/-- Descriptor of a pool's copy. -/
def State.poolObj (s : State) (v r : Nat) : Option Obj := (s.poolCopy v r).bind s.obj

/-- Bytes of one frame. -/
def State.frameBytes (s : State) (v : Nat) : Nat := s.svcPage v * s.fld rSRV_SVC_POOLS 63 48 v * 64

/-- Frames of a pool. -/
def State.poolFrames (s : State) (v r : Nat) : Nat :=
  match s.poolObj v r with
  | some o => min 16384 (o.size / s.frameBytes v)
  | none => 0

/-- Request entries that are not FREE. -/
def State.reqIds (s : State) : List Nat := (tkeys s.srv.reqs).filter (fun i => decide ((s.req i).st ≠ .free))

/-- Prefix entries that are not FREE. -/
def State.pfxIds (s : State) : List Nat := (tkeys s.srv.pfxs).filter (fun p => decide ((s.pfx p).st ≠ .free))

/-- Frames in use in a pool of a service. -/
def State.usedFrames (s : State) (v r : Nat) : List Nat :=
  (s.reqIds.filter (fun i => decide ((s.req i).svc = v))).flatMap (fun i =>
      let x := s.req i
      (if x.slot.isSome ∧ x.pool = r then x.frames else []) ++ (if x.prePool = r then x.preFrames else []))
    ++ (s.pfxIds.filter (fun p => decide ((s.pfx p).svc = v))).flatMap (fun p =>
      ((s.pfx p).homes.filter (fun h => decide (h.pool = r))).flatMap (fun h => h.frames))

/-- Frames in use in the park copy of a service. -/
def State.usedPark (s : State) (v : Nat) : List Nat :=
  (s.reqIds.filter (fun i => decide ((s.req i).svc = v))).flatMap (fun i => (s.req i).parkFrames)
    ++ (s.pfxIds.filter (fun p => decide ((s.pfx p).svc = v))).flatMap (fun p => (s.pfx p).frames)

/-- The lowest `n` frames from `lo` below `total` that are not used, if there are so many (assumption log 40). -/
def freeFrames (used : List Nat) (lo total n : Nat) : Option (List Nat) :=
  let xs := ((List.range total).filter (fun f => decide (lo ≤ f) && !used.contains f)).take n
  if xs.length = n then some xs else none

/-- Pages that a request may need: ⌈(LIMIT + DRAFT) ÷ page⌉ (R250, R258). -/
def State.reqPages (s : State) (x : Req) : Nat := cdiv (x.limit + x.draft) (s.svcPage x.svc)

/-- Whole pages of the prefix that a request uses. -/
def State.pfxPages (s : State) (x : Req) : Nat :=
  match x.pfx with
  | some p => (s.pfx p).length / s.svcPage x.svc
  | none => 0

/-- Free frames of a decode pool, prefix pages counted as private (R258). -/
def State.freeCount (s : State) (v r : Nat) : Nat :=
  s.poolFrames v r - ((s.reqIds.filter (fun i =>
    decide ((s.req i).svc = v) && decide ((s.req i).pool = r) && (s.req i).slot.isSome)).map (fun i => s.reqPages (s.req i))).sum

/-- Batch slots in use on the decode load of pool `r`. -/
def State.usedSlots (s : State) (v r : Nat) : List Nat :=
  s.reqIds.filterMap (fun i =>
    let x := s.req i
    if x.svc = v ∧ x.pool = r then x.slot else none)

/-- The lowest free batch slot. -/
def State.freeSlot (s : State) (v r : Nat) : Option Nat :=
  (List.range (s.svcBatch v)).find? (fun b => !(s.usedSlots v r).contains b)

/-! ### Moving pages (R227, R252, R254 to R256) -/

/-- Copy `n` bytes, a multiple of 32, between two copies, carried poison with them. -/
def copyBytes (src dst : Obj) (so d n : Nat) : Act :=
  each (List.range (n / 32)) (fun k => .dyn fun s =>
    let p := src.phys (so + 32 * k)
    let q := dst.phys (d + 32 * k)
    .seq (writeBytes q (s.bytes p 32)) (.upd (.bad (q / 32) (s.bad p))))

/-- Copy frames, (source, destination) each, between two pool-table entries of a service; the bytes are charged to its
tenant. -/
def copyFrames (v src dst : Nat) (fs : List (Nat × Nat)) : Act :=
  .dyn fun s =>
    let n := s.frameBytes v
    match s.poolObj v src, s.poolObj v dst with
    | some a, some b => seqs [
        each fs (fun (p : Nat × Nat) => copyBytes a b (p.1 * n) (p.2 * n) n),
        chargeBytes (s.svcTenant v) b.tier (fs.length * n),
        when' (decide (fs ≠ [])) (withSome (s.poolCopy v dst) dirtyCopy)]
    | _, _ => .nop

/-- The request uses its prefix in pool `r`: the first user brings its whole pages in (R256). -/
def acquirePfx (p r : Nat) : Act :=
  .dyn fun s =>
    let x := s.pfx p
    match x.homes.find? (fun h => decide (h.pool = r)) with
    | some _ => modPfx p (fun x => { x with
        homes := x.homes.map (fun h => if h.pool = r then { h with users := h.users + 1 } else h) })
    | none =>
      let n := x.length / s.svcPage x.svc
      let fs := (freeFrames (s.usedFrames x.svc r) 0 (s.poolFrames x.svc r) n).getD []
      .seq (modPfx p (fun x => { x with homes := x.homes ++ [{ pool := r, users := 1, frames := fs }] }))
        (copyFrames x.svc parkEntry r ((x.frames.take n).zip fs))

/-- The request leaves the pool: the last user frees the prefix's frames there (R256). -/
def leavePfx (p r : Nat) : Act :=
  modPfx p (fun x => { x with
    homes := (x.homes.map (fun h => if h.pool = r then { h with users := h.users - 1 } else h)).filter
      (fun h => decide (0 < h.users)) })

/-- A RELEASING prefix with no user is FREE and its generation rises by one (R257). -/
def settlePfx (p : Nat) : Act :=
  .dyn fun s =>
    let x := s.pfx p
    if x.st = .releasing ∧ x.refs = 0 then .upd (.pfx p { gen := (x.gen + 1) % 2 ^ 18 }) else .nop

/-- A prefix handle: generation and index (R255). -/
def handleOf (gen p : Nat) : Nat := gen * 2 ^ 14 + p

/-- The prefix that a handle names (R257). -/
def State.pfxOf (s : State) (h : Nat) : Option Nat :=
  let p := h % 2 ^ 14
  if p < 12288 ∧ (s.pfx p).st = .live ∧ (s.pfx p).gen = h / 2 ^ 14 then some p else none

/-- Entries of a request's page list where its pages lie (R250). -/
def State.pageEntries (s : State) (x : Req) : List Nat :=
  let homeOf (r : Nat) : List Nat := match x.pfx with
    | some p => ((s.pfx p).homes.filter (fun h => decide (h.pool = r))).flatMap (fun h => h.frames)
    | none => []
  match x.loc with
  | .none => []
  | .prefill => (homeOf x.prePool ++ x.preFrames).map (fun f => x.prePool * 2 ^ 27 + f)
  | .decode => (homeOf x.pool ++ x.frames).map (fun f => x.pool * 2 ^ 27 + f)
  | .park => ((match x.pfx with
      | some p => (s.pfx p).frames.take (s.pfxPages x)
      | none => []) ++ x.parkFrames).map (fun f => 2 ^ 31 + f)

/-- Write the page list of request `i` (R250). -/
def writePageList (i : Nat) : Act :=
  .dyn fun s =>
    let x := s.req i
    let es := s.pageEntries x
    .seq (modReq i (fun x => { x with pages := es.length }))
      (writeBytes x.pageList (es.flatMap (fun e => leBytes 4 e)))

/-- Logical pages of a request in batch slot `b` with their frames (R251). -/
def State.kvPages (s : State) (x : Req) (b : Nat) : List (Nat × Nat) :=
  let es := s.pageEntries x
  ((List.range es.length).zip es).map (fun (p : Nat × Nat) => (b * 65536 + p.1, p.2 % 2 ^ 27))

/-! ### Ends (R248, R277 to R279) -/

/-- A request is live: its end is not decided. -/
def Req.live (x : Req) : Bool :=
  decide (x.st = .admitted) || decide (x.st = .prefill) || decide (x.st = .decode) || decide (x.st = .verify)
    || decide (x.st = .parked)

/-- The end of request `i` is decided: it is DRAINING, its CANCELs complete, a PARK that waited completes BUSY
(assumption log 41). -/
def drainReq (i : Nat) (es : ReqState) (status : Nat) : Act :=
  .dyn fun s =>
    let x := s.req i
    if x.live then
      let late := decide (status = Status.okCancelLate.code)
      seqs [
        modReq i (fun x => { x with
          st := .draining, endSt := es, endStatus := status, ph := .none, cancel := false, cancels := [],
          parkCmd := none, prov := 0, drafts := [], due := [], drawn := [], wide := false }),
        each x.cancels (fun id => complete id (if late then .okCancelLate else .ok) i),
        withSome x.parkCmd (fun id => complete id .busy i)]
    else .nop

/-- A request ends FAULTED with a status (R279). -/
def faultReq (i : Nat) (st : Status) : Act := drainReq i .faulted st.code

/-- Give back what request `i` holds: frames, slot, prefix (R248, R256). -/
def freeReqHoldings (i : Nat) : Act :=
  .dyn fun s =>
    let x := s.req i
    seqs [
      withSome x.pfx (fun p => seqs [
        (match x.loc with
          | .prefill => leavePfx p x.prePool
          | .decode => leavePfx p x.pool
          | _ => .nop),
        modPfx p (fun y => { y with refs := y.refs - 1 }),
        settlePfx p]),
      modReq i (fun x => { x with slot := none, frames := [], preFrames := [], parkFrames := [], loc := .none, pfx := none })]

/-! ### Commands of the serving block (R263) -/

def opPREFILL : Nat := 0x80
def opDECODE : Nat := 0x81
def opHEAD : Nat := 0x82
def opWIDE : Nat := 0x83

/-- Change a step. -/
def modStep (key : Nat) (f : SrvStep → SrvStep) : Act := modSrvStep key (fun t => t.map f)

/-- Give load `h` a command of the serving block for requests `rs` of service `v`. -/
def issueServe (op h v key : Nat) (rs : List Nat) : Act :=
  .dyn fun s => seqs [
    .upd (.cmd s.nextCmd (some { op := op, tenant := s.svcTenant v, pair := none, time := s.now, taken := true,
                                 reqs := rs, svc := v, step := key })),
    .upd (.nextCmd (s.nextCmd + 1)),
    modLoad h (fun l => { l with waiting := l.waiting ++ [s.nextCmd] }),
    modStep key (fun t => { t with cmd := some s.nextCmd })]

/-- Work of the serving block is in flight. -/
def State.serveBusy (s : State) : Bool :=
  s.cmdIds.any (fun i => match s.cmd i with
    | some c => decide (opPREFILL ≤ c.op)
    | none => false) || decide (tkeys s.srv.steps ≠ [])

/-- A DRAINING serving block with nothing in flight is OFF (R280). -/
def settleSrv : Act :=
  .dyn fun s =>
    if decide (s.srvSt = .draining) && !s.serveBusy then .seq (.upd (.srvSt .off)) (setFld rSRV_CTL 1 1 0) else .nop

/-- Key of the first draw of request `i`. -/
def drawKey (i : Nat) : Nat := 16 + i

/-- Start the first draw of request `i`: the head command after its prefill (R248, R252). -/
def startDraw (i : Nat) : Act :=
  .dyn fun s =>
    let x := s.req i
    seqs [
      .upd (.srvStep (drawKey i) (some { svc := x.svc, reqs := [i], ph := .head })),
      modReq i (fun x => { x with ph := .draw, due := [x.committed], drawn := [], drafts := [], decided := false, wide := false }),
      issueServe opHEAD (s.svcHead x.svc) x.svc (drawKey i) [i]]

/-- Begin a PARK at a boundary: frames of the park copy from 64 upward, or BUSY (R254). -/
def beginPark (i id : Nat) : Act :=
  .dyn fun s =>
    let x := s.req i
    match freeFrames (s.usedPark x.svc) 64 (s.poolFrames x.svc parkEntry) x.frames.length with
    | some fs => modReq i (fun x => { x with ph := .parking, parkFrames := fs })
    | none => .seq (modReq i (fun x => { x with parkCmd := none })) (complete id .busy i)

/-- A boundary of request `i`: a CANCEL or a PARK that waits is taken (R254, R277). -/
def reqBoundary (i : Nat) : Act :=
  .dyn fun s =>
    let x := s.req i
    if x.cancel then drainReq i .cancelled Status.cancelled.code
    else withSome x.parkCmd (beginPark i)

/-- Request `i` is in the step: its records or its command are still to come. -/
def State.inStep (s : State) (i : Nat) : Bool := decide ((s.req i).ph = .step) || decide ((s.req i).ph = .draw)

/-- A step is over for every request in it. -/
def endStep (key : Nat) : Act :=
  .dyn fun s => withSome (s.srvStep key) fun t => seqs [
    .upd (.srvStep key none),
    each (t.reqs.filter s.inStep) (fun i => .seq
      (modReq i (fun x => { x with
        ph := .idle, st := .decode, due := [], drawn := [], drafts := [], prov := 0, decided := false, wide := false }))
      (reqBoundary i)),
    settleSrv]

/-- Go on with a step whose command has ended, once every record has come: the widened head command, or the end
(R263, R269). -/
def advanceStep (key : Nat) : Act :=
  .dyn fun s => withSome (s.srvStep key) fun t =>
    let rs := t.reqs.filter s.inStep
    let wides := rs.filter (fun i => (s.req i).wide)
    if t.cmd.isSome || rs.any (fun i => decide ((s.req i).due ≠ [])) then .nop
    else if t.ph = .head ∧ wides ≠ [] then seqs [
      modStep key (fun t => { t with ph := .wide }),
      each wides (fun i => modReq i (fun x => { x with
        wide := false, drawn := [], due := (List.range (x.drafts.length + 1)).map (fun j => x.committed + j) })),
      issueServe opWIDE (s.svcHead t.svc) t.svc key wides]
    else endStep key

/-! ### A prefill command has ended (R252, R255) -/

/-- Register the request's prefix (R255): its pages move whole into park frames and a free prefix entry becomes LIVE;
with no entry or frame free it completes BUSY. -/
def registerPfx (i : Nat) : Act :=
  .dyn fun s =>
    let x := s.req i
    let es := (s.pageEntries x).take (cdiv x.promptEnd (s.svcPage x.svc))
    let src := if x.loc = .prefill then x.prePool else x.pool
    match (List.range 12288).find? (fun p => decide ((s.pfx p).st = .free)),
        freeFrames (s.usedPark x.svc) 64 (s.poolFrames x.svc parkEntry) es.length with
    | some p, some fs =>
      let h := handleOf (s.pfx p).gen p
      seqs [
        copyFrames x.svc src parkEntry ((es.map (fun e => e % 2 ^ 27)).zip fs),
        modPfx p (fun y => { y with
          st := .live, tenant := x.tenant, svc := x.svc, length := x.promptEnd, refs := 0, pageList := x.pageList,
          pages := fs.length, frames := fs, homes := [] }),
        writeBytes x.pageList (fs.flatMap (fun f => leBytes 4 (2 ^ 31 + f))),
        modReq i (fun x => { x with handle := h, pages := fs.length }),
        drainReq i .done Status.ok.code]
    | _, _ => drainReq i .done Status.busy.code

/-- The prefill of request `i` has ended well (R248, R252, R255, R277). -/
def prefillDone (i : Nat) : Act :=
  .seq (modReq i (fun x => { x with committed := x.promptEnd }))
    (.dyn fun s =>
      let x := s.req i
      if x.cancel then drainReq i .cancelled Status.cancelled.code
      else if x.limit = x.promptEnd then
        if x.reg then registerPfx i else drainReq i .done Status.ok.code
      else if x.loc = .prefill then modReq i (fun x => { x with ph := .handover })
      else startDraw i)

/-- The serving block's command `id` has ended with status `st`. -/
def serveEnd (id : Nat) (st : Status) : Act :=
  .dyn fun s => withSome (s.cmd id) fun c => seqs [
    .upd (.cmd id none),
    when' (decide (st ≠ .ok)) (setErr blkSRV 2),
    if c.op = opPREFILL then
      each (c.reqs.filter (fun i => decide ((s.req i).ph = .prefill))) (fun i =>
        if st = .ok then prefillDone i else faultReq i st)
    else if st ≠ .ok then
      seqs [
        each (c.reqs.filter s.inStep) (fun i => faultReq i st),
        modStep c.step (fun t => { t with cmd := none }),
        advanceStep c.step]
    else if c.op = opDECODE then
      let rs := c.reqs.filter s.inStep
      .seq (modStep c.step (fun t => { t with ph := .head, cmd := none }))
        (if rs = [] then endStep c.step else issueServe opHEAD (s.svcHead c.svc) c.svc c.step rs)
    else .seq (modStep c.step (fun t => { t with cmd := none })) (advanceStep c.step),
    settleSrv]

end Sys2Proof.Machine
end

