-- ==== Sys2Proof/Machine/Scan.lean ====
section
/-!
DEFINITION. The bay scan store: what a scan captures of a bay and what a scan-in puts back (R321 to R323, Table 8.16).
Where the spec gives a part of the site image no layout, the places chosen here are in assumption log 20.
-/

namespace Sys2Proof.Machine

/-- Word number of a site's image within its bay's scan window (R322). -/
def scanBase (k : Nat) : Nat := 0x1000 * (4 * keyRow k + keyCol k % 4)

/-- The route slots of a site that hold something now: index 0 to 31. -/
def State.slotsOf (s : State) (k : Nat) : List (Nat × Slot) :=
  (List.range 32).filterMap (fun i => (s.slot (k * 32 + i)).map (fun x => (i, x)))

/-- Credit count that a scan shows for a slot: the least of its outputs' counts (log 20). -/
def State.slotCredit (s : State) (k : Nat) (x : Slot) : Nat :=
  ((bitsOn 9 x.outs).map (fun o => s.credit (k * 2048 + o * 64 + x.stream))).foldl min 0xFFFF

/-- The words of one slot's image: `(word offset, value)`. -/
def scanSlot (s : State) (k : Nat) (i : Nat) (x : Slot) : List (Nat × Nat) :=
  let n := i % 16
  let es := (List.range x.q.length).zip x.q
  es.flatMap (fun (e, t) => (List.range 8).map (fun w => (0x60 * n + 8 * e + w, bits (64 * w + 63) (64 * w) t.payload.toNat)))
    ++ (List.range 6).map (fun w => (0x600 + 6 * n + w,
        (match x.q[2 * w]? with
          | some t => t.sb.toNat
          | none => 0) + 2 ^ 32 * (match x.q[2 * w + 1]? with
          | some t => t.sb.toNat
          | none => 0)))
    ++ [(0x660 + n, 2 ^ 23 + place 22 19 x.inp + place 18 13 x.stream + place 12 4 x.outs + place 3 0 x.spill
          + place 27 24 x.epoch),
        (0x670 + n, place 15 0 (s.slotCredit k x) + place 31 24 x.q.length)]

/-- The words of a switch's own image: configuration queue and stopped inputs (log 20). -/
def scanSwitch (x : SiteSt) : List (Nat × Nat) :=
  ((List.range x.cfgQ.length).zip x.cfgQ).flatMap (fun (e, t) =>
      (List.range 8).map (fun w => (0x680 + 8 * e + w, bits (64 * w + 63) (64 * w) t.payload.toNat)))
    ++ [(0x6C0, x.stopped)]

/-- The words of an A-cell's registers (log 20). -/
def scanACell (s : State) (k : Nat) (a : ACell) : List (Nat × Nat) :=
  (0x800, a.pc) :: ((List.range a.loops.length).zip a.loops).map (fun (i, l) => (0x801 + i, l.left))
    ++ ((List.range 16).zip a.consts).map (fun (i, c) => (0x820 + i, c))
    ++ (List.range 1024).map (fun i => (0xA00 + i, s.lane (k * 1024 + i)))

/-- The words of an S-cell's registers (log 20). -/
def scanSCell (c : SCell) (spilled : List (Nat × Nat)) : List (Nat × Nat) :=
  ((List.range 8).zip c.rings).filterMap (fun (e, r) => r.map (fun r =>
      (0x800 + e, 2 ^ 55 + place 54 42 r.base + place 41 29 r.lines + place 28 26 r.slots + place 25 24 r.producer
        + place 23 21 r.consumers)))
    ++ ((List.range 2).zip c.gens).flatMap (fun (g, x) =>
        ((List.range 6).map (fun l => (0x820 + 8 * g + l, lget 0 x.idx l))) ++ [(0x826 + 8 * g, x.slot)])
    ++ spilled.map (fun (i, n) => (0x840 + i % 16, n))

/-- Every word of one site's image. -/
def scanSite (s : State) (k : Nat) : List (Nat × Nat) :=
  let slots := s.slotsOf k
  slots.flatMap (fun (i, x) => scanSlot s k i x) ++ scanSwitch (s.site k)
    ++ (if keyIsA k then scanACell s k (s.acell k)
        else scanSCell (s.scell k) (slots.map (fun (i, x) => (i, x.spilled.length))))

/-- Put the bay's switch and cell state into the scan store in place of what it held (R321, R322). -/
def captureScan (b : Nat) : Act :=
  .dyn fun s =>
    .seq (each (tkeys s.ten.scanStore) (fun k => .upd (.scanWord k 0)))
      (.seq (each (baySites b) (fun k => each (scanSite s k) (fun (o, v) =>
        .upd (.scanWord (scanBase k + o) (BitVec.ofNat 64 v)))))
        (.upd (.scanBay (some b))))

/-- The token stored for slot `n`, entry `e`. -/
def State.scanToken (s : State) (base n e : Nat) : Token :=
  { payload := BitVec.ofNat 512 ((List.range 8).foldl (fun a w =>
      a + (s.scanWord (base + 0x60 * n + 8 * e + w)).toNat * 2 ^ (64 * w)) 0),
    sb := BitVec.ofNat 24 ((s.scanWord (base + 0x600 + 6 * n + e / 2)).toNat / 2 ^ (32 * (e % 2))) }

/-- A slot as the store holds it, if it is valid there. -/
def State.scanSlotIn (s : State) (base n : Nat) (old : Option Slot) : Option Slot :=
  let r := (s.scanWord (base + 0x660 + n)).toNat
  if r.testBit 23 then
    let len := min 12 (bits 31 24 (s.scanWord (base + 0x670 + n)).toNat)
    some { inp := rsIn r, stream := rsStream r, outs := rsOut r, spill := rsSpill r, epoch := bits 27 24 r,
           q := (List.range len).map (fun e => s.scanToken base n e),
           spilled := match old with
             | some x => x.spilled
             | none => [] }
  else none

/-- Write one site's image back into the site (R323). -/
def restoreSite (k : Nat) : Act :=
  .dyn fun s =>
    let base := scanBase k
    let half := 16 * ((s.bay (keyBay k)).epoch % 2)
    let w (o : Nat) : Nat := (s.scanWord (base + o)).toNat
    seqs [
      each (List.range 16) (fun n => .seq
        (.upd (.slot (k * 32 + half + n) (s.scanSlotIn base n (s.slot (k * 32 + half + n)))))
        (withSome (s.scanSlotIn base n none) (fun x => when' (decide (popCount 9 x.outs = 1))
          (each (bitsOn 9 x.outs) (fun o => .upd (.credit (k * 2048 + o * 64 + x.stream) (bits 15 0 (w (0x670 + n)))))))) ),
      modSite k (fun x => { x with stopped := w 0x6C0 % 512 }),
      if keyIsA k then
        .seq (modAcell k (fun a => { a with
            pc := w 0x800,
            loops := ((List.range a.loops.length).zip a.loops).map (fun (i, l) => { l with left := w (0x801 + i) }),
            consts := (List.range 16).map (fun i => w (0x820 + i) % 2 ^ 32) }))
          (each (List.range 1024) (fun i => .upd (.lane (k * 1024 + i) (w (0xA00 + i) % 2 ^ 32))))
      else
        modScell k (fun c => { c with
            rings := ((List.range 8).zip c.rings).map (fun (e, r) => (ringOf (w (0x800 + e))).map (fun n =>
              { n with full := match r with
                | some o => o.full
                | none => [] })),
            gens := ((List.range 2).zip c.gens).map (fun (g, x) => { x with
              idx := (List.range 6).map (fun l => w (0x820 + 8 * g + l)), slot := w (0x826 + 8 * g) }) })]

/-- Write the store back into a bay (R323). -/
def restoreScan (b : Nat) : Act := each (baySites b) restoreSite

/-- A bay becomes SCANNING and remembers the state to which it returns; `dir` is 1 out, 2 in (R321, R323). -/
def startScan (b dir : Nat) : Act :=
  .dyn fun s => seqs [
    .upd (.bay b { s.bay b with st := .scanning, ret := (s.bay b).st }),
    .upd (.scanDir dir),
    if dir = 1 then captureScan b else restoreScan b,
    .upd (.scanWant (s.scanWant.filter (fun x => x ≠ b)))]

end Sys2Proof.Machine
end

