-- ==== Sys2Proof/Machine/Hash.lean ====
section
/-!
DEFINITION. The public functions that the spec names by their standards: CRC-32C (R205), SHA-256 (R132) and the
checking of an HSS signature as RFC 8554 lays it out (R449, R450). Their steps come from those standards
(assumption log 7).
-/

namespace Sys2Proof.Machine

/-! ### CRC-32C -/

/-- Eight steps of the reflected CRC. -/
def crcBits : Nat → Nat → Nat
  | 0, c => c
  | n + 1, c => crcBits n (if c % 2 = 1 then (c / 2) ^^^ 0x82F63B78 else c / 2)

/-- The CRC register after a list of bytes. -/
def crcRun : Nat → List Byte → Nat
  | c, [] => c
  | c, b :: bs => crcRun (crcBits 8 (c ^^^ b.toNat)) bs

/-- CRC-32C of a list of bytes. -/
def crc32c (bs : List Byte) : Nat := crcRun 0xFFFFFFFF bs ^^^ 0xFFFFFFFF

/-! ### SHA-256 -/

def shaK0 : List (BitVec 32) :=
  [0x428a2f98, 0x71374491, 0xb5c0fbcf, 0xe9b5dba5, 0x3956c25b, 0x59f111f1, 0x923f82a4, 0xab1c5ed5,
   0xd807aa98, 0x12835b01, 0x243185be, 0x550c7dc3, 0x72be5d74, 0x80deb1fe, 0x9bdc06a7, 0xc19bf174]
def shaK1 : List (BitVec 32) :=
  [0xe49b69c1, 0xefbe4786, 0x0fc19dc6, 0x240ca1cc, 0x2de92c6f, 0x4a7484aa, 0x5cb0a9dc, 0x76f988da,
   0x983e5152, 0xa831c66d, 0xb00327c8, 0xbf597fc7, 0xc6e00bf3, 0xd5a79147, 0x06ca6351, 0x14292967]
def shaK2 : List (BitVec 32) :=
  [0x27b70a85, 0x2e1b2138, 0x4d2c6dfc, 0x53380d13, 0x650a7354, 0x766a0abb, 0x81c2c92e, 0x92722c85,
   0xa2bfe8a1, 0xa81a664b, 0xc24b8b70, 0xc76c51a3, 0xd192e819, 0xd6990624, 0xf40e3585, 0x106aa070]
def shaK3 : List (BitVec 32) :=
  [0x19a4c116, 0x1e376c08, 0x2748774c, 0x34b0bcb5, 0x391c0cb3, 0x4ed8aa4a, 0x5b9cca4f, 0x682e6ff3,
   0x748f82ee, 0x78a5636f, 0x84c87814, 0x8cc70208, 0x90befffa, 0xa4506ceb, 0xbef9a3f7, 0xc67178f2]

/-- Round constants. -/
def shaK : List (BitVec 32) := shaK0 ++ shaK1 ++ shaK2 ++ shaK3

/-- Initial hash value. -/
def shaInit : List (BitVec 32) :=
  [0x6a09e667, 0xbb67ae85, 0x3c6ef372, 0xa54ff53a, 0x510e527f, 0x9b05688c, 0x1f83d9ab, 0x5be0cd19]

/-- The next message word, from the sixteen before it, newest first. -/
def shaNext (w : List (BitVec 32)) : BitVec 32 :=
  let w15 := lget 0 w 14
  let w2 := lget 0 w 1
  let s0 := w15.rotateRight 7 ^^^ w15.rotateRight 18 ^^^ w15 >>> 3
  let s1 := w2.rotateRight 17 ^^^ w2.rotateRight 19 ^^^ w2 >>> 10
  lget 0 w 15 + s0 + lget 0 w 6 + s1

/-- One round on the eight working variables. -/
def shaRound (v : List (BitVec 32)) (k w : BitVec 32) : List (BitVec 32) :=
  match v with
  | [a, b, c, d, e, f, g, h] =>
    let s1 := e.rotateRight 6 ^^^ e.rotateRight 11 ^^^ e.rotateRight 25
    let ch := (e &&& f) ^^^ (~~~e &&& g)
    let t1 := h + s1 + ch + k + w
    let s0 := a.rotateRight 2 ^^^ a.rotateRight 13 ^^^ a.rotateRight 22
    let mj := (a &&& b) ^^^ (a &&& c) ^^^ (b &&& c)
    [t1 + (s0 + mj), a, b, c, d + t1, e, f, g]
  | v => v

/-- The rounds of one block: `ws` holds the last sixteen message words, newest first. -/
def shaRounds : List (BitVec 32) → Nat → List (BitVec 32) → List (BitVec 32) → List (BitVec 32)
  | [], _, _, v => v
  | k :: ks, t, ws, v =>
    if t < 16 then shaRounds ks (t + 1) ws (shaRound v k (lget 0 ws (15 - t)))
    else
      let w := shaNext ws
      shaRounds ks (t + 1) (w :: ws.take 15) (shaRound v k w)

/-- The big-endian number in a list of bytes. -/
def beNat (bs : List Byte) : Nat := bs.foldl (fun a b => a * 256 + b.toNat) 0

/-- `n` big-endian bytes of a number. -/
def beBytes (n v : Nat) : List Byte := (leBytes n v).reverse

/-- The sixteen words of a block, newest first. -/
def shaWords (b : List Byte) : List (BitVec 32) :=
  ((List.range 16).map (fun i => BitVec.ofNat 32 (beNat (byteSlice b (4 * i) 4)))).reverse

/-- The hash value after each block of 64 B. -/
def shaBlocks : Nat → List Byte → List (BitVec 32) → List (BitVec 32)
  | 0, _, h => h
  | n + 1, bs, h =>
    let v := shaRounds shaK 0 (shaWords (bs.take 64)) h
    shaBlocks n (bs.drop 64) ((h.zip v).map (fun (x, y) => x + y))

/-- The padded message. -/
def shaPad (bs : List Byte) : List Byte :=
  let n := bs.length
  bs ++ [0x80] ++ List.replicate ((119 - n % 64) % 64) 0 ++ beBytes 8 (8 * n)

/-- SHA-256. -/
def sha256 (bs : List Byte) : List Byte :=
  let p := shaPad bs
  (shaBlocks (p.length / 64) p shaInit).flatMap (fun w => beBytes 4 w.toNat)

/-! ### HSS signatures (RFC 8554) -/

/-- LM-OTS parameters of a typecode: w, p and ls; `none` outside 0x01 to 0x04 (R450). -/
def otsParam (t : Nat) : Option (Nat × Nat × Nat) :=
  match t with
  | 1 => some (1, 265, 7)
  | 2 => some (2, 133, 6)
  | 3 => some (4, 67, 4)
  | 4 => some (8, 34, 0)
  | _ => none

/-- Height of an LMS typecode; `none` outside 0x05 to 0x09 (R450). -/
def lmsHeight (t : Nat) : Option Nat := if 5 ≤ t ∧ t ≤ 9 then some (5 * (t - 4)) else none

/-- The `i`-th element of `w` bits of a string. -/
def otsCoef (s : List Byte) (i w : Nat) : Nat :=
  let b := (lget 0 s (i * w / 8)).toNat
  b / 2 ^ (8 - w * (i % (8 / w)) - w) % 2 ^ w

/-- A hash chain: `n` more links from link `j`. -/
def otsChain : Nat → Nat → List Byte → List Byte → List Byte
  | 0, _, _, x => x
  | n + 1, j, pre, x => otsChain n (j + 1) pre (sha256 (pre ++ beBytes 1 j ++ x))

/-- The LM-OTS public key that a signature of `msg` gives. -/
def otsKey (w p ls : Nat) (id : List Byte) (q : Nat) (sig msg : List Byte) : List Byte :=
  let c := byteSlice sig 4 32
  let h := sha256 (id ++ beBytes 4 q ++ beBytes 2 0x8181 ++ c ++ msg)
  let sum := ((List.range (256 / w)).map (fun i => 2 ^ w - 1 - otsCoef h i w)).sum
  let s := h ++ beBytes 2 (sum * 2 ^ ls)
  sha256 (id ++ beBytes 4 q ++ beBytes 2 0x8080 ++ (List.range p).flatMap (fun i =>
    let a := otsCoef s i w
    otsChain (2 ^ w - 1 - a) a (id ++ beBytes 4 q ++ beBytes 2 i) (byteSlice sig (36 + 32 * i) 32)))

/-- Climb the tree from a node to the root. -/
def lmsClimb : Nat → Nat → List Byte → List Byte → List Byte → List Byte
  | 0, _, _, _, x => x
  | n + 1, r, id, path, x =>
    let pre := id ++ beBytes 4 (r / 2) ++ beBytes 2 0x8383
    let y := if r % 2 = 1 then sha256 (pre ++ path.take 32 ++ x) else sha256 (pre ++ x ++ path.take 32)
    lmsClimb n (r / 2) id (path.drop 32) y

/-- Bytes of the LMS signature at the head of a string, if its typecodes are supported. -/
def lmsSigBytes (s : List Byte) : Option Nat :=
  match otsParam (beNat (byteSlice s 4 4)) with
  | some (_, p, _) =>
    (lmsHeight (beNat (byteSlice s (40 + 32 * p) 4))).map (fun h => 44 + 32 * p + 32 * h)
  | none => none

/-- Bytes of an LMS public key. -/
def lmsPubBytes : Nat := 56

/-- An LMS signature of `msg` by the public key `pub`. -/
def lmsOk (pub sig msg : List Byte) : Bool :=
  match lmsHeight (beNat (byteSlice pub 0 4)), otsParam (beNat (byteSlice pub 4 4)) with
  | some h, some (w, p, ls) =>
    let id := byteSlice pub 8 16
    let q := beNat (byteSlice sig 0 4)
    let k := otsKey w p ls id q (byteSlice sig 4 (36 + 32 * p)) msg
    let leaf := sha256 (id ++ beBytes 4 (2 ^ h + q) ++ beBytes 2 0x8282 ++ k)
    decide (q < 2 ^ h) && decide (byteSlice sig 4 4 = byteSlice pub 4 4)
      && decide (byteSlice sig (40 + 32 * p) 4 = byteSlice pub 0 4)
      && decide (sig.length = 44 + 32 * p + 32 * h)
      && decide (lmsClimb h (2 ^ h + q) id (sig.drop (44 + 32 * p)) leaf = byteSlice pub 24 32)
  | _, _ => false

/-- The levels of an HSS signature from public key `pub` down: `n` signed keys, then the message's signature. -/
def hssLevels : Nat → List Byte → List Byte → List Byte → Bool
  | 0, pub, sig, msg => lmsOk pub sig msg
  | n + 1, pub, sig, msg =>
    match lmsSigBytes sig with
    | some k =>
      let next := byteSlice sig k lmsPubBytes
      lmsOk pub (sig.take k) next && hssLevels n next (sig.drop (k + lmsPubBytes)) msg
    | none => false

/-- An HSS signature of `msg` by the public key `pub`, of 1 to 8 levels (R450). -/
def hssOk (pub sig msg : List Byte) : Bool :=
  let l := beNat (byteSlice pub 0 4)
  decide (1 ≤ l) && decide (l ≤ 8) && decide (pub.length = 4 + lmsPubBytes)
    && decide (beNat (byteSlice sig 0 4) + 1 = l) && hssLevels (l - 1) (pub.drop 4) (sig.drop 4) msg

/-- A signature block verifies over `msg` under a key hash (R449). -/
def sigBlockOk (keyHash msg block : List Byte) : Bool :=
  let np := leAt block 4 4
  let ns := leAt block 8 4
  decide (leAt block 0 4 = 0x4753564C) && decide (leAt block 12 4 = 0) && decide (16 + np + ns ≤ block.length)
    && decide (sha256 (byteSlice block 16 np) = keyHash)
    && hssOk (byteSlice block 16 np) (byteSlice block (16 + np) ns) msg

end Sys2Proof.Machine
end

