-- ==== Sys2Proof/Machine/Gcm.lean ====
section
/-!
DEFINITION. The public functions of the link sessions that the spec names by their standards: the CRC-32 of a flit
(R329), HMAC-SHA-256 and HKDF-Expand (R467), and AES-256-GCM (R358). Their steps come from those standards
(assumption log 7).
-/

namespace Sys2Proof.Machine

/-! ### CRC-32 (R329) -/

/-- Eight steps of the reflected CRC with polynomial 0x04C1_1DB7. -/
def crc32Bits : Nat → Nat → Nat
  | 0, c => c
  | n + 1, c => crc32Bits n (if c % 2 = 1 then (c / 2) ^^^ 0xEDB88320 else c / 2)

/-- The CRC register after a list of bytes. -/
def crc32Run : Nat → List Byte → Nat
  | c, [] => c
  | c, b :: bs => crc32Run (crc32Bits 8 (c ^^^ b.toNat)) bs

/-- CRC-32 of a list of bytes. -/
def crc32 (bs : List Byte) : Nat := crc32Run 0xFFFFFFFF bs ^^^ 0xFFFFFFFF

/-! ### HMAC-SHA-256 and HKDF-Expand -/

/-- A key padded or hashed to one block of 64 bytes. -/
def hmacKey (k : List Byte) : List Byte := byteSlice (if 64 < k.length then sha256 k else k) 0 64

/-- HMAC-SHA-256. -/
def hmac (k m : List Byte) : List Byte :=
  let b := hmacKey k
  sha256 (b.map (fun x => x ^^^ 0x5C) ++ sha256 (b.map (fun x => x ^^^ 0x36) ++ m))

/-- The first 32 bytes of HKDF-Expand. -/
def hkdf32 (prk info : List Byte) : List Byte := hmac prk (info ++ [1])

/-- The bytes of an ASCII string. -/
def asciiBytes (x : String) : List Byte := x.toList.map (fun c => BitVec.ofNat 8 c.toNat)

/-! ### AES-256 -/

/-- Doubling in GF(2^8). -/
def gfDouble (x : Nat) : Nat := if x < 128 then 2 * x else (2 * x) ^^^ 0x11B

/-- The product in GF(2^8), from the low bit of the second factor; the first argument bounds the steps. -/
def gfMul : Nat → Nat → Nat → Nat
  | 0, _, _ => 0
  | n + 1, x, y => (if y % 2 = 1 then x else 0) ^^^ gfMul n (gfDouble x) (y / 2)

/-- Powers 254 = the inverse in GF(2^8), by repeated squaring. -/
def gfInv (x : Nat) : Nat :=
  let sq (y : Nat) : Nat := gfMul 8 y y
  let x2 := sq x
  let x4 := sq x2
  let x8 := sq x4
  let x16 := sq x8
  let x32 := sq x16
  let x64 := sq x32
  let x128 := sq x64
  gfMul 8 x128 (gfMul 8 x64 (gfMul 8 x32 (gfMul 8 x16 (gfMul 8 x8 (gfMul 8 x4 x2)))))

/-- The S-box. -/
def aesSub (x : Nat) : Nat :=
  let b := gfInv x
  let r (n : Nat) : Nat := (b <<< n ||| b >>> (8 - n)) % 256
  b ^^^ r 1 ^^^ r 2 ^^^ r 3 ^^^ r 4 ^^^ 0x63

/-- The S-box as a table. -/
def aesTable : List Nat := (List.range 256).map aesSub

/-- Exclusive or of two lists. -/
def xorList (a b : List Nat) : List Nat := List.zipWith (fun x y => x ^^^ y) a b

/-- The next word of the key schedule from the eight before it, newest first; `i` is its number, `rc` the round
constant. -/
def aesNextWord (sb : List Nat) (w : List (List Nat)) (i rc : Nat) : List Nat :=
  let t := lget [] w 0
  let s (x : List Nat) : List Nat := x.map (lget 0 sb)
  let u := if i % 8 = 0 then xorList (s (t.drop 1 ++ t.take 1)) [rc, 0, 0, 0] else if i % 8 = 4 then s t else t
  xorList (lget [] w 7) u

/-- The key schedule, newest word first. -/
def aesExpand (sb : List Nat) : Nat → Nat → Nat → List (List Nat) → List (List Nat)
  | 0, _, _, w => w
  | n + 1, i, rc, w => aesExpand sb n (i + 1) (if i % 8 = 0 then gfDouble rc else rc) (aesNextWord sb w i rc :: w)

/-- The 60 words of the schedule of a 32-byte key, as 15 round keys of 16 bytes. -/
def aesRoundKeys (sb : List Nat) (key : List Byte) : List (List Nat) :=
  let k := (byteSlice key 0 32).map BitVec.toNat
  let w0 := ((List.range 8).map (fun i => (k.drop (4 * i)).take 4)).reverse
  let bytes := (aesExpand sb 52 8 1 w0).reverse.flatten
  (List.range 15).map (fun r => (bytes.drop (16 * r)).take 16)

/-- ShiftRows on a block of 16 bytes, column by column. -/
def aesShift (b : List Nat) : List Nat := (List.range 16).map (fun i => lget 0 b ((i + 4 * (i % 4)) % 16))

/-- MixColumns on one column. -/
def aesMix (c : List Nat) : List Nat :=
  (List.range 4).map (fun i =>
    gfDouble (lget 0 c i) ^^^ gfDouble (lget 0 c ((i + 1) % 4)) ^^^ lget 0 c ((i + 1) % 4) ^^^ lget 0 c ((i + 2) % 4)
      ^^^ lget 0 c ((i + 3) % 4))

/-- The rounds of AES over the round keys that are left; the last has no MixColumns. -/
def aesRounds (sb : List Nat) : List (List Nat) → List Nat → List Nat
  | [], b => b
  | [k], b => xorList (aesShift (b.map (lget 0 sb))) k
  | k :: ks, b =>
    let x := aesShift (b.map (lget 0 sb))
    aesRounds sb ks (xorList ((List.range 4).flatMap (fun i => aesMix ((x.drop (4 * i)).take 4))) k)

/-- AES-256 of one block under a key schedule. -/
def aesBlock (sb : List Nat) (ks : List (List Nat)) (b : List Nat) : List Nat :=
  aesRounds sb (ks.drop 1) (xorList b (lget [] ks 0))

/-! ### GCM -/

/-- Doubling in GHASH's field, bit 0 of the standard being the most significant bit here. -/
def ghDouble (v : Nat) : Nat := if v % 2 = 1 then (v / 2) ^^^ (0xE1 <<< 120) else v / 2

/-- The product in GHASH's field: `n` bits of `x` are left, the next at place `n - 1`. -/
def ghMul : Nat → Nat → Nat → Nat
  | 0, _, _ => 0
  | n + 1, x, v => (if x.testBit n then v else 0) ^^^ ghMul n x (ghDouble v)

/-- Blocks of 16 bytes, the last filled with zeros, as big-endian numbers. -/
def ghBlocks (bs : List Byte) : List Nat :=
  (List.range (cdiv bs.length 16)).map (fun i => beNat (byteSlice bs (16 * i) 16))

/-- GHASH. -/
def ghash (h : Nat) (xs : List Nat) : Nat := xs.foldl (fun y x => ghMul 128 (y ^^^ x) h) 0

/-- A number as a block. -/
def blockOf (v : Nat) : List Nat := (beBytes 16 v).map BitVec.toNat

/-- The keystream block `i` under a 12-byte nonce; block 1 covers the tag. -/
def gcmStream (sb : List Nat) (ks : List (List Nat)) (nonce : List Byte) (i : Nat) : List Nat :=
  aesBlock sb ks (blockOf (beNat (byteSlice nonce 0 12) * 2 ^ 32 + i))

/-- Encryption or decryption of data in counter mode. -/
def gcmCrypt (key nonce data : List Byte) : List Byte :=
  let sb := aesTable
  let ks := aesRoundKeys sb key
  let str := (List.range (cdiv data.length 16)).flatMap (fun i => gcmStream sb ks nonce (i + 2))
  List.zipWith (fun (d : Byte) k => d ^^^ BitVec.ofNat 8 k) data str

/-- The tag over additional data and ciphertext. -/
def gcmTag (key nonce aad cipher : List Byte) : List Byte :=
  let sb := aesTable
  let ks := aesRoundKeys sb key
  let h := beNat ((aesBlock sb ks (List.replicate 16 0)).map (BitVec.ofNat 8))
  let len := aad.length * 8 * 2 ^ 64 + cipher.length * 8
  let y := ghash h (ghBlocks aad ++ ghBlocks cipher ++ [len])
  List.zipWith (fun (d : Byte) k => d ^^^ BitVec.ofNat 8 k) (beBytes 16 y) (gcmStream sb ks nonce 1)

end Sys2Proof.Machine
end

