-- ==== Sys2Proof/Machine/Route.lean ====
section
/-!
DEFINITION. The torus: coordinates, bundles, dimension-ordered routes, detours around cordoned modules, and the checks
of a topology table (R326, R344, R345, R353, R364). A bundle is numbered 2 × dimension + (1 for the − direction), X = 0,
Y = 1, Z = 2, W = 3.
-/

namespace Sys2Proof.Machine

/-! ### Coordinates and bundles -/

/-- Bundle of a port (R326). -/
def bundleOf (p : Nat) : Nat := if p < 24 then p / 6 else 4 + (p - 24) / 2

/-- Ports of a bundle, rising. -/
def bundlePorts (b : Nat) : List Nat := (List.range 32).filter (fun p => decide (bundleOf p = b))

/-- The bundle that comes in where bundle `b` of a neighbour goes out. -/
def facing (b : Nat) : Nat := b ^^^ 1

/-- Coordinate x, y, z, w from the layout of TOP_SELF.SELF. -/
def coordOf (v : Nat) : List Nat := [bits 31 24 v, bits 23 16 v, bits 15 8 v, bits 7 0 v]

/-- The layout of TOP_SELF.SELF from a coordinate. -/
def coordNum (c : List Nat) : Nat := c.foldl (fun a x => a * 256 + x % 256) 0

/-- A coordinate as the flits carry it: x, y, z, w, one byte each. -/
def coordBytes (c : List Nat) : List Byte := c.map (BitVec.ofNat 8)

/-- A coordinate read from a flit. -/
def coordAt (f : List Byte) (off : Nat) : List Nat := (byteSlice f off 4).map BitVec.toNat

namespace LiveTop

/-- Own coordinate. -/
def me (t : LiveTop) : List Nat := coordOf t.self

/-- Sizes DX, DY, DZ, DW. -/
def sizes (t : LiveTop) : List Nat := [bits 47 44 t.self, bits 51 48 t.self, bits 57 52 t.self, bits 63 58 t.self]

/-- Size of a dimension. -/
def size (t : LiveTop) (d : Nat) : Nat := lget 1 t.sizes d

/-- A coordinate lies within the sizes. -/
def inside (t : LiveTop) (c : List Nat) : Bool := (List.range 4).all (fun d => decide (lget 0 c d < t.size d))

/-- ROLE of a port: 0 torus, 1 bridge, 2 unused. -/
def role (t : LiveTop) (p : Nat) : Nat := bits 63 62 (lget 0 t.ports p)
def expectPort (t : LiveTop) (p : Nat) : Nat := bits 39 32 (lget 0 t.ports p)
def expectFar (t : LiveTop) (p : Nat) : Nat := bits 31 0 (lget 0 t.ports p)

/-- A module is cordoned. -/
def cordoned (t : LiveTop) (c : List Nat) : Bool :=
  t.cordons.any (fun v => v.testBit 63 && decide (coordOf v = c))

/-- The module that bundle `b` of module `c` leads to. -/
def next (t : LiveTop) (c : List Nat) (b : Nat) : List Nat :=
  let d := b / 2
  let n := t.size d
  let x := lget 0 c d
  lset c d (if b % 2 = 0 then (x + 1) % n else (x + n - 1) % n)

/-- The hop of bundle `b` from `c` crosses between coordinates n − 1 and 0. -/
def dateline (t : LiveTop) (c : List Nat) (b : Nat) : Bool :=
  let x := lget 0 c (b / 2)
  if b % 2 = 0 then decide (x + 1 = t.size (b / 2)) else decide (x = 0)

/-- The bundle that R345 takes from `c` toward `dest`; `none` at `dest`. -/
def toward (t : LiveTop) (c dest : List Nat) : Option Nat :=
  ((List.range 4).find? (fun d => decide (lget 0 c d ≠ lget 0 dest d))).map (fun d =>
    let n := t.size d
    let go := (lget 0 dest d + n - lget 0 c d) % n
    if n - go < go then 2 * d + 1 else 2 * d)

/-! ### Detours (R353, Table 9.11) -/

/-- The four bundles of a detour for a hop in dimension `d`, direction `sgn`, through side `side` of the next
dimension. -/
def detour (d sgn side : Nat) : List Nat :=
  let e := d ^^^ 1
  [2 * e + side, 2 * d + sgn, 2 * d + sgn, 2 * e + (1 - side)]

/-- The modules that the bundles lead through from `c`. -/
def walk (t : LiveTop) : List Nat → List Nat → List (List Nat)
  | _, [] => []
  | c, b :: bs => t.next c b :: walk t (t.next c b) bs

/-- The detour's ring holds a cordoned module on the detour. -/
def blocked (t : LiveTop) (c : List Nat) (d sgn side : Nat) : Bool :=
  (t.walk c ((detour d sgn side).take 3)).any t.cordoned

/-- The side by which a flit at `c` goes round: + first, then −. -/
def side (t : LiveTop) (c : List Nat) (d sgn : Nat) : Option Nat :=
  [0, 1].find? (fun x => !t.blocked c d sgn x)

/-- The module `n` bundles back along the path from `c`. -/
def back (t : LiveTop) (c : List Nat) : List Nat → List Nat
  | [] => c
  | b :: bs => t.back (t.next c (facing b)) bs

/-- Where a flit to `dest` on a detour, having come to `c` by a neighbour's bundle `by`, stands: the detour's start, its
dimension, direction and side, and the hops done. -/
def onDetour (t : LiveTop) (c dest : List Nat) (came : Nat) : Option (List Nat × Nat × Nat × Nat × Nat) :=
  let all := (List.range 4).flatMap (fun d => [0, 1].flatMap (fun g => [0, 1].flatMap (fun x =>
    [1, 2, 3, 4].map (fun k => (d, g, x, k)))))
  (all.find? (fun (q : Nat × Nat × Nat × Nat) =>
    let path := (detour q.1 q.2.1 q.2.2.1).take q.2.2.2
    let a := t.back c path.reverse
    decide (path.getLast? = some came) && decide (t.toward a dest = some (2 * q.1 + q.2.1))
      && t.cordoned (t.next a (2 * q.1 + q.2.1)) && decide (t.side a q.1 q.2.1 = some q.2.2.1))).map
    (fun (q : Nat × Nat × Nat × Nat) =>
      (t.back c ((detour q.1 q.2.1 q.2.2.1).take q.2.2.2).reverse, q.1, q.2.1, q.2.2.1, q.2.2.2))

/-! ### The next hop (R345, R353) -/

/-- The VC of a flit from `src` at `c` in dimension `d`, direction `sgn`, before the next hop: 1 once it has crossed the
dateline of that dimension. -/
def heldVc (c src : List Nat) (d sgn : Nat) : Nat :=
  let x := lget 0 c d
  let y := lget 0 src d
  if sgn = 0 then b2n (decide (x < y)) else b2n (decide (y < x))

/-- The hop that a flit at `c` takes without a detour behind it: bundle and VC; `vc` is the VC it holds if it goes on in
the dimension of bundle `came`. -/
def plainHop (t : LiveTop) (c dest : List Nat) (came : Option Nat) (vc : Nat) : Option (Nat × Nat) :=
  (t.toward c dest).bind (fun b =>
    if t.cordoned (t.next c b) then
      (t.side c (b / 2) (b % 2)).map (fun x => (2 * ((b / 2) ^^^ 1) + x, 2))
    else
      let v := if came.map (fun k => k / 2) = some (b / 2) then vc else 0
      some (b, if t.dateline c b then 1 else v))

/-- The hop that a routed flit takes from `c`: bundle and VC. `came` is the neighbour's bundle by which it came, `none`
at injection, `vc` its VC there; VC2 and VC3 mark a detour. -/
def hop (t : LiveTop) (c src dest : List Nat) (came : Option Nat) (vc : Nat) : Option (Nat × Nat) :=
  match came with
  | some k =>
    if vc < 2 then t.plainHop c dest came vc
    else (t.onDetour c dest k).bind (fun (q : List Nat × Nat × Nat × Nat × Nat) =>
      let a := q.1
      let d := q.2.1
      let g := q.2.2.1
      let path := detour d g q.2.2.2.1
      let n := q.2.2.2.2
      if n = 4 then t.plainHop c dest (some (2 * d + g)) (heldVc a src d g)
      else
        let b := lget 0 path n
        if t.cordoned (t.next c b) then none
        else
          let mods := a :: t.walk a path
          let crossed := (List.range (n + 1)).any (fun i =>
            decide (lget 0 path i = 2 * d + g) && t.dateline (lget [] mods i) (lget 0 path i))
          some (b, if crossed then 3 else 2))
  | none => t.plainHop c dest none 0

/-- The neighbour sends the flit to this module over its bundle `b` (check 6 of Table 9.12). -/
def sends (t : LiveTop) (dest : List Nat) (b vc : Nat) : Bool :=
  let n := t.next t.me (facing b)
  !t.cordoned n &&
    (if vc < 2 then decide (t.toward n dest = some b) && !t.cordoned t.me
     else (t.onDetour t.me dest b).isSome)

/-- The modules on the path of a flit from `c` to `dest`, both ends among them. -/
def route (t : LiveTop) : Nat → List Nat → List Nat → List Nat → Option Nat → Nat → List (List Nat)
  | 0, c, _, _, _, _ => [c]
  | n + 1, c, src, dest, came, vc =>
    match (if c ≠ dest then t.hop c src dest came vc else none) with
    | some (b, v) => c :: t.route n (t.next c b) src dest (some b) v
    | none => [c]

/-- Some path between two modules, in either direction, passes through `c`. -/
def onPath (t : LiveTop) (a b c : List Nat) : Bool :=
  (t.route 256 a a b none 0).contains c || (t.route 256 b b a none 0).contains c

/-! ### Checks of a table (R364) -/

/-- A size is in the ranges of R344. -/
def sizesOk (t : LiveTop) : Bool :=
  (List.range 4).all (fun d => decide (1 ≤ t.size d) && decide (t.size d ≤ (if d < 2 then 8 else 32)))

/-- The table may be committed (R364). -/
def ok (t : LiveTop) : Bool :=
  t.sizesOk && t.inside t.me && (List.range 32).all (fun p =>
    decide (t.role p ≠ 0) || decide (t.expectFar p = coordNum (t.next t.me (bundleOf p))))

/-- A cordoned module leaves a ring without a detour (R353). -/
def noDetour (t : LiveTop) : Bool :=
  (t.cordons.filter (fun v => v.testBit 63 && t.inside (coordOf v))).any (fun v =>
    (List.range 4).any (fun d => decide (1 < t.size d) && [0, 1].any (fun g =>
      let a := t.next (coordOf v) (2 * d + (1 - g))
      !t.cordoned a && (t.side a d g).isNone)))

end LiveTop

end Sys2Proof.Machine
end

