-- ==== Sys2Proof/Machine/Ports.lean ====
section
/-!
DEFINITION. Ports of the link switch: flits, sending with replay and hop credits, encryption, inbound queues and routes,
notices, quarantine and failure (R326 to R332, R342 to R347, R350, R351, R354, R358).
-/

namespace Sys2Proof.Machine

/-! ### Flits (R329, Tables 9.2 to 9.7) -/

/-- Bytes of a flit as it arrived. -/
def flitBytes (f : Flit) : List Byte := leBytes 256 f.toNat

/-- Bytes as a flit. -/
def flitOf (bs : List Byte) : Flit := BitVec.ofNat 2048 (leNat (byteSlice bs 0 256))

/-- Bytes with `x` put at `off`. -/
def patch (bs : List Byte) (off : Nat) (x : List Byte) : List Byte := bs.take off ++ x ++ bs.drop (off + x.length)

def flTYPE (f : List Byte) : Nat := bits 3 0 (leAt f 0 1)
def flVC (f : List Byte) : Nat := bits 5 4 (leAt f 0 1)
def flENC (f : List Byte) : Bool := (leAt f 0 1).testBit 6
def flPHASE (f : List Byte) : Bool := (leAt f 0 1).testBit 7
def flSUB (f : List Byte) : Nat := leAt f 1 1
def flSEQ (f : List Byte) : Nat := leAt f 2 2
def flACK (f : List Byte) : Nat := leAt f 4 2
def flHCRED (f : List Byte) : Nat := leAt f 6 2
def flDEST (f : List Byte) : List Nat := coordAt f 0x08
def flSRC (f : List Byte) : List Nat := coordAt f 0x0C
def flLOAD (f : List Byte) : Nat := bits 3 0 (leAt f 0x10 1)
def flSTREAM (f : List Byte) : Nat := bits 5 0 (leAt f 0x11 1)
def flGEN (f : List Byte) : Nat := bits 63 60 (leAt f 0xF0 8)
def flINDEX (f : List Byte) : Nat := bits 59 0 (leAt f 0xF0 8)

def tyIDLE : Nat := 0
def tyDATA : Nat := 1
def tyCREDIT : Nat := 2
def tyLINK : Nat := 3
def tyNOTICE : Nat := 4

def subHELLO : Nat := 1
def subKEEPALIVE : Nat := 2
def subRATE : Nat := 3
def subTIMEREQ : Nat := 4
def subTIMERESP : Nat := 5
def subQUAR : Nat := 6
def subKEX : Nat := 7
def subNAK : Nat := 8

/-- DATA, CREDIT and NOTICE flits are routed (Table 9.3). -/
def routed (f : List Byte) : Bool := decide (flTYPE f = tyDATA) || decide (flTYPE f = tyCREDIT) || decide (flTYPE f = tyNOTICE)

/-- Sequenced flits (Tables 9.3, 9.6). -/
def sequenced (f : List Byte) : Bool :=
  routed f || (decide (flTYPE f = tyLINK) && [subRATE, subQUAR, subKEX].contains (flSUB f))

/-- Types that R358 protects. -/
def isProtected (f : List Byte) : Bool := sequenced f && !(decide (flTYPE f = tyLINK) && decide (flSUB f = subKEX))

/-- The bytes that encryption covers: offset and length (R358). -/
def cryptRange (f : List Byte) : Nat × Nat :=
  if flTYPE f = tyDATA then (0x30, 192)
  else if flTYPE f = tyCREDIT then (0x30, 64)
  else if flTYPE f = tyNOTICE then (0x10, 4)
  else (0x08, 24)

/-- The additional authenticated data (R358). -/
def cryptAad (f : List Byte) : List Byte :=
  byteSlice f 0 4
    ++ (if flTYPE f = tyDATA ∨ flTYPE f = tyCREDIT then byteSlice f 0x08 24
        else if flTYPE f = tyNOTICE then byteSlice f 0x08 8 ++ byteSlice f 0x14 12 else [])
    ++ byteSlice f 0xF0 12

/-- The nonce: the session salt and the flit's position (R358). -/
def nonceAt (k : Keys) (pos : Nat) : List Byte := byteSlice k.salt 0 4 ++ leBytes 8 pos

/-- A flit encrypted under a key at a position. -/
def sealFlit (k : Keys) (pos : Nat) (f : List Byte) : List Byte :=
  let r := cryptRange f
  let c := gcmCrypt k.key (nonceAt k pos) (byteSlice f r.1 r.2)
  patch (patch f r.1 c) 0x20 (gcmTag k.key (nonceAt k pos) (cryptAad f) c)

/-- The flit in the clear, if its tag verifies. -/
def openFlit (k : Keys) (pos : Nat) (f : List Byte) : Option (List Byte) :=
  let r := cryptRange f
  let c := byteSlice f r.1 r.2
  if byteSlice f 0x20 16 = gcmTag k.key (nonceAt k pos) (cryptAad f) c then
    some (patch (patch f r.1 (gcmCrypt k.key (nonceAt k pos) c)) 0x20 (List.replicate 16 0))
  else none

/-- A flit of a type and SUB with its body from byte 8. -/
def mkFlit (ty sub : Nat) (body : List Byte) : List Byte :=
  byteSlice (leBytes 1 ty ++ leBytes 1 sub ++ List.replicate 6 0 ++ body) 0 256

/-! ### Ports and bundles -/

/-- A port carries routed flits: ACTIVE, or LOW_RATE, which carries every flit type (Table 9.9, R354). -/
def Port.carries (x : Port) : Bool := decide (x.st = .active) || decide (x.st = .lowRate)

/-- Torus ports of a bundle: a bridge or unused port has left it (R363). -/
def State.bundle (s : State) (b : Nat) : List Nat := (bundlePorts b).filter (fun p => decide (s.live.role p = 0))

/-- Ports of the bundle that carry traffic. -/
def State.activePorts (s : State) (b : Nat) : List Nat := (s.bundle b).filter (fun p => (s.port p).carries)

/-- The port that a flit of the bundle takes (R345 point 3). -/
def State.pickPort (s : State) (b : Nat) (f : List Byte) : Option Nat :=
  let ps := s.bundle b
  let data := decide (flTYPE f = tyDATA)
  let h := crc32c (byteSlice f 0x0C 4 ++ byteSlice f 0x08 4 ++ (if data then byteSlice f 0x10 2 else [0, 0]))
  let i := h % ps.length
  (ps.drop i ++ ps.take i).find? (fun p => (s.port p).carries)

/-- The set of a port's bundle changes: the bundle pauses (R347). -/
def pauseBundle (p : Nat) : Act :=
  .dyn fun s => when' (decide (s.live.role p = 0)) (.upd (.pausedBundles (s.pausedBundles ||| (1 <<< bundleOf p))))

/-! ### Sending (R330 to R332, R358) -/

/-- Put a flit on the fibre: ACK, HCRED and CRC are made new each time it is sent. -/
def emit (p : Nat) (f : List Byte) : Act :=
  .dyn fun s =>
    let x := s.port p
    let vc := ((List.range 4).find? (fun v => decide (0 < lget 0 x.freed v))).getD 0
    let n := min (2 ^ 14 - 1) (lget 0 x.freed vc)
    let g := patch (byteSlice f 0 0xFC) 4 (leBytes 2 ((x.rx + 65535) % 65536) ++ leBytes 2 (vc * 2 ^ 14 + n))
    .seq (.upd (.port p { x with
        freed := lset x.freed vc (lget 0 x.freed vc - n)
        partner := lset x.partner vc (lget 0 x.partner vc + n) }))
      (modSentFlits p (fun l => l ++ [flitOf (g ++ leBytes 4 (crc32 g))]))

/-- Send an unsequenced flit. -/
def sendFree (p : Nat) (f : List Byte) : Act := emit p f

/-- Send a new sequenced flit: the next SEQ, encrypted where a session protects it, kept until it is acknowledged. -/
def sendSeq (p : Nat) (f : List Byte) : Act :=
  .dyn fun s =>
    let x := s.port p
    let enc := x.enc && isProtected f
    let ft := flTYPE f + 2 ^ 4 * flVC f + (if enc then 2 ^ 6 + 2 ^ 7 * b2n x.phase else 0)
    let g := patch (patch f 0 (leBytes 1 ft)) 2 (leBytes 2 x.tx)
    let h := if enc then sealFlit x.txKeys x.txPos g else g
    .seq (.upd (.port p { x with
        tx := (x.tx + 1) % 65536
        txPos := if enc then x.txPos + 1 else x.txPos
        replay := x.replay ++ [{ seq := x.tx, bytes := h, clear := g }] }))
      (emit p h)

/-- Flits that a replay buffer holds at most (R331). -/
def replaySize : Nat := 6144

/-- Send the LINK messages that wait, as far as the replay buffer has room. -/
def drainWaiting : Nat → Nat → Act
  | 0, _ => .nop
  | n + 1, p => .dyn fun s =>
    match (s.port p).waiting with
    | [] => .nop
    | f :: rest =>
      if (s.port p).replay.length < replaySize then
        seqs [modPort p (fun x => { x with waiting := rest }), sendSeq p f, drainWaiting n p]
      else .nop

/-- Send a sequenced LINK message as soon as the replay buffer has room. -/
def sendLink (p sub : Nat) (body : List Byte) : Act :=
  .seq (modPort p (fun x => { x with waiting := x.waiting ++ [mkFlit tyLINK sub body] }))
    (.dyn fun s => drainWaiting (s.port p).waiting.length p)

/-- A receive entry is free again; its number is reported with the next flit (R332). -/
def freeEntry (e : Option (Nat × Nat)) : Act :=
  withSome e (fun (q : Nat × Nat) => modPort q.1 (fun x => { x with freed := lset x.freed q.2 (lget 0 x.freed q.2 + 1) }))

/-! ### Remote streams of the loads, as the records name them (Table 4.4) -/

/-- REMOTE records of a placed load. -/
def State.remotes (s : State) (h : Nat) : List (List Byte) :=
  if (s.load h).st = .free then [] else remoteRecs (s.load h).image.recs

/-- Outbound and inbound records of a stream. -/
def State.outRecs (s : State) (h st : Nat) : List (List Byte) :=
  (s.remotes h).filter (fun r => rmOut r && decide (rmStream r = st))
def State.inRec (s : State) (h st : Nat) : Option (List Byte) :=
  (s.remotes h).find? (fun r => !rmOut r && decide (rmStream r = st))

/-- The stream number of every remote stream of a load. -/
def State.remoteStreams (s : State) (h : Nat) : List Nat := dedup ((s.remotes h).map rmStream)

/-- The bridge port that a record's peer names (R363). -/
def bridgePeer (r : List Byte) : Option Nat :=
  let x := leAt (rmPeer r) 0 1
  if 0x80 ≤ x ∧ x < 0xA0 ∧ leAt (rmPeer r) 1 3 = 0 then some (x - 0x80) else none

/-- A record's peer. -/
def peerOf (r : List Byte) : List Nat := (rmPeer r).map BitVec.toNat

/-- The local streams whose records in a direction name a module, a load and a stream there. -/
def State.streamsTo (s : State) (out : Bool) (peer : List Nat) (load st : Nat) : List (Nat × Nat) :=
  (List.range 16).flatMap (fun h => ((s.remotes h).filter (fun r => decide (rmOut r = out) && decide (peerOf r = peer)
    && decide (rmPeerLoad r = load) && decide (rmPeerStream r = st))).map (fun r => (h, rmStream r)))

/-! ### Notices (R338, R340, R351) -/

/-- A NOTICE flit from this module. -/
def noticeFlit (self dest : List Nat) (sub load st reason gen : Nat) : List Byte :=
  mkFlit tyNOTICE sub (coordBytes dest ++ coordBytes self ++ leBytes 1 load ++ leBytes 1 st ++ leBytes 1 reason
    ++ leBytes 1 gen)

/-- Count a notice sent or a flit dropped in LNK_NOTICE_CNT. -/
def countLOST : Act := addFld rLNK_NOTICE_CNT 31 16 1
def countCUT : Act := addFld rLNK_NOTICE_CNT 47 32 1
def countNOPATH : Act := .seq (setErr blkLNK 6) (addFld rLNK_NOTICE_CNT 63 48 1)

/-- What is known of a lost or dropped flit: the streams it names at DEST, with the generation after a notice where the
flit carries one. -/
def flitStreams (f : List Byte) : List (Nat × Nat × Option Nat) :=
  if flTYPE f = tyDATA then [(flLOAD f, flSTREAM f, some ((flGEN f + 1) % 16))]
  else if flTYPE f = tyCREDIT then
    (List.range (flSUB f)).map (fun e =>
      (bits 3 0 (leAt f (0x30 + 4 * e) 1), bits 5 0 (leAt f (0x31 + 4 * e) 1), none))
  else []

/-- The local streams that a flit of this module's own belonged to. -/
def State.ownStreams (s : State) (f : List Byte) (load st : Nat) : List (Nat × Nat) :=
  s.streamsTo (decide (flTYPE f = tyDATA)) (flDEST f) load st

/-- A LOST notice for each local stream listed is taken locally (R351); its generation rises by one where the flit gave
none. -/
def takeLost (xs : List (Nat × Nat)) (gen : Option Nat) : Act :=
  each xs (fun (q : Nat × Nat) => .dyn fun s =>
    .upd (.localLost (s.localLost ++ [(q.1, q.2, gen.getD (((s.stream (q.1 * 64 + q.2)).gen + 1) % 16))])))

/-- The entry of an inbound queue: inbound bundle (8 = this module), VC, egress bundle (R346). -/
def queueKey (inb vc egr : Nat) : Nat := inb * 64 + vc * 16 + egr

/-- A routed flit enters its inbound queue (R345, R346); what it returns in `lost` is to be told to its source. -/
def State.admits (s : State) (came : Option Nat) (f : List Byte) : Option (Nat × Nat) :=
  let t := s.live
  if !t.inside (flDEST f) || t.cordoned (flDEST f) then none
  else match t.hop t.me (flSRC f) (flDEST f) came (flVC f) with
    | some (b, v) => if s.activePorts b = [] then none else some (b, v)
    | none => none

/-- Put an admitted flit into its queue; DATA shows DETOUR on a detour (R353). -/
def putQueue (came : Option Nat) (entry : Option (Nat × Nat)) (f : List Byte) (b v : Nat) : Act :=
  let sub := if flTYPE f = tyDATA then flSUB f % 4 + (if 2 ≤ v then 4 else 0) else flSUB f
  modLnkQ (queueKey ((came.map facing).getD 8) (if came.isSome then flVC f else 0) b) (fun q =>
    q ++ [{ bytes := patch f 1 (leBytes 1 sub), vc := v, entry := entry }])

/-- Inject a NOTICE LOST; one that has no path is dropped without another (R351). -/
def sendLost (dest : List Nat) (load st reason gen : Nat) : Act :=
  .dyn fun s =>
    let f := noticeFlit s.live.me dest 1 load st reason gen
    if dest = s.live.me then .upd (.localLost (s.localLost ++ [(load % 16, st % 64, gen % 16)]))
    else match s.admits none f with
      | some (b, v) => .seq countLOST (putQueue none none f b v)
      | none => countNOPATH

/-- Tell the source of a flit that it is lost: itself locally, another module by a notice, whose LOAD and STREAM are free
values, since the flit does not carry the source's numbers (assumption log 48). -/
def tellSource (f : List Byte) (reason : Nat) (q : Nat × Nat × Option Nat) : Act :=
  .dyn fun s =>
    if flSRC f = s.live.me then takeLost (s.ownStreams f q.1 q.2.1) q.2.2
    else withFresh fun a => withFresh fun b => withFresh fun c =>
      sendLost (flSRC f) (Config.freeNat a % 16) (Config.freeNat b % 64) reason (q.2.2.getD (Config.freeNat c % 16))

/-- A routed flit is dropped for want of a path (R351). -/
def dropNoPath (f : List Byte) : Act :=
  .seq countNOPATH (each (dedup (flitStreams f)) (fun q => tellSource f 2 q))

/-- Flits lost with a port (R350, R351): for each distinct stream among DATA flits both ends are told; for a CREDIT entry
its DEST. -/
def tellLost (fs : List (List Byte)) : Act :=
  let rows := fs.flatMap (fun f => (flitStreams f).map (fun q => (f, q)))
  let keyed := rows.map (fun (r : List Byte × Nat × Nat × Option Nat) =>
    ((flTYPE r.1, flSRC r.1, flDEST r.1, r.2.1, r.2.2.1), r))
  let once := keyed.foldl (fun acc x => if acc.any (fun y => decide (y.1 = x.1)) then acc else acc ++ [x])
    ([] : List ((Nat × List Nat × List Nat × Nat × Nat) × (List Byte × Nat × Nat × Option Nat)))
  each once (fun x => .seq
    (when' (decide (flTYPE x.2.1 = tyDATA)) (tellSource x.2.1 1 x.2.2))
    (withFresh fun n =>
      sendLost (flDEST x.2.1) x.2.2.1 x.2.2.2.1 1 (x.2.2.2.2.getD (Config.freeNat n % 16))))

/-! ### Leaving the inbound queues -/

/-- The queue of flits for bridge port `q`. -/
def bridgeKey (q : Nat) : Nat := 1024 + q

/-- A flit of a queue goes out on port `p`, if the port has a credit and room (R331, R332). -/
def State.sendsOn (s : State) (p : Nat) (x : Fwd) : Option Act :=
  if 0 < lget 0 (s.port p).credits x.vc ∧ (s.port p).replay.length < replaySize then
    some (.seq (modPort p (fun y => { y with credits := lset y.credits x.vc (lget 0 y.credits x.vc - 1) }))
      (sendSeq p (patch x.bytes 0 (leBytes 1 (flTYPE x.bytes + 2 ^ 4 * x.vc)))))
  else none

/-- The head of a queue leaves it if it can now; `none`: it waits. -/
def queueStep (k : Nat) (s : State) : Option Act :=
  match s.lnkQ k with
  | [] => none
  | x :: rest =>
    let out := Act.seq (.upd (.lnkQ k rest)) (freeEntry x.entry)
    if 1024 ≤ k then
      if s.live.role (k - 1024) = 1 ∧ (s.port (k - 1024)).carries then
        (s.sendsOn (k - 1024) x).map (fun a => .seq out a)
      else some (seqs [out, countNOPATH, each (flitStreams x.bytes) (fun (q : Nat × Nat × Option Nat) =>
        takeLost (s.streamsTo (decide (flTYPE x.bytes = tyDATA)) [k - 1024 + 0x80, 0, 0, 0] q.1 q.2.1) q.2.2)])
    else
      let b := k % 16
      if s.activePorts b = [] then some (.seq out (dropNoPath x.bytes))
      else if s.pausedBundles.testBit b then none
      else ((s.pickPort b x.bytes).bind (fun p => s.sendsOn p x)).map (fun a => .seq out a)

/-- Move queue heads while any can move: `n` moves at most. Which queue goes first is the arbiters' choice, a free value
(assumption log 49). -/
def pumpN : Nat → Act
  | 0 => .nop
  | n + 1 => withFresh fun v => .dyn fun s =>
    let ks := tkeys s.lnk.queues
    let i := Config.freeNat v % ks.length
    match (ks.drop i ++ ks.take i).findSome? (fun k => queueStep k s) with
    | some a => .seq a (pumpN n)
    | none => .nop

/-- Move every flit that can move. Drops add notices, so each flit may stand for several moves. -/
def pump : Act :=
  .dyn fun s =>
    let n := ((tkeys s.lnk.queues).map (fun k => (s.lnkQ k).length)).sum
    when' (decide (0 < n)) (pumpN (2 * n + 16))

/-- A routed flit starts from this module (R345): one to itself is taken locally. -/
def inject (f : List Byte) : Act :=
  .dyn fun s =>
    if flDEST f = s.live.me then .upd (.localFlits (s.localFlits ++ [f]))
    else match s.admits none f with
      | some (b, v) => .seq (putQueue none none f b v) pump
      | none => .seq (dropNoPath f) pump

/-- A DATA or CREDIT flit goes out over bridge port `q` with DEST and SRC zero (R363). -/
def sendBridge (q : Nat) (f : List Byte) : Act :=
  .seq (modLnkQ (bridgeKey q) (fun l => l ++ [{ bytes := patch f 0x08 (List.replicate 8 0) }])) pump

/-! ### Rates (R354) -/

/-- This end requests low rate on a port. -/
def State.wantsLow (s : State) (p : Nat) : Bool :=
  decide (s.nwSt ≠ .active) || s.flag rLNK_PORT_CTL 60 p || decide (s.updSt = .pause)

/-- The port takes the rate that both ends' requests give: low at once, full after lanes 1 to 7 have retrained. -/
def settleRate (p : Nat) : Act :=
  .dyn fun s =>
    let x := s.port p
    let low := x.toldLow || x.farLow
    if x.st = .active ∧ low then
      .seq (modPort p (fun x => { x with st := .lowRate, retraining := false })) (pauseBundle p)
    else if x.st = .lowRate then modPort p (fun x => { x with retraining := !low })
    else .nop

/-- Tell the partner of a changed request (RATE). -/
def tellRate (p : Nat) : Act :=
  .dyn fun s =>
    let low := s.wantsLow p
    if (s.port p).carries ∧ (s.port p).toldLow ≠ low then
      seqs [modPort p (fun x => { x with toldLow := low }), sendLink p subRATE (leBytes 1 (b2n low)), settleRate p]
    else .nop

/-- Tell every partner. -/
def tellRates : Act := each (List.range 32) tellRate

/-! ### HELLO (Table 9.7) -/

/-- The HELLO of this end, bytes 0x08 onward. -/
def State.helloBody (s : State) (p : Nat) : List Byte :=
  let t := s.live
  let bridge := decide (t.role p = 1)
  coordBytes (if bridge then [0, 0, 0, 0] else t.me) ++ leBytes 1 p ++ leBytes 1 (b2n bridge) ++ leBytes 1 2 ++ leBytes 1 3
    ++ leBytes 8 s.ident ++ coordBytes (if bridge then [0, 0, 0, 0] else coordOf (t.expectFar p))
    ++ leBytes 1 (t.expectPort p) ++ leBytes 1 (b2n (s.port p).encReq + 2 * b2n (s.wantsLow p)) ++ [0, 0]
    ++ leBytes 4 t.version

/-- Send HELLO. -/
def sendHello (p : Nat) : Act :=
  .dyn fun s => .seq (modPort p (fun x => { x with mine := byteSlice (s.helloBody p) 0 28, toldLow := s.wantsLow p }))
    (sendFree p (mkFlit tyLINK subHELLO (s.helloBody p)))

/-! ### Port states (R342, R343, R350) -/

def rsTRAIN : Nat := 1
def rsROLE : Nat := 2
def rsMISCABLED : Nat := 3
def rsFARTABLE : Nat := 4
def rsIDENTITY : Nat := 5
def rsVERSION : Nat := 6
def rsCRYPTO : Nat := 7
def rsDROPS : Nat := 8
def rsLOCK : Nat := 9
def rsFEC : Nat := 10
def rsREPLAY : Nat := 11
def rsSILENCE : Nat := 12
def rsFORCE : Nat := 13

/-- Record and log a quarantine or a failure: class D (R343, R350, LNK_ERR_PORT). -/
def portFault (p code reason : Nat) : Act :=
  .seq (firstFault rLNK_ERR_PORT 31 (place 8 4 p + place 3 0 reason))
    (incident { cls := .D, blk := blkLNK, code := code, locus := p })

/-- The port leaves its lanes dark: its session, its buffer and what waits are gone. -/
def Port.dark (x : Port) (st : PortState) : Port :=
  { x with st := st, replay := [], waiting := [], retraining := false, farLow := false, toldLow := false, enc := false,
           rxNew := none, kex := {}, version := 0, dropTimes := [] }

/-- The routed flits of a replay buffer, in the clear. -/
def lostFlits (x : Port) : List (List Byte) := (x.replay.map (fun r => r.clear)).filter routed

/-- Streams of this module across bridge port `q` (R363). -/
def State.bridgeStreams (s : State) (q : Nat) : List (Nat × Nat) :=
  dedup ((List.range 16).flatMap (fun h =>
    ((s.remotes h).filter (fun r => decide (bridgePeer r = some q))).map (fun r => (h, rmStream r))))

/-- The ends of the streams whose flits a port's replay buffer held are told (R351, R363). -/
def tellEnds (p : Nat) (x : Port) : Act :=
  .dyn fun s => if s.live.role p = 1 then takeLost (s.bridgeStreams p) none else tellLost (lostFlits x)

/-- What a port's replay buffer still held is lost. -/
def loseFlits (p : Nat) : Act :=
  .dyn fun s => .seq (modPort p (fun x => { x with replay := [], waiting := [] })) (tellEnds p (s.port p))

/-- A link fails (R350): FAILED, lanes dark, out of its bundle, its flits lost. -/
def failPort (p reason : Nat) : Act :=
  .dyn fun s =>
    let x := s.port p
    if x.st = .off ∨ x.st = .failed then .nop
    else seqs [
      portFault p 2 reason,
      .upd (.port p { x.dark .failed with reason := reason }),
      setFld rLNK_PORT_CTL 61 61 0 p,
      pauseBundle p,
      tellEnds p x,
      pump]

/-- A port is quarantined (R342, R343, R357); this end tells the partner unless the partner told it. -/
def quarantine (p reason : Nat) (tell : Bool) : Act :=
  .dyn fun s =>
    if (s.port p).st = .quarantined then modPort p (fun x => { x with reason := reason })
    else seqs [
      portFault p 1 reason,
      when' (s.port p).carries (pauseBundle p),
      modPort p (fun x => { x with st := .quarantined, reason := reason, enc := false, rxNew := none, kex := {}, dropTimes := [] }),
      setFld rLNK_PORT_CTL 61 61 0 p,
      when' tell (sendLink p subQUAR (leBytes 1 reason)),
      pump]

/-- A DRAINING port whose buffer is acknowledged is OFF (LNK_PORT_CTL.EN). -/
def settlePort (p : Nat) : Act :=
  .dyn fun s =>
    let x := s.port p
    if x.st = .draining ∧ x.replay = [] then
      .seq (.upd (.port p (x.dark .off))) (setFld rLNK_PORT_CTL 62 62 0 p)
    else .nop

/-- The port trains (R342 steps 1, 2) unless its live role is unused. -/
def startPort (p : Nat) : Act :=
  .dyn fun s =>
    if (s.port p).st = .off ∧ s.live.role p ≠ 2 then
      .upd (.port p { st := .training, reason := (s.port p).reason, encReq := s.flag rLNK_POLICY 63 })
    else .nop

/-- The port enters CHECKING: a new exchange of HELLOs, and of keys with SESSION 0 (R342 step 3, R467). -/
def checkPort (p : Nat) : Act :=
  .seq (modPort p (fun x => { x with st := .checking, far := [], enc := false, session := 0, rxNew := none, kex := {} }))
    (sendHello p)

/-- The checks have passed: ACTIVE at the common version, or LOW_RATE (R342 step 4, R354). -/
def activate (p : Nat) : Act :=
  .dyn fun s =>
    let x := s.port p
    let low := s.wantsLow p
    let farLow := (leAt x.far 0x15 1).testBit 1
    seqs [
      modPort p (fun x => { x with
        st := if low || farLow then .lowRate else .active
        farLow := farLow, toldLow := low, version := min 3 (leAt x.far 7 1)
        credits := List.replicate 4 1536, partner := List.replicate 4 1536, freed := List.replicate 4 0 }),
      setFld rLNK_PORT_CTL 61 61 0 p,
      pauseBundle p]

/-! ### Resending (R331) -/

/-- Resend every flit from `seq` on; one resent 8 times fails the link. -/
def resendFrom (p seq : Nat) : Act :=
  .dyn fun s =>
    let x := s.port p
    let old := x.replay.takeWhile (fun r => decide (r.seq ≠ seq))
    let again := (x.replay.drop old.length).map (fun r => { r with resent := r.resent + 1 })
    seqs [
      modPort p (fun x => { x with replay := old ++ again }),
      addFld rLNK_PORT_REPLAY 31 0 again.length p,
      each again (fun r => emit p r.bytes),
      when' (again.any (fun r => decide (8 ≤ r.resent))) (failPort p rsREPLAY)]

/-- An ACK covers every flit up to its SEQ. -/
def acked (p ack : Nat) : Act :=
  .dyn fun s =>
    let x := s.port p
    match x.replay with
    | [] => .nop
    | r :: _ =>
      let d := (ack + 65536 - r.seq) % 65536
      when' (decide (d < x.replay.length)) (seqs [
        modPort p (fun x => { x with replay := x.replay.drop (d + 1) }),
        .dyn fun s => when' (decide ((s.port p).st ≠ .draining)) (drainWaiting (s.port p).waiting.length p),
        settlePort p])

end Sys2Proof.Machine
end

