-- ==== Sys2Proof/Machine/Streams.lean ====
section
/-!
DEFINITION. Remote streams of the loads at the edge gateways (R334 to R340): packing, credits, inbound stores, and the
reset of a stream.
-/

namespace Sys2Proof.Machine

/-- Key of a stream. -/
def streamKey (h st : Nat) : Nat := h * 64 + st

/-- The gateway stream of an edge link, as input or output `io` of site `k`: west at W0 and W1 of column 0 of bay 0, east
at E0 and E1 of column 31 of bay 15; two streams to a row (R334). -/
def edgeStream (k io : Nat) : Option (Nat × Nat) :=
  if keyRow k < 32 then
    if keyDie k = 0 ∧ keyCol k = 0 ∧ (io = 6 ∨ io = 7) then some (0, 2 * keyRow k + (io - 6))
    else if keyDie k = 1 ∧ keyCol k = 31 ∧ (io = 4 ∨ io = 5) then some (1, 2 * keyRow k + (io - 4))
    else none
  else none

/-- The site and the link of a stream at a gateway. -/
def edgeSite (gw st : Nat) : Nat × Nat :=
  if gw = 0 then (mkKey 0 (st / 2) 0, 6 + st % 2) else (mkKey 1 (st / 2) 31, 4 + st % 2)

/-- The load that holds the bay of an edge link, with the stream of that link. -/
def State.edgeLoad (s : State) (k io : Nat) : Option (Nat × Nat) :=
  match edgeStream k io, (s.bay (keyBay k)).load with
  | some (_, st), some h => some (h, st)
  | _, _ => none

/-- The outbound records of the stream at an edge output, in record order. -/
def State.edgeOut (s : State) (k out stream : Nat) : Option (Nat × Nat × List (List Byte)) :=
  match edgeStream k out, s.edgeLoad k out with
  | some (gw, _), some (h, st) =>
    let rs := (s.outRecs h st).filter (fun r => decide (rmGateway r = gw))
    if rs ≠ [] ∧ stream = st then some (h, st, rs) else none
  | _, _ => none

/-- Peers of a stream that have not been cut: record number and record. -/
def Stream.peers (x : Stream) (rs : List (List Byte)) : List (Nat × List Byte) :=
  ((List.range rs.length).zip rs).filter (fun (q : Nat × List Byte) => !x.cut.testBit q.1)

/-- Peer number `i` holds a credit (R336). -/
def Stream.hasCredit (x : Stream) (q : Nat × List Byte) : Bool := decide (lget 0 x.spent q.1 < rmCredits q.2)

/-- An edge output can take a token of the stream now: every peer that has not been cut has a credit (R336, R339). -/
def State.gatewayReady (s : State) (k out stream : Nat) : Bool :=
  match s.edgeOut k out stream with
  | some (h, st, rs) => ((s.stream (streamKey h st)).peers rs).all (s.stream (streamKey h st)).hasCredit
  | none => false

/-- A DATA flit of tokens for one peer (Table 9.4). -/
def dataFlitBytes (self : List Nat) (r : List Byte) (gen index : Nat) (ts : List Token) : List Byte :=
  let toks := ts.take 3
  let head := mkFlit tyDATA toks.length (rmPeer r ++ coordBytes self ++ leBytes 1 (rmPeerLoad r)
    ++ leBytes 1 (rmPeerStream r) ++ [0, 0] ++ toks.flatMap (fun t => leBytes 3 t.sb.toNat))
  patch (patch head 0x30 (toks.flatMap (fun t => leBytes 64 t.payload.toNat))) 0xF0
    (leBytes 8 (gen * 2 ^ 60 + index % 2 ^ 60))

/-- Send a flit of load `h` to the peer of a record; 256 B are charged to its tenant (R310). -/
def sendToPeer (h : Nat) (r f : List Byte) : Act :=
  .seq (.dyn fun s => addFld rTEN_ACC_LINK 63 0 256 (s.load h).tenant)
    (match bridgePeer r with
      | some q => sendBridge q f
      | none => inject f)

/-- Send what the packing buffer holds, a copy to each peer that has not been cut (R335, R339). -/
def flushPack (h st : Nat) : Act :=
  .dyn fun s =>
    let x := s.stream (streamKey h st)
    let rs := s.outRecs h st
    if x.pack = [] then .nop
    else .seq (modStream (streamKey h st) (fun x => { x with pack := [] }))
      (each (x.peers rs) (fun (q : Nat × List Byte) =>
        sendToPeer h q.2 (dataFlitBytes s.live.me q.2 x.gen (x.index - x.pack.length) x.pack)))

/-- A token leaves the fabric at an edge output: one credit of each peer is spent, and the flit goes out when it is full
or holds a token with LAST (R335, R336). -/
def gatewayOut (k out : Nat) (t : Token) : Act :=
  .dyn fun s => withSome (s.edgeOut k out (Tok.stream t)) (fun (q : Nat × Nat × List (List Byte)) =>
    let key := streamKey q.1 q.2.1
    let x := s.stream key
    let pack := x.pack ++ [t]
    .seq (.upd (.stream key { x with
        pack := pack, index := x.index + 1
        spent := (List.range q.2.2.length).map (fun i => lget 0 x.spent i + (if x.cut.testBit i then 0 else 1)) }))
      (when' (decide (3 ≤ pack.length) || Tok.last t) (flushPack q.1 q.2.1)))

/-- Return the credits owed on a stream in a CREDIT flit to its peer (R337; assumption log 50). -/
def flushCredits (h st : Nat) : Act :=
  .dyn fun s =>
    let x := s.stream (streamKey h st)
    withSome (s.inRec h st) (fun r =>
      if x.owed = 0 then .nop
      else .seq (modStream (streamKey h st) (fun x => { x with owed := 0 }))
        (sendToPeer h r (patch (mkFlit tyCREDIT 1 (rmPeer r ++ coordBytes s.live.me)) 0x30
          (leBytes 1 (rmPeerLoad r) ++ leBytes 1 (rmPeerStream r) ++ leBytes 2 x.owed))))

/-- A token has left the inbound store of a stream (R337). -/
def takeStored (h st : Nat) : Act :=
  .seq (modStream (streamKey h st) (fun x => { x with store := x.store.drop 1, owed := x.owed + 1 }))
    (.dyn fun s => withSome (s.inRec h st) (fun r =>
      when' (decide (max 1 (rmCredits r / 4) ≤ (s.stream (streamKey h st)).owed)) (flushCredits h st)))

/-- The token as it enters the bay: on the stream of its edge link, a data token in the epoch of the bay (R168, R334);
everything else travels as it is (R335). -/
def enterToken (t : Token) (st epoch : Nat) : Token :=
  let e := if Tok.kind t = kindData then epoch else Tok.epoch t
  let hi := 2 ^ 13 * b2n (Tok.valid t) + b2n (Tok.last t) * 2 ^ 12 + Tok.kind t * 2 ^ 10 + st % 64 * 2 ^ 4 + e % 16
  { payload := t.payload,
    sb := BitVec.ofNat 24 (hi * 2 ^ 10 + b2n (Tok.poison t) * 2 ^ 9 + parity 15 hi * 2 ^ 8 + Tok.residue t) }

/-- The token that a gateway holds for an edge input, and what takes it (R337). -/
def State.gatewayFeed (s : State) (k inp : Nat) : Option (Token × Act) :=
  match s.edgeLoad k inp with
  | some (h, st) =>
    match s.inRec h st, (s.stream (streamKey h st)).store with
    | some r, t :: _ =>
      if edgeSite (rmGateway r) st = (k, inp) then some (enterToken t st (s.bay (keyBay k)).epoch, takeStored h st) else none
    | _, _ => none
  | none => none

/-- A token of a remote stream that an edge input accepted has left its slot queue: the gateway counts its credits at
the inbound store (R337), so nothing is to be done. -/
def gatewayCredit (_k _inp _stream : Nat) : Act := .nop

/-- One stream starts afresh in generation `gen` (R338). -/
def resetStream (h st gen : Nat) : Act := .upd (.stream (streamKey h st) { gen := gen % 16 })

/-- The load's remote streams start afresh after a fault status; each peer is told, unless a LOST notice gave the stream
its generation (R338, R352). -/
def streamReset (h : Nat) : Act :=
  .dyn fun s => .seq
    (each (s.remoteStreams h) (fun st => .dyn fun s =>
      let x := s.stream (streamKey h st)
      let gen := x.lostGen.getD ((x.gen + 1) % 16)
      .seq (resetStream h st gen)
        (when' x.lostGen.isNone (each ((s.remotes h).filter (fun r => decide (rmStream r = st))) (fun r =>
          when' (bridgePeer r).isNone (sendLost (peerOf r) (rmPeerLoad r) (rmPeerStream r) 3 gen))))))
    pump

/-- The streams of a load that is no longer placed are gone (R336). -/
def dropStreams (h : Nat) : Act := each (List.range 64) (fun st => .upd (.stream (streamKey h st) {}))

end Sys2Proof.Machine
end

