-- ==== Sys2Proof/Machine/Loads.lean ====
section
/-!
DEFINITION. Operations on loads that many commands share: the conditions of Table 10.2 and the status they give
(R372, R373), credits (R31), clearing of queues and bays (R44), the command boundary and the release (R150, R300,
R324).
-/

namespace Sys2Proof.Machine

/-! ### Status of a command (Table 10.2); a cause is its rank -/

def rankPAUSE : Nat := 2
def rankABORT : Nat := 3
def rankSTALE : Nat := 4
def rankOVERFLOW : Nat := 5
def rankLINK : Nat := 6
def rankREMOTE : Nat := 7
def rankSTALL : Nat := 8
def rankPREEMPT : Nat := 9
def rankRESIDUE : Nat := 10
def rankECC : Nat := 11
def rankPOISON : Nat := 12

/-- The status of the first condition that applies (R373). -/
def causeStatus (c : Nat) : Status :=
  if c.testBit 2 then .firmwarePause
  else if c.testBit 3 then .poisoned
  else if c.testBit 4 then .staleToken
  else if c.testBit 5 then .tileOverflow
  else if c.testBit 6 then .linkLost
  else if c.testBit 7 then .remoteTimeout
  else if c.testBit 8 then .stallWatchdog
  else if c.testBit 9 then .preempted
  else if c.testBit 10 then .residueMismatch
  else if c.testBit 11 then .eccUncorrectable
  else if c.testBit 12 then .poisoned
  else .ok

/-- A condition in the command's course (ranks 2 to 9), which ends it before its work is done. -/
def causeEnds (c : Nat) : Bool := decide (c % 2 ^ 10 ≠ 0)

/-- A condition applies to the command in progress on load `h` (R372). -/
def addCause (h rank : Nat) : Act :=
  modLoad h (fun l => if l.cmd.isSome then { l with causes := l.causes ||| (1 <<< rank) } else l)

/-- The load that holds the bay of a site. -/
def State.siteLoad (s : State) (k : Nat) : Option Nat := (s.bay (keyBay k)).load

/-- The tenant of the load at a site. -/
def State.siteTenant (s : State) (k : Nat) : Option Nat := (s.siteLoad k).map (fun h => (s.load h).tenant)

/-- A condition applies to the command at a site. -/
def siteCause (k rank : Nat) : Act := .dyn fun s => withSome (s.siteLoad k) (fun h => addCause h rank)

/-- Bays that load `h` holds now. -/
def State.loadBays (s : State) (h : Nat) : List Nat := (List.range 16).filter (fun b => decide ((s.bay b).load = some h))

/-- Sites of a load. -/
def State.loadSites (s : State) (h : Nat) : List Nat := (s.loadBays h).flatMap baySites

/-- Every bay of the load is its own and ALLOCATED: its next command may start (R151, R324). -/
def State.loadWhole (s : State) (h : Nat) : Bool :=
  decide ((s.load h).bays ≠ 0) && (bitsOn 16 (s.load h).bays).all (fun b => decide ((s.bay b).load = some h) && decide ((s.bay b).st = .allocated)
    && decide ((s.bay b).act = .none))

/-- No new work starts: the module has halted (R377), is paused (R439), or is not out of night watch (R414). -/
def State.stilled (s : State) : Bool := s.halted || decide (s.updSt = .pause) || decide (s.nwSt ≠ .active)

/-! ### Credits (R31, R32) -/

/-- The key of the credit count by which input `inp` of site `k` is fed on `stream`: its neighbour's output or the
cell; `none` at an edge, where the docent or gateway feeds it. -/
def senderKey (k inp stream : Nat) : Option Nat :=
  if inp = 8 then some (k * 2048 + 9 * 64 + stream)
  else (neighbour k inp).map (fun y => y * 2048 + opposite inp * 64 + stream)

/-- Lines of the spill ring that a slot names (R162). -/
def State.spillLines (s : State) (k : Nat) (x : Slot) : Nat :=
  if x.spill < 8 then
    match lget none (s.scell k).rings x.spill with
    | some r => r.size
    | none => 0
  else 0

/-- Queue depth of a slot (R21, R162). -/
def State.slotDepth (s : State) (k : Nat) (x : Slot) : Nat := slotOwnDepth k x.inp + s.spillLines k x

/-- Tokens that a slot's queue and ring hold. -/
def Slot.held (x : Slot) : Nat := x.q.length + x.spilled.length

/-- Depth of a cell's local-port buffer for one stream: no rule gives it (assumption log 10). -/
def localDepth : Nat := Config.localPort + 1

/-- Set the sender's credit count of a slot that becomes live or is cleared: its depth, less what is queued or on the
way (R31). -/
def initCredit (k : Nat) (x : Slot) : Act :=
  .dyn fun s =>
    let way := ((s.wire (k * 16 + x.inp)).filter (fun t => decide (Tok.stream t = x.stream))).length
    seqs [
      withSome (senderKey k x.inp x.stream) (fun c => .seq
        (.upd (.credit c (s.slotDepth k x - x.held - way))) (.upd (.creditFly c 0))),
      when' (x.outs.testBit 8) (.seq
        (.upd (.credit (k * 2048 + 8 * 64 + x.stream) (localDepth - (s.arrived (k * 64 + x.stream)).length)))
        (.upd (.creditFly (k * 2048 + 8 * 64 + x.stream) 0)))]

/-! ### Clearing (R44, R127, R160, R161, R164) -/

/-- Keys of a table, `per` of them to a site, that belong to one of the bays. -/
def keysIn {α : Type} (t : Tab α) (per : Nat) (bs : List Nat) : List Nat :=
  (tkeys t).filter (fun k => bs.contains (keyBay (k / per)))

/-- An A-cell with no command: its program is over and no chain is open. -/
def ACell.idle (a : ACell) : ACell :=
  { a with ended := true, loops := [], tile := none, stopped := false, chainOpen := false, chainLen := 0, chainTiles := 0,
           chainBad := false, poison := [], heldOps := [], piece := 0 }

/-- An S-cell with no command: its generators stand and its rings hold no unit. -/
def SCell.idle (c : SCell) : SCell :=
  { c with stopped := false, gens := c.gens.map (fun g => { g with running := false }),
           rings := c.rings.map (fun r => r.map (fun x => { x with full := [] })) }

/-- Clear the queues of load `h`: slot queues and rings, links, local ports, and the work of its cells. -/
def clearLoadQueues (h : Nat) : Act :=
  .dyn fun s =>
    let bs := s.loadBays h
    seqs [
      each (keysIn s.fab.wires 16 bs) (fun k => when' (decide (k % 16 ≤ 8)) (.upd (.wire k []))),
      each (keysIn s.cell.arr 64 bs) (fun k => .upd (.arrived k [])),
      each (keysIn s.cell.got 64 bs) (fun k => .upd (.got k [])),
      each (keysIn s.cell.cout 64 bs) (fun k => .upd (.cout k [])),
      each (keysIn s.fab.creditsFly 2048 bs) (fun k => .upd (.creditFly k 0)),
      each (keysIn s.fab.slots 32 bs) (fun k => .seq
        (modSlot k (fun x => x.map (fun x => { x with q := [], spilled := [] })))
        (.dyn fun s => withSome (s.slot k) (fun x => initCredit (k / 32) x))),
      each (keysIn s.cell.acells 1 bs) (fun k => modAcell k ACell.idle),
      each (keysIn s.cell.scells 1 bs) (fun k => modScell k SCell.idle)]

/-- Every switch, cell, queue, route slot and SRAM line of a bay becomes zero (R44, R45; assumption log 21). -/
def clearBay (b : Nat) : Act :=
  .dyn fun s => seqs [
    each (keysIn s.fab.slots 32 [b]) (fun k => .upd (.slot k none)),
    each (keysIn s.fab.newSlots 32 [b]) (fun k => .upd (.newSlot k none)),
    each (keysIn s.fab.sites 1 [b]) (fun k => .upd (.site k {})),
    each (keysIn s.fab.credits 2048 [b]) (fun k => .upd (.credit k 0)),
    each (keysIn s.fab.creditsFly 2048 [b]) (fun k => .upd (.creditFly k 0)),
    each (keysIn s.fab.wires 16 [b]) (fun k => .upd (.wire k [])),
    each (keysIn s.fab.lastGrant 16 [b]) (fun k => .upd (.lastGrant k 0)),
    each (keysIn s.cell.acells 1 [b]) (fun k => .upd (.acell k {})),
    each (keysIn s.cell.accs 8192 [b]) (fun k => .upd (.acc k {})),
    each (keysIn s.cell.runs 8192 [b]) (fun k => .upd (.run16At k 0)),
    each (keysIn s.cell.lanes 1024 [b]) (fun k => .upd (.lane k 0)),
    each (keysIn s.cell.lanePoison 64 [b]) (fun k => .upd (.laneBad k false)),
    each (keysIn s.cell.arr 64 [b]) (fun k => .upd (.arrived k [])),
    each (keysIn s.cell.got 64 [b]) (fun k => .upd (.got k [])),
    each (keysIn s.cell.cout 64 [b]) (fun k => .upd (.cout k [])),
    each (keysIn s.cell.scells 1 [b]) (fun k => .upd (.scell k {})),
    each (keysIn s.cell.lines 8192 [b]) (fun k => .upd (.line k {})),
    .upd (.wdogWait b 0)]

/-! ### Fences (R40, R41) -/

/-- The fences as the bays' loads make them: open between two neighbouring bays of one load. -/
def setFences : Act :=
  .dyn fun s => setReg rFAB_BAY_FENCE (maskOf ((List.range 15).filter (fun b =>
    (s.bay b).load.isSome && decide ((s.bay b).load = (s.bay (b + 1)).load)
      && decide ((s.bay b).act = .none) && decide ((s.bay (b + 1)).act = .none))))

/-! ### A bay leaves its load (R43, R150, Table 1.8) -/

/-- A bay's ON bit. -/
def State.bayOnBit (s : State) (b : Nat) : Bool := s.flag rFAB_BAY_ON b

/-- The bay leaves its load: FAULTED it stays as it is, DRAINING it powers down; otherwise it is cleared, and is the
load's until it is IDLE. -/
def leaveBay (b : Nat) : Act :=
  modBay b (fun x =>
    let st := if x.st = .scanning then x.ret else x.st
    if st = .faulted then { x with load := none, act := .none }
    else if st = .draining then { x with load := none, act := .downing }
    else { x with st := st, act := .clearing })

/-- Every DRAINING bay of the load leaves it at this boundary (Table 1.8). -/
def drainBays (h : Nat) : Act :=
  .dyn fun s => .seq
    (each (s.loadBays h) (fun b => when' (decide ((s.bay b).st = .draining)) (leaveBay b))) setFences

/-! ### Pins of a load (R148, R198) -/

/-- The whole T1 edge copy at an address. -/
def State.copyAt (s : State) (addr : Nat) : Option Nat :=
  s.resident.find? (fun i => match s.obj i with
    | some o => decide (o.tier = 1) && decide (o.bays = 0) && decide (o.addr = addr)
    | none => false)

/-- Take back the pin on the load's image and on each bound copy. -/
def unpinLoad (h : Nat) : Act :=
  .dyn fun s => .seq
    (when' (decide ((s.load h).image.bytes ≠ 0)) (withSome (s.copyAt (s.load h).image.addr) unpinCopy))
    (.seq (each (s.load h).binds (fun x => withSome x unpinCopy))
      (modLoad h (fun l => { l with binds := List.replicate 16 none })))

/-! ### The end of a command and of a load -/

/-- The command `id` of load `h` has ended with `st`: the client's completion, or the serving block's work. -/
def finishCmd (id h : Nat) (st : Status) : Act :=
  .dyn fun s => withSome (s.cmd id) (fun c =>
    match c.pair with
    | some _ => complete id st (if c.op = opcEXLOAD ∧ st ≠ .ok then noIdx else h)
    | none => serveEnd id st)

/-- A load whose release has torn it down is FREE once no bay of it is still being cleared: its commands that wait
complete SHAPE_INVALID, its release completes OK (R150, R298, R300). -/
def settleRelease (h : Nat) : Act :=
  .dyn fun s =>
    let ld := s.load h
    if ld.torn && decide (s.loadBays h = []) then
      seqs [
        .upd (.load h {}),
        each ld.waiting (fun id => finishCmd id h .shapeInvalid),
        withSome ld.relCmd (fun id => complete id .ok h),
        when' ld.sliced (each (List.range 4) (fun g => modSlice g (fun x =>
          if x.st ≠ .off ∧ x.tenant = ld.tenant then { x with st := .idle, pend := none } else x))),
        settleTenant ld.tenant]
    else .nop

/-- The load is released: what it holds is unpinned and its bays leave it (R150). -/
def releaseLoad (h : Nat) : Act :=
  seqs [
    dropStreams h,
    cancelLoadWork h,
    unpinLoad h,
    .dyn fun s => withSome (s.load h).repl (fun r => withSome (s.copyAt r.image.addr) unpinCopy),
    modLoad h (fun l => { l with torn := true, st := .releasing, repl := none }),
    .dyn fun s => each (s.loadBays h) leaveBay,
    setFences,
    settleRelease h]

/-- What happens at the command boundary of load `h` (R150, R300, R321, R324). -/
def boundary (h : Nat) : Act :=
  .dyn fun s =>
    if (s.load h).torn then .nop
    else if (s.load h).st = .releasing then releaseLoad h
    else seqs [
      drainBays h,
      .dyn fun s => each (s.scanWant.filter (fun b => decide ((s.bay b).load = some h)))
        (fun b => whenS (fun s => decide (s.scanDir = 0)) (startScan b 1))]

/-- The command in progress on load `h` ends with status `st`; `clears` tells that the load's queues are cleared. -/
def endAs (h : Nat) (st : Status) (clears : Bool) : Act :=
  .dyn fun s =>
    let ld := s.load h
    withSome ld.cmd fun id => seqs [
      when' clears (clearLoadQueues h),
      when' (decide (0x10 ≤ st.code)) (streamReset h),
      modLoad h (fun l => { l with
        cmd := none, started := false, causes := 0, ends := l.ends + 1, saved := none,
        relForce := none,
        st := if l.st = .running then (if l.repl.isSome then .replacing else .ready) else l.st }),
      finishCmd id h st,
      when' (decide (0x10 ≤ st.code)) (cancelLoadWork h),
      withSome ld.relForce (fun id => complete id .ok h),
      boundary h]

/-- The command in progress on load `h` ends with the status its conditions give (R373); an end in its course clears
the load's queues. -/
def endLoad (h : Nat) : Act :=
  .dyn fun s => endAs h (causeStatus (s.load h).causes) (causeEnds (s.load h).causes)

/-- A condition in its course ends the command of load `h` at once. -/
def endWith (h rank : Nat) : Act := .seq (addCause h rank) (endLoad h)

/-- The load's cells have all finished the command in progress and nothing waits to be sent. -/
def State.loadDone (s : State) (h : Nat) : Bool :=
  let bs := s.loadBays h
  (keysIn s.cell.acells 1 bs).all (fun k => (s.acell k).ended)
    && (keysIn s.cell.scells 1 bs).all (fun k => (s.scell k).gens.all (fun g => !g.running))
    && decide (keysIn s.cell.cout 64 bs = [])

end Sys2Proof.Machine
end

