-- ==== Sys2Proof/Machine/Switch.lean ====
section
/-!
DEFINITION. Switches: route slots, queues, spill rings, forwarding, sideband faults, and the passing of epoch markers
(R19 to R33, R49 to R53, R141, R155 to R163, R388).
-/

namespace Sys2Proof.Machine

/-! ### Installing configuration (R139 to R146, R149, R157) -/

/-- The contents of the tokens of one section of a block, in SEQ order. -/
def sectionOf (block : List Token) (sec : Nat) : List Nat :=
  (block.filter (fun t => decide (cfgSection t.payload.toNat = sec))).map (fun t => cfgContent t.payload.toNat)

/-- The route slots of a block: number and slot (R141). -/
def blockSlots (block : List Token) (epoch : Nat) : List (Nat × Slot) :=
  match sectionOf block secROUTE with
  | [] => []
  | c :: _ => (List.range 16).filterMap (fun i =>
      let w := routeSlot c i
      if rsValid w then
        some (i, { inp := rsIn w, stream := rsStream w, outs := rsOut w, spill := rsSpill w, epoch := epoch })
      else none)

/-- The generator program of a block's AGEN section (R143): two tokens of 448 content bits. -/
def blockGen (block : List Token) (sec : Nat) : Option Nat :=
  match sectionOf block sec with
  | a :: b :: _ => some (a + b * 2 ^ 448)
  | _ => none

/-- The step words of a block up to its first END (R146, R516). -/
def blockSteps (block : List Token) : List Nat :=
  ((sectionOf block secSTEPS).flatMap (fun c => (List.range 7).map (fun i => bits (64 * i + 63) (64 * i) c))).takeWhile
    (fun w => decide (opOf w ≠ opEND))

/-- Install the cell part of the staged block: the cell runs in epoch `e` from now on (R157). -/
def installCell (k e : Nat) : Act :=
  .dyn fun s =>
    let b := (s.site k).staged
    .seq (modSite k (fun x => { x with staged := [] }))
      (if keyIsA k then
        modAcell k (fun a => { a.idle with
          acfg := (sectionOf b secACFG).head?, steps := blockSteps b, pc := 0, epoch := e, marked := 0 })
      else
        modScell k (fun c => { c.idle with
          rings := (match sectionOf b secRING with
            | [] => List.replicate 8 none
            | r :: _ => (List.range 8).map (fun i => ringOf (ringWord r i))),
          gens := [({ prog := blockGen b secAGEN0 } : Gen), ({ prog := blockGen b secAGEN1 } : Gen)], epoch := e, marked := 0 }))

/-- Table key of a live slot. -/
def slotKey (k i epoch : Nat) : Nat := k * 32 + 16 * (epoch % 2) + i

/-- Make a slot live (R31). -/
def liveSlot (k i : Nat) (x : Slot) : Act :=
  .seq (.upd (.slot (slotKey k i x.epoch) (some x))) (initCredit k x)

/-- The staged slot `x` still waits for an old slot of the switch (R158). -/
def State.slotBlocked (s : State) (k : Nat) (x : Slot) : Bool :=
  (s.slotsOf k).any (fun (_, o) => decide (o.epoch ≠ x.epoch) && decide (o.stream = x.stream) &&
    (decide (o.inp = x.inp) || decide (o.outs &&& x.outs ≠ 0)))

/-- Staged slots whose old slots have retired become live (R158). -/
def settleSlots (k : Nat) : Act :=
  each (List.range 32) (fun i => .dyn fun s => withSome (s.newSlot (k * 32 + i)) (fun x =>
    when' (!s.slotBlocked k x) (.seq (.upd (.newSlot (k * 32 + i) none)) (liveSlot k (i % 16) x))))

/-! ### The end of a site's and a bay's switch (R157 to R159) -/

/-- Epoch of the cell at a site. -/
def State.cellEpoch (s : State) (k : Nat) : Nat := if keyIsA k then (s.acell k).epoch else (s.scell k).epoch

/-- The replacement of load `h` is over once none of its bays has a site still to switch (R155): the load uses the new
image, the old one loses its pin. -/
def settleRepl (h : Nat) : Act :=
  .dyn fun s =>
    let ld := s.load h
    withSome ld.repl fun r =>
      if r.phase = .closing ∧ (s.loadSites h).all (fun k => !(s.site k).switching) then
        seqs [
          withSome (s.copyAt ld.image.addr) unpinCopy,
          modLoad h (fun l => { l with
            repl := none, entry := r.entry, image := r.image,
            waiting := l.waiting.filter (fun i => decide (some i ≠ r.cmd)),
            st := if l.st = .replacing then .ready else l.st }),
          withSome r.cmd (fun id => complete id .ok h),
          .dyn fun s => when' (decide ((s.load h).st = .releasing) && (s.load h).cmd.isNone) (releaseLoad h)]
      else .nop

/-- A bay whose last site has switched is in the new epoch; one asked to power down meanwhile drains now (R43). -/
def settleBay (b : Nat) : Act :=
  .dyn fun s =>
    if (baySites b).all (fun k => !(s.site k).switching) then
      let e := match (baySites b).find? (fun k => (s.site k).switching = false) with
        | some k => s.cellEpoch k
        | none => (s.bay b).epoch
      .seq (modBay b (fun x => { x with
          epoch := e,
          st := if x.st = .switching then (if s.bayOnBit b then .allocated else .draining) else x.st }))
        (withSome (s.bay b).load (fun h => .seq (settleRepl h)
          (whenS (fun s => (s.load h).cmd.isNone) (drainBays h))))
    else .nop

/-- A site is through once its cell runs in the new epoch and no old slot is left. -/
def settleSite (k : Nat) : Act :=
  .dyn fun s =>
    let x := s.site k
    if x.switching && decide (s.cellEpoch k = ((s.bay (keyBay k)).epoch + 1) % 16)
        && (s.slotsOf k).all (fun (_, o) => decide (o.epoch = s.cellEpoch k)) then
      .seq (modSite k (fun x => { x with switching := false })) (settleBay (keyBay k))
    else .nop

/-- The first marker that reaches a site of an ALLOCATED bay makes it SWITCHING (R159). -/
def baySees (k : Nat) (t : Token) : Act :=
  when' (decide (Tok.kind t = kindMarker)) (modBay (keyBay k) (fun x =>
    if x.st = .allocated then { x with st := .switching } else x))

/-! ### Sending -/

/-- Send what the cell has produced on a stream, as credit allows (R31). -/
def cellSendN : Nat → Nat → Nat → Act
  | 0, _, _ => .nop
  | n + 1, k, st => .dyn fun s =>
    match s.cout (k * 64 + st) with
    | [] => .nop
    | t :: rest =>
      if s.credit (k * 2048 + 9 * 64 + st) = 0 then .nop
      else seqs [.upd (.cout (k * 64 + st) rest), modCredit (k * 2048 + 9 * 64 + st) (fun c => c - 1),
        modWire (k * 16 + 8) (fun w => w ++ [t]), cellSendN n k st]

/-- Send what the cell has produced on a stream. -/
def cellSend (k st : Nat) : Act := .dyn fun s => cellSendN (s.cout (k * 64 + st)).length k st

/-- A cell puts a token on a stream of its local port (R29, R366). -/
def cellPut (k st : Nat) (t : Token) : Act := .seq (modCout (k * 64 + st) (fun q => q ++ [t])) (cellSend k st)

/-- Every output of the slot can take a token now (R22, R31), and its input has not been stopped by a fault (R49). -/
def State.slotReady (s : State) (k : Nat) (x : Slot) : Bool :=
  decide (x.q ≠ []) && !(s.site k).stopped.testBit x.inp && (bitsOn 9 x.outs).all (fun o =>
    if o = 8 ∨ (neighbour k o).isSome then decide (0 < s.credit (k * 2048 + o * 64 + x.stream))
    else s.gatewayReady k o x.stream)

/-- Distance of slot `i` behind the slot granted last at an output: the rotating priority of R23. -/
def State.grantRank (s : State) (k o i : Nat) : Nat := (i + 32 - s.lastGrant (k * 16 + o) % 32 + 31) % 32

/-- The ready slot that moves next: one that wins every output it names, or the lowest (R23; assumption log 22). -/
def State.nextSlot (s : State) (k : Nat) : Option (Nat × Slot) :=
  let rs := (s.slotsOf k).filter (fun (_, x) => s.slotReady k x)
  let wins (p : Nat × Slot) : Bool := (bitsOn 9 p.2.outs).all (fun o =>
    rs.all (fun r => !r.2.outs.testBit o || decide (s.grantRank k o p.1 ≤ s.grantRank k o r.1)))
  match rs.find? wins with
  | some p => some p
  | none => rs.head?

/-- The slot without its oldest token: a spilled token takes the place that it leaves (R162). -/
def Slot.pop (x : Slot) : Slot :=
  match x.spilled with
  | [] => { x with q := x.q.drop 1 }
  | (_, t) :: rest => { x with q := x.q.drop 1 ++ [t], spilled := rest }

/-- Give the sender of a slot its credit back (R32). -/
def creditBack (k inp stream : Nat) : Act :=
  match senderKey k inp stream with
  | some c => modCreditFly c (fun n => n + 1)
  | none => gatewayCredit k inp stream

/-- Put a token on output `o` of a switch. -/
def sendOut (k o stream : Nat) (t : Token) : Act :=
  if o = 8 then
    .seq (modCredit (k * 2048 + o * 64 + stream) (fun c => c - 1)) (modArrived (k * 64 + stream) (fun q => q ++ [t]))
  else match neighbour k o with
    | some y => .seq (modCredit (k * 2048 + o * 64 + stream) (fun c => c - 1))
        (modWire (y * 16 + opposite o) (fun w => w ++ [t]))
    | none => gatewayOut k o t

/-- Forward the oldest token of slot `i` to every output (R22); a marker retires an old slot behind it (R158). -/
def forwardSlot (k i : Nat) (x : Slot) (t : Token) : Act :=
  seqs [
    .upd (.slot (k * 32 + i) (some x.pop)),
    creditBack k x.inp x.stream,
    each (bitsOn 9 x.outs) (fun o => .seq (sendOut k o x.stream t) (.upd (.lastGrant (k * 16 + o) i))),
    when' (decide (Tok.kind t = kindMarker))
      (seqs [.upd (.slot (k * 32 + i) none), settleSlots k, settleSite k])]

/-- Forward as many tokens as can move at a switch. -/
def forwardN : Nat → Nat → Act
  | 0, _ => .nop
  | n + 1, k => .dyn fun s =>
    match s.nextSlot k with
    | none => .nop
    | some (i, x) =>
      match x.q with
      | [] => .nop
      | t :: _ => .seq (forwardSlot k i x t) (forwardN n k)

/-- Forward at a switch until nothing more can move. -/
def forward (k : Nat) : Act :=
  .dyn fun s => forwardN ((s.slotsOf k).map (fun (_, x) => x.held)).sum k

/-! ### Faults found by a switch (R49 to R53, R388) -/

/-- A bay that enters FAULTED is scanned out, or the scan is skipped (R388). -/
def autoscan (b : Nat) : Act :=
  .dyn fun s =>
    if s.flag rINT_CTL 0 then
      if s.scanBay.isNone && decide (s.scanDir = 0) then startScan b 1 else setErr blkINT 6
    else .nop

/-- A bay of a load becomes FAULTED; its load's command completes POISONED at once (R49, Table 1.8). -/
def faultBay (b : Nat) : Act :=
  .dyn fun s =>
    let x := s.bay b
    if x.st = .allocated ∨ x.st = .switching ∨ x.st = .draining then
      seqs [modBay b (fun x => { x with st := .faulted }),
        withSome x.load (fun h => endWith h rankABORT), autoscan b]
    else .nop

/-- The FAB_ERR bits (R53). -/
def fabSBPAR : Nat := 0
def fabNOSLOT : Nat := 1
def fabRESIDUE : Nat := 2
def fabKIND : Nat := 3
def fabFORCENOP : Nat := 4

/-- A command is in progress at a site. -/
def State.siteBusy (s : State) (k : Nat) : Bool :=
  match s.siteLoad k with
  | some h => (s.load h).cmd.isSome
  | none => false

/-- Record and log a fabric fault at a site, input and stream (R30, R49, R53); `ends` tells that it ends the command
in progress POISONED. -/
def fabFault (k inp stream bitNo : Nat) (ends : Bool := false) : Act :=
  .dyn fun s => .seq
    (firstFault rFAB_ERR_SITE 31 (keyErrBits k + place 10 7 inp + place 5 0 stream))
    (incident { cls := .B, blk := blkFAB, code := bitNo, tenant := s.siteTenant k, locus := keyLocus k,
                status := if ends && s.siteBusy k then Status.poisoned.code else 0xFF })

/-- A sideband-parity or no-slot fault: the input stops with the token held in its pass-through register (R49, R50). -/
def switchFault (k inp : Nat) (t : Token) (bitNo : Nat) : Act :=
  seqs [
    modSite k (fun x => { x with stopped := x.stopped ||| (1 <<< inp), held := x.held ++ [(inp, t)] }),
    fabFault k inp (Tok.stream t) bitNo true,
    faultBay (keyBay k)]

/-! ### Spill (R162, R163) and arrival -/

/-- Record an S-cell fault that is not a SHAPE fault (R129): KIND `kind`, ERR bit `kind + 1`. -/
def sclFault (k agent kind space addr : Nat) (cls : FClass) (injected : Bool) (status : Nat) : Act :=
  .dyn fun s => seqs [
    when' (!s.flag rSCL_ERR_SITE 31) (.seq
      (setReg rSCL_ERR_SITE (2 ^ 31 + keyErrBits k + place 10 8 agent + place 7 7 (b2n injected) + place 6 4 kind))
      (setReg rSCL_ERR_ADDR (place 63 62 space + place 47 0 addr))),
    incident { cls := cls, blk := blkSCL, code := kind + 1, status := status, tenant := s.siteTenant k,
               locus := keyLocus k, injected := injected }]

def sclSRAMUE : Nat := 0
def sclSCRUBUE : Nat := 1
def sclVPORTUE : Nat := 2
def sclOVFSRAM : Nat := 3
def sclOVFT1 : Nat := 4
def sclOVFCOUNT : Nat := 5

/-- A use beyond a declared resource at an S-cell: the access is not made and the command ends TILE_OVERFLOW (R127). -/
def sclOverflow (k agent kind space addr : Nat) : Act :=
  .dyn fun s => .seq (sclFault k agent kind space addr .B false Status.tileOverflow.code)
    (withSome (s.siteLoad k) (fun h => endWith h rankOVERFLOW))

/-- The lowest line of a slot's spill ring that holds no token. -/
def State.spillLine (s : State) (k : Nat) (x : Slot) : Option Nat :=
  if x.spill < 8 then
    match lget none (s.scell k).rings x.spill with
    | some r => ((List.range r.size).map (fun i => r.base + i)).find? (fun l => !(x.spilled.map (fun p => p.1)).contains l)
    | none => none
  else none

/-- Accept a token into slot `i`: its own queue, else its spill ring; a spill write outside the ring is not made
(R162, R163). -/
def enqueue (k i : Nat) (x : Slot) (t : Token) : Act :=
  .dyn fun s =>
    if x.q.length < slotOwnDepth k x.inp ∧ x.spilled = [] then
      .upd (.slot (k * 32 + i) (some { x with q := x.q ++ [t] }))
    else match s.spillLine k x with
      | some l => .seq (.upd (.slot (k * 32 + i) (some { x with spilled := x.spilled ++ [(l, t)] })))
          (.upd (.line (k * 8192 + l) { data := t.payload, poison := false, inj := 0 }))
      | none =>
        when' (decide (x.spill < 8))
          (match lget none (s.scell k).rings x.spill with
            | some r => sclOverflow k 4 sclOVFSRAM 0 (r.base + r.size)
            | none => .nop)

/-- The live slot for an input and stream. -/
def State.slotFor (s : State) (k inp stream : Nat) : Option (Nat × Slot) :=
  (s.slotsOf k).find? (fun (_, x) => decide (x.inp = inp) && decide (x.stream = stream))

/-- A staged slot, not live yet, for an input and stream (R158). -/
def State.slotStaged (s : State) (k inp stream : Nat) : Bool :=
  (List.range 32).any (fun i => match s.newSlot (k * 32 + i) with
    | some x => decide (x.inp = inp) && decide (x.stream = stream)
    | none => false)

/-- The bay passes tokens: it is ALLOCATED, SWITCHING or DRAINING. -/
def Bay.passes (x : Bay) : Bool :=
  (decide (x.st = .allocated) || decide (x.st = .switching) || decide (x.st = .draining)) && decide (x.act = .none)

/-- The token `t`, taken by `take`, arrives at input `inp` of the switch of site `k`. -/
def arrive (k inp : Nat) (t : Token) (take : Act) : Act :=
  .dyn fun s =>
    if !Tok.valid t then take
    else if !Tok.parityOk t then .seq take (switchFault k inp t fabSBPAR)
    else match s.slotFor k inp (Tok.stream t) with
      | none => if s.slotStaged k inp (Tok.stream t) then .nop else .seq take (switchFault k inp t fabNOSLOT)
      | some (i, x) =>
        if ((senderKey k inp x.stream).isNone || decide (8 ≤ x.spill)) && decide (s.slotDepth k x ≤ x.held) then .nop
        else seqs [take, baySees k t, enqueue k i x t, forward k]

end Sys2Proof.Machine
end

