-- ==== Sys2Proof/Machine/Gateway.lean ====
section
/-!
DEFINITION. What a gateway accepts from the links: DATA, CREDIT and the two notices, and what this module has for itself
(R337, R340, R352, R356).
-/

namespace Sys2Proof.Machine

/-- The entries of a CREDIT flit: load, stream, count. -/
def creditEntries (f : List Byte) : List (Nat × Nat × Nat) :=
  (List.range (flSUB f)).map (fun e =>
    (bits 3 0 (leAt f (0x30 + 4 * e) 1), bits 5 0 (leAt f (0x31 + 4 * e) 1), leAt f (0x32 + 4 * e) 2))

/-- The number of the outbound record of a stream whose peer is `peer`. -/
def State.outNumber (s : State) (h st : Nat) (peer : List Nat) : Option Nat :=
  let rs := s.outRecs h st
  (List.range rs.length).find? (fun i => decide (peerOf (lget [] rs i) = peer))

/-- Check 7 of Table 9.12 (R356). -/
def State.streamOk (s : State) (peer : List Nat) (f : List Byte) : Bool :=
  if flTYPE f = tyDATA then
    match s.inRec (flLOAD f) (flSTREAM f) with
    | some r =>
      let x := s.stream (streamKey (flLOAD f) (flSTREAM f))
      decide (peerOf r = peer) && decide (flGEN f = x.gen) && decide (flINDEX f = x.inIndex)
        && decide (x.store.length + flSUB f % 4 ≤ rmCredits r)
    | none => false
  else if flTYPE f = tyCREDIT then
    (creditEntries f).all (fun (q : Nat × Nat × Nat) => match s.outNumber q.1 q.2.1 peer with
      | some i =>
        decide ((((creditEntries f).filter (fun (e : Nat × Nat × Nat) => decide (e.1 = q.1) && decide (e.2.1 = q.2.1))).map
          (fun (e : Nat × Nat × Nat) => e.2.2)).sum ≤ lget 0 (s.stream (streamKey q.1 q.2.1)).spent i)
      | none => false)
  else if flSUB f = 2 then
    match s.inRec (flLOAD f) (flSTREAM f) with
    | some r => decide (peerOf r = peer)
    | none => false
  else
    ((s.remotes (flLOAD f)).filter (fun r => decide (rmStream r = flSTREAM f))).any (fun r =>
      decide (peerOf r = peer) || ((bridgePeer r).isNone && s.live.onPath s.live.me (peerOf r) peer))

/-- The tokens of a DATA flit. -/
def flitTokens (f : List Byte) : List Token :=
  (List.range (flSUB f % 4)).map (fun t =>
    { payload := BitVec.ofNat 512 (leAt f (0x30 + 64 * t) 64), sb := BitVec.ofNat 24 (leAt f (0x14 + 3 * t) 3) })

/-- The token that a CUT delivers (R340). -/
def cutToken (st : Nat) : Token := Tok.make 0 true kindData st 0 true

/-- A LOST notice for a stream: the command that uses it ends LINK_LOST, or the stream is reset (R352). -/
def lostAt (h st gen : Nat) : Act :=
  .dyn fun s =>
    if (s.remoteStreams h).contains st then
      if (s.load h).cmd.isSome then seqs [
        modStream (streamKey h st) (fun x => { x with lostGen := some gen }),
        incident { cls := .B, blk := blkLNK, code := 4, status := Status.linkLost.code, tenant := some (s.load h).tenant },
        endWith h rankLINK]
      else resetStream h st gen
    else .nop

/-- What a flit that has passed the checks does at this module. -/
def deliver (peer : List Nat) (f : List Byte) : Act :=
  let key := streamKey (flLOAD f) (flSTREAM f)
  if flTYPE f = tyDATA then
    modStream key (fun x => if x.cutHere then x else
      { x with store := x.store ++ flitTokens f, inIndex := x.inIndex + flSUB f % 4 })
  else if flTYPE f = tyCREDIT then
    each (creditEntries f) (fun (q : Nat × Nat × Nat) => .dyn fun s =>
      withSome (s.outNumber q.1 q.2.1 peer) (fun i => .seq
        (modStream (streamKey q.1 q.2.1) (fun x => { x with spent := lset x.spent i (lget 0 x.spent i - q.2.2) }))
        (withSome (s.outRecs q.1 q.2.1).head? (fun r => forward (edgeSite (rmGateway r) q.2.1).1))))
  else if flSUB f = 2 then
    modStream key (fun x => if x.cutHere then x else { x with store := x.store ++ [cutToken (flSTREAM f)], cutHere := true })
  else .seq (addFld rLNK_NOTICE_CNT 15 0 1) (lostAt (flLOAD f) (flSTREAM f) (leAt f 0x13 1 % 16))

/-- Take what this module has for itself: notices and flits, oldest first, `n` at most now. -/
def takeLocal : Nat → Act
  | 0 => .nop
  | n + 1 => .dyn fun s =>
    match s.localLost, s.localFlits with
    | q :: rest, _ => seqs [.upd (.localLost rest), addFld rLNK_NOTICE_CNT 15 0 1, lostAt q.1 q.2.1 q.2.2, takeLocal n]
    | [], f :: rest => seqs [.upd (.localFlits rest),
        when' (s.streamOk s.live.me f) (deliver s.live.me f), takeLocal n]
    | [], [] => .nop

/-- What a command of the link switch leaves to be taken locally is taken. -/
def settleLocal : Act := takeLocal 256

end Sys2Proof.Machine
end

