-- ==== Sys2Proof/Machine/Fabric.lean ====
section
/-!
DEFINITION. Meanings of the fabric's commands (chapter 01): tokens, credits, clocks, bays.
-/

namespace Sys2Proof.Machine

/-! ### Tokens at switches and cells -/

/-- The oldest token on its way to an input, or what an edge feeds, and what takes it. -/
def State.inbound (s : State) (k inp : Nat) (feed : Option Token) : Option (Token × Act) :=
  match s.wire (k * 16 + inp) with
  | t :: rest => some (t, .upd (.wire (k * 16 + inp) rest))
  | [] =>
    if inp < 8 && (neighbour k inp).isNone then
      match s.gatewayFeed k inp with
      | some p => some p
      | none => feed.map (fun t => (t, .nop))
    else none

/-- A token as it arrives: `noise` is what the link changed. -/
def Token.xor (t n : Token) : Token := { payload := t.payload ^^^ n.payload, sb := t.sb ^^^ n.sb }

/-- TOKEN_HOP. `feed` is the token that a docent or the control die feeds at an edge input with nothing else waiting;
`noise` is what the link or a switch fault changed in the token. -/
def tokenHopA (site : Site) (inp : Fin 9) (feed : Option Token) (noise : Token) : Act :=
  let k := siteKey site
  .dyn fun s =>
    if (s.bay (keyBay k)).passes && !(s.site k).stopped.testBit inp.val then
      .seq (withSome (s.inbound k inp.val feed) (fun (t, take) => arrive k inp.val (t.xor noise) take)) settleLocal
    else .nop

/-- TOKEN_HOP (R24, R49, R50, R162). -/
def execTokenHop (site : Site) (inp : Fin 9) (feed : Option Token) (noise : Token) (s : State) :
    Host.Outcome State Fault Refusal := .next (run (tokenHopA site inp feed noise) s)

/-- One credit on its way reaches the sender that holds the count. -/
def creditArrive (c : Nat) : Act :=
  .dyn fun s => if s.creditFly c = 0 then .nop
    else .seq (modCreditFly c (fun n => n - 1)) (modCredit c (fun n => n + 1))

/-- CREDIT_RETURN: the count rises and what waited for it moves. Output 8 stands for the local port, both ways. -/
def creditReturnA (site : Site) (out : Fin 9) (stream : Fin 64) : Act :=
  let k := siteKey site
  seqs [
    creditArrive (k * 2048 + out.val * 64 + stream.val),
    when' (decide (out.val = 8)) (.seq (creditArrive (k * 2048 + 9 * 64 + stream.val)) (cellSend k stream.val)),
    forward k,
    settleLocal]

/-- CREDIT_RETURN (R31, R32). -/
def execCreditReturn (site : Site) (out : Fin 9) (stream : Fin 64) (s : State) : Host.Outcome State Fault Refusal :=
  .next (run (creditReturnA site out stream) s)

/-! ### Clocks (R36, R37, R390) -/

/-- Target clock code of a bay. -/
def State.bayClk (s : State) (b : Nat) : Nat :=
  s.fld (if b < 8 then rFAB_BAY_CLK_LO else rFAB_BAY_CLK_HI) (8 * (b % 8) + 7) (8 * (b % 8))

/-- The code at which an island runs under its limits (R37). -/
def Island.lowest (x : Island) (target : Nat) : Nat :=
  min target (min x.limCap (min x.limBrake (min x.limTherm x.limDroop)))

/-- ISLAND_CLOCK_CHANGE: `droop` is the limit that the island's droop sensor sets now, if any. An island of an OFF bay
stands (FAB_ISL_STAT.CLK_NOW). -/
def islandClockChangeA (isl : Fin 640) (droop : Option (Fin 37)) : Act :=
  .dyn fun s =>
    let x := { s.island isl.val with limDroop := (droop.map Fin.val).getD 36 }
    let b := islandBay isl.val
    .upd (.island isl.val { x with clk := if (s.bay b).st = .off then 0 else x.lowest (s.bayClk b) })

/-- ISLAND_CLOCK_CHANGE (R37). -/
def execIslandClockChange (isl : Fin 640) (droop : Option (Fin 37)) (s : State) : Host.Outcome State Fault Refusal :=
  .next (run (islandClockChangeA isl droop) s)

/-- A write to a bay clock register: each field above 36 is taken as 36, with a class A incident for each. -/
def writeBayClk (off v : Nat) : Act :=
  .seq (setReg off ((List.range 8).foldl (fun a b => a + min 36 (bits (8 * b + 7) (8 * b) v) * 2 ^ (8 * b)) 0))
    (each (List.range 8) (fun b => when' (decide (36 < bits (8 * b + 7) (8 * b) v)) (incA blkFAB 0xFF off)))

/-- FAB_BAY_CLK_LO or FAB_BAY_CLK_HI. -/
def bayClkReg (hi : Bool) : Nat := if hi then rFAB_BAY_CLK_HI else rFAB_BAY_CLK_LO

/-- BAY_CLK_WRITE (R36, FAB_BAY_CLK_LO). -/
def execBayClkWrite (hi : Bool) (v : Word) (s : State) : Host.Outcome State Fault Refusal :=
  .next (run (regDo (.bayClkWrite hi v) (bayClkReg hi) v.toNat (writeBayClk (bayClkReg hi))) s)

/-! ### Bay power (R42 to R45, Tables 1.7 and 1.8) -/

/-- The ON bit of a bay is written 1. -/
def bayOnA (b : Nat) : Act :=
  .dyn fun s =>
    if s.halted then incA blkFAB 0xFF rFAB_BAY_ON
    else .seq (orReg rFAB_BAY_ON (1 <<< b)) (modBay b (fun x =>
      if x.st = .off then { x with st := .powering }
      else if x.st = .draining ∧ x.act = .none then { x with st := .allocated }
      else x))

/-- BAY_ON (R43, R377). -/
def execBayOn (bay : Fin 16) (s : State) : Host.Outcome State Fault Refusal := .next (run (bitDo (.bayOn bay) (bayOnA bay.val)) s)

/-- A bay that a load may still hold leaves it and powers down. -/
def downBay (b : Nat) : Act :=
  .seq (modBay b (fun x => { x with load := none, act := .downing })) setFences

/-- The ON = 0 row of Table 1.8 for the state the bay is in. -/
def bayOffRow (b : Nat) : Act :=
  .dyn fun s =>
    let x := s.bay b
    if x.act ≠ .none then .nop
    else if x.st = .idle ∨ x.st = .faulted then downBay b
    else if x.st = .allocated then
      .seq (.upd (.bay b { x with st := .draining }))
        (withSome x.load (fun h => when' (s.load h).cmd.isNone (drainBays h)))
    else .nop

/-- The ON bit of a bay is written 0. -/
def bayOffA (b : Nat) : Act :=
  .dyn fun s =>
    if s.halted then incA blkFAB 0xFF rFAB_BAY_ON
    else .seq (setFld rFAB_BAY_ON b b 0) (bayOffRow b)

/-- BAY_OFF (R43, R324). -/
def execBayOff (bay : Fin 16) (s : State) : Host.Outcome State Fault Refusal := .next (run (bitDo (.bayOff bay) (bayOffA bay.val)) s)

/-- The FORCE bit of a bay is written 1. -/
def bayForceA (b : Nat) : Act :=
  .dyn fun s =>
    let x := s.bay b
    if x.st = .draining then
      .seq (orReg rFAB_BAY_FORCE (1 <<< b))
        (withSome x.load (fun h => .seq (endWith h rankABORT)
          (.dyn fun s => when' (decide ((s.bay b).load = some h)) (.seq (leaveBay b) setFences))))
    else incA blkFAB fabFORCENOP

/-- BAY_FORCE (R43, Table 1.8). -/
def execBayForce (bay : Fin 16) (s : State) : Host.Outcome State Fault Refusal := .next (run (bitDo (.bayForce bay) (bayForceA bay.val)) s)

/-- A bay that has reached IDLE, or the end of another activity, acts on its ON bit (R43). -/
def actOnBit (b : Nat) : Act := whenS (fun s => !s.bayOnBit b) (bayOffRow b)

/-- BAY_POWER_UP_DONE: storage is cleared and the bay is IDLE, or powers down again. -/
def bayPowerUpDoneA (b : Nat) : Act :=
  .dyn fun s =>
    if (s.bay b).st = .powering then
      seqs [clearBay b,
        each (bayIslands b) (fun i => modIsland i (fun x => { x with stall := 0 })),
        .upd (.bay b (if s.bayOnBit b then { st := .idle } else { st := .powering, act := .downing }))]
    else .nop

/-- BAY_POWER_UP_DONE (R43, R44). -/
def execBayPowerUpDone (bay : Fin 16) (s : State) : Host.Outcome State Fault Refusal :=
  .next (run (bayPowerUpDoneA bay.val) s)

/-- BAY_CLEAR_DONE: a released bay is cleared and IDLE, acts on its ON bit, and the release that waited for it goes
on. -/
def bayClearDoneA (b : Nat) : Act :=
  .dyn fun s =>
    if (s.bay b).act = .clearing then
      seqs [clearBay b, .upd (.bay b { st := .idle }), setFences, actOnBit b,
        withSome (s.bay b).load settleRelease]
    else .nop

/-- BAY_CLEAR_DONE (R44). -/
def execBayClearDone (bay : Fin 16) (s : State) : Host.Outcome State Fault Refusal :=
  .next (run (bayClearDoneA bay.val) s)

/-- The bay is OFF: its contents are lost, its FORCE bit clears and its islands stand (R45). -/
def bayGone (b : Nat) : Act :=
  seqs [clearBay b, .upd (.bay b {}), setFld rFAB_BAY_FORCE b b 0,
    each (bayIslands b) (fun i => modIsland i (fun x => { x with clk := 0 }))]

/-- BAY_POWER_DOWN_DONE: a bay that was powering down is OFF. -/
def bayPowerDownDoneA (b : Nat) : Act :=
  .dyn fun s => if (s.bay b).act = .downing then bayGone b else .nop

/-- BAY_POWER_DOWN_DONE (R43, R45). -/
def execBayPowerDownDone (bay : Fin 16) (s : State) : Host.Outcome State Fault Refusal :=
  .next (run (bayPowerDownDoneA bay.val) s)

/-! ### The stall watchdog (R160, R164) -/

/-- Record the watchdog's first fault and log it (R164, EXH_ERR_SITE). -/
def wdogFault (b : Nat) (h : Nat) (status : Nat) : Act :=
  .dyn fun s => .seq
    (firstFault rEXH_ERR_SITE 31 (keyErrBits (bayPacer b) + 2 ^ 6))
    (incident { cls := .B, blk := blkEXH, code := 2, status := status, tenant := some (s.load h).tenant,
                locus := keyLocus (bayPacer b) })

/-- Every site of the load that has not switched installs its staged block at once, and its bays are ALLOCATED in the
new epoch (R160). -/
def forceSwitch (h : Nat) : Act :=
  .dyn fun s =>
    each ((s.loadSites h).filter (fun k => (s.site k).switching)) (fun k =>
      let e := ((s.bay (keyBay k)).epoch + 1) % 16
      seqs [
        when' (decide (s.cellEpoch k ≠ e)) (installCell k e),
        each (List.range 32) (fun i => .dyn fun s => withSome (s.slot (k * 32 + i)) (fun x =>
          when' (decide (x.epoch ≠ e)) (.upd (.slot (k * 32 + i) none)))),
        settleSlots k,
        settleSite k])

/-- STALL_WATCHDOG: the period of load `h` has run out on a bay with no token moving. -/
def stallWatchdogA (h b : Nat) : Act :=
  .dyn fun s =>
    let ld := s.load h
    if (s.bay b).load ≠ some h ∨ (s.bay b).st = .scanning then .nop
    else if (s.bay b).st = .switching then
      seqs [wdogFault b h Status.stallWatchdog.code, addCause h rankSTALL, endLoad h, clearLoadQueues h, forceSwitch h]
    else if ld.cmd.isSome then
      .seq (wdogFault b h Status.stallWatchdog.code) (endWith h rankSTALL)
    else if (keysIn s.fab.slots 32 (s.loadBays h)).any (fun k => match s.slot k with
        | some x => decide (0 < x.held)
        | none => false) then
      .seq (wdogFault b h 0xFF) (clearLoadQueues h)
    else .nop

/-- STALL_WATCHDOG (R160, R164). -/
def execStallWatchdog (load bay : Fin 16) (s : State) : Host.Outcome State Fault Refusal :=
  .next (run (stallWatchdogA load.val bay.val) s)

/-! ### Time that passes (R310, FAB_ISL_STAT) -/

/-- Frequency of a clock code in MHz (R36). -/
def mhzOf (code : Nat) : Nat := 300 + 25 * code

/-- Engine time of one nanosecond: each island of a bay whose load runs a command counts 2 A-cell cycles for each of
its own (R310, R391). -/
def engineTick : Act :=
  .dyn fun s => each ((List.range 16).filter (fun h => (s.load h).started)) (fun h => .dyn fun s =>
    let t := (s.load h).tenant
    let n := ((s.loadBays h).map (fun b => ((bayIslands b).map (fun i => 2 * mhzOf (s.island i).clk)).sum)).sum
      + s.engFrac t
    .seq (addFld rTEN_ACC_CYC 63 0 (n / 1000) t) (.upd (.engFrac t (n % 1000))))

/-- Stall time of one nanosecond: every island with a slot that holds a token it cannot send for want of credit. -/
def stallTick : Act :=
  .dyn fun s =>
    let blocked := (tkeys s.fab.slots).filter (fun k => match s.slot k with
      | some x => decide (x.q ≠ []) && (bitsOn 9 x.outs).any (fun o =>
          if o = 8 ∨ (neighbour (k / 32) o).isSome then decide (s.credit (k / 32 * 2048 + o * 64 + x.stream) = 0)
          else !s.gatewayReady (k / 32) o x.stream)
      | none => false)
    each (dedup (blocked.map (fun k => keyIsland (k / 32)))) (fun i =>
      modIsland i (fun x => { x with stall := x.stall + mhzOf x.clk }))

end Sys2Proof.Machine
end

