-- ==== Sys2Proof/Machine/Sfu.lean ====
section
/-!
DEFINITION. The special-function unit (R88 to R90, Table 2.6) and the vector functions (R86, R510 to R513).
-/

namespace Sys2Proof.Machine

/-- ⌊x × a ÷ b⌋ of a finite value. -/
def finFloor (neg : Bool) (m : Nat) (e : Int) (a b : Nat) : Int :=
  let n : Int := if neg then -((m * a : Nat) : Int) else ((m * a : Nat) : Int)
  if 0 ≤ e then n * (2 ^ e.toNat : Nat) / (b : Int) else n / ((b * 2 ^ (-e).toNat : Nat) : Int)

/-- Segments and degree of a function (Table 2.6). -/
def sfuShape (fn : Nat) : Nat × Nat :=
  match fn with
  | 0 => (16, 4) | 1 => (32, 3) | 2 => (64, 2) | 3 => (64, 2) | 4 => (64, 3) | 5 => (72, 4) | 6 => (96, 4)
  | _ => (0, 0)

/-- The interval of a function's segments, in units of 1/10000. -/
def sfuInterval (fn : Nat) : Int × Int :=
  match fn with
  | 0 => (-3466, 3466) | 1 => (10000, 20000) | 2 => (10000, 20000) | 3 => (10000, 40000) | 4 => (-160000, 160000)
  | 5 => (0, 90000) | _ => (-60000, 60000)

/-- The segment of a reduced argument: segments of equal width over the interval. -/
def sfuSegment (fn x : Nat) : Nat :=
  match f32 x with
  | .fin neg m e =>
    let (lo, hi) := sfuInterval fn
    let n := (sfuShape fn).1
    let k := (finFloor neg m e (10000 * n) 1 - lo * n) / (hi - lo)
    min (n - 1) k.toNat
  | _ => 0

/-- Horner's rule with one fused multiply-add per degree (R88 step 2). -/
def sfuHorner (fn seg x : Nat) : Nat → Nat → Nat
  | 0, acc => acc
  | d + 1, acc => sfuHorner fn seg x d (f32Fma acc x (Config.sfuCoef fn seg d).toNat)

/-- The polynomial of a function at a reduced argument. -/
def sfuPoly (fn x : Nat) : Nat :=
  let d := (sfuShape fn).2
  let seg := sfuSegment fn x
  sfuHorner fn seg x d (Config.sfuCoef fn seg d).toNat

/-- FP32 code of an integer. -/
def f32OfInt (n : Int) : Nat := toF32 (.fin (decide (n < 0)) n.natAbs 0)

/-- A value times a power of two, rounded once. -/
def f32Scale (x : Nat) (n : Int) : Nat := toF32 (numMul (f32 x) (.fin false 1 n))

/-- A finite nonzero magnitude as `m × 2^e` with `m` in [1, 2): the FP32 code of m, and e. -/
def f32Split (m : Nat) (e : Int) : Nat × Int :=
  let k := exponentOf m e
  (toF32 (.fin false m (e - k)), k)

/-- exp of a finite value. -/
def sfuExp (x : Nat) : Nat :=
  match f32 x with
  | .fin neg m e =>
    if numLt (.fin false 887228 0) (numMul (.fin neg m e) (.fin false 10000 0)) then infCode fFP32 false
    else if numLt (numMul (.fin neg m e) (.fin false 10000 0)) (.fin true 1039721 0) then 0
    else if m = 0 then 0x3F800000
    else
      let n : Int := match f32 (f32Mul x (Config.sfuConst 0).toNat) with
        | .fin s a b => let k : Int := (roundTo 0 s a b 0 : Nat); if s then -k else k
        | _ => 0
      let nf := f32Neg (f32OfInt n)
      let r := f32Fma nf (Config.sfuConst 2).toNat (f32Fma nf (Config.sfuConst 1).toNat x)
      f32Scale (sfuPoly 0 r) n
  | .inf neg => if neg then 0 else infCode fFP32 false
  | .nan => canonNan fFP32

/-- A special function 0 to 6 on an FP32 value (R88, R89). -/
def sfuEval (fn x : Nat) : Nat :=
  let inf (neg : Bool) : Nat := infCode fFP32 neg
  let nan := canonNan fFP32
  let one := 0x3F800000
  match fn, f32 x with
  | _, .nan => nan
  | 0, _ => sfuExp x
  | 1, .inf neg => if neg then nan else inf false
  | 1, .fin neg m e =>
    if m = 0 then inf true else if neg then nan
    else let (p, k) := f32Split m e; f32Fma (f32OfInt k) (Config.sfuConst 3).toNat (sfuPoly 1 p)
  | 2, .inf neg => if neg then 0x80000000 else 0
  | 2, .fin neg m e =>
    if m = 0 then inf neg
    else let (p, k) := f32Split m e; let y := f32Scale (sfuPoly 2 p) (-k); if neg then f32Neg y else y
  | 3, .inf neg => if neg then nan else 0
  | 3, .fin neg m e =>
    if m = 0 then inf neg else if neg then nan
    else
      let k := exponentOf m e
      let h := k / 2
      f32Scale (sfuPoly 3 (toF32 (.fin false m (e - 2 * h)))) (-h)
  | 4, .inf neg => if neg then 0 else one
  | 4, .fin neg m e =>
    if m = 0 then 0x3F000000
    else if numLt (.fin false m e) (.fin false 16 0) then sfuPoly 4 x
    else if neg then sfuExp x else f32Sub one (sfuExp (f32Neg x))
  | 5, .inf neg => if neg then 0xBF800000 else one
  | 5, .fin neg m e =>
    if m = 0 then x % 2 ^ 32
    else if numLt (.fin false m e) (.fin false 1 (-12)) then x % 2 ^ 32
    else if numLt (.fin false m e) (.fin false 9 0) then
      (if neg then f32Neg (sfuPoly 5 (f32Neg x)) else sfuPoly 5 x)
    else if neg then 0xBF800000 else one
  | 6, .inf neg => if neg then 0x80000000 else inf false
  | 6, .fin neg m e =>
    if m = 0 then x % 2 ^ 32
    else if numLt (.fin false m e) (.fin false 6 0) then f32Mul x (sfuPoly 6 x)
    else if neg then 0x80000000 else x % 2 ^ 32
  | _, _ => nan

/-- ACL_SFU_COEF for a selection: VALID at bit 32 and the value. -/
def sfuTable (fn seg coef : Nat) : Nat :=
  if fn = 7 then (if seg ≤ 3 ∧ coef = 0 then 2 ^ 32 + (Config.sfuConst seg).toNat else 0)
  else
    let (n, d) := sfuShape fn
    if seg < n ∧ coef ≤ d then 2 ^ 32 + (Config.sfuCoef fn seg coef).toNat else 0

/-- The operands that a VEC function reads, in order: 0 = X, 1 = Y, 2 = Z (R513). -/
def vecUses (fn : Nat) : List Nat :=
  match fn with
  | 3 | 9 => [0, 1, 2]
  | 6 | 7 | 11 => [0]
  | _ => [0, 1]

/-- One lane of a VEC function other than broadcast and conversion (R86, R510). -/
def vecLane (fn x y z : Nat) : Nat :=
  match fn with
  | 0 => f32Add x y
  | 1 => f32Sub x y
  | 2 => f32Mul x y
  | 3 => f32Fma x y z
  | 4 => f32Min x y
  | 5 => f32Max x y
  | 6 => f32Abs x
  | 7 => f32Neg x
  | 8 => if f32Lt x y then 0xFFFFFFFF else 0
  | _ => if x % 2 ^ 32 ≠ 0 then y else z

/-- The lane that broadcast reads: the index truncated, or lane 0 (R511). -/
def bcastLane (y : Nat) : Nat :=
  match f32Trunc y with
  | some k => if 0 ≤ k ∧ k ≤ 63 then k.toNat else 0
  | none => 0

end Sys2Proof.Machine
end

