-- ==== Sys2Proof/Machine/ACell.lean ====
section
/-!
DEFINITION. Meanings of the A-cell's commands (chapter 02, R144, R146, R510 to R518): consuming tokens, tiles, vector,
special-function, conversion and reduction steps, constants, loops and the end of the program.
-/

namespace Sys2Proof.Machine

/-! ### Faults of an A-cell (R95, R97) -/

/-- Unit codes of ACL_ERR_SITE. -/
def AclUnit.code : AclUnit → Nat
  | .mul => 0 | .align => 1 | .acc => 2 | .round => 3 | .vec => 4 | .sfu => 5 | .anchor => 6

def unitOPBUF : Nat := 7
def unitCHAIN : Nat := 8

/-- Record and log an A-cell fault of a unit; `bitNo` is its ACL_ERR bit. -/
def aclFault (k unit bitNo : Nat) (injected : Bool) (status : Status) : Act :=
  .dyn fun s => .seq
    (firstFault rACL_ERR_SITE 31 (keyErrBits k + place 10 7 unit + place 6 6 (b2n injected)))
    (incident { cls := .B, blk := blkACL, code := bitNo, status := status.code, tenant := s.siteTenant k,
                locus := keyLocus k, injected := injected })

/-- A residue or anchor mismatch of a unit (R95, R372). -/
def residueFault (k unit : Nat) (injected : Bool) : Act :=
  .seq (aclFault k unit unit injected .residueMismatch) (siteCause k rankRESIDUE)

/-- Count canonical NaN results and saturated elements (R82, R84, R85). -/
def countNanSat (nan sat : Nat) : Act := .seq (addFld rACL_CNT 63 32 nan) (addFld rACL_CNT 31 0 sat)

/-! ### The program (R146, R516, R517) -/

/-- The step word to run, if the program has not ended. -/
def ACell.word (a : ACell) : Option Nat := if a.ended then none else a.steps[a.pc]?

/-- Leave every loop whose body has been repeated enough, from the innermost out; `n` bounds the nesting. -/
def loopBack : Nat → Nat → List LoopSt → Nat × List LoopSt
  | 0, pc, ls => (pc, ls)
  | _ + 1, pc, [] => (pc, [])
  | n + 1, pc, l :: ls =>
    if pc = l.hi then
      if 1 < l.left then (l.lo, { l with left := l.left - 1, iter := l.iter + 1 } :: ls)
      else loopBack n pc ls
    else (pc, l :: ls)

/-- Go on to word `pc`. -/
def ACell.goto (a : ACell) (pc : Nat) : ACell :=
  let (p, ls) := loopBack (a.loops.length + 1) pc a.loops
  { a with pc := p, loops := ls }

/-- The step at the present word is done. -/
def nextStep (k : Nat) : Act := modAcell k (fun a => a.goto (a.pc + 1))

/-- A tile-count rule's word, if it is VALID (R144). -/
def ACell.rule (a : ACell) (r : Nat) : Option Nat :=
  if r = 0 then none else
    match a.acfg with
    | some w => let x := acRule w r; if ruValid x then some x else none
    | none => none

/-- Extent in a slot of the shape table of the load at a site (R112). -/
def State.extent (s : State) (k slot : Nat) : Nat :=
  match s.siteLoad k with
  | some h => (lget none (s.load h).shape slot).getD 0
  | none => 0

/-- ⌈n ÷ d⌉ if positive, else 0 (R113). -/
def posCeil (n : Int) (d : Nat) : Nat := if n ≤ 0 then 0 else (n.toNat + d - 1) / d

/-- Iterations of a LOOP: its COUNT, or what its rule gives, never beyond COUNT (R113, R146). -/
def State.loopCount (s : State) (k w : Nat) : Nat :=
  match (s.acell k).rule (loRule w) with
  | some r => min (loCount w)
      (posCeil ((s.extent k (ruExtSlot r) : Int) - ruOrigin r - ruOffset r) (ruStep r))
  | none => loCount w

/-! ### Reading operands (R47, R146) -/

/-- A token of a constant or lane register: token `t` of a lane register is its lanes 16 (t mod 4) on. -/
def State.regTok (s : State) (k sel t : Nat) : Nat × Bool :=
  if 64 ≤ sel ∧ sel < 80 then (fmtPack fFP32 (List.replicate 16 (lget 0 (s.acell k).consts (sel - 64))), false)
  else if 80 ≤ sel ∧ sel < 96 then
    (fmtPack fFP32 ((List.range 16).map (fun i => s.lane (k * 1024 + (sel - 80) * 64 + 16 * (t % 4) + i))),
      s.laneBad (k * 64 + (sel - 80) * 4 + t % 4))
  else (0, false)

/-- Token `i` of a stream in the operand buffer: payload and poison. -/
def State.bufTok (s : State) (k st i : Nat) : Nat × Bool :=
  match (s.got (k * 64 + st))[i]? with
  | some t => (t.payload.toNat, Tok.poison t)
  | none => (0, false)

/-- Reads of a step: selector and number of tokens, in reading order. -/
abbrev Reads := List (Nat × Nat)

/-- Tokens that the reads take from a selector. -/
def readCount (rs : Reads) (sel : Nat) : Nat := ((rs.filter (fun r => decide (r.1 = sel))).map (fun r => r.2)).sum

/-- Every stream holds what the reads take. -/
def State.readsWhole (s : State) (k : Nat) (rs : Reads) : Bool :=
  rs.all (fun r => decide (63 ≤ r.1) || decide (readCount rs r.1 ≤ (s.got (k * 64 + r.1)).length))

/-- The tokens of each read. -/
def State.readAll (s : State) (k : Nat) : Reads → Reads → List (List (Nat × Bool))
  | [], _ => []
  | (sel, n) :: rest, before =>
    (List.range n).map (fun i => if sel < 63 then s.bufTok k sel (readCount before sel + i) else s.regTok k sel i)
      :: s.readAll k rest ((sel, n) :: before)

/-- Take the read tokens out of the operand buffer. -/
def dropReads (k : Nat) (rs : Reads) : Act :=
  each (dedup ((rs.map (fun r => r.1)).filter (fun x => decide (x < 63)))) (fun st =>
    modGot (k * 64 + st) (fun q => q.drop (readCount rs st)))

/-- Elements of tokens with their poison. -/
def elemsOf (f : Nat) (toks : List (Nat × Bool)) : List (Nat × Bool) :=
  toks.flatMap (fun (p, q) => (fmtUnpack f p).map (fun e => (e, q)))

/-! ### Writing results -/

/-- Tokens of a list of element codes with their poison. -/
def packToks (f : Nat) : Nat → List (Nat × Bool) → List (Nat × Bool)
  | 0, _ => []
  | n + 1, xs =>
    let h := xs.take (fmtPer f)
    (fmtPack f (h.map (fun p => p.1)), h.any (fun p => p.2)) :: packToks f n (xs.drop (fmtPer f))

/-- Tokens of a whole result. -/
def toToks (f : Nat) (xs : List (Nat × Bool)) : List (Nat × Bool) := packToks f (cdiv xs.length (fmtPer f)) xs

/-- Send result tokens to a selector: a stream, with LAST on the last; a lane register; a constant register, which
keeps lane 0; or none. -/
def putToks (k sel : Nat) (toks : List (Nat × Bool)) : Act :=
  each ((List.range toks.length).zip toks) (fun (t, (p, q)) =>
    if sel < 63 then .dyn fun s =>
      cellPut k sel (Tok.make p (decide (t + 1 = toks.length)) kindData sel (s.acell k).epoch q)
    else if 80 ≤ sel ∧ sel < 96 then
      .seq (each (List.range 16) (fun i =>
          .upd (.lane (k * 1024 + (sel - 80) * 64 + 16 * (t % 4) + i) (fmtElem fFP32 p i))))
        (.upd (.laneBad (k * 64 + (sel - 80) * 4 + t % 4) q))
    else if 64 ≤ sel ∧ sel < 80 then modAcell k (fun a => { a with consts := lset a.consts (sel - 64) (p % 2 ^ 32) })
    else .nop)

/-! ### Tiles (R56 to R79, R120, R121, R144) -/

/-- The arithmetic settings of a tile step. -/
structure TileCfg where
  fa : Nat
  fb : Nat
  fo : Nat
  mode : Nat
  ftz : Bool
  m : Nat
  n : Nat
  kk : Nat
  /-- TALL or WIDE: run as quarters; TALL holds B, WIDE holds A -/
  quart : Bool
  tall : Bool
  smA : Nat
  smB : Nat
  chain : Nat
  deriving DecidableEq, Repr

/-- The settings of an ACFG token. -/
def tileCfg (w : Nat) : TileCfg :=
  let (m, n, k) := (tileShape (acTile w)).getD (64, 64, 256)
  { fa := acFmtA w, fb := acFmtB w, fo := acFmtOut w, mode := acRound w, ftz := acFtz w, m := m, n := n, kk := k,
    quart := decide (acTile w = 1) || decide (acTile w = 2), tall := decide (acTile w = 1),
    smA := acSmodeA w, smB := acSmodeB w, chain := acChain w }

/-- Scale tokens of an operand of `rows` rows and depth `k` (R62, R63, R65). -/
def scaleTokens (f sm rows k : Nat) : Nat :=
  if fmtIsMx f then cdiv (rows * (k / 32)) 64 else if fmtIsInt f then (if sm = 0 then 1 else cdiv rows 16) else 0

/-- Element tokens of an operand. -/
def elemTokens (f rows k : Nat) : Nat := cdiv (rows * k) (fmtPer f)

/-- One operand of a tile as read: elements by row, scale codes by row (MX), FP32 scale by row (integers), poison by
row. -/
structure Side where
  rows : List (List Nat)
  xs : List (List Nat)
  isc : List Num
  bad : List Bool

/-- Cut a list into `n` rows of `w`. -/
def chop {α : Type} (w : Nat) : Nat → List α → List (List α)
  | 0, _ => []
  | n + 1, xs => xs.take w :: chop w n (xs.drop w)

/-- An operand from its scale and element tokens. -/
def sideOf (f sm rows k : Nat) (scales elems : List (Nat × Bool)) : Side :=
  let es := chop k rows (elemsOf f elems)
  let nb := k / 32
  let sx := if fmtIsMx f then chop nb rows (elemsOf fINT8 scales) else []
  let si := if fmtIsInt f then elemsOf fFP32 scales else []
  let per (r : Nat) : Nat × Bool := lget (0, false) si (if sm = 0 then 0 else r)
  { rows := es.map (fun r => r.map (fun p => p.1)),
    xs := if fmtIsMx f then sx.map (fun r => r.map (fun p => p.1)) else List.replicate rows [],
    isc := if fmtIsInt f then (List.range rows).map (fun r => f32 (per r).1) else List.replicate rows (.fin false 1 0),
    bad := (List.range rows).map (fun r =>
      (lget [] es r).any (fun p => p.2) || (lget [] sx r).any (fun p => p.2) || (fmtIsInt f && (per r).2)) }

/-- The value of an element under its block's scale code: NaN when that is 0xFF (R61). -/
def elemVal (f : Nat) (xs : List Nat) (i x : Nat) : Num :=
  if fmtIsMx f && decide (lget 0 xs (i / 32) = 255) then .nan else fmtDecode f x

/-- The products of one row and one column added into an entry (R66 to R72). -/
def dotAcc (c : TileCfg) (a : Acc) (ra rb xa xb : List Nat) : Acc :=
  let mx := fmtIsMx c.fa
  let a := accRealign a (if mx then anchorOf c.fa c.fb xa xb else 112)
  let a := { a with nan := a.nan || (mx && nanBlock xa xb) }
  ((List.range ra.length).zip (ra.zip rb)).foldl (fun a (i, (x, y)) =>
    accAdd a (elemVal c.fa xa i x) (elemVal c.fb xb i y)
      (if mx then ((lget 0 xa (i / 32) : Nat) : Int) + ((lget 0 xb (i / 32) : Nat) : Int) - 254 else 0)) a

/-- Key of accumulator entry `e` of a bank. -/
def accKey (k bank e : Nat) : Nat := k * 8192 + bank * 4096 + e

/-- Run the K-loop of a tile (or of one quarter) into the bank in use: every position, outside the tensor too (R116). -/
def macTile (k : Nat) (c : TileCfg) (a b : Side) : Act :=
  .dyn fun s =>
    let bank := (s.acell k).bank
    let cols := b.rows.length
    each (((List.range a.rows.length).zip a.rows).flatMap (fun (i, ra) =>
        ((List.range cols).zip b.rows).map (fun (j, rb) => (i, j, ra, rb)))) (fun (i, j, ra, rb) =>
      let key := accKey k bank (i * cols + j)
      if fmtIs16 c.fa then modRun16At key (fun r => run16 c.fa c.ftz (c.kk / 8) r ra rb)
      else modAcc key (fun x => dotAcc c x ra rb (lget [] a.xs i) (lget [] b.xs j)))

/-- Entries that depend on a poisoned row or column (R30, R55). -/
def badEntries (a b : Side) : List Nat :=
  let cols := b.rows.length
  ((List.range a.bad.length).zip a.bad).flatMap (fun (i, p) =>
    ((List.range cols).zip b.bad).filterMap (fun (j, q) => if p || q then some (i * cols + j) else none))

/-- The results of the bank in use, `rows × cols` entries, sent to `out` (R73 to R75, R78, R366); the other bank is in
use from then on (R56). -/
def tileOut (k : Nat) (c : TileCfg) (out : Nat) (pout : Bool) (a b : Side) (n : Nat) : Act :=
  .dyn fun s =>
    let ac := s.acell k
    let h16 := fmtIs16 c.fa
    let part := pout || decide (c.fo = fPARTIAL)
    let cols := b.rows.length
    let f := if part then (if h16 then fFP32 else fPARTIAL) else c.fo
    let val (e : Nat) : Nat :=
      let key := accKey k ac.bank e
      if h16 then
        (if part || decide (c.fo = fFP32) then s.run16At key
         else flush c.fo c.ftz (fpEncode c.fo c.mode (f32 (s.run16At key))))
      else if part then accToPartial (s.acc key)
      else if c.fo = fINT32 then accInt32 (s.acc key)
      else if fmtIsInt c.fa then
        accFinishInt c.fo c.mode (s.acc key) (lget .nan a.isc (e / cols)) (lget .nan b.isc (e % cols))
      else accFinish c.fo c.mode (s.acc key)
    let vals := (List.range n).map (fun e => (val e, ac.chainBad || ac.poison.contains e))
    let nans := if part || decide (c.fo = fINT32) then 0
      else (vals.filter (fun p => decide (p.1 = canonNan c.fo))).length
    seqs [
      putToks k out (toToks f vals),
      countNanSat nans 0,
      each (List.range n) (fun e => .seq (.upd (.acc (accKey k ac.bank e) {})) (.upd (.run16At (accKey k ac.bank e) 0))),
      modAcell k (fun x => { x with bank := 1 - x.bank, poison := [] })]

/-- PARTIAL tokens that a PIN reads: the whole tile's entries (R75, R78). -/
def pinTokens (c : TileCfg) : Nat := cdiv (c.m * c.n) (if fmtIs16 c.fa then 16 else 3)

/-- Reads of the tile step `w` in its present phase: the PARTIAL input; the scales of A and B, then their elements; for
a TALL or WIDE tile the held operand, and then each quarter's streamed operand (R65, R121). -/
def tileReads (c : TileCfg) (a : ACell) (w : Nat) : Reads :=
  if c.quart then
    let held : Reads := if c.tall then
        [(tiXB w, scaleTokens c.fb c.smB c.n c.kk), (tiSB w, elemTokens c.fb c.n c.kk)]
      else [(tiXA w, scaleTokens c.fa c.smA c.m c.kk), (tiSA w, elemTokens c.fa c.m c.kk)]
    let piece : Reads := if c.tall then
        [(tiXA w, scaleTokens c.fa c.smA 64 c.kk), (tiSA w, elemTokens c.fa 64 c.kk)]
      else [(tiXB w, scaleTokens c.fb c.smB 64 c.kk), (tiSB w, elemTokens c.fb 64 c.kk)]
    if a.piece = 0 then held else piece
  else
    (if tiPin w = selNone then [] else [(tiPin w, pinTokens c)]) ++
      [(tiXA w, scaleTokens c.fa c.smA c.m c.kk), (tiXB w, scaleTokens c.fb c.smB c.n c.kk),
       (tiSA w, elemTokens c.fa c.m c.kk), (tiSB w, elemTokens c.fb c.n c.kk)]

/-- Units checked by a tile: those of R93 and R94 that work in it. -/
def tileUnits (c : TileCfg) (a : ACell) (final : Bool) : List Nat :=
  [0, 1, 2] ++ (if !fmtIs16 c.fa && (final || decide (0 < a.chainTiles)) then [3] else [])
    ++ (if fmtIs16 c.fa then [] else [6])

/-- A mismatch that the hardware found, or the armed injection if its unit works now (R95, R98). -/
def checkUnits (k : Nat) (units : List Nat) (found : Option Nat) : Act :=
  .dyn fun s =>
    let inj := (s.acell k).inj
    .seq
      (match inj with
        | some u => when' (units.contains u) (seqs [residueFault k u true,
            modAcell k (fun a => { a with inj := none, chainBad := true })])
        | none => .nop)
      (withSome found (fun u => .seq (residueFault k u false) (modAcell k (fun a => { a with chainBad := true }))))

/-- The chain is over: its poison, its held operands and its count go. -/
def closeChain (k : Nat) : Act :=
  modAcell k (fun a => { a with chainOpen := false, chainLen := 0, chainTiles := 0, chainBad := false, poison := [], heldOps := [], piece := 0 })

/-- The tile step is done: one more tile completed (R138), and the next step word. -/
def tileDone (k : Nat) : Act := .seq (modAcell k (fun a => { a with tile := none, tiles := a.tiles + 1 })) (nextStep k)

/-- The K-tile would carry the chain beyond its declared length: TILE_OVERFLOW (R70, R126). -/
def chainOverflow (k : Nat) : Act :=
  .dyn fun s => .seq (aclFault k unitCHAIN 9 false .tileOverflow)
    (withSome (s.siteLoad k) (fun h => endWith h rankOVERFLOW))

/-- Held tokens as numbers: poison at bit 512. -/
def packHeld (ts : List (Nat × Bool)) : List Nat := ts.map (fun (p, q) => p + 2 ^ 512 * b2n q)
def unpackHeld (ts : List Nat) : List (Nat × Bool) := ts.map (fun x => (x % 2 ^ 512, x.testBit 512))

/-- One whole tile that is not TALL or WIDE (R56, R66 to R79). -/
def tileWhole (k w : Nat) (c : TileCfg) (found : Option Nat) : Act :=
  .dyn fun s =>
    let a := s.acell k
    let rs := tileReads c a w
    let ts := s.readAll k rs []
    let pin := decide (tiPin w ≠ selNone)
    let o := if pin then 1 else 0
    let sa := sideOf c.fa c.smA c.m c.kk (lget [] ts o) (lget [] ts (o + 2))
    let sb := sideOf c.fb c.smB c.n c.kk (lget [] ts (o + 1)) (lget [] ts (o + 3))
    let fresh := pin || !a.chainOpen
    let final := decide (tiOut w ≠ selNone)
    let pins := if pin then (elemsOf (if fmtIs16 c.fa then fFP32 else fPARTIAL) (lget [] ts 0)).take (c.m * c.n) else []
    if c.chain < (if fresh then 0 else a.chainLen) + c.kk then chainOverflow k
    else seqs [
      dropReads k rs,
      when' fresh (seqs [
        closeChain k,
        each ((List.range (c.m * c.n)).map (accKey k a.bank)) (fun key =>
          .seq (.upd (.acc key {})) (.upd (.run16At key 0))),
        each ((List.range pins.length).zip pins) (fun (e, (v, _)) =>
          if fmtIs16 c.fa then .upd (.run16At (accKey k a.bank e) v)
          else .upd (.acc (accKey k a.bank e) (accFromPartial v)))]),
      macTile k c sa sb,
      checkUnits k (tileUnits c a (final && !tiPout w)) found,
      modAcell k (fun x => { x with
        chainOpen := true, chainLen := x.chainLen + c.kk, chainTiles := x.chainTiles + 1,
        poison := dedup (x.poison ++ badEntries sa sb
          ++ ((List.range pins.length).zip pins).filterMap (fun (e, (_, q)) => if q then some e else none)) }),
      when' final (.seq (tileOut k c (tiOut w) (tiPout w) sa sb (c.m * c.n)) (closeChain k)),
      tileDone k]

/-- The held operand of one K-tile of a TALL or WIDE chain arrives (R121). -/
def tileHold (k w : Nat) (c : TileCfg) : Act :=
  .dyn fun s =>
    let a := s.acell k
    let rs := tileReads c a w
    let ts := s.readAll k rs []
    if c.chain < a.chainLen + c.kk then chainOverflow k
    else seqs [
      dropReads k rs,
      modAcell k (fun x => { x with
        chainOpen := true, chainLen := x.chainLen + c.kk, chainTiles := x.chainTiles + 1,
        heldOps := x.heldOps ++ [packHeld (lget [] ts 0), packHeld (lget [] ts 1)],
        piece := if tiOut w = selNone then 0 else 1 }),
      when' (decide (tiOut w = selNone)) (tileDone k)]

/-- One K-tile of one quarter of a TALL or WIDE chain; the quarter's results leave after its last K-tile (R121). -/
def tilePiece (k w : Nat) (c : TileCfg) (found : Option Nat) : Act :=
  .dyn fun s =>
    let a := s.acell k
    let rs := tileReads c a w
    let ts := s.readAll k rs []
    let kt := (a.piece - 1) % a.chainTiles
    let q := (a.piece - 1) / a.chainTiles
    let hs := unpackHeld (lget [] a.heldOps (2 * kt))
    let he := unpackHeld (lget [] a.heldOps (2 * kt + 1))
    let sa := if c.tall then sideOf c.fa c.smA 64 c.kk (lget [] ts 0) (lget [] ts 1) else sideOf c.fa c.smA c.m c.kk hs he
    let sb := if c.tall then sideOf c.fb c.smB c.n c.kk hs he else sideOf c.fb c.smB 64 c.kk (lget [] ts 0) (lget [] ts 1)
    let last := decide (kt + 1 = a.chainTiles)
    seqs [
      dropReads k rs,
      macTile k c sa sb,
      checkUnits k (tileUnits c a last) found,
      modAcell k (fun x => { x with piece := x.piece + 1, poison := dedup (x.poison ++ badEntries sa sb) }),
      when' last (tileOut k c (tiOut w) false sa sb 4096),
      when' (last && decide (q = 3)) (.seq (closeChain k) (tileDone k))]

/-- The reads of an A-cell's present step: what it still takes from its streams (R47). -/
def ACell.reads (a : ACell) : Reads :=
  match a.word with
  | none => []
  | some w =>
    if opOf w = opTILE then
      match a.acfg with
      | some cw => tileReads (tileCfg cw) a w
      | none => []
    else if opOf w = opVEC then (vecUses (veFn w)).map (fun u => (lget 0 [veX w, veY w, veZ w] u, veN w))
    else if opOf w = opSFU then [(sfX w, sfN w)]
    else if opOf w = opCONV then [(cvX w, cvN w)]
    else if opOf w = opREDUCE then [(reX w, reN w)]
    else []

/-- The A-cell may run a step now: it stands, has a command, and its bay runs. -/
def State.aRuns (s : State) (k op : Nat) : Option Nat :=
  let a := s.acell k
  if keyIsA k && !a.stopped && (s.bay (keyBay k)).passes then
    match a.word with
    | some w => if opOf w = op then some w else none
    | none => none
  else none

/-- TILE: the step is issued; it runs when its operands are whole (row TILE_START). Without an ACFG token it does
nothing. -/
def tileA (k : Nat) : Act :=
  .dyn fun s => withSome (s.aRuns k opTILE) fun w =>
    if (s.acell k).tile.isSome then .nop
    else if (s.acell k).acfg.isSome then modAcell k (fun a => { a with tile := some w })
    else nextStep k

/-- TILE (R146). -/
def execTile (site : Site) (s : State) : Host.Outcome State Fault Refusal := .next (run (tileA (siteKey site)) s)

/-- TILE_START: with all operands and scales whole in the operand buffer, the tile runs (R56, R91). `mismatch` is a
residue or anchor mismatch that the hardware found. -/
def tileStartA (k : Nat) (mismatch : Option AclUnit) : Act :=
  .dyn fun s =>
    let a := s.acell k
    withSome (s.aRuns k opTILE) fun w => withSome a.acfg fun cw =>
      let c := tileCfg cw
      if a.tile.isSome && s.readsWhole k (tileReads c a w) then
        if !c.quart then tileWhole k w c (mismatch.map AclUnit.code)
        else if a.piece = 0 then tileHold k w c
        else tilePiece k w c (mismatch.map AclUnit.code)
      else .nop

/-- TILE_START (R56, R66 to R79, R91, R93 to R95). -/
def execTileStart (site : Site) (mismatch : Option AclUnit) (s : State) : Host.Outcome State Fault Refusal :=
  .next (run (tileStartA (siteKey site) mismatch) s)

/-! ### Vector, special-function, conversion and reduction steps -/

/-- The armed injection of a unit, or a mismatch that the hardware found: its result tokens are poisoned (R95, R98). -/
def State.stepBad (s : State) (k unit : Nat) (mismatch : Bool) : Bool :=
  mismatch || decide ((s.acell k).inj = some unit)

/-- Record the mismatch of a vector or special-function step. -/
def stepFault (k unit : Nat) (mismatch : Bool) : Act :=
  .dyn fun s => .seq
    (when' (decide ((s.acell k).inj = some unit))
      (.seq (residueFault k unit true) (modAcell k (fun a => { a with inj := none }))))
    (when' mismatch (residueFault k unit false))

/-- Poison every token when the step's check failed. -/
def poisonAll (b : Bool) (ts : List (Nat × Bool)) : List (Nat × Bool) := ts.map (fun (p, q) => (p, q || b))

/-- Number of canonical FP32 NaN elements in result tokens. -/
def nanCount (f : Nat) (ts : List (Nat × Bool)) : Nat :=
  (ts.map (fun (p, _) => ((fmtUnpack f p).filter (fun x => decide (x = canonNan f))).length)).sum

/-- Token `t` of operand `u` of a VEC step: operands on one stream take its tokens in turn (R47, R513). -/
def State.vecTok (s : State) (k : Nat) (sels : List Nat) (u t : Nat) : Nat × Bool :=
  let sel := lget selNone sels u
  if sel < 63 then
    let m := (sels.filter (fun x => decide (x = sel))).length
    let p := ((sels.take u).filter (fun x => decide (x = sel))).length
    s.bufTok k sel (t * m + p)
  else s.regTok k sel t

/-- Result tokens of token `t` of a VEC step. -/
def State.vecOut (s : State) (k w : Nat) (sels : List Nat) (t : Nat) : List (Nat × Bool) :=
  let fn := veFn w
  let us := (List.range sels.length).map (fun u => s.vecTok k sels u t)
  let x := lget (0, false) us 0
  let bad := us.any (fun p => p.2)
  if fn = 11 then
    let vals := (fmtUnpack (veZ w % 16) x.1).map (convToF32 (veZ w % 16))
    (toToks fFP32 (vals.map (fun v => (v, false)))).map (fun (p, _) => (p, bad))
  else if fn = 10 then
    let y := fmtElem fFP32 (lget (0, false) us 1).1 0
    let lane := bcastLane y
    let v := if 80 ≤ veX w ∧ veX w < 96 then s.lane (k * 1024 + (veX w - 80) * 64 + lane)
      else fmtElem fFP32 x.1 (if lane < 16 then lane else 0)
    [(fmtPack fFP32 (List.replicate 16 v), bad)]
  else
    let ys := fmtUnpack fFP32 (lget (0, false) us 1).1
    let zs := fmtUnpack fFP32 (lget (0, false) us 2).1
    [(fmtPack fFP32 ((List.range 16).map (fun i =>
        vecLane fn (fmtElem fFP32 x.1 i) (lget 0 ys i) (lget 0 zs i))), bad)]

/-- VEC: N tokens of a vector function, once every stream operand holds them. -/
def vecA (k : Nat) (mismatch : Bool) : Act :=
  .dyn fun s => withSome (s.aRuns k opVEC) fun w =>
    let rs := (s.acell k).reads
    if s.readsWhole k rs then
      let sels := rs.map (fun r => r.1)
      let out := poisonAll (s.stepBad k 4 mismatch) ((List.range (veN w)).flatMap (s.vecOut k w sels))
      seqs [dropReads k rs, stepFault k 4 mismatch, putToks k (veOut w) out, countNanSat (nanCount fFP32 out) 0, nextStep k]
    else .nop

/-- VEC (R86, R93, R95, R510 to R513). -/
def execVec (site : Site) (mismatch : Bool) (s : State) : Host.Outcome State Fault Refusal :=
  .next (run (vecA (siteKey site) mismatch) s)

/-- SFU: N tokens through a special function; its checks are those of the vector unit too (Table 2.8). -/
def sfuA (k : Nat) (mismatch : Bool) : Act :=
  .dyn fun s => withSome (s.aRuns k opSFU) fun w =>
    let rs := (s.acell k).reads
    if s.readsWhole k rs then
      let ins := lget [] (s.readAll k rs []) 0
      let out := poisonAll (s.stepBad k 5 mismatch) (ins.map (fun (p, q) =>
        (fmtPack fFP32 ((fmtUnpack fFP32 p).map (sfuEval (sfFn w))), q)))
      seqs [dropReads k rs, stepFault k 5 mismatch, putToks k (sfOut w) out, countNanSat (nanCount fFP32 out) 0, nextStep k]
    else .nop

/-- SFU (R88 to R90, R93, R95). -/
def execSfu (site : Site) (mismatch : Bool) (s : State) : Host.Outcome State Fault Refusal :=
  .next (run (sfuA (siteKey site) mismatch) s)

/-- Validity of the values of a CONV step: from the innermost loop that has a tile-count rule, value i of iteration t
lying at ORIGIN + t × STEP + i of that rule's extent (R119; assumption log 23). -/
def State.convValid (s : State) (k n : Nat) : List Bool :=
  let a := s.acell k
  match (a.loops.filterMap (fun l => (a.rule l.rule).map (fun r => (r, l.iter)))).head? with
  | some (r, t) =>
    (List.range n).map (fun i =>
      let x : Int := ruOrigin r + ((t * ruStep r + i : Nat) : Int)
      decide (0 ≤ x) && decide (x < (s.extent k (ruExtSlot r) : Int)))
  | none => List.replicate n true

/-- Blocks of 32 of a list. -/
def blocks32 {α : Type} (xs : List α) : List (List α) := chop 32 (cdiv xs.length 32) xs

/-- Result tokens, NaN count and saturated count of a conversion (R83 to R85, R118, R518): for an MX type every scale
token before the first element token. -/
def convOut (f mode r : Nat) (vals : List (Nat × Bool)) (valid : List Bool) : List (Nat × Bool) × Nat × Nat :=
  if fmtIsMx f then
    let bs := (blocks32 vals).zip (blocks32 valid)
    let rs := bs.map (fun (v, ok) =>
      (mxBlock f mode (v.map (fun (p : Nat × Bool) => p.1)) ok, v.any (fun (p : Nat × Bool) => p.2), v.length))
    let scales := rs.map (fun (x, q, _) => (x.1, q))
    let elems := rs.flatMap (fun (x, q, n) => (x.2.1.take n).map (fun e => (e, q)))
    (toToks fINT8 scales ++ toToks f elems, (rs.map (fun (x, _, _) => x.2.2.2)).sum, (rs.map (fun (x, _, _) => x.2.2.1)).sum)
  else if fmtIsInt f then
    let xs := vals.map (fun (v, q) => (intQuant f mode r v, q))
    (toToks f (xs.map (fun (x, q) => (x.1, q))), 0, (xs.filter (fun (x, _) => x.2)).length)
  else
    let xs := vals.map (fun (v, q) => (fpEncode f mode (f32 v), q))
    let ts := toToks f xs
    (ts, (xs.filter (fun p => decide (p.1 = canonNan f))).length, 0)

/-- CONV: N tokens of FP32 converted to a format. INT32 and PARTIAL name no conversion: the step takes its tokens and
sends nothing (assumption log 24). -/
def convA (k : Nat) : Act :=
  .dyn fun s => withSome (s.aRuns k opCONV) fun w =>
    let rs := (s.acell k).reads
    if s.readsWhole k rs then
      let f := cvFmt w
      let mode := match (s.acell k).acfg with
        | some c => acRound c
        | none => 0
      let vals := elemsOf fFP32 (lget [] (s.readAll k rs []) 0)
      let (out, nan, sat) := convOut f mode (lget 0 (s.acell k).consts (cvC w)) vals (s.convValid k vals.length)
      if f = fINT32 ∨ fPARTIAL ≤ f then .seq (dropReads k rs) (nextStep k)
      else seqs [dropReads k rs, stepFault k 4 false, putToks k (cvOut w) (poisonAll (s.stepBad k 4 false) out),
        countNanSat nan sat, nextStep k]
    else .nop

/-- CONV (R83 to R85, R118, R119, R518). -/
def execConv (site : Site) (s : State) : Host.Outcome State Fault Refusal := .next (run (convA (siteKey site)) s)

/-- The running value over the trees of the tokens, in stream order (R87); none for no token. -/
def reduceRun (fn : Nat) (ts : List (Nat × Bool)) : Option Nat :=
  let op := if fn = 0 then f32Add else f32Max
  ts.foldl (fun r (p, _) =>
    let t := reduceTree op 4 (fmtUnpack fFP32 p)
    some (match r with
      | none => t
      | some x => op x t)) none

/-- REDUCE: N tokens reduced to one value, sent in lane 0 of one token (R87; assumption log 25). -/
def reduceA (k : Nat) (mismatch : Bool) : Act :=
  .dyn fun s => withSome (s.aRuns k opREDUCE) fun w =>
    let rs := (s.acell k).reads
    if s.readsWhole k rs then
      let ins := lget [] (s.readAll k rs []) 0
      seqs [
        dropReads k rs,
        stepFault k 4 mismatch,
        withSome (reduceRun (reFn w) ins) (fun v => .seq
          (putToks k (reOut w) [(fmtPack fFP32 [v], s.stepBad k 4 mismatch || ins.any (fun p => p.2))])
          (countNanSat (b2n (decide (v = canonNan fFP32))) 0)),
        nextStep k]
    else .nop

/-- REDUCE (R87, R93, R95). -/
def execReduce (site : Site) (mismatch : Bool) (s : State) : Host.Outcome State Fault Refusal :=
  .next (run (reduceA (siteKey site) mismatch) s)

/-- CONST: a constant register takes an FP32 bit pattern. -/
def constA (k : Nat) : Act :=
  .dyn fun s => withSome (s.aRuns k opCONST) fun w =>
    .seq (modAcell k (fun a => { a with consts := lset a.consts (coReg w) (coVal w) })) (nextStep k)

/-- CONST (R146). -/
def execConstStep (site : Site) (s : State) : Host.Outcome State Fault Refusal := .next (run (constA (siteKey site)) s)

/-- LOOP: the body of LEN words runs COUNT times, or not at all. -/
def loopA (k : Nat) : Act :=
  .dyn fun s => withSome (s.aRuns k opLOOP) fun w =>
    let n := s.loopCount k w
    modAcell k (fun a =>
      if n = 0 ∨ loLen w = 0 then a.goto (a.pc + 1 + loLen w)
      else { a with
        pc := a.pc + 1,
        loops := { lo := a.pc + 1, hi := a.pc + 1 + loLen w, left := n, rule := loRule w } :: a.loops })

/-- LOOP (R113, R144, R517). -/
def execLoopStep (site : Site) (s : State) : Host.Outcome State Fault Refusal := .next (run (loopA (siteKey site)) s)

/-- END: past its last word the program is over for this command (R516). -/
def endA (k : Nat) : Act :=
  modAcell k (fun a => if !a.ended && decide (a.steps.length ≤ a.pc) then { a with ended := true, loops := [] } else a)

/-- END (R146, R516). -/
def execEndStep (site : Site) (s : State) : Host.Outcome State Fault Refusal := .next (run (endA (siteKey site)) s)

/-! ### Injection (R98) -/

/-- The A-cell is in an ALLOCATED bay, and the write names a site and a unit that exist. -/
def State.injOk (s : State) (v : Nat) : Bool :=
  let k := mkKey (bits 23 23 v) (bits 22 17 v) (bits 16 11 v)
  decide (bits 22 17 v < 40) && decide (bits 16 11 v < 32) && keyIsA k && decide (bits 10 7 v ≤ 6)
    && decide ((s.bay (keyBay k)).st = .allocated)

/-- A write to ACL_INJ. -/
def writeAclInj (v : Nat) : Act :=
  .dyn fun s =>
    if !v.testBit 63 then .nop
    else if s.injOk v then
      modAcell (mkKey (bits 23 23 v) (bits 22 17 v) (bits 16 11 v)) (fun a => { a with inj := some (bits 10 7 v) })
    else incA blkACL 0xFF rACL_INJ

/-- ACL_INJ (R98). -/
def execAclInj (v : Word) (s : State) : Host.Outcome State Fault Refusal := 
  .next (run (regDo (.aclInj v) rACL_INJ v.toNat writeAclInj) s)

end Sys2Proof.Machine
end

