-- ==== Sys2Proof/Machine/Arbiter.lean ====
section
/-!
DEFINITION. Shared-port arbiters (R231 to R241).
-/

namespace Sys2Proof.Machine

/-- Module time in cycles of the fixed 1.2 GHz clock (R233). -/
def State.cycle (s : State) : Nat := s.now * 6 / 5

/-- A user-class arbiter: its requesters are tenants (Table 6.4). -/
def arbUser (a : Nat) : Bool := decide (304 ≤ a)

/-- Requester numbers that an arbiter has (Tables 6.4, 6.5). -/
def arbHas (a r : Nat) : Bool := if arbUser a then decide (r < 64) else decide (r < 79)

def arbKey (a r : Nat) : Nat := a * 128 + r

/-- The closing bit of a user-class arbiter (R240). -/
def State.arbClosed (s : State) (a : Nat) : Bool :=
  (decide (a = 304) && s.flag rARB_CLOSE 0) || (decide (a = 305) && s.flag rARB_CLOSE 1)

/-- The tenant gets no new grant (R241). -/
def State.arbShut (s : State) (a r : Nat) : Bool := arbUser a && s.flag rARB_CLOSE_TEN r

/-- A requester is granted the port: its wait, if it lost before, is counted (R234, R239). -/
def arbGrant (a r : Nat) : Act :=
  .dyn fun s =>
    let q := s.arbReq (arbKey a r)
    let k := arbKey a r
    let w := match q.since with
      | some t => s.cycle - t
      | none => 0
    seqs [
      modArbiter a (fun x => { holder := some r, heirs := x.heirs.filter (fun h => decide (h ≠ r)) }),
      .upd (.arbReq k {}),
      when' (!arbUser a) (seqs [
        addFld rARB_GRANTS 47 0 1 k,
        addFld rARB_WAIT 63 0 w k,
        setFld rARB_WAIT_MAX 31 0 (max (s.fld rARB_WAIT_MAX 31 0 k) (sat 32 w)) k])]

/-- A presentation loses: one more loss, a back-off, and at its first loss a place in the heir list (R234, R235). -/
def arbLose (a r : Nat) : Act :=
  .dyn fun s => .seq
    (modArbReq (arbKey a r) (fun q => { losses := q.losses + 1, backing := true, since := some (q.since.getD s.cycle) }))
    (when' (!s.arbShut a r) (modArbiter a (fun x =>
      if x.heirs.contains r then x else { x with heirs := x.heirs ++ [r] })))

/-- The winner among requesters that present in one cycle, in number order (R234, R240, R241). -/
def State.arbWinner (s : State) (a : Nat) (rs : List Nat) : Option Nat :=
  let x := s.arbiter a
  if x.holder.isSome || s.arbClosed a then none
  else match x.heirs with
    | h :: _ => if rs.contains h && !s.arbShut a h then some h else none
    | [] => rs.find? (fun r => !s.arbShut a r)

/-- Requesters present in one cycle. One that backs off or holds the port does not present (R235). -/
def arbPresentA (a : Nat) (reqs : List Nat) : Act :=
  .dyn fun s =>
    let rs := (List.range 128).filter (fun r => reqs.contains r && arbHas a r && !(s.arbReq (arbKey a r)).backing
      && decide ((s.arbiter a).holder ≠ some r))
    let w := s.arbWinner a rs
    .seq (withSome w (arbGrant a)) (each (rs.filter (fun r => decide (w ≠ some r))) (arbLose a))

/-- ARB_PRESENT (R234). -/
def execArbPresent (arb : Fin 306) (reqs : List (Fin 128)) (s : State) : Host.Outcome State Fault Refusal :=
  .next (run (arbPresentA arb.val (reqs.map Fin.val)) s)

/-- ARB_BACKOFF_EXPIRE: the requester presents again (R235). -/
def arbAgainA (a r : Nat) : Act :=
  whenS (fun s => (s.arbReq (arbKey a r)).backing) (.seq
    (modArbReq (arbKey a r) (fun q => { q with backing := false })) (arbPresentA a [r]))

/-- ARB_BACKOFF_EXPIRE (R235). -/
def execArbBackoffExpire (arb : Fin 306) (req : Fin 128) (s : State) : Host.Outcome State Fault Refusal :=
  .next (run (arbAgainA arb.val req.val) s)

/-- ARB_DROP (R236). -/
def execArbDrop (arb : Fin 306) (s : State) : Host.Outcome State Fault Refusal :=
  .next (run (modArbiter arb.val (fun x => { x with holder := none })) s)

/-- Cycles of back-off after `n` consecutive losses (R235). -/
def backoff (n : Nat) : Nat := min (4 * 2 ^ (n - 1)) 1024

/-- ARB_CLOSE_WRITE (R240). -/
def execArbCloseWrite (v : Word) (s : State) : Host.Outcome State Fault Refusal :=
  .next (run (regDo (.arbCloseWrite v) rARB_CLOSE v.toNat (fun w => setReg rARB_CLOSE (w % 4))) s)

/-- ARB_CLOSE_TEN is written: the tenants leave both heir lists (R241). -/
def writeCloseTen (v : Nat) : Act :=
  .seq (setReg rARB_CLOSE_TEN v) (each [304, 305] (fun a =>
    modArbiter a (fun x => { x with heirs := x.heirs.filter (fun r => !v.testBit r) })))

/-- ARB_CLOSE_TEN_WRITE (R241). -/
def execArbCloseTenWrite (v : Word) (s : State) : Host.Outcome State Fault Refusal :=
  .next (run (regDo (.arbCloseTenWrite v) rARB_CLOSE_TEN v.toNat writeCloseTen) s)

/-- The three counters of one requester at one arbiter become zero. -/
def clearCount (k : Nat) : Act := seqs [setReg rARB_GRANTS 0 k, setReg rARB_WAIT 0 k, setReg rARB_WAIT_MAX 0 k]

/-- Every counter becomes zero. -/
def clearCounts : Act :=
  .dyn fun s => each (((tkeys s.regs).filter (fun k => decide (k % 2 ^ 24 = rARB_GRANTS) || decide (k % 2 ^ 24 = rARB_WAIT)
    || decide (k % 2 ^ 24 = rARB_WAIT_MAX))).map (fun k => k / 2 ^ 24)) clearCount

/-- The counters that ARB_SEL selects become zero. -/
def clearSelected : Act := .dyn fun s => clearCount (arbKey (s.fld rARB_SEL 24 16) (s.fld rARB_SEL 6 0))

/-- ARB_CNT_CLR_ALL (R239). -/
def execArbCntClrAll (s : State) : Host.Outcome State Fault Refusal := .next (run (bitDo (.arbCntClrAll) clearCounts) s)

/-- ARB_CNT_CLR_SEL (R239). -/
def execArbCntClrSel (s : State) : Host.Outcome State Fault Refusal := .next (run (bitDo (.arbCntClrSel) clearSelected) s)

end Sys2Proof.Machine
end

