-- ==== Sys2Proof/Machine/SCell.lean ====
section
/-!
DEFINITION. Meanings of the cells' input port and of the S-cells' commands (chapters 01 and 03): consuming tokens,
reading and writing SRAM lines, the walks of the address generators with clipping and scale passes, scrub and
injection.
-/

namespace Sys2Proof.Machine

/-! ### SRAM lines (R99 to R104) -/

/-- What a read of a line finds: the errors observed now together with what SCL_INJ flipped (R130). -/
def Line.finds (x : Line) (found : Found) : Found :=
  if 2 ≤ x.inj ∨ found = .uncorrectable then .uncorrectable
  else if x.inj = 1 then (if found = .corrected then .uncorrectable else .corrected)
  else found

/-- Count and log a corrected line (R100). -/
def lineCorrected (k : Nat) (injected : Bool) : Act :=
  .dyn fun s => .seq (addFld rSCL_CE_CNT 31 0 1)
    (incident { cls := .A, blk := blkSCL, code := 0, tenant := s.siteTenant k, locus := keyLocus k, injected := injected })

/-- An uncorrectable line found by a generator (R100, R104, R372). -/
def lineBad (k agent l : Nat) (injected : Bool) : Act :=
  .seq (sclFault k agent sclSRAMUE 0 l .B injected 0xFF) (siteCause k rankECC)

/-- Read line `l`: `f` gets its data and whether it is poisoned (R100, R101). -/
def readLine (k agent l : Nat) (found : Found) (f : Nat → Bool → Act) : Act :=
  .dyn fun s =>
    let x := s.line (k * 8192 + l)
    if x.poison then f 0 true
    else match x.finds found with
      | .clean => f x.data.toNat false
      | .corrected => seqs [
          lineCorrected k (decide (0 < x.inj)),
          modScell k (fun c => { c with writeBack := (c.writeBack.filter (fun y => decide (y ≠ l))) ++ [l] }),
          f x.data.toNat false]
      | .uncorrectable => .seq (lineBad k agent l (decide (0 < x.inj))) (f 0 true)

/-- Store a whole line; a write drops a correction write-back that waits for it (R100). -/
def storeLine (k l : Nat) (x : Line) : Act :=
  .seq (.upd (.line (k * 8192 + l) x))
    (modScell k (fun c => { c with writeBack := c.writeBack.filter (fun y => decide (y ≠ l)) }))

/-- All bits of a payload. -/
def allBits : Nat := 2 ^ 512 - 1

/-- Write the bits of `mask` of a line, whole or in part (R101, R104); only codewords that are covered in part are
read. -/
def writeLine (k agent l payload : Nat) (bad : Bool) (mask : Nat) (found : Found) : Act :=
  .dyn fun s =>
    let x := s.line (k * 8192 + l)
    if bad then storeLine k l { poison := true }
    else if mask = allBits then storeLine k l { data := BitVec.ofNat 512 payload }
    else if x.poison then .nop
    else
      let low := mask % 2 ^ 64
      let cut := (List.range 8).any (fun i =>
        let w := bits (64 * i + 63) (64 * i) mask
        decide (w ≠ 0) && decide (w ≠ 2 ^ 64 - 1))
      let y : Line := if low ≠ 0 ∧ low ≠ 2 ^ 64 - 1 then x else { x with inj := 0 }
      let next : Line := {
        data := BitVec.ofNat 512 ((x.data.toNat &&& (allBits - mask)) ||| (payload &&& mask)),
        inj := if low = 0 then x.inj else 0 }
      match y.finds (if cut then found else .clean) with
      | .clean => storeLine k l next
      | .corrected => .seq (lineCorrected k (decide (0 < y.inj))) (storeLine k l next)
      | .uncorrectable => .seq (lineBad k agent l (decide (0 < y.inj))) (storeLine k l { poison := true })

/-! ### Walks (R111, R113, R114) -/

/-- Iterations of level `l` in a command (R113); an unused level counts once. -/
def State.levelCount (s : State) (k p l : Nat) : Nat :=
  if agRuntime p l then
    let d := agDim p l
    let o := ((List.range 6).filter (fun m => decide (agTileLvl p ≤ m) && decide (m < l) && decide (agDim p m = d))).map
      (fun m => (agCount p m - 1) * agStep p m)
    posCeil ((s.extent k (agExtSlot p d) : Int) - agOrigin p d - ((o.sum : Nat) : Int)) (max 1 (agStep p l))
  else max 1 (agCount p l)

/-- The counts of all six levels. -/
def State.walkCounts (s : State) (k p : Nat) : List Nat := (List.range 6).map (s.levelCount k p)

/-- Tensor index of dimension `d` at a point of the walk (R111). -/
def walkIdx (p : Nat) (idx : List Nat) (d : Nat) : Int :=
  agOrigin p d + (((List.range 6).map (fun l => if agDim p l = d then lget 0 idx l * agStep p l else 0)).sum : Nat)

/-- Validity of each element of the token at a point of the walk (R114). -/
def State.walkValid (s : State) (k p : Nat) (idx : List Nat) : List Bool :=
  let ext (d : Nat) : Int := (s.extent k (agExtSlot p d) : Nat)
  let others := (List.range (agTopDim p + 1)).all (fun d =>
    decide (d = 0) || (decide (0 ≤ walkIdx p idx d) && decide (walkIdx p idx d < ext d)))
  (List.range (fmtPer (agFmt p))).map (fun e =>
    let x := walkIdx p idx 0 + ((e : Nat) : Int)
    others && decide (0 ≤ x) && decide (x < ext 0))

/-- The bits of a token payload that hold the valid elements (Table 2.4, R75). -/
def validMask (f : Nat) (valid : List Bool) : Nat :=
  fmtPack f (valid.map (fun v => if v then 2 ^ fmtBits f - 1 else 0))

/-- The next point of a walk, with the levels that wrapped counted from level 0; `none` when the walk is over. -/
def advance (counts : List Nat) : List Nat → Nat → Option (List Nat × Nat)
  | [], _ => none
  | i :: rest, l =>
    if i + 1 < lget 1 counts l then some ((i + 1) :: rest, l)
    else match advance counts rest (l + 1) with
      | some (r, w) => some (0 :: r, w)
      | none => none

/-- Points of one unclipped tile: the iterations of the levels below TILE_LVL. -/
def tilePoints (counts : List Nat) (p : Nat) : Nat := ((List.range (agTileLvl p)).map (fun l => lget 1 counts l)).foldl (· * ·) 1

/-- The point of the tile number `n` in walk order. -/
def tilePoint (counts : List Nat) (p : Nat) (idx : List Nat) (n : Nat) : List Nat :=
  let r := (List.range 6).foldl (fun (acc, q) l =>
    if l < agTileLvl p then (acc ++ [q % max 1 (lget 1 counts l)], q / max 1 (lget 1 counts l))
    else (acc ++ [lget 0 idx l], q)) (([], n) : List Nat × Nat)
  r.1

/-- The last point of a tile, which ends the transfer unit (R111). -/
def unitLast (counts : List Nat) (p : Nat) (idx : List Nat) : Bool :=
  (List.range (agTileLvl p)).all (fun l => decide (lget 0 idx l + 1 = lget 1 counts l))

/-- The first RUNTIME level whose index has reached its planned COUNT (R126). -/
def overPlan (p : Nat) (idx : List Nat) : Option Nat :=
  (List.range 6).find? (fun l => agRuntime p l && decide (agCount p l ≤ lget 0 idx l))

/-! ### Ring hand-over (R105, R106, R514) -/

/-- The generators of an S-cell with the programs that run in this load. -/
def SCell.programs (c : SCell) : List (Nat × Nat) :=
  ((List.range 2).zip c.gens).filterMap (fun (g, x) => x.prog.map (fun p => (g, p)))

/-- The program writes SRAM lines: FAB_WR or T1_RD. -/
def writesSram (p : Nat) : Bool := decide (agMode p = modeFABWR) || decide (agMode p = modeT1RD)

/-- The program uses the vertical port. -/
def usesPort (p : Nat) : Bool := decide (modeT1RD ≤ agMode p)

/-- Generator `g` is the writing producer of ring `e`: the ring names it, or the vertical port that it uses. -/
def isProducer (r : Ring) (e g p : Nat) : Bool :=
  writesSram p && decide (agRing p = e) && (decide (r.producer = g) || (decide (r.producer = 2) && usesPort p))

/-- Generator `g` is a consumer of ring `e`. -/
def isConsumer (r : Ring) (e g p : Nat) : Bool :=
  !writesSram p && decide (agRing p = e) && (r.consumers.testBit g || (r.consumers.testBit 2 && usesPort p))

/-- The ring has a writing producer, so its slots are handed over. -/
def SCell.handed (c : SCell) (r : Ring) (e : Nat) : Bool := c.programs.any (fun (g, p) => isProducer r e g p)

/-- The consumers of a ring, bit per generator. -/
def SCell.consumersOf (c : SCell) (r : Ring) (e : Nat) : Nat :=
  maskOf ((c.programs.filter (fun (g, p) => isConsumer r e g p)).map (fun x => x.1))

/-- Generator `g` may work on its present slot (R106). -/
def SCell.slotOpen (c : SCell) (r : Ring) (g p slot : Nat) : Bool :=
  let e := agRing p
  if isProducer r e g p then r.full.all (fun (s, _) => decide (s ≠ slot))
  else if isConsumer r e g p && c.handed r e then r.full.any (fun (s, m) => decide (s = slot) && m.testBit g)
  else true

/-- The ring after generator `g` has ended its unit in `slot` (R106). -/
def SCell.handOver (c : SCell) (r : Ring) (g p slot : Nat) : Ring :=
  let e := agRing p
  if isProducer r e g p then
    let m := c.consumersOf r e
    if m = 0 then r else { r with full := r.full ++ [(slot, m)] }
  else
    { r with full := r.full.filterMap (fun (s, m) =>
        let m' := if s = slot then (bitsOn 2 m).filter (fun x => decide (x ≠ g)) else bitsOn 2 m
        if m' = [] then none else some (s, maskOf m')) }

/-- Move generator `g` on by one point of its walk, past its unit and its slot where the unit ends. -/
def walkOn (k g p : Nat) (counts : List Nat) : Act :=
  modScell k fun c =>
    let x := lget {} c.gens g
    let ends := unitLast counts p x.idx
    let ring := lget none c.rings (agRing p)
    let slots := match ring with
      | some r => r.slots + 1
      | none => 1
    let y : Gen := match advance counts x.idx 0 with
      | some (i, _) => { x with idx := i }
      | none => { x with idx := List.replicate 6 0, running := false }
    let y : Gen := if ends then { y with slot := (x.slot + 1) % slots, scale := 0, scaled := false } else y
    { c with
      gens := lset c.gens g y,
      rings := if ends then lset c.rings (agRing p) (ring.map (fun r => c.handOver r g p x.slot)) else c.rings }

/-! ### What every generator event does first -/

/-- A generator at a point of its walk. -/
structure GenCtx where
  k : Nat
  g : Nat
  p : Nat
  load : Nat
  counts : List Nat
  idx : List Nat
  slot : Nat
  ring : Ring
  /-- scale tokens of the present tile that have passed; `none` once the scale pass is done or where there is none -/
  scale : Option Nat

/-- The generator `g` of site `k` as it may run now in a mode. -/
def State.genReady (s : State) (k g mode : Nat) : Option GenCtx :=
  let c := s.scell k
  let x := lget {} c.gens g
  match x.prog, s.siteLoad k with
  | some p, some h =>
    match lget none c.rings (agRing p) with
    | some r =>
      if !keyIsA k && !c.stopped && (s.bay (keyBay k)).passes && x.running && decide (agMode p = mode)
          && c.slotOpen r g p x.slot && decide (s.cout (k * 64 + agStream p) = [] ∨ mode ≠ modeFABRD) then
        some { k := k, g := g, p := p, load := h, counts := s.walkCounts k p, idx := x.idx, slot := x.slot, ring := r,
               scale := if agScales p && fmtIsMx (agFmt p) && !x.scaled then some x.scale else none }
      else none
    | none => none
  | _, _ => none

/-- First line of the slot and the line after it (R106, R111). -/
def GenCtx.lo (x : GenCtx) : Nat := x.ring.base + x.slot * x.ring.lines
def GenCtx.hi (x : GenCtx) : Nat := x.lo + x.ring.lines

/-- The SRAM line at the generator's point (R111). -/
def GenCtx.line (x : GenCtx) : Int :=
  (x.lo : Int) + ((List.range 6).map (fun l => ((lget 0 x.idx l : Nat) : Int) * agSramStride x.p l)).foldl (· + ·) 0

/-- Scale tokens of one tile: 64 scales to a token, one scale for 32 elements (R118). -/
def GenCtx.scaleTokens (x : GenCtx) : Nat :=
  cdiv (tilePoints x.counts x.p * (fmtPer (agFmt x.p) / 32)) 64

/-- The line of scale token `t`: behind the element lines of the whole tile (R118). -/
def GenCtx.scaleLine (x : GenCtx) (t : Nat) : Nat := x.lo + tilePoints x.counts x.p + t

/-- The 64 blocks of scale token `t`: the point of the walk, the block in its token, and whether it holds a valid
element. -/
def State.scaleBlocks (s : State) (x : GenCtx) (t : Nat) : List (List Nat × Nat × Bool) :=
  let per := fmtPer (agFmt x.p) / 32
  (List.range 64).map (fun j =>
    let n := 64 * t + j
    let i := tilePoint x.counts x.p x.idx (n / per)
    (i, n % per, decide (n < tilePoints x.counts x.p * per)
      && (((s.walkValid x.k x.p i).drop (32 * (n % per))).take 32).any id))

/-- The bytes of a scale token whose block holds a valid element. -/
def scaleMask (bs : List (List Nat × Nat × Bool)) : Nat :=
  (((List.range 64).zip bs).map (fun (j, (_, _, v)) => if v then 255 * 2 ^ (8 * j) else 0)).sum

/-- A use beyond the ring slot (R126). -/
def GenCtx.overSram (x : GenCtx) (l : Nat) : Act := sclOverflow x.k x.g sclOVFSRAM 0 l

/-- Run the event on the point `x` unless a RUNTIME level has passed its plan (R126, R127). -/
def GenCtx.planned (x : GenCtx) (a : Act) : Act :=
  match overPlan x.p x.idx with
  | some l => sclOverflow x.k x.g sclOVFCOUNT 2 (l * 2 ^ 16 + lget 0 x.idx l % 2 ^ 16)
  | none => a

/-- One scale token has passed. -/
def GenCtx.scaleOn (x : GenCtx) (t : Nat) : Act :=
  modScell x.k fun c => { c with gens := lset c.gens x.g { lget {} c.gens x.g with
    scale := t + 1, scaled := decide (x.scaleTokens ≤ t + 1) } }

/-- Go on in the walk. -/
def GenCtx.on (x : GenCtx) : Act := walkOn x.k x.g x.p x.counts

/-- A line number inside the slot. -/
def GenCtx.inSlot (x : GenCtx) (l : Int) : Bool := decide ((x.lo : Int) ≤ l) && decide (l < (x.hi : Int))

/-! ### FAB_RD and FAB_WR (R110, R115, R117, R118) -/

/-- Send a token of the program's stream. -/
def GenCtx.send (x : GenCtx) (payload : Nat) (last bad : Bool) : Act :=
  .dyn fun s => cellPut x.k (agStream x.p)
    (Tok.make payload last kindData (agStream x.p) (s.scell x.k).epoch bad)

/-- One token of a FAB_RD walk. -/
def fabRdA (k g : Nat) (found : Found) : Act :=
  .dyn fun s => withSome (s.genReady k g modeFABRD) fun x => x.planned
    (match x.scale with
    | some t =>
      let m := scaleMask (s.scaleBlocks x t)
      if m = 0 then .seq (x.send 0 false false) (x.scaleOn t)
      else if !x.inSlot (x.scaleLine t) then x.overSram (x.scaleLine t)
      else readLine k g (x.scaleLine t) found (fun d q => .seq (x.send (d &&& m) false q) (x.scaleOn t))
    | none =>
      let m := validMask (agFmt x.p) (s.walkValid k x.p x.idx)
      let last := unitLast x.counts x.p x.idx
      if m = 0 then .seq (x.send 0 last false) x.on
      else if !x.inSlot x.line then x.overSram x.line.toNat
      else readLine k g x.line.toNat found (fun d q => .seq (x.send (d &&& m) last q) x.on))

/-- FAB_RD (R29, R100, R106, R110, R115, R118, R366). -/
def execFabRd (site : Site) (gen : Fin 2) (found : Found) (s : State) : Host.Outcome State Fault Refusal :=
  .next (run (fabRdA (siteKey site) gen.val found) s)

/-- One token of a FAB_WR walk, from the tokens consumed on its stream. -/
def fabWrA (k g : Nat) (found : Found) : Act :=
  .dyn fun s => withSome (s.genReady k g modeFABWR) fun x =>
    match s.got (k * 64 + agStream x.p) with
    | [] => .nop
    | t :: rest => x.planned
      (match x.scale with
      | some n =>
        let m := scaleMask (s.scaleBlocks x n)
        if m ≠ 0 ∧ !x.inSlot (x.scaleLine n) then x.overSram (x.scaleLine n)
        else seqs [
          .upd (.got (k * 64 + agStream x.p) rest),
          when' (decide (m ≠ 0)) (writeLine k g (x.scaleLine n) t.payload.toNat (Tok.poison t) m found),
          x.scaleOn n]
      | none =>
        let m := validMask (agFmt x.p) (s.walkValid k x.p x.idx)
        if m ≠ 0 ∧ !x.inSlot x.line then x.overSram x.line.toNat
        else seqs [
          .upd (.got (k * 64 + agStream x.p) rest),
          when' (decide (m ≠ 0)) (writeLine k g x.line.toNat t.payload.toNat (Tok.poison t) m found),
          x.on])

/-- FAB_WR (R101, R104, R106, R110, R117, R118). -/
def execFabWr (site : Site) (gen : Fin 2) (found : Found) (s : State) : Host.Outcome State Fault Refusal :=
  .next (run (fabWrA (siteKey site) gen.val found) s)

/-! ### T1_RD and T1_WR (R107 to R110, R115, R117, R196) -/

/-- The copy that a T1 program is bound to: its index and descriptor. -/
def State.bound (s : State) (x : GenCtx) : Option (Nat × Obj) :=
  match lget none (s.load x.load).binds (agObj x.p) with
  | some i => (s.obj i).map (fun o => (i, o))
  | none => none

/-- First byte and length of the S-cell's share of the bound copy (R196); no share outside the spread. -/
def State.shareOf (s : State) (x : GenCtx) : Option (Nat × Nat) :=
  match s.bound x with
  | some (_, o) =>
    if o.tier = 1 ∧ o.bays ≠ 0 then
      (spreadPlace o.bays o.rowLo o.rowHi (keyVault x.k)).map (fun p => (keyVault x.k * vaultBytes + o.addr, o.share p))
    else none
  | none => none

/-- The strides' part of the T1 address at the generator's point (R111). -/
def walkSum (x : GenCtx) : Int :=
  ((List.range 6).map (fun l => ((lget 0 x.idx l : Nat) : Int) * agT1Stride x.p l)).foldl (· + ·) 0

/-- T1 byte address at the generator's point (R111, R196). -/
def State.t1Addr (s : State) (x : GenCtx) : Int :=
  (match s.bound x with
    | some (_, o) => ((keyVault x.k * vaultBytes + o.addr : Nat) : Int)
    | none => 0) + walkSum x

/-- Bytes of one token in T1: 48 for 6-bit elements, packed densely, else 64 (R107). -/
def t1TokenBytes (f : Nat) : Nat := if fmtBits f = 6 then 48 else 64

/-- The beats that hold some byte of a list of byte addresses, rising. -/
def beatsOf (as : List Int) : List Int := dedup (as.map (fun a => a / 32 * 32))

/-- The first beat outside the share (R126, R196). -/
def overShare (share : Option (Nat × Nat)) (beats : List Int) : Option Int :=
  beats.find? (fun a => match share with
    | some (b, n) => decide (a < (b : Int)) || decide (((b + n : Nat) : Int) < a + 32)
    | none => true)

/-- An uncorrectable beat found by the vertical port: one incident, in the S-cell's block; the T1 controller records
it too (R108, R178). -/
def portBad (k a : Nat) : Act :=
  seqs [
    sclFault k 2 sclVPORTUE 1 a .B false 0xFF,
    tierRecord .t1 agT1Vport a false,
    orReg rT1C_ERR 2,
    siteCause k rankECC]

/-- Bytes of a scale of a copy: the object offset of the scale of the block at a tensor index (R195, Table 5.8). -/
def Obj.scaleOff (o : Obj) (idx : Nat → Nat) : Nat :=
  let e0 := lget 0 o.ext 0
  let rows := (List.range o.rank).drop 1
  let row := rows.reverse.foldl (fun a d => a * lget 0 o.ext d + idx d) 0
  let nRows := (rows.map (fun d => lget 0 o.ext d)).foldl (· * ·) 1
  let rowBytes := cdiv (e0 * fmtBits o.fmt) 8
  if o.scale = 2 then row * roundUp (rowBytes + cdiv e0 32) 64 + rowBytes + idx 0 / 32
  else cdiv (nRows * e0 * fmtBits o.fmt) 8 + row * cdiv e0 32 + idx 0 / 32

/-- Addresses of the 64 bytes of scale token `t`, with their validity (assumption log 31). -/
def State.scaleAddrs (s : State) (x : GenCtx) (t : Nat) : List (Int × Bool) :=
  (s.scaleBlocks x t).map (fun (i, b, v) =>
    match s.bound x with
    | some (_, o) =>
      let idx (d : Nat) : Nat := (walkIdx x.p i d).toNat + (if d = 0 then 32 * b else 0)
      ((o.phys (o.scaleOff idx) : Int), v)
    | none => (0, v))

/-- Bytes of a spread copy's place `p` among the copy's first `n` bytes. -/
def Obj.ownBelow (o : Obj) (p n : Nat) : Nat := Obj.share { o with size := n } p

/-- The page map of the KV binding, where the program uses it (R251). -/
def State.kvOf (s : State) (x : GenCtx) : Option (List (Nat × Nat)) :=
  if agObj x.p = 15 then (s.load x.load).kvMap else none

/-- The T1 byte behind logical byte `a` of the KV binding: byte `a` mod S_f of the S-cell's share of the frame that the
page map names (R251). -/
def State.kvByte (s : State) (x : GenCtx) (m : List (Nat × Nat)) (a : Nat) : Option Nat :=
  match s.bound x with
  | some (_, o) =>
    match spreadPlace o.bays o.rowLo o.rowHi (keyVault x.k) with
    | some p =>
      let fb := (s.load x.load).kvFrame
      let sf := o.ownBelow p fb
      if sf = 0 then none
      else match m.find? (fun (q, _) => decide (q = a / sf)) with
        | some (_, f) =>
          let j := o.ownBelow p (f * fb) + a % sf
          if j < o.ownBelow p ((f + 1) * fb) then some (keyVault x.k * vaultBytes + o.addr + j) else none
        | none => none
    | none => none
  | none => none

/-- A logical byte without a place: an address below zero, outside every share. -/
def missAddr (a : Int) : Int := -64 - ((a.natAbs / 32 * 32 : Nat) : Int)

/-- The address that an overflow at `a` records. -/
def ovfAddr (a : Int) : Nat := if a < 0 then (-64 - a).toNat else a.toNat

/-- Addresses of the bytes of the element token at the generator's point, with the validity of some bit of each. -/
def State.elemAddrs (s : State) (x : GenCtx) (m : Nat) : List (Int × Bool) :=
  (List.range (t1TokenBytes (agFmt x.p))).map (fun i =>
    let v := decide (bits (8 * i + 7) (8 * i) m ≠ 0)
    match s.kvOf x with
    | none => (s.t1Addr x + ((i : Nat) : Int), v)
    | some pm =>
      let a := walkSum x + ((i : Nat) : Int)
      (if a < 0 then missAddr a
       else match s.kvByte x pm a.toNat with
        | some b => ((b : Nat) : Int)
        | none => missAddr a, v))

/-- A use beyond the T1 window: on the KV binding, a page without a map entry too (R126, R251). -/
def State.overT1 (s : State) (x : GenCtx) (a : Int) : Act :=
  .seq (when' (s.kvOf x).isSome (orReg rSRV_ERR 2)) (sclOverflow x.k x.g sclOVFT1 1 (ovfAddr a))

/-- The T1 bytes, the bit mask and the line of the present token of a T1 walk. -/
def State.t1Work (s : State) (x : GenCtx) : List (Int × Bool) × Nat × Int :=
  match x.scale with
  | some t => (s.scaleAddrs x t, scaleMask (s.scaleBlocks x t), (x.scaleLine t : Int))
  | none =>
    let m := validMask (agFmt x.p) (s.walkValid x.k x.p x.idx)
    (s.elemAddrs x m, m, x.line)

/-- The walk goes on behind the present token. -/
def GenCtx.onward (x : GenCtx) : Act :=
  match x.scale with
  | some t => x.scaleOn t
  | none => x.on

/-- Beats that a token's bytes touch with valid elements: only they are accessed (R109, R115). -/
def validBeats (as : List (Int × Bool)) : List Int := beatsOf ((as.filter (fun p => p.2)).map (fun p => p.1))

/-- One line of a T1_RD walk. `found` is what the T1 code reports for the first beat read. -/
def t1RdA (k g : Nat) (found : Found) : Act :=
  .dyn fun s => withSome (s.genReady k g modeT1RD) fun x => x.planned
    (let w := s.t1Work x
    let beats := validBeats w.1
    if w.2.1 = 0 then x.onward
    else if !x.inSlot w.2.2 then x.overSram w.2.2.toNat
    else match overShare (s.shareOf x) beats with
      | some a => s.overT1 x a
      | none =>
        let carried := beats.any (fun a => s.bad a.toNat)
        let first := (lget 0 beats 0).toNat
        let fresh : Found := if s.bad first then .clean else found
        let data := leNat (w.1.map (fun (a, v) => if v then s.byte a.toNat else 0))
        seqs [
          when' (decide (fresh = .corrected)) (tierCorrected .t1 0),
          when' (decide (fresh = .uncorrectable)) (portBad k first),
          if carried || decide (fresh = .uncorrectable) then storeLine k w.2.2.toNat { poison := true }
          else storeLine k w.2.2.toNat { data := BitVec.ofNat 512 (data &&& w.2.1) },
          x.onward])

/-- T1_RD (R101, R106 to R110, R115, R173, R178, R196). -/
def execT1Rd (site : Site) (gen : Fin 2) (found : Found) (s : State) : Host.Outcome State Fault Refusal :=
  .next (run (t1RdA (siteKey site) gen.val found) s)

/-- A byte with the masked bits of another. -/
def mixByte (old new : Byte) (m : Nat) : Byte :=
  BitVec.ofNat 8 ((old.toNat &&& (255 - m)) ||| (new.toNat &&& m))

/-- Write the valid bits of one beat: `bytes` are address, line byte and bit mask. A whole beat is written at once; a
part of one by read-modify-write, on which `found` is what the T1 code reports (R109). -/
def writeBeat (k copy : Nat) (beat : Int) (bytes : List (Int × Nat × Nat)) (found : Found) : Act :=
  .dyn fun s =>
    let mine := bytes.filter (fun (a, _, _) => decide (a / 32 * 32 = beat))
    let whole := decide ((mine.filter (fun (_, _, m) => decide (m = 255))).length = 32)
    let put := each (mine.filter (fun (_, _, m) => decide (m ≠ 0))) (fun (a, v, m) =>
      .dyn fun s => .upd (.byte a.toNat (mixByte (s.byte a.toNat) (BitVec.ofNat 8 v) m)))
    if whole then .seq (markBad beat.toNat 32 false) put
    else if s.bad beat.toNat then .nop
    else match found with
      | .clean => put
      | .corrected => .seq (tierCorrected .t1 0) put
      | .uncorrectable => seqs [
          markBad beat.toNat 32 true,
          each (List.range 32) (fun i => .upd (.byte (beat.toNat + i) 0)),
          portBad k beat.toNat,
          modObj copy (fun o => { o with poisoned := true })]

/-- One line of a T1_WR walk. `found` is what is observed at the SRAM line when every beat is whole, else by the read of
the first part-written beat. -/
def t1WrA (k g : Nat) (found : Found) : Act :=
  .dyn fun s => withSome (s.genReady k g modeT1WR) fun x => x.planned
    (let w := s.t1Work x
    let beats := validBeats w.1
    if w.2.1 = 0 then x.onward
    else if !x.inSlot w.2.2 then x.overSram w.2.2.toNat
    else match overShare (s.shareOf x) beats, s.bound x with
      | some a, _ => s.overT1 x a
      | none, none => x.onward
      | none, some (copy, _) =>
        let cover (i : Nat) : Nat := bits (8 * i + 7) (8 * i) w.2.1
        let rows := (List.range w.1.length).zip w.1
        let part (b : Int) : Bool :=
          decide ((rows.filter (fun (i, (a, _)) => decide (a / 32 * 32 = b) && decide (cover i = 255))).length ≠ 32)
        let rmw := beats.find? part
        readLine k g w.2.2.toNat (if rmw.isNone then found else .clean) (fun d q =>
          let bytes := rows.map (fun (i, (a, _)) => (a, bits (8 * i + 7) (8 * i) d, cover i))
          seqs [
            dirtyCopy copy,
            if q then seqs [
              siteCause k rankPOISON,
              each beats (fun b => .seq (markBad b.toNat 32 true) (each (List.range 32) (fun i => .upd (.byte (b.toNat + i) 0)))),
              modObj copy (fun o => { o with poisoned := true })]
            else each beats (fun b => writeBeat k copy b bytes (if rmw = some b then found else .clean)),
            x.onward]))

/-- T1_WR (R106 to R110, R117, R178, R196, R199, R371). -/
def execT1Wr (site : Site) (gen : Fin 2) (found : Found) (s : State) : Host.Outcome State Fault Refusal :=
  .next (run (t1WrA (siteKey site) gen.val found) s)

/-! ### Correction write-back, scrub, injection (R100, R102, R130) -/

/-- CORRECTION_WRITEBACK: the corrected line is stored again. -/
def correctionWritebackA (k l : Nat) : Act :=
  .dyn fun s =>
    if (s.scell k).writeBack.contains l then
      storeLine k l { s.line (k * 8192 + l) with inj := 0 }
    else .nop

/-- CORRECTION_WRITEBACK (R100, R103). -/
def execCorrectionWriteback (site : Site) (line : Fin 6144) (s : State) : Host.Outcome State Fault Refusal :=
  .next (run (correctionWritebackA (siteKey site) line.val) s)

/-- A bay is powered. -/
def Bay.powered (x : Bay) : Bool := decide (x.st ≠ .off) && decide (x.st ≠ .powering)

/-- SRAM_SCRUB: the next line of a bank is read and checked. -/
def sramScrubA (k bank : Nat) (found : Found) : Act :=
  .dyn fun s =>
    if s.flag rSCL_SCRUB 16 && !keyIsA k && (s.bay (keyBay k)).powered && decide ((s.bay (keyBay k)).st ≠ .scanning) then
      let row := lget 0 (s.scell k).scrubRow bank
      let l := 16 * row + bank
      let x := s.line (k * 8192 + l)
      let inj := decide (0 < x.inj)
      .seq (modScell k (fun c => { c with scrubRow := lset c.scrubRow bank ((row + 1) % 384) }))
        (if x.poison then .nop
        else match x.finds found with
          | .clean => .nop
          | .corrected => .seq (lineCorrected k inj)
              (modScell k (fun c => { c with writeBack := (c.writeBack.filter (fun y => decide (y ≠ l))) ++ [l] }))
          | .uncorrectable => .seq (sclFault k 3 sclSCRUBUE 0 l .A inj 0xFF) (storeLine k l { poison := true }))
    else .nop

/-- SRAM_SCRUB (R102). -/
def execSramScrub (site : Site) (bank : Fin 16) (found : Found) (s : State) : Host.Outcome State Fault Refusal :=
  .next (run (sramScrubA (siteKey site) bank.val found) s)

/-- A write to a patrol-scrub register: an INTERVAL below 256 is taken as 256, with a class A incident. -/
def writeScrub (blk off v : Nat) : Act :=
  .seq (setReg off (place 16 16 (bits 16 16 v) + max 256 (bits 15 0 v)))
    (when' (decide (bits 15 0 v < 256)) (incA blk 0xFF off))

/-- SCL_SCRUB_WRITE (SCL_SCRUB). -/
def execSclScrubWrite (v : Word) (s : State) : Host.Outcome State Fault Refusal :=
  .next (run (regDo (.sclScrubWrite v) rSCL_SCRUB v.toNat (writeScrub blkSCL rSCL_SCRUB)) s)

/-- A write to SCL_INJ. -/
def writeSclInj (v : Nat) : Act :=
  .dyn fun s =>
    if !v.testBit 63 then .nop
    else
      let k := mkKey (bits 23 23 v) (bits 22 17 v) (bits 16 11 v)
      let l := bits 36 24 v
      let x := s.line (k * 8192 + l)
      if 39 < bits 22 17 v ∨ 31 < bits 16 11 v ∨ keyIsA k ∨ 6143 < l ∨ x.poison ∨ (s.bay (keyBay k)).st ≠ .allocated then
        incA blkSCL 0xFF rSCL_INJ
      else .upd (.line (k * 8192 + l) { x with inj := min 2 (x.inj + (if v.testBit 62 then 2 else 1)) })

/-- SCL_INJ (R130). -/
def execSclInj (v : Word) (s : State) : Host.Outcome State Fault Refusal := 
  .next (run (regDo (.sclInj v) rSCL_INJ v.toNat writeSclInj) s)

/-! ### TOKEN_CONSUME (R29, R30, R47, R51, R55, R161) -/

/-- The cell takes a token of the stream now. -/
def State.cellWants (s : State) (k st : Nat) : Bool :=
  let have' := (s.got (k * 64 + st)).length
  if keyIsA k then
    let a := s.acell k
    !a.stopped && !a.marked.testBit st && decide (have' < readCount a.reads st)
  else
    let c := s.scell k
    !c.stopped && !c.marked.testBit st && decide (have' = 0) && c.gens.any (fun g => match g.prog with
      | some p => g.running && decide (agMode p = modeFABWR) && decide (agStream p = st)
      | none => false)

/-- The cell at a site stops. -/
def stopCell (k : Nat) : Act :=
  if keyIsA k then modAcell k (fun a => { a with stopped := true }) else modScell k (fun c => { c with stopped := true })

/-- A stale token or marker reached the cell: it stops and the command ends STALE_TOKEN (R161). -/
def staleFault (k st : Nat) : Act :=
  .dyn fun s => seqs [
    stopCell k,
    firstFault rEXH_ERR_SITE 31 (keyErrBits k + place 10 7 8 + place 5 0 st),
    incident { cls := .B, blk := blkEXH, code := 1, tenant := s.siteTenant k, locus := keyLocus k,
               status := if s.siteBusy k then Status.staleToken.code else 0xFF },
    withSome (s.siteLoad k) (fun h => if (s.load h).cmd.isSome then endWith h rankSTALE else clearLoadQueues h)]

/-- A token leaves the local port of a cell: its credit returns (R32). -/
def popPort (k st : Nat) (rest : List Token) : Act :=
  .seq (.upd (.arrived (k * 64 + st) rest)) (modCreditFly (k * 2048 + 8 * 64 + st) (fun n => n + 1))

/-- The cell takes the oldest token of a stream. `opbuf` is what the operand buffer's code reports for it. -/
def tokenConsumeA (k st : Nat) (opbuf : Found) : Act :=
  .dyn fun s =>
    match s.arrived (k * 64 + st) with
    | [] => .nop
    | t :: rest =>
      if Tok.kind t = kindMarker ∨ !s.cellWants k st ∨ !(s.bay (keyBay k)).passes then .nop
      else if Tok.epoch t ≠ s.cellEpoch k then staleFault k st
      else
        let rsvd := decide (Tok.kind t = kindReserved)
        let bad := !Tok.residueOk t
        let buf := if keyIsA k then opbuf else .clean
        let t' := if rsvd || bad || decide (buf = .uncorrectable) then Tok.setPoison t else t
        seqs [
          popPort k st rest,
          modGot (k * 64 + st) (fun q => q ++ [t']),
          when' bad (.seq (fabFault k 8 st fabRESIDUE) (siteCause k rankRESIDUE)),
          when' rsvd (fabFault k 8 st fabKIND),
          match buf with
          | .clean => .nop
          | .corrected => incident { cls := .A, blk := blkACL, code := 8, tenant := s.siteTenant k, locus := keyLocus k }
          | .uncorrectable => .seq (aclFault k unitOPBUF 7 false .eccUncorrectable) (siteCause k rankECC)]

/-- TOKEN_CONSUME (R28 to R30, R51, R55, R161). -/
def execTokenConsume (site : Site) (stream : Fin 64) (opbuf : Found) (s : State) : Host.Outcome State Fault Refusal :=
  .next (run (tokenConsumeA (siteKey site) stream.val opbuf) s)

end Sys2Proof.Machine
end

