-- ==== Sys2Proof/Machine/Commands.lean ====
section
/-!
DEFINITION. Commands on loads (chapters 03, 04, 08): RUN, the checks at the start of a command, and its completion
(R112, R124, R125, R197, R198, R251, R298, R373).
-/

namespace Sys2Proof.Machine

/-! ### Taking a dispatched command -/

/-- The load that a descriptor concerns, whose order its commands keep (R294). -/
def cmdLoad (c : Cmd) : Option Nat :=
  if c.op = opcRUN then some (leAt c.desc 0x10 1 % 16)
  else if c.op = opcEXREL then some (leAt c.desc 0x1A 1 % 16)
  else if c.op = opcEXLOAD ∧ (leAt c.desc 0x18 1).testBit 7 then some (leAt c.desc 0x18 1 % 16)
  else none

/-- A dispatched command of opcode `op` that its unit may take now: for a load's command, none dispatched earlier for the
same load is still to be taken (R294). -/
def State.takes (s : State) (id op : Nat) : Option Cmd :=
  match s.cmd id with
  | some c =>
    if c.op = op && c.pair.isSome && !c.taken &&
        (match cmdLoad c with
          | none => true
          | some h => s.cmdIds.all (fun j => decide (id ≤ j) || (match s.cmd j with
              | some d => d.taken || decide (cmdLoad d ≠ some h)
              | none => true)))
    then some c else none
  | none => none

/-- The unit has taken command `id`. -/
def takeCmd (id : Nat) : Act := modCmd id (fun c => c.map (fun c => { c with taken := true }))

/-- RUN: dispatched to its load, it waits there for its turn. -/
def runCmdA (id : Nat) : Act :=
  .dyn fun s => withSome (s.takes id opcRUN) fun c =>
    let h := leAt c.desc 0x10 1 % 16
    if (s.load h).st = .free ∨ (s.load h).tenant ≠ c.tenant then complete id .shapeInvalid h
    else if s.inService h then complete id .busy h
    else .seq (takeCmd id) (modLoad h (fun l => { l with waiting := l.waiting ++ [id] }))

/-- RUN (R151, R245, R294, R297, R298). -/
def execRun (cmd : Nat) (s : State) : Host.Outcome State Fault Refusal := .next (run (runCmdA cmd) s)

/-! ### The checks of R124 -/

/-- Programs of a load's generators: site and program. -/
def State.loadProgs (s : State) (h : Nat) : List (Nat × Nat) :=
  (keysIn s.cell.scells 1 (s.loadBays h)).flatMap (fun k => (s.scell k).gens.filterMap (fun g => g.prog.map (fun p => (k, p))))

/-- Shape-table slots that the programs of a load name (R114, R124). -/
def State.namedSlots (s : State) (h : Nat) : List Nat :=
  (s.loadProgs h).flatMap (fun (p : Nat × Nat) => (List.range (agTopDim p.2 + 1)).map (agExtSlot p.2))
    ++ (keysIn s.cell.acells 1 (s.loadBays h)).flatMap (fun k => match (s.acell k).acfg with
        | some w => ((List.range 3).filterMap (fun r =>
            let u := acRule w (r + 1)
            if ruValid u then some (ruExtSlot u) else none))
        | none => [])

/-- Checks 1 and 2 of R124: every named slot was supplied, and slots declared equal are equal. -/
def State.shapesOk (s : State) (h : Nat) : Bool :=
  let sh := (s.load h).shape
  (s.namedSlots h).all (fun i => (lget none sh i).isSome) &&
    ((s.load h).image.recs.filter (fun r => decide (leAt r 0 1 = 1))).all (fun r =>
      decide (lget none sh (leAt r 1 1) = lget none sh (leAt r 2 1)))

/-- T1 programs of a load. -/
def State.t1Progs (s : State) (h : Nat) : List Nat :=
  ((s.loadProgs h).map (fun (p : Nat × Nat) => p.2)).filter (fun p => decide (modeT1RD ≤ agMode p))

/-- The exhibit declares a binding written (Table 4.4). -/
def Load.writes (l : Load) (b : Nat) : Bool :=
  l.image.recs.any (fun r => decide (leAt r 0 1 = 2) && decide (leAt r 1 1 = b) && decide (leAt r 3 1 = 1))

/-- Check 3 of R124: every binding that a T1 program names is present (R197) and of the program's format. -/
def State.bindingsOk (s : State) (h : Nat) : Bool :=
  (s.t1Progs h).all (fun p => match (lget none (s.load h).binds (agObj p)).bind s.obj with
    | some o => decide (o.tier = 1) && decide (o.bays ≠ 0) && decide (o.owner = (s.load h).tenant)
        && (o.whole || o.moving) && (o.writable || !(s.load h).writes (agObj p)) && decide (o.fmt = agFmt p)
    | none => false)

/-- Every binding that a T1 program names is whole (R197, R223). -/
def State.bindingsWhole (s : State) (h : Nat) : Bool :=
  (s.t1Progs h).all (fun p => match (lget none (s.load h).binds (agObj p)).bind s.obj with
    | some o => o.whole
    | none => false)

/-- The command completes SHAPE_INVALID under R124 (R129). -/
def shapeFault (h : Nat) : Act :=
  .dyn fun s => seqs [
    when' (!s.flag rSCL_ERR_SITE 31) (.seq (setReg rSCL_ERR_SITE (2 ^ 31 + 6 * 2 ^ 4)) (setReg rSCL_ERR_ADDR 0)),
    incident { cls := .B, blk := blkSCL, code := 7, status := Status.shapeInvalid.code, tenant := some (s.load h).tenant },
    endAs h .shapeInvalid false]

/-! ### Starting -/

/-- Bind copy `i` (or none) in slot `b` of load `h`: it is pinned, the copy bound before loses its pin (R198). -/
def bindSlot (h b : Nat) (i : Option Nat) : Act :=
  .dyn fun s =>
    let old := lget none (s.load h).binds b
    if old = i then .nop
    else seqs [withSome i pinCopy, withSome old unpinCopy,
      modLoad h (fun l => { l with binds := lset l.binds b i })]

/-- Some copy's PIN would rise above 255 under new bindings (R198). -/
def State.overPinned (s : State) (h : Nat) (new : List (Nat × Option Nat)) : Bool :=
  let fresh := new.filterMap (fun (p : Nat × Option Nat) => if lget none (s.load h).binds p.1 = p.2 then none else p.2)
  fresh.any (fun i => match s.obj i with
    | some o => decide (255 < o.pin + (fresh.filter (fun j => decide (j = i))).length)
    | none => false)

/-- The cells of load `h` begin the command: every program from its start. -/
def startCells (h : Nat) : Act :=
  .dyn fun s => .seq
    (each (keysIn s.cell.acells 1 (s.loadBays h)) (fun k => modAcell k (fun a =>
      { a.idle with pc := 0, ended := decide (a.steps = []), tiles := 0 })))
    (each (keysIn s.cell.scells 1 (s.loadBays h)) (fun k => modScell k (fun c => { c.idle with
      gens := c.gens.map (fun g => match g.prog with
        | some p => { prog := some p, running := (s.walkCounts k p).all (fun n => decide (n ≠ 0)) }
        | none => g) })))

/-- The command that load `h` has taken starts once its bindings are whole. -/
def startWhole (h : Nat) : Act :=
  .dyn fun s => if s.bindingsWhole h then
      .seq (modLoad h (fun l => { l with started := true })) (startCells h)
    else .nop

/-- The checks of R124 on the command that load `h` has taken; a serving command's shapes are the serving block's own
(assumption log 42). -/
def checkCommand (h : Nat) (client : Bool) : Act :=
  .dyn fun s =>
    if (client && !s.shapesOk h) || !s.bindingsOk h then shapeFault h
    else if client && (s.load h).shape.any (fun x => decide (x = some 0)) then endAs h .ok false
    else startWhole h

/-- Load `h` takes the command at the head of its list. -/
def takeHead (h id : Nat) (rest : List Nat) (shape : List (Option Nat)) : Act :=
  modLoad h (fun l => { l with
    cmd := some id, started := false, causes := 0, waiting := rest, st := .running, shape := shape, kvMap := none,
    kvFrame := 0 })

/-- A client's command: the argument block is read, the shapes and bindings are set (R298). -/
def startClient (h id : Nat) (rest : List Nat) (c : Cmd) : Act :=
  .dyn fun s =>
    let args := s.bytes (leAt c.desc 0x18 6) 192
    let shape := (List.range 32).map (fun i => if (leAt c.desc 0x14 4).testBit i then some (leAt args (4 * i) 4) else none)
    let new := (bitsOn 16 (leAt c.desc 0x12 2)).map (fun b => (b, idxOf (leAt args (128 + 4 * b) 4)))
    .seq (takeHead h id rest shape)
      (if s.overPinned h new then endAs h .busy false
       else .seq (each new (fun (p : Nat × Option Nat) => bindSlot h p.1 p.2)) (checkCommand h true))

/-- Requests of a serving command with the batch slot of each (R263). -/
def State.servedSlots (s : State) (c : Cmd) : List (Nat × Nat) :=
  c.reqs.map (fun i => (i, if c.op = opPREFILL then 0 else ((s.req i).slot).getD 0))

/-- The pool of load `h` in service `v` for a serving command (R249). -/
def State.servedPool (s : State) (c : Cmd) : Option Nat :=
  match c.reqs with
  | [] => none
  | i :: _ =>
    if c.op = opPREFILL then some (s.req i).prePool
    else if c.op = opDECODE then some (s.req i).pool
    else none

/-- A serving command: binding 15 is the load's pool, and the page map is written from the page lists (R251). -/
def startServing (h id : Nat) (rest : List Nat) (c : Cmd) : Act :=
  .dyn fun s => seqs [
    .upd (.fresh (s.fresh + 32)),
    takeHead h id rest ((List.range 32).map (fun i => some (Config.freeNat (s.fresh + i) % 2 ^ 32))),
    withSome (s.servedPool c) (fun r => .seq
      (modLoad h (fun l => { l with
        kvMap := some ((s.servedSlots c).flatMap (fun (p : Nat × Nat) => s.kvPages (s.req p.1) p.2))
        kvFrame := s.frameBytes c.svc }))
      (bindSlot h 15 (s.poolCopy c.svc r))),
    checkCommand h false]

/-- The load may take the command at the head of its list now (R151, R317, R321, R324, R380). -/
def State.mayStart (s : State) (h : Nat) (c : Cmd) : Bool :=
  let ld := s.load h
  (decide (ld.st = .ready) || decide (ld.st = .replacing)) && s.loadWhole h && !s.stilled && decide (c.op ≠ opcEXLOAD)
    && (c.pair.isNone || !s.holds c.tenant)
    && !(ld.sliced && (s.slice (s.fld rTEN_CTL 56 55 ld.tenant)).pend.isSome) && !s.scanWant.any (fun b => decide ((s.bay b).load = some h))
    && (match ld.repl with
      | some r => decide (r.phase = .staging) && r.cmd.isSome
      | none => true)

/-- COMMAND_START: the head of the list is taken and checked, or one that waits for its bindings starts. -/
def commandStartA (h : Nat) : Act :=
  .dyn fun s =>
    match (s.load h).cmd, (s.load h).waiting with
    | some _, _ => if (s.load h).started || s.stilled then .nop else startWhole h
    | none, id :: rest => withSome (s.cmd id) (fun c =>
        if s.mayStart h c then (if c.pair.isSome then startClient h id rest c else startServing h id rest c) else .nop)
    | none, [] => .nop

/-- COMMAND_START (R112, R124, R125, R197, R198, R223, R298). -/
def execCommandStart (load : Fin 16) (s : State) : Host.Outcome State Fault Refusal :=
  .next (run (commandStartA load.val) s)

/-! ### Completing -/

/-- The opcode of the command in progress on a load. -/
def State.loadOp (s : State) (h : Nat) : Option Nat := ((s.load h).cmd.bind s.cmd).map (fun c => c.op)

/-- The command in progress on load `h` ends once its cells are done; `pre` chooses prefill commands or the others. -/
def completeA (h : Nat) (pre : Bool) : Act :=
  .dyn fun s =>
    if (s.load h).started && s.loadDone h && (decide (s.loadOp h = some opPREFILL) == pre) then endLoad h else .nop

/-- COMMAND_COMPLETE (R305, R372, R373). -/
def execCommandComplete (load : Fin 16) (s : State) : Host.Outcome State Fault Refusal :=
  .next (run (completeA load.val false) s)

/-- PREFILL_END: a prefill command ends, and its request goes on (R252, R255, R277). -/
def execPrefillEnd (load : Fin 16) (s : State) : Host.Outcome State Fault Refusal :=
  .next (run (completeA load.val true) s)

end Sys2Proof.Machine
end

