-- ==== Sys2Proof/Machine/ImageCheck.lean ====
section
/-!
DEFINITION. The exhibit image and its checks (R131 to R146, R148, R513 to R518, Table 4.8): which image the loader
refuses, with which reason at which offset, and what it keeps of one it accepts.
-/

namespace Sys2Proof.Machine

/-! ### Layout (R131, Tables 4.1 to 4.5) -/

def imImageBytes (b : List Byte) : Nat := leAt b 0x08 8
def imDigest (b : List Byte) : List Byte := byteSlice b 0x10 32
def imBays (b : List Byte) : Nat := leAt b 0x30 1
def imSeam (b : List Byte) : Nat := leAt b 0x31 1
def imPlace (b : List Byte) : Nat := leAt b 0x32 1
def imKind (b : List Byte) : Nat := leAt b 0x33 1
def imCollection (b : List Byte) : Nat := leAt b 0x34 4
def imWdog (b : List Byte) : Nat := leAt b 0x38 2
def imSecType (b : List Byte) (i : Nat) : Nat := leAt b (0x40 + 16 * i) 2
def imSecBytes (b : List Byte) (i : Nat) : Nat := leAt b (0x40 + 16 * i + 4) 4
def imSecOff (b : List Byte) (i : Nat) : Nat := leAt b (0x40 + 16 * i + 8) 8
/-- The bytes of section `i`. -/
def imSection (b : List Byte) (i : Nat) : List Byte := byteSlice b (imSecOff b i) (imSecBytes b i)

/-- Placard fields (Table 4.3). -/
def plClkRef (p : List Byte) : Nat := leAt p 0 1
def plReserve (p : List Byte) : Nat := leAt p 1 1
def plTileCyc (p : List Byte) : Nat := leAt p 4 4
def plSegCyc (p : List Byte) : Nat := leAt p 8 4
def plSwitchCyc (p : List Byte) : Nat := leAt p 0xC 4
def plCmdCyc (p : List Byte) : Nat := leAt p 0x10 8
def plCmdNs (p : List Byte) : Nat := leAt p 0x18 8
def plPosCyc (p : List Byte) : Nat := leAt p 0x20 4
def plPosNs (p : List Byte) : Nat := leAt p 0x24 4
def plPos2Cyc (p : List Byte) : Nat := leAt p 0x28 4
def plTokCyc (p : List Byte) : Nat := leAt p 0x2C 4
def plTokNs (p : List Byte) : Nat := leAt p 0x30 4
def plSpecCyc (p : List Byte) : Nat := leAt p 0x34 4
def plSpecNs (p : List Byte) : Nat := leAt p 0x38 4
def plRemoteNs (p : List Byte) : Nat := leAt p 0x40 8
def plMcastNs (p : List Byte) : Nat := leAt p 0x48 8

/-- A list cut into records of `n` items, with the offset of each. -/
def records {α : Type} (n : Nat) : Nat → Nat → List α → List (Nat × List α)
  | 0, _, _ => []
  | k + 1, off, xs => if xs = [] then [] else (off, xs.take n) :: records n k (off + n) (xs.drop n)

/-- The records of section `i`, `n` bytes each, with their offsets in the image. -/
def imRecords (b : List Byte) (i n : Nat) : List (Nat × List Byte) :=
  records n (imSecBytes b i / n + 1) (imSecOff b i) (imSection b i)

/-- Mark record fields (Table 4.5). -/
def mkNumber (r : List Byte) : Nat := leAt r 0 2
def mkBay (r : List Byte) : Nat := leAt r 2 1
def mkAcc (r : List Byte) : Bool := decide (leAt r 3 1 = 1)
def mkTileAt (r : List Byte) : Nat := leAt r 4 4
def mkRings (r : List Byte) : Nat := leAt r 8 1
def mkSaveB (r : List Byte) : Nat := leAt r 10 6

/-! ### Placement (R133) -/

/-- First bays at which an exhibit may stand. -/
def firstBays (n seam plc : Nat) : List Nat :=
  if n = 0 ∨ 16 < n ∨ n ≤ seam then []
  else (List.range (17 - n)).filter (fun f =>
    let last := f + n - 1
    (decide (seam ≠ 0) || decide (8 ≤ f) || decide (last < 8)) && (decide (seam = 0) || decide (f + seam = 8))
      && (!plc.testBit 0 || decide (f = 0)) && (!plc.testBit 1 || decide (last = 15)))

/-! ### Checks of one configuration token's content -/

/-- Content bits of a section of a block: token SEQ 1 follows token SEQ 0 (R143). -/
def contentOf : List Nat → Nat
  | [] => 0
  | c :: cs => c + 2 ^ 448 * contentOf cs

/-- The generators' programs of a block, for the checks of its rings. -/
def genWrites (p : Option Nat) : Bool :=
  match p with
  | some p => decide (agMode p = modeFABWR) || decide (agMode p = modeT1RD)
  | none => false

/-- Reasons to refuse a ring table (R105, R142); `gens` are the programs of its cell. -/
def ringFaults (c : Nat) (gens : List (Option Nat)) : List Nat :=
  let rs := (List.range 8).filterMap (fun e => (ringOf (ringWord c e)).map (fun r => (e, r)))
  let writing (r : Ring) : Bool := decide (2 ≤ r.producer) || genWrites (lget none gens r.producer)
  (if rs.any (fun (e, _) => decide (bits 20 0 (ringWord c e) ≠ 0)) then [0x08] else [])
    ++ (if rs.any (fun (_, r) => decide (6144 < r.base + r.size)
          || (decide (r.producer = 3) != decide (r.consumers = 0)) || decide (2 < popCount 3 r.consumers))
        then [0x09] else [])
    ++ (if rs.any (fun (e, a) => rs.any (fun (f, b) => decide (e < f) && decide (a.base < b.base + b.size)
          && decide (b.base < a.base + a.size) && (writing a || writing b))) then [0x09] else [])

/-- Reasons to refuse a generator program (R110, R111, R113, R118, R143); `ring` is the ring table of its cell. -/
def genFaults (p ring : Nat) : List Nat :=
  let f := agFmt p
  let e := fmtPer f
  let used := (List.range 6).filter (fun l => decide (agCount p l ≠ 0) || agRuntime p l)
  let rt := used.filter (fun l => agRuntime p l)
  (if decide (p / 2 ^ 785 ≠ 0) || decide (fPARTIAL < f) || (List.range 6).any (fun l => decide (agDim p l = 6)) then [0x08]
   else [])
    ++ (if decide (agTileLvl p = 0) || decide (agTileLvl p = 7) || (ringOf (ringWord ring (agRing p))).isNone
          || decide (agOrigin p 0 % (e : Int) ≠ 0)
          || used.any (fun l => decide (agDim p l = 0) && decide (agStep p l % e ≠ 0))
          || !noDup (rt.map (fun l => agDim p l))
          || rt.any (fun l => decide (agDim p l = 7) || decide (l < agTileLvl p) || decide (agStep p l = 0))
          || (agScales p && !fmtIsMx f)
        then [0x0A] else [])

/-- Reasons to refuse a route table (R19, R20, R141); `ring` is the ring table of an S-cell site. -/
def routeFaults (c : Nat) (isA : Bool) (ring : Nat) : List Nat :=
  let ws := ((List.range 16).map (routeSlot c)).filter rsValid
  let spillOk (sp : Nat) : Bool := decide (sp = 15) || (!isA && decide (sp < 8) &&
    (match ringOf (ringWord ring sp) with
      | some r => decide (r.producer = 3)
      | none => false))
  let ins := ws.map (fun w => rsIn w * 64 + rsStream w)
  let outs := ws.flatMap (fun w => (bitsOn 9 (rsOut w)).map (fun o => o * 64 + rsStream w))
  (if decide (c / 2 ^ 384 ≠ 0) || ws.any (fun w => decide (8 < rsIn w)) then [0x08] else [])
    ++ (if ws.any (fun w => decide (rsStream w = 63) || decide (rsOut w = 0) || !spillOk (rsSpill w)) || !noDup ins || !noDup outs
        then [0x06] else [])

/-- The class of an operand pair of Table 2.1: 1 = MX, 2 = integer, 3 = 16-bit (R58). -/
def pairClass (a b : Nat) : Option Nat :=
  if fmtIsMx a && fmtIsMx b then some 1
  else if fmtIsInt a && fmtIsInt b then some 2
  else if fmtIs16 a && decide (a = b) then some 3
  else none

/-- Output formats of Table 4.11. -/
def outAllowed (cls fo : Nat) : Bool :=
  decide (fo = fFP32) || decide (fo = fBF16) ||
    (match cls with
      | 1 => decide (fo = fPARTIAL)
      | 2 => decide (fo = fINT32) || decide (fo = fPARTIAL)
      | _ => decide (fo = fFP16))

/-- Operand-buffer bytes of one tile's operand with its scales (R123, Table 3.4; assumption log 33). -/
def operandBytes (f sm rows k : Nat) : Nat :=
  64 * cdiv (rows * k) (fmtPer f)
    + (if fmtIsMx f then rows * k / 32 else if fmtIsInt f then (if sm = 0 then 4 else 4 * rows) else 0)

/-- Reasons to refuse an ACFG token (R58, R70, R113, R120, R122, R123, R144, R145). -/
def acfgFaults (w : Nat) : List Nat :=
  let fa := acFmtA w
  let fb := acFmtB w
  let rules := [1, 2, 3].map (acRule w)
  let tl := acTile w
  let held := bits 41 25 w
  let strm := bits 58 42 w
  (if rules.any (fun r => ruValid r && decide (ruStep r = 0)) then [0x0A] else [])
    ++ (if decide (bits 75 75 w ≠ 0) || decide (w / 2 ^ 334 ≠ 0) || decide (fPARTIAL < max fa (max fb (acFmtOut w)))
          || decide (1 < acSmodeA w) || decide (1 < acSmodeB w) then [0x08] else [])
    ++ (match pairClass fa fb with
        | none => [0x07]
        | some c => if outAllowed c (acFmtOut w) then [] else [0x11])
    ++ (match tileShape tl with
        | none => [0x0B]
        | some (m, n, k) =>
          (if decide (5 < acOrder w) || ((decide (tl = 1) || decide (tl = 2)) && decide (acOrder w ≠ 0) && decide (acOrder w ≠ 2))
           then [0x0B] else [])
            ++ (let a := operandBytes fa (acSmodeA w) m k
                let b := operandBytes fb (acSmodeB w) n k
                let h := if tl = 0 ∨ tl = 1 then b else a
                let st := if tl = 0 ∨ tl = 1 then a else b
                if (pairClass fa fb).isSome && (decide (held < h) || decide (strm < st)
                    || decide (98304 < held + strm * (1 + acDbuf w))) then [0x0C] else []))
    ++ (if 16384 < acChain w then [0x0D] else [])

/-- A selector of a step word is not reserved (R146). -/
def selOk (x : Nat) : Bool := decide (x ≠ 63) && (decide (x < 96) || decide (x = 127))

/-- One step word before the first END holds no reserved code (R146, R513, R516). -/
def stepOkWord (w : Nat) : Bool :=
  let op := opOf w
  decide (1 ≤ op) && decide (op ≤ 8) && decide (bits 57 0 w / 2 ^ opFieldBits op = 0) &&
    (if op = opTILE then [tiSA w, tiSB w, tiXA w, tiXB w, tiOut w, tiPin w].all selOk
     else if op = opVEC then
      decide (veFn w ≤ 11) && selOk (veOut w)
        && (vecUses (veFn w)).all (fun u => selOk (lget 0 [veX w, veY w, veZ w] u))
        && (decide (veFn w ≠ 11) || decide (veZ w % 16 ≤ fPARTIAL))
     else if op = opSFU then decide (sfFn w ≤ 6) && selOk (sfX w) && selOk (sfOut w)
     else if op = opCONV then decide (cvFmt w ≤ fPARTIAL) && selOk (cvX w) && selOk (cvOut w)
     else if op = opREDUCE then selOk (reX w) && selOk (reOut w)
     else true)

/-- The scale selector `x` of an operand with element selector `e` (R518). -/
def scaleSelOk (f sm x e : Nat) : Bool :=
  if fmtIsMx f then decide (x = e)
  else if fmtIsInt f then
    (if sm = 0 then decide (64 ≤ x) && decide (x < 80) else decide (x < 63) || (decide (80 ≤ x) && decide (x < 96)))
  else decide (x = 127)

/-- Reasons to refuse a STEPS program, each with the number of its word (R146, R516 to R518). -/
def stepFaults (ws : List Nat) (acfg : Option Nat) : List (Nat × Nat) :=
  let n := ((ws.takeWhile (fun w => decide (opOf w ≠ opEND))).length)
  let ix := (List.range ws.length).zip ws
  let loops := (ix.filter (fun (i, w) => decide (i < n) && decide (opOf w = opLOOP))).map (fun (i, w) => (i, i + 1 + loLen w))
  ix.flatMap (fun (i, w) =>
    if n < i then (if w = 0 then [] else [(i, 0x08)])
    else
      (if stepOkWord w then [] else [(i, 0x08)])
        ++ (match acfg with
            | some c => if opOf w = opTILE && !(scaleSelOk (acFmtA c) (acSmodeA c) (tiXA w) (tiSA w)
                && scaleSelOk (acFmtB c) (acSmodeB c) (tiXB w) (tiSB w)) then [(i, 0x0A)] else []
            | none => []))
    ++ loops.filterMap (fun (i, e) =>
        if decide (n < e) || loops.any (fun (j, f) => decide (j < i) && decide (i < f) && decide (f < e)) then some (i, 0x08)
        else none)

/-! ### Configuration tokens as a whole (R139, R140, R515) -/

/-- A configuration token of the image: offset, section it stands in (3 = ROUTES, 4 = SITES), payload. -/
structure ImgTok where
  off : Nat
  sec : Nat
  pay : Nat
  deriving DecidableEq, Repr

/-- The tokens of ROUTES and SITES. -/
def imTokens (b : List Byte) : List ImgTok :=
  [3, 4].flatMap (fun i => (imRecords b i 64).map (fun (o, r) => { off := o, sec := i, pay := leNat r }))

/-- Order of R140. -/
def tokOrder (t : ImgTok) : Nat :=
  ((cfgCol t.pay * 64 + cfgRow t.pay) * 32 + cfgSection t.pay) * 2 ^ 14 + cfgSeq t.pay

/-- The site a token names, as relative column × 64 + row. -/
def tokSite (t : ImgTok) : Nat := cfgCol t.pay * 64 + cfgRow t.pay

/-- An A-cell stands at a relative site (R16): column 0 of an exhibit is even on every placement. -/
def relIsA (x : Nat) : Bool := decide ((x / 64 + x % 64) % 2 = 0)

/-- Tokens that Table 4.6 gives a section; `none` for STEPS. -/
def secTokens (sec : Nat) : Option Nat :=
  match sec with
  | 1 | 2 | 5 => some 1
  | 3 | 4 => some 2
  | _ => none

/-- Faults of one token by itself: header bits, row, column, section (R515). -/
def tokFaults (nBays : Nat) (t : ImgTok) : List (Nat × Nat) :=
  let sec := cfgSection t.pay
  let a := relIsA (tokSite t)
  (if cfgDie t.pay ≠ 0 ∨ cfgZero t.pay ≠ 0 then [(t.off, 0x08)] else [])
    ++ (if sec = 0 ∨ secSTEPS < sec then [(t.off, 0x08)] else [])
    ++ (if decide (39 < cfgRow t.pay) || decide (4 * nBays ≤ cfgCol t.pay)
          || (decide (sec = secROUTE) != decide (t.sec = 3))
          || (a && decide (2 ≤ sec) && decide (sec ≤ 4)) || (!a && decide (5 ≤ sec)) || decide (cfgCount t.pay ≤ cfgSeq t.pay)
          || (match secTokens sec with
              | some n => decide (cfgCount t.pay ≠ n)
              | none => false)
        then [(t.off, 0x04)] else [])

/-- Faults of the order of tokens: strictly rising, each section whole from SEQ 0 under one COUNT (R140, R515). -/
def orderFaults : List ImgTok → List (Nat × Nat)
  | [] => []
  | [t] => if cfgSeq t.pay + 1 ≠ cfgCount t.pay then [(t.off, 0x04)] else []
  | t :: u :: ts =>
    let same := decide (tokSite t = tokSite u) && decide (cfgSection t.pay = cfgSection u.pay)
    (if tokOrder u ≤ tokOrder t then [(u.off, 0x04)] else [])
      ++ (if same then
            (if cfgSeq u.pay ≠ cfgSeq t.pay + 1 ∨ cfgCount u.pay ≠ cfgCount t.pay then [(u.off, 0x04)] else [])
          else (if cfgSeq t.pay + 1 ≠ cfgCount t.pay then [(t.off, 0x04)] else [])
            ++ (if cfgSeq u.pay ≠ 0 then [(u.off, 0x04)] else []))
      ++ orderFaults (u :: ts)

/-- Faults of one site's block. -/
def siteFaults (ts : List ImgTok) : List (Nat × Nat) :=
  match ts with
  | [] => []
  | t0 :: _ =>
    let a := relIsA (tokSite t0)
    let toks (sec : Nat) : List ImgTok := ts.filter (fun t => decide (cfgSection t.pay = sec))
    let at' (sec : Nat) : Nat := match toks sec with
      | t :: _ => t.off
      | [] => 0
    let cont (sec : Nat) : Option Nat :=
      if toks sec = [] then none else some (contentOf ((toks sec).map (fun t => cfgContent t.pay)))
    let ring := (cont secRING).getD 0
    let gens := [cont secAGEN0, cont secAGEN1]
    let tag (sec : Nat) (rs : List Nat) : List (Nat × Nat) := rs.map (fun r => (at' sec, r))
    let least := ((ts.map (fun t => t.off)).foldl min t0.off)
    (if (if a then 256 else 6) < ts.length then [(least, 0x10)] else [])
      ++ (if (cont secRING).isSome then tag secRING (ringFaults ring gens) else [])
      ++ [secAGEN0, secAGEN1].flatMap (fun sec => match cont sec with
          | some p => tag sec (genFaults p ring)
          | none => [])
      ++ (match cont secROUTE with
          | some c => tag secROUTE (routeFaults c a ring)
          | none => [])
      ++ (match cont secACFG with
          | some w => tag secACFG (acfgFaults w)
          | none => [])
      ++ (let st := toks secSTEPS
          let ws := st.flatMap (fun t => (List.range 7).map (fun i => bits (64 * i + 63) (64 * i) (cfgContent t.pay)))
          (stepFaults ws (cont secACFG)).map (fun (i, r) => (match st[i / 7]? with
            | some t => t.off
            | none => 0, r)))

/-! ### The image as a whole (R131 to R138, R148) -/

/-- Some byte of a record outside the named ranges is not zero. -/
def strayBytes (r : List Byte) (named : List (Nat × Nat)) : Bool :=
  ((List.range r.length).zip r).any (fun (i, b) =>
    decide (b ≠ 0) && !named.any (fun (o, n) => decide (o ≤ i) && decide (i < o + n)))

/-- Reasons to refuse a placard (R131, R136, R339). -/
def placardFaults (p : List Byte) (plc : Nat) (multicast : Bool) : List Nat :=
  let mhz := 300 + 25 * plClkRef p
  (if strayBytes p [(0, 2), (4, 0x38), (0x40, 0x10)] || decide (7 < plReserve p) then [0x08] else [])
    ++ (if decide (plReserve p % 4 ≠ 3) || (plc.testBit 2 && !(plReserve p).testBit 2)
          || decide (20 * mhz < plSegCyc p) || decide (2900 < plSwitchCyc p) || decide (36 < plClkRef p)
          || (multicast && decide (plMcastNs p = 0))
        then [0x0E] else [])

/-- Reasons to refuse a resource record (Table 4.4, R334). -/
def resourceFaults (r : List Byte) (plc : Nat) (all : List (List Byte)) : List Nat :=
  match leAt r 0 1 with
  | 1 => if strayBytes r [(0, 3)] || decide (31 < leAt r 1 1) || decide (31 < leAt r 2 1) then [0x08] else []
  | 2 => if strayBytes r [(0, 5)] || decide (15 < leAt r 1 1) || decide (fPARTIAL < leAt r 2 1) || decide (1 < leAt r 3 1)
          || decide (leAt r 4 1 = 0) || decide (6 < leAt r 4 1) then [0x08] else []
  | 3 =>
    (if strayBytes r [(0, 12)] || decide (1 < leAt r 2 1) || decide (1 < rmGateway r) || decide (63 < rmStream r) then [0x08]
     else [])
      ++ (if !plc.testBit (rmGateway r) || (remoteRecs all).any (fun o =>
            decide (rmStream o = rmStream r) && decide (rmGateway o ≠ rmGateway r)) then [0x05] else [])
  | _ => [0x08]

/-- An outbound stream that more than one record names (R339). -/
def isMulticast (all : List (List Byte)) : Bool :=
  !noDup (((remoteRecs all).filter rmOut).map rmStream)

/-- Every fault of step 5 of R148: offset and reason. -/
def itemFaults (b : List Byte) : List (Nat × Nat) :=
  let plc := imPlace b
  let recs := (imRecords b 1 16)
  let all := recs.map (fun x => x.2)
  let toks := imTokens b
  ((List.range 256).filterMap (fun o =>
      let rsv := (decide (0x3A ≤ o) && decide (o < 0x40)) || decide (0xA0 ≤ o)
        || (decide (0x40 ≤ o) && decide (o < 0xA0) && decide (2 ≤ o % 16) && decide (o % 16 < 4))
      if rsv && decide (leAt b o 1 ≠ 0) then some (o, 0x08) else none))
    ++ (if 7 < plc then [(0x32, 0x08)] else [])
    ++ (if 3 < imKind b then [(0x33, 0x08)] else [])
    ++ (placardFaults (imSection b 0) plc (isMulticast all)).map (fun r => (imSecOff b 0, r))
    ++ recs.flatMap (fun (o, r) => (resourceFaults r plc all).map (fun x => (o, x)))
    ++ (imRecords b 2 16).flatMap (fun (o, r) => if strayBytes r [(0, 9), (10, 6)] then [(o, 0x08)] else [])
    ++ toks.flatMap (tokFaults (imBays b))
    ++ [3, 4].flatMap (fun i => orderFaults (toks.filter (fun t => decide (t.sec = i))))
    ++ (dedup (toks.map tokSite)).flatMap (fun x => siteFaults (toks.filter (fun t => decide (tokSite t = x))))

/-- The first fault in offset order, the lowest reason of one item (R148). -/
def firstFaultOf (fs : List (Nat × Nat)) : Option (Nat × Nat) := minBy (fun (o, r) => o * 256 + r) fs

/-- The section table's first fault (R131, Table 4.2): offset of its entry. -/
def sectionFault (b : List Byte) : Option Nat :=
  ((List.range 6).find? (fun i =>
    let sz := imSecBytes b i
    let prev := if i = 0 then 256 else imSecOff b (i - 1) + imSecBytes b (i - 1)
    decide (imSecType b i ≠ i + 1) || decide (imSecOff b i % 64 ≠ 0) || decide (imSecOff b i < prev)
      || decide (imImageBytes b < imSecOff b i + sz)
      || (match i with
          | 0 => decide (sz ≠ 128)
          | 1 | 2 => decide (sz % 16 ≠ 0)
          | 3 | 4 => decide (sz % 64 ≠ 0)
          | _ => false))).map (fun i => 0x40 + 16 * i)

/-- The digest of an image (R132). -/
def imageDigest (b : List Byte) : List Byte :=
  sha256 (b.take 0x10 ++ List.replicate 32 0 ++ byteSlice b 0x30 (imSecOff b 5 - 0x30)
    ++ byteSlice b (imSecOff b 5 + imSecBytes b 5) (imImageBytes b - (imSecOff b 5 + imSecBytes b 5)))

/-- A key slot as the signature check sees it (R460). -/
structure KeySlot where
  valid : Bool
  id : Nat
  tenants : Nat
  hash : List Byte
  deriving DecidableEq, Repr

/-- The signature of an image of tenant `t`: `none` = does not verify, otherwise whether the image counts as signed
(R459, R460). -/
def imageSigned (b : List Byte) (slots : List KeySlot) (t : Nat) : Option Bool :=
  if imSecBytes b 5 = 0 then some false
  else
    let sig := imSection b 5
    match slots.find? (fun k => k.valid && decide (k.id = leAt sig 0 4) && k.tenants.testBit t) with
    | some k => if sigBlockOk k.hash (imDigest b) (sig.drop 0x10) then some true else none
    | none => some false

/-- The image as the loader keeps it, or the reason and offset of its refusal (R148). `b` are the bytes of the image
object and `req` says that the tenant's exhibits must be signed. -/
def checkImage (addr : Nat) (b : List Byte) (slots : List KeySlot) (t : Nat) (req : Bool) : Except (Nat × Nat) Image :=
  if b.length < 256 ∨ leAt b 0 4 ≠ 0x5845564C ∨ leAt b 4 2 ≠ 1 ∨ leAt b 6 2 ≠ 0x100 ∨ imImageBytes b < 256
      ∨ b.length < imImageBytes b then .error (0x01, 0)
  else match sectionFault b with
    | some o => .error (0x04, o)
    | none =>
      if firstBays (imBays b) (imSeam b) (imPlace b % 4) = [] then .error (0x05, 0x30)
      else if imageDigest b ≠ imDigest b then .error (0x02, 0)
      else match imageSigned b slots t with
        | none => .error (0x03, 0)
        | some signed =>
          if req && !signed then .error (0x03, 0)
          else match firstFaultOf (itemFaults b) with
            | some (o, r) => .error (r, o)
            | none => .ok {
                addr := addr, bytes := imImageBytes b, digest := imDigest b, signed := signed, nBays := imBays b,
                seam := imSeam b, place := imPlace b, kind := imKind b, collection := imCollection b, wdogUs := imWdog b,
                placard := imSection b 0, recs := (imRecords b 1 16).map (fun x => x.2),
                marks := (imRecords b 2 16).map (fun x => x.2), tokens := (imTokens b).map (fun t => t.pay) }

end Sys2Proof.Machine
end

