-- ==== Sys2Proof/Machine/Exhibit.lean ====
section
/-!
DEFINITION. Meanings of the exhibit loader's commands (chapter 04): loading, replacement, release, split groups, the
watchdog register.
-/

namespace Sys2Proof.Machine

/-! ### Verification (R148, R459 to R461) -/

/-- A key slot (SEC_KEY registers; word `w` of slot `i` is entry 4i + w of SEC_KEY_WORD). -/
def State.keySlot (s : State) (i : Nat) : KeySlot :=
  { valid := s.flag rSEC_KEY_CTL 63 i, id := s.fld rSEC_KEY_CTL 31 0 i, tenants := (s.reg rSEC_KEY_TEN i).toNat,
    hash := (List.range 4).flatMap (fun w => leBytes 8 (s.reg rSEC_KEY_WORD (4 * i + w)).toNat) }

/-- An image is refused: EXH_REFUSE, EXH_ERR.REFUSED or SEC_ERR.EXH_SIG, a class B incident, SHAPE_INVALID with the
reason (R148, R460). -/
def refuseImage (id reason off : Nat) : Act :=
  .dyn fun s => withSome (s.cmd id) fun c => seqs [
    setReg rEXH_REFUSE (off * 2 ^ 16 + reason),
    if reason = 0x03 then .seq (orReg rEXH_ERR 1)
      (incident { cls := .B, blk := blkSEC, code := 4, status := Status.shapeInvalid.code, tenant := some c.tenant })
    else incident { cls := .B, blk := blkEXH, code := 0, status := Status.shapeInvalid.code, tenant := some c.tenant },
    complete id .shapeInvalid noIdx reason]

/-- Verified-image entries that a load uses. -/
def State.entriesUsed (s : State) : List Nat :=
  ((List.range 16).filter (fun h => decide ((s.load h).st ≠ .free))).flatMap (fun h =>
    (s.load h).entry :: (match (s.load h).repl with
      | some r => [r.entry]
      | none => []))

/-- The entry that a newly verified image takes: an unused one, else the oldest that no load uses. -/
def State.newEntry (s : State) : Nat :=
  match (List.range 32).find? (fun e => !(s.imgEntry e).valid) with
  | some e => e
  | none => (minBy (fun e => (s.imgEntry e).stamp) ((List.range 32).filter (fun e => !s.entriesUsed.contains e))).getD 0

/-- Keep a verified image. -/
def keepImage (e : Nat) (im : Image) : Act :=
  .dyn fun s => .seq (.upd (.imgEntry e { valid := true, image := im, stamp := s.imgStamp }))
    (.upd (.imgStamp (s.imgStamp + 1)))

/-- Find or verify the image of an EXHIBIT_LOAD (R148, R299), and go on with its entry number and the image. -/
def withImage (id : Nat) (c : Cmd) (f : Nat → Nat → Image → Act) : Act :=
  .dyn fun s =>
    let addr := leAt c.desc 0x10 6
    match s.copyAt addr with
    | none => complete id .shapeInvalid noIdx
    | some i => withSome (s.obj i) fun o =>
      if !o.whole || decide (o.owner ≠ c.tenant) then complete id .shapeInvalid noIdx
      else match (List.range 32).find? (fun e => (s.imgEntry e).valid && decide ((s.imgEntry e).image.addr = addr)
          && decide ((s.imgEntry e).image.digest = s.bytes (addr + 0x10) 32)) with
        | some e => f i e (s.imgEntry e).image
        | none =>
          match checkImage addr (s.bytes addr o.size) ((List.range 8).map s.keySlot) c.tenant (s.flag rSEC_EXH_REQ c.tenant) with
          | .error (reason, off) => refuseImage id reason off
          | .ok im => f i s.newEntry im

/-! ### The configuration path (R139, R149, R154) -/

/-- The site of a configuration token of an image placed at first bay `b`. -/
def placedSite (b p : Nat) : Nat :=
  let bay := b + cfgCol p / 4
  mkKey (bay / 8) (cfgRow p) (4 * (bay % 8) + cfgCol p % 4)

/-- The token as the loader sends it: DIE and COL written, LAST on the last token of its site's block. -/
def placedToken (b p : Nat) (last : Bool) : Token :=
  let k := placedSite b p
  Tok.make (setBits 504 499 (setBits 511 511 p (keyDie k)) (keyCol k)) last kindConfig 63 0 false

/-- Wire key of the configuration path's entry for a site (R154). -/
def pathEntry (k : Nat) : Nat := mkKey (keyDie k) (if keyRow k < 20 then 0 else 39) (keyCol k) * 16 + 15

/-- Send tokens of an image down the configuration paths. -/
def sendTokens (b : Nat) : List Nat → Act
  | [] => .nop
  | p :: ps => .seq
      (modWire (pathEntry (placedSite b p)) (fun w =>
        w ++ [placedToken b p (!ps.any (fun q => decide (placedSite b q = placedSite b p)))]))
      (sendTokens b ps)

/-- The site that a path serves before site `k`, from its docent (R154); `none` at the path's entry. -/
def pathBefore (k : Nat) : Option Nat :=
  if keyRow k = 0 ∨ keyRow k = 39 then none
  else if keyRow k < 20 then some (mkKey (keyDie k) (keyRow k - 1) (keyCol k))
  else some (mkKey (keyDie k) (keyRow k + 1) (keyCol k))

/-- The token that the path offers to a site, and what takes it. -/
def State.pathHead (s : State) (k : Nat) : Option (Token × Act) :=
  match pathBefore k with
  | none => match s.wire (k * 16 + 15) with
    | t :: rest => some (t, .upd (.wire (k * 16 + 15) rest))
    | [] => none
  | some y => match (s.site y).cfgQ with
    | t :: rest => some (t, modSite y (fun x => { x with cfgQ := rest }))
    | [] => none

/-- CONFIG_TOKEN_ARRIVE: a token that names the site is staged, another is forwarded while the queue of 8 has room. -/
def configTokenA (k : Nat) : Act :=
  .dyn fun s => withSome (s.pathHead k) fun (t, take) =>
    let p := t.payload.toNat
    if mkKey (cfgDie p) (cfgRow p) (cfgCol p) = k then .seq take (modSite k (fun x => { x with staged := x.staged ++ [t] }))
    else if (s.site k).cfgQ.length < 8 then .seq take (modSite k (fun x => { x with cfgQ := x.cfgQ ++ [t] }))
    else .nop

/-- CONFIG_TOKEN_ARRIVE (R154). -/
def execConfigTokenArrive (site : Site) (s : State) : Host.Outcome State Fault Refusal :=
  .next (run (configTokenA (siteKey site)) s)

/-- Configuration tokens of load `h` are still on their way. -/
def State.inTransit (s : State) (h : Nat) : Bool :=
  (s.loadSites h).any (fun k => decide ((s.site k).cfgQ ≠ []) || decide (s.wire (k * 16 + 15) ≠ []))

/-! ### EXHIBIT_LOAD (R147 to R149, R312, R337) -/

/-- Bays of the enabled slice sets. -/
def State.slicedBays (s : State) : Nat :=
  ((List.range 4).filter (fun g => s.flag rTEN_SLICE_CFG 63 g)).foldl (fun m g => m ||| s.fld rTEN_SLICE_CFG 15 0 g) 0

/-- A load may be placed at first bay `b`. -/
def State.canPlace (s : State) (b n : Nat) : Bool :=
  (List.range n).all (fun i => decide ((s.bay (b + i)).st = .idle) && decide ((s.bay (b + i)).act = .none)
    && !s.slicedBays.testBit (b + i))

/-- The bays of a placement at first bay `b`. -/
def bayRun (b n : Nat) : Nat := maskOf ((List.range n).map (fun i => b + i))

/-- The first bay of a placement (R133, R149). -/
def State.placement (s : State) (im : Image) (mask : Nat) : Option Nat :=
  (firstBays im.nBays im.seam (im.place % 4)).find? (fun b =>
    s.canPlace b im.nBays && (decide (mask = 0) || decide (mask = bayRun b im.nBays)))

/-- Credits of inbound streams at a gateway that an image declares (R337). -/
def Image.inbound (im : Image) (gw : Nat) : Nat :=
  (((remoteRecs im.recs).filter (fun r => !rmOut r && decide (rmGateway r = gw))).map rmCredits).sum

/-- The image fits the gateways' inbound stores beside the loads placed now (R337). -/
def State.storeFits (s : State) (im : Image) : Bool :=
  [0, 1].all (fun gw => decide (im.inbound gw
    + ((List.range 16).map (fun h => if (s.load h).st = .free then 0 else (s.load h).image.inbound gw)).sum ≤ 262144))

/-- The lowest FREE handle. -/
def State.freeHandle (s : State) : Option Nat := (List.range 16).find? (fun h => decide ((s.load h).st = .free))

/-- The copy cannot take one more pin (R198). -/
def State.pinFull (s : State) (i : Nat) : Bool :=
  match s.obj i with
  | some o => decide (255 ≤ o.pin)
  | none => true

/-- Give `n` bays from `b` to load `h`: epoch 0, ALLOCATED, fences open between them (R149). -/
def takeBays (h b n : Nat) : Act :=
  .seq (each (List.range n) (fun i => .upd (.bay (b + i) { st := .allocated, load := some h, epoch := 0 }))) setFences

/-- EXHIBIT_LOAD without REPLACE or SLICED. -/
def exhibitLoadA (id : Nat) : Act :=
  .dyn fun s => withSome (s.takes id opcEXLOAD) fun c =>
    if (leAt c.desc 0x18 1).testBit 7 || (leAt c.desc 0x19 1).testBit 0 || s.holds c.tenant || s.stilled then .nop
    else withImage id c fun copy e im =>
      match s.freeHandle, s.placement im (leAt c.desc 0x16 2) with
      | some h, some b =>
        if s.pinFull copy || !s.storeFits im then complete id .busy noIdx
        else seqs [
          takeCmd id, keepImage e im, pinCopy copy,
          .upd (.load h { st := .loading, tenant := c.tenant, bays := bayRun b im.nBays, entry := e, image := im,
                          loadCmd := some id }),
          takeBays h b im.nBays,
          sendTokens b im.tokens]
      | _, _ => complete id .busy noIdx

/-- EXHIBIT_LOAD (R147 to R149, R299, R312, R337, R380). -/
def execExhibitLoad (cmd : Nat) (s : State) : Host.Outcome State Fault Refusal := .next (run (exhibitLoadA cmd) s)

/-- Every site of a load takes its staged block into use at epoch `e`: route slots and cell. -/
def installLoad (h e : Nat) : Act :=
  .dyn fun s => each (s.loadSites h) (fun k => .dyn fun s => .seq
    (each (blockSlots (s.site k).staged e) (fun (p : Nat × Slot) => liveSlot k p.1 p.2)) (installCell k e))

/-- LOAD_CONFIGURED: every site holds its block; a release that came meanwhile follows. -/
def loadConfiguredA (h : Nat) : Act :=
  .dyn fun s =>
    if decide ((s.load h).st = .loading) && !s.inTransit h then seqs [
      installLoad h 0,
      modLoad h (fun l => { l with st := .ready, loadCmd := none }),
      withSome (s.load h).loadCmd (fun id => complete id .ok h),
      when' (s.load h).relCmd.isSome (releaseLoad h)]
    else .nop

/-- LOAD_CONFIGURED (R149, R151). -/
def execLoadConfigured (load : Fin 16) (s : State) : Host.Outcome State Fault Refusal :=
  .next (run (loadConfiguredA load.val) s)

/-! ### EXHIBIT_LOAD with SLICED (R314, R315) -/

/-- The slice set of a tenant. -/
def State.setOf (s : State) (t : Nat) : Nat := s.fld rTEN_CTL 56 55 t

/-- The lowest bay of a mask. -/
def lowBay (m : Nat) : Nat := ((bitsOn 16 m).head?).getD 0

/-- EXHIBIT_LOAD with SLICED: a READY load that holds no bays. -/
def exhibitLoadSlicedA (id : Nat) : Act :=
  .dyn fun s => withSome (s.takes id opcEXLOAD) fun c =>
    if (leAt c.desc 0x18 1).testBit 7 || !(leAt c.desc 0x19 1).testBit 0 || s.holds c.tenant || s.stilled then .nop
    else withImage id c fun copy e im =>
      let m := s.fld rTEN_SLICE_CFG 15 0 (s.setOf c.tenant)
      if decide (popCount 16 m ≠ im.nBays) || !(firstBays im.nBays im.seam (im.place % 4)).contains (lowBay m) then
        refuseImage id 0x05 0
      else match s.freeHandle with
        | some h =>
          if s.pinFull copy || !s.storeFits im
              || (List.range 16).any (fun j => decide ((s.load j).st ≠ .free) && (s.load j).sliced && decide ((s.load j).tenant = c.tenant))
          then complete id .busy noIdx
          else seqs [
            keepImage e im, pinCopy copy,
            .upd (.load h { st := .ready, tenant := c.tenant, entry := e, image := im, sliced := true }),
            complete id .ok h]
        | none => complete id .busy noIdx

/-- EXHIBIT_LOAD_SLICED (R148, R314, R315). -/
def execExhibitLoadSliced (cmd : Nat) (s : State) : Host.Outcome State Fault Refusal :=
  .next (run (exhibitLoadSlicedA cmd) s)

/-! ### EXHIBIT_LOAD with REPLACE (R152 to R155) -/

/-- Begin the staging of a replacement on the bays of load `h`. -/
def stageRepl (h copy e : Nat) (im : Image) (cmd : Option Nat) : Act :=
  .dyn fun s => seqs [
    keepImage e im, pinCopy copy,
    modLoad h (fun l => { l with
      repl := some { cmd := cmd, entry := e, image := im, phase := .staging },
      waiting := l.waiting ++ cmd.toList,
      st := if l.st = .ready then .replacing else l.st }),
    sendTokens (lowBay (s.load h).bays) im.tokens]

/-- EXHIBIT_LOAD with REPLACE. -/
def exhibitLoadReplaceA (id : Nat) : Act :=
  .dyn fun s => withSome (s.takes id opcEXLOAD) fun c =>
    let h := leAt c.desc 0x18 1 % 16
    let ld := s.load h
    if !(leAt c.desc 0x18 1).testBit 7 || s.holds c.tenant || s.stilled || ld.repl.isSome then .nop
    else if ld.st = .free then complete id .shapeInvalid noIdx
    else if ld.st = .releasing then .seq (takeCmd id) (modLoad h (fun l => { l with waiting := l.waiting ++ [id] }))
    else withImage id c fun copy e im =>
      let mask := leAt c.desc 0x16 2
      if decide (ld.tenant ≠ c.tenant) || ld.sliced || (leAt c.desc 0x19 1).testBit 0 || decide (ld.st = .loading)
          || decide (popCount 16 ld.bays ≠ im.nBays) || !(firstBays im.nBays im.seam (im.place % 4)).contains (lowBay ld.bays)
          || (decide (mask ≠ 0) && decide (mask ≠ ld.bays)) || decide (remoteRecs im.recs ≠ [])
          || decide (remoteRecs ld.image.recs ≠ []) then
        refuseImage id 0x0F 0
      else if s.pinFull copy then complete id .busy noIdx
      else .seq (takeCmd id) (stageRepl h copy e im (some id))

/-- EXHIBIT_LOAD_REPLACE (R148, R152, R153). -/
def execExhibitLoadReplace (cmd : Nat) (s : State) : Host.Outcome State Fault Refusal :=
  .next (run (exhibitLoadReplaceA cmd) s)

/-- The epoch marker from `old` to the next epoch on a stream (R156). -/
def marker (stream old : Nat) : Token := Tok.make (old + 16 * ((old + 1) % 16)) false kindMarker stream old false

/-- Streams that an A-cell's program reads (R157). -/
def stepInputs (w : Nat) : List Nat :=
  (if opOf w = opTILE then [tiSA w, tiSB w, tiXA w, tiXB w, tiPin w]
    else if opOf w = opVEC then (vecUses (veFn w)).map (fun u => lget 0 [veX w, veY w, veZ w] u)
    else if opOf w = opSFU then [sfX w]
    else if opOf w = opCONV then [cvX w]
    else if opOf w = opREDUCE then [reX w]
    else []).filter (fun x => decide (x ≤ 62))

/-- Streams that an A-cell's program writes. -/
def stepOutputs (w : Nat) : List Nat :=
  (if opOf w = opTILE then [tiOut w]
    else if opOf w = opVEC then [veOut w]
    else if opOf w = opSFU then [sfOut w]
    else if opOf w = opCONV then [cvOut w]
    else if opOf w = opREDUCE then [reOut w]
    else []).filter (fun x => decide (x ≤ 62))

/-- Active inputs of a cell: the streams that its old configuration reads (R157). -/
def State.cellInputs (s : State) (k : Nat) : List Nat :=
  if keyIsA k then dedup ((s.acell k).steps.flatMap stepInputs)
  else dedup ((s.scell k).gens.filterMap (fun g => g.prog.bind (fun p => if agMode p = modeFABWR then some (agStream p) else none)))

/-- Streams that a cell writes. -/
def State.cellOutputs (s : State) (k : Nat) : List Nat :=
  if keyIsA k then dedup ((s.acell k).steps.flatMap stepOutputs)
  else dedup ((s.scell k).gens.filterMap (fun g => g.prog.bind (fun p => if agMode p = modeFABRD then some (agStream p) else none)))

/-- Every active input of the cell has had its marker: the cell sends its markers, an A-cell's outputs now (an S-cell
sent its own as a source), and installs its staged block (R155, R157). -/
def switchCell (k : Nat) : Act :=
  .dyn fun s =>
    let e := s.cellEpoch k
    let marked := if keyIsA k then (s.acell k).marked else (s.scell k).marked
    if (s.site k).switching && decide (e = (s.bay (keyBay k)).epoch) && (s.cellInputs k).all (fun st => marked.testBit st) then
      seqs [
        when' (keyIsA k) (each (s.cellOutputs k) (fun st => cellPut k st (marker st e))),
        installCell k ((e + 1) % 16),
        settleSite k]
    else .nop

/-- Edge inputs of a site that its route slots name: each is an edge feed (R155). -/
def State.edgeFeeds (s : State) (k : Nat) : List (Nat × Nat) :=
  (s.slotsOf k).filterMap (fun (p : Nat × Slot) =>
    if p.2.inp < 8 ∧ neighbour k p.2.inp = none then some (p.2.inp, p.2.stream) else none)

/-- REPLACE_CLOSE: at the command boundary, with staging complete, the sources of the old configuration send their
markers; every site is to switch to its staged slots and block. -/
def replaceCloseA (h : Nat) : Act :=
  .dyn fun s => withSome (s.load h).repl fun r =>
    let ld := s.load h
    if decide (r.phase = .staging) && ld.cmd.isNone && !s.inTransit h && s.loadWhole h && !s.stilled
        && (r.cmd.isNone || decide (ld.waiting.head? = r.cmd)) then
      seqs [
        modLoad h (fun l => { l with repl := some { r with phase := .closing } }),
        each (s.loadSites h) (fun k => .dyn fun s => .seq
          (modSite k (fun x => { x with switching := true }))
          (each (blockSlots (s.site k).staged (((s.bay (keyBay k)).epoch + 1) % 16)) (fun (p : Nat × Slot) =>
            .upd (.newSlot (slotKey k p.1 p.2.epoch) (some p.2))))),
        each (s.loadSites h) (fun k => .dyn fun s =>
          let e := (s.bay (keyBay k)).epoch
          .seq (when' (!keyIsA k) (each (s.cellOutputs k) (fun st => cellPut k st (marker st e))))
            (each (s.edgeFeeds k) (fun (p : Nat × Nat) => modWire (k * 16 + p.1) (fun w => w ++ [marker p.2 e])))),
        each (s.loadSites h) (fun k => .seq (settleSlots k) (switchCell k))]
    else .nop

/-- REPLACE_CLOSE (R155, R156, R158). -/
def execReplaceClose (load : Fin 16) (s : State) : Host.Outcome State Fault Refusal :=
  .next (run (replaceCloseA load.val) s)

/-- The cell takes a marker from its local port: a stale one stops it, otherwise the input is done and, with every
active input done, the cell switches (R157, R161). -/
def markerAtCell (k st : Nat) : Act :=
  .dyn fun s =>
    match s.arrived (k * 64 + st) with
    | [] => .nop
    | t :: rest =>
      let stop := if keyIsA k then (s.acell k).stopped else (s.scell k).stopped
      if Tok.kind t ≠ kindMarker ∨ stop ∨ !(s.bay (keyBay k)).passes then .nop
      else if Tok.epoch t ≠ s.cellEpoch k ∨ bits 3 0 t.payload.toNat ≠ s.cellEpoch k then staleFault k st
      else seqs [
        popPort k st rest,
        (if keyIsA k then modAcell k (fun a => { a with marked := a.marked ||| (1 <<< st) })
          else modScell k (fun c => { c with marked := c.marked ||| (1 <<< st) })),
        switchCell k]

/-- EPOCH_MARKER: a marker reaches a route slot (input 0 to 7) or the cell of the site (input 8). -/
def epochMarkerA (site : Site) (inp : Fin 9) (stream : Fin 64) : Act :=
  let k := siteKey site
  .dyn fun s =>
    if inp.val = 8 then markerAtCell k stream.val
    else match s.inbound k inp.val none with
      | some (t, _) =>
        if Tok.kind t = kindMarker ∧ Tok.stream t = stream.val then tokenHopA site inp none { payload := 0, sb := 0 }
        else .nop
      | none => .nop

/-- EPOCH_MARKER (R156 to R161). -/
def execEpochMarker (site : Site) (input : Fin 9) (stream : Fin 64) (s : State) : Host.Outcome State Fault Refusal :=
  .next (run (epochMarkerA site input stream) s)

/-- SWITCH_SLOW: a bay has been SWITCHING for 10 µs. -/
def switchSlowA (b : Nat) : Act :=
  whenS (fun s => decide ((s.bay b).st = .switching))
    (.dyn fun s => incident { cls := .A, blk := blkEXH, code := 3, tenant := (s.bay b).load.map (fun h => (s.load h).tenant) })

/-- SWITCH_SLOW (R159). -/
def execSwitchSlow (bay : Fin 16) (s : State) : Host.Outcome State Fault Refusal := .next (run (switchSlowA bay.val) s)

/-! ### EXHIBIT_RELEASE (R150, R300) -/

/-- EXHIBIT_RELEASE without FORCE. -/
def exhibitReleaseA (id : Nat) : Act :=
  .dyn fun s => withSome (s.takes id opcEXREL) fun c =>
    let h := leAt c.desc 0x1A 1 % 16
    let ld := s.load h
    if (leAt c.desc 0x19 1).testBit 1 then .nop
    else if ld.st = .free ∨ ld.tenant ≠ c.tenant then complete id .shapeInvalid h
    else if s.inService h then complete id .busy h
    else if ld.st = .releasing ∨ ld.relCmd.isSome then .seq (takeCmd id) (modLoad h (fun l => { l with waiting := l.waiting ++ [id] }))
    else .seq (takeCmd id) (.seq (modLoad h (fun l => { l with relCmd := some id }))
      (if ld.st = .loading then .nop
       else .seq (modLoad h (fun l => { l with st := .releasing }))
        (if ld.cmd.isNone && (match ld.repl with
              | some r => decide (r.phase = .staging)
              | none => true) then releaseLoad h else .nop)))

/-- EXHIBIT_RELEASE (R150, R245, R297, R300). -/
def execExhibitRelease (cmd : Nat) (s : State) : Host.Outcome State Fault Refusal := .next (run (exhibitReleaseA cmd) s)

/-- EXHIBIT_RELEASE with FORCE: a RELEASING load's command in progress is aborted; it is never held. -/
def exhibitReleaseForceA (id : Nat) : Act :=
  .dyn fun s => withSome (s.takes id opcEXREL) fun c =>
    let h := leAt c.desc 0x1A 1 % 16
    let ld := s.load h
    if !(leAt c.desc 0x19 1).testBit 1 then .nop
    else if ld.st = .free ∨ ld.tenant ≠ c.tenant then complete id .shapeInvalid h
    else if ld.st ≠ .releasing then .seq (incident { cls := .A, blk := blkEXH, code := 0xFF, tenant := some c.tenant }) (complete id .busy h)
    else if ld.cmd.isNone then complete id .ok h
    else seqs [takeCmd id, modLoad h (fun l => { l with relForce := some id }), endWith h rankABORT]

/-- EXHIBIT_RELEASE_FORCE (R300, R324). -/
def execExhibitReleaseForce (cmd : Nat) (s : State) : Host.Outcome State Fault Refusal :=
  .next (run (exhibitReleaseForceA cmd) s)

/-! ### Split groups (R165, R166, R253) -/

/-- Prompt tokens of admitted requests of a group not yet in prefill (R166). -/
def State.backlog (s : State) (g : Nat) : Nat :=
  ((s.reqIds.filter (fun i => decide ((s.req i).ph = .waiting) && s.svcSplit (s.req i).svc
    && decide (s.svcGroup (s.req i).svc = g))).map (fun i => (s.req i).prompt)).sum

/-- The target of a group at the start of a window (R166). -/
def State.splitTarget (s : State) (g : Nat) : Nat :=
  if s.flag rEXH_SPLIT_CTL 62 g then
    let n := s.splitCount g
    let per := s.fld rEXH_SPLIT_CTL 31 0 g
    let t := if per = 0 then Config.splitAtZero (s.backlog g) else cdiv (s.backlog g) per
    max (s.fld rEXH_SPLIT_CTL 52 48 g) (min t (n - s.fld rEXH_SPLIT_CTL 47 43 g))
  else s.fld rEXH_SPLIT_CTL 42 38 g

/-- Some request is assigned to the decode bay at place `r` of group `g` (R253). -/
def State.bayAssigned (s : State) (g r : Nat) : Bool :=
  s.reqIds.any (fun i => s.svcSplit (s.req i).svc && decide (s.svcGroup (s.req i).svc = g)
    && (((s.req i).slot.isSome && decide ((s.req i).pool = r)) || (decide ((s.req i).ph = .prefill) && decide ((s.req i).prePool = r))))

/-- The load controller may move the bay at place `r` of group `g`: it is ALLOCATED at rest, its load has no command
and no request is assigned to it (R166, R253). -/
def State.bayMovable (s : State) (g r : Nat) : Bool :=
  match s.bayLoad (s.splitFirst g + r) with
  | some h => s.loadWhole h && decide ((s.load h).st = .ready) && decide ((s.load h).waiting = []) && (s.load h).repl.isNone
      && !s.bayAssigned g r
  | none => false

/-- Move the bay at place `r` of group `g` to the exhibit of entry `e`, or let the window pass. -/
def moveBay (g r e : Nat) : Act :=
  .dyn fun s =>
    let b := s.splitFirst g + r
    match s.bayLoad b, s.copyAt (s.imgEntry e).image.addr with
    | some h, some copy =>
      if s.bayMovable g r && (s.imgEntry e).valid && !s.pinFull copy then
        .seq (modSplit g (fun x => { x with last := b, moves := sat 27 (x.moves + 1) })) (stageRepl h copy e (s.imgEntry e).image none)
      else setErr blkEXH 4
    | _, _ => setErr blkEXH 4

/-- SPLIT_WINDOW: each enabled group computes its target and moves at most one bay. -/
def splitWindowA : Act :=
  each (List.range 4) (fun g => .dyn fun s =>
    if s.splitOn g && !s.stilled then
      let t := s.splitTarget g
      let p := s.groupP g
      .seq (modSplit g (fun x => { x with target := t }))
        (if p < t then (if p < s.splitCount g then moveBay g p (s.fld rEXH_SPLIT_IMG 4 0 g) else .nop)
         else if t < p then moveBay g (p - 1) (s.fld rEXH_SPLIT_IMG 9 5 g)
         else .nop)
    else .nop)

/-- SPLIT_WINDOW (R166, R253). -/
def execSplitWindow (s : State) : Host.Outcome State Fault Refusal := .next (run splitWindowA s)

/-- An image may serve in a split group with `other` (R165). -/
def splitImageOk (im other : Image) : Bool :=
  decide (im.nBays = 1) && im.place.testBit 2 && decide (remoteRecs im.recs = []) && decide (im.collection = other.collection)

/-- Group `g` as its registers set it meets R165: contiguous bays, each its own one-bay load of one tenant running one of
the two exhibits, the prefill bays lowest. -/
def State.splitOk (s : State) (g : Nat) : Bool :=
  let n := s.splitCount g
  let pre := s.imgEntry (s.fld rEXH_SPLIT_IMG 4 0 g)
  let dec := s.imgEntry (s.fld rEXH_SPLIT_IMG 9 5 g)
  let loads := (s.groupBays g).map s.bayLoad
  decide (2 ≤ n) && decide (n ≤ 16) && decide (s.splitFirst g + n ≤ 16) && decide (1 ≤ s.fld rEXH_SPLIT_CTL 52 48 g)
    && decide (1 ≤ s.fld rEXH_SPLIT_CTL 47 43 g) && pre.valid && dec.valid
    && splitImageOk pre.image dec.image && splitImageOk dec.image pre.image
    && loads.all (fun x => match x with
        | some h => (decide ((s.load h).entry = s.fld rEXH_SPLIT_IMG 4 0 g) || decide ((s.load h).entry = s.fld rEXH_SPLIT_IMG 9 5 g))
            && loads.all (fun y => match y with
                | some j => decide ((s.load h).tenant = (s.load j).tenant)
                | none => false)
        | none => false)
    && (List.range n).all (fun r => decide (s.bayPrefills g (s.splitFirst g + r) = decide (r < s.groupP g)))

/-- A write to EXH_SPLIT_CTL of the selected group. -/
def writeSplitCtl (v : Nat) : Act :=
  .dyn fun s =>
    let g := s.fld rEXH_SPLIT_SEL 1 0
    let old := (s.reg rEXH_SPLIT_CTL g).toNat
    let new := if s.splitOn g then setBits 42 38 (setBits 63 62 old (bits 63 62 v)) (bits 42 38 v) else v
    .seq (setReg rEXH_SPLIT_CTL new g)
      (.dyn fun s' =>
        if new.testBit 63 && !s.splitOn g then
          if s'.splitOk g then .upd (.split g {})
          else .seq (setFld rEXH_SPLIT_CTL 63 63 0 g) (incA blkEXH 4 rEXH_SPLIT_CTL)
        else .nop)

/-- EXH_SPLIT_CTL_WRITE (R165, EXH_SPLIT_CTL). -/
def execExhSplitCtlWrite (v : Word) (s : State) : Host.Outcome State Fault Refusal :=
  .next (run (regDo (.exhSplitCtlWrite v) rEXH_SPLIT_CTL v.toNat writeSplitCtl) s)

/-- A write to EXH_WDOG: a period below 10 is taken as 10, with a class A incident. -/
def writeWdog (v : Nat) : Act :=
  .seq (setReg rEXH_WDOG (max 10 (bits 15 0 v))) (when' (decide (bits 15 0 v < 10)) (incA blkEXH 0xFF rEXH_WDOG))

/-- EXH_WDOG_WRITE (R164, EXH_WDOG). -/
def execExhWdogWrite (v : Word) (s : State) : Host.Outcome State Fault Refusal :=
  .next (run (regDo (.exhWdogWrite v) rEXH_WDOG v.toNat writeWdog) s)

end Sys2Proof.Machine
end

