-- ==== Sys2Proof/Machine/Clock.lean ====
section
/-!
DEFINITION. Module time: steps, slews, the slow rate, offsets to the parent and TIME_PPS (R361, R362, R502).
-/

namespace Sys2Proof.Machine

/-- Nanoseconds at the full rate for each nanosecond slewed: ±100 ppm (R361; assumption log 52). -/
def slewPeriod : Nat := 10000

/-- One nanosecond of REFCLK passes: module time moves on by one, by one more or less where a slew is due, by a quarter
while it waits for the value below it (R361). -/
def timeTick : Act :=
  .dyn fun s =>
    if 0 < s.timeBehind then
      seqs [
        .upd (.timeBehind (s.timeBehind - 3)),
        (if s.timeFrac = 3 then .seq (.upd (.timeFrac 0)) (.upd (.now (s.now + 1))) else .upd (.timeFrac (s.timeFrac + 1)))]
    else if s.slewLeft = 0 then .upd (.now (s.now + 1))
    else if s.slewFrac + 1 < slewPeriod then .seq (.upd (.slewFrac (s.slewFrac + 1))) (.upd (.now (s.now + 1)))
    else if 0 < s.slewLeft then
      seqs [.upd (.slewFrac 0), .upd (.slewLeft (s.slewLeft - 1)), .upd (.now (s.now + 2))]
    else .seq (.upd (.slewFrac 0)) (.upd (.slewLeft (s.slewLeft + 1)))

/-- Module time steps to a value; a value below it slows module time down until it is reached (R361). -/
def stepTime (target : Int) : Act :=
  .dyn fun s =>
    if (s.now : Int) ≤ target then
      seqs [.upd (.now target.toNat), .upd (.timeBehind 0), .upd (.slewLeft 0), .upd (.slewFrac 0)]
    else seqs [.upd (.timeBehind (4 * ((s.now : Int) - target)).toNat), .upd (.timeLocked false), .upd (.slewLeft 0)]

/-- An offset of `ns` from the parent has been measured (R361 points 3 to 5). -/
def takeOffset (ns : Int) : Act :=
  .dyn fun s =>
    let near := decide (-5 ≤ ns) && decide (ns ≤ 5)
    seqs [
      .upd (.timeOffset ns),
      .upd (.timeGood near),
      (if s.timeLocked then
        .seq (when' (decide (ns < -10000) || decide (10000 < ns)) (incA blkTOP 2)) (.upd (.slewLeft ns))
      else .seq (stepTime ((s.now : Int) + ns))
        (whenS (fun t => near && s.timeGood && decide (t.timeBehind = 0)) (.upd (.timeLocked true))))]

/-- The port toward the parent: the neighbour one hop nearer the root, in X and then in Y; `none` without a carrying port
(R361 point 1). -/
def State.parentPort (s : State) : Option Nat :=
  let t := s.live
  let root := [Config.timeRoot 0 % t.size 0, Config.timeRoot 1 % t.size 1, lget 0 t.me 2, lget 0 t.me 3]
  (t.toward t.me root).bind (fun b => (s.activePorts b).head?)

/-- This module is the time root. -/
def State.isRoot (s : State) : Bool := s.flag rTOP_CTL 62

/-- A time stamp: quarters of a nanosecond (R361; assumption log 53). -/
def State.stamp (s : State) : Nat := 4 * s.now + s.timeFrac

/-- A TIME_REQ is answered; a stamp of its arrival and one of the answer are this moment. -/
def answerTime (p t1 : Nat) : Act :=
  .dyn fun s =>
    if s.updSt = .pause then .nop
    else sendFree p (mkFlit tyLINK subTIMERESP (leBytes 8 t1 ++ leBytes 8 s.stamp ++ leBytes 8 s.stamp))

/-- A TIME_RESP from the parent gives an offset (R361 point 3). -/
def hearTime (p t1 t2 t3 : Nat) : Act :=
  .dyn fun s =>
    if !s.isRoot && decide (s.timeParent = p) then
      takeOffset ((((t2 : Int) - (t1 : Int)) - ((s.stamp : Int) - (t3 : Int))) / 8)
    else .nop

/-- TIME_SYNC_TIMER: a module other than the root asks its parent, or runs in HOLDOVER (R361). -/
def timeSyncTimerA : Act :=
  .dyn fun s =>
    if s.isRoot then .upd (.timeParent 0)
    else match s.parentPort with
      | some p => seqs [.upd (.timeParent p), .upd (.holdover false),
          when' (decide (s.updSt ≠ .pause)) (sendFree p (mkFlit tyLINK subTIMEREQ (leBytes 8 s.stamp)))]
      | none => .seq (.upd (.holdover true)) (.upd (.timeLocked false))

/-- TIME_SYNC_TIMER (R361). -/
def execTimeSyncTimer (s : State) : Host.Outcome State Fault Refusal := .next (run timeSyncTimerA s)

/-- PPS_EDGE: an edge within 0.9 s of the last is ignored; the root with PPS_EN steps or slews to the second that it
names, which then counts on (R361, R502). -/
def ppsEdgeA : Act :=
  .dyn fun s =>
    if (match s.ppsAt with
        | some t => decide (s.now < t + 900000000)
        | none => false) then .nop
    else
      let target := (s.reg rTOP_TIME_SET).toNat * 1000000000
      .seq (if s.isRoot && s.flag rTOP_CTL 61 then seqs [
          (if s.timeLocked then .upd (.slewLeft ((target : Int) - (s.now : Int)))
           else .seq (stepTime target) (whenS (fun t => decide (t.timeBehind = 0)) (.upd (.timeLocked true)))),
          setReg rTOP_TIME_SET ((s.reg rTOP_TIME_SET).toNat + 1)]
        else .nop)
        (.dyn fun s => .upd (.ppsAt (some s.now)))

/-- PPS_EDGE (R361, R502). -/
def execPpsEdge (s : State) : Host.Outcome State Fault Refusal := .next (run ppsEdgeA s)

/-- PPS_LOST: the root runs on from REFCLK (TOP_ERR.PPS_LOST). -/
def ppsLostA : Act :=
  .dyn fun s =>
    if s.isRoot && s.flag rTOP_CTL 61 then seqs [setErr blkTOP 3, .upd (.ppsAt none), .upd (.timeLocked false)] else .nop

/-- PPS_LOST (R361). -/
def execPpsLost (s : State) : Host.Outcome State Fault Refusal := .next (run ppsLostA s)

end Sys2Proof.Machine
end

