-- ==== Sys2Proof/Machine/Links.lean ====
section
/-!
DEFINITION. What arrives on a link: the inbound checks, streams and notices, the key exchange, and the meanings of the
link rows (chapter 09; R465 to R468 of chapter 13).
-/

namespace Sys2Proof.Machine

/-! ### The key exchange (R465 to R468) -/

/-- This end starts the exchanges of the port: its IDENT is the lower (R467). -/
def State.startsKex (s : State) (p : Nat) : Bool := decide (s.ident < leAt (s.port p).far 8 8)

/-- The credential of a slot, 32 bytes. -/
def Cred.bytes (c : Cred) : List Byte := c.key.flatMap (fun w => leBytes 8 (w.getD 0))

/-- Send a message in fragments of 228 bytes (R466). -/
def sendKex (p kind : Nat) (msg : List Byte) : Act :=
  .dyn fun s =>
    let x := s.port p
    let n := max 1 (cdiv msg.length 228)
    each (List.range n) (fun i =>
      let part := (msg.drop (228 * i)).take 228
      sendLink p subKEX (leBytes 1 kind ++ leBytes 1 i ++ leBytes 1 n ++ [0] ++ leBytes 4 x.kex.cred ++ leBytes 4 x.session
        ++ leBytes 2 part.length ++ [0, 0] ++ part))

/-- Encrypted flits per session key (R359, LNK_POLICY.REKEY_LOG). -/
def State.rekeyCount (s : State) : Nat := 2 ^ s.fld rLNK_POLICY 55 48

/-- A direction of the port has reached its rekey count. -/
def State.rekeyDue (s : State) (p : Nat) : Bool :=
  (s.port p).enc && decide (s.rekeyCount ≤ max (s.port p).txPos (s.port p).rxPos)

/-- An exchange fails: the port that is CHECKING, or that is past its rekey count, is quarantined; else the old session
runs on (R359, R468). -/
def failKex (p : Nat) : Act :=
  .dyn fun s => seqs [
    setErr blkSEC 5,
    modPort p (fun x => { x with kex := {} }),
    when' (decide ((s.port p).st = .checking) || s.rekeyDue p) (quarantine p rsCRYPTO true)]

/-- The initiator starts an exchange with the credential of its USE slot (R465, R467). -/
def offerKex (p : Nat) : Act :=
  withFresh fun n => .dyn fun s =>
    let slot := b2n (s.flag rSEC_CRED_CTL 62)
    let c := s.cred slot
    let ek := (List.range 1184).map (Config.kemPub n)
    .seq (modPort p (fun x => { x with kex := { on := true, mine := true, slot := slot, cred := c.id, secret := c.bytes, draw := n, ek := ek } }))
      (sendKex p 1 ek)

/-- Form TH, PRK and the keys of both directions (R467 steps 3, 4). -/
def formKeys (p : Nat) (ct ss : List Byte) : Act :=
  modPort p (fun x =>
    let h := if x.kex.mine then x.mine ++ x.far else x.far ++ x.mine
    let th := sha256 (h ++ x.kex.ek ++ ct)
    let prk := hmac x.kex.secret (ss ++ th ++ leBytes 4 x.session)
    let keys (way : String) : Keys :=
      { key := hkdf32 prk (asciiBytes ("lv9 key " ++ way)), salt := (hkdf32 prk (asciiBytes ("lv9 salt " ++ way))).take 4 }
    let confirm (who : String) : List Byte := hkdf32 prk (asciiBytes ("lv9 confirm " ++ who))
    { x with kex := { x.kex with
        formed := true, th := th
        theirs := confirm (if x.kex.mine then "r" else "i")
        txKeys := keys (if x.kex.mine then "i2r" else "r2i")
        rxKeys := keys (if x.kex.mine then "r2i" else "i2r")
        msg := hmac (confirm (if x.kex.mine then "i" else "r")) th } })

/-- Send this end's CONFIRM, which `formKeys` left. -/
def sendConfirm (p : Nat) : Act :=
  .dyn fun s => .seq (modPort p (fun x => { x with kex := { x.kex with msg := [] } })) (sendKex p 3 (s.port p).kex.msg)

/-- The session starts: its keys come into use, the first at training in key phase 0, each later one with the phase
flipped (R467 step 6, R359). A CHECKING port becomes ACTIVE. -/
def startSession (p : Nat) : Act :=
  .dyn fun s =>
    let x := s.port p
    let k := x.kex
    .seq (.upd (.port p (if x.enc then
        { x with phase := !x.phase, txKeys := k.txKeys, txPos := 0, rxNew := some k.rxKeys, slot := k.slot,
                 session := x.session + 1, kex := {} }
      else
        { x with enc := true, phase := false, txKeys := k.txKeys, txPos := 0, rxPhase := false, rxKeys := k.rxKeys, rxPos := 0,
                 rxNew := none, slot := k.slot, session := x.session + 1, kex := {} })))
      (when' (decide (x.st = .checking)) (activate p))

/-- An OFFER is complete: the responder encapsulates, answers and confirms (R467 steps 2 to 5, R468). -/
def acceptKex (p credId : Nat) (ek : List Byte) : Act :=
  withFresh fun n => .dyn fun s =>
    match [0, 1].find? (fun i => (s.cred i).valid && decide ((s.cred i).id = credId)) with
    | none => failKex p
    | some slot =>
      let ct := (List.range 1088).map (Config.kemCipher ek n)
      seqs [
        modPort p (fun x => { x with kex := { on := true, slot := slot, cred := credId, secret := (s.cred slot).bytes, ek := ek } }),
        sendKex p 2 ct,
        formKeys p ct ((List.range 32).map (Config.kemShared ek n)),
        sendConfirm p]

/-- A message is complete (R467). -/
def kexMessage (p kind credId : Nat) (msg : List Byte) : Act :=
  .dyn fun s =>
    let k := (s.port p).kex
    if kind = 1 then acceptKex p credId msg
    else if kind = 2 then
      .seq (formKeys p msg ((List.range 32).map (Config.kemOpen k.draw msg))) (sendConfirm p)
    else if kind = 3 then
      if msg = hmac k.theirs k.th then startSession p else failKex p
    else offerKex p

/-- Bytes of a message by KTYPE (R466). -/
def kexBytes (kind : Nat) : Nat := if kind = 1 then 1184 else if kind = 2 then 1088 else if kind = 3 then 32 else 0

/-- A message of this kind may arrive now. -/
def State.kexTurn (s : State) (p kind : Nat) : Bool :=
  let x := s.port p
  let mine := s.startsKex p
  if kind = 1 then !mine && !x.kex.formed
  else if kind = 2 then mine && x.kex.on && !x.kex.formed
  else if kind = 3 then x.kex.formed
  else decide (kind = 4) && mine && x.enc && !x.kex.on

/-- A KEX fragment arrives: fragments come in order, each as long as R466 makes it (R468: anything else is malformed). -/
def hearKex (p : Nat) (f : List Byte) : Act :=
  .dyn fun s =>
    let x := s.port p
    let kind := leAt f 0x08 1
    let i := leAt f 0x09 1
    let n := max 1 (cdiv (kexBytes kind) 228)
    let len := min 228 (kexBytes kind - 228 * i)
    let k := if i = 0 then { x.kex with kind := kind, frag := 0, msg := [] } else x.kex
    if s.kexTurn p kind && decide (k.kind = kind) && decide (k.frag = i) && decide (i < n) && decide (leAt f 0x0A 1 = n)
        && decide (leAt f 0x14 2 = len) && decide (leAt f 0x10 4 = x.session)
        && (decide (kind = 1) || decide (kind = 4) || decide (leAt f 0x0C 4 = k.cred)) then
      let msg := k.msg ++ byteSlice f 0x18 len
      .seq (modPort p (fun x => { x with kex := { k with on := decide (kind ≠ 4) || k.on, frag := i + 1, msg := msg } }))
        (when' (decide (i + 1 = n)) (.seq (modPort p (fun x => { x with kex := { x.kex with msg := [], frag := 0 } }))
          (kexMessage p kind (leAt f 0x0C 4) msg)))
    else failKex p

/-! ### HELLO checks (R342 step 3, R465) -/

/-- The reason of the first check that the far end's HELLO fails; 0 = none. -/
def State.helloFault (s : State) (p : Nat) : Nat :=
  let t := s.live
  let h := (s.port p).far
  let bridge := decide (t.role p = 1)
  if leAt h 5 1 ≠ b2n bridge then rsROLE
  else if !bridge && (decide (coordAt h 0 ≠ coordOf (t.expectFar p)) || decide (leAt h 4 1 ≠ t.expectPort p)) then rsMISCABLED
  else if !bridge && (decide (coordAt h 16 ≠ t.me) || decide (leAt h 20 1 ≠ p)) then rsFARTABLE
  else if lget 0 t.ids p ≠ 0 ∧ leAt h 8 8 ≠ lget 0 t.ids p then rsIDENTITY
  else if min 3 (leAt h 7 1) < max 2 (leAt h 6 1) then rsVERSION
  else 0

/-- Check the far end's HELLO; a port that must be encrypted goes on to the key exchange. -/
def checkHello (p : Nat) : Act :=
  .dyn fun s =>
    let x := s.port p
    let bad := s.helloFault p
    if bad ≠ 0 then quarantine p bad true
    else if x.encReq || (leAt x.far 0x15 1).testBit 0 then
      if min 3 (leAt x.far 7 1) < 3 ∨ s.ident = leAt x.far 8 8
          ∨ (s.flag rLNK_POLICY 63 ∧ (s.cred 0).valid = false ∧ (s.cred 1).valid = false) then quarantine p rsCRYPTO true
      else when' (s.startsKex p && !x.kex.on) (offerKex p)
    else activate p

/-! ### Inbound checks (R330, R355 to R357, Table 9.12) -/

/-- Some byte of the listed ranges is not zero. -/
def anyByte (f : List Byte) (rs : List (Nat × Nat)) : Bool :=
  rs.any (fun (r : Nat × Nat) => (byteSlice f r.1 r.2).any (fun b => b ≠ 0))

/-- Check 3: TYPE and SUB not reserved, reserved bytes zero. What encryption covers is not looked at. -/
def formatOk (f : List Byte) : Bool :=
  let sub := flSUB f
  match flTYPE f with
  | 0 => decide (sub = 0) && !anyByte f [(0x08, 244)]
  | 1 => decide (sub < 8) && decide (sub % 4 ≠ 0) && !anyByte f [(0x12, 2), (0x1D, 3), (0xF8, 4)]
  | 2 => decide (1 ≤ sub) && decide (sub ≤ 16) && !anyByte f [(0x10, 16), (0x70, 140)]
  | 3 => match sub with
    | 1 => !anyByte f [(0x1E, 2), (0x24, 216)]
    | 2 => !anyByte f [(0x08, 244)]
    | 3 => !anyByte f ((if flENC f then [] else [(0x09, 23)]) ++ [(0x30, 204)])
    | 4 => !anyByte f [(0x10, 236)]
    | 5 => !anyByte f [(0x20, 220)]
    | 6 => !anyByte f ((if flENC f then [] else [(0x09, 23)]) ++ [(0x30, 204)])
    | 7 => true
    | 8 => !anyByte f [(0x0A, 242)]
    | _ => false
  | 4 => decide (1 ≤ sub) && decide (sub ≤ 2) && !anyByte f [(0x14, 12), (0x30, 204)]
  | _ => false

/-- The types that a port's state carries (Table 9.9). -/
def stateCarries (st : PortState) (f : List Byte) : Bool :=
  let link (xs : List Nat) : Bool := decide (flTYPE f = tyLINK) && xs.contains (flSUB f)
  match st with
  | .checking => link [subHELLO, subKEEPALIVE, subQUAR, subKEX]
  | .quarantined => link [subHELLO, subKEEPALIVE, subQUAR]
  | .active => true
  | .lowRate => true
  | .draining => true
  | _ => false

/-- Check 4: the flit in the clear, if it passes; what follows for the receive position and keys. -/
def State.authentic (s : State) (p : Nat) (f : List Byte) : Option (List Byte) × Act :=
  let x := s.port p
  if !x.enc then (some f, .nop)
  else if !isProtected f then (if flENC f then none else some f, .nop)
  else if !flENC f then (none, .nop)
  else if flPHASE f = x.rxPhase then (openFlit x.rxKeys x.rxPos f, modPort p (fun x => { x with rxPos := x.rxPos + 1 }))
  else match x.rxNew with
    | none => (none, .nop)
    | some k =>
      match openFlit k 0 f with
      | some g => (some g, modPort p (fun x => { x with rxPhase := !x.rxPhase, rxKeys := k, rxPos := 1, rxNew := none }))
      | none => (none, .nop)

/-- A flit is dropped at a check: counted, logged once in 1 ms, and the port quarantined beyond QUAR_DROPS (R357). The
count field is `lo + 11` to `lo`. -/
def dropFlit (p lo : Nat) : Act :=
  .dyn fun s =>
    let x := s.port p
    let limit := s.fld rLNK_POLICY 47 32
    let due := match x.lastDrop with
      | some t => decide (t + 1000000 ≤ s.now)
      | none => true
    let times := if limit = 0 then [] else (x.dropTimes.filter (fun t => decide (s.now < t + 1000000))) ++ [s.now]
    seqs [
      addFld rLNK_PORT_DROP (lo + 11) lo 1 p,
      modPort p (fun x => { x with
        drops := if due then 0 else x.drops + 1
        lastDrop := if due then some s.now else x.lastDrop
        dropTimes := times }),
      (if due then incident { cls := .A, blk := blkLNK, code := 3, locus := p, arg2 := x.drops + 1 } else setErr blkLNK 3),
      when' (decide (limit ≠ 0) && decide (limit < times.length)) (quarantine p rsDROPS true)]

/-- The sending neighbour sends the flit here (check 6); a bridge carries DATA and CREDIT with DEST and SRC zero (R363). -/
def State.routeOk (s : State) (p : Nat) (f : List Byte) : Bool :=
  if s.live.role p = 1 then decide (flTYPE f ≠ tyNOTICE) && !anyByte f [(0x08, 8)]
  else s.live.inside (flDEST f) && s.live.sends (flDEST f) (facing (bundleOf p)) (flVC f)

/-- The peer that a flit from a port names. -/
def State.peerFrom (s : State) (p : Nat) (f : List Byte) : List Nat :=
  if s.live.role p = 1 then [0x80 + p, 0, 0, 0] else flSRC f

/-- Checks 5 to 7 of a routed flit, and where it goes: here, on, or nowhere (R345, R355). -/
def hearRouted (p : Nat) (entry : Option (Nat × Nat)) (f : List Byte) : Act :=
  .dyn fun s =>
    let came := facing (bundleOf p)
    let drop (lo : Nat) : Act := .seq (freeEntry entry) (dropFlit p lo)
    if entry.isNone then dropFlit p 24
    else if !s.routeOk p f then drop 12
    else if s.live.role p = 1 ∨ flDEST f = s.live.me then
      let peer := s.peerFrom p f
      if s.streamOk peer f then .seq (freeEntry entry) (deliver peer f) else drop 0
    else match s.admits (some came) f with
      | some (b, v) => putQueue (some came) entry f b v
      | none => .seq (freeEntry entry) (dropNoPath f)

/-- A DATA flit whose receive entry or inbound store holds an uncorrectable error: each token has POISON set and its
payload zeroed (R367), and RESIDUE and SBPAR are those of such a token (assumption log 161). -/
def poisonFlit (f : List Byte) : List Byte :=
  let ts := (flitTokens f).map (fun t => Tok.make 0 (Tok.last t) (Tok.kind t) (Tok.stream t) (Tok.epoch t) true)
  patch (patch f 0x14 (ts.flatMap (fun t => leBytes 3 t.sb.toNat))) 0x30 (ts.flatMap (fun t => leBytes 64 t.payload.toNat))

/-- A routed flit leaves its receive entry, whose code reports `found` (R367). -/
def hearStored (p : Nat) (entry : Option (Nat × Nat)) (found : Found) (f : List Byte) : Act :=
  if entry.isNone then hearRouted p entry f
  else match found with
    | .clean => hearRouted p entry f
    | .corrected => .seq (incident { cls := .A, blk := blkLNK, locus := p }) (hearRouted p entry f)
    | .uncorrectable =>
      if flTYPE f = tyDATA then .seq (incident { cls := .B, blk := blkLNK, locus := p }) (hearRouted p entry (poisonFlit f))
      else .seq (freeEntry entry) (dropFlit p 48)

/-- Resend from a SEQ on; the replay-buffer entries' code reports `found` (R331, R367). -/
def resendStored (p : Nat) (found : Found) (seq : Nat) : Act :=
  .dyn fun s =>
    if ((s.port p).replay.dropWhile (fun r => decide (r.seq ≠ seq))).isEmpty then resendFrom p seq
    else match found with
      | .clean => resendFrom p seq
      | .corrected => .seq (incident { cls := .A, blk := blkLNK, locus := p }) (resendFrom p seq)
      | .uncorrectable => failPort p rsREPLAY

/-- What a LINK message does. -/
def hearLink (p : Nat) (found : Found) (f : List Byte) : Act :=
  match flSUB f with
  | 1 => .seq (modPort p (fun x => { x with far := byteSlice f 0x08 28 }))
      (.dyn fun s =>
        if (s.port p).st = .checking then checkHello p
        else if (s.port p).carries then
          .seq (modPort p (fun x => { x with farLow := (leAt x.far 0x15 1).testBit 1 })) (settleRate p)
        else .nop)
  | 3 => .seq (modPort p (fun x => { x with farLow := decide (leAt f 0x08 1 = 1) })) (settleRate p)
  | 4 => when' (decide (p < 24)) (answerTime p (leAt f 0x08 8))
  | 5 => hearTime p (leAt f 0x08 8) (leAt f 0x10 8) (leAt f 0x18 8)
  | 6 => quarantine p (leAt f 0x08 1 % 16) false
  | 7 => whenS (fun s => decide ((s.port p).far ≠ [])) (hearKex p f)
  | 8 => resendStored p found (leAt f 0x08 2)
  | _ => .nop

/-- Checks 3 to 7 of an accepted flit. A routed flit has taken a receive entry, if its sender held a credit. An encrypted
flit takes its place among the session's flits whatever check it fails (R358). -/
def inspect (p : Nat) (found : Found) (f : List Byte) : Act :=
  .dyn fun s =>
    let held := routed f && decide (0 < lget 0 (s.port p).partner (flVC f))
    let entry := if held then some (p, flVC f) else none
    let au := s.authentic p f
    .seq (when' held (modPort p (fun x => { x with partner := lset x.partner (flVC f) (lget 0 x.partner (flVC f) - 1) })))
      (if !formatOk f then seqs [when' ((s.port p).enc && isProtected f && flENC f) (modPort p (fun x => { x with rxPos := x.rxPos + 1 })),
         freeEntry entry, dropFlit p 48]
       else .seq au.2 (match au.1 with
        | none => .seq (freeEntry entry) (dropFlit p 36)
        | some g =>
          if routed g then hearStored p entry found g
          else if flTYPE g = tyLINK then hearLink p found g else .nop))

/-- Ask for the expected SEQ, once in a microsecond at most (R330). -/
def sendNak (p : Nat) : Act :=
  .dyn fun s =>
    let x := s.port p
    if (match x.lastNak with
        | some t => decide (s.now < t + 1000)
        | none => false) then .nop
    else seqs [modPort p (fun x => { x with lastNak := some s.now }), addFld rLNK_PORT_REPLAY 63 32 1 p,
      sendFree p (mkFlit tyLINK subNAK (leBytes 2 x.rx))]

/-- What the common header reports: flits acknowledged and receive entries freed (Table 9.2). -/
def hearHeader (p : Nat) (f : List Byte) : Act :=
  .seq (acked p (flACK f)) (modPort p (fun x => { x with
    credits := lset x.credits (flHCRED f / 2 ^ 14) (lget 0 x.credits (flHCRED f / 2 ^ 14) + flHCRED f % 2 ^ 14) }))

/-- A flit arrives on a port (R330, R355); `found` is what the code of the store it uses reports (R367). -/
def receive (p : Nat) (flit : Flit) (found : Found := .clean) : Act :=
  let f := flitBytes flit
  .dyn fun s =>
    let x := s.port p
    if x.st = .off ∨ x.st = .training ∨ x.st = .failed then .nop
    else if crc32 (f.take 0xFC) ≠ leAt f 0xFC 4 then when' (sequenced f) (sendNak p)
    else seqs [
      hearHeader p f,
      when' (stateCarries x.st f)
        (if sequenced f then
          let d := (flSEQ f + 65536 - x.rx) % 65536
          if d = 0 then .seq (modPort p (fun x => { x with rx := (x.rx + 1) % 65536 })) (inspect p found f)
          else when' (decide (d < 32768)) (sendNak p)
        else inspect p found f),
      pump,
      settleLocal]

/-- IDLE_FLIT (R329, R355). Each of these rows is a flit that arrives; what its bytes say decides, corrupted ones
included (assumption log 54). -/
def execIdleFlit (port : Fin 32) (flit : Flit) (s : State) : Host.Outcome State Fault Refusal := .next (run (receive port.val flit) s)
/-- DATA_FLIT (R330, R335, R345, R355, R356, R367). -/
def execDataFlit (port : Fin 32) (flit : Flit) (found : Found) (s : State) : Host.Outcome State Fault Refusal :=
  .next (run (receive port.val flit found) s)
/-- CREDIT_FLIT (R337, R356, R367). -/
def execCreditFlit (port : Fin 32) (flit : Flit) (found : Found) (s : State) : Host.Outcome State Fault Refusal :=
  .next (run (receive port.val flit found) s)
/-- NOTICE_LOST (R352, R356, R367). -/
def execNoticeLost (port : Fin 32) (flit : Flit) (found : Found) (s : State) : Host.Outcome State Fault Refusal :=
  .next (run (receive port.val flit found) s)
/-- NOTICE_CUT (R340, R356, R367). -/
def execNoticeCut (port : Fin 32) (flit : Flit) (found : Found) (s : State) : Host.Outcome State Fault Refusal :=
  .next (run (receive port.val flit found) s)
/-- HELLO (R342, R354). -/
def execHello (port : Fin 32) (flit : Flit) (s : State) : Host.Outcome State Fault Refusal := .next (run (receive port.val flit) s)
/-- KEEPALIVE (R330). -/
def execKeepalive (port : Fin 32) (flit : Flit) (s : State) : Host.Outcome State Fault Refusal := .next (run (receive port.val flit) s)
/-- RATE (R354). -/
def execRate (port : Fin 32) (flit : Flit) (s : State) : Host.Outcome State Fault Refusal := .next (run (receive port.val flit) s)
/-- TIME_REQ (R361). -/
def execTimeReq (port : Fin 32) (flit : Flit) (s : State) : Host.Outcome State Fault Refusal := .next (run (receive port.val flit) s)
/-- TIME_RESP (R361). -/
def execTimeResp (port : Fin 32) (flit : Flit) (s : State) : Host.Outcome State Fault Refusal := .next (run (receive port.val flit) s)
/-- QUAR (R342; assumption log 55). -/
def execQuar (port : Fin 32) (flit : Flit) (s : State) : Host.Outcome State Fault Refusal := .next (run (receive port.val flit) s)
/-- KEX (R466 to R468). -/
def execKex (port : Fin 32) (flit : Flit) (s : State) : Host.Outcome State Fault Refusal := .next (run (receive port.val flit) s)
/-- NAK (R331, R367). -/
def execNak (port : Fin 32) (flit : Flit) (found : Found) (s : State) : Host.Outcome State Fault Refusal :=
  .next (run (receive port.val flit found) s)

/-! ### Timers and failures of a link -/

/-- A link command and what it leaves to be sent and taken. -/
def linkAct (a : Act) : Act := seqs [a, pump, settleLocal]

/-- The port's lanes are lit and locked: flits may arrive. -/
def Port.lit (x : Port) : Bool :=
  decide (x.st ≠ .off) && decide (x.st ≠ .training) && decide (x.st ≠ .failed)

/-- REPLAY_TIMEOUT: resend from the oldest flit held. -/
def replayTimeoutA (p : Nat) : Act :=
  .dyn fun s => match (s.port p).replay with
    | [] => .nop
    | r :: _ => linkAct (when' (s.port p).lit (resendFrom p r.seq))

/-- REPLAY_TIMEOUT (R331). -/
def execReplayTimeout (port : Fin 32) (s : State) : Host.Outcome State Fault Refusal := .next (run (replayTimeoutA port.val) s)

/-- A lit link fails for a reason of R350. -/
def linkFails (p reason : Nat) : Act := linkAct (whenS (fun s => (s.port p).lit) (failPort p reason))

/-- LANE_LOCK_LOST (R350). -/
def execLaneLockLost (port : Fin 32) (s : State) : Host.Outcome State Fault Refusal := .next (run (linkFails port.val rsLOCK) s)
/-- LINK_SILENCE (R350). -/
def execLinkSilence (port : Fin 32) (s : State) : Host.Outcome State Fault Refusal := .next (run (linkFails port.val rsSILENCE) s)
/-- FEC_THRESHOLD (R350): the uncorrectable codewords that made it are counted (R328). -/
def execFecThreshold (port : Fin 32) (s : State) : Host.Outcome State Fault Refusal :=
  .next (run (.seq (whenS (fun s => (s.port port.val).lit) (addFld rLNK_PORT_FEC 31 0 65 port.val)) (linkFails port.val rsFEC)) s)

/-- LANE_TRAINING_DONE (R342). -/
def execLaneTrainingDone (port : Fin 32) (s : State) : Host.Outcome State Fault Refusal :=
  .next (run (whenS (fun s => decide ((s.port port.val).st = .training)) (checkPort port.val)) s)

/-- A lane has not trained: FAILED with reason TRAIN. -/
def trainFailA (p : Nat) : Act :=
  whenS (fun s => decide ((s.port p).st = .training)) (.seq (portFault p 0 rsTRAIN)
    (modPort p (fun x => { x.dark .failed with reason := rsTRAIN })))

/-- LANE_TRAINING_TIMEOUT (R342). -/
def execLaneTrainingTimeout (port : Fin 32) (s : State) : Host.Outcome State Fault Refusal :=
  .next (run (trainFailA port.val) s)

/-- LANE_RETRAIN_DONE: the link returns to full rate between two flits (R354). -/
def execLaneRetrainDone (port : Fin 32) (s : State) : Host.Outcome State Fault Refusal :=
  .next (run (modPort port.val (fun x =>
    if x.st = .lowRate ∧ x.retraining then { x with st := .active, retraining := false } else x)) s)

/-- HELLO_TIMER (Table 9.6). -/
def execHelloTimer (port : Fin 32) (s : State) : Host.Outcome State Fault Refusal :=
  .next (run (whenS (fun s => (s.port port.val).lit && decide ((s.port port.val).st ≠ .draining)) (sendHello port.val)) s)

/-- KEEPALIVE_TIMER (Table 9.6). -/
def execKeepaliveTimer (port : Fin 32) (s : State) : Host.Outcome State Fault Refusal :=
  .next (run (whenS (fun s => decide ((s.port port.val).st = .checking) || decide ((s.port port.val).st = .quarantined)
      || decide ((s.port port.val).st = .lowRate)) (sendFree port.val (mkFlit tyLINK subKEEPALIVE []))) s)

/-! ### Gateways -/

/-- DATA_FLIT_TIMER (R335). -/
def execDataFlitTimer (load : Fin 16) (stream : Fin 64) (s : State) : Host.Outcome State Fault Refusal :=
  .next (run (linkAct (flushPack load.val stream.val)) s)

/-- CREDIT_FLIT_TIMER (R337). -/
def execCreditFlitTimer (load : Fin 16) (stream : Fin 64) (s : State) : Host.Outcome State Fault Refusal :=
  .next (run (linkAct (flushCredits load.val stream.val)) s)

/-- A token waits at the gateway for the stream (R340). -/
def State.gatewayWaits (s : State) (h st : Nat) : Bool :=
  match (s.outRecs h st).head? with
  | some r =>
    let e := edgeSite (rmGateway r) st
    (s.slotsOf e.1).any (fun (q : Nat × Slot) => q.2.outs.testBit e.2 && decide (q.2.stream = st) && decide (q.2.q ≠ []))
  | none => false

/-- MCAST_CUT: a peer of a multicast stream that is behind is cut; the others go on (R340). -/
def mcastCutA (h st peer : Nat) : Act :=
  .dyn fun s =>
    let rs := s.outRecs h st
    let key := streamKey h st
    let x := s.stream key
    withSome (s.outNumber h st (coordOf peer)) (fun i =>
      let r := lget [] rs i
      if 2 ≤ rs.length ∧ x.cut.testBit i = false ∧ x.hasCredit (i, r) = false ∧ s.gatewayWaits h st then seqs [
        modStream key (fun x => { x with cut := x.cut ||| (1 <<< i) }),
        when' (bridgePeer r).isNone (.seq countCUT
          (inject (noticeFlit s.live.me (peerOf r) 2 (rmPeerLoad r) (rmPeerStream r) 0 x.gen))),
        addCause h rankREMOTE,
        incident { cls := .B, blk := blkLNK, code := 5, status := Status.remoteTimeout.code,
                   tenant := some (s.load h).tenant },
        forward (edgeSite (rmGateway r) st).1]
      else .nop)

/-- MCAST_CUT (R340). -/
def execMcastCut (load : Fin 16) (stream : Fin 64) (peer : BitVec 32) (s : State) : Host.Outcome State Fault Refusal :=
  .next (run (linkAct (mcastCutA load.val stream.val peer.toNat)) s)

/-- BUNDLE_RESUME: every routed flit sent on the ports that remain has been acknowledged (R347). -/
def bundleResumeA (b : Nat) : Act :=
  .dyn fun s =>
    if (s.activePorts b).all (fun p => ((s.port p).replay.filter (fun r => routed r.clear)).isEmpty) then
      .upd (.pausedBundles (s.pausedBundles &&& (2 ^ 8 - 1 - (1 <<< b))))
    else .nop

/-- BUNDLE_RESUME (R347). -/
def execBundleResume (bundle : Fin 8) (s : State) : Host.Outcome State Fault Refusal :=
  .next (run (linkAct (bundleResumeA bundle.val)) s)

/-! ### Sessions -/

/-- REKEY_LIMIT: the initiator offers, a responder asks it to (R359, R467). -/
def rekeyA (p : Nat) : Act :=
  .dyn fun s =>
    if s.rekeyDue p && (s.port p).carries && !(s.port p).kex.on then
      (if s.startsKex p then offerKex p else sendKex p 4 [])
    else .nop

/-- REKEY_LIMIT (R359). -/
def execRekeyLimit (port : Fin 32) (s : State) : Host.Outcome State Fault Refusal := .next (run (linkAct (rekeyA port.val)) s)

/-- KEX_TIMEOUT (R468). -/
def execKexTimeout (port : Fin 32) (s : State) : Host.Outcome State Fault Refusal :=
  .next (run (linkAct (whenS (fun s => (s.port port.val).kex.on) (failKex port.val))) s)

/-! ### Port control (LNK_PORT_CTL, R324) -/

/-- EN is written 1: OFF trains, DRAINING returns to service; FAILED stays until EN has been 0 (R343). -/
def portOnA (p : Nat) : Act :=
  .dyn fun s =>
    let x := s.port p
    .seq (orReg rLNK_PORT_CTL (2 ^ 63) p)
      (if x.st = .draining then .seq (modPort p (fun x => { x with st := x.back }))
          (when' (decide (x.back = .active) || decide (x.back = .lowRate)) (pauseBundle p))
       else startPort p)

/-- PORT_ENABLE (R324, R342). -/
def execPortEnable (port : Fin 32) (s : State) : Host.Outcome State Fault Refusal :=
  .next (run (bitDo (.portEnable port) (linkAct (portOnA port.val))) s)

/-- EN is written 0: the port leaves its bundle and drains to OFF. -/
def portOffA (p : Nat) : Act :=
  .dyn fun s =>
    let x := s.port p
    .seq (setFld rLNK_PORT_CTL 63 63 0 p)
      (if x.st = .off ∨ x.st = .draining then .nop
       else seqs [
        modPort p (fun x => { x with st := .draining, back := x.st, kex := {} }),
        setFld rLNK_PORT_CTL 61 61 0 p,
        when' x.carries (pauseBundle p),
        settlePort p])

/-- PORT_DISABLE (R347, LNK_PORT_CTL.EN). -/
def execPortDisable (port : Fin 32) (s : State) : Host.Outcome State Fault Refusal :=
  .next (run (bitDo (.portDisable port) (linkAct (portOffA port.val))) s)

/-- FORCE is written 1: what a DRAINING port has not had acknowledged is lost, and it is OFF. -/
def portForceA (p : Nat) : Act :=
  .dyn fun s =>
    if (s.port p).st = .draining then
      seqs [orReg rLNK_PORT_CTL (2 ^ 62) p, modPort p (fun x => { x with reason := rsFORCE }), loseFlits p, settlePort p]
    else incident { cls := .A, blk := blkLNK, code := 7, locus := p }

/-- PORT_FORCE (R351, LNK_PORT_CTL.FORCE). -/
def execPortForce (port : Fin 32) (s : State) : Host.Outcome State Fault Refusal :=
  .next (run (bitDo (.portForce port) (linkAct (portForceA port.val))) s)

/-- RETRAIN is written 1: a QUARANTINED port repeats its checks. -/
def portRetrainA (p : Nat) : Act :=
  whenS (fun s => decide ((s.port p).st = .quarantined)) (.seq (orReg rLNK_PORT_CTL (2 ^ 61) p) (checkPort p))

/-- PORT_RETRAIN (R343). -/
def execPortRetrain (port : Fin 32) (s : State) : Host.Outcome State Fault Refusal :=
  .next (run (bitDo (.portRetrain port) (linkAct (portRetrainA port.val))) s)

/-- LOW is written. -/
def portLowA (p : Nat) (low : Bool) : Act := .seq (setFld rLNK_PORT_CTL 60 60 (b2n low) p) (tellRate p)

/-- PORT_LOW (R354). -/
def execPortLow (port : Fin 32) (low : Bool) (s : State) : Host.Outcome State Fault Refusal :=
  .next (run (bitDo (.portLow port low) (linkAct (portLowA port.val low))) s)

/-- LNK_PORT_CTL of a port is written whole: EN, then FORCE, RETRAIN and LOW. -/
def writePortCtl (p v : Nat) : Act :=
  linkAct (seqs [
    (if v.testBit 63 then portOnA p else portOffA p),
    when' (v.testBit 62) (portForceA p),
    when' (v.testBit 61) (portRetrainA p),
    portLowA p (v.testBit 60)])

/-- LNK_POLICY is written: REKEY_LOG is clamped to 24 to 40 with a class A incident (R359). -/
def writePolicy (v : Nat) : Act :=
  let r := bits 55 48 v
  .seq (setReg rLNK_POLICY (setBits 55 48 v (max 24 (min 40 r)))) (when' (decide (r < 24) || decide (40 < r)) (incA blkLNK 0xFF rLNK_POLICY))

/-- LNK_POLICY_WRITE (R357, R359). -/
def execLnkPolicyWrite (v : Word) (s : State) : Host.Outcome State Fault Refusal :=
  .next (run (regDo (.lnkPolicyWrite v) rLNK_POLICY v.toNat writePolicy) s)

/-! ### The topology table (R364) -/

/-- The shadow table as a table. -/
def State.shadowTop (s : State) : LiveTop :=
  { self := (s.reg rTOP_SELF).toNat, ports := (List.range 32).map (fun p => (s.reg rTOP_PORT p).toNat),
    ids := (List.range 32).map (fun p => (s.reg rTOP_PORT_ID p).toNat),
    cordons := (List.range 64).map (fun i => (s.reg rTOP_CORDON i).toNat), version := s.fld rTOP_CTL 31 0 }

/-- Ports with EN = 1 that an unused role kept OFF train under the new table. -/
def startPorts : Act :=
  .dyn fun s => each (List.range 32) (fun p => when' (s.flag rLNK_PORT_CTL 63 p) (startPort p))

/-- The shadow table becomes live, or is refused (R364). -/
def commitTop : Act :=
  .dyn fun s =>
    let t := s.shadowTop
    if t.ok then seqs [
      .upd (.live t),
      when' t.noDetour (setErr blkTOP 1),
      when' (decide (s.bootPhase = .ready)) startPorts]
    else incA blkTOP 0

/-- TOPOLOGY_COMMIT (R364). -/
def execTopologyCommit (s : State) : Host.Outcome State Fault Refusal := .next (run (bitDo (.topologyCommit) (linkAct commitTop)) s)

end Sys2Proof.Machine
end

