-- ==== Sys2Proof/Machine/Serving.lean ====
section
/-!
DEFINITION. The serving block (chapter 07): registration of services, admission, the SERVE operations, prefills, steps,
hand-over, parking and release (R242 to R263, R277 to R280).
-/

namespace Sys2Proof.Machine

/-! ### Registration (R243, R244) -/

/-- Load `h` may stand in a service of tenant `t` with a KIND among `ks` (R244). -/
def State.loadServes (s : State) (t h : Nat) (ks : List Nat) : Bool :=
  let l := s.load h
  decide (l.st = .ready) && decide (l.tenant = t) && ks.contains l.image.kind

/-- The pool-table entries that service `v` needs, each with its load (R249). -/
def State.poolLoads (s : State) (v : Nat) : List (Nat × Nat) :=
  if s.svcSplit v then
    (List.range (s.splitCount (s.svcGroup v))).filterMap (fun r =>
      (s.bayLoad (s.splitFirst (s.svcGroup v) + r)).map (fun h => (r, h)))
  else [(0, s.svcPre v), (1, s.svcDec v)]

/-- Every named load of service `v` is fit (R244). -/
def State.svcLoadsOk (s : State) (v : Nat) : Bool :=
  let t := s.svcTenant v
  let g := s.svcGroup v
  s.loadServes t (s.svcHead v) [3] &&
    (if s.svcSplit v then
      s.splitOn g && (s.groupBays g).all (fun b => match s.bayLoad b with
        | some h => s.loadServes t h (if s.runsPrefill g h then [1, 0] else [2, 0])
        | none => false)
     else s.loadServes t (s.svcPre v) [1, 0] && s.loadServes t (s.svcDec v) [2, 0])

/-- Every pool of service `v` and its park copy are fit (R244). -/
def State.svcPoolsOk (s : State) (v : Nat) : Bool :=
  let t := s.svcTenant v
  (s.poolLoads v).all (fun (p : Nat × Nat) => match s.poolObj v p.1 with
      | some o => decide (o.tier = 1) && decide (o.bays ≠ 0) && o.writable && decide (o.owner = t)
          && decide (o.bays = (s.load p.2).bays) && decide (o.pin < 255)
      | none => false)
    && (s.svcSplit v || decide (s.svcPre v ≠ s.svcDec v) || decide (s.poolCopy v 0 = s.poolCopy v 1))
    && (match s.poolObj v parkEntry with
      | some o => decide (o.tier = 2) && o.writable && decide (o.owner = t) && decide (o.lower = noIdx) && decide (o.pin < 255)
      | none => false)

/-- The check of a full registration (R244). -/
def State.svcOk (s : State) (v : Nat) : Bool :=
  s.tenantOn (s.svcTenant v) && s.svcLoadsOk v && s.svcPoolsOk v
    && decide (s.svcC v % 8 = 0) && decide (64 ≤ s.svcC v) && decide (s.svcC v ≤ 2048) && decide (s.svcC v ≤ s.svcVocab v)

/-- The check of a service on standby: its tenant and STAGE_IQ (R243). -/
def State.standbyOk (s : State) (v : Nat) : Bool :=
  s.tenantOn (s.svcTenant v) && s.iqListMode (s.svcIq v) && decide (s.iqTenant (s.svcIq v) = s.svcTenant v)

/-- Copies that service `v` pins (R244). -/
def State.svcCopies (s : State) (v : Nat) : List Nat :=
  dedup (((s.poolLoads v).map (fun (p : Nat × Nat) => p.1) ++ [parkEntry]).filterMap (s.poolCopy v))

/-- A registration has failed (R244). -/
def svcFail (v : Nat) : Act :=
  .dyn fun s => .seq
    (when' (decide (s.svcState v ≠ svcSTAGING)) (setFld rSRV_SVC_CFG 63 61 0 v))
    (incident { cls := .A, blk := blkSRV, code := 0, tenant := some (s.svcTenant v), off := rSRV_SVC_CFG })

/-- READY is written to service `v`. -/
def svcReady (v : Nat) : Act :=
  .dyn fun s =>
    if s.svcOk v then seqs [
      setFld rSRV_SVC_CFG 63 61 (4 + svcREADY) v,
      .upd (.svcPins v (s.svcCopies v)),
      each (s.svcCopies v) pinCopy]
    else svcFail v

/-- STANDBY is written to service `v`. -/
def svcStandby (v : Nat) : Act :=
  .dyn fun s => if s.standbyOk v then setFld rSRV_SVC_CFG 63 61 (4 + svcSTANDBY) v else svcFail v

/-- Service `v` is disabled: it drops its pins (R244). -/
def svcOff (v : Nat) : Act :=
  .dyn fun s => seqs [
    setFld rSRV_SVC_CFG 63 61 0 v,
    each (s.svcPins v) unpinCopy,
    .upd (.svcPins v [])]

/-- A write of `w` to SRV_SVC_CFG of service `v`. -/
def writeSvcCfg (v w : Nat) : Act :=
  .dyn fun s =>
    let st := bits 62 61 w
    if !w.testBit 63 then
      if s.svcOn v then svcOff v else setReg rSRV_SVC_CFG (bits 60 0 w) v
    else if s.svcOn v then
      if s.svcState v = svcREADY then .nop
      else if st = svcREADY then svcReady v
      else if st = s.svcState v then .nop
      else incA blkSRV 0 rSRV_SVC_CFG
    else .seq (setReg rSRV_SVC_CFG (bits 60 0 w) v)
      (if st = svcREADY then svcReady v else if st = svcSTANDBY then svcStandby v else svcFail v)

/-- SVC_ENABLE_READY (R243, R244). -/
def execSvcEnableReady (svc : Fin 64) (v : Word) (s : State) : Host.Outcome State Fault Refusal :=
  .next (run (regDo (.svcEnableReady svc v) rSRV_SVC_CFG v.toNat (fun w => writeSvcCfg svc.val (setBits 63 61 w (4 + svcREADY)))) s)

/-- SVC_ENABLE_STANDBY (R243). -/
def execSvcEnableStandby (svc : Fin 64) (v : Word) (s : State) : Host.Outcome State Fault Refusal :=
  .next (run (regDo (.svcEnableStandby svc v) rSRV_SVC_CFG v.toNat (fun w => writeSvcCfg svc.val (setBits 63 61 w (4 + svcSTANDBY)))) s)

/-- SVC_DISABLE (R244). -/
def execSvcDisable (svc : Fin 64) (s : State) : Host.Outcome State Fault Refusal :=
  .next (run (bitDo (.svcDisable svc) (whenS (fun s => s.svcOn svc.val) (svcOff svc.val))) s)

/-! ### The bound of admission (R135, R259, R260) -/

/-- Bounds are kept exactly, in units of 1 ÷ `boundUnit` ns: the least common multiple of 1 to 48, so that a cycle at any
clock code is a whole number of them. -/
def boundUnit : Nat := 442720643463713815200

/-- A module time that means best effort (Table 7.1). -/
def bestEffort : Nat := 2 ^ 64 - 1

/-- B(p; L, G, d) of a placard at the guarantee clock (R135). -/
def boundOf (code : Nat) (p : List Byte) (l g d : Nat) : Nat :=
  let f := min code (plClkRef p)
  let cyc := plCmdCyc p + l * plPosCyc p + cdiv (l * l) 65536 * plPos2Cyc p + g * plTokCyc p + g * d * plSpecCyc p
  let ns := plCmdNs p + l * plPosNs p + g * plTokNs p + g * d * plSpecNs p
  cyc * 40 * (boundUnit / (12 + f)) + ns * boundUnit

/-- The placard of a load, if it is loaded. -/
def State.placardAt (s : State) (h : Nat) : Option (List Byte) :=
  if (s.load h).st = .free then none else some (s.load h).image.placard

/-- Placard of the prefill (`pre`) or the decode exhibit of service `v`; none where no such exhibit is loaded, as may be
while the service is on standby. -/
def State.svcPlacard (s : State) (v : Nat) (pre : Bool) : Option (List Byte) :=
  if s.svcSplit v then
    let e := s.imgEntry (if pre then s.fld rEXH_SPLIT_IMG 4 0 (s.svcGroup v) else s.fld rEXH_SPLIT_IMG 9 5 (s.svcGroup v))
    if e.valid then some e.image.placard else none
  else s.placardAt (if pre then s.svcPre v else s.svcDec v)

/-- The guarantee clock code at which admission evaluates bounds (R405). -/
def State.guarCode (s : State) : Nat := s.fld rPWR_GUAR 5 0

/-- A bound of an optional placard; without one the spec states no value: free value `n` (assumption log 43). -/
def State.boundAt (s : State) (p : Option (List Byte)) (n l g d : Nat) : Nat :=
  match p with
  | some p => boundOf s.guarCode p l g d
  | none => Config.freeNat n

/-- Head passes that admission counts. -/
def State.headPasses (s : State) (v : Nat) : Nat := if s.svcPen v then 2 else 1

/-- SAMPLE_NS of a service in bound units. -/
def State.sampleBound (s : State) (v : Nat) : Nat := s.fld rSRV_SVC_TIME 31 0 v * boundUnit

/-- pb of a SUBMIT (R259). -/
def State.submitPb (s : State) (v l g : Nat) : Nat :=
  s.boundAt (s.svcPlacard v true) s.fresh l 0 0
    + (if g = 0 then 0
       else s.headPasses v * s.boundAt (s.placardAt (s.svcHead v)) (s.fresh + 1) 0 1 0 + s.sampleBound v)

/-- pb of a RESUME: the prefill placard's (0, POS_NS) for each committed position (R259). -/
def State.resumePb (s : State) (v committed : Nat) : Nat :=
  match s.svcPlacard v true with
  | some p => plPosNs p * committed * boundUnit
  | none => Config.freeNat s.fresh

/-- tb: one step of one token (R259). -/
def State.stepTb (s : State) (v d : Nat) : Nat :=
  s.boundAt (s.svcPlacard v false) (s.fresh + 2) 0 1 d
    + s.headPasses v * s.boundAt (s.placardAt (s.svcHead v)) (s.fresh + 3) 0 1 d + s.sampleBound v

/-- A request with a deadline. -/
def Req.hasDeadline (x : Req) : Bool := decide (x.deadline ≠ bestEffort)

/-- AHEAD_NS of a service in bound units: pb of the deadline requests waiting for or in prefill, and of the best-effort
requests in prefill (R260). -/
def State.aheadOf (s : State) (v : Nat) : Nat :=
  ((s.reqIds.filter (fun i =>
    let x := s.req i
    decide (x.svc = v) && (decide (x.ph = .prefill) || (decide (x.ph = .waiting) && x.hasDeadline)))).map
      (fun i => (s.req i).pb)).sum

/-- MIN_P of a split service, else 1. -/
def State.pmin (s : State) (v : Nat) : Nat := if s.svcSplit v then s.fld rEXH_SPLIT_CTL 52 48 (s.svcGroup v) else 1

/-- The total of R259, times pmin, in bound units. -/
def State.totalBound (s : State) (v pb tb steps : Nat) (waits : Bool) : Nat :=
  let qb := s.fld rSRV_ADMIT_CTL 63 32 + (if s.svcState v = svcREADY then 0 else s.fld rSRV_SVC_TIME 63 32 v)
  s.pmin v * (qb * boundUnit + pb + steps * tb) + (if waits then s.aheadOf v else 0)

/-- The bound of a deadline request holds: now + total ≤ deadline (R259). -/
def State.boundHolds (s : State) (v total deadline : Nat) : Bool :=
  decide (s.now * s.pmin v * boundUnit + total ≤ deadline * s.pmin v * boundUnit)

/-! ### Placing a request (R253, R258) -/

/-- Decode pools that may take a request of service `v`: in a split group those of the bays that run decode. -/
def State.decPools (s : State) (v : Nat) : List Nat :=
  if s.svcSplit v then
    let g := s.svcGroup v
    (List.range (s.splitCount g)).filter (fun r =>
      let b := s.splitFirst g + r
      (s.bayLoad b).isSome && !s.bayPrefills g b)
  else [decPool]

/-- Requests assigned to a decode pool. -/
def State.assigned (s : State) (v r : Nat) : Nat := (s.usedSlots v r).length

/-- The pool that admission chooses (R253), or the reason for having none: 2 no slot, 3 no frames. -/
def State.choosePool (s : State) (v pages : Nat) : Except Nat Nat :=
  let slots := (s.decPools v).filter (fun r => (s.freeSlot v r).isSome)
  let fits := slots.filter (fun r => decide (pages ≤ s.freeCount v r))
  let g := s.svcGroup v
  let kept := if s.svcSplit v ∧ s.groupP g < (s.split g).target then fits.filter (fun r => decide (r ≠ s.groupP g)) else fits
  match minBy (s.assigned v) (if kept = [] then fits else kept) with
  | some r => .ok r
  | none => .error (if slots = [] then 2 else 3)

/-- Record the reason for a refusal in SRV_ADMIT_STAT. -/
def admitReason (reason : Nat) (declined : Bool) : Act :=
  .seq (setFld rSRV_ADMIT_STAT 63 56 reason) (when' declined (addFld rSRV_ADMIT_STAT 39 0 1))

/-- The status of a refusal by its reason (R258). -/
def refusalStatus (reason : Nat) : Status :=
  if reason = 6 then .shapeInvalid else if reason = 5 then .guaranteeSuspended else .declined

/-- Refuse command `id`: its completion carries `result` and the reason (Table 8.12). -/
def refuseAdmit (id result reason : Nat) : Act :=
  .seq (admitReason reason (decide (refusalStatus reason = .declined)))
    (complete id (refusalStatus reason) result reason)

/-- The first admission of a service on standby starts its STAGE_IQ list (R243). -/
def startStaging (v : Nat) : Act :=
  .dyn fun s => if s.svcState v = svcSTANDBY then
      .seq (setFld rSRV_SVC_CFG 62 61 svcSTAGING v) (enableIq (s.svcIq v))
    else .nop

/-- A SERVE command that the serving block may take now: a hold keeps SUBMIT and RESUME waiting (R280, R303, R380). -/
def State.takesServe (s : State) (id op : Nat) : Option Cmd :=
  (s.takes id opcSERVE).bind fun c =>
    if decide (leAt c.desc 0x10 1 = op) && decide (s.srvSt = .running) && !s.stilled
        && !((decide (op = 1) || decide (op = 4)) && s.holds c.tenant) then some c else none

/-! ### SUBMIT (R255, R256, R258, R264) -/

def suREG (d : List Byte) : Bool := (leAt d 0x11 1).testBit 0
def suPRIORITY (d : List Byte) : Nat := leAt d 0x12 1 % 8
def suDRAFT (d : List Byte) : Nat := bits 6 3 (leAt d 0x12 1)
def suPARAM (d : List Byte) : Nat := leAt d 0x13 1
def suCOLLECTION (d : List Byte) : Nat := leAt d 0x14 4
def suENTRY (d : List Byte) : Nat := leAt d 0x14 4
def suDEADLINE (d : List Byte) : Nat := leAt d 0x18 8
def suSEED (d : List Byte) : Nat := leAt d 0x20 8
def suPROMPT (d : List Byte) : Nat := leAt d 0x28 6
def suPEN_LEN (d : List Byte) : Nat := leAt d 0x2E 2
def suL (d : List Byte) : Nat := leAt d 0x30 4
def suG (d : List Byte) : Nat := leAt d 0x34 4
def suPREFIX (d : List Byte) : Nat := leAt d 0x38 4
def suPAGE_LIST (d : List Byte) : Nat := leAt d 0x40 6
def suPEN_LIST (d : List Byte) : Nat := leAt d 0x48 6
def suOUT (d : List Byte) : Nat := leAt d 0x50 6

/-- The service that a SUBMIT of tenant `t` for a collection reaches. -/
def State.serviceFor (s : State) (t coll : Nat) : Option Nat :=
  (List.range 64).find? (fun v => s.svcOn v && decide (s.svcTenant v = t) && decide (s.fld rSRV_SVC_CFG 31 0 v = coll))

/-- Parameter set fields (SMP_SET registers). -/
def State.setInvT (s : State) (k : Nat) : Nat := s.fld rSMP_SET_TEMP 63 32 k
def State.setTopP (s : State) (k : Nat) : Nat := s.fld rSMP_SET_TEMP 31 0 k
def State.setRep (s : State) (k : Nat) : Nat := s.fld rSMP_SET_PEN 63 32 k
def State.setInvRep (s : State) (k : Nat) : Nat := s.fld rSMP_SET_PEN 31 0 k
def State.setPresence (s : State) (k : Nat) : Nat := s.fld rSMP_SET_PF 63 32 k
def State.setFreq (s : State) (k : Nat) : Nat := s.fld rSMP_SET_PF 31 0 k
def State.setMinP (s : State) (k : Nat) : Nat := s.fld rSMP_SET_K 63 32 k
def State.setTopK (s : State) (k : Nat) : Nat := s.fld rSMP_SET_K 10 0 k
def State.setValid (s : State) (k : Nat) : Bool := s.flag rSMP_SET_K 31 k

/-- FP32 one. -/
def f32One : Nat := 0x3F800000

/-- A penalising set (R267). -/
def State.setPenalises (s : State) (k : Nat) : Bool :=
  decide (f32 (s.setRep k) ≠ f32 f32One) || decide (s.setPresence k % 2 ^ 31 ≠ 0) || decide (s.setFreq k % 2 ^ 31 ≠ 0)

/-- A penalty list's entries: token id and count (R272). -/
def State.penEntries (s : State) (a n : Nat) : List (Nat × Nat) :=
  (List.range n).map (fun k => let w := s.le (a + 4 * k) 4; (w / 256, w % 256))

/-- The request that a SUBMIT of service `v` describes, not yet placed. -/
def State.submitReq (s : State) (c : Cmd) (id v : Nat) (pfx : Option Nat) : Req :=
  let d := c.desc
  let start := match pfx with
    | some p => (s.pfx p).length
    | none => 0
  let l := suL d
  let g := suG d
  { st := .admitted, tenant := c.tenant, svc := v, priority := suPRIORITY d, draft := suDRAFT d,
    collection := suCOLLECTION d, deadline := suDEADLINE d, seed := suSEED d, committed := start, promptEnd := start + l,
    limit := start + l + g, handle := suPREFIX d, pageList := suPAGE_LIST d, penList := suPEN_LIST d,
    penLen := suPEN_LEN d, out := suOUT d, param := suPARAM d, ph := .waiting, cmd := some id,
    reg := suREG d && decide (g = 0), prompt := l, promptAt := suPROMPT d, pfx := pfx, stamp := s.reqStamp,
    pb := s.submitPb v l g }

/-- The reserved-region ranges of a SUBMIT (R183, Table 13.4). -/
def State.submitRanges (s : State) (x : Req) : List (Nat × Nat) :=
  [(x.promptAt, 4 * x.prompt), (x.pageList, 4 * s.reqPages x), (x.penList, 4096), (x.out, 16 * (1 + x.limit - x.promptEnd))]

/-- Check 1 of R258 but for the service and the prefix. -/
def State.submitOk (s : State) (x : Req) : Bool :=
  s.setValid x.param && decide (s.setTopK x.param ≤ s.svcC x.svc) && decide (x.draft ≤ s.svcDraftMax x.svc)
    && (!s.setPenalises x.param || s.svcPen x.svc)
    && decide (x.promptEnd ≤ 2 ^ 32 - 9) && decide (x.limit ≤ 2 ^ 32 - 9)
    && decide (x.penLen ≤ 1024) && rising ((s.penEntries x.penList x.penLen).map (fun (p : Nat × Nat) => p.1))
    && (s.submitRanges x).all (fun (p : Nat × Nat) => s.inRsv p.1 p.2)

/-- The request `x` of command `id` is admitted into entry `i` in pool `r`: it takes the lowest free slot and frames. -/
def admitReq (id i r : Nat) (x : Req) : Act :=
  .dyn fun s =>
    let n := s.reqPages x - s.pfxPages x
    let fs := (freeFrames (s.usedFrames x.svc r) 0 (s.poolFrames x.svc r) n).getD []
    seqs [
      .upd (.req i { x with pool := r, slot := s.freeSlot x.svc r, frames := fs }),
      .upd (.reqStamp (s.reqStamp + 1)),
      withSome x.pfx (fun p => modPfx p (fun y => { y with refs := y.refs + 1 })),
      writeBytes x.out (leBytes 4 i ++ leBytes 4 x.promptEnd ++ leBytes 8 s.now),
      modCmd id (fun c => c.map (fun c => { c with taken := true, decided := true })),
      startStaging x.svc]

/-- The lowest FREE entry. -/
def State.freeEntry (s : State) : Option Nat := (List.range 16384).find? (fun i => decide ((s.req i).st = .free))

/-- Checks 2 to 4 of R258 on a request: an entry and pool for it, or the reason for refusal. -/
def State.admission (s : State) (x : Req) (entry : Option Nat) (total : Nat) : Except Nat (Nat × Nat) :=
  if x.hasDeadline && !s.flag rSRV_ADMIT_CTL 31 then .error 5
  else match entry with
    | none => .error 1
    | some i => match s.choosePool x.svc (s.reqPages x) with
      | .error e => .error e
      | .ok r => if x.hasDeadline && !s.boundHolds x.svc total x.deadline then .error 4 else .ok (i, r)

/-- SUBMIT. -/
def submitA (id : Nat) : Act :=
  .dyn fun s => withSome (s.takesServe id 1) fun c =>
    let d := c.desc
    match s.serviceFor c.tenant (suCOLLECTION d) with
    | none => refuseAdmit id noIdx 6
    | some v =>
      let pfx := idxOf (suPREFIX d)
      let p := pfx.bind s.pfxOf
      let fits := match pfx, p with
        | none, _ => true
        | some _, some p => decide ((s.pfx p).tenant = c.tenant) && decide ((s.pfx p).svc = v)
        | some _, none => false
      let x := s.submitReq c id v p
      if !fits || !s.submitOk x then refuseAdmit id noIdx 6
      else if (s.submitRanges x).any (fun (p : Nat × Nat) => !s.inWindow c.tenant p.1 p.2) then
        .seq (windowFault c.tenant) (refuseAdmit id noIdx 6)
      else
        let total := s.totalBound v x.pb (s.stepTb v x.draft) (suG d - 1) true
        .seq (.upd (.fresh (s.fresh + 4)))
          (match s.admission x s.freeEntry total with
            | .error e => refuseAdmit id noIdx e
            | .ok (i, r) => admitReq id i r x)

/-- SUBMIT (R258). -/
def execSubmit (cmd : Nat) (s : State) : Host.Outcome State Fault Refusal := .next (run (submitA cmd) s)

/-! ### CANCEL, PARK, RESUME, RELEASE (R254, R257, R277, R278) -/

/-- The entry that a SERVE command names, if it is an entry of its tenant that is not FREE. -/
def State.ownEntry (s : State) (c : Cmd) : Option Nat :=
  let i := suENTRY c.desc
  if i < 16384 ∧ (s.req i).st ≠ .free ∧ (s.req i).tenant = c.tenant then some i else none

/-- A command or step that serves the request is in progress. -/
def Req.inProgress (x : Req) : Bool := decide (x.ph = .prefill) || decide (x.ph = .draw) || decide (x.ph = .step)

/-- CANCEL. -/
def cancelA (id : Nat) : Act :=
  .dyn fun s => withSome (s.takesServe id 2) fun c =>
    match s.ownEntry c with
    | none => complete id .shapeInvalid (suENTRY c.desc)
    | some i =>
      let x := s.req i
      if !x.live then complete id .okCancelLate i
      else seqs [
        takeCmd id,
        modReq i (fun x => { x with cancel := true, cancels := x.cancels ++ [id] }),
        when' (!x.inProgress) (drainReq i .cancelled Status.cancelled.code)]

/-- CANCEL (R277, R278). -/
def execCancel (cmd : Nat) (s : State) : Host.Outcome State Fault Refusal := .next (run (cancelA cmd) s)

/-- PARK. -/
def parkA (id : Nat) : Act :=
  .dyn fun s => withSome (s.takesServe id 3) fun c =>
    match s.ownEntry c with
    | none => complete id .shapeInvalid (suENTRY c.desc)
    | some i =>
      let x := s.req i
      if !x.live || decide (x.st = .parked) then complete id .shapeInvalid i
      else if x.parkCmd.isSome then complete id .busy i
      else seqs [
        takeCmd id,
        modReq i (fun x => { x with parkCmd := some id }),
        when' (decide (x.ph = .idle)) (beginPark i id)]

/-- PARK (R254). -/
def execPark (cmd : Nat) (s : State) : Host.Outcome State Fault Refusal := .next (run (parkA cmd) s)

/-- RESUME. -/
def resumeA (id : Nat) : Act :=
  .dyn fun s => withSome (s.takesServe id 4) fun c =>
    match s.ownEntry c with
    | none => refuseAdmit id (suENTRY c.desc) 6
    | some i =>
      let x := { s.req i with deadline := suDEADLINE c.desc }
      let v := x.svc
      if x.st ≠ .parked ∨ !s.svcOn v ∨ s.svcTenant v ≠ c.tenant then refuseAdmit id i 6
      else
        let pb := s.resumePb v x.committed
        let total := s.totalBound v pb (s.stepTb v x.draft) (x.limit - x.committed - 1) false
        .seq (.upd (.fresh (s.fresh + 4)))
          (match s.admission x (some i) total with
            | .error e => refuseAdmit id i e
            | .ok (_, r) =>
              let fs := (freeFrames (s.usedFrames v r) 0 (s.poolFrames v r) x.parkFrames.length).getD []
              seqs [
                .upd (.req i { x with st := .admitted, ph := .fetching, pool := r, slot := s.freeSlot v r, frames := fs,
                                      pb := pb }),
                startStaging v,
                complete id .ok i])

/-- RESUME (R254, R258 to R260). -/
def execResume (cmd : Nat) (s : State) : Host.Outcome State Fault Refusal := .next (run (resumeA cmd) s)

/-- RELEASE. -/
def releaseA (id : Nat) : Act :=
  .dyn fun s => withSome (s.takesServe id 5) fun c =>
    let h := suPREFIX c.desc
    match s.pfxOf h with
    | some p =>
      if (s.pfx p).tenant = c.tenant then seqs [
        modPfx p (fun y => { y with st := .releasing }),
        settlePfx p,
        complete id .ok h]
      else complete id .shapeInvalid h
    | none => complete id .shapeInvalid h

/-- RELEASE (R257). -/
def execRelease (cmd : Nat) (s : State) : Host.Outcome State Fault Refusal := .next (run (releaseA cmd) s)

/-! ### Prefill (R251, R252, R256, R260) -/

/-- Service `v` may start work: the serving block runs and the service is READY (R243, R280). -/
def State.serves (s : State) (v : Nat) : Bool :=
  decide (s.srvSt = .running) && !s.stilled && s.svcOn v && decide (s.svcState v = svcREADY) && !s.holds (s.svcTenant v)

/-- The next request of service `v` to be prefilled (R260). -/
def State.nextPrefill (s : State) (v : Nat) : Option Nat :=
  let ws := s.reqIds.filter (fun i => decide ((s.req i).svc = v) && decide ((s.req i).ph = .waiting))
  match minBy (fun i => (s.req i).stamp) (ws.filter (fun i => (s.req i).hasDeadline)) with
  | some i => some i
  | none => minBy (fun i => 16384 * (7 - (s.req i).priority) + i) ws

/-- Load `h` is free for a prefill: READY, with no command and none waiting. -/
def State.loadFree (s : State) (h : Nat) : Bool :=
  let l := s.load h
  decide (l.st = .ready) && l.cmd.isNone && decide (l.waiting = []) && l.repl.isNone

/-- Frames of pool `r` that a prefill of `x` needs there, its own and, when it is the first user, its prefix's. -/
def State.prefillFrames (s : State) (x : Req) (r : Nat) : Nat :=
  (if x.pool = r then 0 else cdiv x.promptEnd (s.svcPage x.svc) - s.pfxPages x)
    + (match x.pfx with
      | some p => if (s.pfx p).homes.any (fun h => decide (h.pool = r)) then 0 else s.pfxPages x
      | none => 0)

/-- The prefix's partial page goes from its park frame into the request's first private frame (R256). -/
def copyPartial (i r : Nat) : Act :=
  .dyn fun s =>
    let x := s.req i
    withSome x.pfx (fun p =>
      let n := s.pfxPages x
      match lget none (((s.pfx p).frames).map some) n, (if x.pool = r then x.frames else x.preFrames) with
      | some f, g :: _ => when' (decide ((s.pfx p).length % s.svcPage x.svc ≠ 0)) (copyFrames x.svc parkEntry r [(f, g)])
      | _, _ => .nop)

/-- Start the prefill of request `i` on load `h` with pool `r`. -/
def startPrefill (i h r : Nat) : Act :=
  .dyn fun s =>
    let x := s.req i
    let n := cdiv x.promptEnd (s.svcPage x.svc) - s.pfxPages x
    seqs [
      withSome x.pfx (fun p => acquirePfx p r),
      .dyn fun s => modReq i (fun x => { x with
        st := .prefill, ph := .prefill, preLoad := h, prePool := r,
        loc := if x.pool = r then .decode else .prefill,
        preFrames := if x.pool = r then []
          else (freeFrames (s.usedFrames x.svc r) 0 (s.poolFrames x.svc r) n).getD [] }),
      copyPartial i r,
      writePageList i,
      issueServe opPREFILL h x.svc (drawKey i) [i]]

/-- PREFILL_START. -/
def prefillStartA (v : Nat) : Act :=
  .dyn fun s =>
    if s.serves v then
      match s.nextPrefill v, minBy (fun (p : Nat × Nat) => p.2) ((s.preLoads v).filter (fun (p : Nat × Nat) => s.loadFree p.2)) with
      | some i, some (r, h) =>
        let need := s.prefillFrames (s.req i) r
        if (freeFrames (s.usedFrames v r) 0 (s.poolFrames v r) need).isSome then startPrefill i h r else .nop
      | _, _ => .nop
    else .nop

/-- PREFILL_START (R260). -/
def execPrefillStart (svc : Fin 64) (s : State) : Host.Outcome State Fault Refusal := .next (run (prefillStartA svc.val) s)

/-- Pages of request `i` move whole, each through a handover frame of the park copy (R252). -/
def handOver (i : Nat) : Act :=
  .dyn fun s =>
    let x := s.req i
    let n := min 64 (max 1 (s.poolFrames x.svc parkEntry))
    each ((List.range x.preFrames.length).zip (x.preFrames.zip x.frames)) (fun (q : Nat × Nat × Nat) => .seq
      (copyFrames x.svc x.prePool parkEntry [(q.2.1, q.1 % n)])
      (copyFrames x.svc parkEntry x.pool [(q.1 % n, q.2.2)]))

/-- HANDOVER_COMPLETE. -/
def handoverA (i : Nat) : Act :=
  .dyn fun s =>
    let x := s.req i
    if x.ph = .handover ∧ !s.stilled then seqs [
      handOver i,
      withSome x.pfx (fun p => .seq (acquirePfx p x.pool) (leavePfx p x.prePool)),
      modReq i (fun x => { x with loc := .decode, preFrames := [] }),
      writePageList i,
      startDraw i]
    else .nop

/-- HANDOVER_COMPLETE (R252). -/
def execHandoverComplete (req : Fin 16384) (s : State) : Host.Outcome State Fault Refusal :=
  .next (run (handoverA req.val) s)

/-! ### Steps (R263, R274) -/

/-- The READY service and pool that load `h` decodes for. -/
def State.decodes (s : State) (h : Nat) : Option (Nat × Nat) :=
  ((List.range 64).filter s.serves).findSome? (fun v =>
    ((s.decPools v).find? (fun r => decide (s.decLoad v r = some h))).map (fun r => (v, r)))

/-- Requests that a step of pool `r` serves (R263). -/
def State.stepReqs (s : State) (v r : Nat) : List Nat :=
  s.reqIds.filter (fun i =>
    let x := s.req i
    decide (x.svc = v) && decide (x.pool = r) && decide (x.st = .decode) && decide (x.ph = .idle)
      && x.parkCmd.isNone && !x.cancel)

/-- Request `i` enters a step with its drafts (R274). -/
def enterStep (i : Nat) : Act :=
  modReq i (fun x =>
    let d := min x.draft (min x.proposed.length (x.limit - x.committed - 1))
    { x with
      ph := .step, st := if d = 0 then .decode else .verify, drafts := x.proposed.take d, prov := d,
      due := (List.range (d + 1)).map (fun j => x.committed + j), drawn := [], decided := false, wide := false })

/-- DECODE_STEP_START. -/
def decodeStepA (h : Nat) : Act :=
  .dyn fun s => withSome (s.decodes h) fun (p : Nat × Nat) =>
    let rs := s.stepReqs p.1 p.2
    if rs ≠ [] ∧ s.srvStep h = none ∧ ((s.load h).repl).isNone then seqs [
      .upd (.srvStep h (some { svc := p.1, reqs := rs })),
      each rs enterStep,
      issueServe opDECODE h p.1 h rs]
    else .nop

/-- DECODE_STEP_START (R263, R274). -/
def execDecodeStepStart (load : Fin 16) (s : State) : Host.Outcome State Fault Refusal := .next (run (decodeStepA load.val) s)

/-! ### Parking (R254) -/

/-- PARK_COMPLETE. -/
def parkDoneA (i : Nat) : Act :=
  .dyn fun s =>
    let x := s.req i
    if x.ph = .parking ∧ !s.stilled then seqs [
      copyFrames x.svc x.pool parkEntry (x.frames.zip x.parkFrames),
      withSome x.pfx (fun p => leavePfx p x.pool),
      modReq i (fun x => { x with st := .parked, ph := .none, loc := .park, slot := none, frames := [], parkCmd := none }),
      writePageList i,
      withSome x.parkCmd (fun id => complete id .ok i)]
    else .nop

/-- PARK_COMPLETE (R254). -/
def execParkComplete (req : Fin 16384) (s : State) : Host.Outcome State Fault Refusal := .next (run (parkDoneA req.val) s)

/-- RESUME_FETCH_COMPLETE. -/
def fetchDoneA (i : Nat) : Act :=
  .dyn fun s =>
    let x := s.req i
    if x.ph = .fetching ∧ !s.stilled then seqs [
      withSome x.pfx (fun p => acquirePfx p x.pool),
      copyFrames x.svc parkEntry x.pool (x.parkFrames.zip x.frames),
      modReq i (fun x => { x with st := .decode, ph := .idle, loc := .decode, parkFrames := [] }),
      writePageList i,
      reqBoundary i]
    else .nop

/-- RESUME_FETCH_COMPLETE (R254). -/
def execResumeFetchComplete (req : Fin 16384) (s : State) : Host.Outcome State Fault Refusal :=
  .next (run (fetchDoneA req.val) s)

/-! ### Release of entries (R248, R262) -/

/-- A serving command in progress still serves request `i`. -/
def State.stillServed (s : State) (i : Nat) : Bool :=
  s.cmdIds.any (fun k => match s.cmd k with
    | some c => decide (opPREFILL ≤ c.op) && c.reqs.contains i
    | none => false)

/-- DETAIL of a SUBMIT's completion (Table 8.12). -/
def Req.detail (x : Req) : Nat :=
  if x.reg then (if x.endSt = .done ∧ x.endStatus = Status.ok.code then x.handle else noIdx)
  else x.committed - x.promptEnd

/-- The status with which a request completes: a deadline request whose guarantee was suspended does not complete OK
(R262; assumption log 44). -/
def Req.finalStatus (x : Req) : Nat :=
  if x.gsusp ∧ x.endStatus = Status.ok.code ∧ x.hasDeadline then Status.guaranteeSuspended.code else x.endStatus

/-- REQUEST_RELEASE. -/
def requestReleaseA (i : Nat) : Act :=
  .dyn fun s =>
    let x := s.req i
    if x.st = .draining ∧ !s.stillServed i then seqs [
      freeReqHoldings i,
      modReq i (fun x => { x with st := x.endSt, cmd := none }),
      when' (decide (x.endSt ≠ .done)) (cancelRequestWork i),
      withSome x.cmd (fun id => completeCode id x.finalStatus i x.detail)]
    else .nop

/-- REQUEST_RELEASE (R224, R248, R262). -/
def execRequestRelease (req : Fin 16384) (s : State) : Host.Outcome State Fault Refusal :=
  .next (run (requestReleaseA req.val) s)

/-- A write to SRV_REQ_FREE. -/
def writeReqFree (v : Nat) : Act :=
  .dyn fun s =>
    let i := bits 13 0 v
    let st := (s.req i).st
    if st = .done ∨ st = .cancelled ∨ st = .faulted then .upd (.req i {}) else incA blkSRV 3 rSRV_REQ_FREE

/-- SRV_REQ_FREE (R248). -/
def execSrvReqFree (v : Word) (s : State) : Host.Outcome State Fault Refusal :=
  .next (run (regDo (.srvReqFree v) rSRV_REQ_FREE v.toNat writeReqFree) s)

/-! ### Disabling the serving block (R280, R324) -/

/-- EN = 1 in SRV_CTL. -/
def srvOn : Act := .seq (setFld rSRV_CTL 0 0 1) (.upd (.srvSt .running))

/-- EN = 0 in SRV_CTL. -/
def srvOff : Act :=
  .dyn fun s => .seq (setFld rSRV_CTL 0 0 0)
    (when' (decide (s.srvSt = .running)) (.upd (.srvSt (if s.serveBusy then .draining else .off))))

/-- The serving block's commands on load `h` are aborted: the one in progress and those that wait. -/
def abortServing (h : Nat) : Act :=
  .dyn fun s =>
    let serving (id : Nat) : Bool := match s.cmd id with
      | some c => c.pair.isNone
      | none => false
    let l := s.load h
    seqs [
      modLoad h (fun l => { l with waiting := l.waiting.filter (fun id => !serving id) }),
      each (l.waiting.filter serving) (fun id => serveEnd id .poisoned),
      when' (match l.cmd with
        | some id => serving id
        | none => false) (endWith h rankABORT)]

/-- FORCE in SRV_CTL (R280). -/
def srvForceA : Act :=
  .dyn fun s =>
    if s.srvSt = .draining then seqs [
      setErr blkSRV 4,
      each (List.range 16) abortServing,
      .dyn fun s => each (tkeys s.srv.steps) (fun k => withSome (s.srvStep k) (fun t => .seq
        (each (t.reqs.filter s.inStep) (fun i => faultReq i .poisoned))
        (.upd (.srvStep k none)))),
      .upd (.srvSt .off)]
    else incA blkSRV 0xFF rSRV_CTL

/-- SRV_ENABLE (R280). -/
def execSrvEnable (s : State) : Host.Outcome State Fault Refusal := .next (run (bitDo (.srvEnable) srvOn) s)

/-- SRV_DISABLE (R280). -/
def execSrvDisable (s : State) : Host.Outcome State Fault Refusal := .next (run (bitDo (.srvDisable) srvOff) s)

/-- SRV_FORCE (R280, R324). -/
def execSrvForce (s : State) : Host.Outcome State Fault Refusal := .next (run (bitDo (.srvForce) srvForceA) s)

/-! ### Guarantees (R262, R407) -/

/-- The fabric is forced below the guarantee clock (R262). -/
def guaranteeSuspend : Act :=
  .dyn fun s => .seq
    (each (s.reqIds.filter (fun i => (s.req i).live && decide ((s.req i).st ≠ .parked)))
      (fun i => modReq i (fun x => { x with gsusp := true })))
    (setFld rSRV_ADMIT_CTL 31 31 0)

/-- DL_OPEN_RESTORE (R262, R407): FORCED has read 0 for 1 ms. -/
def execDlOpenRestore (s : State) : Host.Outcome State Fault Refusal :=
  .next (run (whenS (fun s => !s.flag rPWR_GUAR 63) (setFld rSRV_ADMIT_CTL 31 31 1)) s)

end Sys2Proof.Machine
end

