-- ==== Sys2Proof/Machine/Moves.lean ====
section
/-!
DEFINITION. Moves: their checks, placement and eviction, division into shares, the bytes that docents carry, and their
ends (R194, R200 to R209, R214, R215, R227, R228, R369, R370).
-/

namespace Sys2Proof.Machine

/-! ### Sides of a move -/

/-- Change move `m`. -/
def modMv (m : Nat) (f : Move → Move) : Act := modMove m (fun x => x.map f)

/-- Numbers of the moves in flight, in the order in which they started. -/
def State.moveIds (s : State) : List Nat := tkeys s.mov.moves

/-- The moves in flight other than `m`. -/
def State.otherMoves (s : State) (m : Nat) : List Move := (s.moveIds.filter (fun k => decide (k ≠ m))).filterMap s.move

/-- A move that is not over uses copy `i` as source, destination or write-back target. -/
def Move.uses (x : Move) (i : Nat) : Bool :=
  decide (x.phase ≠ .done) && (decide (x.src = some i) || decide (x.lower = some i) || (x.made && decide (x.dst = some i)))

/-- Copy `i` is being filled by a move that has started or is held (R201). -/
def State.filling (s : State) (i : Nat) : Bool :=
  s.moveIds.any (fun k => match s.move k with
    | some x => decide (x.dst = some i) && x.made && decide (x.phase ≠ .done)
    | none => false)

/-- MOVING of the copies of a move, as the moves now in flight make it (R201). -/
def markMoving (is : List (Option Nat)) : Act :=
  each is (fun x => withSome x (fun i => .dyn fun s =>
    let b := s.moveIds.any (fun k => match s.move k with
      | some y => y.uses i
      | none => false)
    match s.obj i with
    | some o => if o.tier = 0 ∨ o.moving = b then .nop else setObj i { o with moving := b }
    | none => .nop))

/-- Move `m` has ended with a status code. -/
def endMove (m code : Nat) : Act :=
  .dyn fun s => withSome (s.move m) fun x => .seq
    (modMv m (fun x => { x with phase := .done, status := code, shares := [] }))
    (markMoving [x.src, x.dst, x.lower])

/-! ### Freeing a copy (R148, R194) -/

/-- The descriptor of copy `i` and its units are free again; a verified image at its address is forgotten (R148). -/
def freeCopy (i : Nat) : Act :=
  .dyn fun s => withSome (s.obj i) fun o => seqs [
    setObj i (freeObj o),
    .upd (.allocs (s.allocs.filter (fun a => decide (a.copy ≠ i)))),
    when' (decide (o.tier = 1) && decide (o.bays = 0)) (each (List.range 32) (fun e =>
      whenS (fun s => (s.imgEntry e).valid && decide ((s.imgEntry e).image.addr = o.addr)) (.upd (.imgEntry e {}))))]

/-- Moves whose source is copy `i` end SHAPE_INVALID, and what they were filling returns to free; so do those that wait
on these in turn (R201). -/
def failDependents : Nat → Nat → Act
  | 0, _ => .nop
  | n + 1, i => .dyn fun s => each s.moveIds (fun k => .dyn fun s => withSome (s.move k) fun x =>
      if x.src = some i ∧ (x.phase = .copying ∨ x.phase = .held) then seqs [
        withSome (if x.made then x.dst else none) freeCopy,
        endMove k Status.shapeInvalid.code,
        withSome (if x.made then x.dst else none) (failDependents n)]
      else .nop)

/-- Move `m` fails with a status: what it was filling returns to free (R229, R230, R369). -/
def failMove (m code : Nat) : Act :=
  .dyn fun s => withSome (s.move m) fun x => seqs [
    withSome (if x.made then x.dst else none) freeCopy,
    endMove m code,
    withSome (if x.made then x.dst else none) (failDependents (s.moveIds.length + 1))]

/-! ### Checks (R192, R194, R195, R201 to R204, R462) -/

/-- A descriptor keeps R195: its size and its scale layout. -/
def Obj.shapeOk (o : Obj) : Bool :=
  decide (o.size ≠ 0) && decide (o.size % 64 = 0) && decide (o.scale ≤ 4)
    && (!(decide (o.scale = 1) || decide (o.scale = 2)) || fmtIsMx o.fmt)
    && (!(decide (o.scale = 3) || decide (o.scale = 4)) || fmtIsInt o.fmt)

/-- Fields in which a destination agrees with its source or its LOWER (R203, R204). -/
def Obj.agrees (a b : Obj) : Bool :=
  decide (a.size = b.size) && decide (a.fmt = b.fmt) && decide (a.rank = b.rank) && decide (a.scale = b.scale)
    && decide (a.ext = b.ext) && decide (a.owner = b.owner) && decide (a.writable = b.writable)

/-- The spread fields of a new T1 copy are in range (R193, R204). -/
def Obj.spreadOk (o : Obj) : Bool :=
  decide (o.bays = 0) || (decide (o.rowLo ≤ o.rowHi) && decide (o.rowHi ≤ 39) && decide (6 ≤ o.stripe) && decide (o.stripe ≤ 20))

/-- Kinds with a source copy, and kinds with a destination copy (Table 5.9). -/
def MoveKind.hasSrc : MoveKind → Bool
  | .ingest => false
  | .alloc => false
  | _ => true
def MoveKind.hasDst : MoveKind → Bool
  | .fetch => true
  | .ingest => true
  | .alloc => true
  | _ => false

/-- The tier of the new copy of an INGEST or ALLOC, or none where R194, R202 or R203 forbids it. -/
def State.newTier (s : State) (kind : MoveKind) (d : Obj) : Option Nat :=
  let tier : Option Nat :=
    match idxOf d.lower with
    | none => if 1 ≤ d.tierReq ∧ d.tierReq ≤ 3 then some d.tierReq else none
    | some l => match s.obj l with
      | some o =>
        if 2 ≤ o.tier ∧ o.whole ∧ o.agrees d ∧ d.tierReq ≤ 3 ∧ (d.tierReq = 0 ∨ d.tierReq = o.tier - 1)
            ∧ !(o.writable && s.isLower l) then some (o.tier - 1) else none
      | none => none
  if kind = .ingest ∧ tier = some 1 then none else tier

/-- What the checks of a move find. -/
inductive MoveCheck where
  | shape
  | window
  | busy
  /-- it may go on: the tier of a new copy, the LOWER that is written over, and the bytes that docents carry -/
  | go (tier : Nat) (lower : Option Nat) (size : Nat)
  deriving DecidableEq, Repr

/-- The staging range of a move (R204, R462). -/
def State.stageCheck (s : State) (x : Move) (size : Nat) (ok : MoveCheck) : MoveCheck :=
  if x.stage % 64 ≠ 0 ∨ !s.inRsv x.stage size then .shape
  else if !s.inWindow x.tenant x.stage size then .window
  else ok

/-- Checks on a move whose source is copy `i`, described by `o`. -/
def State.srcCheck (s : State) (x : Move) (i : Nat) (o : Obj) : MoveCheck :=
  let lo := idxOf o.lower
  let dirty := o.writable && o.dirty && lo.isSome
  if o.tier = 0 ∨ o.owner ≠ x.tenant ∨ (!o.whole && !s.filling i) then .shape
  else match x.kind with
    | .fetch => match x.dst.bind s.obj with
      | some d =>
        if d.tier = 0 ∧ d.owner = x.tenant ∧ 2 ≤ o.tier ∧ d.agrees o ∧ d.shapeOk ∧ (d.tierReq = 0 ∨ d.tierReq = o.tier - 1)
            ∧ !(o.writable && s.isLower i) ∧ (o.tier ≠ 2 ∨ d.spreadOk) then .go (o.tier - 1) none d.size
        else .shape
      | none => .shape
    | .exportStage => s.stageCheck x o.size (.go 2 none o.size)
    | .writeback =>
      if !o.writable then .shape
      else match lo with
        | none => .shape
        | some l => match s.obj l with
          | some w =>
            if w.tier = o.tier + 1 ∧ w.writable ∧ w.owner = x.tenant then .go w.tier (some l) (if o.dirty then o.size else 0)
            else .shape
          | none => .shape
    | _ =>
      let lower : Option MoveCheck :=
        if dirty then match lo.bind s.obj with
          | some w => if w.tier = o.tier + 1 ∧ w.writable ∧ w.owner = x.tenant then some (.go w.tier lo o.size) else none
          | none => none
        else some (.go 0 none 0)
      match lower with
      | none => .shape
      | some c => if o.pin ≠ 0 ∨ s.isLower i ∨ o.moving then .busy else c

/-- The checks of a move (R204). -/
def State.moveCheck (s : State) (x : Move) : MoveCheck :=
  if (!x.kind.hasSrc && x.src.isSome) || (!x.kind.hasDst && x.dst.isSome) then .shape
  else if x.kind.hasSrc then
    match x.src with
    | some i => match s.obj i with
      | some o => s.srcCheck x i o
      | none => .shape
    | none => .shape
  else match x.dst.bind s.obj with
    | some d =>
      if d.tier ≠ 0 ∨ d.owner ≠ x.tenant ∨ !d.shapeOk then .shape
      else match s.newTier x.kind d with
        | some t =>
          if t = 1 ∧ !d.spreadOk then .shape
          else if x.kind = .ingest then s.stageCheck x d.size (.go t none d.size) else .go t none d.size
        | none => .shape
    | none => .shape

/-! ### CRC and write-back (R199, R205, R369, R370) -/

/-- `n` bytes from an address as the tier's code delivers them: carried poison reads as zeros (R178). -/
def State.readClean (s : State) (a n : Nat) : List Byte := if s.bad a then List.replicate n 0 else s.bytes a n

/-- The bytes of a copy as the tier's code delivers them. -/
def State.copyClean (s : State) (o : Obj) : List Byte :=
  (List.range (o.size / 32)).flatMap (fun k => s.readClean (o.phys (32 * k)) 32)

/-- Some unit of a copy is carried poison. -/
def State.copyBad (s : State) (o : Obj) : Bool := (List.range (o.size / 32)).any (fun k => s.bad (o.phys (32 * k)))

/-- A CRC mismatch at the end of a move (R369). -/
def crcFault (kind : MoveKind) (tenant src : Nat) : Act :=
  .seq (firstFault rINT_CRC 63 (place 62 59 kind.code + place 37 32 tenant + bits 31 0 src))
    (incident { cls := .B, blk := blkINT, code := 0, status := Status.eccUncorrectable.code, tenant := some tenant })

/-- Descriptors after a whole write-back of copy `i` over its LOWER `l` with CRC `crc` (R199). -/
def wroteBack (i l crc : Nat) : Act :=
  .dyn fun s => .seq
    (modObj l (fun w => { w with
      crc := crc, crcv := true, poisoned := s.copyBad w, dirty := w.dirty || (w.writable && decide (w.lower ≠ noIdx)) }))
    (modObj i (fun o => { o with crc := crc, crcv := true, dirty := false }))

/-- Write copy `i` back whole over its LOWER `l` at once, charged to `tenant`: the write-back of an eviction, for which
the placement waits (R208, R227). -/
def writeBackNow (i l tenant : Nat) : Act :=
  .dyn fun s => match s.obj i, s.obj l with
    | some o, some w => seqs [
        copyBytes o w 0 0 o.size,
        chargeBytes tenant w.tier o.size,
        wroteBack i l (crc32c (s.copyClean o))]
    | _, _ => .nop

/-! ### Placement (R206 to R209) -/

/-- The pool of a new copy: vaults, edge, T2 or T3. -/
def Obj.poolOf (o : Obj) (tier : Nat) : Nat := if tier = 1 then (if o.bays = 0 then 1 else 0) else tier

/-- Units that a copy takes in its pool (R196, R206). -/
def Obj.unitsOf (o : Obj) (tier : Nat) : Nat :=
  if tier = 1 then
    if o.bays = 0 then cdiv o.size unit64K
    else
      let st := 2 ^ o.stripe
      cdiv (cdiv o.size (st * spreadCount o.bays o.rowLo o.rowHi) * st) unit64K
  else cdiv o.size unit2M

/-- ADDR of a copy placed at unit `u` of its pool. -/
def State.unitAddr (s : State) (pool u : Nat) : Nat :=
  match pool with
  | 0 => u * unit64K
  | 1 => baseT1Edge + u * unit64K
  | 2 => s.rsvEnd + u * unit2M
  | _ => baseT3 + u * unit2M

/-- Copy `i` is evictable (R207). -/
def State.evictable (s : State) (i : Nat) : Bool :=
  match s.obj i with
  | some o => (decide (o.tier = 1) || decide (o.tier = 2)) && o.whole && decide (o.pin = 0) && !o.moving
      && decide (o.lower ≠ noIdx) && !s.isLower i
  | none => false

/-- The CRC of copy `i` is valid and its bytes do not match it (R369). -/
def State.crcBroken (s : State) (i : Nat) : Bool :=
  match s.obj i with
  | some o => o.writable && o.dirty && o.crcv && decide (crc32c (s.copyClean o) ≠ o.crc)
  | none => false

/-- Evict copy `v` for a placement of `tenant`; one whose write-back finds a CRC mismatch stays, reported (R369;
assumption log 45). -/
def evict (v tenant : Nat) : Act :=
  .dyn fun s => withSome (s.obj v) fun o =>
    if s.crcBroken v then crcFault .writeback tenant v
    else seqs [
      when' (o.writable && o.dirty) (withSome (idxOf o.lower) (fun l => writeBackNow v l tenant)),
      freeCopy v]

/-- Place copy `d` in tier `tier` for `tenant`: `got` at the lowest free run, evicting the oldest evictable copies until
there is one, or `full` (R208). `skip` lists copies that a CRC mismatch keeps. -/
def placeCopy (d tier tenant : Nat) (got full : Act) : Nat → List Nat → Act
  | 0, _ => full
  | n + 1, skip => .dyn fun s => withSome (s.obj d) fun o =>
      let pool := o.poolOf tier
      let units := o.unitsOf tier
      let bays := if pool = 0 then o.bays else 0
      let xs := s.rivals pool bays o.rowLo o.rowHi
      match lowestRun xs (s.poolUnits pool) units with
      | some u => seqs [
          .upd (.allocs (s.allocs ++ [{ copy := d, pool := pool, start := u, count := units, bays := bays,
                                        rowLo := o.rowLo, rowHi := o.rowHi }])),
          setObj d { o with addr := s.unitAddr pool u, tier := tier, whole := false, moving := true, dirty := false,
                            poisoned := false, crcv := false, pin := 0, age := 0, crc := 0 },
          got]
      | none =>
        let cands := (dedup (xs.map (fun a => a.copy))).filter (fun v => s.evictable v && !skip.contains v)
        match minBy (fun v => ((s.obj v).map (fun o => o.age)).getD 0 * 2 ^ 32 + v) cands with
        | none => full
        | some v => .seq (evict v tenant)
            (placeCopy d tier tenant got full n (if s.crcBroken v then v :: skip else skip))

/-! ### Division among docents (R214, Table 6.1) -/

/-- The copy on the T1 side of a move. -/
def State.t1Side (s : State) (x : Move) : Option Obj :=
  let pick (i : Option Nat) : Option Obj := (i.bind s.obj).bind (fun o => if o.tier = 1 then some o else none)
  (if x.made then pick x.dst else none).or (pick x.src)

/-- Docent of a vault (R176, R212). -/
def vaultDocent (v : Nat) : Nat := 32 * (v / 640) + (if 20 ≤ v % 640 / 16 then 16 else 0) + v % 16

/-- Docent of a 4 KiB unit of the edge region (R174, Table 6.1). -/
def edgeDocent (u : Nat) : Nat := 16 * (u % 4) + u / 4 % 16

/-- Docents that a T1 side needs: those of its bays and half-dies, or all 64. -/
def Obj.docents (o : Obj) : Nat :=
  if o.bays = 0 then 2 ^ 64 - 1
  else maskOf ((spreadVaults o.bays o.rowLo o.rowHi).map vaultDocent)

/-- Cut `size` bytes into pieces of `n`: offset and length. -/
def cutPieces (size n : Nat) : List (Nat × Nat) := (List.range (cdiv size n)).map (fun i => (i * n, min n (size - i * n)))

/-- The pieces of a move with the docent of each. -/
def State.pieces (s : State) (x : Move) : List (Nat × Nat × Nat) :=
  match s.t1Side x with
  | some o =>
    if o.bays = 0 then (cutPieces x.size 4096).map (fun (p : Nat × Nat) => (edgeDocent ((o.addr + p.1 - baseT1Edge) / 4096), p))
    else
      let n := spreadCount o.bays o.rowLo o.rowHi
      (cutPieces x.size (2 ^ o.stripe)).map (fun (p : Nat × Nat) =>
        (vaultDocent (spreadVaultAt o.bays o.rowLo o.rowHi (p.1 / 2 ^ o.stripe % n)), p))
  | none =>
    let ds := bitsOn 64 x.docs
    (cutPieces x.size unit2M).map (fun (p : Nat × Nat) => (lget 0 ds (p.1 / unit2M % ds.length), p))

/-- Enabled docents. -/
def State.docMask (s : State) : Nat := maskOf ((List.range 64).filter (fun d => decide (s.doc d = .enabled)))

/-- Divide move `m` into shares, or hold it at its start (R214, R229). -/
def divideMove (m : Nat) : Act :=
  .dyn fun s => withSome (s.move m) fun x =>
    let en := s.docMask
    let docs := match s.t1Side x with
      | some o => o.docents
      | none => x.docs &&& en
    if docs = 0 ∨ docs &&& en ≠ docs then
      .seq (modMv m (fun x => { x with phase := .held })) (when' (decide (x.phase ≠ .held)) (setErr blkDOC 2))
    else
      .seq (modMv m (fun x => { x with phase := .copying, docs := docs }))
        (.dyn fun s => withSome (s.move m) fun x =>
          let ps := s.pieces x
          modMv m (fun x => { x with
            shares := ((List.range 64).filter (fun d => ps.any (fun (p : Nat × Nat × Nat) => decide (p.1 = d)))).map
              (fun d => (d, 0)) }))

/-! ### Starting a move (rows MOVE_FETCH to MOVE_EXPORT) -/

/-- An earlier move that is still to be checked will fill the source of `m`. -/
def State.sourceComing (s : State) (m : Nat) (x : Move) : Bool :=
  x.src.isSome && s.moveIds.any (fun k => decide (k < m) && (match s.move k with
    | some y => decide (y.phase = .new) && decide (y.dst = x.src)
    | none => false))

/-- The checks have passed: a new copy is placed, the move divided; a move with nothing to carry is over. -/
def goMove (m : Nat) (x : Move) (tier : Nat) (lower : Option Nat) (size : Nat) : Act :=
  .dyn fun s =>
    let crcWas := (x.src.bind s.obj).bind (fun o => if o.crcv then some o.crc else none)
    .seq (modMv m (fun x => { x with size := size, lower := lower, crcWas := crcWas }))
      (match (if x.kind.hasDst then x.dst else none) with
        | some d => placeCopy d tier x.tenant
            (seqs [
              modMv m (fun x => { x with made := true }),
              when' (decide (x.kind = .fetch)) (modObj d (fun o => { o with lower := x.src.getD noIdx })),
              divideMove m,
              markMoving [x.src, x.dst]])
            (endMove m Status.busy.code) (s.allocs.length + 1) []
        | none =>
          if size = 0 then
            .seq (when' (decide (x.kind = .drop)) (withSome x.src (fun i => .seq (freeCopy i) (failDependents (s.moveIds.length + 1) i))))
              (endMove m Status.ok.code)
          else .seq (divideMove m) (markMoving [x.src, lower]))

/-- Start move `m` if it is of kind `k` and still to be checked. -/
def moveStart (k : MoveKind) (m : Nat) : Act :=
  .dyn fun s => withSome (s.move m) fun x =>
    if x.kind ≠ k ∨ x.phase ≠ .new ∨ s.stilled ∨ s.sourceComing m x then .nop
    else match s.moveCheck x with
      | .shape => endMove m Status.shapeInvalid.code
      | .window => .seq (windowFault x.tenant) (endMove m Status.shapeInvalid.code)
      | .busy => endMove m Status.busy.code
      | .go tier lower size => goMove m x tier lower size

/-- MOVE_FETCH (R200). -/
def execMoveFetch (move : Nat) (s : State) : Host.Outcome State Fault Refusal := .next (run (moveStart .fetch move) s)
/-- MOVE_INGEST (R200). -/
def execMoveIngest (move : Nat) (s : State) : Host.Outcome State Fault Refusal := .next (run (moveStart .ingest move) s)
/-- MOVE_ALLOC (R200). -/
def execMoveAlloc (move : Nat) (s : State) : Host.Outcome State Fault Refusal := .next (run (moveStart .alloc move) s)
/-- MOVE_WRITEBACK (R200). -/
def execMoveWriteback (move : Nat) (s : State) : Host.Outcome State Fault Refusal :=
  .next (run (moveStart .writeback move) s)
/-- MOVE_DROP (R200). -/
def execMoveDrop (move : Nat) (s : State) : Host.Outcome State Fault Refusal := .next (run (moveStart .drop move) s)
/-- MOVE_EXPORT (R200). -/
def execMoveExport (move : Nat) (s : State) : Host.Outcome State Fault Refusal := .next (run (moveStart .exportStage move) s)

/-! ### Carrying bytes (R215, R227, R228) -/

/-- Where byte `off` of a move is read; `none` for ALLOC. -/
def State.srcByte (s : State) (x : Move) (off : Nat) : Option Nat :=
  match x.kind with
  | .alloc => none
  | .ingest => some (x.stage + off)
  | _ => (x.src.bind s.obj).map (fun o => o.phys off)

/-- Where byte `off` of a move is written. -/
def State.dstByte (s : State) (x : Move) (off : Nat) : Nat :=
  match x.kind with
  | .exportStage => x.stage + off
  | _ => match ((x.lower.or x.dst).bind s.obj) with
    | some o => o.phys off
    | none => x.stage + off

/-- The tier of a physical address. -/
def tierAt (a : Nat) : Tier := if a < baseT2 then .t1 else if a < baseT3 then .t2 else .t3

/-- The tier number to which a move's bytes are charged (R227). -/
def State.chargeTier (s : State) (x : Move) : Nat :=
  if x.kind = .exportStage then 2
  else match ((x.lower.or x.dst).bind s.obj) with
    | some o => o.tier
    | none => 2

/-- Carry the 64 B unit at offset `off` of move `m`; `f` is what the source tier's code reports of it (R228, R370). -/
def carryUnit (m off : Nat) (f : Found) : Act :=
  .dyn fun s => withSome (s.move m) fun x =>
    let q := s.dstByte x off
    match s.srcByte x off with
    | none => .seq (writeBytes q (List.replicate 64 0)) (markBad q 64 false)
    | some p =>
      let was := s.bad p || s.bad (p + 32)
      let fresh := decide (f = .uncorrectable) && !was
      seqs [
        when' fresh (seqs [
          markBad p 64 true, writeBytes p (List.replicate 64 0),
          tierUncorrectable (tierAt p) (if tierAt p = .t1 then agT1Fill else agT2Docent) p false (some x.tenant),
          withSome x.src (fun i => modObj i (fun o => { o with poisoned := true })),
          modMv m (fun x => { x with fresh := true })]),
        when' (decide (f = .corrected) && !was) (tierCorrected (tierAt p) p),
        .dyn fun s => seqs [
          writeBytes q (s.readClean p 32 ++ s.readClean (p + 32) 32),
          .upd (.bad (q / 32) (s.bad p)), .upd (.bad (q / 32 + 1) (s.bad (p + 32))),
          when' (s.bad p || s.bad (p + 32)) (modMv m (fun x => { x with poison := true }))]]

/-- The piece of a share in which byte number `n` of it lies, and the offset there. -/
def shareAt : List (Nat × Nat) → Nat → Option (Nat × Nat × Nat)
  | [], _ => none
  | (off, len) :: t, n => if n < len then some (off, len, n) else shareAt t (n - len)

/-- Pieces of docent `d` in a move, in destination address order (R215). -/
def State.docentPieces (s : State) (x : Move) (d : Nat) : List (Nat × Nat) :=
  sortBy (fun (p : Nat × Nat) => s.dstByte x p.1)
    (((s.pieces x).filter (fun (p : Nat × Nat × Nat) => decide (p.1 = d))).map (fun (p : Nat × Nat × Nat) => p.2))

/-- Bytes of one segment (R236, DOC_SEG): T3's where the move touches T3, else T2's. -/
def State.segment (s : State) (x : Move) : Nat :=
  let t3 (a : Nat) : Bool := decide (tierAt a = .t3)
  1024 * (if (match s.srcByte x 0 with
      | some p => t3 p
      | none => false) || t3 (s.dstByte x 0) then s.fld rDOC_SEG 15 0 else s.fld rDOC_SEG 31 16)

/-- The source of a move is whole, so that its shares can proceed (R201, R215). -/
def State.sourceWhole (s : State) (x : Move) : Bool :=
  match x.src with
  | some i => ((s.obj i).map (fun o => o.whole)).getD false
  | none => true

/-- The oldest share of docent `d` that can proceed: its move and the bytes carried. -/
def State.oldestShare (s : State) (d : Nat) : Option (Nat × Nat) :=
  s.moveIds.findSome? (fun m => (s.move m).bind (fun x =>
    if x.phase = .copying ∧ s.sourceWhole x then
      (x.shares.find? (fun (p : Nat × Nat) => decide (p.1 = d))).map (fun (p : Nat × Nat) => (m, p.2))
    else none))

/-- Docent `d` holds a share. -/
def State.docBusy (s : State) (d : Nat) : Bool :=
  s.moveIds.any (fun m => match s.move m with
    | some x => x.shares.any (fun (p : Nat × Nat) => decide (p.1 = d))
    | none => false)

/-- A DRAINING docent without a share stops (R229). -/
def settleDocent (d : Nat) : Act :=
  whenS (fun s => decide (s.doc d = .draining) && !s.docBusy d) (.upd (.doc d .stopped))

/-- Docent `d` carries one segment of its oldest share that can proceed; `found` lists the 64 B units of the segment, by
number from its start, in which the source tier's code found an error. -/
def docentShareA (d : Nat) (found : List (Nat × Found)) : Act :=
  .dyn fun s =>
    if s.doc d = .stopped ∨ s.stilled then .nop
    else withSome (s.oldestShare d) fun (mn : Nat × Nat) => withSome (s.move mn.1) fun x =>
      let ps := s.docentPieces x d
      let total := (ps.map (fun (p : Nat × Nat) => p.2)).sum
      withSome (shareAt ps mn.2) fun (pos : Nat × Nat × Nat) =>
        let n := min (s.segment x) (pos.2.1 - pos.2.2)
        let done := mn.2 + n
        seqs [
          each (List.range (n / 64)) (fun k =>
            carryUnit mn.1 (pos.1 + pos.2.2 + 64 * k)
              (match found.find? (fun (e : Nat × Found) => decide (e.1 = k)) with
                | some e => e.2
                | none => .clean)),
          chargeBytes x.tenant (s.chargeTier x) n,
          modIq x.iq (fun q => { q with bytes := sat 64 (q.bytes + n) }),
          modMv mn.1 (fun x => { x with
            shares := if total ≤ done then x.shares.filter (fun (p : Nat × Nat) => decide (p.1 ≠ d))
              else x.shares.map (fun (p : Nat × Nat) => if p.1 = d then (d, done) else p) }),
          settleDocent d]

/-- DOCENT_SHARE (R215, R227, R228). -/
def execDocentShare (docent : Fin 64) (found : List (Nat × Found)) (s : State) : Host.Outcome State Fault Refusal :=
  .next (run (docentShareA docent.val found) s)

/-! ### The end of a move (R199, R205, R369, R370) -/

/-- The bytes that a move has written, as the code delivers them. -/
def State.written (s : State) (x : Move) : List Byte :=
  (List.range (x.size / 32)).flatMap (fun k => s.readClean (s.dstByte x (32 * k)) 32)

/-- The last share of move `m` is complete. -/
def moveDoneA (m : Nat) : Act :=
  .dyn fun s => withSome (s.move m) fun x =>
    if x.phase ≠ .copying ∨ x.shares ≠ [] ∨ s.stilled then .nop
    else
      let crc := crc32c (s.written x)
      let bad := !x.fresh && (match x.crcWas with
        | some c => decide (c ≠ crc)
        | none => false)
      if bad then .seq (crcFault x.kind x.tenant (x.src.getD noIdx)) (failMove m Status.eccUncorrectable.code)
      else seqs [
        when' (x.fresh && x.crcWas.isSome) (withSome x.src (fun i => modObj i (fun o => { o with crc := crc }))),
        (match x.kind with
          | .fetch | .ingest | .alloc => withSome x.dst (fun d => modObj d (fun o => { o with
              whole := true, crc := crc, crcv := true, poisoned := x.poison, age := s.now }))
          | .writeback | .drop => withSome x.src (fun i => withSome x.lower (fun l => wroteBack i l crc))
          | .exportStage => .nop),
        endMove m Status.ok.code,
        when' (decide (x.kind = .drop)) (withSome x.src (fun i => .seq (freeCopy i) (failDependents (s.moveIds.length + 1) i)))]

/-- MOVE_COMPLETE (R205, R369, R370). -/
def execMoveComplete (move : Nat) (s : State) : Host.Outcome State Fault Refusal := .next (run (moveDoneA move) s)

end Sys2Proof.Machine
end

