-- ==== Sys2Proof/Machine/Halt.lean ====
section
/-!
DEFINITION. The halt (R376, R377), the hold (R380) and condition checks (R385 to R387).
-/

namespace Sys2Proof.Machine

/-! ### Halt -/

def haltT2 : Nat := 1
def haltTHERMAL : Nat := 2
def haltOBJECTS : Nat := 3
def haltSERVING : Nat := 4
def haltINTERNAL : Nat := 5

/-- A NOTICE LOST with REASON 3 for each remote stream of the module's loads (R377 point 4). -/
def haltNotices : Act :=
  .dyn fun s => each (List.range 16) (fun h => each (s.remotes h) (fun r =>
    when' (bridgePeer r).isNone (sendLost (peerOf r) (rmPeerLoad r) (rmPeerStream r) 3
      (((s.stream (streamKey h (rmStream r))).gen + 1) % 16))))

/-- The module halts for a cause (R377). Nothing is completed: what was in flight stays without an end. -/
def haltModule (cause : Nat) : Act :=
  .dyn fun s =>
    if s.halted then .nop
    else seqs [
      .upd (.haltCause cause),
      setErr blkINT 2,
      haltNotices,
      setReg rFAB_BAY_ON 0,
      each (List.range 16) bayGone,
      setFences,
      each (List.range 16) (fun h => modLoad h (fun l => { l with cmd := none, started := false, causes := 0 })),
      each s.moveIds (fun m => modMv m (fun x => { x with shares := [] })),
      pump]

/-- A halt that no unit's own fault logs is a class C incident of INT_ERR.HALT (R374, R376; assumption log 166). -/
def haltLogged (cause : Nat) : Act :=
  whenS (fun s => !s.halted) (.seq (incident { cls := .C, blk := blkINT, code := 2 }) (haltModule cause))

/-! ### Hold (R380) -/

/-- The hold takes effect if it is armed and its time has come. -/
def settleHold : Act :=
  whenS (fun s => s.flag rINT_HOLD_CTL 63 && decide ((s.reg rINT_HOLD_AT).toNat ≤ s.now)) (.upd (.holdOn true))

/-- EN of INT_HOLD_CTL is written. -/
def writeHold (en : Bool) : Act :=
  .dyn fun s =>
    if en then seqs [
      setFld rINT_HOLD_CTL 63 63 1,
      when' (!s.flag rINT_HOLD_CTL 63 && decide ((s.reg rINT_HOLD_AT).toNat < s.now)) (setErr blkINT 5),
      settleHold]
    else .seq (setFld rINT_HOLD_CTL 63 63 0) (.upd (.holdOn false))

/-- HOLD_ENABLE (R380). -/
def execHoldEnable (en : Bool) (s : State) : Host.Outcome State Fault Refusal := .next (run (bitDo (.holdEnable en) (writeHold en)) s)

/-- HOLD_AT (R380). -/
def execHoldAt (s : State) : Host.Outcome State Fault Refusal := .next (run settleHold s)

/-- HELD: the hold is in effect and nothing of its tenants is in flight. -/
def State.allHeld (s : State) : Bool :=
  s.holdOn
    && (List.range 16).all (fun h => (s.load h).cmd.isNone || !s.flag rINT_HOLD_TEN (s.load h).tenant)
    && s.moveIds.all (fun m => match s.move m with
      | some x => !s.flag rINT_HOLD_TEN x.tenant
      | none => true)
    && (tkeys s.srv.steps).all (fun k => match s.srvStep k with
      | some x => !s.flag rINT_HOLD_TEN (s.svcTenant x.svc)
      | none => true)

/-! ### Condition checks (R385 to R387) -/

/-- A check of bay `b` ends with a result; its request bit clears. -/
def checkOver (b : Nat) (r : ChkRes) : Act :=
  .seq (.upd (.chk b { res := r })) (setFld rINT_CHK_CTL b b 0)

/-- REQ is written 1 for bay `b` (R385). -/
def checkRequestA (b : Nat) : Act :=
  .dyn fun s =>
    if (s.chk b).res = .waiting ∨ (s.chk b).res = .testing then .nop
    else if (s.bay b).st = .off then checkOver b .off
    else .seq (orReg rINT_CHK_CTL (1 <<< b)) (.upd (.chk b { res := .waiting, since := s.now }))

/-- CHECK_REQUEST (R385). -/
def execCheckRequest (bay : Fin 16) (s : State) : Host.Outcome State Fault Refusal :=
  .next (run (bitDo (.checkRequest bay) (checkRequestA bay.val)) s)

/-- CHECK_START: the bay is IDLE or FAULTED, belongs to no load and to no enabled slice set (R385). -/
def checkStartA (b : Nat) : Act :=
  .dyn fun s =>
    let x := s.bay b
    if (s.chk b).res = .waiting ∧ (x.st = .idle ∨ x.st = .faulted) ∧ x.act = .none ∧ x.load = none
        ∧ s.slicedBays.testBit b = false then
      .seq (.upd (.bay b { x with st := .testing, ret := x.st })) (modChk b (fun c => { c with res := .testing }))
    else .nop

/-- CHECK_START (R385). -/
def execCheckStart (bay : Fin 16) (s : State) : Host.Outcome State Fault Refusal := .next (run (checkStartA bay.val) s)

/-- CHECK_END: a bay that passes is cleared and IDLE; one that fails is FAULTED (R387). -/
def checkEndA (b : Nat) (fail : Option ChkFail) : Act :=
  .dyn fun s =>
    if (s.bay b).st ≠ .testing then .nop
    else seqs [
      (match fail with
        | none => seqs [clearBay b, .upd (.bay b { st := .idle }), checkOver b .passed]
        | some f => seqs [
            .upd (.bay b { s.bay b with st := .faulted }),
            checkOver b .failed,
            firstFault rINT_CHK_FAIL 31 (place 27 24 b + keyErrBits (siteKey f.site) + place 10 7 f.test.val),
            incident { cls := .C, blk := blkINT, code := 3, locus := keyLocus (siteKey f.site) }]),
      actOnBit b,
      .dyn fun s => when' (s.scanWant.contains b && decide (s.scanDir = 0) && decide ((s.bay b).act = .none)) (startScan b 1)]

/-- CHECK_END (R386, R387). -/
def execCheckEnd (bay : Fin 16) (fail : Option ChkFail) (s : State) : Host.Outcome State Fault Refusal :=
  .next (run (checkEndA bay.val fail) s)

/-- CHECK_TIMEOUT (R385). -/
def checkTimeoutA (b : Nat) : Act :=
  whenS (fun s => decide ((s.chk b).res = .waiting)) (.seq (checkOver b .busy) (setErr blkINT 4))

/-- CHECK_TIMEOUT (R385). -/
def execCheckTimeout (bay : Fin 16) (s : State) : Host.Outcome State Fault Refusal := .next (run (checkTimeoutA bay.val) s)

/-- INT_CHK_CTL is written whole: a TIMEOUT_MS of 0 is taken as 1 with a class A incident; each REQ bit requests. -/
def writeChkCtl (v : Nat) : Act :=
  seqs [
    setFld rINT_CHK_CTL 63 48 (max 1 (bits 63 48 v)),
    when' (decide (bits 63 48 v = 0)) (incA blkINT 0xFF rINT_CHK_CTL),
    each (bitsOn 16 v) checkRequestA]

end Sys2Proof.Machine
end

