-- ==== Sys2Proof/Machine/Flash.lean ====
section
/-!
DEFINITION. The flash device and what it holds: the slot journal, the parts, the manifest, the identity region
(R418 to R420, R424, R432, R433, R436, R444, R447).
-/

namespace Sys2Proof.Machine

/-! ### Bytes (R419) -/

/-- A byte of the flash as shipped: the journal and the attestation index region hold no record (R424, R453), which an
erased region of 0xFF says (assumption log 9). -/
def shippedByte (a : Nat) : Byte := if 0x40000 ≤ a ∧ a < 0x60000 then 0xFF else Config.shippedFlash a

/-- A byte of the flash. -/
def State.flash (s : State) (a : Nat) : Byte := (s.flashAt a).getD (shippedByte a)

/-- `n` bytes of the flash. -/
def State.flashBytes (s : State) (a n : Nat) : List Byte := (List.range n).map (fun i => s.flash (a + i))

/-- The little-endian number in `n` bytes of the flash. -/
def State.flashLe (s : State) (a n : Nat) : Nat := leNat (s.flashBytes a n)

/-- Put bytes into the flash. -/
def putFlash (a : Nat) (bs : List Byte) : Act :=
  each ((List.range bs.length).zip bs) (fun (p : Nat × Byte) => .upd (.flashAt (a + p.1) (some p.2)))

/-- Program bytes, counting the pages of 256 B. -/
def programFlash (a : Nat) (bs : List Byte) : Act :=
  .seq (putFlash a bs) (addFld rBOOT_FLASH 31 0 (cdiv (a + bs.length) 256 - a / 256))

/-- Erase `n` bytes from `a`. -/
def eraseFlash (a n : Nat) : Act := each (List.range n) (fun i => .upd (.flashAt (a + i) (some 0xFF)))

/-- Erase the 4 KiB sectors that a range touches. -/
def eraseSectors (a n : Nat) : Act := eraseFlash (a / 4096 * 4096) (cdiv (a + n) 4096 * 4096 - a / 4096 * 4096)

/-- A failed program leaves bytes that the spec does not state: free values. -/
def spoilFlash (a n : Nat) : Act :=
  .dyn fun s => seqs [
    .upd (.fresh (s.fresh + n)),
    putFlash a ((List.range n).map (fun i => BitVec.ofNat 8 (Config.freeNat (s.fresh + i)))),
    setErr blkBOOT 4]

/-! ### Slots and parts (R432, Table 12.5) -/

/-- First byte of slot A (0) or B (1). -/
def slotBase (t : Nat) : Nat := 0x100000 + t * 0x3000000

/-- First byte of a slot's manifest area. -/
def manifestAt (t : Nat) : Nat := slotBase t + 0x2A00000

/-- The area of firmware part 1 to 5 in a slot: offset and largest size. -/
def partArea (part : Nat) : Nat × Nat :=
  match part with
  | 1 => (0, 24 * 2 ^ 20)
  | 2 => (0x1800000, 4 * 2 ^ 20)
  | 3 => (0x1C00000, 4 * 2 ^ 20)
  | 4 => (0x2000000, 2 * 2 ^ 20)
  | 5 => (0x2200000, 8 * 2 ^ 20)
  | _ => (0, 65536)

/-- The configuration copy that is neither current nor pending; while a copy is pending there is none. -/
def Journal.freeCfg (j : Journal) : Option Nat := if j.cfg.testBit 1 then none else some (1 - j.cfg % 2)

/-- The topology copy that is not current. -/
def Journal.freeTopo (j : Journal) : Nat := 1 - j.topo % 2

def cfgBase (c : Nat) : Nat := 0x60000 + 0x10000 * c
def topoBase (c : Nat) : Nat := 0x80000 + 0x10000 * c
def trimBase (c : Nat) : Nat := 0x10000 + 0x10000 * c

/-- Where part `part` of a session for slot `t` is written; none where no copy is free for it. -/
def Journal.partBase (j : Journal) (t part : Nat) : Option Nat :=
  if part = 6 then j.freeCfg.map cfgBase
  else if part = 7 then some (topoBase j.freeTopo)
  else some (slotBase t + (partArea part).1)

/-! ### The slot journal (R424, R444, Table 12.9) -/

def stEMPTY : Nat := 0
def stSTAGING : Nat := 1
def stVERIFIED : Nat := 2
def stTRIAL : Nat := 3
def stGOOD : Nat := 4
def stBAD : Nat := 5

/-- State of a slot. -/
def Journal.slot (j : Journal) (t : Nat) : Nat := if t = 0 then j.stA else j.stB

/-- SVN of a slot. -/
def Journal.svn (j : Journal) (t : Nat) : Nat := if t = 0 then j.svnA else j.svnB

/-- Set the state of a slot. -/
def Journal.setSlot (j : Journal) (t st : Nat) : Journal := if t = 0 then { j with stA := st } else { j with stB := st }

/-- The 64 B of a record. -/
def Journal.bytes (j : Journal) : List Byte :=
  let b := leBytes 4 0x524A564C ++ leBytes 4 j.seq ++ leBytes 1 j.active ++ leBytes 1 j.stA ++ leBytes 1 j.stB
    ++ leBytes 1 j.cfg ++ leBytes 1 j.topo ++ leBytes 3 0 ++ leBytes 2 j.minSvn ++ leBytes 2 0 ++ leBytes 4 j.verA
    ++ leBytes 4 j.verB ++ leBytes 2 j.svnA ++ leBytes 2 j.svnB ++ List.replicate 28 0
  b ++ leBytes 4 (crc32c b)

/-- A record as read: none where its MAGIC or its CRC does not hold. -/
def journalOf (b : List Byte) : Option Journal :=
  if leAt b 0 4 = 0x524A564C ∧ leAt b 0x3C 4 = crc32c (b.take 0x3C) then
    some { seq := leAt b 4 4, active := leAt b 8 1, stA := leAt b 9 1, stB := leAt b 0xA 1, cfg := leAt b 0xB 1,
           topo := leAt b 0xC 1, minSvn := leAt b 0x10 2, verA := leAt b 0x14 4, verB := leAt b 0x18 4,
           svnA := leAt b 0x1C 2, svnB := leAt b 0x1E 2 }
  else none

/-- The 64 B at journal place `i`. -/
def State.journalAt (s : State) (i : Nat) : List Byte := s.flashBytes (0x40000 + 64 * i) 64

/-- An erased place holds no record. -/
def erased (b : List Byte) : Bool := b.all (fun x => decide (x = 0xFF))

/-- The valid record with the highest SEQ, and its place. -/
def State.journalLatest (s : State) : Option (Nat × Journal) :=
  ((List.range 1024).filterMap (fun i => (journalOf (s.journalAt i)).map (fun j => (i, j)))).foldl
    (fun b (p : Nat × Journal) => match b with
      | some (q : Nat × Journal) => if q.2.seq < p.2.seq then some p else b
      | none => some p) none

/-- A journal record failed its CRC. -/
def State.journalTorn (s : State) : Bool :=
  (List.range 1024).any (fun i => !erased (s.journalAt i) && (journalOf (s.journalAt i)).isNone)

/-- Write a record at a place. -/
def writeJournalAt (i : Nat) (j : Journal) : Act :=
  seqs [programFlash (0x40000 + 64 * i) j.bytes, .upd (.journal j), .upd (.jrnNext (i + 1))]

/-- A full half: the latest state is repeated at the start of the other half, and the full one is erased (R444). -/
def turnJournal : Act :=
  .dyn fun s =>
    if s.jrnNext = 512 then .seq (writeJournalAt 512 { s.journal with seq := s.journal.seq + 1 }) (eraseFlash 0x40000 0x8000)
    else if s.jrnNext = 1024 then .seq (writeJournalAt 0 { s.journal with seq := s.journal.seq + 1 }) (eraseFlash 0x48000 0x8000)
    else .nop

/-! ### Manifests (R433, R436) -/

def mfParts (m : List Byte) : Nat := leAt m 6 2
def mfVersion (m : List Byte) : Nat := leAt m 8 4
def mfSvn (m : List Byte) : Nat := leAt m 0xC 2
def mfCfgFmt (m : List Byte) : Nat := leAt m 0xE 2
def mfCfgReadMin (m : List Byte) : Nat := leAt m 0x10 2
def mfLinkMin (m : List Byte) : Nat := leAt m 0x12 1
def mfLinkMax (m : List Byte) : Nat := leAt m 0x13 1
def mfSigBytes (m : List Byte) : Nat := leAt m 0x14 4

/-- Bytes of a manifest before its signature. -/
def mfHead (m : List Byte) : Nat := 0x40 + 48 * mfParts m

/-- Entry `e` of a manifest. -/
def mfEntry (m : List Byte) (e : Nat) : List Byte := byteSlice m (0x40 + 48 * e) 48
def enPart (r : List Byte) : Nat := leAt r 0 1
def enLength (r : List Byte) : Nat := leAt r 4 4
def enVersion (r : List Byte) : Nat := leAt r 8 4
def enHash (r : List Byte) : List Byte := byteSlice r 16 32

/-- The entries of a manifest. -/
def mfEntries (m : List Byte) : List (List Byte) := (List.range (mfParts m)).map (mfEntry m)

/-- The parts that a manifest names, bit part − 1. -/
def mfMask (m : List Byte) : Nat := maskOf ((mfEntries m).map (fun r => enPart r - 1))

/-- A manifest that names a firmware part. -/
def mfFirmware (m : List Byte) : Bool := decide (mfMask m % 32 ≠ 0)

/-- Check 1 of R436: format, ranges, order, and that the entries and the signature fit in LENGTH. -/
def mfFormatOk (m : List Byte) : Bool :=
  decide (0x40 ≤ m.length) && decide (leAt m 0 4 = 0x4D55564C) && decide (leAt m 4 2 = 1)
    && decide (1 ≤ mfParts m) && decide (mfParts m ≤ 7) && decide (leAt m 0x18 20 = 0) && decide (leAt m 0x2C 20 = 0)
    && decide (mfHead m + mfSigBytes m ≤ m.length)
    && (mfEntries m).all (fun r => decide (1 ≤ enPart r) && decide (enPart r ≤ 7) && decide (leAt r 1 3 = 0)
        && decide (leAt r 12 4 = 0) && decide (enLength r ≤ (partArea (enPart r)).2))
    && rising ((mfEntries m).map enPart)

/-- VENDOR_KEY_HASH of the identity region. -/
def State.vendorHash (s : State) : List Byte := s.flashBytes 0x2074 32

/-- The hash of an entry's part in flash, where it lies, equals the entry. -/
def State.entryOk (s : State) (base : Nat → Option Nat) (r : List Byte) : Bool :=
  match base (enPart r) with
  | some a => decide (sha256 (s.flashBytes a (enLength r)) = enHash r)
  | none => false

/-- The five checks of R436 in order: the reason of the first that fails. `base` says where each part lies, `need` which
parts are hashed. -/
def State.manifestReason (s : State) (m : List Byte) (base : Nat → Option Nat) (need : Nat → Bool) (minSvn : Nat) :
    Option Nat :=
  if !mfFormatOk m then some 0x06
  else if !sigBlockOk s.vendorHash (m.take (mfHead m)) (byteSlice m (mfHead m) (mfSigBytes m)) then some 0x07
  else if mfSvn m < minSvn then some 0x08
  else if mfFirmware m && decide (mfMask m % 32 ≠ 31) then some 0x0A
  else if (mfEntries m).all (fun r => !need (enPart r) || s.entryOk base r) then none
  else some 0x09

/-- The manifest in a slot's area, up to the end of its signature. -/
def State.slotManifest (s : State) (t : Nat) : List Byte :=
  let h := s.flashBytes (manifestAt t) 0x40
  s.flashBytes (manifestAt t) (min 65536 (mfHead h + mfSigBytes h))

/-- FW_VERSION and SVN of the manifest in a slot; zero if there is none. -/
def State.slotVersion (s : State) (t : Nat) : Nat × Nat :=
  let h := s.flashBytes (manifestAt t) 0x40
  if leAt h 0 4 = 0x4D55564C then (mfVersion h, mfSvn h) else (0, 0)

/-- Append a record: the latest state, changed, with the versions of both slots' manifests (R444). A half that a start
finds full is turned first; a half that this record fills is turned at once. -/
def appendJournal (f : Journal → Journal) : Act :=
  seqs [
    turnJournal,
    .dyn fun s =>
      let a := s.slotVersion 0
      let b := s.slotVersion 1
      writeJournalAt s.jrnNext { f s.journal with
        seq := s.journal.seq + 1, verA := a.1, svnA := a.2, verB := b.1, svnB := b.2 },
    turnJournal]

/-- A firmware part. -/
def isFirmware (part : Nat) : Bool := decide (part ≤ 5)

/-- Slot `t` passes the checks of a start: its manifest, and every firmware part that it names (R425). -/
def State.slotStarts (s : State) (t minSvn : Nat) : Bool :=
  let m := s.slotManifest t
  mfFirmware m && (s.manifestReason m (fun part => some (slotBase t + (partArea part).1)) isFirmware minSvn).isNone

/-! ### The identity region (R446 to R448) -/

/-- Length of CERT. -/
def State.certBytes (s : State) : Nat := s.flashLe 0x2006 2

/-- DEVICE_PUB. -/
def State.devicePub (s : State) : List Byte := s.flashBytes 0x2018 60

/-- IDENT: the first 8 bytes of SHA-256 over DEVICE_PUB, read little-endian (R448). -/
def State.identOf (s : State) : Nat := leNat ((sha256 s.devicePub).take 8)

end Sys2Proof.Machine
end

