-- ==== Sys2Proof/Machine/Itinerary.lean ====
section
/-!
DEFINITION. Itinerary queues, docents' enables, and SNAPSHOT (R216 to R230, R237, R302, R324).
-/

namespace Sys2Proof.Machine

/-! ### Starting steps (R217 to R219, R222) -/

/-- Put a move in flight on queue `q`. -/
def launch (q : Nat) (x : Move) : Act :=
  .dyn fun s => seqs [
    .upd (.move s.nextMove (some { x with iq := q, docs := (s.reg rDOC_IQ_DOCS q).toNat })),
    .upd (.nextMove (s.nextMove + 1)),
    modIq q (fun y => { y with fly := y.fly ++ [s.nextMove] })]

/-- The pacing A-cell of the lowest bay of load `h` has completed `n` tiles of its current command (Table 6.3). -/
def State.tilesDone (s : State) (h n : Nat) : Bool :=
  match s.loadBays h with
  | b :: _ => (s.load h).cmd.isSome && decide (n ≤ (s.acell (bayPacer b)).tiles)
  | [] => false

/-- The trigger of a step has fired (Table 6.3). -/
def State.fired (s : State) (q : Nat) (r : Step) : Bool :=
  match r.trig with
  | 0 => true
  | 1 => s.tilesDone r.load r.arg || decide (lget 0 (s.iq q).endsSeen r.load < (s.load r.load).ends)
  | 2 => decide (r.arg ≤ s.now)
  | 3 => ((s.obj r.arg).map (fun o => o.whole)).getD false
  | _ => (s.iq q).stepsDone.contains r.arg

/-- The record of step `i` passes its checks (R192, R217). -/
def State.recordFits (s : State) (r : Step) (i : Nat) : Bool :=
  stepOk r i && (decide (r.trig ≠ 3) || decide (r.arg < s.objCount))

/-- The queue goes past step `i`. -/
def passStep (q i : Nat) : Act :=
  .dyn fun s => modIq q (fun x => { x with next := i + 1, endsSeen := (List.range 16).map (fun h => (s.load h).ends) })

/-- A list queue starts its next step, or finds its record wrong. -/
def listStep (q : Nat) : Act :=
  .dyn fun s =>
    let x := s.iq q
    let i := x.next
    let r := s.iqStep q i
    if s.iqCount q ≤ i then .nop
    else if !s.recordFits r i then seqs [
      passStep q i,
      modIq q (fun x => { x with stepsDone := x.stepsDone ++ [i] }),
      stopIq q i Status.shapeInvalid.code]
    else if s.fired q r && decide (x.fly.length < s.iqLimit q) then
      .seq (passStep q i) (withSome (moveKindOf r.kind) (fun k => launch q
        { kind := k, src := idxOf r.src, dst := idxOf r.dst, stage := r.stage, tenant := s.iqTenant q, step := i,
          skipBusy := r.flags.testBit 0 }))
    else .nop

/-- A command-mode queue starts the oldest MOVE command that waits. -/
def commandStep (q : Nat) : Act :=
  .dyn fun s =>
    match (s.iq q).cmds with
    | [] => .nop
    | id :: rest =>
      if s.iqLimit q ≤ (s.iq q).fly.length then .nop
      else .seq (modIq q (fun x => { x with cmds := rest })) (withSome (s.cmd id) (fun c =>
        withSome (moveKindOf (leAt c.desc 0x10 1)) (fun k => launch q
          { kind := k, src := idxOf (leAt c.desc 0x14 4), dst := idxOf (leAt c.desc 0x18 4), stage := leAt c.desc 0x20 6,
            tenant := s.iqTenant q, cmd := some id })))

/-- IQ_STEP_START. -/
def iqStepA (q : Nat) : Act :=
  .dyn fun s =>
    if (s.iq q).st ≠ .running ∨ (s.iq q).cancelling ∨ s.stilled ∨ s.holds (s.iqTenant q) then .nop
    else if s.iqListMode q then listStep q else commandStep q

/-- IQ_STEP_START (R217 to R219, R222, R380). -/
def execIqStepStart (iq : Fin 64) (s : State) : Host.Outcome State Fault Refusal := .next (run (iqStepA iq.val) s)

/-! ### Completing steps (R220, R222, R225, R230) -/

/-- RESULT of a MOVE (Table 8.12). -/
def Move.result (x : Move) : Nat := (x.dst.or x.src).getD noIdx

/-- A write-back of SNAPSHOT `id` has ended: another status than OK ends the SNAPSHOT (R302), as
the reset of its tenant does (R308). -/
def snapMoved (id : Nat) (x : Move) : Act :=
  .dyn fun s => withSome (s.cmd id) fun c =>
    if x.status = Status.ok.code ∧ c.reset = false then
      .upd (.cmd id (some { c with
        snapOn := false, snapCopies := c.snapCopies + 1, snapBytes := c.snapBytes + x.size }))
    else completeCode id x.status c.snapCopies 0

/-- The step that ran as move `m` completes with the move's status. -/
def stepDone (m : Nat) : Act :=
  .dyn fun s => withSome (s.move m) fun x =>
    if x.phase ≠ .done then .nop
    else
      let q := x.iq
      let lm := s.iqListMode q
      let bad := decide (x.status ≠ Status.ok.code) && !(decide (x.status = Status.busy.code) && x.skipBusy)
      seqs [
        .upd (.move m none),
        modIq q (fun y => { y with
          fly := y.fly.filter (fun k => decide (k ≠ m)),
          lastStatus := if y.st = .stopped then y.lastStatus else x.status,
          lastStep := if y.st = .stopped then y.lastStep else x.step,
          stepsDone := if lm then y.stepsDone ++ [x.step] else y.stepsDone }),
        when' (lm && bad && decide ((s.iq q).st = .running)) (stopIq q x.step x.status),
        withSome x.cmd (fun id => completeCode id x.status x.result 0),
        withSome x.snap (fun id => snapMoved id x),
        settleIq q,
        settleTenant x.tenant]

/-- IQ_STEP_COMPLETE (R220, R222). -/
def execIqStepComplete (move : Nat) (s : State) : Host.Outcome State Fault Refusal :=
  .next (run (whenS (fun s => !s.halted) (stepDone move)) s)

/-- Moves are aborted by FORCE, the newest first: each completes POISONED at once (R229, R230). -/
def abortMoves (ms : List Nat) : Act :=
  each ms.reverse (fun m => .seq
    (whenS (fun s => match s.move m with
      | some x => decide (x.phase ≠ .done)
      | none => false) (failMove m Status.poisoned.code))
    (stepDone m))

/-! ### Docents (R229, DOC_SEG) -/

/-- Every move that waits at its start is divided if its docents are enabled (R214). -/
def releaseHeld : Act :=
  .dyn fun s => each s.moveIds (fun m => whenS (fun s => match s.move m with
    | some x => decide (x.phase = .held)
    | none => false) (divideMove m))

/-- Bit `d` of DOC_EN becomes 1. -/
def docentOn (d : Nat) : Act := seqs [setFld rDOC_EN d d 1, .upd (.doc d .enabled), releaseHeld]

/-- Bit `d` of DOC_EN becomes 0. -/
def docentOff (d : Nat) : Act :=
  .seq (setFld rDOC_EN d d 0) (.dyn fun s =>
    if s.doc d = .enabled then .upd (.doc d (if s.docBusy d then .draining else .stopped)) else .nop)

/-- Bit `d` of DOC_FORCE is written 1. -/
def docentForceA (d : Nat) : Act :=
  .dyn fun s =>
    if s.doc d = .draining then seqs [
      setErr blkDOC 3,
      abortMoves (s.moveIds.filter (fun m => match s.move m with
        | some x => x.shares.any (fun (p : Nat × Nat) => decide (p.1 = d))
        | none => false)),
      each (List.range 64) settleDocent]
    else incA blkDOC 0 rDOC_FORCE

/-- DOCENT_ENABLE (R214, R229). -/
def execDocentEnable (docent : Fin 64) (s : State) : Host.Outcome State Fault Refusal :=
  .next (run (bitDo (.docentEnable docent) (docentOn docent.val)) s)

/-- DOCENT_DISABLE (R229). -/
def execDocentDisable (docent : Fin 64) (s : State) : Host.Outcome State Fault Refusal :=
  .next (run (bitDo (.docentDisable docent) (docentOff docent.val)) s)

/-- DOCENT_FORCE (R229). -/
def execDocentForce (docent : Fin 64) (s : State) : Host.Outcome State Fault Refusal :=
  .next (run (bitDo (.docentForce docent) (docentForceA docent.val)) s)

/-- A write to DOC_SEG: each length is brought into 4 to 1,024. -/
def writeDocSeg (v : Nat) : Act :=
  let fit (x : Nat) : Nat := max 4 (min 1024 x)
  let a := bits 31 16 v
  let b := bits 15 0 v
  .seq (setReg rDOC_SEG (place 31 16 (fit a) + place 15 0 (fit b)))
    (when' (decide (fit a ≠ a) || decide (fit b ≠ b)) (incA blkDOC 1 rDOC_SEG))

/-- DOC_SEG_WRITE (R237). -/
def execDocSegWrite (v : Word) (s : State) : Host.Outcome State Fault Refusal :=
  .next (run (regDo (.docSegWrite v) rDOC_SEG v.toNat writeDocSeg) s)

/-! ### Queue control (R216, R221, R224, R225, R230) -/

/-- Queue `q` shows OFF, DONE or STOPPED, so that its settings are taken. -/
def State.iqSettled (s : State) (q : Nat) : Bool :=
  decide ((s.iq q).st = .off) || decide ((s.iq q).st = .done) || decide ((s.iq q).st = .stopped)

/-- EN = 0 is written to queue `q` (R230). -/
def disableIq (q : Nat) : Act :=
  .seq (setFld rDOC_IQ_CTL 63 63 0 q) (.dyn fun s =>
    let x := s.iq q
    if x.st = .running ∧ x.fly ≠ [] then modIq q (fun x => { x with st := .draining })
    else if x.st = .draining then .nop
    else modIq q (fun x => { x with st := .off }))

/-- FORCE is written to queue `q` (R230, R324). -/
def forceIq (q : Nat) : Act :=
  .dyn fun s =>
    if (s.iq q).st = .draining then seqs [
      setErr blkDOC 3, abortMoves (s.iq q).fly, each (List.range 64) settleDocent]
    else incA blkDOC 0xFF rDOC_IQ_CTL

/-- The list will start at step 0: its bookkeeping is forgotten. -/
def freshList (q : Nat) : Act := modIq q (fun x => { x with next := 0, cancelled := [], stepsDone := [] })

/-- MODE, TENANT and LIMIT of a write are taken. -/
def takeIqSettings (q v : Nat) : Act :=
  .dyn fun s =>
    let lim := bits 46 40 v
    let fit := max 1 (min 64 lim)
    seqs [
      when' (decide ((s.iq q).st = .off) && decide (s.flag rDOC_IQ_CTL 60 q ≠ v.testBit 60)) (freshList q),
      setFld rDOC_IQ_CTL 60 60 (bits 60 60 v) q,
      setFld rDOC_IQ_CTL 53 48 (bits 53 48 v) q,
      setFld rDOC_IQ_CTL 46 40 fit q,
      when' (decide (fit ≠ lim)) (incA blkDOC 1 rDOC_IQ_CTL)]

/-- A write of `v` to DOC_IQ_CTL of queue `q`. -/
def writeIqCtl (q v : Nat) : Act :=
  if v.testBit 62 || v.testBit 61 then
    .seq (when' (v.testBit 62) (cancelIq q)) (when' (v.testBit 61) (forceIq q))
  else seqs [
    whenS (fun s => s.iqSettled q) (takeIqSettings q v),
    if v.testBit 63 then enableIq q else disableIq q]

/-- A write of `v` to DOC_IQ_BASE of queue `q`. -/
def writeIqBase (q v : Nat) : Act :=
  .dyn fun s =>
    if s.iqSettled q then .seq
      (when' (decide ((s.iq q).st = .off) && decide ((s.reg rDOC_IQ_BASE q).toNat ≠ v)) (freshList q))
      (setReg rDOC_IQ_BASE v q)
    else .nop

/-- IQ_ENABLE (R216, R221, R230). -/
def execIqEnable (iq : Fin 64) (v : Word) (s : State) : Host.Outcome State Fault Refusal :=
  .next (run (regDo (.iqEnable iq v) rDOC_IQ_CTL v.toNat (fun w => writeIqCtl iq.val (setBits 63 61 w 4))) s)

/-- IQ_DISABLE (R230). -/
def execIqDisable (iq : Fin 64) (s : State) : Host.Outcome State Fault Refusal :=
  .next (run (bitDo (.iqDisable iq) (disableIq iq.val)) s)

/-- IQ_CANCEL (R224, R225). -/
def execIqCancel (iq : Fin 64) (s : State) : Host.Outcome State Fault Refusal :=
  .next (run (bitDo (.iqCancel iq) (cancelIq iq.val)) s)

/-- IQ_FORCE (R230, R324). -/
def execIqForce (iq : Fin 64) (s : State) : Host.Outcome State Fault Refusal :=
  .next (run (bitDo (.iqForce iq) (forceIq iq.val)) s)

/-! ### SNAPSHOT (R301, R302) -/

def snFLAGS (d : List Byte) : Nat := leAt d 0x10 1
def snIQ (d : List Byte) : Nat := leAt d 0x11 1
def snMAX (d : List Byte) : Nat := leAt d 0x12 2
def snID (d : List Byte) : Nat := leAt d 0x18 8
def snRECORD (d : List Byte) : Nat := leAt d 0x20 6
def snREQTAB (d : List Byte) : Nat := leAt d 0x28 6

/-- The commands that a FENCE or SNAPSHOT waits for have completed: a SUBMIT or RESUME counts as completed once its
admission has been decided (R301). -/
def State.fenceOpen (s : State) (c : Cmd) : Bool :=
  c.waits.all (fun k => match s.cmd k with
    | some d => d.decided
    | none => true)

/-- A copy that some enabled service pins. -/
def State.svcPinned (s : State) (i : Nat) : Bool := (List.range 64).any (fun v => s.svcOn v && (s.svcPins v).contains i)

/-- The next copy that a SNAPSHOT of tenant `t` writes back: T1 copies first, then T2 copies, in index order. -/
def State.snapNext (s : State) (t : Nat) : Option Nat :=
  let want (tier i : Nat) : Bool := match s.obj i with
    | some o => decide (o.tier = tier) && decide (o.owner = t) && o.writable && o.dirty && decide (o.lower ≠ noIdx)
        && !s.svcPinned i
    | none => false
  (minBy id (s.resident.filter (want 1))).or (minBy id (s.resident.filter (want 2)))

/-- PREFIX as a request entry shows it. -/
def Req.prefixField (x : Req) : Nat := x.handle

/-- Codes of Table 7.2. -/
def ReqState.code : ReqState → Nat
  | .free => 0 | .admitted => 1 | .prefill => 2 | .decode => 3 | .verify => 4 | .parked => 5 | .draining => 6 | .done => 7
  | .cancelled => 8 | .faulted => 9

/-- The 64 B of a request-table entry (Table 7.1); a FREE entry is all zero. -/
def Req.entryBytes (x : Req) : List Byte :=
  if x.st = .free then List.replicate 64 0
  else
    leBytes 1 (x.st.code + 16 * b2n x.gsusp + 32 * b2n x.cancel + 64 * b2n x.widened) ++ leBytes 1 x.tenant
      ++ leBytes 1 (x.priority + 8 * x.draft) ++ leBytes 1 (x.svc + 64 * b2n x.penFull) ++ leBytes 4 x.collection
      ++ leBytes 8 x.deadline ++ leBytes 8 x.seed ++ leBytes 4 x.committed ++ leBytes 4 x.promptEnd ++ leBytes 4 x.limit
      ++ leBytes 4 x.prefixField ++ leBytes 6 x.pageList ++ leBytes 2 x.pages ++ leBytes 6 x.penList
      ++ leBytes 2 x.penLen ++ leBytes 6 x.out ++ leBytes 1 (x.prov + 16 * x.pool) ++ leBytes 1 x.param

/-- The 32 B of a prefix-table entry (Table 7.4). -/
def Pfx.entryBytes (x : Pfx) (p : Nat) : List Byte :=
  let st := match x.st with
    | .free => 0
    | .live => 1
    | .releasing => 2
  leBytes 1 st ++ leBytes 1 x.tenant ++ leBytes 1 x.svc ++ leBytes 1 0 ++ leBytes 4 (handleOf x.gen p) ++ leBytes 4 x.length
    ++ leBytes 4 x.refs ++ leBytes 6 x.pageList ++ leBytes 2 x.pages ++ leBytes 8 0

/-- The record of a SNAPSHOT (Table 8.9). -/
def snapRecord (c : Cmd) (now entries : Nat) : List Byte :=
  leBytes 8 (snID c.desc) ++ leBytes 8 now ++ leBytes 1 c.tenant ++ leBytes 1 (snFLAGS c.desc) ++ leBytes 2 entries
    ++ leBytes 4 c.snapCopies ++ leBytes 8 c.snapBytes ++ leBytes 4 c.num ++ leBytes 2 (c.pair.getD 0) ++ leBytes 26 0

/-- The copies are written back: entries are copied, the record is written, the SNAPSHOT completes. -/
def snapFinish (id : Nat) (c : Cmd) : Act :=
  .dyn fun s =>
    let ids := if (snFLAGS c.desc).testBit 1 then
        ((s.reqIds.filter (fun i => decide ((s.req i).tenant = c.tenant))).take (snMAX c.desc)) else []
    seqs [
      each ((List.range ids.length).zip ids) (fun (p : Nat × Nat) =>
        .dyn fun s => writeBytes (snREQTAB c.desc + 64 * p.1) (s.req p.2).entryBytes),
      writeBytes (snRECORD c.desc) (snapRecord c s.now ids.length),
      complete id .ok c.snapCopies ids.length]

/-- Queue `q` may carry commands of tenant `t`: in command mode, running, the tenant's own (R216). -/
def State.iqCarries (s : State) (q t : Nat) : Bool :=
  !s.iqListMode q && decide ((s.iq q).st = .running) && decide (s.iqTenant q = t)

/-- SNAPSHOT: each call starts one write-back, or finishes. -/
def snapshotA (id : Nat) : Act :=
  .dyn fun s => withSome (s.cmd id) fun c =>
    let q := snIQ c.desc % 64
    if c.op ≠ opcSNAP ∨ c.pair = none ∨ s.stilled ∨ c.snapOn ∨ !s.fenceOpen c then .nop
    else if !c.taken ∧ s.holds c.tenant then .nop
    else if (snFLAGS c.desc).testBit 0 && !s.iqCarries q c.tenant then complete id .shapeInvalid c.snapCopies 0
    else match (if (snFLAGS c.desc).testBit 0 then s.snapNext c.tenant else none) with
      | some i =>
        if s.iqLimit q ≤ (s.iq q).fly.length then takeCmd id
        else .seq
          (modCmd id (fun c => c.map (fun c => { c with taken := true, snapOn := true })))
          (launch q { kind := .writeback, src := some i, tenant := c.tenant, snap := some id })
      | none => snapFinish id c

/-- SNAPSHOT (R301, R302). -/
def execSnapshot (cmd : Nat) (s : State) : Host.Outcome State Fault Refusal := .next (run (snapshotA cmd) s)

end Sys2Proof.Machine
end

