-- ==== Sys2Proof/Machine/Queues.lean ====
section
/-!
DEFINITION. The queue scanner, the queue pairs, dispatch and FENCE (R282 to R301, R324), and the abort of a command by
FORCE.
-/

namespace Sys2Proof.Machine

/-! ### Checks at decode (R296) -/

/-- Every byte of a descriptor's body outside the given ranges (first, length) is zero. -/
def zeroBut (d : List Byte) (used : List (Nat × Nat)) : Bool :=
  (List.range 128).all (fun i => decide (i < 0x10) || used.any (fun (u : Nat × Nat) => decide (u.1 ≤ i) && decide (i < u.1 + u.2))
    || decide (d.getD i 0 = 0))

/-- The header's unused bits and bytes are zero (Table 8.3). -/
def headerOk (d : List Byte) : Bool := decide (dFlags d % 128 = 0) && decide (leAt d 2 6 = 0)

/-- A range that a body requires in the T2 reserved region, aligned as the body says. -/
def State.rsvAt (s : State) (a n align : Nat) : Bool := decide (a % align = 0) && s.inRsv a n

/-- SIZE of the copy whose data a MOVE stages: DST of INGEST, SRC of EXPORT; zero where the index names none. -/
def State.stagedSize (s : State) (d : List Byte) : Nat :=
  match s.obj (if leAt d 0x10 1 = 2 then leAt d 0x18 4 else leAt d 0x14 4) with
  | some o => o.size
  | none => 0

/-- A SERVE body (Table 8.10). -/
def State.serveOk (s : State) (d : List Byte) : Bool :=
  match leAt d 0x10 1 with
  | 1 => zeroBut d [(0x10, 0x2C), (0x40, 6), (0x48, 6), (0x50, 6)] && decide (leAt d 0x11 1 < 2)
      && decide (leAt d 0x12 1 < 128)
      && s.inRsv (suPROMPT d) (4 * suL d) && s.inRsv (suPAGE_LIST d) 0 && s.inRsv (suPEN_LIST d) 4096
      && s.inRsv (suOUT d) (16 * (1 + suG d))
  | 2 => zeroBut d [(0x10, 1), (0x14, 4)]
  | 3 => zeroBut d [(0x10, 1), (0x14, 4)]
  | 4 => zeroBut d [(0x10, 1), (0x14, 4), (0x18, 8)]
  | 5 => zeroBut d [(0x10, 1), (0x38, 4)]
  | _ => false

/-- A descriptor passes the checks of R296. -/
def State.descOk (s : State) (d : List Byte) : Bool :=
  headerOk d &&
  (match dOpcode d with
  | 0x01 => zeroBut d [(0x10, 1), (0x12, 12)] && decide (leAt d 0x10 1 < 16) && s.rsvAt (leAt d 0x18 6) 192 64
  | 0x02 =>
    let k := leAt d 0x10 1
    (moveKindOf k).isSome && decide (leAt d 0x11 1 < 64)
      && (if k = 2 ∨ k = 6 then
            zeroBut d [(0x10, 2), (0x14, 8), (0x20, 6)] && s.inRsv (leAt d 0x20 6) (s.stagedSize d)
          else zeroBut d [(0x10, 2), (0x14, 8)])
  | 0x03 => s.serveOk d
  | 0x04 => zeroBut d [(0x10, 10)] && decide (leAt d 0x18 1 &&& 0x70 = 0) && decide (leAt d 0x19 1 < 2)
  | 0x05 => zeroBut d [(0x19, 2)] && decide (leAt d 0x19 1 &&& 0xFD = 0) && decide (leAt d 0x1A 1 < 16)
  | 0x06 => zeroBut d [(0x10, 1)] && decide (leAt d 0x10 1 < 2)
  | 0x07 => zeroBut d [(0x10, 4), (0x18, 14), (0x28, 6)] && decide (snFLAGS d < 4) && decide (snIQ d < 64)
      && s.rsvAt (snRECORD d) 64 64 && (!(snFLAGS d).testBit 1 || s.rsvAt (snREQTAB d) (64 * snMAX d) 64)
  | 0x10 => zeroBut d [(0x10, 1), (0x14, 18)] && decide (1 ≤ leAt d 0x10 1) && decide (leAt d 0x10 1 ≤ 7)
      && decide (leAt d 0x14 4 % 4096 = 0) && decide (1 ≤ leAt d 0x18 4) && decide (leAt d 0x18 4 ≤ 65536)
      && s.inRsv (leAt d 0x20 6) (leAt d 0x18 4)
  | 0x11 => zeroBut d [(0x18, 14)] && decide (64 ≤ leAt d 0x18 4) && decide (leAt d 0x18 4 ≤ 65536)
      && s.inRsv (leAt d 0x20 6) (leAt d 0x18 4)
  | 0x12 => zeroBut d []
  | 0x13 => zeroBut d [(0x10, 1)] && decide (1 ≤ leAt d 0x10 1) && decide (leAt d 0x10 1 ≤ 3)
  | _ => false)

/-- The ranges of a descriptor that decode holds against the tenant's window (Table 13.4); those of MOVE and SUBMIT are
held against it by their units. -/
def windowRanges (d : List Byte) : List (Nat × Nat) :=
  match dOpcode d with
  | 0x01 => [(leAt d 0x18 6, 192)]
  | 0x07 => (snRECORD d, 64) :: (if (snFLAGS d).testBit 1 then [(snREQTAB d, 64 * snMAX d)] else [])
  | 0x10 => [(leAt d 0x20 6, leAt d 0x18 4)]
  | 0x11 => [(leAt d 0x20 6, leAt d 0x18 4)]
  | _ => []

/-- RESULT and DETAIL of a descriptor that its unit never takes (Table 8.12). -/
def refusedResult (d : List Byte) : Nat × Nat :=
  match dOpcode d with
  | 0x01 => (leAt d 0x10 1 % 16, 0)
  | 0x02 => (if leAt d 0x18 4 = noIdx then leAt d 0x14 4 else leAt d 0x18 4, 0)
  | 0x03 => (match leAt d 0x10 1 with
      | 1 => (noIdx, 6)
      | 4 => (leAt d 0x14 4, 6)
      | 5 => (leAt d 0x38 4, 0)
      | _ => (leAt d 0x14 4, 0))
  | 0x04 => (noIdx, 0)
  | 0x05 => (leAt d 0x1A 1 % 16, 0)
  | _ => (0, 0)

/-- Command `id` completes with a status and the RESULT of a refused descriptor. -/
def completeRefused (id : Nat) (st : Status) : Act :=
  .dyn fun s => withSome (s.cmd id) (fun c => complete id st (refusedResult c.desc).1 (refusedResult c.desc).2)

/-! ### The scanner (R289 to R292) -/

/-- CQ_HEAD is read (R290): a value that moves backwards or beyond CQ_TAIL is ignored. A value that stands unchanged is
no further move. -/
def readCqHead (p : Nat) : Act :=
  .dyn fun s =>
    let x := s.pair p
    let v := s.le (s.progAddr p + 8) 4
    let ok := decide ((v + 2 ^ 32 - x.cqHead) % 2 ^ 32 ≤ (x.cqTail + 2 ^ 32 - x.cqHead) % 2 ^ 32)
    .seq (modPair p (fun x => { x with cqHead := if ok then v else x.cqHead, cqSeen := v }))
      (when' (!ok && decide (v ≠ x.cqSeen)) (incident { cls := .A, blk := blkQUE, code := 3, tenant := some (p / 16) }))

/-- Pair `p` has a completion slot for one descriptor more (R292). -/
def State.reserveOk (s : State) (p : Nat) : Bool :=
  let x := s.pair p
  decide ((x.cqTail + 2 ^ 32 - x.cqHead) % 2 ^ 32 + x.held < s.cqSlots p)

/-- The 128 B of the slot at SQ_HEAD of a pair. -/
def State.sqSlot (s : State) (p : Nat) : List Byte :=
  s.bytes (s.fld rQUE_SQ_BASE 47 0 p + 128 * ((s.pair p).sqHead % s.sqSlots p)) 128

/-- Take up to `n` descriptors of pair `p` in order, stopping at the first that does not match (R291). -/
def takeDescs : Nat → Nat → Act
  | 0, _ => .nop
  | n + 1, p => .dyn fun s =>
    let x := s.pair p
    let d := s.sqSlot p
    if (s.intake (p / 16)).length < 16 && s.reserveOk p
        && decide (dFlags d / 128 = phaseOf x.sqHead (s.sqSlots p)) then
      seqs [
        modIntake (p / 16) (fun q => q ++ [{ pair := p, num := x.sqHead, desc := d }]),
        modPair p (fun x => { x with sqHead := (x.sqHead + 1) % 2 ^ 32, held := x.held + 1 }),
        takeDescs n p]
    else .nop

/-- BURST, 0 taken as 1. -/
def State.burst (s : State) : Nat := max 1 (s.fld rQUE_CTL 51 48)

/-- A visit's place in the rotation: one that does not rise above the pair visited before it begins a new one. -/
def countRotation (p : Nat) : Act :=
  .dyn fun s =>
    if p ≤ s.rotLast then seqs [
      when' (decide (s.rotLast ≠ 1024)) (setFld rQUE_SCAN_STAT 31 0
        (max (s.fld rQUE_SCAN_STAT 31 0) (sat 32 (s.now - s.rotStart)))),
      .upd (.rotStart s.now), .upd (.rotLast p)]
    else .upd (.rotLast p)

/-- The scanner visits pair `p`. -/
def visitA (p : Nat) : Act :=
  .dyn fun s =>
    let x := s.pair p
    if s.scanner ≠ .running ∨ x.st ≠ .running ∨ s.stilled then .nop
    else seqs [
      countRotation p,
      modPair p (fun x => { x with
        lastVisit := some s.now
        gapMax := match x.lastVisit with
          | some t => sat 16 (max x.gapMax ((s.now - t) / 10))
          | none => x.gapMax }),
      readCqHead p,
      when' (s.tenantOn (p / 16)) (takeDescs s.burst p),
      .dyn fun s' => when' (decide ((s'.pair p).sqHead ≠ x.sqHead)) (writeLe (s'.progAddr p) 4 (s'.pair p).sqHead)]

/-- SCANNER_VISIT (R289 to R292). -/
def execScannerVisit (pair : Fin 1024) (s : State) : Host.Outcome State Fault Refusal := .next (run (visitA pair.val) s)

/-! ### Dispatch (R293, R294, R296, R301) -/

/-- A DRAINING scanner whose intakes are all empty goes OFF (R324). -/
def settleScanner : Act :=
  whenS (fun s => decide (s.scanner = .draining) && (List.range 64).all (fun t => decide (s.intake t = [])))
    (.upd (.scanner .off))

/-- A descriptor leaves the intake and is a command from now on. -/
def openCmd (t : Nat) (e : Intake) : Act :=
  .dyn fun s => .seq
    (.upd (.cmd s.nextCmd (some { op := dOpcode e.desc, tenant := t, pair := some e.pair, num := e.num, desc := e.desc,
                                  time := s.now })))
    (.upd (.nextCmd (s.nextCmd + 1)))

/-- The scope of a FENCE or SNAPSHOT covers pair `p` of its tenant (R301, R302). -/
def scopeHas (c : Cmd) (p : Nat) : Bool :=
  decide (c.op = opcSNAP) || (decide (c.op = opcFENCE) && (decide (leAt c.desc 0x10 1 = 1) || decide (c.pair = some p)))

/-- A FENCE or SNAPSHOT of tenant `t` that has not completed holds the descriptors of pair `p` (R301, R302). -/
def State.fenced (s : State) (t p : Nat) : Bool :=
  (s.tenantCmds t).any (fun i => match s.cmd i with
    | some c => scopeHas c p
    | none => false)

/-- Queue `q` takes MOVE commands of tenant `t`: in command mode, the tenant's own, in service or, held, DRAINING
(R216, R324). -/
def State.iqAccepts (s : State) (q t : Nat) : Bool :=
  !s.iqListMode q && (decide ((s.iq q).st = .running) || decide ((s.iq q).st = .draining)) && decide (s.iqTenant q = t)

/-- Hand command `id` to its unit: what each unit does of its own accord stands in its own rows. -/
def handOut (id : Nat) (c : Cmd) : Act :=
  .dyn fun s =>
    if c.op = opcFENCE ∨ c.op = opcSNAP then
      .upd (.cmd id (some { c with waits := (s.tenantCmds c.tenant).filter (fun i => decide (i < id) &&
        (match s.cmd i with
          | some d => scopeHas c (d.pair.getD 0)
          | none => false)) }))
    else if c.op = opcMOVE then
      let q := leAt c.desc 0x11 1 % 64
      if s.iqAccepts q c.tenant then .seq (takeCmd id) (modIq q (fun x => { x with cmds := x.cmds ++ [id] }))
      else completeRefused id .shapeInvalid
    else if opcUBLOCK ≤ c.op ∧ s.flag rTEN_CTL 59 c.tenant = false then completeRefused id .shapeInvalid
    else .nop

/-- One grant of arbiter 304: the oldest descriptor in the intake of tenant `t` is dispatched. -/
def dispatchA (t : Nat) : Act :=
  .dyn fun s =>
    match s.intake t with
    | [] => .nop
    | e :: rest =>
      if s.stilled || !s.tenantOn t || decide (s.scanner = .off) || s.arbClosed 304 || s.arbShut 304 t
          || s.fenced t e.pair then .nop
      else seqs [
        .upd (.intake t rest),
        openCmd t e,
        modPair e.pair (fun x => { x with dispatched := x.dispatched + 1 }),
        writeLe (s.progAddr e.pair + 0x10) 8 ((s.pair e.pair).dispatched + 1),
        if !s.descOk e.desc then .seq (setErr blkQUE 1) (completeRefused s.nextCmd .shapeInvalid)
        else if (windowRanges e.desc).any (fun (r : Nat × Nat) => !s.inWindow t r.1 r.2) then seqs [
          setErr blkQUE 1, windowFault t, completeRefused s.nextCmd .shapeInvalid]
        else .dyn fun s' => withSome (s'.cmd s.nextCmd) (handOut s.nextCmd),
        settleScanner]

/-- DISPATCH (R293, R294, R296, R297, R301, R304, R462). -/
def execDispatch (tenant : Fin 64) (s : State) : Host.Outcome State Fault Refusal := .next (run (dispatchA tenant.val) s)

/-- FENCE: the command unit takes it; it holds later commands of its scope from its dispatch on. -/
def fenceA (id : Nat) : Act := .dyn fun s => withSome (s.takes id opcFENCE) (fun _ => takeCmd id)

/-- FENCE (R301). -/
def execFence (cmd : Nat) (s : State) : Host.Outcome State Fault Refusal := .next (run (fenceA cmd) s)

/-- FENCE_COMPLETE: every command it waits for has completed. -/
def fenceDoneA (id : Nat) : Act :=
  .dyn fun s => withSome (s.cmd id) fun c =>
    if c.op = opcFENCE ∧ c.taken ∧ s.fenceOpen c then complete id .ok else .nop

/-- FENCE_COMPLETE (R301). -/
def execFenceComplete (cmd : Nat) (s : State) : Host.Outcome State Fault Refusal := .next (run (fenceDoneA cmd) s)

/-! ### UCIe (R283) -/

/-- UCIE_MODULE_FAIL: module `m` is mapped out. -/
def ucieFailA (m : Nat) : Act :=
  .dyn fun s =>
    if s.ucieUp.testBit m then
      let up := setBits m m s.ucieUp 0
      seqs [
        .upd (.ucieUp up), .upd (.ucieRep (setBits m m s.ucieRep 0)),
        incA blkQUE 0,
        when' (decide (up = 0)) (incident { cls := .C, blk := blkQUE, code := 0 })]
    else .nop

/-- UCIE_MODULE_FAIL (R283). -/
def execUcieModuleFail (m : Fin 4) (s : State) : Host.Outcome State Fault Refusal := .next (run (ucieFailA m.val) s)

/-! ### FORCE (R307, R324): the abort of commands -/

/-- The load with a staged replacement drops it. -/
def dropStaging (h : Nat) : Act :=
  .dyn fun s => withSome (s.load h).repl fun r => seqs [
    each (s.loadSites h) (fun k => .seq (.upd (.wire (k * 16 + 15) [])) (modSite k (fun x => { x with staged := [], cfgQ := [] }))),
    withSome (s.copyAt r.image.addr) unpinCopy,
    modLoad h (fun l => { l with repl := none, st := if l.st = .replacing then .ready else l.st })]

/-- Abort command `id` where load `h` has it. -/
def abortOnLoad (id h : Nat) : Act :=
  .dyn fun s =>
    let l := s.load h
    if l.cmd = some id then endWith h rankABORT
    else if l.loadCmd = some id then seqs [
      modLoad h (fun l => { l with loadCmd := none }), complete id .poisoned noIdx, releaseLoad h]
    else if (l.repl.bind (fun r => r.cmd)) = some id then seqs [
      modLoad h (fun l => { l with
        waiting := l.waiting.filter (fun i => decide (i ≠ id)), repl := l.repl.map (fun r => { r with cmd := none }) }),
      when' (match l.repl with
        | some r => decide (r.phase = .staging)
        | none => false) (dropStaging h),
      complete id .poisoned noIdx]
    else if l.waiting.contains id then .seq
      (modLoad h (fun l => { l with waiting := l.waiting.filter (fun i => decide (i ≠ id)) })) (completeRefused id .poisoned)
    else if l.relCmd = some id then .seq (modLoad h (fun l => { l with relCmd := none })) (complete id .poisoned h)
    else if l.relForce = some id then .seq (modLoad h (fun l => { l with relForce := none })) (complete id .poisoned h)
    else .nop

/-- Abort command `id` where a request has it: an admitted SUBMIT's request ends FAULTED with POISONED, which its own
completion tells. -/
def abortOnReq (id i : Nat) : Act :=
  .dyn fun s =>
    let x := s.req i
    if x.cmd = some id then faultReq i .poisoned
    else if x.cancels.contains id then .seq
      (modReq i (fun x => { x with cancels := x.cancels.filter (fun k => decide (k ≠ id)) })) (complete id .poisoned i)
    else if x.parkCmd = some id then .seq (modReq i (fun x => { x with parkCmd := none })) (complete id .poisoned i)
    else .nop

/-- Abort command `id` where itinerary queue `q` has it waiting. -/
def abortOnIq (id q : Nat) : Act :=
  .dyn fun s =>
    if (s.iq q).cmds.contains id then .seq
      (modIq q (fun x => { x with cmds := x.cmds.filter (fun k => decide (k ≠ id)) })) (completeRefused id .poisoned)
    else .nop

/-- Moves in flight for command `id`. -/
def State.movesOf (s : State) (id : Nat) : List Nat :=
  s.moveIds.filter (fun m => match s.move m with
    | some x => decide (x.cmd = some id) || decide (x.snap = some id)
    | none => false)

/-- Command `id` is aborted: it completes POISONED. -/
def abortCmd (id : Nat) : Act :=
  .dyn fun s => withSome (s.cmd id) fun c => seqs [
    each (List.range 16) (abortOnLoad id),
    each (List.range 64) (abortOnIq id),
    abortMoves (s.movesOf id),
    each s.reqIds (abortOnReq id),
    .dyn fun s' => when' (!(decide (c.op = opcSERVE) && c.decided) && (s'.cmd id).isSome) (completeRefused id .poisoned)]

/-- Descriptors in an intake that satisfy `p` complete POISONED without dispatch. -/
def dropIntake (t : Nat) (p : Intake → Bool) : Act :=
  .dyn fun s => .seq
    (.upd (.intake t ((s.intake t).filter (fun e => !p e))))
    (each ((s.intake t).filter p) (fun e => .dyn fun s' => .seq (openCmd t e) (completeRefused s'.nextCmd .poisoned)))

/-! ### Enables of the scanner and the pairs (R288, R289, R324) -/

/-- QUE_CTL.EN = 1. -/
def scannerOn : Act :=
  .seq (setFld rQUE_CTL 63 63 1) (.dyn fun s =>
    match s.scanner with
    | .off => seqs [.upd (.scanner .running), .upd (.rotStart s.now), .upd (.rotLast 1024)]
    | .draining => .upd (.scanner .running)
    | .running => .nop)

/-- QUE_CTL.EN = 0. -/
def scannerOff : Act :=
  .seq (setFld rQUE_CTL 63 63 0)
    (.seq (whenS (fun s => decide (s.scanner = .running)) (.upd (.scanner .draining))) settleScanner)

/-- QUE_CTL.FORCE: every descriptor in the intakes completes POISONED. -/
def scannerForce : Act :=
  .dyn fun s =>
    if s.scanner = .draining then .seq (each (List.range 64) (fun t => dropIntake t (fun _ => true))) settleScanner
    else incA blkQUE 6

/-- QUE_SCANNER_ENABLE (R324). -/
def execQueScannerEnable (s : State) : Host.Outcome State Fault Refusal := .next (run (bitDo (.queScannerEnable) scannerOn) s)
/-- QUE_SCANNER_DISABLE (R324). -/
def execQueScannerDisable (s : State) : Host.Outcome State Fault Refusal := .next (run (bitDo (.queScannerDisable) scannerOff) s)
/-- QUE_SCANNER_FORCE (R324). -/
def execQueScannerForce (s : State) : Host.Outcome State Fault Refusal := .next (run (bitDo (.queScannerForce) scannerForce) s)

/-- The conditions of R288 on pair `p`. -/
def State.pairOk (s : State) (p : Nat) : Bool :=
  let sq := s.fld rQUE_PAIR_CFG 59 55 p
  let cq := s.fld rQUE_PAIR_CFG 54 50 p
  s.tenantOn (p / 16) && decide (4 ≤ sq) && decide (sq ≤ 16) && decide (4 ≤ cq) && decide (cq ≤ 16)
    && s.rsvAt (s.fld rQUE_SQ_BASE 47 0 p) (128 * 2 ^ sq) 4096 && s.rsvAt (s.fld rQUE_CQ_BASE 47 0 p) (32 * 2 ^ cq) 4096

/-- QUE_PAIR_CFG.EN = 1 for pair `p`. -/
def pairOn (p : Nat) : Act :=
  .dyn fun s =>
    if (s.pair p).st = .running then .nop
    else if !s.pairOk p then incident { cls := .A, blk := blkQUE, code := 2, tenant := some (p / 16) }
    else match (s.pair p).st with
      | .off => seqs [
          .upd (.pair p { st := .running }),
          writeBytes (s.progAddr p) (List.replicate 64 0),
          setFld rQUE_PAIR_CFG 63 63 1 p]
      | .draining => .seq (modPair p (fun x => { x with st := .running })) (setFld rQUE_PAIR_CFG 63 63 1 p)
      | .running => .nop

/-- QUE_PAIR_CFG.EN = 0 for pair `p`. -/
def pairOff (p : Nat) : Act :=
  seqs [setFld rQUE_PAIR_CFG 63 63 0 p,
    whenS (fun s => decide ((s.pair p).st = .running)) (modPair p (fun x => { x with st := .draining })), settlePair p]

/-- QUE_PAIR_CFG.FORCE for pair `p`. -/
def pairForceA (p : Nat) : Act :=
  .dyn fun s =>
    if (s.pair p).st = .draining then seqs [
      dropIntake (p / 16) (fun e => decide (e.pair = p)),
      each ((s.tenantCmds (p / 16)).filter (fun i => match s.cmd i with
        | some c => decide (c.pair = some p)
        | none => false)) abortCmd,
      settleScanner]
    else incident { cls := .A, blk := blkQUE, code := 6, tenant := some (p / 16) }

/-- PAIR_ENABLE (R288, R289, R324). -/
def execPairEnable (pair : Fin 1024) (s : State) : Host.Outcome State Fault Refusal :=
  .next (run (bitDo (.pairEnable pair) (pairOn pair.val)) s)
/-- PAIR_DISABLE (R324). -/
def execPairDisable (pair : Fin 1024) (s : State) : Host.Outcome State Fault Refusal :=
  .next (run (bitDo (.pairDisable pair) (pairOff pair.val)) s)
/-- PAIR_FORCE (R324). -/
def execPairForce (pair : Fin 1024) (s : State) : Host.Outcome State Fault Refusal :=
  .next (run (bitDo (.pairForce pair) (pairForceA pair.val)) s)

end Sys2Proof.Machine
end

