-- ==== Sys2Proof/Machine/Update.lean ====
section
/-!
DEFINITION. Firmware and settings update: the session, its commands, the activation pause (R434 to R445).
-/

namespace Sys2Proof.Machine

/-! ### The session (R434, R443, R445) -/

def State.runSlot (s : State) : Nat := s.fld rBOOT_STAT 51 51
def State.updOwned (s : State) : Bool := s.flag rUPD_STAT 53
def State.updOwner (s : State) : Nat := s.fld rUPD_STAT 59 54

/-- The target slot: the one that is not running. -/
def State.updTarget (s : State) : Nat := 1 - s.runSlot

/-- The status of an update reason and the ERR bit that it sets (Table 12.11). -/
def updStatus (reason : Nat) : Status :=
  match reason with
  | 0 => .ok
  | 3 => .eccUncorrectable
  | 4 => .busy
  | 5 => .busy
  | 0x0B => .busy
  | _ => .shapeInvalid

/-- The UPD_ERR bit of a reason; 0xFF = none. -/
def updErrBit (reason : Nat) : Nat :=
  match reason with
  | 2 => 1
  | 3 => 0
  | 7 => 3
  | 8 => 3
  | 9 => 2
  | 0x0C => 2
  | _ => 0xFF

/-- An update command completes for a reason (R445). -/
def updEnd (id reason : Nat) : Act :=
  .dyn fun s => withSome (s.cmd id) fun c => seqs [
    setFld rUPD_STAT 39 32 reason,
    when' (decide (reason ≠ 0)) (incident {
      cls := if updStatus reason = .busy then .A else .B
      blk := blkUPD, code := updErrBit reason, status := (updStatus reason).code, tenant := some c.tenant }),
    complete id (updStatus reason) s.updTarget reason]

/-- The session ends: its state, owner and parts are forgotten; a staged slot stays as it is. -/
def endSession : Act :=
  seqs [.upd (.updSt .idle), .upd (.updBegun false), .upd (.updManifest 0), setFld rUPD_STAT 59 53 0, setFld rUPD_STAT 51 45 0]

/-- A session that is not in PAUSE or TRIAL is ended (R443). -/
def abortSession : Act :=
  whenS (fun s => decide (s.updSt ≠ .pause) && decide (s.updSt ≠ .trial)) endSession

/-- An update command that may be carried out now: none dispatched earlier is still to be. -/
def State.takesUpd (s : State) (id op : Nat) : Option Cmd :=
  (s.takes id op).bind fun c =>
    if !s.stilled && s.cmdIds.all (fun j => decide (id ≤ j) || (match s.cmd j with
        | some d => decide (d.op < opcUBLOCK) || decide (opPREFILL ≤ d.op)
        | none => true)) then some c else none

/-- Another tenant owns the session. -/
def State.updForeign (s : State) (c : Cmd) : Bool := s.updOwned && decide (s.updOwner ≠ c.tenant)

/-! ### UPDATE_BLOCK (R435) -/

def ubPART (d : List Byte) : Nat := leAt d 0x10 1
def ubOFFSET (d : List Byte) : Nat := leAt d 0x14 4
def ubLENGTH (d : List Byte) : Nat := leAt d 0x18 4
def ubCRC (d : List Byte) : Nat := leAt d 0x1C 4
def ubSRC (d : List Byte) : Nat := leAt d 0x20 6

/-- The bytes that an update command reads from T2, as the code delivers them. -/
def State.updSource (s : State) (d : List Byte) : List Byte :=
  (List.range (ubLENGTH d)).map (fun i => let a := ubSRC d + i; if s.bad a then 0 else s.byte a)

/-- Write a block of a part at `a`; `ok` tells whether the flash reads back what was programmed. -/
def writePart (id a : Nat) (d : List Byte) (ok : Bool) : Act :=
  .dyn fun s =>
    let part := ubPART d
    let fw := decide (part ≤ 5)
    seqs [
      when' (fw && !s.updBegun) (seqs [
        eraseFlash (manifestAt s.updTarget) 65536,
        appendJournal (fun j => j.setSlot s.updTarget stSTAGING),
        .upd (.updBegun true)]),
      eraseSectors (a + ubOFFSET d) (ubLENGTH d),
      if ok then seqs [
        programFlash (a + ubOFFSET d) (s.updSource d),
        orReg rUPD_STAT (2 ^ (44 + part)),
        updEnd id 0]
      else .seq (spoilFlash (a + ubOFFSET d) (ubLENGTH d)) (updEnd id 3)]

/-- UPDATE_BLOCK; `flashOk` tells whether the flash reads back what was programmed. -/
def updateBlockA (id : Nat) (flashOk : Bool) : Act :=
  .dyn fun s => withSome (s.takesUpd id opcUBLOCK) fun c =>
    let d := c.desc
    if s.updForeign c then updEnd id 4
    else if s.updSt = .trial then updEnd id 5
    else seqs [
      when' (!s.updOwned) (.seq (setFld rUPD_STAT 59 53 (2 * c.tenant + 1)) (setFld rUPD_STAT 52 52 s.updTarget)),
      .upd (.updSt .staging), .upd (.updManifest 0),
      if (partArea (ubPART d)).2 < ubOFFSET d + ubLENGTH d then updEnd id 1
      else if crc32c (s.updSource d) ≠ ubCRC d then updEnd id 2
      else match s.journal.partBase s.updTarget (ubPART d) with
        | some a => writePart id a d flashOk
        | none => updEnd id 0x0B]

/-- UPDATE_BLOCK (R434, R435, R445). -/
def execUpdateBlock (cmd : Nat) (flashOk : Bool) (s : State) : Host.Outcome State Fault Refusal :=
  .next (run (updateBlockA cmd flashOk) s)

/-! ### UPDATE_MANIFEST (R436) -/

/-- UPDATE_MANIFEST. -/
def updateManifestA (id : Nat) (flashOk : Bool) : Act :=
  .dyn fun s => withSome (s.takesUpd id opcUMANIFEST) fun c =>
    let d := c.desc
    let m := s.updSource d
    if s.updForeign c then updEnd id 4
    else if s.updSt = .trial then updEnd id 5
    else if s.updSt = .idle then updEnd id 0x0B
    else if crc32c m ≠ ubCRC d then updEnd id 2
    else seqs [
      .upd (.updSt .staging), .upd (.updManifest 0),
      eraseSectors (manifestAt s.updTarget) m.length,
      if !flashOk then .seq (spoilFlash (manifestAt s.updTarget) m.length) (updEnd id 3)
      else .seq (programFlash (manifestAt s.updTarget) m)
        (.dyn fun s' => match s'.manifestReason m (s'.journal.partBase s'.updTarget) (fun _ => true) s'.journal.minSvn with
          | some r => updEnd id r
          | none => seqs [.upd (.updSt .verified), .upd (.updManifest (mfMask m)), updEnd id 0])]

/-- UPDATE_MANIFEST (R434, R436, R445). -/
def execUpdateManifest (cmd : Nat) (flashOk : Bool) (s : State) : Host.Outcome State Fault Refusal :=
  .next (run (updateManifestA cmd flashOk) s)

/-! ### UPDATE_ACTIVATE (R437) -/

/-- The manifest in the target slot still holds the hash of every firmware part in flash (R437). -/
def State.armOk (s : State) : Bool :=
  (mfEntries (s.slotManifest s.updTarget)).all (fun r => !isFirmware (enPart r) || s.entryOk (s.journal.partBase s.updTarget) r)

/-- UPDATE_ACTIVATE. -/
def updateActivateA (id : Nat) : Act :=
  .dyn fun s => withSome (s.takesUpd id opcUACTIVATE) fun c =>
    if s.updForeign c then updEnd id 4
    else if s.updSt = .trial then updEnd id 5
    else if s.updSt ≠ .verified then updEnd id 0x0B
    else if !s.armOk then .seq (.upd (.updSt .staging)) (updEnd id 0x0C)
    else .seq (.upd (.updSt .armed)) (updEnd id 0)

/-- UPDATE_ACTIVATE (R434, R437, R445). -/
def execUpdateActivate (cmd : Nat) (s : State) : Host.Outcome State Fault Refusal :=
  .next (run (updateActivateA cmd) s)

/-! ### UPDATE_CONFIRM (R442) -/

/-- The running slot becomes GOOD, and the other one BAD where its SVN lies below the new MIN_SVN. -/
def Journal.confirmSlot (j : Journal) (t svn : Nat) : Journal :=
  let low := max j.minSvn svn
  let k := { j.setSlot t stGOOD with minSvn := low }
  if j.slot (1 - t) = stGOOD ∧ low ≤ j.svn (1 - t) then k else if j.slot (1 - t) = stGOOD then k.setSlot (1 - t) stBAD else k

/-- The pending configuration copy becomes current. -/
def Journal.confirmCfg (j : Journal) : Journal := { j with cfg := j.cfg / 4 % 2 }

/-- UPDATE_CONFIRM. -/
def updateConfirmA (id : Nat) : Act :=
  .dyn fun s => withSome (s.takesUpd id opcUCONFIRM) fun c =>
    let what := leAt c.desc 0x10 1
    let fw := what.testBit 0
    let cfg := what.testBit 1
    if s.updForeign c then updEnd id 4
    else if (fw && decide (s.updSt ≠ .trial)) || (cfg && !s.journal.cfg.testBit 1) then updEnd id 0x0B
    else seqs [
      appendJournal (fun j =>
        let k := if fw then j.confirmSlot s.runSlot (s.slotVersion s.runSlot).2 else j
        if cfg then k.confirmCfg else k),
      when' fw (setFld rBOOT_STAT 50 50 0),
      when' cfg (setFld rBOOT_STAT 47 47 0),
      updEnd id 0,
      when' fw endSession]

/-- UPDATE_CONFIRM (R434, R442, R445). -/
def execUpdateConfirm (cmd : Nat) (s : State) : Host.Outcome State Fault Refusal := .next (run (updateConfirmA cmd) s)

/-! ### Activation (R438 to R441) -/

/-- QS_DRAINED and ADM_DRAINED (R240): the closing bit is set and no grant is held. -/
def State.arbDrained (s : State) (a : Nat) : Bool := s.arbClosed a && decide ((s.arbiter a).holder = none)

/-- The module is quiet, so that GO is taken for firmware (R438). -/
def State.quiet (s : State) : Bool :=
  s.arbDrained 304 && s.arbDrained 305 && decide (s.srvSt = .off)
    && (List.range 64).all (fun d => !s.docBusy d)
    && (List.range 64).all (fun q => decide ((s.iq q).st ≠ .running) && decide ((s.iq q).st ≠ .draining))
    && (List.range 64).all (fun t => decide ((s.tenant t).st ≠ .resetting))
    && (List.range 16).all (fun b => decide ((s.bay b).st ≠ .testing) && decide ((s.bay b).st ≠ .scanning))
    && (List.range 16).all (fun h => decide ((s.load h).st ≠ .loading) && decide ((s.load h).st ≠ .replacing)
        && decide ((s.load h).st ≠ .releasing))
    && decide (s.nwSt = .active) && !s.halted

/-- Every command on load `h` ends FIRMWARE_PAUSE and the load is FREE, its pins dropped (R439). -/
def pauseLoad (h : Nat) : Act :=
  .dyn fun s =>
    if (s.load h).st = .free then .nop
    else seqs [
      endWith h rankPAUSE,
      .dyn fun s' => .seq (modLoad h (fun l => { l with waiting := [] }))
        (each (s'.load h).waiting (fun id => finishCmd id h .firmwarePause)),
      releaseLoad h]

/-- Every bay is OFF, every load FREE, the verified images are dropped, every service is disabled (Table 12.10). -/
def pauseFabric : Act :=
  seqs [
    each (List.range 16) pauseLoad,
    setReg rFAB_BAY_ON 0,
    each (List.range 16) bayGone,
    setFences,
    each (List.range 16) settleRelease,
    each (List.range 32) (fun e => .upd (.imgEntry e {})),
    each (List.range 4) (fun g => modSlice g (fun x => if x.st = .off then x else { x with st := .idle, pend := none })),
    each (List.range 64) (fun v => whenS (fun s => s.svcOn v) (svcOff v))]

/-- GO of a settings manifest: the new topology copy becomes current, the new configuration copy pending (R438). -/
def goSettings : Act :=
  .dyn fun s => seqs [
    appendJournal (fun j => { j with
      topo := if s.updManifest.testBit 6 then j.freeTopo else j.topo
      cfg := if s.updManifest.testBit 5 then j.cfg % 2 + 2 + 4 * (1 - j.cfg % 2) else j.cfg }),
    endSession]

/-- GO of a firmware manifest: steps 1 to 5 of Table 12.10. -/
def goFirmware : Act :=
  .dyn fun s => seqs [
    .upd (.updSt .pause), .upd (.updGoAt s.now),
    addFld rUPD_PAUSE 31 16 1,
    pauseFabric,
    tellRates,
    appendJournal (fun j => { j.setSlot s.updTarget stTRIAL with active := s.updTarget })]

/-- UPD_CTL.GO is written 1. -/
def updGoA : Act :=
  .dyn fun s =>
    if s.updSt ≠ .armed then incA blkUPD 0xFF rUPD_CTL
    else if s.updManifest % 32 = 0 then goSettings
    else if s.quiet then goFirmware
    else .seq (setFld rUPD_STAT 39 32 0x0D) (incA blkUPD 4)

/-- UPD_GO (R438, R439). -/
def execUpdGo (s : State) : Host.Outcome State Fault Refusal := .next (run (bitDo (.updGo) updGoA) s)

/-- UPD_ABORT (R443). -/
def execUpdAbort (s : State) : Host.Outcome State Fault Refusal := .next (run (bitDo (.updAbort) abortSession) s)

/-- BOOT_FW of a slot. -/
def showFirmware (t : Nat) : Act :=
  .dyn fun s =>
    let m := s.flashBytes (manifestAt t) 0x40
    seqs [setReg rBOOT_FW (place 63 32 (mfVersion m) + place 31 16 (mfSvn m) + place 15 0 (mfCfgFmt m)), setFld rBOOT_STAT 51 51 t]

/-- The pause ends: its length is recorded and links ask for full rate. -/
def endPause (st : UpdState) : Act :=
  .dyn fun s => seqs [setFld rUPD_PAUSE 63 32 ((s.now - s.updGoAt) / 1000), .upd (.updSt st), tellRates]

/-- ACTIVATION_PARTS_READY: the new parts run, in trial. -/
def partsReadyA : Act :=
  .dyn fun s =>
    if s.updSt = .pause then seqs [showFirmware s.updTarget, setFld rBOOT_STAT 50 50 1, endPause .trial]
    else .nop

/-- ACTIVATION_REVERT: the former parts run again. -/
def revertA : Act :=
  .dyn fun s =>
    if s.updSt = .pause then seqs [
      appendJournal (fun j => { j.setSlot s.updTarget stBAD with active := s.runSlot }),
      endPause .idle,
      endSession,
      setFld rUPD_STAT 39 32 0x0E,
      addFld rUPD_PAUSE 15 0 1,
      incA blkUPD 5]
    else .nop

end Sys2Proof.Machine
end

