-- ==== Sys2Proof/Machine/Power.lean ====
section
/-!
DEFINITION. Power, caps, heat and night watch (R389 to R417).
-/

namespace Sys2Proof.Machine

/-! ### The power model (R393, Table 11.2) -/

/-- The bound of Table 11.2 on P_FAB(c): P_FAB increases with c, so a row's bound holds for the codes below it too. -/
def pFabBound (c : Nat) : Nat := if c = 0 then 200 else if c ≤ 12 then 640 else if c ≤ 24 then 1360 else 2800

def pFix : Nat := min 950 Config.pFix
def pDoc : Nat := min 450 Config.pDoc
def pFab (c : Nat) : Nat := if c ≤ 36 then min (pFabBound c) (Config.pFab c) else 0

/-- The highest code under a level, if one exists (R401). -/
def brakeCodeOf (fix doc : Nat) (fab : Nat → Nat) (level : Nat) : Option Nat :=
  ((List.range 37).filter (fun c => decide (fix + doc + fab c ≤ level))).getLast?

/-- The highest pace k of 16 under a level at code 0, if one exists (R401). -/
def brakePaceOf (fix doc : Nat) (fab : Nat → Nat) (level : Nat) : Option Nat :=
  (((List.range 16).map (· + 1)).filter (fun k => decide (16 * (fix + fab 0) + doc * k ≤ 16 * level))).getLast?

/-! ### Limits (R37, R390, R402, R407) -/

/-- The lowest of an island's four limits. -/
def Island.lowLimit (x : Island) : Nat := min x.limCap (min x.limBrake (min x.limTherm x.limDroop))

/-- An island's temperature limit is in force and is the lowest of its limits (R410). -/
def State.thermLimited (s : State) (i : Nat) : Bool :=
  decide ((s.island i).limTherm < 36) && decide ((s.island i).limTherm = (s.island i).lowLimit)

/-- Islands in bays that belong to a load. -/
def State.loadedIslands (s : State) : List Nat :=
  ((List.range 16).filter (fun b => (s.bay b).load.isSome)).flatMap bayIslands

/-- FLOOR keeps the old code while a deadline request of the time before the write is under way (R406). -/
def settleFloor : Act :=
  .dyn fun s =>
    if s.reqIds.any (fun i => (s.req i).oldCode && (s.req i).live && decide ((s.req i).st ≠ .parked)) then .nop
    else setFld rPWR_GUAR 13 8 (s.fld rPWR_GUAR 5 0)

/-- FORCED and its causes are evaluated; a rise suspends the guarantees (R407, R262). -/
def settleForced : Act :=
  .dyn fun s =>
    let floor := s.fld rPWR_GUAR 13 8
    let is := s.loadedIslands
    let cap := is.any (fun i => decide ((s.island i).limCap < floor))
    let brk := is.any (fun i => decide ((s.island i).limBrake < floor))
    let thm := is.any (fun i => decide ((s.island i).limTherm < floor))
    let now := cap || brk || thm
    seqs [
      setFld rPWR_GUAR 63 60 (8 * b2n now + 4 * b2n cap + 2 * b2n brk + b2n thm),
      when' (now && !s.flag rPWR_GUAR 63) (seqs [
        addFld rPWR_GUAR 31 16 1,
        guaranteeSuspend,
        incA blkPWR 2])]

/-- A ceiling code is set: cap limits above it fall at once; a rise waits for RAIL_SETTLED (R390, R395). -/
def setCeiling (c : Nat) : Act :=
  .dyn fun s => .seq (setFld rPWR_CAP 5 0 c)
    (each ((List.range 640).filter (fun i => decide (c < (s.island i).limCap)))
      (fun i => modIsland i (fun x => { x with limCap := c })))

/-- The brake code reaches every island while the brake is asserted (R402). -/
def applyBrake : Act :=
  .dyn fun s =>
    let c := s.fld rPWR_BRAKE 37 32
    when' (s.flag rPWR_BRAKE 47) (.seq
      (each ((List.range 640).filter (fun i => decide (c < (s.island i).limBrake)))
        (fun i => modIsland i (fun x => { x with limBrake := c })))
      (when' (decide (s.fld rPWR_BRAKE 31 27 < 16)) (setErr blkPWR 3)))

/-- RAIL_SETTLED: the limits of the bay's islands rise to what the controller asks for (R390). -/
def railSettledA (bay : Fin 16) : Act :=
  .dyn fun s =>
    let ceil := s.fld rPWR_CAP 5 0
    let brk := if s.flag rPWR_BRAKE 47 then s.fld rPWR_BRAKE 37 32 else 36
    .seq (each (bayIslands bay.val) (fun i => modIsland i (fun x =>
      { x with limCap := ceil, limBrake := brk, limTherm := x.wantTherm }))) settleForced

/-- RAIL_SETTLED (R390). -/
def execRailSettled (bay : Fin 16) (s : State) : Host.Outcome State Fault Refusal := .next (run (railSettledA bay) s)

/-! ### The cap (R392, R394 to R398) -/

/-- EFFECTIVE_W after one control period: 200 W/ms toward the target (R394). -/
def slewCap (eff target : Nat) : Nat := if eff < target then min target (eff + 2) else max target (eff - 2)

/-- The change of the ceiling code by the table of R395, never below `lo`. -/
def ceilingStep (fab : Nat → Nat) (lo pin eff c : Nat) : Nat :=
  if 105 * eff < 100 * pin then max lo (c - 4)
  else if eff < pin then max lo (c - 1)
  else if c < 36 ∧ pin + fab (c + 1) ≤ eff + fab c then c + 1
  else c

/-- The cap controller's state: ceiling code, measurements in a row more than 2 % above the cap at FLOOR, and whether
the ceiling went below FLOOR under R396. -/
def ceilingNext (fab : Nat → Nat) (floor pin eff c run : Nat) (under : Bool) : Nat × Nat × Bool :=
  if floor < c then (ceilingStep fab floor pin eff c, 0, false)
  else if c = floor then
    let n := if 102 * eff < 100 * pin then run + 1 else 0
    if n < 10 then (ceilingStep fab floor pin eff c, n, false)
    else
      let c' := ceilingStep fab 0 pin eff c
      (c', 0, decide (c' < floor))
  else if under ∧ pin + fab floor ≤ eff + fab c then (floor, 0, false)
  else
    let c' := ceilingStep fab 0 pin eff c
    (c', 0, under && decide (c' < floor))

/-- Energy of the period: the module's, each bay's to the tenant of its load, the rest unattributed (R311, R392). -/
def chargeEnergy (m : PowerMeas) : Act :=
  .dyn fun s =>
    let held := (List.range 16).filterMap (fun b => (s.bay b).load.map (fun h => ((s.load h).tenant, lget 0 m.bayMj b)))
    seqs [
      addFld rPWR_ENERGY 63 0 m.mj,
      each held (fun (p : Nat × Nat) => addFld rTEN_ACC_MJ 63 0 p.2 p.1),
      addFld rTEN_ACC_COMMON 63 0 (m.mj - held.foldl (fun a p => a + p.2) 0)]

/-- The always-on supply records that VIN has left its operating range of 60 to 66 V: cause 3, behind causes 0 and 4
(R499). -/
def vinLeft : Act :=
  .dyn fun s => when' (decide (s.bootCause = 1 ∨ s.bootCause = 2)) (.upd (.bootCause 3))

/-- CAP_PERIOD: what one 10 µs measurement does. -/
def capPeriodA (m : PowerMeas) : Act :=
  seqs [
    setReg rPWR_IN (place 63 48 m.vin.toNat + place 47 32 m.iin.toNat + place 31 16 m.pin.toNat),
    .dyn fun s => setReg rPWR_PEAK (place 63 48 (max (s.fld rPWR_PEAK 63 48) m.pin.toNat)
      + place 47 32 (max (s.fld rPWR_PEAK 47 32) m.avg1ms.toNat)),
    chargeEnergy m,
    when' (decide (m.vin.toNat < 6000 ∨ 6600 < m.vin.toNat)) vinLeft,
    .dyn fun s => setFld rPWR_CAP 47 32 (slewCap (s.fld rPWR_CAP 47 32) (s.fld rPWR_CAP 63 48)),
    settleFloor,
    .dyn fun s =>
      let n := ceilingNext pFab (s.fld rPWR_GUAR 13 8) m.pin.toNat (s.fld rPWR_CAP 47 32) (s.fld rPWR_CAP 5 0)
        s.capOver s.capUnder
      seqs [setCeiling n.1, .upd (.capOver n.2.1), .upd (.capUnder n.2.2)],
    settleForced]

/-- CAP_PERIOD (R392, R394 to R396, R407). -/
def execCapPeriod (meas : PowerMeas) (s : State) : Host.Outcome State Fault Refusal := .next (run (capPeriodA meas) s)

/-- A value clamped to a range, with PWR_ERR.RANGE and a class A incident where it lay outside (R394). -/
def clamped (lo hi v : Nat) (f : Nat → Act) : Act :=
  .seq (f (max lo (min hi v))) (when' (decide (v < lo ∨ hi < v)) (incA blkPWR 0))

/-- TARGET_W is written. -/
def writeTarget (v : Nat) : Act := clamped 1200 3800 v (fun x => setFld rPWR_CAP 63 48 x)

/-- CAP_TARGET_WRITE (R394). -/
def execCapTargetWrite (v : BitVec 16) (s : State) : Host.Outcome State Fault Refusal :=
  .next (run (bitDo (.capTargetWrite v) (writeTarget v.toNat)) s)

/-! ### The brake (R400 to R404, R413) -/

/-- The brake code and pace are computed from LEVEL_W (R401). -/
def computeBrake : Act :=
  .dyn fun s =>
    let level := s.fld rPWR_BRAKE 63 48
    match brakeCodeOf pFix pDoc pFab level with
    | some c => .seq (setFld rPWR_BRAKE 37 32 c) (setFld rPWR_BRAKE 31 27 16)
    | none => .seq (setFld rPWR_BRAKE 37 32 0) (setFld rPWR_BRAKE 31 27 ((brakePaceOf pFix pDoc pFab level).getD 1))

/-- LEVEL_W is written. -/
def writeLevel (v : Nat) : Act :=
  clamped 1200 2400 v (fun x => seqs [setFld rPWR_BRAKE 63 48 x, computeBrake, applyBrake, settleForced])

/-- BRAKE_LEVEL_WRITE (R401). -/
def execBrakeLevelWrite (v : BitVec 16) (s : State) : Host.Outcome State Fault Refusal :=
  .next (run (bitDo (.brakeLevelWrite v) (writeLevel v.toNat)) s)

/-- The brake takes effect, unless it already has (R402, R403). -/
def brakeOn : Act :=
  whenS (fun s => !s.flag rPWR_BRAKE 47) (seqs [
    setFld rPWR_BRAKE 47 47 1,
    addFld rPWR_BRAKE 23 0 1,
    incA blkPWR 0xFF rPWR_BRAKE,
    applyBrake,
    settleForced])

/-- The brake is released once neither cause holds it: the cap restarts at the lower of level and target, the ceiling
at the brake code (R404). -/
def brakeOff : Act :=
  .dyn fun s =>
    when' (s.flag rPWR_BRAKE 47 && !s.flag rPWR_BRAKE 46 && !s.pinBrake) (seqs [
      setFld rPWR_BRAKE 47 47 0,
      setFld rPWR_CAP 47 32 (min (s.fld rPWR_BRAKE 63 48) (s.fld rPWR_CAP 63 48)),
      setCeiling (s.fld rPWR_BRAKE 37 32),
      .upd (.capOver 0), .upd (.capUnder false),
      settleForced])

/-- BRAKE_ASSERT (R402). -/
def execBrakeAssert (s : State) : Host.Outcome State Fault Refusal := .next (run (.seq (.upd (.pinBrake true)) brakeOn) s)

/-- BRAKE_RELEASE (R404). -/
def execBrakeRelease (s : State) : Host.Outcome State Fault Refusal :=
  .next (run (.seq (.upd (.pinBrake false)) brakeOff) s)

/-- VIN_SAG: the module brakes as though the pin were asserted (Table 11.5). -/
def execVinSag (s : State) : Host.Outcome State Fault Refusal :=
  .next (run (seqs [setFld rPWR_BRAKE 46 46 1, setErr blkPWR 4, vinLeft, brakeOn]) s)

/-- VIN_RECOVER (Table 11.5). -/
def execVinRecover (s : State) : Host.Outcome State Fault Refusal :=
  .next (run (.seq (setFld rPWR_BRAKE 46 46 0) brakeOff) s)

/-! ### The guarantee clock (R405, R406) -/

/-- PWR_GUAR.CODE is written: a write that lowers it marks the deadline requests that FLOOR still defends. -/
def writeGuarantee (v : Nat) : Act :=
  .dyn fun s => clamped 1 36 v (fun c => seqs [
    when' (decide (c < s.fld rPWR_GUAR 5 0))
      (each (s.reqIds.filter (fun i => (s.req i).hasDeadline && (s.req i).live && decide ((s.req i).st ≠ .parked)))
        (fun i => modReq i (fun x => { x with oldCode := true }))),
    setFld rPWR_GUAR 5 0 c,
    when' (decide (s.fld rPWR_GUAR 13 8 < c)) (setFld rPWR_GUAR 13 8 c),
    settleFloor,
    settleForced])

/-- GUARANTEE_CODE_WRITE (R405, R406). -/
def execGuaranteeCodeWrite (v : BitVec 6) (s : State) : Host.Outcome State Fault Refusal :=
  .next (run (bitDo (.guaranteeCodeWrite v) (writeGuarantee v.toNat)) s)

/-! ### Heat (R409 to R412) -/

/-- The sensors that have been read. -/
def State.sensors (s : State) : List Nat := tkeys s.pwr.temps

/-- The highest reading now. -/
def State.hottest (s : State) : Nat := s.sensors.foldl (fun a k => max a ((s.temp k).getD 0)) 0

/-- HOT_C, HOT_SRC and HOT_MAX_C after a reading. Among sensors that share the highest reading the source shown is
free. -/
def showHot : Act :=
  .dyn fun s =>
    let hot := s.hottest
    let from_ := s.sensors.filter (fun k => decide (s.temp k = some hot))
    withFresh fun n => seqs [
      setFld rPWR_THERM 47 40 hot,
      setFld rPWR_THERM 39 32 (max hot (s.fld rPWR_THERM 39 32)),
      setFld rPWR_THERM 31 22 (lget 0 from_ (Config.freeNat n % from_.length))]

/-- The temperature limit of island `i` falls by one code; the first throttle since PWR_ERR.THROTTLE was cleared is
logged (R410). -/
def throttle (i : Nat) : Act :=
  .dyn fun s => seqs [
    modIsland i (fun x => { x with wantTherm := x.wantTherm - 1, limTherm := min x.limTherm (x.wantTherm - 1) }),
    .upd (.thermAt i (some s.now)),
    when' (!s.flag rPWR_ERR 1) (incA blkPWR 1)]

/-- An island's reading moves its temperature limit: down one code every 10 µs from 95 °C, up one code every 100 µs to
92 °C (R410). -/
def moveTherm (i c : Nat) : Act :=
  .dyn fun s =>
    let due (ns : Nat) : Bool := match s.thermAt i with
      | some t => decide (t + ns ≤ s.now)
      | none => true
    if 95 ≤ c ∧ due 10000 ∧ 0 < (s.island i).wantTherm then throttle i
    else if c ≤ 92 ∧ due 100000 ∧ (s.island i).wantTherm < 36 then
      .seq (modIsland i (fun x => { x with wantTherm := x.wantTherm + 1 })) (.upd (.thermAt i (some s.now)))
    else .nop

/-- How long a sensor has read 115 °C or more; after 10 µs the module trips (R412). -/
def tripCheck (src c : Nat) : Act :=
  .dyn fun s =>
    if c < 115 then .upd (.hotSince src none)
    else match s.hotSince src with
      | none => .upd (.hotSince src (some s.now))
      | some t => when' (decide (t + 10000 ≤ s.now)) (haltLogged haltTHERMAL)

/-- SENSOR_READ: one reading of a sensor of Table 11.4. -/
def sensorReadA (src c : Nat) : Act :=
  seqs [
    .upd (.temp src (some c)),
    showHot,
    when' (decide (src < 640)) (moveTherm src c),
    .dyn fun s => when' (decide (95 ≤ c) || (decide (src < 640) && s.thermLimited src)) (.upd (.thermAlert true)),
    settleForced,
    tripCheck src c]

/-- SENSOR_READ (R409 to R412). -/
def execSensorRead (src : Fin 674) (degC : BitVec 8) (s : State) : Host.Outcome State Fault Refusal :=
  .next (run (sensorReadA src.val degC.toNat) s)

/-- THERM_ALERT_RELEASE: every sensor has read below 90 °C for 1 ms and no island is thermally limited (R411). -/
def execThermAlertRelease (s : State) : Host.Outcome State Fault Refusal :=
  .next (run (whenS (fun s => decide (s.hottest < 90) && (List.range 640).all (fun i => !s.thermLimited i))
    (.upd (.thermAlert false))) s)

/-! ### Night watch (R414 to R417) -/

/-- Entry may start (R414). -/
def State.mayWatch (s : State) : Bool :=
  (List.range 16).all (fun b => decide ((s.bay b).st = .idle) || decide ((s.bay b).st = .off))
    && decide (s.srvSt = .off)
    && (List.range 64).all (fun q => decide ((s.iq q).st ≠ .running) && decide ((s.iq q).st ≠ .draining))
    && (List.range 64).all (fun d => !s.docBusy d)
    && (List.range 64).all (fun t => decide ((s.tenant t).st ≠ .resetting))

/-- Entry begins, or is refused. -/
def nwBegin : Act :=
  .dyn fun s =>
    if s.mayWatch then seqs [
      setFld rPWR_NW 63 63 1,
      .upd (.nwSt .entering),
      setReg rFAB_BAY_ON 0,
      each (List.range 16) bayGone,
      tellRates]
    else .seq (setFld rPWR_NW 63 63 0) (incA blkPWR 5)

/-- ENTER is written 1: during exit it waits for the sequence (R417). -/
def nwEnterA : Act :=
  .dyn fun s => match s.nwSt with
    | .active => nwBegin
    | .leaving => setFld rPWR_NW 63 63 1
    | .entering | .watch => .nop

/-- NIGHT_WATCH_ENTER (R414). -/
def execNightWatchEnter (s : State) : Host.Outcome State Fault Refusal := .next (run (bitDo (.nightWatchEnter) nwEnterA) s)

/-- The module wakes: STATE reads LEAVING and the bays of WAKE_BAYS are written ON (Table 11.6). -/
def nwWake : Act :=
  .dyn fun s => .seq (.upd (.nwSt .leaving)) (each (bitsOn 16 (s.fld rPWR_NW 15 0)) bayOnA)

/-- A wake (R416): in night watch it starts the exit, during entry it waits for the sequence (R417). -/
def nwExitA : Act :=
  .dyn fun s => match s.nwSt with
    | .watch => .seq (setFld rPWR_NW 62 62 1) nwWake
    | .entering => setFld rPWR_NW 62 62 1
    | .active | .leaving => .nop

/-- NIGHT_WATCH_EXIT (R416). -/
def execNightWatchExit (s : State) : Host.Outcome State Fault Refusal := .next (run (bitDo (.nightWatchExit) nwExitA) s)

/-- NIGHT_WATCH_ENTERED: STATE reads WATCH; an EXIT written meanwhile takes effect. -/
def nwEnteredA : Act :=
  .dyn fun s =>
    if s.nwSt = .entering then seqs [
      setFld rPWR_NW 63 63 0,
      .upd (.nwSt .watch),
      when' (s.flag rPWR_NW 62) nwWake]
    else .nop

/-- NIGHT_WATCH_ENTERED (R414, R417). -/
def execNightWatchEntered (s : State) : Host.Outcome State Fault Refusal := .next (run nwEnteredA s)

/-- NIGHT_WATCH_LEFT: STATE reads ACTIVE, links ask for full rate; an ENTER written meanwhile takes effect. -/
def nwLeftA : Act :=
  .dyn fun s =>
    if s.nwSt = .leaving then seqs [
      setFld rPWR_NW 62 62 0,
      .upd (.nwSt .active),
      tellRates,
      pump,
      when' (s.flag rPWR_NW 63) nwBegin]
    else .nop


end Sys2Proof.Machine
end

