-- ==== Sys2Proof/Machine/Reset.lean ====
section
/-!
DEFINITION. What ends a run of the module: resets, the loss of a supply, the thermal cut-off, the loss of REFCLK
(R412, R413, R422, R494, R498, R499, R501).
-/

namespace Sys2Proof.Machine

/-- Order in which a reset cause applies (R499): the lower, the stronger. -/
def causeRank (c : Nat) : Nat :=
  match c with
  | 0 => 0
  | 4 => 1
  | 3 => 2
  | 1 => 3
  | _ => 4

/-- The always-on supply records an event of Table 12.3 for the next start. -/
def recordCause (c : Nat) : Act :=
  .dyn fun s => when' (decide (causeRank c < causeRank s.bootCause)) (.upd (.bootCause c))

/-- The module is reset: nothing volatile stays (R422), the start may begin. -/
def resetModule (cause : Nat) : Act := seqs [recordCause cause, .upd .wipe, .upd (.bootPhase .dark)]

/-- Every rail but the always-on supply is off; THERM_ALERT_N stays as the power controller drives it (R497). -/
def railsOff (cause : Nat) : Act :=
  .dyn fun s => seqs [recordCause cause, .upd .wipe, .upd (.bootPhase .off), .upd (.thermAlert s.thermAlert)]

/-- MOD_RESET (R498): cause 1. -/
def execModReset (s : State) : Host.Outcome State Fault Refusal := .next (run (resetModule 1) s)

/-- POWER_ON (R422): cause 0. -/
def execPowerOn (s : State) : Host.Outcome State Fault Refusal := .next (run (resetModule 0) s)

/-- BOOT_RESET is written: GO with KEY = 0xA5 resets the module, any other write is logged (R422). -/
def writeReset (v : Nat) : Act :=
  if bits 63 56 v = 0xA5 ∧ bit 0 v then resetModule 2 else incA blkBOOT 0xFF rBOOT_RESET

/-- SOFT_RESET (R422): cause 2. -/
def execSoftReset (v : Word) (s : State) : Host.Outcome State Fault Refusal :=
  .next (run (regDo (.softReset v) rBOOT_RESET v.toNat writeReset) s)

/-- VIN_LOSS (Table 11.5): the module shuts down; its next start has cause 3. -/
def execVinLoss (s : State) : Host.Outcome State Fault Refusal := .next (run (railsOff 3) s)

/-- VIN_RETURN (Table 11.5): the module may start again, as after MOD_RESET_N. -/
def execVinReturn (s : State) : Host.Outcome State Fault Refusal :=
  .next (run (whenS (fun s => decide (s.bootPhase = .off)) (resetModule 3)) s)

/-- THERMAL_CUTOFF (R412): the module stays dark until it is reset; its next start has cause 4. -/
def execThermalCutoff (s : State) : Host.Outcome State Fault Refusal :=
  .next (run (.seq (railsOff 4) (.upd (.thermAlert true))) s)

/-- AON_SUPPLY_LOST (R494): the recorded reset cause is lost too; the next start is a power-on. -/
def execAonSupplyLost (s : State) : Host.Outcome State Fault Refusal :=
  .next (run (.seq (railsOff 0) (.upd (.thermAlert false))) s)

/-- REFCLK_LOST after step 4: a failed internal state check (R501). -/
def execRefclkLost (s : State) : Host.Outcome State Fault Refusal :=
  .next (run (whenS (fun s => decide (s.bootPhase = .ready)) (haltLogged haltINTERNAL)) s)

end Sys2Proof.Machine
end

