-- ==== Sys2Proof/Machine/Sampler.lean ====
section
/-!
DEFINITION. The samplers: parameter sets, candidate records, penalties, truncation and the draw, and the commit of a
step's tokens (R264 to R276, R278, R281, R368).
-/

namespace Sys2Proof.Machine

/-! ### Candidate records (R265) -/

/-- Header fields of a record; the header is the payload of its first token. -/
def crREQ (p : Nat) : Nat := bits 31 0 p
def crPOSITION (p : Nat) : Nat := bits 63 32 p
def crLSE (p : Nat) : Nat := bits 95 64 p
def crCOUNT (p : Nat) : Nat := bits 111 96 p
def crNDRAFT (p : Nat) : Nat := bits 119 112 p
def crPENALISED (p : Nat) : Bool := p.testBit 120
def crDraft (p j : Nat) : Nat := bits (32 * j + 159) (32 * j + 128) p

/-- The header payload of a record. -/
def recHeader (rec : List Token) : Nat :=
  match rec with
  | [] => 0
  | t :: _ => t.payload.toNat

/-- The drafts that a record proposes. -/
def recDrafts (rec : List Token) : List Nat :=
  let p := recHeader rec
  (List.range (min 8 (crNDRAFT p))).map (crDraft p)

/-- The entries of a record: token id and FP32 value. -/
def recEntries (rec : List Token) : List (Nat × Nat) :=
  ((rec.drop 1).flatMap (fun t => (List.range 8).map (fun j =>
    (bits (64 * j + 31) (64 * j) t.payload.toNat, bits (64 * j + 63) (64 * j + 32) t.payload.toNat)))).take
      (crCOUNT (recHeader rec))

/-- Entry `x` may stand before entry `y`: a higher value, or an equal one with a lower id (R265). -/
def entryBefore (x y : Nat × Nat) : Bool :=
  f32Lt y.2 x.2 || (!f32Lt x.2 y.2 && !f32IsNan x.2 && !f32IsNan y.2 && decide (x.1 < y.1))

/-- The order of R265. -/
def entriesOrdered : List (Nat × Nat) → Bool
  | [] => true
  | [_] => true
  | x :: y :: t => entryBefore x y && entriesOrdered (y :: t)

/-- The checks of R266; a RESIDUE mismatch counts as POISON (R368). -/
def State.recordOk (s : State) (x : Req) (rec : List Token) : Bool :=
  let es := recEntries rec
  let p := recHeader rec
  decide (rec.length = 1 + cdiv (s.svcC x.svc) 8)
    && rec.all (fun t => !Tok.poison t && Tok.residueOk t)
    && decide (crCOUNT p = min (s.svcC x.svc) (s.svcVocab x.svc))
    && decide (x.due.head? = some (crPOSITION p))
    && es.all (fun (e : Nat × Nat) => decide (e.1 < s.svcVocab x.svc)) && noDup (es.map (fun (e : Nat × Nat) => e.1))
    && entriesOrdered es

/-! ### Penalties (R268, R272) -/

/-- The count of a token in a penalty list. -/
def penCount (l : List (Nat × Nat)) (tok : Nat) : Nat :=
  match l.find? (fun (e : Nat × Nat) => decide (e.1 = tok)) with
  | some e => e.2
  | none => 0

/-- A committed token updates the penalty list: the new list, and whether it was full (R272). -/
def penAdd (l : List (Nat × Nat)) (tok : Nat) : List (Nat × Nat) × Bool :=
  if l.any (fun (e : Nat × Nat) => decide (e.1 = tok)) then
    (l.map (fun (e : Nat × Nat) => if e.1 = tok then (tok, min 255 (e.2 + 1)) else e), false)
  else if l.length < 1024 then (insertBy (fun (e : Nat × Nat) => e.1) (tok, 1) l, false)
  else (l, true)

/-- The penalty list after tokens committed in order, and whether it was full for one of them. -/
def penAddAll (l : List (Nat × Nat)) (toks : List Nat) : List (Nat × Nat) × Bool :=
  toks.foldl (fun (acc : List (Nat × Nat) × Bool) t => let r := penAdd acc.1 t; (r.1, acc.2 || r.2)) (l, false)

/-- The penalties of a set. -/
structure PenSet where
  invT : Nat
  rep : Nat
  invRep : Nat
  presence : Nat
  freq : Nat
  deriving DecidableEq, Repr

/-- The adjusted value of a raw logit with count `c` (R268). -/
def penalise (k : PenSet) (z c : Nat) : Nat :=
  let scale := if f32Lt 0 k.invT then k.invT else f32One
  let a := f32Mul z scale
  if c = 0 then a
  else
    let b := if f32Lt 0 a then f32Mul a k.invRep else f32Mul a k.rep
    f32Sub (f32Sub b k.presence) (f32Mul k.freq (f32OfInt c))

/-- A number that falls as the FP32 value rises. -/
def f32Descend (x : Nat) : Nat :=
  let m := x % 2 ^ 31
  if x.testBit 31 then 2 ^ 31 + m else 2 ^ 31 - m

/-- Candidates by descending value, ties by the lower id (R268). -/
def sortCandidates (l : List (Nat × Nat)) : List (Nat × Nat) :=
  sortBy (fun (e : Nat × Nat) => f32Descend e.2 * 2 ^ 32 + e.1) l

/-! ### Truncation and the draw (R269 to R271) -/

/-- u of R271: exact in FP32. -/
def drawU (seed n : Nat) : Nat :=
  let r := (sha256 (leBytes 8 seed ++ leBytes 8 n)).take 4
  toF32 (.fin false ((r.foldl (fun (acc : Nat) b => acc * 256 + b.toNat) 0) / 256) (-24))

/-- Serial running sums in FP32. -/
def serialSums : Nat → List Nat → List Nat
  | _, [] => []
  | acc, x :: xs => let a := f32Add acc x; a :: serialSums a xs

/-- The last running sum, or zero. -/
def serialSum (xs : List Nat) : Nat := ((serialSums 0 xs).getLast?).getD 0

/-- How many of the leading sums are needed to reach `top`; all of them if none does. -/
def countTo (ge : Nat → Bool) : List Nat → Nat
  | [] => 0
  | x :: xs => if ge x then 1 else 1 + countTo ge xs

/-- The draw over sorted candidates (R270): the index drawn, with `u` of R271. -/
def drawIndex (cands : List (Nat × Nat)) (keff invT topP minP u : Nat) : Nat :=
  let kept := cands.take keff
  match kept with
  | [] => 0
  | c0 :: _ =>
    if invT % 2 ^ 31 = 0 then 0
    else
      let es := kept.map (fun (c : Nat × Nat) => sfuEval 0 (f32Sub c.2 c0.2))
      let r := sfuEval 2 (serialSum es)
      let ps := es.map (fun e => f32Mul e r)
      let n := countTo (fun x => !f32Lt x topP && !f32IsNan x) (serialSums 0 ps)
      let lim := f32Mul minP (lget 0 ps 0)
      let idx := (List.range (min n kept.length)).filter (fun i => decide (i = 0) || !f32Lt (lget 0 ps i) lim)
      let target := f32Mul u (serialSum (idx.map (lget 0 es)))
      let sums := serialSums 0 (idx.map (lget 0 es))
      match (idx.zip sums).find? (fun (q : Nat × Nat) => f32Lt target q.2) with
      | some q => q.1
      | none => (idx.getLast?).getD 0

/-- keff of R269. -/
def State.keff (s : State) (x : Req) : Nat :=
  if s.setInvT x.param % 2 ^ 31 = 0 then 1
  else if 0 < s.setTopK x.param then s.setTopK x.param
  else min 1024 (s.svcC x.svc)

/-- The penalties of request `x`. -/
def State.penSet (s : State) (x : Req) : PenSet :=
  { invT := s.setInvT x.param, rep := s.setRep x.param, invRep := s.setInvRep x.param,
    presence := s.setPresence x.param, freq := s.setFreq x.param }

/-- The penalty list that would hold had the tokens drawn in the step been committed (R275). -/
def State.penNow (s : State) (x : Req) : List (Nat × Nat) :=
  (penAddAll (s.penEntries x.penList x.penLen) (x.drawn.map (fun (d : Nat × Nat) => d.1))).1

/-- Each candidate with its adjusted value, and how many hold a count (R268, R269). -/
def State.adjusted (s : State) (x : Req) (rec : List Token) : List (Nat × Nat) × Nat :=
  let es := recEntries rec
  if crPENALISED (recHeader rec) then (es, 0)
  else
    let l := s.penNow x
    (es.map (fun (e : Nat × Nat) => (e.1, penalise (s.penSet x) e.2 (penCount l e.1))),
      (es.filter (fun (e : Nat × Nat) => decide (0 < penCount l e.1))).length)

/-- The list is sufficient (R269). -/
def State.sufficient (s : State) (x : Req) (rec : List Token) : Bool :=
  decide (s.svcVocab x.svc ≤ crCOUNT (recHeader rec))
    || decide (s.keff x + (s.adjusted x rec).2 ≤ crCOUNT (recHeader rec))

/-- The token drawn from a record and its LOGPROB (R264, R270). -/
def State.drawFrom (s : State) (x : Req) (rec : List Token) : Nat × Nat :=
  let cands := sortCandidates (s.adjusted x rec).1
  let p := recHeader rec
  let i := drawIndex cands (s.keff x) (s.setInvT x.param) (s.setTopP x.param) (s.setMinP x.param)
    (drawU x.seed (crPOSITION p))
  let c := lget (0, 0) cands i
  (c.1, f32Sub c.2 (crLSE p))

/-! ### Commit (R264, R272, R274, R275, R278) -/

/-- FLAGS of a token record (R264). -/
def recordFlags (eos final accepted widened : Bool) : Nat :=
  b2n eos + 2 * b2n final + 4 * b2n accepted + 8 * b2n widened + 2 ^ 15

/-- The 16 B token record of generated position `n`. -/
def tokenRecord (n tok logprob flags : Nat) : List Byte :=
  leBytes 4 n ++ leBytes 4 tok ++ leBytes 4 logprob ++ leBytes 2 flags ++ leBytes 2 0

/-- The step's tokens `toks` of request `i` are committed; `drafts` come with the last of them. -/
def commitTokens (i : Nat) (toks : List (Nat × Nat)) (drafts : List Nat) : Act :=
  .dyn fun s =>
    let x := s.req i
    let eos (t : Nat) : Bool := decide (t = s.svcEos x.svc)
    let n := x.committed + toks.length
    let allOver := decide (n = x.limit) || toks.any (fun (d : Nat × Nat) => eos d.1)
    let pen := penAddAll (s.penEntries x.penList x.penLen) (toks.map (fun (d : Nat × Nat) => d.1))
    seqs [
      each ((List.range toks.length).zip toks) (fun (q : Nat × Nat × Nat) =>
        let pos := x.committed + q.1
        writeBytes (x.out + 16 * (1 + pos - x.promptEnd)) (tokenRecord pos q.2.1 q.2.2
          (recordFlags (eos q.2.1) (allOver && decide (q.1 + 1 = toks.length)) (decide (x.drafts[q.1]? = some q.2.1)) x.widened))),
      writeBytes x.penList (pen.1.flatMap (fun (e : Nat × Nat) => leBytes 4 (e.1 * 256 + e.2))),
      modReq i (fun x => { x with
        committed := n, prov := 0, due := [], drawn := [], decided := true, proposed := drafts,
        penLen := pen.1.length, penFull := x.penFull || pen.2 }),
      when' allOver (drainReq i .done (if x.cancel then Status.okCancelLate.code else Status.ok.code))]

/-- The token `d` drawn at the head position of request `i` decides the step, or the next position is awaited (R275). -/
def takeDraw (i : Nat) (d : Nat × Nat) (rec : List Token) : Act :=
  .dyn fun s =>
    let x := s.req i
    let toks := x.drawn ++ [d]
    let more := decide (x.drafts[x.drawn.length]? = some d.1) && decide (d.1 ≠ s.svcEos x.svc)
    .seq (modReq i (fun x => { x with widened := crPENALISED (recHeader rec) }))
      (if more then modReq i (fun x => { x with drawn := toks, due := x.due.drop 1 })
       else commitTokens i toks (recDrafts rec))

/-- The step in which request `i` is served: its own first draw or the step of a decode load. -/
def State.stepOfReq (s : State) (i : Nat) : Option Nat :=
  if (s.req i).ph = .draw then some (drawKey i)
  else (List.range 16).find? (fun h => match s.srvStep h with
    | some t => t.reqs.contains i
    | none => false)

/-- The lowest-numbered enabled sampler that is free (R266). -/
def State.freeSampler (s : State) : Option Nat :=
  (List.range 4).find? (fun k => s.flag rSMP_EN k && decide ((s.smp k).st = .idle))

/-- A sampler evaluates a record of request `i`. -/
def evaluateRecord (i : Nat) (rec : List Token) (laneFault : Bool) : Act :=
  .dyn fun s =>
    let x := s.req i
    if !s.recordOk x rec then
      .seq (incident { cls := .B, blk := blkSMP, code := 2, status := Status.poisoned.code, tenant := some x.tenant })
        (faultReq i .poisoned)
    else if !s.sufficient x rec then
      .seq (addFld rSMP_STAT 63 32 1) (modReq i (fun x => { x with wide := true, drawn := [], due := [] }))
    else if laneFault then
      .seq (incident { cls := .B, blk := blkINT, code := 1, status := Status.residueMismatch.code, tenant := some x.tenant })
        (faultReq i .residueMismatch)
    else takeDraw i (s.drawFrom x rec) rec

/-- CANDIDATE_RECORD. -/
def candidateA (rec : List Token) (laneFault : Bool) : Act :=
  .dyn fun s =>
    let i := crREQ (recHeader rec)
    if s.freeSampler.isSome && !s.halted && s.inStep i && decide ((s.req i).due ≠ []) then
      .seq (evaluateRecord i rec laneFault) (withSome (s.stepOfReq i) advanceStep)
    else .nop

/-- CANDIDATE_RECORD (R265 to R276, R278, R368). -/
def execCandidateRecord (rec : List Token) (laneFault : Bool) (s : State) : Host.Outcome State Fault Refusal :=
  .next (run (candidateA rec laneFault) s)

/-! ### Enabling samplers (R281) -/

/-- Bit `k` of SMP_EN becomes 1. -/
def samplerOn (k : Nat) : Act :=
  .seq (setFld rSMP_EN k k 1) (modSmp k (fun x => { x with
    st := match x.st with
      | .off => .idle
      | .draining => .busy
      | st => st }))

/-- Bit `k` of SMP_EN becomes 0. -/
def samplerOff (k : Nat) : Act :=
  .seq (setFld rSMP_EN k k 0) (modSmp k (fun x => { x with
    st := match x.st with
      | .idle => .off
      | .busy => .draining
      | st => st }))

/-- Bit `k` of SMP_FORCE is written 1. -/
def samplerForceA (k : Nat) : Act :=
  .dyn fun s =>
    if (s.smp k).st = .draining then seqs [
      withSome (s.smp k).req (fun i => .seq (faultReq i .poisoned) (withSome (s.stepOfReq i) advanceStep)),
      setErr blkSMP 3,
      .upd (.smp k { st := .off })]
    else incA blkSMP 0xFF rSMP_FORCE

/-- SAMPLER_ENABLE (R281). -/
def execSamplerEnable (smp : Fin 4) (s : State) : Host.Outcome State Fault Refusal :=
  .next (run (bitDo (.samplerEnable smp) (samplerOn smp.val)) s)

/-- SAMPLER_DISABLE (R281). -/
def execSamplerDisable (smp : Fin 4) (s : State) : Host.Outcome State Fault Refusal :=
  .next (run (bitDo (.samplerDisable smp) (samplerOff smp.val)) s)

/-- SAMPLER_FORCE (R281). -/
def execSamplerForce (smp : Fin 4) (s : State) : Host.Outcome State Fault Refusal :=
  .next (run (bitDo (.samplerForce smp) (samplerForceA smp.val)) s)

/-! ### Parameter sets (R267) -/

/-- An FP32 value is finite and at least zero. -/
def f32NonNeg (x : Nat) : Bool :=
  match f32 x with
  | .fin neg m _ => !neg || decide (m = 0)
  | _ => false

/-- Set `k` meets R267. -/
def State.setMeets (s : State) (k : Nat) : Bool :=
  f32NonNeg (s.setInvT k)
    && f32NonNeg (s.setTopP k) && f32Lt 0 (s.setTopP k) && !f32Lt f32One (s.setTopP k)
    && f32NonNeg (s.setMinP k) && !f32Lt f32One (s.setMinP k)
    && f32NonNeg (s.setRep k) && !f32Lt (s.setRep k) f32One
    && f32NonNeg (s.setPresence k) && f32NonNeg (s.setFreq k)
    && decide (s.setTopK k ≤ 1024)

/-- A write of `v` to a parameter-set register at `off` of the selected set. -/
def writeParamSet (off v : Nat) : Act :=
  .dyn fun s =>
    let k := s.fld rSMP_SET_SEL 7 0
    if s.reqIds.any (fun i => decide ((s.req i).param = k)) then incA blkSMP 1 off
    else seqs [
      (if off = rSMP_SET_TEMP then setReg off v k
       else if off = rSMP_SET_PEN then setReg off (place 63 32 (bits 63 32 v) + place 31 0 (sfuEval 2 (bits 63 32 v))) k
       else if off = rSMP_SET_PF then setReg off v k
       else .seq (setFld off 63 32 (bits 63 32 v) k) (setFld off 10 0 (bits 10 0 v) k)),
      .dyn fun s => .seq (setFld rSMP_SET_K 31 31 (b2n (s.setMeets k)) k)
        (when' (!s.setMeets k) (incA blkSMP 0 off))]

/-- The registers of a parameter set. -/
def isParamReg (off : Nat) : Bool :=
  decide (off = rSMP_SET_TEMP) || decide (off = rSMP_SET_PEN) || decide (off = rSMP_SET_PF) || decide (off = rSMP_SET_K)

/-- PARAM_SET_WRITE (R267). -/
def execParamSetWrite (off : Nat) (v : Word) (s : State) : Host.Outcome State Fault Refusal :=
  .next (run (if isParamReg off then regDo (.paramSetWrite off v) off v.toNat (writeParamSet off) else .nop) s)

end Sys2Proof.Machine
end

