-- ==== Sys2Proof/Machine/Security.lean ====
section
/-!
DEFINITION. One-time-key reservations, attestation, tenant windows and link credentials (R449, R452 to R458, R462, R465).
-/

namespace Sys2Proof.Machine

/-! ### The attestation index region (R453) -/

def idxBase (k : Nat) : Nat := 0x50000 + 0x1000 * k

/-- The record of sector `k`: SEQ and TREE; none where its MAGIC, its length or its CRC does not hold. -/
def State.idxRecord (s : State) (k : Nat) : Option (Nat × Nat) :=
  let n := s.flashLe (idxBase k + 10) 2
  if s.flashLe (idxBase k) 4 = 0x5849564C ∧ n ≤ 4068
      ∧ s.flashLe (idxBase k + 0xFFC) 4 = crc32c (s.flashBytes (idxBase k) (12 + n)) then
    some (s.flashLe (idxBase k + 4) 4, s.flashLe (idxBase k + 8) 2)
  else none

/-- Sectors that hold a record: sector, SEQ, TREE. -/
def State.idxRecords (s : State) : List (Nat × Nat × Nat) :=
  (List.range 16).filterMap (fun k => (s.idxRecord k).map (fun r => (k, r)))

/-- The record with the highest SEQ. -/
def State.idxLatest (s : State) : Option (Nat × Nat × Nat) :=
  s.idxRecords.foldl (fun b (r : Nat × Nat × Nat) => match b with
    | some (q : Nat × Nat × Nat) => if q.2.1 < r.2.1 then some r else b
    | none => some r) none

/-- The tree that the next reservation claims. -/
def State.nextTree (s : State) : Nat := match s.idxLatest with
  | some r => r.2.2 + 1
  | none => 0

/-- A sector is erased. -/
def State.idxErased (s : State) (k : Nat) : Bool := (s.flashBytes (idxBase k) 0x1000).all (fun b => decide (b = 0xFF))

/-- Sectors that the reservation may still use, in ascending order from the one after the latest record, wrapping. -/
def State.idxSectors (s : State) : List Nat :=
  let from_ := match s.idxLatest with
    | some r => (List.range 15).map (fun i => (r.1 + 1 + i) % 16)
    | none => List.range 16
  from_.filter (fun k => !s.idxTried.contains k)

/-- The sector that is programmed next: the next erased one, or, with none, the next, which is erased first. -/
def State.idxSector (s : State) : Option Nat :=
  match s.idxSectors.find? s.idxErased with
  | some k => some k
  | none => s.idxSectors.head?

/-- Bytes of the record that claims tree `q`. -/
def idxBytes (seq q : Nat) : List Byte :=
  let n := min 4068 (Config.treeStateLen q)
  let b := leBytes 4 0x5849564C ++ leBytes 4 seq ++ leBytes 2 q ++ leBytes 2 n ++ (List.range n).map (Config.treeState q)
  b ++ List.replicate (0xFFC - b.length) 0xFF ++ leBytes 4 (crc32c b)

/-- The key has no index left: no further device signature (R454). -/
def exhaust : Act := seqs [setFld rSEC_IDX 25 25 1, setFld rSEC_IDX 24 24 0, setErr blkSEC 2]

/-- A reservation starts, unless one runs, or TREE would pass 32,767 (R454). -/
def startReserve : Act :=
  .dyn fun s =>
    if s.flag rSEC_IDX 25 ∨ s.flag rSEC_IDX 24 then .nop
    else if 32767 < s.nextTree then exhaust
    else .seq (setFld rSEC_IDX 24 24 1) (.upd (.idxTried []))

/-- The oldest record's sector is erased, so that an erased sector waits (R453). -/
def eraseOldest : Act :=
  .dyn fun s =>
    match s.idxRecords.foldl (fun b (r : Nat × Nat × Nat) => match b with
        | some (q : Nat × Nat × Nat) => if r.2.1 < q.2.1 then some r else b
        | none => some r) none, s.idxLatest with
    | some r, some q => when' (decide (r.1 ≠ q.1)) (eraseFlash (idxBase r.1) 0x1000)
    | _, _ => .nop

/-- One attempt of the reservation in progress: `slow` reports a sector that had to be erased first (R454). -/
def reserveTry (ok slow : Bool) : Act :=
  .dyn fun s =>
    match s.idxSector with
    | none => exhaust
    | some k =>
      let q := s.nextTree
      let seq := match s.idxLatest with
        | some r => r.2.1 + 1
        | none => 0
      .seq (when' (!s.idxErased k) (.seq (eraseFlash (idxBase k) 0x1000) (when' slow (setErr blkSEC 0))))
        (if ok then seqs [
            programFlash (idxBase k) (idxBytes seq q),
            setFld rSEC_IDX 63 48 q, setFld rSEC_IDX 36 26 0, setFld rSEC_IDX 24 24 0,
            addFld rSEC_IDX 15 0 1,
            .upd (.treeHeld true)]
          else seqs [
            spoilFlash (idxBase k) 0x1000,
            setErr blkSEC 1,
            .upd (.idxTried (s.idxTried ++ [k])),
            .dyn fun s' => when' (decide (s'.idxSectors = [])) exhaust])

/-! ### Reports (R455 to R458, Tables 13.2 and 13.3) -/

/-- One measurement entry (R456). -/
def entryBytes (kind index tenant aux : Nat) (hash : List Byte) : List Byte :=
  leBytes 1 kind ++ leBytes 1 index ++ leBytes 1 tenant ++ [0] ++ leBytes 4 aux ++ leBytes 8 0 ++ hash

/-- The live topology table in the 1,104 B layout of R429. -/
def State.topoBytes (s : State) : List Byte :=
  let ctl := setBits 31 0 (setBits 63 63 (s.reg rTOP_CTL).toNat 0) s.live.version
  let body := leBytes 48 0 ++ leBytes 8 s.live.self ++ leBytes 8 ctl
    ++ (List.range 32).flatMap (fun p => leBytes 8 (lget 0 s.live.ports p) ++ leBytes 8 (lget 0 s.live.ids p))
    ++ (List.range 64).flatMap (fun i => leBytes 8 (lget 0 s.live.cordons i))
  leBytes 4 0x5054564C ++ leBytes 2 (Config.topoHead 0 s.live.version) ++ leBytes 2 (Config.topoHead 1 s.live.version)
    ++ leBytes 4 (Config.topoHead 2 s.live.version) ++ leBytes 4 (crc32c body) ++ body

/-- Loads that a report lists, with their handles (R457). -/
def State.listedLoads (s : State) : List Nat :=
  (List.range 16).filter (fun h => decide ((s.load h).st ≠ .free) && decide ((s.load h).st ≠ .loading))

/-- The entry of a load. -/
def State.loadEntry (s : State) (h : Nat) : List Byte :=
  let l := s.load h
  let aux := l.bays % 65536 + b2n l.sliced * 2 ^ 16 + b2n l.image.signed * 2 ^ 17 + b2n l.repl.isSome * 2 ^ 18
  entryBytes 6 h l.tenant aux l.image.digest

/-- The measurement entries, sorted by KIND and INDEX (R456). -/
def State.measures (s : State) : List (List Byte) :=
  let m := s.slotManifest s.runSlot
  let dflt := s.flag rBOOT_STAT 48
  let trims := s.fld rBOOT_STAT 44 44
  ((mfEntries m).filter (fun r => isFirmware (enPart r))).map (fun r => entryBytes 1 (enPart r) 0 (enVersion r) (enHash r))
  ++ [entryBytes 2 0 0 (mfVersion m) (sha256 (m.take (mfHead m))),
      if dflt then entryBytes 3 0 0 0 (List.replicate 32 0) else entryBytes 3 s.cfgCopy 0 s.cfgSeq s.cfgHash,
      entryBytes 4 0 0 s.live.version (sha256 s.topoBytes),
      entryBytes 5 trims 0 0 (sha256 (s.flashBytes (trimBase trims) 65536))]
  ++ s.listedLoads.map s.loadEntry
  ++ ((List.range 8).filter (fun i => s.flag rSEC_KEY_CTL 63 i)).map (fun i =>
      entryBytes 7 i 0 (s.fld rSEC_KEY_CTL 31 0 i)
        ((List.range 4).flatMap (fun w => leBytes 8 (s.reg rSEC_KEY_WORD (4 * i + w)).toNat)))
  ++ ((List.range 2).filter (fun i => (s.cred i).valid)).map (fun i =>
      entryBytes 8 i 0 (s.cred i).id (sha256 ((s.cred i).key.flatMap (fun w => leBytes 8 (w.getD 0)))))

/-- FLAGS of a report. -/
def State.reportFlags (s : State) : Nat :=
  s.runSlot + 2 * s.fld rBOOT_STAT 50 50 + 4 * s.fld rBOOT_LOCK 0 0 + 8 * s.fld rBOOT_STAT 48 48
    + 16 * s.fld rBOOT_STAT 45 45 + 32 * s.fld rLNK_POLICY 63 63 + 64 * b2n s.halted

/-- A report over a nonce, before its signature block (Table 13.2). -/
def State.report (s : State) (nonce : List Byte) : List Byte :=
  let es := s.measures
  let v := s.slotVersion s.runSlot
  leBytes 4 0x5441564C ++ leBytes 2 1 ++ leBytes 2 es.length ++ leBytes 8 s.ident ++ nonce ++ leBytes 8 s.now
    ++ leBytes 2 v.2 ++ leBytes 2 s.journal.minSvn ++ leBytes 1 (s.fld rBOOT_STAT 55 52) ++ leBytes 1 s.reportFlags
    ++ leBytes 2 0 ++ leBytes 4 v.1 ++ leBytes 4 s.live.version ++ leBytes 4 5312 ++ leBytes 52 0 ++ es.flatten

/-- The signature block over a report with leaf `leaf` of tree `q` (R449, R451). -/
def State.signature (s : State) (msg : List Byte) (q leaf : Nat) : List Byte :=
  leBytes 4 0x4753564C ++ leBytes 4 60 ++ leBytes 4 5236 ++ leBytes 4 0 ++ s.devicePub
    ++ (List.range 5236).map (Config.deviceSig msg q leaf)

/-- The identity record: bytes 0x2008 to the end of CERT (R455). -/
def State.identityRecord (s : State) : List Byte := s.flashBytes 0x2008 (min 8192 (0x98 + s.certBytes))

/-! ### The engine (R455) -/

def attIDLE : Nat := 0
def attBUSY : Nat := 1
def attDONE : Nat := 2
def attFAILED : Nat := 3

/-- A request ends with its bytes. -/
def attDone (r : AttReq) (bs : List Byte) : Act :=
  if r.sideband then .seq (.upd (.attBuf bs)) (.upd (.attBufSt .done))
  else .dyn fun s =>
    let a := s.fld rSEC_ATT_ADDR 47 0
    seqs [writeBytes a bs, markBad a bs.length false, setFld rSEC_ATT_CTL 15 0 bs.length, setFld rSEC_ATT_CTL 63 63 0,
      setFld rSEC_ATT_CTL 61 60 attDONE, setFld rSEC_ATT_CTL 59 52 0]

/-- A request fails with a RESULT. -/
def attFail (r : AttReq) (result : Nat) : Act :=
  if r.sideband then .upd (.attBufSt .failed)
  else seqs [setFld rSEC_ATT_CTL 63 63 0, setFld rSEC_ATT_CTL 61 60 attFAILED, setFld rSEC_ATT_CTL 59 52 result]

/-- The buffer of SEC_ATT_ADDR may be used (R455). -/
def State.attAddrOk (s : State) : Bool :=
  let a := s.fld rSEC_ATT_ADDR 47 0
  decide (a % 64 = 0) && s.inRsv a 8192

/-- Serve one request for which nothing is missing. -/
def attServe (r : AttReq) : Act :=
  .dyn fun s =>
    if r.identity then attDone r s.identityRecord
    else
      let msg := s.report (if r.sideband then r.nonce else s.bytes (s.fld rSEC_ATT_ADDR 47 0) 32)
      let leaf := s.fld rSEC_IDX 36 26
      seqs [
        attDone r (msg ++ s.signature msg (s.fld rSEC_IDX 63 48) leaf),
        setFld rSEC_IDX 36 26 (leaf + 1),
        when' (decide (leaf + 1 = 1024)) startReserve]

/-- A report can be signed now. -/
def State.leafReady (s : State) : Bool :=
  s.treeHeld && decide (s.fld rSEC_IDX 36 26 < 1024) && !s.flag rSEC_IDX 24

/-- The request at the front is served, fails, or waits for a reservation (R454, R455); `result` is the RESULT of a
failure. -/
def attNext (result : Nat) : Act :=
  .dyn fun s => match s.attQ with
    | [] => .nop
    | r :: rest =>
      if !r.sideband && !s.attAddrOk then .seq (.upd (.attQ rest)) (attFail r 1)
      else if r.identity || s.leafReady then .seq (.upd (.attQ rest)) (attServe r)
      else .seq startReserve (whenS (fun s' => !s'.flag rSEC_IDX 24) (.seq (.upd (.attQ rest)) (attFail r result)))

/-- Every request that can be answered is answered, in order. -/
def attPump (result : Nat) : Act := .dyn fun s => each (List.range s.attQ.length) (fun _ => attNext result)

/-- GO is written 1 with a KIND. -/
def attGo (identity : Bool) : Act :=
  .dyn fun s =>
    if s.fld rSEC_ATT_CTL 61 60 = attBUSY then incA blkSEC 7
    else seqs [
      setFld rSEC_ATT_CTL 62 62 (b2n identity),
      setFld rSEC_ATT_CTL 63 63 1,
      setFld rSEC_ATT_CTL 61 60 attBUSY,
      .upd (.attQ (s.attQ ++ [{ identity := identity }])),
      attPump 2]

/-- ATTEST_REPORT (R455). -/
def execAttestReport (s : State) : Host.Outcome State Fault Refusal := .next (run (bitDo (.attestReport) (attGo false)) s)

/-- ATTEST_IDENTITY (R455). -/
def execAttestIdentity (s : State) : Host.Outcome State Fault Refusal := .next (run (bitDo (.attestIdentity) (attGo true)) s)

/-- RESERVATION_COMPLETE: the record was written and read back, or this sector failed and the next is tried (R454). -/
def reservationA (ok : Bool) : Act :=
  .dyn fun s =>
    if s.flag rSEC_IDX 24 then seqs [
      reserveTry ok false,
      when' (ok && decide (s.bootPhase = .ready)) eraseOldest,
      whenS (fun s' => !s'.flag rSEC_IDX 24) (attPump 3)]
    else .nop

/-- RESERVATION_COMPLETE (R452 to R454). -/
def execReservationComplete (ok : Bool) (s : State) : Host.Outcome State Fault Refusal := .next (run (reservationA ok) s)

/-! ### Windows (R462) -/

/-- SEC_WIN is written for the selected tenant, while it is OFF; a window beyond the reserved region ends at its end. -/
def writeWin (v : Nat) : Act :=
  .dyn fun s =>
    let t := s.fld rSEC_WIN_SEL 5 0
    let units := s.fld rT2C_CTL 63 56 * sizeGiB / unit64K
    let base := bits 51 32 v
    let size := bits 19 0 v
    when' (decide ((s.tenant t).st = .off)) (.seq
      (setReg rSEC_WIN (setBits 19 0 v (min size (units - base))) t)
      (when' (decide (units < base + size)) (incA blkSEC 0xFF rSEC_WIN)))

/-- SEC_WIN_WRITE (R462). -/
def execSecWinWrite (v : Word) (s : State) : Host.Outcome State Fault Refusal :=
  .next (run (regDo (.secWinWrite v) rSEC_WIN v.toNat writeWin) s)

/-! ### Credentials (R465) -/

/-- SEC_CRED_CTL is written: SLOT, WORD and USE are stored; CRED_ID is taken while VALID is 0; VALID needs the four key
words; clearing VALID clears the slot. -/
def writeCredCtl (v : Nat) : Act :=
  .dyn fun s =>
    let i := bits 61 61 v
    let c := s.cred i
    let id := if c.valid then c.id else bits 31 0 v
    .seq (setReg rSEC_CRED_CTL (place 62 62 (bits 62 62 v) + place 61 61 i + place 60 59 (bits 60 59 v)))
      (if bit 63 v then
        if c.valid then .nop
        else if c.key.all Option.isSome then .upd (.cred i { c with id := id, valid := true })
        else .seq (.upd (.cred i { c with id := id })) (incA blkSEC 6)
      else if c.valid then .upd (.cred i { id := c.id })
      else .upd (.cred i { c with id := id }))

/-- CRED_VALID_WRITE (R465, SEC_CRED_CTL). -/
def execCredValidWrite (v : Word) (s : State) : Host.Outcome State Fault Refusal :=
  .next (run (regDo (.credValidWrite v) rSEC_CRED_CTL v.toNat writeCredCtl) s)

/-- SEC_CRED_KEY is written: taken while VALID is 0; WORD then advances by one. -/
def writeCredKey (v : Nat) : Act :=
  .dyn fun s =>
    let i := s.fld rSEC_CRED_CTL 61 61
    let w := s.fld rSEC_CRED_CTL 60 59
    let c := s.cred i
    if c.valid then .nop
    else .seq (.upd (.cred i { c with key := lset c.key w (some v) })) (setFld rSEC_CRED_CTL 60 59 (w + 1))

/-- CRED_KEY_WRITE (R465, SEC_CRED_KEY). -/
def execCredKeyWrite (v : Word) (s : State) : Host.Outcome State Fault Refusal :=
  .next (run (regDo (.credKeyWrite v) rSEC_CRED_KEY v.toNat writeCredKey) s)

end Sys2Proof.Machine
end

