-- ==== Sys2Proof/Machine/Slices.lean ====
section
/-!
DEFINITION. Time-sliced bays, pre-emption, remote waits, and bay scan (R312 to R323).
-/

namespace Sys2Proof.Machine

/-! ### Slice sets (R312 to R316, R319) -/

/-- Bay mask of set `g`. -/
def State.sliceBays (s : State) (g : Nat) : Nat := s.fld rTEN_SLICE_CFG 15 0 g

/-- The slice length of tenant `t` in ns (R313). -/
def State.sliceNs (s : State) (t : Nat) : Nat := s.fld rTEN_CTL 54 38 t * 1000

/-- The sliced load of tenant `t`. -/
def State.slicedLoad (s : State) (t : Nat) : Option Nat :=
  (List.range 16).find? (fun h => decide ((s.load h).st ≠ .free) && (s.load h).sliced && decide ((s.load h).tenant = t))

/-- The load that holds the bays of set `g`. -/
def State.activeLoad (s : State) (g : Nat) : Option Nat :=
  if (s.slice g).st = .off ∨ (s.slice g).st = .idle then none
  else (s.slicedLoad (s.slice g).tenant).filter (fun h => decide ((s.load h).bays ≠ 0))

/-- Tenant `t` waits for set `g`: its sliced load is off the bays with a command dispatched or pre-empted (R316). -/
def State.waitsFor (s : State) (g t : Nat) : Bool :=
  match s.slicedLoad t with
  | some h => decide (s.setOf t = g) && decide ((s.load h).bays = 0) && !(s.load h).torn
      && ((s.load h).cmd.isSome || decide ((s.load h).waiting ≠ []))
  | none => false

/-- Tenants that wait for set `g`, in ascending order after the set's tenant, wrapping (R316). -/
def State.waiters (s : State) (g : Nat) : List Nat :=
  ((List.range 64).map (fun i => ((s.slice g).tenant + 1 + i) % 64)).filter (s.waitsFor g)

/-- The debt of a tenant falls by `n`. -/
def payDebt (t n : Nat) : Act := modTenant t (fun x => { x with debt := x.debt - n })

/-- Choose the next tenant among those waiting: one whose debt is larger than its slice is passed over, and its debt
falls by the slice (R319). -/
def chooseNext (f : Nat → Act) (none' : Act) : List Nat → Act
  | [] => none'
  | t :: ts => .dyn fun s =>
    if s.sliceNs t < (s.tenant t).debt then .seq (payDebt t (s.sliceNs t)) (chooseNext f none' ts)
    else f t

/-- A slice of tenant `t` starts, shorter by its debt (R319). -/
def startSlice (t : Nat) : Act := .dyn fun s => payDebt t (s.sliceNs t)

/-- The active load has no command. -/
def State.activeRests (s : State) (g : Nat) : Bool :=
  match s.activeLoad g with
  | some h => (s.load h).cmd.isNone
  | none => true

/-- SLICE_END: another tenant waits and the active one is to be pre-empted, at once where its load has no command;
otherwise the slice starts afresh. -/
def sliceEndA (g : Nat) : Act :=
  .dyn fun s =>
    if (s.slice g).st ≠ .active ∨ (s.slice g).pend.isSome ∨ s.stilled then .nop
    else chooseNext
      (fun t => .dyn fun s => modSlice g (fun x => { x with
        pend := some s.now, nextTen := t, st := if s.activeRests g then .switching else .active }))
      (startSlice (s.slice g).tenant) (s.waiters g)

/-- SLICE_END (R316, R319). -/
def execSliceEnd (set : Fin 4) (s : State) : Host.Outcome State Fault Refusal := .next (run (sliceEndA set.val) s)

/-- A bay mask satisfies R133 as one exhibit. -/
def maskPlaces (m : Nat) : Bool :=
  (List.range 17).any (fun n => (List.range 8).any (fun seam => (firstBays n seam 0).any (fun b => decide (bayRun b n = m))))

/-- The conditions of R312 on set `g` with bays `m`. -/
def State.sliceOk (s : State) (m : Nat) : Bool :=
  maskPlaces m && (bitsOn 16 m).all (fun b => decide ((s.bay b).st = .idle) && !s.slicedBays.testBit b)

/-- A write of `v` to TEN_SLICE_CFG of set `g`. -/
def writeSliceCfg (g v : Nat) : Act :=
  .dyn fun s =>
    if s.flag rTEN_SLICE_CFG 63 g then
      (if v.testBit 63 || (List.range 16).any (fun h => decide ((s.load h).st ≠ .free) && (s.load h).sliced
            && decide (s.setOf (s.load h).tenant = g)) then .nop
       else .seq (setReg rTEN_SLICE_CFG (bits 15 0 v) g) (.upd (.slice g {})))
    else if v.testBit 63 then
      (if s.sliceOk (bits 15 0 v) then .seq (setReg rTEN_SLICE_CFG v g) (.upd (.slice g { st := .idle }))
       else .seq (setReg rTEN_SLICE_CFG (bits 15 0 v) g) (incA blkTEN 5))
    else setReg rTEN_SLICE_CFG (bits 15 0 v) g

/-- SLICE_SET_ENABLE (R312, TEN_SLICE_CFG). -/
def execSliceSetEnable (set : Fin 4) (v : Word) (s : State) : Host.Outcome State Fault Refusal :=
  .next (run (regDo (.sliceSetEnable set v) rTEN_SLICE_CFG v.toNat (writeSliceCfg set.val)) s)

/-! ### Pre-emption (R317 to R319) -/

/-- Nanoseconds of the placard's SEG_CYC at CLK_REF: 40 ÷ (12 + code) ns a cycle. -/
def Load.segBound (l : Load) : Nat := plSegCyc l.image.placard * 40 / (12 + plClkRef l.image.placard)

/-- The pending pre-emption takes place: its delay is added to the debt, and the set switches (R319). -/
def takePreempt (g : Nat) (bound : Option Nat) : Act :=
  .dyn fun s =>
    let x := s.slice g
    let delay := s.now - x.pend.getD s.now
    seqs [
      modTenant x.tenant (fun y => { y with debt := sat 32 (y.debt + delay) }),
      when' (match bound with
        | some b => decide (b < delay)
        | none => false) (setErr blkTEN 2),
      modSlice g (fun x => { x with st := .switching })]

/-- The mark that the load has reached in bay `b`, its `i`-th: by the tiles of the bay's pacing A-cell (R138). -/
def State.markAt (s : State) (h i b : Nat) : Option (List Byte) :=
  (s.load h).image.marks.find? (fun r => decide (mkBay r = i) && decide (mkTileAt r = (s.acell (bayPacer b)).tiles))

/-- The marks that load `h` has reached, bay and record, if it stands at one in every bay. -/
def State.marksAt (s : State) (h : Nat) : Option (List (Nat × List Byte)) :=
  let bs := s.loadBays h
  let ms := ((List.range bs.length).zip bs).filterMap (fun (p : Nat × Nat) => (s.markAt h p.1 p.2).map (fun r => (p.2, r)))
  if ms.length = bs.length then some ms else none

/-- Every route-slot queue of the load is empty, and nothing is on a link (R317). -/
def State.queuesEmpty (s : State) (h : Nat) : Bool :=
  (keysIn s.fab.slots 32 (s.loadBays h)).all (fun k => match s.slot k with
      | some x => decide (x.q = []) && decide (x.spilled = [])
      | none => true)
    && (keysIn s.fab.wires 16 (s.loadBays h)).all (fun k => decide (8 < k % 16) || decide (s.wire k = []))

/-- Lines of the rings of S-cell `k` that `rings` names, in ring order. -/
def State.ringLines (s : State) (k rings : Nat) : List Nat :=
  (List.range 8).flatMap (fun e => match lget none (s.scell k).rings e with
    | some r => if rings.testBit e then (List.range r.size).map (fun i => r.base + i) else []
    | none => [])

/-- Live accumulator entries of an A-cell: those of its open chain's bank (R317). -/
def State.liveAccs (s : State) (k : Nat) : Nat :=
  match (s.acell k).acfg with
  | some w => if (s.acell k).chainOpen then
      (match tileShape (acTile w) with
        | some (m, n, _) => min 4096 (m * n)
        | none => 0)
    else 0
  | none => 0

/-- The format in which an A-cell passes its entries: PARTIAL, or FP32 for a 16-bit pair's runs (R75, R78). -/
def State.liveFmt (s : State) (k : Nat) : Nat :=
  match (s.acell k).acfg with
  | some w => if fmtIs16 (acFmtA w) then fFP32 else fPARTIAL
  | none => fPARTIAL

/-- Tokens of the live entries of an A-cell. -/
def State.liveTokens (s : State) (k : Nat) : Nat := cdiv (s.liveAccs k) (fmtPer (s.liveFmt k))

/-- Element `e` of an A-cell's live entries. -/
def State.liveElem (s : State) (k e : Nat) : Nat :=
  let key := accKey k (s.acell k).bank e
  if s.liveAccs k ≤ e then 0
  else if s.liveFmt k = fFP32 then s.run16At key
  else accToPartial (s.acc key)

/-- The A-cells that pass their entries to S-cell `k`: the one north of it, and in row 38 the one south of it too (R317). -/
def givers (k : Nat) : List Nat :=
  (if keyRow k = 0 then [] else [k - 32]) ++ (if keyRow k = 38 then [k + 32] else [])

/-- Bytes that S-cell `k` saves at mark `r`. -/
def State.saveLen (s : State) (k : Nat) (r : List Byte) : Nat :=
  64 * ((s.ringLines k (mkRings r)).length
    + (if mkAcc r then ((givers k).map s.liveTokens).sum else 0))

/-- The save copy of tenant `t`, if it is a writable T1 spread copy of the tenant over bays `m`, all rows (R318). -/
def State.saveCopy (s : State) (t m : Nat) : Option (Nat × Obj) :=
  let i := s.fld rTEN_SAVE 31 0 t
  match s.obj i with
  | some o => if o.tier = 1 ∧ o.bays = m ∧ o.rowLo = 0 ∧ o.rowHi = 39 ∧ o.writable ∧ o.owner = t then some (i, o) else none
  | none => none

/-- Bytes of S-cell `k`'s share of a save copy. -/
def Obj.shareOf (o : Obj) (k : Nat) : Nat := ((spreadPlace o.bays o.rowLo o.rowHi (keyVault k)).map o.share).getD 0

/-- Address of byte `y` of that share. -/
def Obj.shareAddr (o : Obj) (k y : Nat) : Nat := keyVault k * vaultBytes + o.addr + y

/-- S-cells of a bay in site order. -/
def bayScells (b : Nat) : List Nat := (baySites b).filter (fun k => !keyIsA k)

/-- Write 64 B to T1, with carried poison. -/
def saveLine (a v : Nat) (bad : Bool) : Act := .seq (writeLe a 64 v) (markBad a 64 bad)

/-- Save one S-cell at mark `r`: its live rings, then its A-cells' entries. -/
def saveScell (o : Obj) (r : List Byte) (k : Nat) : Act :=
  .dyn fun s =>
    let ls := s.ringLines k (mkRings r)
    let ts := if mkAcc r then (givers k).flatMap (fun a => (List.range (s.liveTokens a)).map (fun n =>
      let f := s.liveFmt a
      fmtPack f ((List.range (fmtPer f)).map (fun i => s.liveElem a (n * fmtPer f + i))))) else []
    .seq
      (each ((List.range ls.length).zip ls) (fun (p : Nat × Nat) =>
        let x := s.line (k * 8192 + p.2)
        saveLine (o.shareAddr k (64 * p.1)) x.data.toNat x.poison))
      (each ((List.range ts.length).zip ts) (fun (p : Nat × Nat) => saveLine (o.shareAddr k (64 * (ls.length + p.1))) p.2 false))

/-- Where the programs of load `h` stand: constant registers are not kept. -/
def State.savedOf (s : State) (h : Nat) : Saved :=
  { acells := (keysIn s.cell.acells 1 (s.loadBays h)).map (fun k =>
      (k, { s.acell k with consts := List.replicate 16 0, inj := none }))
    scells := (keysIn s.cell.scells 1 (s.loadBays h)).map (fun k => (k, s.scell k)) }

/-- The load stands at marks `ms` after slice end: every S-cell compares its save bytes with its share; then it saves, or
the command ends PREEMPTED (R317, R318). -/
def saveLoad (g h : Nat) (ms : List (Nat × List Byte)) : Act :=
  .dyn fun s =>
    let t := (s.load h).tenant
    match s.saveCopy t (s.sliceBays g) with
    | some (i, o) =>
      if ms.all (fun (p : Nat × List Byte) => (bayScells p.1).all (fun k => decide (s.saveLen k p.2 ≤ o.shareOf k))) then
        seqs [
          each ms (fun (p : Nat × List Byte) => each (bayScells p.1) (saveScell o p.2)),
          dirtyCopy i,
          modLoad h (fun l => { l with saved := some (s.savedOf h) })]
      else .seq (endWith h rankPREEMPT)
        (incident { cls := .B, blk := blkTEN, code := 4, status := Status.preempted.code, tenant := some t })
    | none => .seq (endWith h rankPREEMPT)
        (incident { cls := .B, blk := blkTEN, code := 4, status := Status.preempted.code, tenant := some t })

/-- PREEMPT_MARK: the active load has reached its pre-emption point. -/
def preemptMarkA (g : Nat) : Act :=
  .dyn fun s =>
    if (s.slice g).st ≠ .active ∨ (s.slice g).pend.isNone ∨ s.stilled then .nop
    else match s.activeLoad g with
      | none => takePreempt g none
      | some h =>
        if (s.load h).cmd.isNone then takePreempt g none
        else if s.flag rTEN_CTL 57 (s.slice g).tenant = false ∨ !(s.load h).started ∨ !s.queuesEmpty h then .nop
        else match s.marksAt h with
          | none => .nop
          | some ms => .seq (takePreempt g (some (s.load h).segBound)) (saveLoad g h ms)

/-- PREEMPT_MARK (R317 to R319). -/
def execPreemptMark (set : Fin 4) (s : State) : Host.Outcome State Fault Refusal := .next (run (preemptMarkA set.val) s)

/-! ### The switch (R317) -/

/-- The blocks of an image stand staged at its sites, at first bay `b`. -/
def stageImage (b : Nat) : List Nat → Act
  | [] => .nop
  | p :: ps => .seq (modSite (placedSite b p) (fun x => { x with staged := x.staged ++ [placedToken b p false] })) (stageImage b ps)

/-- Restore one S-cell from the save copy at mark `r`: its rings, then its A-cells' entries. -/
def restoreScell (o : Obj) (r : List Byte) (k : Nat) : Act :=
  .dyn fun s =>
    let ls := s.ringLines k (mkRings r)
    .seq
      (each ((List.range ls.length).zip ls) (fun (p : Nat × Nat) =>
        let a := o.shareAddr k (64 * p.1)
        .upd (.line (k * 8192 + p.2) { data := BitVec.ofNat 512 (leNat (s.bytes a 64)), poison := s.anyBad a 64 })))
      (when' (mkAcc r) (each (givers k) (fun a =>
        let before := if a < k then 0 else ((givers k).filter (fun x => decide (x < k))).map s.liveTokens |>.sum
        let f := s.liveFmt a
        each (List.range (s.liveAccs a)) (fun e =>
          let at' := o.shareAddr k (64 * (ls.length + before + e / fmtPer f))
          let v := fmtElem f (leNat (s.bytes at' 64)) (e % fmtPer f)
          let key := accKey a (s.acell a).bank e
          if f = fFP32 then .upd (.run16At key v) else .upd (.acc key (accFromPartial v))))))

/-- The incoming load resumes at its mark: its cells' places, then what the save copy holds. -/
def restoreLoad (g h : Nat) (v : Saved) : Act :=
  .dyn fun s => seqs [
    each v.acells (fun (p : Nat × ACell) => .upd (.acell p.1 p.2)),
    each v.scells (fun (p : Nat × SCell) => .upd (.scell p.1 p.2)),
    .dyn fun s' => withSome (s'.marksAt h) (fun ms => withSome (s'.saveCopy (s'.load h).tenant (s'.sliceBays g)) (fun (c : Nat × Obj) =>
      each ms (fun (p : Nat × List Byte) => each (bayScells p.1) (restoreScell c.2 p.2)))),
    modLoad h (fun l => { l with saved := none, st := if (s.load h).cmd.isSome then .running else l.st })]

/-- Every bay of set `g` is free for the incoming load: IDLE, or ALLOCATED to the outgoing one `out`. -/
def State.sliceFree (s : State) (g : Nat) (out : Option Nat) : Bool :=
  (bitsOn 16 (s.sliceBays g)).all (fun b => decide ((s.bay b).act = .none) &&
    (decide ((s.bay b).st = .idle) || (decide ((s.bay b).st = .allocated) && out.isSome && decide ((s.bay b).load = out))))

/-- Set `g` changes to tenant `t`: the outgoing load leaves the bays, which are cleared; the incoming one is placed and
resumes (R317). -/
def changeTenant (g t : Nat) : Act :=
  .dyn fun s =>
    let out := s.activeLoad g
    let m := s.sliceBays g
    if !s.sliceFree g out then .nop
    else withSome (s.slicedLoad t) fun h => seqs [
      withSome out (fun o => modLoad o (fun l => { l with bays := 0 })),
      each (bitsOn 16 m) (fun b => .seq (clearBay b) (.upd (.bay b { st := .allocated, load := some h, epoch := 0 }))),
      setFences,
      modLoad h (fun l => { l with bays := m }),
      stageImage (lowBay m) (s.load h).image.tokens,
      installLoad h 0,
      withSome (s.load h).saved (restoreLoad g h),
      startSlice t,
      modSlice g (fun x => { x with
        st := .active, tenant := t, pend := none, switches := if out.isSome then sat 48 (x.switches + 1) else x.switches })]

/-- TENANT_SWITCH: the save has ended, or the set is idle or its load at rest and another tenant waits. -/
def tenantSwitchA (g : Nat) : Act :=
  .dyn fun s =>
    let x := s.slice g
    if s.stilled then .nop
    else if x.st = .switching then
      (if s.waitsFor g x.nextTen then changeTenant g x.nextTen
       else chooseNext (changeTenant g) (modSlice g (fun x => { x with st := .active, pend := none })) (s.waiters g))
    else if x.st = .idle ∨ (x.st = .active ∧ s.activeRests g) then chooseNext (changeTenant g) .nop (s.waiters g)
    else .nop

/-- TENANT_SWITCH (R316, R317, R319). -/
def execTenantSwitch (set : Fin 4) (s : State) : Host.Outcome State Fault Refusal := .next (run (tenantSwitchA set.val) s)

/-- REMOTE_TIMEOUT: a wait on a gateway-fed stream of load `h` exceeds the placard's REMOTE_NS. -/
def remoteTimeoutA (h : Nat) : Act :=
  .dyn fun s =>
    if (s.load h).started && (remoteRecs (s.load h).image.recs).any (fun r => !rmOut r) && !s.stilled then
      .seq (incident { cls := .B, blk := blkTEN, code := 3, status := Status.remoteTimeout.code, tenant := some (s.load h).tenant })
        (endWith h rankREMOTE)
    else .nop

/-- REMOTE_TIMEOUT (R320). -/
def execRemoteTimeout (load : Fin 16) (s : State) : Host.Outcome State Fault Refusal :=
  .next (run (remoteTimeoutA load.val) s)

/-! ### Bay scan (R321 to R323) -/

/-- A scan request is refused. -/
def scanRefused : Act := incA blkTEN 1

/-- The scan of bay `b` may be taken now: IDLE, FAULTED, or ALLOCATED with its load READY (R321). -/
def State.scanReady (s : State) (b : Nat) : Bool :=
  let x := s.bay b
  decide (x.act = .none) && (decide (x.st = .idle) || decide (x.st = .faulted)
    || (decide (x.st = .allocated) && (match x.load with
      | some h => decide ((s.load h).st = .ready) && (s.load h).cmd.isNone
      | none => false)))

/-- The scan of bay `b` waits: for its load's command boundary, or for a condition check (R321, R387). -/
def State.scanLater (s : State) (b : Nat) : Bool :=
  let x := s.bay b
  decide (x.st = .testing) || (decide (x.st = .allocated) && decide (x.act = .none) && (match x.load with
      | some h => decide ((s.load h).st = .running)
      | none => false))

/-- A bay of an enabled slice set, not FAULTED, or a scan that is still to end. -/
def State.scanBarred (s : State) (b : Nat) : Bool :=
  (s.slicedBays.testBit b && decide ((s.bay b).st ≠ .faulted)) || decide (s.scanDir ≠ 0) || decide (s.scanWant ≠ [])

/-- TEN_SCAN_CTL.OUT is written for bay `b`. -/
def scanOutA (b : Nat) : Act :=
  .dyn fun s =>
    if s.scanBarred b then scanRefused
    else if s.scanReady b then seqs [setFld rTEN_SCAN_CTL 3 0 b, setFld rTEN_SCAN_CTL 63 63 1, startScan b 1]
    else if s.scanLater b then seqs [setFld rTEN_SCAN_CTL 3 0 b, setFld rTEN_SCAN_CTL 63 63 1, .upd (.scanWant [b])]
    else scanRefused

/-- SCAN_OUT (R321). -/
def execScanOut (bay : Fin 16) (s : State) : Host.Outcome State Fault Refusal := .next (run (bitDo (.scanOut bay) (scanOutA bay.val)) s)

/-- TEN_SCAN_CTL.IN is written for bay `b`: it is ALLOCATED to a READY load of a TEST tenant and holds the stored scan. -/
def scanInA (b : Nat) : Act :=
  .dyn fun s =>
    let test := match (s.bay b).load with
      | some h => s.flag rTEN_CTL 58 (s.load h).tenant
      | none => false
    if s.scanBarred b || decide ((s.bay b).st ≠ .allocated) || !s.scanReady b || !test || decide (s.scanBay ≠ some b) then scanRefused
    else seqs [setFld rTEN_SCAN_CTL 3 0 b, setFld rTEN_SCAN_CTL 62 62 1, startScan b 2]

/-- SCAN_IN (R323). -/
def execScanIn (bay : Fin 16) (s : State) : Host.Outcome State Fault Refusal := .next (run (bitDo (.scanIn bay) (scanInA bay.val)) s)

/-- A scan that waits is taken once its bay allows it. -/
def nextScan : Act :=
  .dyn fun s => each s.scanWant (fun b => whenS (fun s => decide (s.scanDir = 0) && s.scanReady b) (startScan b 1))

/-- SCAN_COMPLETE: the bay returns to its former state. -/
def scanCompleteA (b ns : Nat) : Act :=
  .dyn fun s =>
    if (s.bay b).st ≠ .scanning then .nop
    else seqs [
      modBay b (fun x => { x with st := x.ret }),
      .upd (.scanDir 0),
      setFld rTEN_SCAN_CTL 63 62 0,
      setFld rTEN_SCAN_STAT 31 0 ns,
      actOnBit b,
      nextScan]

/-- SCAN_COMPLETE (R321, R323). -/
def execScanComplete (bay : Fin 16) (ns : BitVec 32) (s : State) : Host.Outcome State Fault Refusal :=
  .next (run (scanCompleteA bay.val ns.toNat) s)

end Sys2Proof.Machine
end

