-- ==== Sys2Proof/Machine/Tenants.lean ====
section
/-!
DEFINITION. Tenants: enabling, disabling, FORCE, TEN_CTL, and the tenant reset (R307 to R309, R324).
-/

namespace Sys2Proof.Machine

/-! ### Enabling and disabling (R307, R324) -/

/-- TEN_CTL.EN = 1 for tenant `t`: from DRAINING its pairs return to service with it. -/
def tenantOnA (t : Nat) : Act :=
  .dyn fun s =>
    match (s.tenant t).st with
    | .off => .seq (modTenant t (fun x => { x with st := .enabled })) (setFld rTEN_CTL 63 63 1 t)
    | .draining => seqs [
        modTenant t (fun x => { x with st := .enabled }),
        setFld rTEN_CTL 63 63 1 t,
        each (tenantPairs t) (fun p => whenS (fun s => decide ((s.pair p).st = .draining) && s.flag rQUE_PAIR_CFG 63 p)
          (modPair p (fun x => { x with st := .running })))]
    | .enabled => .nop
    | .resetting => .nop

/-- TEN_CTL.EN = 0 for tenant `t`: its pairs drain with it. -/
def tenantOffA (t : Nat) : Act :=
  .dyn fun s =>
    if (s.tenant t).st = .enabled then seqs [
      setFld rTEN_CTL 63 63 0 t,
      modTenant t (fun x => { x with st := .draining }),
      each (tenantPairs t) (fun p => .seq
        (whenS (fun s => decide ((s.pair p).st = .running)) (modPair p (fun x => { x with st := .draining }))) (settlePair p)),
      settleTenant t]
    else .nop

/-- TEN_CTL.FORCE for tenant `t`: everything in flight is aborted. -/
def tenantForceA (t : Nat) : Act :=
  .dyn fun s =>
    if (s.tenant t).st = .draining then seqs [
      dropIntake t (fun _ => true),
      each (List.range 16) (fun h => whenS (fun s => decide ((s.load h).st ≠ .free) && decide ((s.load h).tenant = t)) (abortServing h)),
      each (s.tenantCmds t) abortCmd,
      .dyn fun s' => abortMoves (s'.moveIds.filter (fun m => match s'.move m with
        | some x => decide (x.tenant = t)
        | none => false)),
      settleScanner,
      settleTenant t]
    else incident { cls := .A, blk := blkTEN, code := 0, tenant := some t }

/-- TENANT_ENABLE (R307, R324). -/
def execTenantEnable (tenant : Fin 64) (s : State) : Host.Outcome State Fault Refusal :=
  .next (run (bitDo (.tenantEnable tenant) (tenantOnA tenant.val)) s)
/-- TENANT_DISABLE (R307, R324). -/
def execTenantDisable (tenant : Fin 64) (s : State) : Host.Outcome State Fault Refusal :=
  .next (run (bitDo (.tenantDisable tenant) (tenantOffA tenant.val)) s)
/-- TENANT_FORCE (R307, R324). -/
def execTenantForce (tenant : Fin 64) (s : State) : Host.Outcome State Fault Refusal :=
  .next (run (bitDo (.tenantForce tenant) (tenantForceA tenant.val)) s)

/-- The fields of TEN_CTL other than EN and FORCE, taken only while the tenant is OFF; SLICE_US is clamped. -/
def takeTenCtl (t v : Nat) : Act :=
  .dyn fun s =>
    if (s.tenant t).st ≠ .off then .nop
    else
      let us := bits 54 38 v
      let fit := max 50 (min 100000 us)
      .seq (setReg rTEN_CTL (setBits 54 38 (bits 61 0 v) fit) t)
        (when' (decide (fit ≠ us)) (incident { cls := .A, blk := blkTEN, tenant := some t, off := rTEN_CTL }))

/-- A write of `v` to TEN_CTL of tenant `t`: its fields, its EN, its FORCE. -/
def writeTenCtl (t v : Nat) : Act :=
  seqs [takeTenCtl t v, if v.testBit 63 then tenantOnA t else tenantOffA t, when' (v.testBit 62) (tenantForceA t)]

/-- TEN_CTL_WRITE (R307, R313, TEN_CTL). -/
def execTenCtlWrite (tenant : Fin 64) (v : Word) (s : State) : Host.Outcome State Fault Refusal :=
  .next (run (regDo (.tenCtlWrite tenant v) rTEN_CTL v.toNat (writeTenCtl tenant.val)) s)

/-! ### Tenant reset (R308) -/

/-- Step 1: the intake is discarded without completions; its pairs hold the slots no longer. -/
def resetIntake (t : Nat) : Act :=
  .dyn fun s => .seq (.upd (.intake t [])) (each (s.intake t) (fun e => modPair e.pair (fun x => { x with held := x.held - 1 })))

/-- Step 2 for load `h`: its command ends, those that wait are taken back, and it is released. -/
def resetLoad (h : Nat) : Act :=
  .dyn fun s =>
    let l := s.load h
    let ids := l.cmd.toList ++ l.waiting ++ l.loadCmd.toList ++ l.relCmd.toList ++ l.relForce.toList
      ++ ((l.repl.bind (fun r => r.cmd)).toList.filter (fun i => !l.waiting.contains i))
    seqs [
      streamReset h,
      clearLoadQueues h,
      modLoad h (fun l => { l with
        cmd := none, started := false, causes := 0, waiting := [], loadCmd := none, relCmd := none, relForce := none,
        saved := none }),
      each ids (fun id => withSome (s.cmd id) (fun c =>
        if c.pair.isSome then completeRefused id .tenantReset else .upd (.cmd id none))),
      when' (!l.torn) (releaseLoad h)]

/-- Step 4 for entry `i`: FREE without a completion; the CANCELs and the PARK that wait on it end in step 7. -/
def resetReq (i : Nat) : Act :=
  .dyn fun s =>
    let x := s.req i
    seqs [
      freeReqHoldings i,
      withSome x.cmd (fun id => withSome (s.cmd id) (fun c => .seq (.upd (.cmd id none))
        (withSome c.pair (fun p => modPair p (fun y => { y with held := y.held - 1 }))))),
      .upd (.req i {})]

/-- Steps 4 and 5: requests, prefixes, steps and services of tenant `t`. -/
def resetServing (t : Nat) : Act :=
  .dyn fun s => seqs [
    each (s.reqIds.filter (fun i => decide ((s.req i).tenant = t))) resetReq,
    each (tkeys s.srv.steps) (fun k => withSome (s.srvStep k) (fun x =>
      when' (decide (s.svcTenant x.svc = t)) (.upd (.srvStep k none)))),
    each (s.pfxIds.filter (fun p => decide ((s.pfx p).tenant = t))) (fun p =>
      .seq (modPfx p (fun y => { y with st := .releasing })) (settlePfx p)),
    each (List.range 64) (fun v => when' (s.svcOn v && decide (s.svcTenant v = t)) (svcOff v)),
    settleSrv]

/-- A command whose work runs on: a MOVE or a SNAPSHOT with a move in flight (R308 step 7). -/
def State.runsOn (s : State) (id : Nat) : Bool := decide (s.movesOf id ≠ [])

/-- Step 7 for command `id`: TENANT_RESET at once, or when its work ends; a SUBMIT or RESUME gets none. -/
def resetCmd (id : Nat) : Act :=
  .dyn fun s => withSome (s.cmd id) fun c =>
    let serve := if c.op = opcSERVE then leAt c.desc 0x10 1 else 0
    if serve = 1 ∨ serve = 4 then .seq (.upd (.cmd id none))
      (withSome c.pair (fun p => modPair p (fun y => { y with held := y.held - 1 })))
    else if s.runsOn id then .nop
    else completeRefused id .tenantReset

/-- TEN_RESET: tenant `t` is reset. -/
def tenantResetA (t : Nat) : Act :=
  .dyn fun s =>
    if (s.tenant t).st = .resetting then .nop
    else seqs [
      orReg rTEN_RESET (2 ^ t),
      modTenant t (fun x => { x with st := .resetting }),
      resetIntake t,
      .dyn fun s1 => each (s1.tenantCmds t) (fun id => modCmd id (fun c => c.map (fun c => { c with reset := true }))),
      each (List.range 16) (fun h => when' (decide ((s.load h).st ≠ .free) && decide ((s.load h).tenant = t)) (resetLoad h)),
      each (List.range 64) (fun q => when' (decide (s.iqTenant q = t)) (cancelIq q)),
      resetServing t,
      .dyn fun s2 => each (s2.tenantCmds t) resetCmd,
      when' (s.updOwned && decide (s.updOwner = t)) abortSession,
      settleScanner,
      settleTenant t]

/-- TENANT_RESET (R308, R309, R443). -/
def execTenantReset (tenant : Fin 64) (s : State) : Host.Outcome State Fault Refusal :=
  .next (run (bitDo (.tenantReset tenant) (tenantResetA tenant.val)) s)

end Sys2Proof.Machine
end

