-- ==== Sys2Proof/Machine/Views.lean ====
section
/-!
DEFINITION. What a read of a register returns (R12, R489): the selection in force, and the read-only fields that show the
state of a unit.
-/

namespace Sys2Proof.Machine

/-! ### Codes of states -/

/-- Bay states, Table 1.7. -/
def BayState.code : BayState → Nat
  | .off => 0 | .powering => 1 | .idle => 2 | .allocated => 3 | .switching => 4 | .draining => 5 | .testing => 6
  | .faulted => 7 | .scanning => 8

/-- Load states, Table 4.9. -/
def LoadState.code : LoadState → Nat
  | .free => 0 | .loading => 1 | .ready => 2 | .running => 3 | .replacing => 4 | .releasing => 5

/-- Itinerary queue states (DOC_IQ_STAT). -/
def IqState.code : IqState → Nat
  | .off => 0 | .running => 1 | .draining => 2 | .done => 3 | .stopped => 4

/-- States of a unit with EN and FORCE (R324). -/
def UnitState.code : UnitState → Nat
  | .off => 0 | .running => 1 | .draining => 2

/-- Tenant states (TEN_CTL). -/
def TenState.code : TenState → Nat
  | .off => 0 | .enabled => 1 | .draining => 2 | .resetting => 3

/-- Sampler states (SMP_STAT). -/
def SmpState.code : SmpState → Nat
  | .off => 0 | .idle => 1 | .busy => 2 | .draining => 3

/-- Port states, Table 9.9. -/
def PortState.code : PortState → Nat
  | .off => 0 | .training => 1 | .checking => 2 | .active => 3 | .lowRate => 4 | .quarantined => 5 | .failed => 6
  | .draining => 7

/-- Slice set states (TEN_SLICE_STAT). -/
def SliceState.code : SliceState → Nat
  | .off => 0 | .idle => 1 | .active => 2 | .switching => 3

/-- Results of condition checks (INT_CHK_STAT). -/
def ChkRes.code : ChkRes → Nat
  | .none => 0 | .waiting => 1 | .testing => 2 | .passed => 3 | .failed => 4 | .busy => 5 | .off => 6

/-- States of the update session (UPD_STAT). -/
def UpdState.code : UpdState → Nat
  | .idle => 0 | .staging => 1 | .verified => 2 | .armed => 3 | .pause => 4 | .trial => 5

/-- Night-watch states (PWR_NW). -/
def NwState.code : NwState → Nat
  | .active => 0 | .entering => 1 | .watch => 2 | .leaving => 3

/-! ### Selection (R489) -/

/-- The entry of a selected register that the selection in force names. -/
def State.selIdx (s : State) (off : Nat) : Nat :=
  let blk := off / 0x10000
  if off = rEXH_SPLIT_CTL ∨ off = rEXH_SPLIT_IMG then s.fld rEXH_SPLIT_SEL 1 0
  else if rDOC_IQ_CTL ≤ off ∧ off ≤ rDOC_IQ_BYTES then s.fld rDOC_IQ_SEL 5 0
  else if rARB_GRANTS ≤ off ∧ off ≤ rARB_WAIT_MAX then arbKey (s.fld rARB_SEL 24 16) (s.fld rARB_SEL 6 0)
  else if rSRV_SVC_CFG ≤ off ∧ off ≤ rSRV_SVC_STAT then s.fld rSRV_SVC_SEL 5 0
  else if isParamReg off then s.fld rSMP_SET_SEL 7 0
  else if rQUE_PAIR_CFG ≤ off ∧ off ≤ rQUE_PAIR_STAT then s.fld rQUE_PAIR_SEL 9 0
  else if off = rTEN_CTL ∨ off = rTEN_SAVE ∨ off = rTEN_STAT ∨ (rTEN_ACC_CYC ≤ off ∧ off ≤ rTEN_ACC_MJ) then s.fld rTEN_SEL 5 0
  else if off = rTEN_SLICE_CFG ∨ off = rTEN_SLICE_STAT then s.fld rTEN_SLICE_SEL 1 0
  else if rLNK_PORT_CTL ≤ off ∧ off ≤ rLNK_PORT_DROP then s.fld rLNK_SEL 4 0
  else if off = rTOP_PORT ∨ off = rTOP_PORT_ID then s.fld rTOP_SEL 4 0
  else if off = rTOP_CORDON then s.fld rTOP_SEL 13 8
  else if off = rSEC_KEY_WORD then 4 * s.fld rSEC_KEY_SEL 10 8 + s.fld rSEC_KEY_SEL 1 0
  else if off = rSEC_KEY_CTL ∨ off = rSEC_KEY_TEN then s.fld rSEC_KEY_SEL 10 8
  else if off = rSEC_WIN then s.fld rSEC_WIN_SEL 5 0
  else if off = rMON_EDGE then 32 * s.fld rMON_SEL 5 0 + s.fld rMON_SEL 20 16
  else if blk = blkMON ∧ rMON_CFG ≤ off ∧ off ≤ rMON_BIN then s.fld rMON_SEL 5 0
  else 0

/-- What a register stores for the selection in force. -/
def State.stored (s : State) (off : Nat) : Nat := (s.reg off (s.selIdx off)).toNat

/-! ### Views, block by block -/

/-- A mask of the numbers below `n` with a property. -/
def maskWhere (n : Nat) (p : Nat → Bool) : Nat := maskOf ((List.range n).filter p)

/-- Fields of `w` bits side by side, field `i` lowest first. -/
def packed (n w : Nat) (f : Nat → Nat) : Nat := (List.range n).foldl (fun a i => a + f i % 2 ^ w * 2 ^ (w * i)) 0

/-- FAB_ISL_STAT of island `i`. -/
def State.islStat (s : State) (i : Nat) : Nat :=
  if 640 ≤ i then 0
  else
    let x := s.island i
    let t := s.bayClk (islandBay i)
    place 63 32 (sat 32 (x.stall / 1000))
      + place 11 11 (b2n (s.thermLimited i))
      + place 10 10 (b2n (decide (x.limDroop < t) && decide (x.limDroop = x.lowLimit)))
      + place 9 9 (b2n (decide (x.limBrake < 36) && decide (x.limBrake = x.lowLimit)))
      + place 8 8 (b2n (decide (x.limCap < t) && decide (x.limCap = x.lowLimit)))
      + place 5 0 x.clk

/-- EXH_LOAD_STAT of load `h`. -/
def State.loadStat (s : State) (h : Nat) : Nat :=
  let l := s.load h
  let g := s.splitOf h
  place 63 48 l.bays + place 47 42 l.tenant + place 41 37 l.entry + place 36 35 l.image.kind
    + place 34 34 (b2n g.isSome) + place 33 32 (g.getD 0) + place 31 29 l.st.code

/-- EXH_SPLIT_STAT of group `g`. -/
def State.splitStat (s : State) (g : Nat) : Nat :=
  let x := s.split g
  let bs := s.groupBays g
  let moving := bs.any (fun b => match s.bayLoad b with
    | some h => decide ((s.load h).st = .replacing)
    | none => false)
  place 63 48 (maskOf (bs.filter (s.bayPrefills g)))
    + place 47 32 (maskOf (bs.filter (fun b => !s.bayPrefills g b && (s.bayLoad b).isSome)))
    + place 31 28 x.last + place 27 27 (b2n moving) + place 26 0 (sat 27 x.moves)

/-- FAB and EXH. -/
def State.viewFabric (s : State) (off : Nat) : Nat :=
  if off = rFAB_BAY_STATE then packed 16 4 (fun b => (s.bay b).st.code)
  else if off = rFAB_ISL_STAT then s.islStat (s.fld rFAB_ISL_SEL 9 0)
  else if off = rEXH_LOAD_STAT then s.loadStat (s.fld rEXH_LOAD_SEL 3 0)
  else if off = rEXH_BAY_EPOCH then packed 16 4 (fun b => (s.bay b).epoch)
  else if off = rEXH_SPLIT_STAT then s.splitStat (s.fld rEXH_SPLIT_SEL 1 0)
  else s.stored off

/-- T1, T2 and T3 are in self-refresh (R190). -/
def State.selfRefresh (s : State) : Bool := decide (s.nwSt = .watch) || decide (s.updSt = .pause)

/-- T1C, T2C and T3C. -/
def State.viewTiers (s : State) (off : Nat) : Nat :=
  let v := s.stored off
  let pool (p : Nat) : Nat := place 63 32 (s.poolFree p).2 + place 31 0 (s.poolFree p).1
  if off = rT1C_POOL then
    let fs := (List.range 1280).map s.vaultFree
    place 47 32 (s.poolFree 1).1 + place 31 16 (fs.foldl min 816) + place 15 0 (fs.foldl max 0)
  else if off = rT2C_CAPS then
    setBits 39 32 (setBits 47 40 (setBits 55 48 v s.stackGib) (if s.stackGib = 48 then 16 else 12))
      (if s.bootPhase = .ready ∧ s.t2On = false then 0 else if s.flag rT2C_CTL 49 then 0x40 else 0x50)
  else if off = rT2C_STAT then
    if s.t2On && s.selfRefresh then setBits 31 0 v (packed 8 4 (fun _ => 4)) else v
  else if off = rT2C_POOL then pool 2
  else if off = rT3C_POOL then pool 3
  else v

/-- DOC_IQ_STAT of queue `q`. -/
def State.iqStat (s : State) (q : Nat) : Nat :=
  let x := s.iq q
  place 63 61 x.st.code + place 55 48 x.lastStatus + place 47 32 (if s.iqListMode q then x.lastStep else 0)
    + place 31 16 x.next + place 6 0 x.fly.length

/-- DOC and ARB. -/
def State.viewDocents (s : State) (off : Nat) : Nat :=
  let v := s.stored off
  let a := s.fld rARB_SEL 24 16
  if off = rDOC_BUSY then maskWhere 64 s.docBusy
  else if off = rDOC_DRAIN then maskWhere 64 (fun d => decide (s.doc d = .draining))
  else if off = rDOC_IQ_STAT then s.iqStat (s.selIdx off)
  else if off = rDOC_IQ_BYTES then sat 64 (s.iq (s.selIdx off)).bytes
  else if off = rARB_GRANTS ∨ off = rARB_WAIT ∨ off = rARB_WAIT_MAX then
    if arbUser a || !arbHas a (s.fld rARB_SEL 6 0) then 0 else v
  else if off = rARB_OWNER then
    let x := s.arbiter a
    place 16 16 (b2n x.holder.isSome) + place 15 8 x.heirs.length + place 6 0 (x.holder.getD 0)
  else if off = rARB_CLOSE then setBits 3 2 v (2 * b2n (s.arbDrained 305) + b2n (s.arbDrained 304))
  else if off = rARB_CLOSE_TEN_STAT then
    b2n ([304, 305].all (fun x => match (s.arbiter x).holder with
      | some t => !s.flag rARB_CLOSE_TEN t
      | none => true))
  else v

/-- SRV and SMP. -/
def State.viewServing (s : State) (off : Nat) : Nat :=
  let v := s.stored off
  let used := s.reqIds.filter (fun i => decide ((s.req i).st ≠ .free))
  if off = rSRV_CTL then setBits 3 2 v s.srvSt.code
  else if off = rSRV_ADMIT_STAT then setBits 55 40 v used.length
  else if off = rSRV_SVC_STAT then
    let k := s.selIdx off
    place 63 49 (used.filter (fun i => decide ((s.req i).svc = k))).length + place 47 0 (sat 48 (s.aheadOf k / boundUnit))
  else if off = rSMP_STAT then setBits 7 0 v (packed 4 2 (fun k => (s.smp k).st.code))
  else v

/-- QUE and TEN. -/
def State.viewQueues (s : State) (off : Nat) : Nat :=
  let v := s.stored off
  let k := s.selIdx off
  if off = rQUE_CTL then setBits 61 60 v s.scanner.code
  else if off = rQUE_PAIR_CFG then setBits 61 60 v (s.pair k).st.code
  else if off = rQUE_PAIR_STAT then place 63 32 (s.pair k).held + place 15 0 (s.pair k).gapMax
  else if off = rQUE_SCAN_STAT then
    setBits 52 42 v ((List.range 1024).filter (fun p => s.flag rQUE_PAIR_CFG 63 p)).length
  else if off = rQUE_UCIE then setBits 59 56 (setBits 63 60 v s.ucieUp) s.ucieRep
  else if off = rTEN_CTL then setBits 61 60 v (s.tenant k).st.code
  else if off = rTEN_STAT then
    place 63 48 (maskWhere 16 (fun h => decide ((s.load h).st ≠ .free) && decide ((s.load h).tenant = k)))
      + place 47 32 (maskWhere 16 (fun i => decide ((s.pair (16 * k + i)).st ≠ .off)))
      + place 31 0 (sat 32 (s.tenant k).debt)
  else if off = rTEN_SLICE_STAT then
    let x := s.slice k
    place 63 62 x.st.code + place 61 56 x.tenant + place 47 0 (sat 48 x.switches)
  else if off = rTEN_SCAN_STAT then
    setBits 63 57 v (place 6 5 s.scanDir + place 4 4 (b2n s.scanBay.isSome) + place 3 0 (s.scanBay.getD 0))
  else v

/-- LNK and TOP. -/
def State.viewLinks (s : State) (off : Nat) : Nat :=
  let v := s.stored off
  let x := s.port (s.selIdx off)
  if off = rLNK_PORT_STAT then
    place 63 60 x.st.code + place 59 56 x.reason + place 55 48 x.version + place 47 47 (b2n x.enc)
      + place 46 46 (b2n x.phase) + place 39 32 (leAt x.far 4 1) + place 31 0 (leNat (byteSlice x.far 0 4).reverse)
  else if off = rLNK_PORT_FAR_ID then leAt x.far 8 8
  else if off = rTOP_STAT then place 63 32 s.live.version
  else if off = rTOP_TIME then s.now
  else if off = rTOP_TIME_STAT then
    let seen := match s.ppsAt with
      | some t => decide (s.now ≤ t + 1100000000)
      | none => false
    place 63 63 (b2n s.timeLocked) + place 62 62 (b2n s.holdover) + place 61 61 (b2n seen) + place 52 48 s.timeParent
      + place 31 0 (unsigned 32 (max (-2147483648) (min 2147483647 s.timeOffset)))
  else v

/-- INT. -/
def State.viewInt (s : State) (off : Nat) : Nat :=
  let v := s.stored off
  let up := decide (s.bootPhase = .ready)
  if off = rINT_STAT then
    place 63 63 (b2n s.halted) + place 55 48 s.haltCause
      + place 31 16 (maskWhere 16 (fun b => decide ((s.bay b).st = .faulted)))
      + place 2 2 (b2n (up && !s.t3On)) + place 1 1 (b2n (s.ucieOn && decide (s.ucieUp = 0))) + place 0 0 (b2n (up && !s.t2On))
  else if off = rINT_HOLD_CTL then setBits 62 62 v (b2n s.allHeld)
  else if off = rINT_CHK_STAT then packed 16 4 (fun b => (s.chk b).res.code)
  else v

/-- Bytes of an incident entry (Table 14.6). -/
def Incident.bytes (x : Incident) : List Byte :=
  leBytes 8 x.time ++ leBytes 4 x.seq ++ leBytes 1 (x.cls.num + 4 * b2n x.injected) ++ leBytes 1 x.blk
    ++ leBytes 1 x.code ++ leBytes 1 x.status ++ leBytes 1 (match x.tenant with
      | some t => 128 + t % 64
      | none => 0) ++ leBytes 1 0
    ++ leBytes 2 x.locus ++ leBytes 4 x.arg0 ++ leBytes 4 x.arg1 ++ leBytes 4 x.arg2

/-- LOG. -/
def State.viewLog (s : State) (off : Nat) : Nat :=
  let v := s.stored off
  if off = rLOG_STAT then
    let head := s.fld rLOG_HEAD 31 0
    place 63 32 s.logWr
      + place 31 31 (b2n (s.flag rLOG_CTL 63 && decide (4096 ≤ (s.logWr + 2 ^ 32 - head) % 2 ^ 32)))
      + place 30 30 (bits 30 30 v) + place 15 0 s.logLost
  else if off = rLOG_RD_SEL then setBits 63 63 v (b2n s.logLatch.isSome)
  else if off = rLOG_RD then match s.logLatch with
    | some x => leAt x.bytes (8 * s.fld rLOG_RD_SEL 33 32) 8
    | none => 0
  else v

/-- PWR and UPD. -/
def State.viewPower (s : State) (off : Nat) : Nat :=
  let v := s.stored off
  let slot (t : Nat) : Nat :=
    let x := s.slotVersion t
    let held := (decide (s.updSt = .verified) || decide (s.updSt = .armed)) && decide (t = s.updTarget)
    place 63 60 (if held then stVERIFIED else s.journal.slot t) + place 47 32 x.2 + place 31 0 x.1
  if off = rPWR_MODEL then place 63 48 pFix + place 47 32 pDoc + place 15 0 (pFab (s.fld rPWR_MODEL_SEL 5 0))
  else if off = rPWR_THERM then
    setBits 0 0 (setBits 21 12 v ((List.range 640).filter s.thermLimited).length) (b2n s.thermAlert)
  else if off = rPWR_NW then setBits 61 60 v s.nwSt.code
  else if off = rUPD_STAT then setBits 63 60 v s.updSt.code
  else if off = rUPD_SLOT_A then slot 0
  else if off = rUPD_SLOT_B then slot 1
  else if off = rUPD_MIN_SVN then s.journal.minSvn
  else v

/-- SEC and MON. -/
def State.viewCare (s : State) (off : Nat) : Nat :=
  let v := s.stored off
  let c := s.census (s.selIdx off)
  if off = rSEC_ID then s.ident
  else if off = rSEC_CRED_CTL then
    let i := s.fld rSEC_CRED_CTL 61 61
    setBits 63 63 v (b2n (s.cred i).valid)
      + place 47 32 ((List.range 32).filter (fun p => (s.port p).enc && decide ((s.port p).slot = i))).length
      + place 31 0 (s.cred i).id
  else if off = rMON_CTL then setBits 60 60 v (b2n c.copied) + place 31 0 (sat 32 c.copy.missed)
  else if off = rMON_RANGE then place 63 32 c.copy.max + place 31 0 c.copy.min
  else if off = rMON_COUNT then sat 64 c.copy.count
  else if off = rMON_SUM then sat 64 c.copy.sum
  else if off = rMON_BIN then lget 0 c.copy.bins (s.fld rMON_SEL 20 16)
  else v

/-- The value that a read of the register at `off` returns. -/
def State.regView (s : State) (off : Nat) : Nat :=
  let blk := off / 0x10000
  if off = rGLB_ID then setBits 23 16 (s.stored off) s.stackGib
  else if blk = blkFAB ∨ blk = blkEXH then s.viewFabric off
  else if off = rACL_SFU_COEF then
    sfuTable (s.fld rACL_SFU_SEL 15 13) (s.fld rACL_SFU_SEL 9 3) (s.fld rACL_SFU_SEL 2 0)
  else if blk = blkT1C ∨ blk = blkT2C ∨ blk = blkT3C then s.viewTiers off
  else if blk = blkDOC ∨ blk = blkARB then s.viewDocents off
  else if blk = blkSRV ∨ blk = blkSMP then s.viewServing off
  else if blk = blkQUE ∨ blk = blkTEN then s.viewQueues off
  else if blk = blkLNK ∨ blk = blkTOP then s.viewLinks off
  else if blk = blkINT then s.viewInt off
  else if blk = blkLOG then s.viewLog off
  else if blk = blkPWR ∨ blk = blkUPD then s.viewPower off
  else if blk = blkSEC ∨ blk = blkMON then s.viewCare off
  else s.stored off

end Sys2Proof.Machine
end

