-- ==== Sys2Proof/Machine/Census.lean ====
section
/-!
DEFINITION. The census units (R476 to R480) and the incident log (R481 to R485).
-/

namespace Sys2Proof.Machine

/-! ### Samples (R477) -/

/-- The bin of a value under the 31 edges of a unit. -/
def binOf (edges : List Nat) (v : Nat) : Nat := (edges.takeWhile (fun e => decide (e ≤ v))).length

/-- The live values after one more sample `v`. -/
def CensusVals.add (c : CensusVals) (edges : List Nat) (v : Nat) : CensusVals :=
  { c with
    min := Nat.min c.min v, max := Nat.max c.max v, count := sat 64 (c.count + 1), sum := sat 64 (c.sum + v),
    bins := lset c.bins (binOf edges v) (sat 32 (lget 0 c.bins (binOf edges v) + 1)) }

/-- EDGE0 to EDGE30 of a unit. -/
def State.edges (s : State) (u : Nat) : List Nat := (List.range 31).map (fun k => s.fld rMON_EDGE 31 0 (32 * u + k))

def State.monClass (s : State) (u : Nat) : Nat := s.fld rMON_CFG 63 60 u
def State.monIndex (s : State) (u : Nat) : Nat := s.fld rMON_CFG 59 50 u

/-- The unit's class takes one sample per event (Table 14.5). -/
def State.monEvents (s : State) (u : Nat) : Bool := decide (s.monClass u ≤ 3 ∨ s.monClass u = 10 ∨ s.monClass u = 11)

/-- The unit takes events of tenant `t` (TEN_FILTER, R476). -/
def State.monTakes (s : State) (u t : Nat) : Bool :=
  !s.flag rMON_CFG 49 u || decide (s.fld rMON_CFG 48 43 u = t) || decide (s.monClass u = 11)

/-- The value that a level class observes now; `meter` is the reading where only the environment has it: a bay's energy
meter, a sensor not read yet. -/
def State.monLevel (s : State) (u meter : Nat) : Nat :=
  let i := s.monIndex u
  match s.monClass u with
  | 4 => (s.intake i).length
  | 5 => (s.pair i).held
  | 6 => (s.island i).clk
  | 7 => (s.temp i).getD meter
  | 8 => s.fld rPWR_IN 31 16
  | _ => meter

/-- One raw value enters the live values. -/
def takeSample (u raw : Nat) : Act :=
  .dyn fun s =>
    let v := min (raw >>> s.fld rMON_CFG 42 38 u) 0xFFFFFFFF
    modCensus u (fun c => { c with live := c.live.add (s.edges u) v })

/-- CENSUS_EVENT: an event enters the unit's intake of 16, or is missed (R478). -/
def censusEventA (u raw t : Nat) : Act :=
  .dyn fun s =>
    if s.flag rMON_CTL 63 u ∧ s.monEvents u ∧ s.monTakes u t then
      if (s.census u).intake.length < 16 then modCensus u (fun c => { c with intake := c.intake ++ [raw] })
      else modCensus u (fun c => { c with live := { c.live with missed := sat 32 (c.live.missed + 1) } })
    else .nop

/-- CENSUS_EVENT (R476, R478). -/
def execCensusEvent (unit : Fin 64) (raw : Nat) (tenant : Fin 64) (s : State) : Host.Outcome State Fault Refusal :=
  .next (run (censusEventA unit.val raw tenant.val) s)

/-- CENSUS_SAMPLE: the oldest event of the intake, or the level at the end of a period. -/
def censusSampleA (u level : Nat) : Act :=
  .dyn fun s =>
    if !s.flag rMON_CTL 63 u then .nop
    else if s.monEvents u then
      match (s.census u).intake with
      | r :: rest => .seq (modCensus u (fun c => { c with intake := rest })) (takeSample u r)
      | [] => .nop
    else takeSample u (s.monLevel u level)

/-- CENSUS_SAMPLE (R477). -/
def execCensusSample (unit : Fin 64) (level : Nat) (s : State) : Host.Outcome State Fault Refusal :=
  .next (run (censusSampleA unit.val level) s)

/-! ### Control (R476, R477, R479, R480) -/

/-- No edge is smaller than the edge before it. -/
def edgesRise : List Nat → Bool
  | a :: b :: rest => decide (a ≤ b) && edgesRise (b :: rest)
  | _ => true

/-- EN is written: 1 is refused with edges out of order or a reserved class, 0 turns the unit off at once. -/
def censusEn (u : Nat) (en : Bool) : Act :=
  .dyn fun s =>
    if en then
      if s.flag rMON_CTL 63 u then .nop
      else if 12 ≤ s.monClass u ∨ edgesRise (s.edges u) = false then incA blkMON 0
      else setFld rMON_CTL 63 63 1 u
    else .seq (setFld rMON_CTL 63 63 0 u) (modCensus u (fun c => { c with intake := [] }))

/-- SNAP: the live values are copied. -/
def censusSnapA (u : Nat) : Act := modCensus u (fun c => { c with copy := c.live, copied := true })

/-- CLEAR: the live values are reset. -/
def censusClearA (u : Nat) : Act := modCensus u (fun c => { c with live := {} })

/-- A write to MON_CTL of the selected unit: EN; SNAP before CLEAR. -/
def writeMonCtl (v : Nat) : Act :=
  .dyn fun s =>
    let u := s.fld rMON_SEL 5 0
    seqs [censusEn u (bit 63 v), when' (bit 62 v) (censusSnapA u), when' (bit 61 v) (censusClearA u)]

/-- CENSUS_ENABLE (R476, R477, R480). -/
def execCensusEnable (unit : Fin 64) (en : Bool) (s : State) : Host.Outcome State Fault Refusal :=
  .next (run (bitDo (.censusEnable unit en) (censusEn unit.val en)) s)

/-- CENSUS_SNAP (R479). -/
def execCensusSnap (unit : Fin 64) (s : State) : Host.Outcome State Fault Refusal :=
  .next (run (bitDo (.censusSnap unit) (censusSnapA unit.val)) s)

/-- CENSUS_CLEAR (R479). -/
def execCensusClear (unit : Fin 64) (s : State) : Host.Outcome State Fault Refusal :=
  .next (run (bitDo (.censusClear unit) (censusClearA unit.val)) s)

/-! ### The incident log (R482 to R485) -/

/-- How far SEQ `a` lies beyond SEQ `b`, modulo 2^32. -/
def seqAhead (a b : Nat) : Nat := (a + 2 ^ 32 - b % 2 ^ 32) % 2 ^ 32

/-- LOG_DRAIN: the oldest waiting incident enters its slot, under the mode in force when it was logged (R483). -/
def logDrainA : Act :=
  .dyn fun s => match s.logIntake with
    | [] => .nop
    | x :: rest =>
      let ahead := seqAhead x.seq (s.fld rLOG_HEAD 31 0)
      .seq (.upd (.logIntake rest))
        (if x.stop && decide (4096 ≤ ahead) then .upd (.logLost (sat 16 (s.logLost + 1)))
         else .seq (.upd (.logSlot (x.seq % 4096) (some x)))
          (when' (!x.stop && decide (4096 ≤ ahead)) (setFld rLOG_HEAD 31 0 (seqAhead x.seq 4095))))

/-- LOG_DRAIN (R482, R483). -/
def execLogDrain (s : State) : Host.Outcome State Fault Refusal := .next (run logDrainA s)

/-- HEAD is advanced by the control die or, with `side`, by the sideband: taken from the owner, between HEAD and WR
(R484). -/
def advanceHead (side : Bool) (h : Nat) : Act :=
  .dyn fun s =>
    let head := s.fld rLOG_HEAD 31 0
    if s.flag rLOG_CTL 62 = side ∧ seqAhead h head ≤ seqAhead s.logWr head then setFld rLOG_HEAD 31 0 h
    else .seq (orReg rLOG_STAT (1 <<< 30)) (incA blkLOG 0xFF rLOG_HEAD)

/-- LOG_HEAD_WRITE (R484). -/
def execLogHeadWrite (v : Word) (s : State) : Host.Outcome State Fault Refusal :=
  .next (run (regDo (.logHeadWrite v) rLOG_HEAD v.toNat (fun w => advanceHead false (bits 31 0 w))) s)

/-- The entry with a SEQ, if its slot holds it (R483). -/
def State.heldEntry (s : State) (n : Nat) : Option Incident := (s.logSlot (n % 4096)).filter (fun x => decide (x.seq = n))

/-- A write to LOG_RD_SEL: another WORD of the same SEQ only selects, every other write latches. -/
def writeRdSel (v : Nat) : Act :=
  .dyn fun s =>
    let seq := bits 31 0 v
    let only := decide (seq = s.fld rLOG_RD_SEL 31 0) && decide (bits 33 32 v ≠ s.fld rLOG_RD_SEL 33 32)
    .seq (setReg rLOG_RD_SEL (bits 33 0 v)) (when' (!only) (.upd (.logLatch (s.heldEntry seq))))

/-- LOG_RD_SEL_WRITE (R483). -/
def execLogRdSelWrite (v : Word) (s : State) : Host.Outcome State Fault Refusal :=
  .next (run (regDo (.logRdSelWrite v) rLOG_RD_SEL v.toNat writeRdSel) s)

/-- IBI_HOLDOFF_END: 100 µs after an IBI; incidents held back raise one IBI with the highest class (R485). -/
def ibiHoldoffEndA : Act :=
  .dyn fun s => match s.ibiWait with
    | some c => seqs [.upd (.ibis (s.ibis ++ [c])), .upd (.ibiWait none)]
    | none => .upd (.ibiHold false)

/-- IBI_HOLDOFF_END (R485). -/
def execIbiHoldoffEnd (s : State) : Host.Outcome State Fault Refusal := .next (run ibiHoldoffEndA s)

end Sys2Proof.Machine
end

