-- ==== Sys2Proof/Machine/Tiers.lean ====
section
/-!
DEFINITION. Upkeep of the memory tiers: refresh and calibration windows, patrol scrub, and the reserved region
(R177, R182, R187 to R190, R210).
-/

namespace Sys2Proof.Machine

/-- REFRESH_WINDOW: a refresh takes time at its vault or bank and changes nothing that the spec shows (R188). -/
def execRefreshWindow (_tier : Tier) (_unit : Nat) (s : State) : Host.Outcome State Fault Refusal := .next (run .nop s)

/-- Key of a T2 stack or a T3 channel in the record of calibration windows. -/
def calKey (tier : Tier) (unit : Nat) : Option Nat :=
  match tier with
  | .t1 => none
  | .t2 => if unit < 8 then some unit else none
  | .t3 => some (16 + unit)

/-- The unit shows late calibration, or is inside its limits again (R189; assumption log 57). -/
def showLate (tier : Tier) (unit : Nat) (late : Bool) : Act :=
  match tier with
  | .t1 => .nop
  | .t2 => setFld rT2C_STAT (32 + unit) (32 + unit) (b2n late)
  | .t3 => setFld rT3C_STAT unit unit (b2n !late)

/-- CALIBRATION_WINDOW: the eighth unfinished window in a row shows late calibration, with a class A incident (R189). -/
def calWindowA (tier : Tier) (unit : Nat) (finished : Bool) : Act :=
  .dyn fun s => withSome (calKey tier unit) (fun k =>
    let on := match tier with
      | .t3 => s.t3On
      | _ => s.t2On
    let blk := match tier with
      | .t3 => blkT3C
      | _ => blkT2C
    if !on then .nop
    else if finished then
      .seq (when' (decide (8 ≤ s.calMiss k)) (showLate tier unit false)) (.upd (.calMiss k 0))
    else seqs [
      modCalMiss k (fun n => min 8 (n + 1)),
      when' (decide (s.calMiss k = 7)) (.seq (showLate tier unit true)
        (incident { cls := .A, blk := blk, code := 4, locus := unit }))])

/-- CALIBRATION_WINDOW (R189). -/
def execCalibrationWindow (tier : Tier) (unit : Fin 16) (finished : Bool) (s : State) :
    Host.Outcome State Fault Refusal := .next (run (calWindowA tier unit.val finished) s)

/-- The tiers are out of self-refresh: patrol scrub may read (R190, R377). -/
def State.scrubs (s : State) : Bool := decide (s.nwSt = .active) && decide (s.updSt ≠ .pause) && !s.halted

/-- One scrub read of `n` bytes at `a`: a corrected error is counted and written back, a fresh uncorrectable one becomes
carried poison; carried poison is not an error again (R177, R178). -/
def scrubRead (tier : Tier) (agent a n : Nat) (found : Found) : Act :=
  .dyn fun s =>
    if s.anyBad a n then .nop
    else match found with
      | .clean => .nop
      | .corrected => tierCorrected tier a
      | .uncorrectable => .seq (tierUncorrectable tier agent a true) (markBad a n true)

/-- T1_SCRUB: one beat of a vault or edge strip (T1C_SCRUB). -/
def t1ScrubA (addr : Nat) (found : Found) : Act :=
  .dyn fun s =>
    let a := addr / 32 * 32
    if s.scrubs && s.flag rT1C_SCRUB 16 && decide (s.region a = .t1) then scrubRead .t1 agT1Scrub a 32 found else .nop

/-- T1_SCRUB (R177). -/
def execT1Scrub (addr : Nat) (found : Found) (s : State) : Host.Outcome State Fault Refusal :=
  .next (run (t1ScrubA addr found) s)

/-- The 64 B at `a` hold a descriptor of the object table. -/
def State.inObjects (s : State) (a : Nat) : Bool :=
  decide (s.objBase ≤ a) && decide (a < s.objBase + 64 * s.objCount)

/-- An uncorrectable error in the object table halts the module (R376). -/
def objectsFault (agent a : Nat) : Act :=
  seqs [
    tierRecord .t2 agent a true,
    incident { cls := .C, blk := blkT2C, code := if agent = agScrub then 2 else 1, locus := tierLocus .t2 a },
    markBad a 64 true,
    haltModule haltOBJECTS]

/-- TIER_SCRUB: 64 B of T2 or T3 in idle time; an uncorrectable error in the object table halts the module (R182, R376). -/
def tierScrubA (tier : Tier) (addr : Nat) (found : Found) : Act :=
  .dyn fun s =>
    let a := addr / 64 * 64
    match tier with
    | .t1 => .nop
    | .t2 =>
      if s.scrubs && s.flag rT2C_CTL 48 && decide (s.region a = .t2) then
        if s.inObjects a && decide (found = .uncorrectable) && !s.anyBad a 64 then objectsFault agScrub a
        else scrubRead .t2 agScrub a 64 found
      else .nop
    | .t3 => if s.scrubs && s.flag rT3C_CTL 1 && decide (s.region a = .t3) then scrubRead .t3 agScrub a 64 found else .nop

/-- TIER_SCRUB (R182, R187). -/
def execTierScrub (tier : Tier) (addr : Nat) (found : Found) (s : State) : Host.Outcome State Fault Refusal :=
  .next (run (tierScrubA tier addr found) s)

/-- T1C_SCRUB_WRITE (R177, T1C_SCRUB). -/
def execT1cScrubWrite (v : Word) (s : State) : Host.Outcome State Fault Refusal :=
  .next (run (regDo (.t1cScrubWrite v) rT1C_SCRUB v.toNat (writeScrub blkT1C rT1C_SCRUB)) s)

/-- The object table of a T2C_CTL value lies wholly inside the value's reserved region, and RSV_GIB is 1 to 64 (R210). -/
def ctlFits (v : Nat) : Bool :=
  let base := bits 47 20 v * 2 ^ 20
  let rsv := bits 63 56 v
  decide (1 ≤ rsv) && decide (rsv ≤ 64) && decide (baseT2 ≤ base)
    && decide (base + 64 * 2 ^ (12 + min 8 (bits 55 52 v)) ≤ baseT2 + rsv * sizeGiB)

/-- A write to T2C_CTL: SCRUB is taken; RATE while BOOT_LOCK allows it; RSV_GIB, OBJ_LOG and OBJ_BASE as R210 says. -/
def writeT2Ctl (v : Nat) : Act :=
  .dyn fun s =>
    let old := (s.reg rT2C_CTL).toNat
    let same := decide (bits 63 52 v = bits 63 52 old) && decide (bits 47 20 v = bits 47 20 old)
    let free := decide (s.allocs = []) && ctlFits v
    let w := if free then v else setBits 63 52 (setBits 47 20 v (bits 47 20 old)) (bits 63 52 old)
    .seq (setReg rT2C_CTL (if s.flag rBOOT_LOCK 0 then setBits 49 49 w (bits 49 49 old) else w))
      (when' (!same && !free) (incA blkT2C 0xFF rT2C_CTL))

/-- T2C_CTL_WRITE (R210). -/
def execT2cCtlWrite (v : Word) (s : State) : Host.Outcome State Fault Refusal :=
  .next (run (regDo (.t2cCtlWrite v) rT2C_CTL v.toNat writeT2Ctl) s)

end Sys2Proof.Machine
end

