-- ==== Sys2Proof/Machine/CtrlSpace.lean ====
section
/-!
DEFINITION. Control space (R12, R13, R246, R284 to R286, R322, R430, R486 to R490) and the control die's accesses.
-/

namespace Sys2Proof.Machine

/-! ### Writes (R12, R430, R489) -/

/-- BOOT_LOCK is set. -/
def State.locked (s : State) : Bool := s.flag rBOOT_LOCK 0

/-- A write to a register without a row of its own: RW fields are set, RWL fields while BOOT_LOCK is 0, W1C bits
cleared. -/
def plainWrite (off v : Nat) : Act :=
  .dyn fun s => match regRow off with
    | none => .nop
    | some r =>
      let w := r.rw ||| (if s.locked then 0 else r.rwl)
      let i := s.selIdx off
      let old := (s.reg off i).toNat
      if r.w1c ≠ 0 ∧ errReg (off / 0x10000) = some off then clearErr off (v &&& r.w1c)
      else when' (decide (w ||| r.w1c ≠ 0)) (setReg off ((old - (old &&& (w ||| (v &&& r.w1c)))) ||| (v &&& w)) i)

/-- For each bit of a mask of `n` units, one action for 1 and one for 0. -/
def byBit (n v : Nat) (on off : Nat → Act) : Act := each (List.range n) (fun i => if v.testBit i then on i else off i)

/-- FAB and EXH. -/
def writeFabric (off v : Nat) : Act :=
  if off = rFAB_BAY_ON then .dyn fun s => if s.halted then incA blkFAB 0xFF rFAB_BAY_ON else byBit 16 v bayOnA bayOffA
  else if off = rFAB_BAY_FORCE then each (bitsOn 16 v) bayForceA
  else if off = rFAB_BAY_CLK_LO ∨ off = rFAB_BAY_CLK_HI then writeBayClk off v
  else if off = rEXH_WDOG then writeWdog v
  else if off = rEXH_SPLIT_CTL then writeSplitCtl v
  else plainWrite off v

/-- ACL, SCL, T1C and T2C. -/
def writeCells (off v : Nat) : Act :=
  if off = rACL_INJ then writeAclInj v
  else if off = rSCL_SCRUB then writeScrub blkSCL rSCL_SCRUB v
  else if off = rSCL_INJ then writeSclInj v
  else if off = rT1C_SCRUB then writeScrub blkT1C rT1C_SCRUB v
  else if off = rT2C_CTL then writeT2Ctl v
  else plainWrite off v

/-- DOC and ARB. -/
def writeDocents (off v : Nat) : Act :=
  if off = rDOC_EN then byBit 64 v docentOn docentOff
  else if off = rDOC_FORCE then each (bitsOn 64 v) docentForceA
  else if off = rDOC_SEG then writeDocSeg v
  else if off = rDOC_IQ_CTL then .dyn fun s => writeIqCtl (s.fld rDOC_IQ_SEL 5 0) v
  else if off = rDOC_IQ_BASE then .dyn fun s => writeIqBase (s.fld rDOC_IQ_SEL 5 0) v
  else if off = rARB_CLOSE then setReg rARB_CLOSE (v % 4)
  else if off = rARB_CLOSE_TEN then writeCloseTen v
  else if off = rARB_CNT_CLR then if v.testBit 1 then clearCounts else when' (v.testBit 0) clearSelected
  else plainWrite off v

/-- SRV and SMP. -/
def writeServing (off v : Nat) : Act :=
  if off = rSRV_CTL then .seq (if v.testBit 0 then srvOn else srvOff) (when' (v.testBit 1) srvForceA)
  else if off = rSRV_SVC_CFG then .dyn fun s => writeSvcCfg (s.fld rSRV_SVC_SEL 5 0) v
  else if off = rSRV_REQ_FREE then writeReqFree v
  else if off = rSMP_EN then byBit 4 v samplerOn samplerOff
  else if off = rSMP_FORCE then each (bitsOn 4 v) samplerForceA
  else if isParamReg off then writeParamSet off v
  else plainWrite off v

/-- QUE_CTL: BURST; PROG_BASE while EN is 0 and no pair is enabled; EN; FORCE. -/
def writeQueCtl (v : Nat) : Act :=
  .dyn fun s => seqs [
    setFld rQUE_CTL 51 48 (max 1 (bits 51 48 v)),
    when' (!s.flag rQUE_CTL 63 && (List.range 1024).all (fun p => !s.flag rQUE_PAIR_CFG 63 p))
      (setFld rQUE_CTL 47 16 (bits 47 16 v)),
    if v.testBit 63 then scannerOn else scannerOff,
    when' (v.testBit 62) scannerForce]

/-- QUE_PAIR_CFG of the selected pair: sizes while it is OFF; EN; FORCE. -/
def writePairCfg (v : Nat) : Act :=
  .dyn fun s =>
    let p := s.fld rQUE_PAIR_SEL 9 0
    seqs [
      when' (decide ((s.pair p).st = .off)) (setFld rQUE_PAIR_CFG 59 50 (bits 59 50 v) p),
      if v.testBit 63 then pairOn p else pairOff p,
      when' (v.testBit 62) (pairForceA p)]

/-- A ring base of the selected pair, taken while the pair is OFF. -/
def writeRing (off v : Nat) : Act :=
  .dyn fun s => when' (decide ((s.pair (s.fld rQUE_PAIR_SEL 9 0)).st = .off)) (plainWrite off v)

/-- TEN_SCAN_CTL: OUT or IN for BAY; both at once are refused (R321). -/
def writeScanCtl (v : Nat) : Act :=
  if v.testBit 63 && v.testBit 62 then scanRefused
  else if v.testBit 63 then scanOutA (v % 16)
  else if v.testBit 62 then scanInA (v % 16)
  else setFld rTEN_SCAN_CTL 3 0 (v % 16)

/-- QUE and TEN. -/
def writeQueues (off v : Nat) : Act :=
  if off = rQUE_CTL then writeQueCtl v
  else if off = rQUE_PAIR_CFG then writePairCfg v
  else if off = rQUE_SQ_BASE ∨ off = rQUE_CQ_BASE then writeRing off v
  else if off = rTEN_CTL then .dyn fun s => writeTenCtl (s.fld rTEN_SEL 5 0) v
  else if off = rTEN_RESET then each (bitsOn 64 v) tenantResetA
  else if off = rTEN_SLICE_CFG then .dyn fun s => writeSliceCfg (s.fld rTEN_SLICE_SEL 1 0) v
  else if off = rTEN_SCAN_CTL then writeScanCtl v
  else plainWrite off v

/-- LNK, TOP and INT. -/
def writeLinks (off v : Nat) : Act :=
  if off = rLNK_POLICY then writePolicy v
  else if off = rLNK_PORT_CTL then .dyn fun s => writePortCtl (s.fld rLNK_SEL 4 0) v
  else if off = rTOP_CTL then .seq (plainWrite off v) (when' (v.testBit 63) (linkAct commitTop))
  else if off = rINT_HOLD_CTL then writeHold (v.testBit 63)
  else if off = rINT_HOLD_AT ∨ off = rINT_HOLD_TEN then whenS (fun s => !s.flag rINT_HOLD_CTL 63) (plainWrite off v)
  else if off = rINT_CHK_CTL then writeChkCtl v
  else plainWrite off v

/-- LOG, PWR, BOOT and UPD. -/
def writeBase (off v : Nat) : Act :=
  if off = rLOG_HEAD then advanceHead false (bits 31 0 v)
  else if off = rLOG_RD_SEL then writeRdSel v
  else if off = rPWR_CAP then writeTarget (bits 63 48 v)
  else if off = rPWR_BRAKE then writeLevel (bits 63 48 v)
  else if off = rPWR_GUAR then writeGuarantee (bits 5 0 v)
  else if off = rPWR_NW then
    seqs [setFld rPWR_NW 15 0 (bits 15 0 v), when' (v.testBit 63) nwEnterA, when' (v.testBit 62) nwExitA]
  else if off = rBOOT_LOCK then when' (v.testBit 0) (setFld rBOOT_LOCK 0 0 1)
  else if off = rBOOT_RESET then writeReset v
  else if off = rUPD_CTL then .seq (when' (v.testBit 63) updGoA) (when' (v.testBit 62) abortSession)
  else plainWrite off v

/-- SEC and MON. -/
def writeCare (off v : Nat) : Act :=
  if off = rSEC_ATT_CTL then if v.testBit 63 then attGo (v.testBit 62) else setFld rSEC_ATT_CTL 62 62 (bits 62 62 v)
  else if off = rSEC_WIN then writeWin v
  else if off = rSEC_CRED_CTL then writeCredCtl v
  else if off = rSEC_CRED_KEY then writeCredKey v
  else if off = rMON_CTL then writeMonCtl v
  else if off = rMON_CFG then whenS (fun s => !s.flag rMON_CTL 63 (s.fld rMON_SEL 5 0))
    (plainWrite off (setBits 31 16 v (max 1 (bits 31 16 v))))
  else if off = rMON_EDGE then whenS (fun s => !s.flag rMON_CTL 63 (s.fld rMON_SEL 5 0) && decide (s.fld rMON_SEL 20 16 ≠ 31))
    (plainWrite off v)
  else plainWrite off v

/-- What a write of `v` to the register at `off` does. -/
def writeTo (off v : Nat) : Act :=
  let blk := off / 0x10000
  if blk = blkFAB ∨ blk = blkEXH then writeFabric off v
  else if blk = blkACL ∨ blk = blkSCL ∨ blk = blkT1C ∨ blk = blkT2C then writeCells off v
  else if blk = blkDOC ∨ blk = blkARB then writeDocents off v
  else if blk = blkSRV ∨ blk = blkSMP then writeServing off v
  else if blk = blkQUE ∨ blk = blkTEN then writeQueues off v
  else if blk = blkLNK ∨ blk = blkTOP ∨ blk = blkINT then writeLinks off v
  else if blk = blkLOG ∨ blk = blkPWR ∨ blk = blkBOOT ∨ blk = blkUPD then writeBase off v
  else if blk = blkSEC ∨ blk = blkMON then writeCare off v
  else plainWrite off v

/-! ### Regions of control space (R486, R487) -/

def winReq : Nat := 0x1000000
def winPfx : Nat := 0x1100000
def endPfx : Nat := 0x1160000
def endTables : Nat := 0x1200000
def winScan : Nat := 0x2000000
def endScan : Nat := 0xA000000

/-- The offset lies in the request-table or prefix-table window. -/
def inTables (off : Nat) : Bool := decide (winReq ≤ off) && decide (off < endTables)

/-- The offset lies in the scan window. -/
def inScan (off : Nat) : Bool := decide (winScan ≤ off) && decide (off < endScan)

/-- An access that is not an aligned 64-bit access (R286). -/
def csBad : Act := incA blkQUE 4

/-- An aligned access to an offset that holds no register (R487). -/
def csNone (off : Nat) : Act :=
  incident { cls := .A, blk := if off < 0x170000 then off / 0x10000 else 0xFF, code := 0xFF, off := off }

/-- A write to a table window (R246). -/
def tableWrite (off : Nat) : Act := incA blkSRV 0xFF off

/-- The scan store, by offset within its bay; writes outside the bay of the stored scan find nothing (R322, R323). -/
def scanWrite (off v : Nat) : Act :=
  .dyn fun s => when' (decide (s.scanBay = some ((off - winScan) / 0x800000)))
    (.upd (.scanWord ((off - winScan) % 0x800000 / 8) (BitVec.ofNat 64 v)))

/-- A 64-bit write of control space. -/
def csWrite (off v : Nat) : Act :=
  if off % 8 ≠ 0 then csBad
  else if (regRow off).isSome then regNow off v (writeTo off)
  else if inTables off then tableWrite off
  else if inScan off then scanWrite off v
  else csNone off

/-! ### Reads (R246, R322, R487, R488) -/

/-- Bytes of request entry `i` and of prefix entry `p`. -/
def State.reqBytes (s : State) (i : Nat) : List Byte := (s.req i).entryBytes
def State.pfxBytes (s : State) (p : Nat) : List Byte := (s.pfx p).entryBytes p

/-- Word 0 of an entry is read: the entry is latched. -/
def latchReq (i : Nat) : Act := .dyn fun s => .upd (.reqLatch (some (i, s.reqBytes i)))
def latchPfx (p : Nat) : Act := .dyn fun s => .upd (.pfxLatch (some (p, s.pfxBytes p)))

/-- A word of an entry: from the latch if the latch holds the entry, else live. -/
def latchedWord (l : Option (Nat × List Byte)) (i w : Nat) (live : List Byte) : Nat :=
  match l with
  | some p => if p.1 = i then leAt p.2 (8 * w) 8 else leAt live (8 * w) 8
  | none => leAt live (8 * w) 8

/-- A 64-bit read of control space: its effect, and what `k` does with the value. `side` is a read for the sideband,
which reads the windows as zero (R473). -/
def csRead (side : Bool) (off : Nat) (k : Nat → Act) : Act :=
  if off % 8 ≠ 0 then .seq csBad (k 0)
  else if (regRow off).isSome then .dyn fun s => k (s.regView off)
  else if inTables off then
    if side then k 0
    else if off < winPfx then
      let i := (off - winReq) / 64
      let w := off % 64 / 8
      .seq (when' (decide (w = 0)) (latchReq i)) (.dyn fun s => k (latchedWord s.reqLatch i w (s.reqBytes i)))
    else if off < endPfx then
      let p := (off - winPfx) / 32
      let w := off % 32 / 8
      .seq (when' (decide (w = 0)) (latchPfx p)) (.dyn fun s => k (latchedWord s.pfxLatch p w (s.pfxBytes p)))
    else k 0
  else if inScan off then
    if side then k 0
    else .dyn fun s => k (if s.scanBay = some ((off - winScan) / 0x800000) then
      (s.scanWord ((off - winScan) % 0x800000 / 8)).toNat else 0)
  else .seq (csNone off) (k 0)

/-! ### The control die's accesses (R172, R178, R182, R284, R416) -/

/-- What a read returns to the control die. -/
def toCd (bs : List Byte) (poison : Bool) : Act := .seq (.upd (.cdRead bs)) (.upd (.cdPoison poison))

/-- A read of T2 meets an error in the 64 B unit at `a`; one in the object table halts the module (R376). -/
def cdUnit (a : Nat) (found : Found) : Act :=
  .dyn fun s =>
    if s.anyBad a 64 then .nop
    else match found with
      | .clean => .nop
      | .corrected => tierCorrected .t2 a
      | .uncorrectable =>
        if s.inObjects a then objectsFault agT2Cd a
        else .seq (tierUncorrectable .t2 agT2Cd a false) (markBad a 64 true)

/-- A read of T2: a carried-poison unit delivers zero with POISON. -/
def cdReadT2 (a n : Nat) (found : List (Nat × Found)) : Act :=
  .seq (each found (fun (p : Nat × Found) => when' (decide (a / 64 * 64 + 64 * p.1 < a + n)) (cdUnit (a / 64 * 64 + 64 * p.1) p.2)))
    (.dyn fun s => toCd ((List.range n).map (fun i => if s.bad (a + i) then 0 else s.byte (a + i))) (s.anyBad a n))

/-- A write of T2: units written whole lose their poison. -/
def cdWriteT2 (a : Nat) (bs : List Byte) : Act :=
  let lo := (a + 63) / 64 * 64
  let hi := (a + bs.length) / 64 * 64
  .seq (writeBytes a bs) (when' (decide (lo < hi)) (markBad lo (hi - lo) false))

/-- All bytes of an access lie in T2. -/
def State.cdInT2 (s : State) (a n : Nat) : Bool := decide (s.region a = .t2) && decide (s.region (a + n - 1) = .t2)

/-- An access outside T2 and control space (R284). -/
def cdOutside (a : Nat) : Act :=
  .seq (setErr blkQUE 5) (badAddress agT2Cd a (decide (baseT3 ≤ a) && decide (a < endT3Range)))

/-- An access to T2 in night watch wakes the module and waits until T2 serves (R416). -/
def cdWake (i : Instr) : Act :=
  .dyn fun s => .seq (holdRow i) (match s.nwSt with
    | .watch => nwWake
    | .entering => setFld rPWR_NW 62 62 1
    | .active | .leaving => .nop)

/-- A read of control space. Where the storage of a request or prefix entry that it reads holds an uncorrectable error,
the module halts and the read gives zero with POISON (R376; assumption log 166). -/
def cdReadCs (off : Nat) (found : List (Nat × Found)) : Act :=
  if off % 8 = 0 ∧ winReq ≤ off ∧ off < endPfx ∧ found.any (fun (p : Nat × Found) => decide (p.2 = .uncorrectable)) = true then
    .seq (haltLogged haltSERVING) (toCd (List.replicate 8 0) true)
  else csRead false off (fun v => toCd (leBytes 8 v) false)

/-- One access of the control die. -/
def cdAccessA (acc : CdAcc) : Act :=
  .dyn fun s => match acc with
    | .read a n found =>
      if baseCS ≤ a ∧ a < endCS then
        if n = 8 then cdReadCs (a - baseCS) found
        else .seq csBad (toCd (List.replicate n 0) false)
      else if a < baseT3 ∧ baseT2 ≤ a ∧ s.t2On ∧ s.nwSt ≠ .active then cdWake (.cdAccess acc)
      else if s.cdInT2 a n then cdReadT2 a n found
      else .seq (cdOutside a) (toCd (List.replicate n 0) true)
    | .write a bs =>
      if baseCS ≤ a ∧ a < endCS then if bs.length = 8 then csWrite (a - baseCS) (leNat bs) else csBad
      else if a < baseT3 ∧ baseT2 ≤ a ∧ s.t2On ∧ s.nwSt ≠ .active then cdWake (.cdAccess acc)
      else if s.cdInT2 a bs.length then cdWriteT2 a bs
      else cdOutside a

/-- CD_ACCESS (R284). -/
def execCdAccess (acc : CdAcc) (s : State) : Host.Outcome State Fault Refusal :=
  .next (run (bitDo (.cdAccess acc) (cdAccessA acc)) s)

/-- An access of `bytes` bytes at an offset is not an aligned 64-bit access. -/
def csBadAccessA (write : Bool) (off bytes : Nat) : Act :=
  if off % 8 ≠ 0 ∨ bytes ≠ 8 then .seq csBad (when' (!write) (toCd (List.replicate bytes 0) false)) else .nop

/-- CS_BAD_ACCESS (R286). -/
def execCsBadAccess (write : Bool) (off bytes : Nat) (s : State) : Host.Outcome State Fault Refusal :=
  .next (run (bitDo (.csBadAccess write off bytes) (csBadAccessA write off bytes)) s)

/-- An aligned offset of control space that holds neither a register nor a window. -/
def unassigned (off : Nat) : Bool :=
  decide (off % 8 = 0) && decide (off < endCS - baseCS) && (regRow off).isNone && !inTables off && !inScan off

/-- CS_UNASSIGNED (R487). -/
def csUnassignedA (write : Bool) (off : Nat) : Act :=
  when' (unassigned off) (.seq (csNone off) (when' (!write) (toCd (leBytes 8 0) false)))

/-- CS_UNASSIGNED (R487). -/
def execCsUnassigned (write : Bool) (off : Nat) (s : State) : Host.Outcome State Fault Refusal :=
  .next (run (bitDo (.csUnassigned write off) (csUnassignedA write off)) s)

/-- WINDOW_WRITE (R246). -/
def execWindowWrite (off : Nat) (v : Word) (s : State) : Host.Outcome State Fault Refusal :=
  .next (run (bitDo (.windowWrite off v) (when' (inTables off) (tableWrite off))) s)

/-- Word 0 of an entry of a window is read (R488). -/
def windowLatchA (pfx : Bool) (i : Nat) : Act :=
  if pfx then when' (decide (i < 12288)) (csRead false (winPfx + 32 * i) (fun v => toCd (leBytes 8 v) false))
  else when' (decide (i < 16384)) (csRead false (winReq + 64 * i) (fun v => toCd (leBytes 8 v) false))

/-- WINDOW_LATCH_READ (R488). -/
def execWindowLatchRead (prefixWindow : Bool) (entry : Nat) (s : State) : Host.Outcome State Fault Refusal :=
  .next (run (bitDo (.windowLatchRead prefixWindow entry) (windowLatchA prefixWindow entry)) s)

/-- REG_WRITE (R12, R13, R430). -/
def execRegWrite (off : Nat) (v : Word) (s : State) : Host.Outcome State Fault Refusal :=
  .next (run (bitDo (.regWrite off v) (csWrite off v.toNat)) s)

/-- BOOT_LOCK_SET (R430). -/
def execBootLockSet (s : State) : Host.Outcome State Fault Refusal :=
  .next (run (bitDo .bootLockSet (setFld rBOOT_LOCK 0 0 1)) s)

end Sys2Proof.Machine
end

