-- ==== Sys2Proof/Machine/Boot.lean ====
section
/-!
DEFINITION. The start sequence of Table 12.4 (R418, R423 to R431, R180, R185, R283, R454, R501).
-/

namespace Sys2Proof.Machine

/-- The start stops with a cause (R431). -/
def stopStart (cause : Nat) : Act :=
  seqs [setFld rBOOT_STAT 63 60 2, setFld rBOOT_STAT 59 56 cause, .upd (.bootPhase .stopped)]

/-! ### The slot journal at step 3 (R424) -/

/-- The place after `i` at which the journal goes on: the next erased one of its half, or the end of the half. -/
def State.journalGoesOn (s : State) (i : Nat) : Nat :=
  let stop := if i ≤ 512 then 512 else 1024
  (((List.range (stop - i)).map (fun k => i + k)).find? (fun k => erased (s.journalAt k))).getD stop

/-- The boot ROM takes the valid record with the highest SEQ and ends a trial. -/
def readJournal : Act :=
  .dyn fun s => seqs [
    when' s.journalTorn (setErr blkBOOT 3),
    (match s.journalLatest with
      | some (p : Nat × Journal) => .seq (.upd (.journal p.2)) (.upd (.jrnNext (s.journalGoesOn (p.1 + 1))))
      | none => .seq (.upd (.journal {})) (.upd (.jrnNext (s.journalGoesOn 0)))),
    each [0, 1] (fun t => whenS (fun s => decide (s.journal.slot t = stTRIAL)) (appendJournal (fun j => j.setSlot t stBAD)))]

/-! ### The slot at step 6 (R424, R425) -/

/-- A slot may be chosen by point 3 of R424. -/
def Journal.fallback (j : Journal) (t : Nat) : Bool := decide (j.slot t = stGOOD) && decide (j.minSvn ≤ j.svn t)

/-- The slot that the journal's record chooses. -/
def Journal.choice (j : Journal) : Option Nat :=
  if j.slot j.active = stGOOD then some j.active
  else if j.fallback (1 - j.active) then some (1 - j.active)
  else none

/-- The chosen slot is verified; if it fails it is BAD and the other is tried. `go` is what follows on the slot that
starts. -/
def startSlot (go : Nat → Act) : Act :=
  .dyn fun s => match s.journal.choice with
    | none => stopStart 4
    | some t =>
      if s.slotStarts t s.journal.minSvn then go t
      else .seq (appendJournal (fun j => j.setSlot t stBAD)) (.dyn fun s' =>
        let u := 1 - t
        if s'.journal.fallback u then
          if s'.slotStarts u s'.journal.minSvn then seqs [
            appendJournal (fun j => { j with active := u }),
            setFld rBOOT_STAT 49 49 1,
            go u]
          else .seq (appendJournal (fun j => j.setSlot u stBAD)) (stopStart 4)
        else stopStart 4)

/-! ### The configuration block at step 7 (R427, R428, Table 12.6) -/

def cbFmt (b : List Byte) : Nat := leAt b 4 2
def cbCount (b : List Byte) : Nat := leAt b 6 2
def cbSeq (b : List Byte) : Nat := leAt b 8 4

/-- Bytes 0x00 to the end of the last record of copy `c`. -/
def State.cfgBlock (s : State) (c : Nat) : List Byte := s.flashBytes (cfgBase c) (0x40 + 16 * min 4092 (s.flashLe (cfgBase c + 6) 2))

/-- The header of Table 12.6 holds and the CRC-32C matches. -/
def cfgValid (b : List Byte) : Bool :=
  decide (leAt b 0 4 = 0x4643564C) && decide (b.length = 0x40 + 16 * cbCount b) && decide (leAt b 0x10 48 = 0)
    && decide (leAt b 0xC 4 = crc32c (b.drop 0x10))

/-- The copy to use: a pending one that is valid, else the current one if it is. -/
def State.cfgChoice (s : State) : Option (Nat × Bool) :=
  let cur := s.journal.cfg % 2
  let pend := s.journal.cfg / 4 % 2
  if s.journal.cfg.testBit 1 && cfgValid (s.cfgBlock pend) then some (pend, true)
  else if cfgValid (s.cfgBlock cur) then some (cur, false)
  else none

/-- One record is applied: a write of a register with RW or RWL fields; any other is skipped. -/
def applyRecord (r : List Byte) : Act :=
  let off := leAt r 0 8
  match regRow off with
  | some x => if x.rw ||| x.rwl ≠ 0 then csWrite off (leAt r 8 8) else incA blkBOOT 1
  | none => incA blkBOOT 1

/-- The records of a block in order. -/
def applyBlock (b : List Byte) : Act := each (List.range (cbCount b)) (fun n => applyRecord (byteSlice b (0x40 + 16 * n) 16))

/-- A block converted to format `fmt`, with SEQ one higher (R428): its records are the firmware's. -/
def convertBlock (b : List Byte) (fmt : Nat) : List Byte :=
  let n := min 4092 (Config.convCount b fmt)
  let body := leBytes 48 0 ++ (List.range (16 * n)).map (Config.convByte b fmt)
  leBytes 4 0x4643564C ++ leBytes 2 fmt ++ leBytes 2 n ++ leBytes 4 (cbSeq b + 1) ++ leBytes 4 (crc32c body) ++ body

/-- The block that this start converts, with the copy it came from: an older format that the running firmware reads. -/
def State.migrates (s : State) (m : List Byte) : Option (Nat × List Byte) :=
  match s.cfgChoice with
  | some (p : Nat × Bool) =>
    let b := s.cfgBlock p.1
    if mfCfgReadMin m ≤ cbFmt b ∧ cbFmt b < mfCfgFmt m then some (p.1, convertBlock b (mfCfgFmt m)) else none
  | none => none

/-- The configuration block is applied for the running manifest `m`, or every register keeps its reset value. -/
def applyConfig (m : List Byte) : Act :=
  .dyn fun s =>
    match s.cfgChoice with
    | none => .seq (setFld rBOOT_STAT 48 48 1) (setErr blkBOOT 1)
    | some (p : Nat × Bool) =>
      let b := s.cfgBlock p.1
      if mfCfgFmt m < cbFmt b ∨ cbFmt b < mfCfgReadMin m then .seq (setFld rBOOT_STAT 48 48 1) (setErr blkBOOT 1)
      else seqs [
        .upd (.cfgSeq (cbSeq b)), .upd (.cfgCopy p.1), .upd (.cfgHash (sha256 b)),
        when' p.2 (setFld rBOOT_STAT 47 47 1),
        match s.migrates m with
          | some (q : Nat × List Byte) => seqs [setFld rBOOT_STAT 47 46 3, applyBlock q.2]
          | none => applyBlock b]

/-- After READY a converted block is written into the other copy, which becomes pending (R428). -/
def storeMigration (q : Option (Nat × List Byte)) : Act :=
  withSome q fun (q : Nat × List Byte) => seqs [
    eraseSectors (cfgBase (1 - q.1)) q.2.length,
    programFlash (cfgBase (1 - q.1)) q.2,
    appendJournal (fun j => { j with cfg := q.1 + 2 + 4 * (1 - q.1) })]

/-! ### The topology table at step 7 (R429) -/

/-- A topology table is put into the shadow registers. -/
def shadowFrom (t : LiveTop) (ctl : Nat) : Act :=
  seqs [
    setReg rTOP_SELF t.self, setReg rTOP_CTL ctl,
    each (List.range 32) (fun p => .seq (setReg rTOP_PORT (lget 0 t.ports p) p) (setReg rTOP_PORT_ID (lget 0 t.ids p) p)),
    each (List.range 64) (fun i => setReg rTOP_CORDON (lget 0 t.cordons i) i)]

/-- The table in 1,104 B of flash. -/
def topoOf (b : List Byte) : LiveTop :=
  { self := leAt b 0x40 8
    ports := (List.range 32).map (fun p => leAt b (0x50 + 16 * p) 8)
    ids := (List.range 32).map (fun p => leAt b (0x58 + 16 * p) 8)
    cordons := (List.range 64).map (fun i => leAt b (0x250 + 8 * i) 8) }

/-- The default table is committed in place of a bad one. -/
def topoDefault : Act := seqs [shadowFrom {} 0, .upd (.live {}), setFld rBOOT_STAT 45 45 1, incA blkBOOT 2]

/-- The current topology table is loaded and committed. -/
def loadTopo : Act :=
  .dyn fun s =>
    let b := s.flashBytes (topoBase (s.journal.topo % 2)) 1104
    if leAt b 0 4 = 0x5054564C ∧ leAt b 0xC 4 = crc32c (b.drop 0x10) then .seq
      (shadowFrom (topoOf b) (setBits 63 63 (leAt b 0x48 8) 0))
      (.dyn fun s' => .seq commitTop (when' (!s'.shadowTop.ok) topoDefault))
    else topoDefault

/-! ### Steps 8 to 10 (R180, R185, R283, R342) -/

/-- UCIe trains: each module that fails is mapped out. -/
def trainUcie (obs : StartObs) : Act :=
  seqs [
    .upd (.ucieOn true), .upd (.ucieUp obs.ucieUp.toNat), .upd (.ucieRep (obs.ucieUp.toNat &&& obs.ucieRep.toNat)),
    each (bitsOn 4 (15 - obs.ucieUp.toNat)) (fun _ => incA blkQUE 0),
    when' (decide (obs.ucieUp = 0)) (incident { cls := .C, blk := blkQUE, code := 0 })]

/-- T2 trains, or the module halts. -/
def trainT2 (obs : StartObs) : Act :=
  let stk := packed 8 4 (fun k => if obs.t2Up.toNat.testBit k then 2 else 3)
  if obs.t2Up.toNat = 0xFF then setReg rT2C_STAT (place 48 48 1 + place 47 40 obs.t2Rep.toNat + stk)
  else seqs [
    setReg rT2C_STAT stk,
    incident { cls := .C, blk := blkT2C, code := 5, locus := ((bitsOn 8 (255 - obs.t2Up.toNat)).head?).getD 0 },
    haltModule haltT2]

/-- Why T3 stays offline; 0 = it does not. The lowest code that applies. -/
def t3Reason (obs : StartObs) : Nat :=
  if obs.t3Present.toNat ≠ 0xFFFF then 1
  else if obs.t3Supported = false ∨ (obs.t3Gib ≠ 64 ∧ obs.t3Gib ≠ 128 ∧ obs.t3Gib ≠ 256) then 2
  else if obs.t3Alike = false then 3
  else if obs.t3Trained.toNat ≠ 0xFFFF then 4
  else if obs.t3FastEnough = false then 5
  else 0

/-- T3 trains, or stays offline with a reason. -/
def trainT3 (obs : StartObs) : Act :=
  .dyn fun s =>
    let r := t3Reason obs
    let lists := place 31 16 obs.t3Present.toNat + place 15 0 obs.t3Trained.toNat
    if r = 0 then
      setReg rT3C_STAT (place 63 63 1 + place 58 48 obs.t3Gib
        + place 47 32 (if s.flag rT3C_CTL 0 || !obs.t3All8800 then 8000 else 8800) + lists)
    else .seq (setReg rT3C_STAT (place 62 59 r + lists)) (incident { cls := .C, blk := blkT3C, code := 5 })

/-- Steps 7 to 10 on slot `t`. -/
def startOn (obs : StartObs) (t : Nat) : Act :=
  .dyn fun s =>
    let m := s.slotManifest t
    seqs [
      showFirmware t,
      applyConfig m,
      loadTopo,
      setFld rBOOT_LOCK 0 0 1,
      trainUcie obs,
      linkAct startPorts,
      trainT2 obs,
      trainT3 obs,
      setFld rBOOT_STAT 31 0 obs.bootUs.toNat, setFld rBOOT_STAT 63 60 1, .upd (.bootPhase .ready),
      eraseOldest,
      storeMigration (s.migrates m)]

/-- The reservation of step 5: so many sectors fail before one holds it (R454). -/
def reserveAtStart (fails : Nat) : Act :=
  seqs [
    startReserve,
    each (List.range (min fails 16)) (fun _ => whenS (fun s => s.flag rSEC_IDX 24) (reserveTry false true)),
    whenS (fun s => s.flag rSEC_IDX 24) (reserveTry true true)]

/-- Steps 4 to 10. -/
def startFrom4 (obs : StartObs) : Act :=
  if obs.railsOk then .dyn fun s => seqs [.upd (.ident s.identOf), reserveAtStart obs.reserveFails, startSlot (startOn obs)]
  else stopStart 5

/-- Steps 1 to 3, then 4 to 10 or the wait for REFCLK. -/
def startA (obs : StartObs) : Act :=
  .dyn fun s =>
    if s.bootPhase ≠ .dark then .nop
    else .seq (seqs [setFld rBOOT_STAT 55 52 s.bootCause, .upd (.bootCause 2)])
      (if obs.flashOk = false then stopStart 1
       else .seq (setFld rBOOT_FLASH 63 40 obs.jedec.toNat)
        (if obs.identityOk = false then stopStart 2
         else if obs.trims0Ok = false ∧ obs.trims1Ok = false then stopStart 3
         else seqs [
          when' (!obs.trims0Ok) (.seq (setErr blkBOOT 0) (setFld rBOOT_STAT 44 44 1)),
          readJournal,
          computeBrake,
          if obs.refclk then startFrom4 obs else .seq (.upd (.startObs (some obs))) (.upd (.bootPhase .waitRefclk))]))

/-- START (R423). -/
def execStart (obs : StartObs) (s : State) : Host.Outcome State Fault Refusal := .next (run (startA obs) s)

/-- REFCLK_ARRIVE: the start that waits goes on (R501). -/
def refclkArriveA : Act :=
  .dyn fun s => match s.startObs with
    | some obs => if s.bootPhase = .waitRefclk then .seq (.upd (.startObs none)) (startFrom4 obs) else .nop
    | none => .nop

/-- REFCLK_ARRIVE (R501). -/
def execRefclkArrive (s : State) : Host.Outcome State Fault Refusal := .next (run refclkArriveA s)

/-- REFCLK_TIMEOUT (R501). -/
def execRefclkTimeout (s : State) : Host.Outcome State Fault Refusal :=
  .next (run (whenS (fun s => decide (s.bootPhase = .waitRefclk)) (.seq (.upd (.startObs none)) (stopStart 6))) s)

end Sys2Proof.Machine
end

