-- ==== Sys2Proof/Machine/Resume.lean ====
section
/-!
DEFINITION. Accesses that wait for the end of a firmware pause or of night watch, and the rows that end those (R416,
R439, R440).
-/

namespace Sys2Proof.Machine

/-- What a row that waited does when its access completes (R439). Only register accesses wait; no other row is ever
held. -/
def replay (i : Instr) : Act :=
  match i with
  | .bayOn bay => bayOnA bay.val
  | .bayOff bay => bayOffA bay.val
  | .bayForce bay => bayForceA bay.val
  | .bayClkWrite hi v => regNow (bayClkReg hi) v.toNat (writeBayClk (bayClkReg hi))
  | .aclInj v => regNow rACL_INJ v.toNat writeAclInj
  | .sclScrubWrite v => regNow rSCL_SCRUB v.toNat (writeScrub blkSCL rSCL_SCRUB)
  | .sclInj v => regNow rSCL_INJ v.toNat writeSclInj
  | .exhSplitCtlWrite v => regNow rEXH_SPLIT_CTL v.toNat writeSplitCtl
  | .exhWdogWrite v => regNow rEXH_WDOG v.toNat writeWdog
  | .cdAccess acc => cdAccessA acc
  | .csBadAccess write off bytes => csBadAccessA write off bytes
  | .csUnassigned write off => csUnassignedA write off
  | .windowWrite off _ => when' (inTables off) (tableWrite off)
  | .windowLatchRead prefixWindow entry => windowLatchA prefixWindow entry
  | .censusEnable unit en => censusEn unit.val en
  | .censusSnap unit => censusSnapA unit.val
  | .censusClear unit => censusClearA unit.val
  | .logHeadWrite v => regNow rLOG_HEAD v.toNat (fun w => advanceHead false (bits 31 0 w))
  | .logRdSelWrite v => regNow rLOG_RD_SEL v.toNat writeRdSel
  | .regWrite off v => csWrite off v.toNat
  | .t1cScrubWrite v => regNow rT1C_SCRUB v.toNat (writeScrub blkT1C rT1C_SCRUB)
  | .t2cCtlWrite v => regNow rT2C_CTL v.toNat writeT2Ctl
  | .docentEnable docent => docentOn docent.val
  | .docentDisable docent => docentOff docent.val
  | .docentForce docent => docentForceA docent.val
  | .docSegWrite v => regNow rDOC_SEG v.toNat writeDocSeg
  | .iqEnable iq v => regNow rDOC_IQ_CTL v.toNat (fun w => writeIqCtl iq.val (setBits 63 61 w 4))
  | .iqDisable iq => disableIq iq.val
  | .iqCancel iq => cancelIq iq.val
  | .iqForce iq => forceIq iq.val
  | .arbCloseWrite v => regNow rARB_CLOSE v.toNat (fun w => setReg rARB_CLOSE (w % 4))
  | .arbCloseTenWrite v => regNow rARB_CLOSE_TEN v.toNat writeCloseTen
  | .arbCntClrAll => clearCounts
  | .arbCntClrSel => clearSelected
  | .svcEnableReady svc v => regNow rSRV_SVC_CFG v.toNat (fun w => writeSvcCfg svc.val (setBits 63 61 w (4 + svcREADY)))
  | .svcEnableStandby svc v => regNow rSRV_SVC_CFG v.toNat (fun w => writeSvcCfg svc.val (setBits 63 61 w (4 + svcSTANDBY)))
  | .svcDisable svc => whenS (fun s => s.svcOn svc.val) (svcOff svc.val)
  | .srvReqFree v => regNow rSRV_REQ_FREE v.toNat writeReqFree
  | .srvEnable => srvOn
  | .srvDisable => srvOff
  | .srvForce => srvForceA
  | .samplerEnable smp => samplerOn smp.val
  | .samplerDisable smp => samplerOff smp.val
  | .samplerForce smp => samplerForceA smp.val
  | .paramSetWrite off v => when' (isParamReg off) (regNow off v.toNat (writeParamSet off))
  | .queScannerEnable => scannerOn
  | .queScannerDisable => scannerOff
  | .queScannerForce => scannerForce
  | .pairEnable pair => pairOn pair.val
  | .pairDisable pair => pairOff pair.val
  | .pairForce pair => pairForceA pair.val
  | .tenantEnable tenant => tenantOnA tenant.val
  | .tenantDisable tenant => tenantOffA tenant.val
  | .tenantForce tenant => tenantForceA tenant.val
  | .tenCtlWrite tenant v => regNow rTEN_CTL v.toNat (writeTenCtl tenant.val)
  | .tenantReset tenant => tenantResetA tenant.val
  | .sliceSetEnable set v => regNow rTEN_SLICE_CFG v.toNat (writeSliceCfg set.val)
  | .scanOut bay => scanOutA bay.val
  | .scanIn bay => scanInA bay.val
  | .portEnable port => linkAct (portOnA port.val)
  | .portDisable port => linkAct (portOffA port.val)
  | .portForce port => linkAct (portForceA port.val)
  | .portRetrain port => linkAct (portRetrainA port.val)
  | .portLow port low => linkAct (portLowA port.val low)
  | .lnkPolicyWrite v => regNow rLNK_POLICY v.toNat writePolicy
  | .topologyCommit => linkAct commitTop
  | .holdEnable en => writeHold en
  | .checkRequest bay => checkRequestA bay.val
  | .capTargetWrite v => writeTarget v.toNat
  | .brakeLevelWrite v => writeLevel v.toNat
  | .guaranteeCodeWrite v => writeGuarantee v.toNat
  | .nightWatchEnter => nwEnterA
  | .nightWatchExit => nwExitA
  | .softReset v => regNow rBOOT_RESET v.toNat writeReset
  | .bootLockSet => setFld rBOOT_LOCK 0 0 1
  | .updGo => updGoA
  | .updAbort => abortSession
  | .attestReport => attGo false
  | .attestIdentity => attGo true
  | .secWinWrite v => regNow rSEC_WIN v.toNat writeWin
  | .credValidWrite v => regNow rSEC_CRED_CTL v.toNat writeCredCtl
  | .credKeyWrite v => regNow rSEC_CRED_KEY v.toNat writeCredKey
  | _ => .nop

/-- The oldest access that waits completes, unless a new pause has begun. -/
def replayOne : Act :=
  .dyn fun s => match s.heldRows with
    | [] => .nop
    | i :: rest => if s.updSt = .pause then .nop else .seq (.upd (.heldRows rest)) (replay i)

/-- Every access that waits completes, in the order in which they came. An access that must wait again keeps its place
behind them. -/
def replayHeld : Act := .dyn fun s => each (List.range s.heldRows.length) (fun _ => replayOne)

/-- ACTIVATION_PARTS_READY (R439, R440). -/
def execActivationPartsReady (s : State) : Host.Outcome State Fault Refusal := .next (run (.seq partsReadyA replayHeld) s)

/-- ACTIVATION_REVERT (R440). -/
def execActivationRevert (s : State) : Host.Outcome State Fault Refusal := .next (run (.seq revertA replayHeld) s)

/-- NIGHT_WATCH_LEFT (R414, R416, R417). -/
def execNightWatchLeft (s : State) : Host.Outcome State Fault Refusal := .next (run (.seq nwLeftA replayHeld) s)

end Sys2Proof.Machine
end

