-- ==== Sys2Proof/Machine/Sideband.lean ====
section
/-!
DEFINITION. The sideband and the management view (R469 to R475).
-/

namespace Sys2Proof.Machine

/-! ### Who is served when (R470) -/

/-- What R470 says of a request: MCTP control is served in every state; PLDM base and LV_STATUS also when stopped;
everything else only outside STOPPED and the firmware pause. -/
inductive Service where
  | mctp
  | base
  | full
  deriving DecidableEq, Repr

/-- The management engine runs: step 3 of Table 12.4 has completed. -/
def State.sbUp (s : State) : Bool := decide (s.bootPhase ≠ .dark) && decide (s.bootPhase ≠ .off)

/-- A request is served now. -/
def State.sbServes (s : State) (v : Service) : Bool :=
  match v with
  | .mctp => true
  | .base => decide (s.updSt ≠ .pause)
  | .full => decide (s.updSt ≠ .pause) && decide (s.bootPhase ≠ .stopped)

/-- An answer. -/
def answer (code : SbCode) (vals : List Nat) : Act := .upd (.resp { code := code, vals := vals })

/-- A completion without values. -/
def answerOk : Act := answer .ok []

/-- A request: served, turned away with ERROR_NOT_READY, or not heard before step 3. -/
def request (v : Service) (a : Act) : Act :=
  .dyn fun s => when' s.sbUp (if s.sbServes v then a else answer .notReady [])

/-- A CCC of the bus, which the target hears once step 3 has completed. -/
def ccc (a : Act) : Act := whenS State.sbUp a

/-! ### I3C (Table 14.1) -/

/-- MCTP_PACKET: a packet that fails PEC is discarded; the message of any other is a command of its own. -/
def mctpPacketA (pecOk : Bool) : Act :=
  ccc (when' (!pecOk) (.seq (addFld rMON_MGMT 31 0 1) (incA blkMON 1)))

/-- MCTP_PACKET (R469). -/
def execMctpPacket (pecOk : Bool) (_packet : List Byte) (s : State) : Host.Outcome State Fault Refusal :=
  .next (run (mctpPacketA pecOk) s)

/-- ENTDAA (R470). -/
def execEntdaa (da : BitVec 7) (s : State) : Host.Outcome State Fault Refusal :=
  .next (run (ccc (setFld rMON_MGMT 46 40 da.toNat)) s)

/-- RSTDAA (R469). -/
def execRstdaa (s : State) : Host.Outcome State Fault Refusal := .next (run (ccc (setFld rMON_MGMT 46 40 0)) s)

/-- ENEC: bit 0 of the event byte is the in-band interrupt (PRESUMED, MIPI I3C; log 62). -/
def execEnec (events : Byte) (s : State) : Host.Outcome State Fault Refusal :=
  .next (run (ccc (when' (bit 0 events.toNat) (setFld rMON_MGMT 62 62 1))) s)

/-- DISEC (R485; log 62). -/
def execDisec (events : Byte) (s : State) : Host.Outcome State Fault Refusal :=
  .next (run (ccc (when' (bit 0 events.toNat) (setFld rMON_MGMT 62 62 0))) s)

/-- SETMWL (R469). -/
def execSetmwl (len : BitVec 16) (s : State) : Host.Outcome State Fault Refusal :=
  .next (run (ccc (.upd (.mwl len.toNat))) s)

/-- SETMRL (R469). -/
def execSetmrl (len : BitVec 16) (s : State) : Host.Outcome State Fault Refusal :=
  .next (run (ccc (.upd (.mrl len.toNat))) s)

/-- GETMWL (R469). -/
def execGetmwl (s : State) : Host.Outcome State Fault Refusal := .next (run (ccc (.dyn fun s => answer .ok [s.mwl])) s)

/-- GETMRL (R469). -/
def execGetmrl (s : State) : Host.Outcome State Fault Refusal := .next (run (ccc (.dyn fun s => answer .ok [s.mrl])) s)

/-- The provisional ID (Table 14.1); the manufacturer's number is a free value (log 61). -/
def State.provisionalId (s : State) : Nat :=
  place 47 33 (Config.sideband 0 0) + bits 31 0 (crc32c (s.flashBytes 0x2008 16))

/-- GETPID (R469). -/
def execGetpid (s : State) : Host.Outcome State Fault Refusal :=
  .next (run (ccc (.dyn fun s => answer .ok [s.provisionalId])) s)

/-- GETBCR (R469; log 61). -/
def execGetbcr (s : State) : Host.Outcome State Fault Refusal :=
  .next (run (ccc (answer .ok [Config.sideband 1 0 % 256])) s)

/-- GETDCR (R469; log 61). -/
def execGetdcr (s : State) : Host.Outcome State Fault Refusal :=
  .next (run (ccc (answer .ok [Config.sideband 2 0 % 256])) s)

/-- GETSTATUS (R469; log 61): the status may differ each time. -/
def execGetstatus (s : State) : Host.Outcome State Fault Refusal :=
  .next (run (ccc (withFresh fun n => answer .ok [Config.sideband 3 n % 2 ^ 16])) s)

/-! ### MCTP control (Table 14.1) -/

/-- SET_ENDPOINT_ID (R469). -/
def execSetEndpointId (eid : Byte) (s : State) : Host.Outcome State Fault Refusal :=
  .next (run (request .mctp (.seq (setFld rMON_MGMT 55 48 eid.toNat) answerOk)) s)

/-- GET_ENDPOINT_ID (R469). -/
def execGetEndpointId (s : State) : Host.Outcome State Fault Refusal :=
  .next (run (request .mctp (.dyn fun s => answer .ok [s.fld rMON_MGMT 55 48])) s)

/-- GET_MCTP_VERSION_SUPPORT (R469; log 61): for a supported message type. -/
def execGetMctpVersionSupport (msgType : Byte) (s : State) : Host.Outcome State Fault Refusal :=
  .next (run (request .mctp
    (if msgType.toNat < 2 then answer .ok [Config.sideband 4 msgType.toNat] else answer .unsupported [])) s)

/-- GET_MESSAGE_TYPE_SUPPORT (R469): types 0x00 and 0x01. -/
def execGetMessageTypeSupport (s : State) : Host.Outcome State Fault Refusal :=
  .next (run (request .mctp (answer .ok [0, 1])) s)

/-! ### PLDM base (Table 14.1) -/

/-- GETTID (R469). -/
def execGettid (s : State) : Host.Outcome State Fault Refusal :=
  .next (run (request .base (.dyn fun s => answer .ok [s.tid])) s)

/-- SETTID (R469). -/
def execSettid (tid : Byte) (s : State) : Host.Outcome State Fault Refusal :=
  .next (run (request .base (.seq (.upd (.tid tid.toNat)) answerOk)) s)

/-- The PLDM types (Table 14.1). -/
def pldmTypes : List Nat := [0, 2, 0x3F]

/-- GETPLDMVERSION (R469; log 61): for a supported type. -/
def execGetpldmversion (pldmType : Byte) (s : State) : Host.Outcome State Fault Refusal :=
  .next (run (request .base
    (if pldmType.toNat ∈ pldmTypes then answer .ok [Config.sideband 5 pldmType.toNat] else answer .unsupported [])) s)

/-- GETPLDMTYPES (R469). -/
def execGetpldmtypes (s : State) : Host.Outcome State Fault Refusal :=
  .next (run (request .base (answer .ok pldmTypes)) s)

/-- Codes of the commands of a PLDM type: the OEM ones stand in Table 14.4, the others in the standards (log 61). -/
def pldmCodes (t : Nat) : Option (List Nat) :=
  if t = 0 then some ((List.range 5).map (Config.sideband 6))
  else if t = 2 then some ((List.range 8).map (fun i => Config.sideband 6 (8 + i)))
  else if t = 0x3F then some ((List.range 8).map (fun i => i + 1))
  else none

/-- GETPLDMCOMMANDS (R469). -/
def execGetpldmcommands (pldmType : Byte) (s : State) : Host.Outcome State Fault Refusal :=
  .next (run (request .base (match pldmCodes pldmType.toNat with
    | some l => answer .ok l
    | none => answer .unsupported [])) s)

/-! ### Sensors (R471) -/

/-- GETPDRREPOSITORYINFO: what the running firmware fixes (R469; log 61). -/
def execGetpdrrepositoryinfo (s : State) : Host.Outcome State Fault Refusal :=
  .next (run (request .full (.dyn fun s => answer .ok [Config.sideband 7 (s.slotVersion s.runSlot).1])) s)

/-- GETPDR: the record that the running firmware holds under a handle (R469; log 61). -/
def execGetpdr (handle : BitVec 32) (s : State) : Host.Outcome State Fault Refusal :=
  .next (run (request .full
    (.dyn fun s => answer .ok [Config.sideband 8 (handle.toNat + 2 ^ 32 * (s.slotVersion s.runSlot).1)])) s)

/-- Numeric sensors of Table 14.3. -/
def numericSensor (k : Nat) : Bool :=
  (decide (1 ≤ k) && decide (k ≤ 5)) || (decide (0x100 + 640 ≤ k) && decide (k ≤ 0x100 + 673))
    || (decide (0x400 ≤ k) && decide (k < 0x410))

/-- State sensors of Table 14.3. -/
def stateSensor (k : Nat) : Bool :=
  (decide (0x500 ≤ k) && decide (k < 0x510)) || (decide (0x600 ≤ k) && decide (k < 0x620))
    || (decide (0x700 ≤ k) && decide (k ≤ 0x703))

/-- A sensor is read from the view; without a view for 5 ms it is unavailable, and the answer carries no value (R474). -/
def readSensor (known : Bool) (k : Nat) : Act :=
  .dyn fun s =>
    if !known then answer .unsupported []
    else if s.viewStale then answer .ok []
    else answer .ok [s.viewVal k]

/-- GETSENSORREADING (R471, R474). -/
def execGetsensorreading (sensor : BitVec 16) (s : State) : Host.Outcome State Fault Refusal :=
  .next (run (request .full (readSensor (numericSensor sensor.toNat) sensor.toNat)) s)

/-- GETSTATESENSORREADINGS (R471, R474). -/
def execGetstatesensorreadings (sensor : BitVec 16) (s : State) : Host.Outcome State Fault Refusal :=
  .next (run (request .full (readSensor (stateSensor sensor.toNat) sensor.toNat)) s)

/-! ### Effecters (R472, R475) -/

def effCAP : Nat := 0x1001
def effBRAKE : Nat := 0x1002
def effPOWER : Nat := 0x1003
def effRESET : Nat := 0x1004

/-- A state effecter's values: 0 none, then ACTIVE, WATCH and RESET. -/
def EffState.code : EffState → Nat
  | .active => 1 | .watch => 2 | .reset => 3

/-- The data path's present value of an effecter. -/
def State.effPresent (s : State) (e : Nat) : Nat :=
  if e = effCAP then s.fld rPWR_CAP 63 48
  else if e = effBRAKE then s.fld rPWR_BRAKE 63 48
  else if e = effPOWER then (if s.nwSt = .watch then EffState.watch.code else EffState.active.code)
  else 0

/-- The value that management last wrote; before any write, the present value. -/
def State.effPending (s : State) (e : Nat) : Nat :=
  match s.effecter e with
  | some x => x.pending
  | none => s.effPresent e

/-- Management writes an effecter: the register write it names takes effect. -/
def writeEffecter (e v : Nat) (a : Act) : Act :=
  .seq a (.dyn fun s =>
    .upd (.effecter e (some { pending := v, writtenAt := s.now, agreed := decide (s.effPresent e = v) })))

/-- SETNUMERICEFFECTERVALUE: the cap target or the brake level. -/
def setNumericA (e v : Nat) : Act :=
  if e = effCAP then .seq (writeEffecter e v (writeTarget v)) answerOk
  else if e = effBRAKE then .seq (writeEffecter e v (writeLevel v)) answerOk
  else answer .unsupported []

/-- SETNUMERICEFFECTERVALUE (R472, R394, R401). -/
def execSetnumericeffectervalue (effecter : BitVec 16) (v : BitVec 32) (s : State) : Host.Outcome State Fault Refusal :=
  .next (run (request .full (setNumericA effecter.toNat v.toNat)) s)

/-- Present and pending value of an effecter. -/
def readEffecter (known : Bool) (e : Nat) : Act :=
  if known then .dyn fun s => answer .ok [s.effPresent e, s.effPending e] else answer .unsupported []

/-- GETNUMERICEFFECTERVALUE (R472). -/
def execGetnumericeffectervalue (effecter : BitVec 16) (s : State) : Host.Outcome State Fault Refusal :=
  .next (run (request .full
    (readEffecter (decide (effecter.toNat = effCAP ∨ effecter.toNat = effBRAKE)) effecter.toNat)) s)

/-- SETSTATEEFFECTERSTATES: the power state (R414, R416) or the reset (cause 2). -/
def setStateA (e : Nat) (st : EffState) : Act :=
  if e = effPOWER then match st with
    | .active => .seq (writeEffecter e st.code nwExitA) answerOk
    | .watch => .seq (writeEffecter e st.code nwEnterA) answerOk
    | .reset => answer .unsupported []
  else if e = effRESET ∧ st = .reset then .seq answerOk (resetModule 2)
  else answer .unsupported []

/-- SETSTATEEFFECTERSTATES (R472). -/
def execSetstateeffecterstates (effecter : BitVec 16) (st : EffState) (s : State) : Host.Outcome State Fault Refusal :=
  .next (run (request .full (setStateA effecter.toNat st)) s)

/-- GETSTATEEFFECTERSTATES (R472). -/
def execGetstateeffecterstates (effecter : BitVec 16) (s : State) : Host.Outcome State Fault Refusal :=
  .next (run (request .full
    (readEffecter (decide (effecter.toNat = effPOWER ∨ effecter.toNat = effRESET)) effecter.toNat)) s)

/-! ### The OEM commands (Table 14.4) -/

/-- The values of LV_STATUS, in the order of Table 14.4. -/
def State.sbStatus (s : State) : List Nat :=
  [s.fld rBOOT_STAT 63 60, s.fld rBOOT_STAT 59 56, b2n s.halted, s.haltCause, s.nwSt.code,
    s.fld rMON_VIEW 63 32, s.viewAt, s.logWr, s.fld rLOG_HEAD 31 0, s.regView rINT_CNT]

/-- LV_STATUS (R474, Table 14.4). -/
def execLvStatus (s : State) : Host.Outcome State Fault Refusal :=
  .next (run (request .base (.dyn fun s => answer .ok s.sbStatus)) s)

/-- Entries held from `seq` onwards, at most `n`, up to the first that is not held. -/
def State.heldFrom (s : State) (seq : Nat) : Nat → List Incident
  | 0 => []
  | n + 1 => match s.heldEntry (seq % 2 ^ 32) with
    | some x => x :: s.heldFrom (seq + 1) n
    | none => []

/-- LV_LOG_READ: the number returned and the bytes of the entries. -/
def logReadA (seq n : Nat) : Act :=
  if n = 0 then answer .unsupported []
  else .dyn fun s =>
    let es := s.heldFrom seq n
    answer .ok (es.length :: (es.flatMap Incident.bytes).map BitVec.toNat)

/-- LV_LOG_READ (R483, Table 14.4). -/
def execLvLogRead (seq : BitVec 32) (count : Fin 33) (s : State) : Host.Outcome State Fault Refusal :=
  .next (run (request .full (logReadA seq.toNat count.val)) s)

/-- LV_LOG_ACK (R484). -/
def execLvLogAck (head : BitVec 32) (s : State) : Host.Outcome State Fault Refusal :=
  .next (run (request .full (.seq (advanceHead true head.toNat) answerOk)) s)

/-- LV_CENSUS_READ: SNAP, then CLEAR, then what the unit's registers and its copy hold. -/
def censusReadA (u : Nat) (snap clear : Bool) : Act :=
  seqs [
    when' snap (censusSnapA u),
    when' clear (censusClearA u),
    .dyn fun s =>
      let c := (s.census u).copy
      answer .ok ([(s.reg rMON_CFG u).toNat, c.min, c.max, sat 64 c.count, sat 64 c.sum] ++ c.bins ++ [sat 32 c.missed])]

/-- LV_CENSUS_READ (R479, Table 14.4). -/
def execLvCensusRead (unit : Fin 64) (snap clear : Bool) (s : State) : Host.Outcome State Fault Refusal :=
  .next (run (request .full (censusReadA unit.val snap clear)) s)

/-- LV_ATTEST: BUSY while an earlier one is open; else the buffer is given up and the request joins the others. -/
def lvAttestA (identity : Bool) (nonce : List Byte) : Act :=
  .dyn fun s =>
    if nonce.length ≠ 32 then answer .unsupported []
    else if s.attQ.any (fun r => r.sideband) then answer .busy []
    else seqs [
      answerOk,
      .upd (.attBuf []),
      .upd (.attBufSt .busy),
      .upd (.attQ (s.attQ ++ [{ sideband := true, identity := identity, nonce := nonce }])),
      attPump 2]

/-- LV_ATTEST (R455, Table 14.4). -/
def execLvAttest (kind : Bool) (nonce : List Byte) (s : State) : Host.Outcome State Fault Refusal :=
  .next (run (request .full (lvAttestA kind nonce)) s)

/-- LV_ATTEST_READ: bytes of what the buffer holds. -/
def attestReadA (off len : Nat) : Act :=
  .dyn fun s =>
    if s.attBufSt = .done then answer .ok (((s.attBuf.drop off).take len).map BitVec.toNat) else answer .notReady []

/-- LV_ATTEST_READ (R473, Table 14.4). -/
def execLvAttestRead (off : Nat) (len : Fin 1025) (s : State) : Host.Outcome State Fault Refusal :=
  .next (run (request .full (attestReadA off len.val)) s)

/-- LV_CS_READ (R473). -/
def execLvCsRead (off : Nat) (s : State) : Host.Outcome State Fault Refusal :=
  .next (run (request .full (csRead true off (fun v => answer .ok [v]))) s)

/-- LV_CS_WRITE: taken only while CS_WR is 1. -/
def lvCsWriteA (off v : Nat) : Act :=
  .dyn fun s =>
    if s.flag rMON_MGMT 63 then .seq answerOk (csWrite off v) else .seq (incA blkMON 3) (answer .error [])

/-- LV_CS_WRITE (R473). -/
def execLvCsWrite (off : Nat) (v : Word) (s : State) : Host.Outcome State Fault Refusal :=
  .next (run (request .full (lvCsWriteA off v.toNat)) s)

/-! ### The view (R474, R475) -/

/-- The state of the module as sensor 0x0700 names it, numbered in the order of Table 14.3. -/
def State.moduleState (s : State) : Nat :=
  if s.bootPhase = .stopped then 2
  else if s.bootPhase ≠ .ready then 0
  else if s.halted then 3
  else if s.updSt = .pause then 5
  else if s.nwSt = .watch then 4
  else 1

/-- A temperature; of a sensor that no command has read, a free value of draw `n` (log 61). -/
def State.tempView (s : State) (n src : Nat) : Nat := (s.temp src).getD (Config.sideband 9 (1024 * n + src) % 256)

/-- What Table 14.3 reports now, by sensor ID. -/
def State.viewNow (s : State) (n : Nat) : List (Nat × Nat) :=
  [(1, s.fld rPWR_IN 31 16), (2, 10 * s.fld rPWR_IN 63 48), (3, s.fld rPWR_THERM 47 40), (4, s.fld rPWR_CAP 47 32),
    (5, s.fld rPWR_CAP 5 0)]
  ++ (List.range 34).map (fun i => (0x100 + 640 + i, s.tempView n (640 + i)))
  ++ (List.range 16).map (fun b => (0x400 + b, (bayIslands b).foldl (fun a i => max a (s.tempView n i)) 0))
  ++ (List.range 16).map (fun b => (0x500 + b, (s.bay b).st.code))
  ++ (List.range 32).map (fun p => (0x600 + p, (s.port p).st.code))
  ++ [(0x700, s.moduleState), (0x701, b2n s.t2On), (0x702, b2n s.t3On), (0x703, s.fld rPWR_GUAR 63 63)]

/-- Management and data path disagree (R475). -/
def disagree (e : Nat) : Act :=
  .dyn fun s => seqs [
    incA blkMON 2,
    addFld rMON_VIEW 15 0 1,
    modEffecter e (fun x => x.map (fun y => { y with pending := s.effPresent e, agreed := true }))]

/-- At a refresh: a present value that no longer is what management wrote, or one that has come to be. -/
def checkEffecter (e : Nat) : Act :=
  .dyn fun s => withSome (s.effecter e) fun x =>
    if x.pending = s.effPresent e then .upd (.effecter e (some { x with agreed := true }))
    else when' x.agreed (disagree e)

/-- VIEW_REFRESH: the view is taken and the epoch counted. -/
def viewRefreshA : Act :=
  ccc (withFresh fun n => .dyn fun s => seqs [
    each (s.viewNow n) (fun (p : Nat × Nat) => .upd (.viewVal p.1 p.2)),
    .upd (.viewAt s.now),
    .upd (.viewStale false),
    setFld rMON_VIEW 63 32 (s.fld rMON_VIEW 63 32 + 1),
    each [effCAP, effBRAKE, effPOWER] checkEffecter])

/-- VIEW_REFRESH (R474, R475). -/
def execViewRefresh (s : State) : Host.Outcome State Fault Refusal := .next (run viewRefreshA s)

/-- VIEW_STALE (R474). -/
def execViewStale (s : State) : Host.Outcome State Fault Refusal := .next (run (.upd (.viewStale true)) s)

/-- EFFECTER_DISAGREE: 10 ms after the write the values still differ. -/
def effecterDisagreeA (e : Nat) : Act :=
  .dyn fun s => withSome (s.effecter e) fun x =>
    when' (decide (x.pending ≠ s.effPresent e)) (disagree e)

/-- EFFECTER_DISAGREE (R475). -/
def execEffecterDisagree (effecter : BitVec 16) (s : State) : Host.Outcome State Fault Refusal :=
  .next (run (effecterDisagreeA effecter.toNat) s)

end Sys2Proof.Machine
end

