-- ==== Sys2Proof/Machine/Dispatch.lean ====
section
/-!
DEFINITION. One arm for each command: its meaning.
-/

namespace Sys2Proof.Machine

/-- The effect of a command on everything but the queue of waiting commands. -/
def exec (i : Instr) (s : State) : Host.Outcome State Fault Refusal :=
  match i with
  | .tokenHop site input feed noise => Sys2Proof.Machine.execTokenHop site input feed noise s
  | .creditReturn site out stream => Sys2Proof.Machine.execCreditReturn site out stream s
  | .tokenConsume site stream opbuf => Sys2Proof.Machine.execTokenConsume site stream opbuf s
  | .islandClockChange isl droop => Sys2Proof.Machine.execIslandClockChange isl droop s
  | .railSettled bay => Sys2Proof.Machine.execRailSettled bay s
  | .bayOn bay => Sys2Proof.Machine.execBayOn bay s
  | .bayOff bay => Sys2Proof.Machine.execBayOff bay s
  | .bayForce bay => Sys2Proof.Machine.execBayForce bay s
  | .bayPowerUpDone bay => Sys2Proof.Machine.execBayPowerUpDone bay s
  | .bayClearDone bay => Sys2Proof.Machine.execBayClearDone bay s
  | .bayPowerDownDone bay => Sys2Proof.Machine.execBayPowerDownDone bay s
  | .bayClkWrite hi v => Sys2Proof.Machine.execBayClkWrite hi v s
  | .stallWatchdog load bay => Sys2Proof.Machine.execStallWatchdog load bay s
  | .tileStart site mismatch => Sys2Proof.Machine.execTileStart site mismatch s
  | .tile site => Sys2Proof.Machine.execTile site s
  | .vec site mismatch => Sys2Proof.Machine.execVec site mismatch s
  | .sfu site mismatch => Sys2Proof.Machine.execSfu site mismatch s
  | .conv site => Sys2Proof.Machine.execConv site s
  | .reduce site mismatch => Sys2Proof.Machine.execReduce site mismatch s
  | .constStep site => Sys2Proof.Machine.execConstStep site s
  | .loopStep site => Sys2Proof.Machine.execLoopStep site s
  | .endStep site => Sys2Proof.Machine.execEndStep site s
  | .aclInj v => Sys2Proof.Machine.execAclInj v s
  | .fabRd site gen found => Sys2Proof.Machine.execFabRd site gen found s
  | .fabWr site gen found => Sys2Proof.Machine.execFabWr site gen found s
  | .t1Rd site gen found => Sys2Proof.Machine.execT1Rd site gen found s
  | .t1Wr site gen found => Sys2Proof.Machine.execT1Wr site gen found s
  | .correctionWriteback site line => Sys2Proof.Machine.execCorrectionWriteback site line s
  | .sramScrub site bank found => Sys2Proof.Machine.execSramScrub site bank found s
  | .sclScrubWrite v => Sys2Proof.Machine.execSclScrubWrite v s
  | .sclInj v => Sys2Proof.Machine.execSclInj v s
  | .run cmd => Sys2Proof.Machine.execRun cmd s
  | .commandStart load => Sys2Proof.Machine.execCommandStart load s
  | .commandComplete load => Sys2Proof.Machine.execCommandComplete load s
  | .exhibitLoad cmd => Sys2Proof.Machine.execExhibitLoad cmd s
  | .exhibitLoadReplace cmd => Sys2Proof.Machine.execExhibitLoadReplace cmd s
  | .exhibitLoadSliced cmd => Sys2Proof.Machine.execExhibitLoadSliced cmd s
  | .configTokenArrive site => Sys2Proof.Machine.execConfigTokenArrive site s
  | .loadConfigured load => Sys2Proof.Machine.execLoadConfigured load s
  | .replaceClose load => Sys2Proof.Machine.execReplaceClose load s
  | .epochMarker site input stream => Sys2Proof.Machine.execEpochMarker site input stream s
  | .switchSlow bay => Sys2Proof.Machine.execSwitchSlow bay s
  | .exhibitRelease cmd => Sys2Proof.Machine.execExhibitRelease cmd s
  | .exhibitReleaseForce cmd => Sys2Proof.Machine.execExhibitReleaseForce cmd s
  | .splitWindow => Sys2Proof.Machine.execSplitWindow s
  | .exhSplitCtlWrite v => Sys2Proof.Machine.execExhSplitCtlWrite v s
  | .exhWdogWrite v => Sys2Proof.Machine.execExhWdogWrite v s
  | .moveFetch move => Sys2Proof.Machine.execMoveFetch move s
  | .moveIngest move => Sys2Proof.Machine.execMoveIngest move s
  | .moveAlloc move => Sys2Proof.Machine.execMoveAlloc move s
  | .moveWriteback move => Sys2Proof.Machine.execMoveWriteback move s
  | .moveDrop move => Sys2Proof.Machine.execMoveDrop move s
  | .moveExport move => Sys2Proof.Machine.execMoveExport move s
  | .moveComplete move => Sys2Proof.Machine.execMoveComplete move s
  | .docentShare docent found => Sys2Proof.Machine.execDocentShare docent found s
  | .cdAccess acc => Sys2Proof.Machine.execCdAccess acc s
  | .csBadAccess write off bytes => Sys2Proof.Machine.execCsBadAccess write off bytes s
  | .csUnassigned write off => Sys2Proof.Machine.execCsUnassigned write off s
  | .windowWrite off v => Sys2Proof.Machine.execWindowWrite off v s
  | .windowLatchRead prefixWindow entry => Sys2Proof.Machine.execWindowLatchRead prefixWindow entry s
  | .censusEnable unit en => Sys2Proof.Machine.execCensusEnable unit en s
  | .censusSnap unit => Sys2Proof.Machine.execCensusSnap unit s
  | .censusClear unit => Sys2Proof.Machine.execCensusClear unit s
  | .logHeadWrite v => Sys2Proof.Machine.execLogHeadWrite v s
  | .logRdSelWrite v => Sys2Proof.Machine.execLogRdSelWrite v s
  | .regWrite off v => Sys2Proof.Machine.execRegWrite off v s
  | .refreshWindow tier unit => Sys2Proof.Machine.execRefreshWindow tier unit s
  | .calibrationWindow tier unit finished => Sys2Proof.Machine.execCalibrationWindow tier unit finished s
  | .t1Scrub addr found => Sys2Proof.Machine.execT1Scrub addr found s
  | .tierScrub tier addr found => Sys2Proof.Machine.execTierScrub tier addr found s
  | .t1cScrubWrite v => Sys2Proof.Machine.execT1cScrubWrite v s
  | .t2cCtlWrite v => Sys2Proof.Machine.execT2cCtlWrite v s
  | .iqStepStart iq => Sys2Proof.Machine.execIqStepStart iq s
  | .iqStepComplete move => Sys2Proof.Machine.execIqStepComplete move s
  | .docentEnable docent => Sys2Proof.Machine.execDocentEnable docent s
  | .docentDisable docent => Sys2Proof.Machine.execDocentDisable docent s
  | .docentForce docent => Sys2Proof.Machine.execDocentForce docent s
  | .docSegWrite v => Sys2Proof.Machine.execDocSegWrite v s
  | .iqEnable iq v => Sys2Proof.Machine.execIqEnable iq v s
  | .iqDisable iq => Sys2Proof.Machine.execIqDisable iq s
  | .iqCancel iq => Sys2Proof.Machine.execIqCancel iq s
  | .iqForce iq => Sys2Proof.Machine.execIqForce iq s
  | .arbPresent arb reqs => Sys2Proof.Machine.execArbPresent arb reqs s
  | .arbBackoffExpire arb req => Sys2Proof.Machine.execArbBackoffExpire arb req s
  | .arbDrop arb => Sys2Proof.Machine.execArbDrop arb s
  | .arbCloseWrite v => Sys2Proof.Machine.execArbCloseWrite v s
  | .arbCloseTenWrite v => Sys2Proof.Machine.execArbCloseTenWrite v s
  | .arbCntClrAll => Sys2Proof.Machine.execArbCntClrAll s
  | .arbCntClrSel => Sys2Proof.Machine.execArbCntClrSel s
  | .svcEnableReady svc v => Sys2Proof.Machine.execSvcEnableReady svc v s
  | .svcEnableStandby svc v => Sys2Proof.Machine.execSvcEnableStandby svc v s
  | .svcDisable svc => Sys2Proof.Machine.execSvcDisable svc s
  | .submit cmd => Sys2Proof.Machine.execSubmit cmd s
  | .cancel cmd => Sys2Proof.Machine.execCancel cmd s
  | .park cmd => Sys2Proof.Machine.execPark cmd s
  | .resume cmd => Sys2Proof.Machine.execResume cmd s
  | .release cmd => Sys2Proof.Machine.execRelease cmd s
  | .prefillStart svc => Sys2Proof.Machine.execPrefillStart svc s
  | .prefillEnd load => Sys2Proof.Machine.execPrefillEnd load s
  | .handoverComplete req => Sys2Proof.Machine.execHandoverComplete req s
  | .decodeStepStart load => Sys2Proof.Machine.execDecodeStepStart load s
  | .candidateRecord rec laneFault => Sys2Proof.Machine.execCandidateRecord rec laneFault s
  | .parkComplete req => Sys2Proof.Machine.execParkComplete req s
  | .resumeFetchComplete req => Sys2Proof.Machine.execResumeFetchComplete req s
  | .requestRelease req => Sys2Proof.Machine.execRequestRelease req s
  | .srvReqFree v => Sys2Proof.Machine.execSrvReqFree v s
  | .srvEnable => Sys2Proof.Machine.execSrvEnable s
  | .srvDisable => Sys2Proof.Machine.execSrvDisable s
  | .srvForce => Sys2Proof.Machine.execSrvForce s
  | .samplerEnable smp => Sys2Proof.Machine.execSamplerEnable smp s
  | .samplerDisable smp => Sys2Proof.Machine.execSamplerDisable smp s
  | .samplerForce smp => Sys2Proof.Machine.execSamplerForce smp s
  | .paramSetWrite off v => Sys2Proof.Machine.execParamSetWrite off v s
  | .dlOpenRestore => Sys2Proof.Machine.execDlOpenRestore s
  | .scannerVisit pair => Sys2Proof.Machine.execScannerVisit pair s
  | .dispatch tenant => Sys2Proof.Machine.execDispatch tenant s
  | .fence cmd => Sys2Proof.Machine.execFence cmd s
  | .fenceComplete cmd => Sys2Proof.Machine.execFenceComplete cmd s
  | .snapshot cmd => Sys2Proof.Machine.execSnapshot cmd s
  | .ucieModuleFail m => Sys2Proof.Machine.execUcieModuleFail m s
  | .queScannerEnable => Sys2Proof.Machine.execQueScannerEnable s
  | .queScannerDisable => Sys2Proof.Machine.execQueScannerDisable s
  | .queScannerForce => Sys2Proof.Machine.execQueScannerForce s
  | .pairEnable pair => Sys2Proof.Machine.execPairEnable pair s
  | .pairDisable pair => Sys2Proof.Machine.execPairDisable pair s
  | .pairForce pair => Sys2Proof.Machine.execPairForce pair s
  | .tenantEnable tenant => Sys2Proof.Machine.execTenantEnable tenant s
  | .tenantDisable tenant => Sys2Proof.Machine.execTenantDisable tenant s
  | .tenantForce tenant => Sys2Proof.Machine.execTenantForce tenant s
  | .tenCtlWrite tenant v => Sys2Proof.Machine.execTenCtlWrite tenant v s
  | .tenantReset tenant => Sys2Proof.Machine.execTenantReset tenant s
  | .sliceSetEnable set v => Sys2Proof.Machine.execSliceSetEnable set v s
  | .sliceEnd set => Sys2Proof.Machine.execSliceEnd set s
  | .preemptMark set => Sys2Proof.Machine.execPreemptMark set s
  | .tenantSwitch set => Sys2Proof.Machine.execTenantSwitch set s
  | .remoteTimeout load => Sys2Proof.Machine.execRemoteTimeout load s
  | .scanOut bay => Sys2Proof.Machine.execScanOut bay s
  | .scanIn bay => Sys2Proof.Machine.execScanIn bay s
  | .scanComplete bay ns => Sys2Proof.Machine.execScanComplete bay ns s
  | .idleFlit port flit => Sys2Proof.Machine.execIdleFlit port flit s
  | .dataFlit port flit found => Sys2Proof.Machine.execDataFlit port flit found s
  | .creditFlit port flit found => Sys2Proof.Machine.execCreditFlit port flit found s
  | .noticeLost port flit found => Sys2Proof.Machine.execNoticeLost port flit found s
  | .noticeCut port flit found => Sys2Proof.Machine.execNoticeCut port flit found s
  | .hello port flit => Sys2Proof.Machine.execHello port flit s
  | .keepalive port flit => Sys2Proof.Machine.execKeepalive port flit s
  | .rate port flit => Sys2Proof.Machine.execRate port flit s
  | .timeReq port flit => Sys2Proof.Machine.execTimeReq port flit s
  | .timeResp port flit => Sys2Proof.Machine.execTimeResp port flit s
  | .quar port flit => Sys2Proof.Machine.execQuar port flit s
  | .kex port flit => Sys2Proof.Machine.execKex port flit s
  | .nak port flit found => Sys2Proof.Machine.execNak port flit found s
  | .replayTimeout port => Sys2Proof.Machine.execReplayTimeout port s
  | .laneLockLost port => Sys2Proof.Machine.execLaneLockLost port s
  | .linkSilence port => Sys2Proof.Machine.execLinkSilence port s
  | .fecThreshold port => Sys2Proof.Machine.execFecThreshold port s
  | .laneTrainingDone port => Sys2Proof.Machine.execLaneTrainingDone port s
  | .laneTrainingTimeout port => Sys2Proof.Machine.execLaneTrainingTimeout port s
  | .laneRetrainDone port => Sys2Proof.Machine.execLaneRetrainDone port s
  | .helloTimer port => Sys2Proof.Machine.execHelloTimer port s
  | .keepaliveTimer port => Sys2Proof.Machine.execKeepaliveTimer port s
  | .dataFlitTimer load stream => Sys2Proof.Machine.execDataFlitTimer load stream s
  | .creditFlitTimer load stream => Sys2Proof.Machine.execCreditFlitTimer load stream s
  | .mcastCut load stream peer => Sys2Proof.Machine.execMcastCut load stream peer s
  | .bundleResume bundle => Sys2Proof.Machine.execBundleResume bundle s
  | .rekeyLimit port => Sys2Proof.Machine.execRekeyLimit port s
  | .kexTimeout port => Sys2Proof.Machine.execKexTimeout port s
  | .timeSyncTimer => Sys2Proof.Machine.execTimeSyncTimer s
  | .ppsEdge => Sys2Proof.Machine.execPpsEdge s
  | .ppsLost => Sys2Proof.Machine.execPpsLost s
  | .portEnable port => Sys2Proof.Machine.execPortEnable port s
  | .portDisable port => Sys2Proof.Machine.execPortDisable port s
  | .portForce port => Sys2Proof.Machine.execPortForce port s
  | .portRetrain port => Sys2Proof.Machine.execPortRetrain port s
  | .portLow port low => Sys2Proof.Machine.execPortLow port low s
  | .lnkPolicyWrite v => Sys2Proof.Machine.execLnkPolicyWrite v s
  | .topologyCommit => Sys2Proof.Machine.execTopologyCommit s
  | .holdEnable en => Sys2Proof.Machine.execHoldEnable en s
  | .holdAt => Sys2Proof.Machine.execHoldAt s
  | .checkRequest bay => Sys2Proof.Machine.execCheckRequest bay s
  | .checkStart bay => Sys2Proof.Machine.execCheckStart bay s
  | .checkEnd bay fail => Sys2Proof.Machine.execCheckEnd bay fail s
  | .checkTimeout bay => Sys2Proof.Machine.execCheckTimeout bay s
  | .capPeriod meas => Sys2Proof.Machine.execCapPeriod meas s
  | .capTargetWrite v => Sys2Proof.Machine.execCapTargetWrite v s
  | .brakeLevelWrite v => Sys2Proof.Machine.execBrakeLevelWrite v s
  | .guaranteeCodeWrite v => Sys2Proof.Machine.execGuaranteeCodeWrite v s
  | .brakeAssert => Sys2Proof.Machine.execBrakeAssert s
  | .brakeRelease => Sys2Proof.Machine.execBrakeRelease s
  | .sensorRead src degC => Sys2Proof.Machine.execSensorRead src degC s
  | .thermAlertRelease => Sys2Proof.Machine.execThermAlertRelease s
  | .thermalCutoff => Sys2Proof.Machine.execThermalCutoff s
  | .vinSag => Sys2Proof.Machine.execVinSag s
  | .vinRecover => Sys2Proof.Machine.execVinRecover s
  | .vinLoss => Sys2Proof.Machine.execVinLoss s
  | .nightWatchEnter => Sys2Proof.Machine.execNightWatchEnter s
  | .nightWatchExit => Sys2Proof.Machine.execNightWatchExit s
  | .modReset => Sys2Proof.Machine.execModReset s
  | .powerOn => Sys2Proof.Machine.execPowerOn s
  | .softReset v => Sys2Proof.Machine.execSoftReset v s
  | .start obs => Sys2Proof.Machine.execStart obs s
  | .refclkTimeout => Sys2Proof.Machine.execRefclkTimeout s
  | .refclkLost => Sys2Proof.Machine.execRefclkLost s
  | .bootLockSet => Sys2Proof.Machine.execBootLockSet s
  | .updateBlock cmd flashOk => Sys2Proof.Machine.execUpdateBlock cmd flashOk s
  | .updateManifest cmd flashOk => Sys2Proof.Machine.execUpdateManifest cmd flashOk s
  | .updateActivate cmd => Sys2Proof.Machine.execUpdateActivate cmd s
  | .updateConfirm cmd => Sys2Proof.Machine.execUpdateConfirm cmd s
  | .updGo => Sys2Proof.Machine.execUpdGo s
  | .updAbort => Sys2Proof.Machine.execUpdAbort s
  | .activationRevert => Sys2Proof.Machine.execActivationRevert s
  | .attestReport => Sys2Proof.Machine.execAttestReport s
  | .attestIdentity => Sys2Proof.Machine.execAttestIdentity s
  | .reservationComplete ok => Sys2Proof.Machine.execReservationComplete ok s
  | .secWinWrite v => Sys2Proof.Machine.execSecWinWrite v s
  | .credValidWrite v => Sys2Proof.Machine.execCredValidWrite v s
  | .credKeyWrite v => Sys2Proof.Machine.execCredKeyWrite v s
  | .mctpPacket pecOk packet => Sys2Proof.Machine.execMctpPacket pecOk packet s
  | .entdaa da => Sys2Proof.Machine.execEntdaa da s
  | .rstdaa => Sys2Proof.Machine.execRstdaa s
  | .enec events => Sys2Proof.Machine.execEnec events s
  | .disec events => Sys2Proof.Machine.execDisec events s
  | .setmwl len => Sys2Proof.Machine.execSetmwl len s
  | .setmrl len => Sys2Proof.Machine.execSetmrl len s
  | .getmwl => Sys2Proof.Machine.execGetmwl s
  | .getmrl => Sys2Proof.Machine.execGetmrl s
  | .getpid => Sys2Proof.Machine.execGetpid s
  | .getbcr => Sys2Proof.Machine.execGetbcr s
  | .getdcr => Sys2Proof.Machine.execGetdcr s
  | .getstatus => Sys2Proof.Machine.execGetstatus s
  | .setEndpointId eid => Sys2Proof.Machine.execSetEndpointId eid s
  | .getEndpointId => Sys2Proof.Machine.execGetEndpointId s
  | .getMctpVersionSupport msgType => Sys2Proof.Machine.execGetMctpVersionSupport msgType s
  | .getMessageTypeSupport => Sys2Proof.Machine.execGetMessageTypeSupport s
  | .gettid => Sys2Proof.Machine.execGettid s
  | .settid tid => Sys2Proof.Machine.execSettid tid s
  | .getpldmversion pldmType => Sys2Proof.Machine.execGetpldmversion pldmType s
  | .getpldmtypes => Sys2Proof.Machine.execGetpldmtypes s
  | .getpldmcommands pldmType => Sys2Proof.Machine.execGetpldmcommands pldmType s
  | .getpdrrepositoryinfo => Sys2Proof.Machine.execGetpdrrepositoryinfo s
  | .getpdr handle => Sys2Proof.Machine.execGetpdr handle s
  | .getsensorreading sensor => Sys2Proof.Machine.execGetsensorreading sensor s
  | .getstatesensorreadings sensor => Sys2Proof.Machine.execGetstatesensorreadings sensor s
  | .setnumericeffectervalue effecter v => Sys2Proof.Machine.execSetnumericeffectervalue effecter v s
  | .getnumericeffectervalue effecter => Sys2Proof.Machine.execGetnumericeffectervalue effecter s
  | .setstateeffecterstates effecter st => Sys2Proof.Machine.execSetstateeffecterstates effecter st s
  | .getstateeffecterstates effecter => Sys2Proof.Machine.execGetstateeffecterstates effecter s
  | .lvStatus => Sys2Proof.Machine.execLvStatus s
  | .lvLogRead seq count => Sys2Proof.Machine.execLvLogRead seq count s
  | .lvLogAck head => Sys2Proof.Machine.execLvLogAck head s
  | .lvCensusRead unit snap clear => Sys2Proof.Machine.execLvCensusRead unit snap clear s
  | .lvAttest kind nonce => Sys2Proof.Machine.execLvAttest kind nonce s
  | .lvAttestRead off len => Sys2Proof.Machine.execLvAttestRead off len s
  | .lvCsRead off => Sys2Proof.Machine.execLvCsRead off s
  | .lvCsWrite off v => Sys2Proof.Machine.execLvCsWrite off v s
  | .viewRefresh => Sys2Proof.Machine.execViewRefresh s
  | .viewStale => Sys2Proof.Machine.execViewStale s
  | .effecterDisagree effecter => Sys2Proof.Machine.execEffecterDisagree effecter s
  | .censusEvent unit raw tenant => Sys2Proof.Machine.execCensusEvent unit raw tenant s
  | .censusSample unit level => Sys2Proof.Machine.execCensusSample unit level s
  | .logDrain => Sys2Proof.Machine.execLogDrain s
  | .ibiHoldoffEnd => Sys2Proof.Machine.execIbiHoldoffEnd s
  | .activationPartsReady => Sys2Proof.Machine.execActivationPartsReady s
  | .nightWatchEntered => Sys2Proof.Machine.execNightWatchEntered s
  | .nightWatchLeft => Sys2Proof.Machine.execNightWatchLeft s
  | .vinReturn => Sys2Proof.Machine.execVinReturn s
  | .aonSupplyLost => Sys2Proof.Machine.execAonSupplyLost s
  | .refclkArrive => Sys2Proof.Machine.execRefclkArrive s

end Sys2Proof.Machine
end

