-- ==== Sys2Proof/Machine/Idle.lean ====
section
/-!
DEFINITION. What one nanosecond brings while no command waits (R8, R310, R361, R380).
-/

namespace Sys2Proof.Machine

/-- One nanosecond: module time moves on, running loads and stalled islands count their cycles, a hold whose time has
come takes effect, and flits that reached this module are taken. A module that has not started has no module time
(DESIGN CHOICE, log 4). -/
def idleTick : Act := whenS State.sbUp (seqs [timeTick, engineTick, stallTick, settleHold, settleLocal])

end Sys2Proof.Machine
end

