-- ==== Sys2Proof/Safety.lean ====
section
/-!
DEFINITION. What claims about the block speak of: the names of its parts, what a command leaves unchanged, and the
canonical form of every table.
-/

namespace Sys2Proof.Machine

/-! ### Frames -/

/-- The parts of `fab`, each under the name of its reader. -/
inductive FabPart where
  | bay | slot | newSlot | site | credit | creditFly | wire | lastGrant | island
  deriving DecidableEq, Repr

/-- Agreement on a part. -/
def FabPart.same (s t : Fab) : FabPart → Prop
  | .bay => t.bays = s.bays
  | .slot => t.slots = s.slots
  | .newSlot => t.newSlots = s.newSlots
  | .site => t.sites = s.sites
  | .credit => t.credits = s.credits
  | .creditFly => t.creditsFly = s.creditsFly
  | .wire => t.wires = s.wires
  | .lastGrant => t.lastGrant = s.lastGrant
  | .island => t.islands = s.islands

/-- The parts of `cell`, each under the name of its reader. -/
inductive CellPart where
  | acell | acc | run16At | lane | laneBad | arrived | got | cout | scell | line
  deriving DecidableEq, Repr

/-- Agreement on a part. -/
def CellPart.same (s t : Cells) : CellPart → Prop
  | .acell => t.acells = s.acells
  | .acc => t.accs = s.accs
  | .run16At => t.runs = s.runs
  | .lane => t.lanes = s.lanes
  | .laneBad => t.lanePoison = s.lanePoison
  | .arrived => t.arr = s.arr
  | .got => t.got = s.got
  | .cout => t.cout = s.cout
  | .scell => t.scells = s.scells
  | .line => t.lines = s.lines

/-- The parts of `exh`, each under the name of its reader. -/
inductive ExhPart where
  | load | imgEntry | split | imgStamp | wdogWait
  deriving DecidableEq, Repr

/-- Agreement on a part. -/
def ExhPart.same (s t : Exh) : ExhPart → Prop
  | .load => t.loads = s.loads
  | .imgEntry => t.imgs = s.imgs
  | .split => t.splits = s.splits
  | .imgStamp => t.stamp = s.stamp
  | .wdogWait => t.wdogWait = s.wdogWait

/-- The parts of `mov`, each under the name of its reader. -/
inductive MovPart where
  | doc | iq | move | nextMove | allocs | calMiss
  deriving DecidableEq, Repr

/-- Agreement on a part. -/
def MovPart.same (s t : Mov) : MovPart → Prop
  | .doc => t.docs = s.docs
  | .iq => t.iqs = s.iqs
  | .move => t.moves = s.moves
  | .nextMove => t.nextMove = s.nextMove
  | .allocs => t.allocs = s.allocs
  | .calMiss => t.calMiss = s.calMiss

/-- The parts of `arb`, each under the name of its reader. -/
inductive ArbPart where
  | arbiter | arbReq
  deriving DecidableEq, Repr

/-- Agreement on a part. -/
def ArbPart.same (s t : Arbs) : ArbPart → Prop
  | .arbiter => t.arbs = s.arbs
  | .arbReq => t.reqs = s.reqs

/-- The parts of `srv`, each under the name of its reader. -/
inductive SrvPart where
  | srvSt | req | pfx | srvStep | svcPins | reqStamp | smp
  deriving DecidableEq, Repr

/-- Agreement on a part. -/
def SrvPart.same (s t : Srv) : SrvPart → Prop
  | .srvSt => t.st = s.st
  | .req => t.reqs = s.reqs
  | .pfx => t.pfxs = s.pfxs
  | .srvStep => t.steps = s.steps
  | .svcPins => t.pins = s.pins
  | .reqStamp => t.stamp = s.stamp
  | .smp => t.smps = s.smps

/-- The parts of `que`, each under the name of its reader. -/
inductive QuePart where
  | pair | intake | cmd | nextCmd | scanner | rotStart | rotLast | ucieUp | ucieRep | ucieOn
  deriving DecidableEq, Repr

/-- Agreement on a part. -/
def QuePart.same (s t : Que) : QuePart → Prop
  | .pair => t.pairs = s.pairs
  | .intake => t.intakes = s.intakes
  | .cmd => t.cmds = s.cmds
  | .nextCmd => t.nextCmd = s.nextCmd
  | .scanner => t.scanner = s.scanner
  | .rotStart => t.rotStart = s.rotStart
  | .rotLast => t.rotLast = s.rotLast
  | .ucieUp => t.ucieUp = s.ucieUp
  | .ucieRep => t.ucieRep = s.ucieRep
  | .ucieOn => t.ucieOn = s.ucieOn

/-- The parts of `ten`, each under the name of its reader. -/
inductive TenPart where
  | tenant | engFrac | slice | scanWord | scanBay | scanDir | scanWant
  deriving DecidableEq, Repr

/-- Agreement on a part. -/
def TenPart.same (s t : Tens) : TenPart → Prop
  | .tenant => t.tenants = s.tenants
  | .engFrac => t.engFrac = s.engFrac
  | .slice => t.slices = s.slices
  | .scanWord => t.scanStore = s.scanStore
  | .scanBay => t.scanBay = s.scanBay
  | .scanDir => t.scanDir = s.scanDir
  | .scanWant => t.scanWant = s.scanWant

/-- The parts of `int`, each under the name of its reader. -/
inductive IntPart where
  | haltCause | holdOn | chk
  deriving DecidableEq, Repr

/-- Agreement on a part. -/
def IntPart.same (s t : Integ) : IntPart → Prop
  | .haltCause => t.halt = s.halt
  | .holdOn => t.holdOn = s.holdOn
  | .chk => t.chks = s.chks

/-- The parts of `log`, each under the name of its reader. -/
inductive LogPart where
  | logWr | logLost | logIntake | logSlot | logLatch | ibiHold | ibiWait
  deriving DecidableEq, Repr

/-- Agreement on a part. -/
def LogPart.same (s t : Log) : LogPart → Prop
  | .logWr => t.wr = s.wr
  | .logLost => t.lost = s.lost
  | .logIntake => t.intake = s.intake
  | .logSlot => t.slots = s.slots
  | .logLatch => t.latch = s.latch
  | .ibiHold => t.ibiHold = s.ibiHold
  | .ibiWait => t.ibiWait = s.ibiWait

/-- The parts of `mon`, each under the name of its reader. -/
inductive MonPart where
  | census | viewVal | viewAt | viewStale | effecter | tid | mwl | mrl
  deriving DecidableEq, Repr

/-- Agreement on a part. -/
def MonPart.same (s t : Mon) : MonPart → Prop
  | .census => t.census = s.census
  | .viewVal => t.view = s.view
  | .viewAt => t.viewAt = s.viewAt
  | .viewStale => t.stale = s.stale
  | .effecter => t.effs = s.effs
  | .tid => t.tid = s.tid
  | .mwl => t.mwl = s.mwl
  | .mrl => t.mrl = s.mrl

/-- The parts of `out`, each under the name of its reader. -/
inductive OutPart where
  | cdRead | cdPoison | resp | ibis | sentFlits | thermAlert
  deriving DecidableEq, Repr

/-- Agreement on a part. -/
def OutPart.same (s t : Out) : OutPart → Prop
  | .cdRead => t.cdRead = s.cdRead
  | .cdPoison => t.cdPoison = s.cdPoison
  | .resp => t.resp = s.resp
  | .ibis => t.ibis = s.ibis
  | .sentFlits => t.flits = s.flits
  | .thermAlert => t.alert = s.alert

/-- The parts of `pwr`, each under the name of its reader. -/
inductive PwrPart where
  | nwSt | pinBrake | capOver | capUnder | temp | hotSince | thermAt
  deriving DecidableEq, Repr

/-- Agreement on a part. -/
def PwrPart.same (s t : Pwr) : PwrPart → Prop
  | .nwSt => t.nw = s.nw
  | .pinBrake => t.pin = s.pin
  | .capOver => t.overN = s.overN
  | .capUnder => t.under = s.under
  | .temp => t.temps = s.temps
  | .hotSince => t.hotAt = s.hotAt
  | .thermAt => t.thermAt = s.thermAt

/-- The parts of `boot`, each under the name of its reader. -/
inductive BootPart where
  | bootPhase | bootCause | startObs | flashAt | journal | jrnNext | cfgSeq | cfgCopy | cfgHash
  deriving DecidableEq, Repr

/-- Agreement on a part. -/
def BootPart.same (s t : Boot) : BootPart → Prop
  | .bootPhase => t.phase = s.phase
  | .bootCause => t.cause = s.cause
  | .startObs => t.obs = s.obs
  | .flashAt => t.flash = s.flash
  | .journal => t.jrn = s.jrn
  | .jrnNext => t.jrnNext = s.jrnNext
  | .cfgSeq => t.cfgSeq = s.cfgSeq
  | .cfgCopy => t.cfgCopy = s.cfgCopy
  | .cfgHash => t.cfgHash = s.cfgHash

/-- The parts of `upd`, each under the name of its reader. -/
inductive UpdPart where
  | updSt | updBegun | updManifest | heldRows | updGoAt
  deriving DecidableEq, Repr

/-- Agreement on a part. -/
def UpdPart.same (s t : UpdS) : UpdPart → Prop
  | .updSt => t.st = s.st
  | .updBegun => t.begun = s.begun
  | .updManifest => t.parts = s.parts
  | .heldRows => t.held = s.held
  | .updGoAt => t.goAt = s.goAt

/-- The parts of `lnk`, each under the name of its reader. -/
inductive LnkPart where
  | port | lnkQ | pausedBundles | stream | localFlits | localLost
  deriving DecidableEq, Repr

/-- Agreement on a part. -/
def LnkPart.same (s t : Lnk) : LnkPart → Prop
  | .port => t.ports = s.ports
  | .lnkQ => t.queues = s.queues
  | .pausedBundles => t.paused = s.paused
  | .stream => t.streams = s.streams
  | .localFlits => t.own = s.own
  | .localLost => t.localLost = s.localLost

/-- The parts of `top`, each under the name of its reader. -/
inductive TopPart where
  | live | timeLocked | holdover | ppsAt | timeParent | timeOffset | timeGood | slewLeft | slewFrac | timeBehind | timeFrac
  deriving DecidableEq, Repr

/-- Agreement on a part. -/
def TopPart.same (s t : Top) : TopPart → Prop
  | .live => t.live = s.live
  | .timeLocked => t.locked = s.locked
  | .holdover => t.holdover = s.holdover
  | .ppsAt => t.ppsAt = s.ppsAt
  | .timeParent => t.parent = s.parent
  | .timeOffset => t.offset = s.offset
  | .timeGood => t.good = s.good
  | .slewLeft => t.slew = s.slew
  | .slewFrac => t.slewFrac = s.slewFrac
  | .timeBehind => t.behind = s.behind
  | .timeFrac => t.frac = s.frac

/-- The parts of `sec`, each under the name of its reader. -/
inductive SecPart where
  | ident | cred | treeHeld | idxTried | attQ | attBuf | attBufSt
  deriving DecidableEq, Repr

/-- Agreement on a part. -/
def SecPart.same (s t : Sec) : SecPart → Prop
  | .ident => t.ident = s.ident
  | .cred => t.creds = s.creds
  | .treeHeld => t.held = s.held
  | .idxTried => t.tried = s.tried
  | .attQ => t.attQ = s.attQ
  | .attBuf => t.buf = s.buf
  | .attBufSt => t.bufSt = s.bufSt

/-- The parts of `win`, each under the name of its reader. -/
inductive WinPart where
  | reqLatch | pfxLatch
  deriving DecidableEq, Repr

/-- Agreement on a part. -/
def WinPart.same (s t : Win) : WinPart → Prop
  | .reqLatch => t.req = s.req
  | .pfxLatch => t.pfx = s.pfx

/-- The parts of a state other than its registers. -/
inductive Fld where
  | now | mem | poison | fresh
  | fab (p : FabPart)
  | cell (p : CellPart)
  | exh (p : ExhPart)
  | mov (p : MovPart)
  | arb (p : ArbPart)
  | srv (p : SrvPart)
  | que (p : QuePart)
  | ten (p : TenPart)
  | int (p : IntPart)
  | log (p : LogPart)
  | mon (p : MonPart)
  | out (p : OutPart)
  | pwr (p : PwrPart)
  | boot (p : BootPart)
  | upd (p : UpdPart)
  | lnk (p : LnkPart)
  | top (p : TopPart)
  | sec (p : SecPart)
  | win (p : WinPart)
  deriving DecidableEq, Repr

/-- Two states agree on a part. -/
def Fld.same (s t : State) : Fld → Prop
  | .now => t.now = s.now
  | .mem => t.mem = s.mem
  | .poison => t.poison = s.poison
  | .fresh => t.fresh = s.fresh
  | .fab p => p.same s.fab t.fab
  | .cell p => p.same s.cell t.cell
  | .exh p => p.same s.exh t.exh
  | .mov p => p.same s.mov t.mov
  | .arb p => p.same s.arb t.arb
  | .srv p => p.same s.srv t.srv
  | .que p => p.same s.que t.que
  | .ten p => p.same s.ten t.ten
  | .int p => p.same s.int t.int
  | .log p => p.same s.log t.log
  | .mon p => p.same s.mon t.mon
  | .out p => p.same s.out t.out
  | .pwr p => p.same s.pwr t.pwr
  | .boot p => p.same s.boot t.boot
  | .upd p => p.same s.upd t.upd
  | .lnk p => p.same s.lnk t.lnk
  | .top p => p.same s.top t.top
  | .sec p => p.same s.sec t.sec
  | .win p => p.same s.win t.win

/-- What may change: some parts, and the registers at some offsets. -/
structure Foot where
  flds : List Fld
  regs : List Nat
  deriving DecidableEq, Repr

/-- From `s` to `t` nothing has changed outside a footprint: the order number, the queue of waiting commands, every part
not listed, and every entry of every register not listed. -/
def Foot.Frame (p : Foot) (s t : State) : Prop :=
  t.variant = s.variant ∧ t.pending = s.pending ∧ (∀ f, f ∉ p.flds → f.same s t) ∧
    ∀ off idx, off < 2 ^ 24 → off ∉ p.regs → t.reg off idx = s.reg off idx

/-- The command answers a next state, and `q` holds of it. -/
def Gives (i : Instr) (s : State) (q : State → Prop) : Prop := ∃ t, exec i s = .next t ∧ q t

/-- In every state the command answers a next state, and nothing outside the footprint has changed. -/
def Foot.Of (p : Foot) (i : Instr) : Prop := ∀ s, Gives i s (p.Frame s)

/-- An in-force register access: no firmware pause holds it back (R439). -/
def State.taken (s : State) : Prop := s.updSt ≠ .pause

/-- Both footprints together. -/
def Foot.add (p q : Foot) : Foot := { flds := p.flds ++ q.flds, regs := p.regs ++ q.regs }

/-- What an incident changes beside the ERR register of its block (R374, R481, R482, R485). -/
def footLog : Foot :=
  { flds := [.log .logWr, .log .logIntake, .log .logLost, .out .ibis, .log .ibiWait, .log .ibiHold], regs := [rINT_CNT] }

/-- What an access that waits for the end of a firmware pause changes (R439). -/
def footWait : Foot := { flds := [.upd .heldRows], regs := [] }


/-- What the parts of an A-cell chain change. -/
def footCells : Foot :=
  { flds := [.fab .credit, .fab .wire, .cell .acell, .cell .acc, .cell .run16At, .cell .lane, .cell .laneBad, .cell .got, .cell .cout, .exh .load, .log .logWr, .log .logLost, .log .logIntake, .log .ibiHold, .log .ibiWait, .out .ibis], regs := [rACL_CNT, rACL_ERR, rACL_ERR_SITE, rINT_CNT] }

/-- What clearing a bay and its tenants changes. -/
def footBay : Foot :=
  { flds := [.fab .bay, .fab .slot, .fab .newSlot, .fab .site, .fab .credit, .fab .creditFly, .fab .wire, .fab .lastGrant, .fab .island, .cell .acell, .cell .acc, .cell .run16At, .cell .lane, .cell .laneBad, .cell .arrived, .cell .got, .cell .cout, .cell .scell, .cell .line, .exh .load, .exh .wdogWait, .ten .tenant, .ten .slice], regs := [rFAB_BAY_FENCE, rFAB_BAY_FORCE] }

/-- What a load and its bays, commands and serving requests change as they end. -/
def footLoad : Foot :=
  { flds := [.mem, .poison, .fresh, .fab .bay, .fab .slot, .fab .newSlot, .fab .site, .fab .credit, .fab .creditFly, .fab .wire, .fab .lastGrant, .fab .island, .cell .acell, .cell .acc, .cell .run16At, .cell .lane, .cell .laneBad, .cell .arrived, .cell .got, .cell .cout, .cell .scell, .cell .line, .exh .load, .exh .wdogWait, .mov .iq, .srv .srvSt, .srv .req, .srv .pfx, .srv .srvStep, .srv .svcPins, .que .pair, .que .intake, .que .cmd, .que .nextCmd, .que .scanner, .ten .tenant, .ten .slice, .ten .scanWord, .ten .scanBay, .ten .scanDir, .ten .scanWant, .out .sentFlits, .upd .updSt, .upd .updBegun, .upd .updManifest, .lnk .port, .lnk .lnkQ, .lnk .stream, .lnk .localFlits, .lnk .localLost], regs := [rDOC_IQ_CTL, rFAB_BAY_FENCE, rFAB_BAY_FORCE, rLNK_ERR, rLNK_NOTICE_CNT, rQUE_PAIR_CFG, rSRV_CTL, rSRV_ERR, rSRV_SVC_CFG, rTEN_ACC_LINK, rTEN_ACC_T1, rTEN_ACC_T2, rTEN_ACC_T3, rTEN_CTL, rTEN_RESET, rUPD_STAT] }

/-- What running work changes: tokens, cells, loads, commands, queues, requests and streams. -/
def footWork : Foot :=
  { flds := [.mem, .poison, .fresh, .fab .bay, .fab .slot, .fab .newSlot, .fab .site, .fab .credit, .fab .creditFly, .fab .wire, .fab .lastGrant, .fab .island, .cell .acell, .cell .acc, .cell .run16At, .cell .lane, .cell .laneBad, .cell .arrived, .cell .got, .cell .cout, .cell .scell, .cell .line, .exh .load, .exh .imgEntry, .exh .wdogWait, .mov .iq, .mov .move, .mov .allocs, .srv .srvSt, .srv .req, .srv .pfx, .srv .srvStep, .srv .svcPins, .que .pair, .que .intake, .que .cmd, .que .nextCmd, .que .scanner, .ten .tenant, .ten .slice, .ten .scanWord, .ten .scanBay, .ten .scanDir, .ten .scanWant, .log .logWr, .log .logLost, .log .logIntake, .log .ibiHold, .log .ibiWait, .out .ibis, .out .sentFlits, .upd .updSt, .upd .updBegun, .upd .updManifest, .upd .heldRows, .lnk .port, .lnk .lnkQ, .lnk .stream, .lnk .localFlits, .lnk .localLost], regs := [rACL_CNT, rACL_ERR, rACL_ERR_SITE, rDOC_ERR, rDOC_IQ_CTL, rEXH_ERR, rEXH_ERR_SITE, rFAB_BAY_FENCE, rFAB_BAY_FORCE, rFAB_ERR, rFAB_ERR_SITE, rINT_CNT, rINT_ERR, rLNK_ERR, rLNK_NOTICE_CNT, rQUE_ERR, rQUE_PAIR_CFG, rSCL_CE_CNT, rSCL_ERR, rSCL_ERR_ADDR, rSCL_ERR_SITE, rSRV_CTL, rSRV_ERR, rSRV_SVC_CFG, rT1C_CE_CNT, rT1C_ERR, rT1C_ERR_ADDR, rT2C_CE_CNT, rT2C_ERR, rT2C_ERR_ADDR, rT3C_CE_CNT, rT3C_ERR, rT3C_ERR_ADDR, rTEN_ACC_LINK, rTEN_ACC_T1, rTEN_ACC_T2, rTEN_ACC_T3, rTEN_CTL, rTEN_ERR, rTEN_RESET, rUPD_STAT] }

/-- What the link switch changes, with all that its deliveries may end. -/
def footLink : Foot :=
  { flds := [.now, .mem, .poison, .fresh, .fab .bay, .fab .slot, .fab .newSlot, .fab .site, .fab .credit, .fab .creditFly, .fab .wire, .fab .lastGrant, .fab .island, .cell .acell, .cell .acc, .cell .run16At, .cell .lane, .cell .laneBad, .cell .arrived, .cell .got, .cell .cout, .cell .scell, .cell .line, .exh .load, .exh .imgEntry, .exh .wdogWait, .mov .iq, .mov .move, .mov .allocs, .srv .srvSt, .srv .req, .srv .pfx, .srv .srvStep, .srv .svcPins, .que .pair, .que .intake, .que .cmd, .que .nextCmd, .que .scanner, .ten .tenant, .ten .slice, .ten .scanWord, .ten .scanBay, .ten .scanDir, .ten .scanWant, .log .logWr, .log .logLost, .log .logIntake, .log .ibiHold, .log .ibiWait, .out .ibis, .out .sentFlits, .upd .updSt, .upd .updBegun, .upd .updManifest, .upd .heldRows, .lnk .port, .lnk .lnkQ, .lnk .pausedBundles, .lnk .stream, .lnk .localFlits, .lnk .localLost, .top .live, .top .timeLocked, .top .timeOffset, .top .timeGood, .top .slewLeft, .top .slewFrac, .top .timeBehind], regs := [rACL_CNT, rACL_ERR, rACL_ERR_SITE, rDOC_ERR, rDOC_IQ_CTL, rEXH_ERR, rEXH_ERR_SITE, rFAB_BAY_FENCE, rFAB_BAY_FORCE, rFAB_ERR, rFAB_ERR_SITE, rINT_CNT, rINT_ERR, rLNK_ERR, rLNK_ERR_PORT, rLNK_NOTICE_CNT, rLNK_PORT_CTL, rLNK_PORT_DROP, rLNK_PORT_FEC, rLNK_PORT_REPLAY, rQUE_ERR, rQUE_PAIR_CFG, rSCL_CE_CNT, rSCL_ERR, rSCL_ERR_ADDR, rSCL_ERR_SITE, rSEC_ERR, rSRV_CTL, rSRV_ERR, rSRV_SVC_CFG, rT1C_CE_CNT, rT1C_ERR, rT1C_ERR_ADDR, rT2C_CE_CNT, rT2C_ERR, rT2C_ERR_ADDR, rT3C_CE_CNT, rT3C_ERR, rT3C_ERR_ADDR, rTEN_ACC_LINK, rTEN_ACC_T1, rTEN_ACC_T2, rTEN_ACC_T3, rTEN_CTL, rTEN_ERR, rTEN_RESET, rTOP_ERR, rUPD_STAT] }

/-- What a halt, a trip or night watch changes. -/
def footHalt : Foot :=
  { flds := [.poison, .fresh, .fab .bay, .fab .slot, .fab .newSlot, .fab .site, .fab .credit, .fab .creditFly, .fab .wire, .fab .lastGrant, .fab .island, .cell .acell, .cell .acc, .cell .run16At, .cell .lane, .cell .laneBad, .cell .arrived, .cell .got, .cell .cout, .cell .scell, .cell .line, .exh .load, .exh .wdogWait, .mov .move, .srv .req, .ten .scanWord, .ten .scanBay, .ten .scanDir, .ten .scanWant, .int .haltCause, .int .chk, .log .logWr, .log .logLost, .log .logIntake, .log .ibiHold, .log .ibiWait, .out .ibis, .out .sentFlits, .out .thermAlert, .pwr .nwSt, .pwr .temp, .pwr .hotSince, .pwr .thermAt, .upd .heldRows, .lnk .port, .lnk .lnkQ, .lnk .pausedBundles, .lnk .localLost], regs := [rFAB_BAY_FENCE, rFAB_BAY_FORCE, rFAB_BAY_ON, rINT_CHK_CTL, rINT_CHK_FAIL, rINT_CNT, rINT_ERR, rLNK_ERR, rLNK_NOTICE_CNT, rPWR_ERR, rPWR_GUAR, rPWR_NW, rPWR_THERM, rSRV_ADMIT_CTL, rT1C_CE_CNT, rT1C_ERR, rT1C_ERR_ADDR, rT2C_CE_CNT, rT2C_ERR, rT2C_ERR_ADDR, rT3C_CE_CNT, rT3C_ERR, rT3C_ERR_ADDR] }

/-- What an itinerary queue and its moves change. -/
def footIq : Foot :=
  { flds := [.mem, .exh .imgEntry, .mov .doc, .mov .iq, .mov .move, .mov .allocs, .que .pair, .que .intake, .que .cmd, .que .nextCmd, .que .scanner, .ten .tenant, .log .logWr, .log .logLost, .log .logIntake, .log .ibiHold, .log .ibiWait, .out .ibis, .upd .heldRows], regs := [rDOC_ERR, rDOC_IQ_CTL, rINT_CNT, rQUE_ERR, rQUE_PAIR_CFG, rSEC_ERR, rTEN_CTL, rTEN_RESET] }

/-! ### Canonical form -/

/-- The memory lists its bytes in canonical form. -/
def Memory.wf (m : List Host.Cell) : Bool := twf memDefault m

/-- Every table of a block of the state is in canonical form. -/
def Fab.wf (x : Fab) : Bool :=
  twf (fun _ => {}) x.bays && twf (fun _ => none) x.slots && twf (fun _ => none) x.newSlots && twf (fun _ => {}) x.sites && twf (fun _ => 0) x.credits && twf (fun _ => 0) x.creditsFly && twf (fun _ => []) x.wires && twf (fun _ => 0) x.lastGrant && twf (fun _ => {}) x.islands

/-- Likewise. -/
def Cells.wf (x : Cells) : Bool :=
  twf (fun _ => {}) x.acells && twf (fun _ => {}) x.accs && twf (fun _ => 0) x.runs && twf (fun _ => 0) x.lanes && twf (fun _ => false) x.lanePoison && twf (fun _ => []) x.arr && twf (fun _ => []) x.got && twf (fun _ => []) x.cout && twf (fun _ => {}) x.scells && twf (fun _ => {}) x.lines

/-- Likewise. -/
def Exh.wf (x : Exh) : Bool :=
  twf (fun _ => {}) x.loads && twf (fun _ => {}) x.imgs && twf (fun _ => {}) x.splits && twf (fun _ => 0) x.wdogWait

/-- Likewise. -/
def Mov.wf (x : Mov) : Bool :=
  twf (fun _ => .enabled) x.docs && twf (fun _ => {}) x.iqs && twf (fun _ => none) x.moves && twf (fun _ => 0) x.calMiss

/-- Likewise. -/
def Arbs.wf (x : Arbs) : Bool :=
  twf (fun _ => {}) x.arbs && twf (fun _ => {}) x.reqs

/-- Likewise. -/
def Srv.wf (x : Srv) : Bool :=
  twf (fun _ => {}) x.reqs && twf (fun _ => {}) x.pfxs && twf (fun _ => none) x.steps && twf (fun _ => []) x.pins && twf (fun _ => {}) x.smps

/-- Likewise. -/
def Que.wf (x : Que) : Bool :=
  twf (fun _ => {}) x.pairs && twf (fun _ => []) x.intakes && twf (fun _ => none) x.cmds

/-- Likewise. -/
def Tens.wf (x : Tens) : Bool :=
  twf (fun _ => {}) x.tenants && twf (fun _ => 0) x.engFrac && twf (fun _ => {}) x.slices && twf (fun _ => 0) x.scanStore

/-- Likewise. -/
def Integ.wf (x : Integ) : Bool :=
  twf (fun _ => {}) x.chks

/-- Likewise. -/
def Log.wf (x : Log) : Bool :=
  twf (fun _ => none) x.slots

/-- Likewise. -/
def Mon.wf (x : Mon) : Bool :=
  twf (fun _ => {}) x.census && twf (fun _ => 0) x.view && twf (fun _ => none) x.effs

/-- Likewise. -/
def Out.wf (x : Out) : Bool :=
  twf (fun _ => []) x.flits

/-- Likewise. -/
def Pwr.wf (x : Pwr) : Bool :=
  twf (fun _ => none) x.temps && twf (fun _ => none) x.hotAt && twf (fun _ => none) x.thermAt

/-- Likewise. -/
def Boot.wf (x : Boot) : Bool :=
  twf (fun _ => none) x.flash

/-- Likewise. -/
def Lnk.wf (x : Lnk) : Bool :=
  twf (fun _ => {}) x.ports && twf (fun _ => []) x.queues && twf (fun _ => {}) x.streams

/-- Likewise. -/
def Sec.wf (x : Sec) : Bool :=
  twf (fun _ => {}) x.creds

/-- Registers, memory and every table in canonical form. -/
def State.wf (s : State) : Bool :=
  twf regReset s.regs && Memory.wf s.mem && twf (fun _ => false) s.poison && s.fab.wf && s.cell.wf && s.exh.wf && s.mov.wf && s.arb.wf && s.srv.wf && s.que.wf && s.ten.wf && s.int.wf && s.log.wf && s.mon.wf && s.out.wf && s.pwr.wf && s.boot.wf && s.lnk.wf && s.sec.wf

/-- No entry of a register has a reserved bit set. -/
def State.clean (s : State) : Prop :=
  ∀ off idx, off < 2 ^ 24 → (s.reg off idx).toNat &&& regMask off = (s.reg off idx).toNat

end Sys2Proof.Machine
end

