-- ==== Sys2Proof/Certificates/Slice0/Obligations.lean ====
section
/-!
DEFINITION. The statements for the provers, from the rules of the spec.
-/

open Sys2Proof Sys2Proof.Machine

namespace Sys2Proof.Machine

/-- From `s` to `t` command `id` has completed with a status, a result and a detail: it is gone, and its completion lies
in the slot of its pair's completion queue that was next, unless that slot lies in the pair's own progress block. Nothing
is said of a command that is under a tenant's reset, or of a halted module (R289, R305, R308, R377). -/
def State.answered (s t : State) (id : Nat) (st : Status) (res det : Nat) : Prop :=
  ∀ c p, s.cmd id = some c → c.pair = some p → c.reset = false → s.halted = false →
    let n := (s.pair p).done
    let a := s.fld rQUE_CQ_BASE 47 0 p + 32 * (n % s.cqSlots p)
    t.cmd id = none ∧ ((a + 32 ≤ s.progAddr p ∨ s.progAddr p + 64 ≤ a) →
      t.bytes a 32 = completionBytes c (phaseOf n (s.cqSlots p)) s.now st.code res det)

/-- The unit has taken command `id`, which `s` held as `c`. -/
def State.took (t : State) (id : Nat) (c : Cmd) : Prop := t.cmd id = some { c with taken := true }

/-- From `s` to `t` the incident `x` has been logged: it takes the next SEQ, waits in the intake of 256 or is lost when
that is full, and its class is counted (R482). -/
def State.logged (s t : State) (x : Inc) : Prop :=
  t.logWr = (s.logWr + 1) % 2 ^ 32 ∧
    (if s.logIntake.length < 256 then ∃ e, t.logIntake = s.logIntake ++ [e] ∧ e.time = s.now ∧ e.seq = s.logWr ∧
        e.cls = x.cls ∧ e.blk = x.blk ∧ e.code = x.code ∧ (x.code = 0xFF → e.arg0 = x.off)
     else t.logLost = sat 16 (s.logLost + 1)) ∧
    t.fld rINT_CNT (16 * x.cls.num + 15) (16 * x.cls.num) =
      sat 16 (s.fld rINT_CNT (16 * x.cls.num + 15) (16 * x.cls.num) + 1)

end Sys2Proof.Machine

namespace Sys2Proof.Machine

/-- Nothing waits to be taken by this module itself. -/
def State.noLocal (s : State) : Prop := s.localLost = [] ∧ s.localFlits = []

/-- No slot of a switch holds a token. -/
def State.slotsEmpty (s : State) (k : Nat) : Prop := ∀ p ∈ s.slotsOf k, p.2.held = 0

/-- No slot of a switch can send: each lacks a credit on some output. -/
def State.slotsBlocked (s : State) (k : Nat) : Prop :=
  ∀ p ∈ s.slotsOf k, ∃ o ∈ bitsOn 9 p.2.outs,
    (o = 8 ∨ (neighbour k o).isSome) ∧ s.credit (k * 2048 + o * 64 + p.2.stream) = 0

/-- A fault at a switch ends no command here and starts no scan. -/
def State.faultAlone (s : State) (b : Nat) : Prop :=
  s.flag rINT_CTL 0 = false ∧ ∀ h, (s.bay b).load = some h → (s.load h).cmd = none

end Sys2Proof.Machine

/-- TOKEN_HOP (R24, R49, R50): nothing at an input that is stopped or in a bay that passes no tokens; otherwise the oldest
token on the wire arrives. -/
def Obligations.TokenHopArrival : Prop :=
  ∀ (site : Site) (inp : Fin 9) (feed : Option Token) (noise tok : Token) (rest : List Token) (s : State),
    let k := siteKey site
    let u := tok.xor noise
    (((s.bay (keyBay k)).passes = false ∨ (s.site k).stopped.testBit inp.val = true) →
      Gives (.tokenHop site inp feed noise) s fun t => t = s) ∧
    ((s.bay (keyBay k)).passes = true → (s.site k).stopped.testBit inp.val = false → s.noLocal →
      s.wire (k * 16 + inp.val) = tok :: rest →
      (Tok.valid u = false → Gives (.tokenHop site inp feed noise) s fun t =>
        t.wire (k * 16 + inp.val) = rest ∧ ∀ j, t.slot j = s.slot j) ∧
      (Tok.valid u = true → Tok.parityOk u = false → s.faultAlone (keyBay k) →
        Gives (.tokenHop site inp feed noise) s fun t =>
          t.wire (k * 16 + inp.val) = rest ∧ (t.site k).stopped.testBit inp.val = true ∧
          (t.site k).held = (s.site k).held ++ [(inp.val, u)] ∧ (t.bay (keyBay k)).st = .faulted ∧
          t.flag rFAB_ERR 0 = true) ∧
      (Tok.valid u = true → Tok.parityOk u = true → s.slotFor k inp.val (Tok.stream u) = none →
        s.slotStaged k inp.val (Tok.stream u) = false → s.faultAlone (keyBay k) →
        Gives (.tokenHop site inp feed noise) s fun t =>
          t.wire (k * 16 + inp.val) = rest ∧ (t.site k).stopped.testBit inp.val = true ∧
          (t.site k).held = (s.site k).held ++ [(inp.val, u)] ∧ (t.bay (keyBay k)).st = .faulted ∧
          t.flag rFAB_ERR 1 = true) ∧
      (∀ i x, Tok.valid u = true → Tok.parityOk u = true → s.slotFor k inp.val (Tok.stream u) = some (i, x) →
        x.q.length < slotOwnDepth k x.inp → x.spilled = [] → s.slotsBlocked k →
        Gives (.tokenHop site inp feed noise) s fun t =>
          t.wire (k * 16 + inp.val) = rest ∧ t.slot (k * 32 + i) = some { x with q := x.q ++ [u] }))

/-- R22, R31, R32: a token leaves its slot when its output has a credit, spends it, and gives one back. -/
def Obligations.SwitchForwards : Prop :=
  (∀ (site : Site) (inp : Fin 9) (feed : Option Token) (noise tok : Token) (rest : List Token) (s : State)
      (i o y : Nat) (x : Slot),
    let k := siteKey site
    let u := tok.xor noise
    (s.bay (keyBay k)).passes = true → (s.site k).stopped.testBit inp.val = false → s.noLocal →
    s.wire (k * 16 + inp.val) = tok :: rest → Tok.valid u = true → Tok.parityOk u = true → Tok.kind u ≠ kindMarker →
    s.slotsOf k = [(i, x)] → x.inp = inp.val → x.stream = Tok.stream u → x.q = [] → x.spilled = [] → bitsOn 9 x.outs = [o] →
    neighbour k o = some y → 0 < s.credit (k * 2048 + o * 64 + x.stream) → ∀ c, senderKey k x.inp x.stream = some c →
    Gives (.tokenHop site inp feed noise) s fun t =>
      t.wire (y * 16 + opposite o) = s.wire (y * 16 + opposite o) ++ [u] ∧ t.slot (k * 32 + i) = some x ∧
      t.credit (k * 2048 + o * 64 + x.stream) = s.credit (k * 2048 + o * 64 + x.stream) - 1 ∧
      t.creditFly c = s.creditFly c + 1) ∧
  (∀ (site : Site) (out : Fin 9) (stream : Fin 64) (s : State),
    let k := siteKey site
    let c := k * 2048 + out.val * 64 + stream.val
    out.val ≠ 8 → s.noLocal →
    (s.slotsEmpty k → s.creditFly c = 0 → Gives (.creditReturn site out stream) s fun t => t = s) ∧
    (s.slotsEmpty k → 0 < s.creditFly c → Gives (.creditReturn site out stream) s fun t =>
      t.credit c = s.credit c + 1 ∧ t.creditFly c = s.creditFly c - 1 ∧ ∀ j, j ≠ c → t.credit j = s.credit j) ∧
    (∀ i u y (x : Slot), 0 < s.creditFly c → s.credit c = 0 → s.slotsOf k = [(i, x)] → x.q = [u] → x.spilled = [] →
      x.stream = stream.val → bitsOn 9 x.outs = [out.val] → neighbour k out.val = some y → Tok.kind u ≠ kindMarker →
      (s.site k).stopped.testBit x.inp = false →
      (senderKey k x.inp x.stream).isSome → Gives (.creditReturn site out stream) s fun t =>
        t.credit c = 0 ∧ t.wire (y * 16 + opposite out.val) = s.wire (y * 16 + opposite out.val) ++ [u] ∧
        t.slot (k * 32 + i) = some { x with q := [] })) ∧
  (∀ (site : Site) (stream : Fin 64) (s : State),
    let k := siteKey site
    let c := k * 2048 + 8 * 64 + stream.val
    let c' := k * 2048 + 9 * 64 + stream.val
    s.noLocal → s.slotsEmpty k → s.cout (k * 64 + stream.val) = [] → Gives (.creditReturn site 8 stream) s fun t =>
      t.credit c = s.credit c + min 1 (s.creditFly c) ∧ t.creditFly c = s.creditFly c - 1 ∧
      t.credit c' = s.credit c' + min 1 (s.creditFly c') ∧ t.creditFly c' = s.creditFly c' - 1)

/-- TOKEN_CONSUME (R29, R51, R55, R161). -/
def Obligations.TokenConsumed : Prop :=
  ∀ (site : Site) (stream : Fin 64) (opbuf : Found) (s : State),
    let k := siteKey site
    let a := k * 64 + stream.val
    (s.arrived a = [] → Gives (.tokenConsume site stream opbuf) s fun t => t = s) ∧
    ∀ tok rest, s.arrived a = tok :: rest →
      ((Tok.kind tok = kindMarker ∨ s.cellWants k stream.val = false ∨ (s.bay (keyBay k)).passes = false) →
        Gives (.tokenConsume site stream opbuf) s fun t => t = s) ∧
      (Tok.kind tok ≠ kindMarker → s.cellWants k stream.val = true → (s.bay (keyBay k)).passes = true →
        (Tok.epoch tok ≠ s.cellEpoch k → Gives (.tokenConsume site stream opbuf) s fun t =>
          t.flag rEXH_ERR 1 = true) ∧
        (Tok.epoch tok = s.cellEpoch k → Gives (.tokenConsume site stream opbuf) s fun t =>
          let bad := !Tok.residueOk tok || decide (Tok.kind tok = kindReserved) ||
            (keyIsA k && decide (opbuf = .uncorrectable))
          t.arrived a = rest ∧ t.got a = s.got a ++ [if bad then Tok.setPoison tok else tok] ∧
          t.creditFly (k * 2048 + 8 * 64 + stream.val) = s.creditFly (k * 2048 + 8 * 64 + stream.val) + 1 ∧
          (Tok.residueOk tok = false → t.flag rFAB_ERR 2 = true) ∧
          (Tok.kind tok = kindReserved → t.flag rFAB_ERR 3 = true)))

/-- Bay power (Table 1.8, R43 to R45). -/
def Obligations.BayPower : Prop :=
  ∀ (bay : Fin 16) (s : State),
    let b := bay.val
    (s.taken → Gives (.bayOn bay) s fun t =>
      (∀ j, j ≠ b → t.bay j = s.bay j) ∧
      if s.halted then t.bay b = s.bay b ∧ t.flag rFAB_BAY_ON b = s.flag rFAB_BAY_ON b
      else t.flag rFAB_BAY_ON b = true ∧ t.bay b =
        (if (s.bay b).st = .off then { s.bay b with st := .powering }
         else if (s.bay b).st = .draining ∧ (s.bay b).act = .none then { s.bay b with st := .allocated } else s.bay b)) ∧
    (s.taken → Gives (.bayOff bay) s fun t =>
      if s.halted then (∀ j, t.bay j = s.bay j) ∧ t.flag rFAB_BAY_ON b = s.flag rFAB_BAY_ON b
      else t.flag rFAB_BAY_ON b = false ∧
        ((s.bay b).act ≠ .none → ∀ j, t.bay j = s.bay j) ∧
        ((s.bay b).act = .none → (s.bay b).st = .idle ∨ (s.bay b).st = .faulted →
          t.bay b = { s.bay b with load := none, act := .downing } ∧ ∀ j, j ≠ b → t.bay j = s.bay j) ∧
        ((s.bay b).act = .none → (s.bay b).st = .allocated →
          (∀ h, (s.bay b).load = some h → (s.load h).cmd.isSome = true) →
          t.bay b = { s.bay b with st := .draining } ∧ ∀ j, j ≠ b → t.bay j = s.bay j)) ∧
    (s.taken → (s.bay b).st ≠ .draining → Gives (.bayForce bay) s fun t =>
      (∀ j, t.bay j = s.bay j) ∧ t.flag rFAB_ERR 4 = true) ∧
    (s.taken → (s.bay b).st = .draining → (∀ h, (s.bay b).load = some h → (s.load h).cmd = none) →
      Gives (.bayForce bay) s fun t => t.flag rFAB_BAY_FORCE b = true ∧
        ((s.bay b).load.isSome → t.bay b = { s.bay b with
          st := .draining, load := none, act := .downing })) ∧
    (Gives (.bayPowerUpDone bay) s fun t =>
      if (s.bay b).st = .powering then
        (t.bay b = if s.flag rFAB_BAY_ON b then { st := .idle } else { st := .powering, act := .downing }) ∧
        (∀ j, j ≠ b → t.bay j = s.bay j) ∧
        (∀ k i, keyBay k = b → i < 32 → t.slot (k * 32 + i) = none) ∧
        (∀ k l, keyBay k = b → l < 8192 → t.line (k * 8192 + l) = {})
      else t = s) ∧
    ((s.bay b).act = .clearing → Gives (.bayClearDone bay) s fun t =>
      (t.bay b = if s.flag rFAB_BAY_ON b then { st := .idle } else { st := .idle, act := .downing }) ∧
      (∀ j, j ≠ b → t.bay j = s.bay j) ∧
      (∀ k i, keyBay k = b → i < 32 → t.slot (k * 32 + i) = none) ∧
      (∀ k l, keyBay k = b → l < 8192 → t.line (k * 8192 + l) = {})) ∧
    ((s.bay b).act ≠ .clearing → Gives (.bayClearDone bay) s fun t => t = s) ∧
    (Gives (.bayPowerDownDone bay) s fun t =>
      if (s.bay b).act = .downing then
        t.bay b = {} ∧ (∀ j, j ≠ b → t.bay j = s.bay j) ∧ t.flag rFAB_BAY_FORCE b = false ∧
        (∀ i ∈ bayIslands b, (t.island i).clk = 0) ∧
        (∀ k i, keyBay k = b → i < 32 → t.slot (k * 32 + i) = none) ∧
        (∀ k l, keyBay k = b → l < 8192 → t.line (k * 8192 + l) = {})
      else t = s)

/-- Clocks (R36, R37, R390) and the stall watchdog (R164). -/
def Obligations.ClocksRailsAndStalls : Prop :=
  (∀ (isl : Fin 640) (droop : Option (Fin 37)) (s : State), Gives (.islandClockChange isl droop) s fun t =>
    let x := s.island isl.val
    let d := match droop with
      | some v => v.val
      | none => 36
    (t.island isl.val).clk = (if (s.bay (islandBay isl.val)).st = .off then 0 else
      min (s.fld (bayClkReg (decide (8 ≤ islandBay isl.val))) (8 * (islandBay isl.val % 8) + 7) (8 * (islandBay isl.val % 8)))
        (min x.limCap (min x.limBrake (min x.limTherm d)))) ∧
    (t.island isl.val).limDroop = d ∧ ∀ j, j ≠ isl.val → t.island j = s.island j) ∧
  (∀ (hi : Bool) (v : Word) (s : State) (b : Fin 8), s.taken → Gives (.bayClkWrite hi v) s fun t =>
    t.fld (bayClkReg hi) (8 * b.val + 7) (8 * b.val) = min 36 (bits (8 * b.val + 7) (8 * b.val) v.toNat)) ∧
  (∀ (bay : Fin 16) (s : State), Gives (.railSettled bay) s fun t =>
    ∀ i, t.island i = if i ∈ bayIslands bay.val then
        { s.island i with
          limCap := s.fld rPWR_CAP 5 0
          limBrake := if s.flag rPWR_BRAKE 47 then s.fld rPWR_BRAKE 37 32 else 36
          limTherm := (s.island i).wantTherm }
      else s.island i) ∧
  (∀ (load bay : Fin 16) (s : State),
    ((s.bay bay.val).load ≠ some load.val ∨ (s.bay bay.val).st = .scanning →
      Gives (.stallWatchdog load bay) s fun t => t = s) ∧
    (∀ id c p, (s.bay bay.val).load = some load.val → (s.bay bay.val).st = .allocated →
      (s.load load.val).cmd = some id → s.cmd id = some c → c.pair = some p → (s.load load.val).st = .running →
      (s.load load.val).torn = false → s.scanWant = [] →
      Gives (.stallWatchdog load bay) s fun t => t.flag rEXH_ERR 2 = true ∧ (t.load load.val).cmd = none ∧
        (s.halted = false → t.cmd id = none)))

namespace Sys2Proof.Machine

/-- Result tokens as a cell sends them on a stream: LAST on the last. -/
def sentToks (st epoch : Nat) (ts : List (Nat × Bool)) : List Token :=
  ((List.range ts.length).zip ts).map (fun (i, (p, q)) => Tok.make p (decide (i + 1 = ts.length)) kindData st epoch q)

/-- Where the A-cell's program goes on after the present word. -/
def ACell.next (a : ACell) : Nat := (a.goto (a.pc + 1)).pc

/-- The local port of the cell has no credit on a stream: what the cell sends waits in the cell. -/
def State.portFull (s : State) (k st : Nat) : Prop := s.credit (k * 2048 + 9 * 64 + st) = 0

end Sys2Proof.Machine

/-- TILE and TILE_START without output (R56, R66 to R72, R126, R138). -/
def Obligations.TileKLoop : Prop :=
  ∀ (site : Site) (s : State), let k := siteKey site; let a := s.acell k
    (s.aRuns k opTILE = none → (Gives (.tile site) s fun t => t = s) ∧
      ∀ mm, Gives (.tileStart site mm) s fun t => t = s) ∧
    ∀ w, s.aRuns k opTILE = some w →
      (a.tile = none → a.acfg.isSome → Gives (.tile site) s fun t => (t.acell k).tile = some w ∧ (t.acell k).pc = a.pc) ∧
      (a.tile = none → a.acfg = none → Gives (.tile site) s fun t => (t.acell k).tile = none ∧ (t.acell k).pc = a.next) ∧
      ∀ cw, a.acfg = some cw → let c := tileCfg cw
        (a.tile = none ∨ s.readsWhole k (tileReads c a w) = false → ∀ mm, Gives (.tileStart site mm) s fun t => t = s) ∧
        (a.tile.isSome → s.readsWhole k (tileReads c a w) = true → c.quart = false → tiPin w = selNone →
          let len := if a.chainOpen then a.chainLen else 0
          let ts := s.readAll k (tileReads c a w) []
          let sa := sideOf c.fa c.smA c.m c.kk (lget [] ts 0) (lget [] ts 2)
          let sb := sideOf c.fb c.smB c.n c.kk (lget [] ts 1) (lget [] ts 3)
          (c.chain < len + c.kk → Gives (.tileStart site none) s fun t => t.flag rACL_ERR 9 = true) ∧
          (len + c.kk ≤ c.chain → tiOut w = selNone → fmtIs16 c.fa = false → a.inj = none →
            Gives (.tileStart site none) s fun t =>
              (∀ i j, i < c.m → j < c.n → t.acc (accKey k a.bank (i * c.n + j)) =
                dotAcc c (if a.chainOpen then s.acc (accKey k a.bank (i * c.n + j)) else {})
                  (lget [] sa.rows i) (lget [] sb.rows j) (lget [] sa.xs i) (lget [] sb.xs j)) ∧
              (∀ st, st < 63 → t.got (k * 64 + st) = (s.got (k * 64 + st)).drop (readCount (tileReads c a w) st)) ∧
              (t.acell k).chainOpen = true ∧ (t.acell k).chainLen = len + c.kk ∧ (t.acell k).tiles = a.tiles + 1 ∧
              (t.acell k).tile = none ∧ (t.acell k).pc = a.next ∧ (t.acell k).bank = a.bank))

/-- VEC, SFU and REDUCE to a stream whose port is full, so that what is sent can be seen waiting (R86 to R90, R95). -/
def Obligations.VectorSteps : Prop :=
  ∀ (site : Site) (mm : Bool) (s : State), let k := siteKey site; let a := s.acell k
    (s.aRuns k opVEC = none ∨ s.readsWhole k a.reads = false → Gives (.vec site mm) s fun t => t = s) ∧
    (s.aRuns k opSFU = none ∨ s.readsWhole k a.reads = false → Gives (.sfu site mm) s fun t => t = s) ∧
    (s.aRuns k opREDUCE = none ∨ s.readsWhole k a.reads = false → Gives (.reduce site mm) s fun t => t = s) ∧
    (∀ w, s.aRuns k opVEC = some w → s.readsWhole k a.reads = true → veX w < 63 → veY w < 63 → veX w ≠ veY w →
      vecUses (veFn w) = [0, 1] → veFn w ≠ 10 → veOut w < 63 → s.portFull k (veOut w) → Gives (.vec site mm) s fun t =>
        let out := (List.range (veN w)).map (fun i =>
          (fmtPack fFP32 ((List.range 16).map (fun l => vecLane (veFn w) (fmtElem fFP32 (s.bufTok k (veX w) i).1 l)
              (lget 0 (fmtUnpack fFP32 (s.bufTok k (veY w) i).1) l) (lget 0 (fmtUnpack fFP32 0) l))),
            (s.bufTok k (veX w) i).2 || (s.bufTok k (veY w) i).2 || mm || decide (a.inj = some 4)))
        t.cout (k * 64 + veOut w) = s.cout (k * 64 + veOut w) ++ sentToks (veOut w) a.epoch out ∧
        t.got (k * 64 + veX w) = (s.got (k * 64 + veX w)).drop (veN w) ∧
        t.got (k * 64 + veY w) = (s.got (k * 64 + veY w)).drop (veN w) ∧
        (t.acell k).pc = a.next ∧ (mm = true → t.flag rACL_ERR 4 = true)) ∧
    (∀ w, s.aRuns k opSFU = some w → s.readsWhole k a.reads = true → sfX w < 63 → sfOut w < 63 →
      s.portFull k (sfOut w) → Gives (.sfu site mm) s fun t =>
        let out := (List.range (sfN w)).map (fun i =>
          (fmtPack fFP32 ((fmtUnpack fFP32 (s.bufTok k (sfX w) i).1).map (sfuEval (sfFn w))),
            (s.bufTok k (sfX w) i).2 || (mm || decide (a.inj = some 5))))
        t.cout (k * 64 + sfOut w) = s.cout (k * 64 + sfOut w) ++ sentToks (sfOut w) a.epoch out ∧
        t.got (k * 64 + sfX w) = (s.got (k * 64 + sfX w)).drop (sfN w) ∧
        (t.acell k).pc = a.next ∧ (mm = true → t.flag rACL_ERR 5 = true)) ∧
    (∀ w, s.aRuns k opREDUCE = some w → s.readsWhole k a.reads = true → reX w < 63 → reOut w < 63 → reFn w = 0 →
      reN w = 1 → s.portFull k (reOut w) → Gives (.reduce site mm) s fun t =>
        let p := s.bufTok k (reX w) 0
        let out := [(fmtPack fFP32 [reduceTree f32Add 4 (fmtUnpack fFP32 p.1)], (mm || decide (a.inj = some 4)) || p.2)]
        t.cout (k * 64 + reOut w) = s.cout (k * 64 + reOut w) ++ sentToks (reOut w) a.epoch out ∧
        t.got (k * 64 + reX w) = (s.got (k * 64 + reX w)).drop 1 ∧ (t.acell k).pc = a.next)

/-- Constants, loops, the end, conversions (R83, R146, R516, R517) and injection (R98). -/
def Obligations.CellProgram : Prop :=
  (∀ (site : Site) (s : State), let k := siteKey site; let a := s.acell k
    (s.aRuns k opCONST = none → Gives (.constStep site) s fun t => t = s) ∧
    (s.aRuns k opLOOP = none → Gives (.loopStep site) s fun t => t = s) ∧
    (∀ w, s.aRuns k opCONST = some w → Gives (.constStep site) s fun t =>
      (t.acell k).consts = lset a.consts (coReg w) (coVal w) ∧ (t.acell k).pc = a.next) ∧
    (∀ w, s.aRuns k opLOOP = some w → Gives (.loopStep site) s fun t =>
      if s.loopCount k w = 0 ∨ loLen w = 0 then (t.acell k).pc = (a.goto (a.pc + 1 + loLen w)).pc
      else (t.acell k).pc = a.pc + 1 ∧ (t.acell k).loops =
        { lo := a.pc + 1, hi := a.pc + 1 + loLen w, left := s.loopCount k w, rule := loRule w } :: a.loops) ∧
    (Gives (.endStep site) s fun t =>
      (t.acell k).ended = (a.ended || decide (a.steps.length ≤ a.pc)) ∧ (t.acell k).pc = a.pc) ∧
    (s.aRuns k opCONV = none ∨ s.readsWhole k a.reads = false → Gives (.conv site) s fun t => t = s) ∧
    (∀ w, s.aRuns k opCONV = some w → s.readsWhole k a.reads = true → cvX w < 63 → cvOut w < 63 →
      s.portFull k (cvOut w) → cvFmt w ≠ fINT32 → cvFmt w < fPARTIAL → fmtIsMx (cvFmt w) = false →
      fmtIsInt (cvFmt w) = false → Gives (.conv site) s fun t =>
        let mode := match a.acfg with
          | some c => acRound c
          | none => 0
        let vals := elemsOf fFP32 ((List.range (cvN w)).map (fun i => s.bufTok k (cvX w) i))
        let out := toToks (cvFmt w) (vals.map (fun p => (fpEncode (cvFmt w) mode (f32 p.1), p.2)))
        t.cout (k * 64 + cvOut w) = s.cout (k * 64 + cvOut w) ++
          sentToks (cvOut w) a.epoch (out.map (fun p => (p.1, p.2 || decide (a.inj = some 4)))) ∧
        t.got (k * 64 + cvX w) = (s.got (k * 64 + cvX w)).drop (cvN w) ∧ (t.acell k).pc = a.next)) ∧
  (∀ (v : Word) (s : State), s.taken →
    let u := v.toNat &&& regMask rACL_INJ
    let k := mkKey (bits 23 23 u) (bits 22 17 u) (bits 16 11 u)
    Gives (.aclInj v) s fun t => ∀ j, (t.acell j).inj =
      if u.testBit 63 = true ∧ s.injOk u = true ∧ j = k then some (bits 10 7 u) else (s.acell j).inj)

namespace Sys2Proof.Machine

/-- A generator's walk after one point. -/
def GenCtx.nextIdx (x : GenCtx) : List Nat :=
  match advance x.counts x.idx 0 with
  | some (i, _) => i
  | none => List.replicate 6 0

end Sys2Proof.Machine

/-- R106, R126, R127. -/
def Obligations.GeneratorsIdle : Prop :=
  ∀ (site : Site) (gen : Fin 2) (found : Found) (s : State), let k := siteKey site
    (s.genReady k gen.val modeFABRD = none → Gives (.fabRd site gen found) s fun t => t = s) ∧
    (s.genReady k gen.val modeFABWR = none → Gives (.fabWr site gen found) s fun t => t = s) ∧
    (s.genReady k gen.val modeT1RD = none → Gives (.t1Rd site gen found) s fun t => t = s) ∧
    (s.genReady k gen.val modeT1WR = none → Gives (.t1Wr site gen found) s fun t => t = s) ∧
    (∀ x l, overPlan x.p x.idx = some l →
      (s.genReady k gen.val modeFABRD = some x → Gives (.fabRd site gen found) s fun t => t.flag rSCL_ERR 6 = true) ∧
      (s.genReady k gen.val modeFABWR = some x → Gives (.fabWr site gen found) s fun t =>
        if s.got (k * 64 + agStream x.p) = [] then t = s else t.flag rSCL_ERR 6 = true) ∧
      (s.genReady k gen.val modeT1RD = some x → Gives (.t1Rd site gen found) s fun t => t.flag rSCL_ERR 6 = true) ∧
      (s.genReady k gen.val modeT1WR = some x → Gives (.t1Wr site gen found) s fun t => t.flag rSCL_ERR 6 = true)) ∧
    (∀ x, s.genReady k gen.val modeFABRD = some x → overPlan x.p x.idx = none → x.scale = none →
      validMask (agFmt x.p) (s.walkValid k x.p x.idx) ≠ 0 → x.inSlot x.line = false →
      Gives (.fabRd site gen found) s fun t => t.flag rSCL_ERR 4 = true)

/-- FAB_RD and FAB_WR of elements (R100, R101, R104, R110, R115, R117). -/
def Obligations.FabricWalks : Prop :=
  ∀ (site : Site) (gen : Fin 2) (found : Found) (s : State) (x : GenCtx), let k := siteKey site
    overPlan x.p x.idx = none → x.scale = none →
    let m := validMask (agFmt x.p) (s.walkValid k x.p x.idx)
    let st := agStream x.p
    let last := unitLast x.counts x.p x.idx
    let key := k * 8192 + x.line.toNat
    (s.genReady k gen.val modeFABRD = some x → s.portFull k st →
      (m = 0 → Gives (.fabRd site gen found) s fun t =>
        t.cout (k * 64 + st) = [Tok.make 0 last kindData st (s.scell k).epoch false] ∧
        (lget {} (t.scell k).gens gen.val).idx = x.nextIdx) ∧
      (m ≠ 0 → x.inSlot x.line = true → (s.line key).poison = false → (s.line key).finds found = .clean →
        Gives (.fabRd site gen found) s fun t =>
          t.cout (k * 64 + st) = [Tok.make ((s.line key).data.toNat &&& m) last kindData st (s.scell k).epoch false] ∧
          (lget {} (t.scell k).gens gen.val).idx = x.nextIdx ∧ t.line key = s.line key) ∧
      (m ≠ 0 → x.inSlot x.line = true → (s.line key).poison = true → Gives (.fabRd site gen found) s fun t =>
        t.cout (k * 64 + st) = [Tok.make 0 last kindData st (s.scell k).epoch true])) ∧
    (∀ tok rest, s.genReady k gen.val modeFABWR = some x → s.got (k * 64 + st) = tok :: rest →
      (m = 0 → Gives (.fabWr site gen found) s fun t => t.got (k * 64 + st) = rest ∧ (∀ j, t.line j = s.line j) ∧
        (lget {} (t.scell k).gens gen.val).idx = x.nextIdx) ∧
      (m ≠ 0 → x.inSlot x.line = true → Gives (.fabWr site gen found) s fun t =>
        t.got (k * 64 + st) = rest ∧ (lget {} (t.scell k).gens gen.val).idx = x.nextIdx ∧
        (∀ j, j ≠ key → t.line j = s.line j) ∧
        (Tok.poison tok = true → t.line key = { poison := true }) ∧
        (Tok.poison tok = false → m = allBits → t.line key = { data := tok.payload }) ∧
        (Tok.poison tok = false → m ≠ allBits → (s.line key).poison = true → t.line key = s.line key) ∧
        (Tok.poison tok = false → m ≠ allBits → (s.line key).poison = false → (s.line key).inj = 0 → found = .clean →
          t.line key =
            { data := BitVec.ofNat 512 (((s.line key).data.toNat &&& (allBits - m)) ||| (tok.payload.toNat &&& m)) })))

/-- T1_RD and T1_WR (R107, R109, R115, R178, R196). -/
def Obligations.T1Walks : Prop :=
  ∀ (site : Site) (gen : Fin 2) (s : State) (x : GenCtx) (b n : Nat), let k := siteKey site
    overPlan x.p x.idx = none → 0 < n →
    let w := s.t1Work x
    let key := k * 8192 + w.2.2.toNat
    w.1 = (List.range n).map (fun i => (((b + i : Nat) : Int), true)) → w.2.1 ≠ 0 → x.inSlot w.2.2 = true →
    overShare (s.shareOf x) (validBeats w.1) = none →
    (s.genReady k gen.val modeT1RD = some x → (∀ i, i < n → s.bad (b + i) = false) →
      Gives (.t1Rd site gen .clean) s fun t =>
        t.line key = { data := BitVec.ofNat 512 (leNat ((List.range n).map (fun i => s.byte (b + i))) &&& w.2.1) } ∧
        (∀ j, j ≠ key → t.line j = s.line j) ∧ (∀ a, t.byte a = s.byte a)) ∧
    (s.genReady k gen.val modeT1RD = some x → (∃ i, i < n ∧ s.bad (b + i) = true) →
      Gives (.t1Rd site gen .clean) s fun t => t.line key = { poison := true }) ∧
    (s.genReady k gen.val modeT1WR = some x → (s.bound x).isSome → b % 32 = 0 → n = 64 → w.2.1 = allBits →
      ((s.line key).poison = false → (s.line key).finds .clean = .clean → Gives (.t1Wr site gen .clean) s fun t =>
        ∀ i, i < 64 → t.byte (b + i) = BitVec.ofNat 8 (bits (8 * i + 7) (8 * i) (s.line key).data.toNat) ∧
          t.bad (b + i) = false) ∧
      ((s.line key).poison = true → Gives (.t1Wr site gen .clean) s fun t => ∀ i, i < 64 → t.bad (b + i) = true))

/-- S-cell upkeep (R100, R102, R103, R130). -/
def Obligations.SramUpkeep : Prop :=
  (∀ (site : Site) (line : Fin 6144) (s : State), let k := siteKey site
    Gives (.correctionWriteback site line) s fun t =>
      if (s.scell k).writeBack.contains line.val then
        t.line (k * 8192 + line.val) = { s.line (k * 8192 + line.val) with inj := 0 } ∧
        (t.scell k).writeBack.contains line.val = false ∧
        ∀ j, j ≠ k * 8192 + line.val → t.line j = s.line j
      else t = s) ∧
  (∀ (site : Site) (bank : Fin 16) (found : Found) (s : State), let k := siteKey site
    let row := lget 0 (s.scell k).scrubRow bank.val
    let l := 16 * row + bank.val
    let x := s.line (k * 8192 + l)
    Gives (.sramScrub site bank found) s fun t =>
      if s.flag rSCL_SCRUB 16 = true ∧ keyIsA k = false ∧ (s.bay (keyBay k)).powered = true ∧
          (s.bay (keyBay k)).st ≠ .scanning then
        (t.scell k).scrubRow = lset (s.scell k).scrubRow bank.val ((row + 1) % 384) ∧
        (x.poison = false → x.finds found = .corrected →
          t.fld rSCL_CE_CNT 31 0 = sat 32 (s.fld rSCL_CE_CNT 31 0 + 1) ∧ (t.scell k).writeBack.contains l = true ∧
          t.line (k * 8192 + l) = x) ∧
        (x.poison = false → x.finds found = .uncorrectable →
          t.line (k * 8192 + l) = { poison := true } ∧ t.flag rSCL_ERR 2 = true)
      else t = s) ∧
  (∀ (v : Word) (s : State), s.taken → Gives (.sclScrubWrite v) s fun t =>
    t.fld rSCL_SCRUB 15 0 = max 256 (bits 15 0 v.toNat) ∧ t.flag rSCL_SCRUB 16 = v.toNat.testBit 16) ∧
  (∀ (v : Word) (s : State), s.taken →
    let u := v.toNat &&& regMask rSCL_INJ
    let k := mkKey (bits 23 23 u) (bits 22 17 u) (bits 16 11 u)
    let key := k * 8192 + bits 36 24 u
    Gives (.sclInj v) s fun t =>
      if u.testBit 63 = true ∧ bits 22 17 u ≤ 39 ∧ bits 16 11 u ≤ 31 ∧ keyIsA k = false ∧ bits 36 24 u ≤ 6143 ∧
          (s.line key).poison = false ∧ (s.bay (keyBay k)).st = .allocated then
        t.line key = { s.line key with inj := min 2 ((s.line key).inj + (if u.testBit 62 = true then 2 else 1)) } ∧
        ∀ j, j ≠ key → t.line j = s.line j
      else ∀ j, t.line j = s.line j)

namespace Sys2Proof.Machine

/-- The verified image that an EXHIBIT_LOAD finds: the whole T1 edge copy at its address belongs to the tenant, and an
entry of the store holds the image with its address and digest (R148). -/
def State.findsImage (s : State) (c : Cmd) (copy e : Nat) : Prop :=
  let addr := leAt c.desc 0x10 6
  s.copyAt addr = some copy ∧
    (∃ o, s.obj copy = some o ∧ o.whole = true ∧ o.owner = c.tenant) ∧
    (List.range 32).find? (fun e => (s.imgEntry e).valid && decide ((s.imgEntry e).image.addr = addr)
      && decide ((s.imgEntry e).image.digest = s.bytes (addr + 0x10) 32)) = some e

/-- EXHIBIT_LOAD's flag byte names the form: REPLACE in byte 0x18, SLICED in byte 0x19. -/
def Cmd.isReplace (c : Cmd) : Bool := (leAt c.desc 0x18 1).testBit 7
def Cmd.isSliced (c : Cmd) : Bool := (leAt c.desc 0x19 1).testBit 0

end Sys2Proof.Machine

/-- RUN (R151, R298) and COMMAND_COMPLETE (R305, R373). -/
def Obligations.RunAndComplete : Prop :=
  (∀ (cmd : Nat) (s : State),
    (s.takes cmd opcRUN = none → Gives (.run cmd) s fun t => t = s) ∧
    ∀ c, s.takes cmd opcRUN = some c → let h := leAt c.desc 0x10 1 % 16
      Gives (.run cmd) s fun t =>
        if (s.load h).st = .free ∨ (s.load h).tenant ≠ c.tenant then s.answered t cmd .shapeInvalid h 0
        else if s.inService h = true then s.answered t cmd .busy h 0
        else t.took cmd c ∧ (t.load h).waiting = (s.load h).waiting ++ [cmd] ∧ ∀ j, j ≠ h → t.load j = s.load j) ∧
  (∀ (load : Fin 16) (s : State), let h := load.val; let ld := s.load h
    (((ld.started && s.loadDone h) = false ∨ s.loadOp h = some opPREFILL) →
      Gives (.commandComplete load) s fun t => t = s) ∧
    (((ld.started && s.loadDone h) = false ∨ s.loadOp h ≠ some opPREFILL) →
      Gives (.prefillEnd load) s fun t => t = s) ∧
    (∀ id c p, (ld.started && s.loadDone h) = true → s.loadOp h ≠ some opPREFILL → ld.cmd = some id →
      s.cmd id = some c → c.pair = some p → ld.causes = 0 → ld.st = .running → ld.torn = false → ld.relForce = none →
      s.scanWant = [] → Gives (.commandComplete load) s fun t =>
        s.answered t id .ok h 0 ∧ (t.load h).cmd = none ∧ (t.load h).started = false ∧
        (t.load h).ends = ld.ends + 1 ∧ (ld.repl = none → (t.load h).st = .ready)))

/-- COMMAND_START (R112, R124, R298). -/
def Obligations.CommandStart : Prop :=
  ∀ (load : Fin 16) (s : State), let h := load.val; let ld := s.load h
    ((ld.cmd.isSome ∧ (ld.started = true ∨ s.stilled = true) ∨ ld.cmd = none ∧ ld.waiting = []) →
      Gives (.commandStart load) s fun t => t = s) ∧
    ∀ id rest c p, ld.cmd = none → ld.waiting = id :: rest → s.cmd id = some c → c.pair = some p →
      (s.mayStart h c = false → Gives (.commandStart load) s fun t => t = s) ∧
      (s.mayStart h c = true → leAt c.desc 0x12 2 = 0 → s.t1Progs h = [] →
        let args := s.bytes (leAt c.desc 0x18 6) 192
        let shape := (List.range 32).map (fun i =>
          if (leAt c.desc 0x14 4).testBit i then some (leAt args (4 * i) 4) else none)
        ((∃ i ∈ s.namedSlots h, lget none shape i = none) → Gives (.commandStart load) s fun t =>
          t.flag rSCL_ERR 7 = true) ∧
        ((∀ i ∈ s.namedSlots h, lget none shape i ≠ none) →
          (∀ r ∈ ld.image.recs, leAt r 0 1 = 1 → lget none shape (leAt r 1 1) = lget none shape (leAt r 2 1)) →
          some 0 ∉ shape → Gives (.commandStart load) s fun t =>
            (t.load h).cmd = some id ∧ (t.load h).started = true ∧ (t.load h).waiting = rest ∧
            (t.load h).shape = shape ∧ (t.load h).st = .running ∧
            ∀ k ∈ keysIn s.cell.acells 1 (s.loadBays h),
              (t.acell k).pc = 0 ∧ (t.acell k).ended = decide ((s.acell k).steps = [])))

/-- EXHIBIT_LOAD and its two other forms (R148, R149, R152, R153, R314). -/
def Obligations.ExhibitLoads : Prop :=
  ∀ (cmd : Nat) (s : State),
    (s.takes cmd opcEXLOAD = none → (Gives (.exhibitLoad cmd) s fun t => t = s) ∧
      (Gives (.exhibitLoadReplace cmd) s fun t => t = s) ∧ (Gives (.exhibitLoadSliced cmd) s fun t => t = s)) ∧
    ∀ c, s.takes cmd opcEXLOAD = some c →
      ((c.isReplace = true ∨ c.isSliced = true ∨ s.holds c.tenant = true ∨ s.stilled = true) →
        Gives (.exhibitLoad cmd) s fun t => t = s) ∧
      ((c.isReplace = false ∨ s.holds c.tenant = true ∨ s.stilled = true) →
        Gives (.exhibitLoadReplace cmd) s fun t => t = s) ∧
      ((c.isReplace = true ∨ c.isSliced = false ∨ s.holds c.tenant = true ∨ s.stilled = true) →
        Gives (.exhibitLoadSliced cmd) s fun t => t = s) ∧
      (s.holds c.tenant = false → s.stilled = false →
        (c.isReplace = false → c.isSliced = false → s.copyAt (leAt c.desc 0x10 6) = none →
          Gives (.exhibitLoad cmd) s fun t => s.answered t cmd .shapeInvalid noIdx 0) ∧
        (c.isReplace = true → (s.load (leAt c.desc 0x18 1 % 16)).repl = none →
          (s.load (leAt c.desc 0x18 1 % 16)).st = .free →
          Gives (.exhibitLoadReplace cmd) s fun t => s.answered t cmd .shapeInvalid noIdx 0) ∧
        ∀ copy e, s.findsImage c copy e → let im := (s.imgEntry e).image
          (c.isReplace = false → c.isSliced = false →
            (s.freeHandle = none ∨ s.placement im (leAt c.desc 0x16 2) = none →
              Gives (.exhibitLoad cmd) s fun t => s.answered t cmd .busy noIdx 0) ∧
            (∀ h b, s.freeHandle = some h → s.placement im (leAt c.desc 0x16 2) = some b → s.pinFull copy = false →
              s.storeFits im = true → Gives (.exhibitLoad cmd) s fun t =>
                t.took cmd c ∧
                t.load h = { st := .loading, tenant := c.tenant, bays := bayRun b im.nBays, entry := e, image := im,
                             loadCmd := some cmd } ∧
                ∀ i, i < im.nBays → t.bay (b + i) = { st := .allocated, load := some h, epoch := 0 })) ∧
          (c.isReplace = true → c.isSliced = false → let h := leAt c.desc 0x18 1 % 16; let ld := s.load h
            ld.repl = none → (ld.st = .ready ∨ ld.st = .running) → ld.tenant = c.tenant → ld.sliced = false →
            popCount 16 ld.bays = im.nBays →
            (firstBays im.nBays im.seam (im.place % 4)).contains (lowBay ld.bays) = true →
            (leAt c.desc 0x16 2 = 0 ∨ leAt c.desc 0x16 2 = ld.bays) → remoteRecs im.recs = [] →
            remoteRecs ld.image.recs = [] → s.pinFull copy = false → Gives (.exhibitLoadReplace cmd) s fun t =>
              t.took cmd c ∧ (t.load h).repl = some { cmd := some cmd, entry := e, image := im, phase := .staging } ∧
              (t.load h).waiting = ld.waiting ++ [cmd] ∧
              (t.load h).st = (if ld.st = .ready then .replacing else ld.st)) ∧
          (c.isReplace = false → c.isSliced = true → ∀ h, s.freeHandle = some h →
            popCount 16 (s.fld rTEN_SLICE_CFG 15 0 (s.setOf c.tenant)) = im.nBays →
            (firstBays im.nBays im.seam (im.place % 4)).contains (lowBay (s.fld rTEN_SLICE_CFG 15 0 (s.setOf c.tenant))) = true →
            s.pinFull copy = false → s.storeFits im = true →
            (∀ j, j < 16 → (s.load j).st = .free ∨ (s.load j).sliced = false ∨ (s.load j).tenant ≠ c.tenant) →
            Gives (.exhibitLoadSliced cmd) s fun t =>
              t.load h = { st := .ready, tenant := c.tenant, entry := e, image := im, sliced := true } ∧
              (∀ b, t.bay b = s.bay b) ∧ s.answered t cmd .ok h 0))

/-- The configuration path (R154), LOAD_CONFIGURED (R149), and the switch to a new configuration (R155 to R159). -/
def Obligations.ConfigurationPath : Prop :=
  (∀ (site : Site) (s : State), let k := siteKey site
    (s.pathHead k = none → Gives (.configTokenArrive site) s fun t => t = s) ∧
    (∀ tok take, s.pathHead k = some (tok, take) →
      let mine := mkKey (cfgDie tok.payload.toNat) (cfgRow tok.payload.toNat) (cfgCol tok.payload.toNat) = k
      Gives (.configTokenArrive site) s fun t =>
        (mine → (t.site k).staged = (s.site k).staged ++ [tok]) ∧
        (¬ mine → (s.site k).cfgQ.length < 8 → (t.site k).cfgQ = (s.site k).cfgQ ++ [tok]) ∧
        (mine ∨ (s.site k).cfgQ.length < 8 →
          match pathBefore k with
          | some y => (t.site y).cfgQ = (s.site y).cfgQ.tail
          | none => t.wire (k * 16 + 15) = (s.wire (k * 16 + 15)).tail) ∧
        (¬ mine → 8 ≤ (s.site k).cfgQ.length → t = s))) ∧
  (∀ (load : Fin 16) (s : State), let h := load.val
    ((s.load h).st ≠ .loading ∨ s.inTransit h = true → Gives (.loadConfigured load) s fun t => t = s) ∧
    (∀ id, (s.load h).st = .loading → s.inTransit h = false → (s.load h).loadCmd = some id → (s.load h).relCmd = none →
      Gives (.loadConfigured load) s fun t =>
        (t.load h).st = .ready ∧ (t.load h).loadCmd = none ∧ s.answered t id .ok h 0)) ∧
  (∀ (load : Fin 16) (s : State), let h := load.val
    ((s.load h).repl = none → Gives (.replaceClose load) s fun t => t = s) ∧
    (∀ r, (s.load h).repl = some r → r.phase = .staging → (s.load h).cmd = none → s.inTransit h = false →
      s.loadWhole h = true → s.stilled = false → (r.cmd = none ∨ (s.load h).waiting.head? = r.cmd) →
      Gives (.replaceClose load) s fun t => ∀ k ∈ s.loadSites h, ∀ q ∈ s.edgeFeeds k,
        marker q.2 (s.bay (keyBay k)).epoch ∈ t.wire (k * 16 + q.1))) ∧
  (∀ (site : Site) (stream : Fin 64) (s : State), let k := siteKey site
    (s.arrived (k * 64 + stream.val) = [] → Gives (.epochMarker site 8 stream) s fun t => t = s) ∧
    (∀ tok rest, s.arrived (k * 64 + stream.val) = tok :: rest → Tok.kind tok = kindMarker →
      (s.bay (keyBay k)).passes = true → keyIsA k = true → (s.acell k).stopped = false →
      Tok.epoch tok = (s.acell k).epoch → bits 3 0 tok.payload.toNat = (s.acell k).epoch →
      ((∃ st ∈ s.cellInputs k, st ≠ stream.val ∧ (s.acell k).marked.testBit st = false) →
        Gives (.epochMarker site 8 stream) s fun t =>
          t.arrived (k * 64 + stream.val) = rest ∧ (t.acell k).marked.testBit stream.val = true ∧
          (t.acell k).epoch = (s.acell k).epoch) ∧
      ((s.site k).switching = true → (s.bay (keyBay k)).epoch = (s.acell k).epoch →
        (∀ st ∈ s.cellInputs k, st = stream.val ∨ (s.acell k).marked.testBit st = true) →
        Gives (.epochMarker site 8 stream) s fun t =>
          t.arrived (k * 64 + stream.val) = rest ∧ (t.acell k).epoch = ((s.acell k).epoch + 1) % 16 ∧
          (t.acell k).steps = blockSteps (s.site k).staged ∧ (t.acell k).pc = 0))) ∧
  (∀ (bay : Fin 16) (s : State), Gives (.switchSlow bay) s fun t =>
    if (s.bay bay.val).st = .switching then t.flag rEXH_ERR 3 = true ∧ ∀ j, t.bay j = s.bay j else t = s)

/-- EXHIBIT_RELEASE (R150, R300), split groups (R165, R166) and the watchdog register (R164). -/
def Obligations.ReleaseAndSplit : Prop :=
  (∀ (cmd : Nat) (s : State),
    (s.takes cmd opcEXREL = none → (Gives (.exhibitRelease cmd) s fun t => t = s) ∧
      (Gives (.exhibitReleaseForce cmd) s fun t => t = s)) ∧
    ∀ c, s.takes cmd opcEXREL = some c → let h := leAt c.desc 0x1A 1 % 16; let ld := s.load h
      let force := (leAt c.desc 0x19 1).testBit 1
      (force = true → Gives (.exhibitRelease cmd) s fun t => t = s) ∧
      (force = false → Gives (.exhibitReleaseForce cmd) s fun t => t = s) ∧
      (force = false → Gives (.exhibitRelease cmd) s fun t =>
        (ld.st = .free ∨ ld.tenant ≠ c.tenant → s.answered t cmd .shapeInvalid h 0) ∧
        (ld.st ≠ .free → ld.tenant = c.tenant → s.inService h = true → s.answered t cmd .busy h 0) ∧
        (ld.st ≠ .free → ld.tenant = c.tenant → s.inService h = false →
          (ld.st = .releasing ∨ ld.relCmd.isSome → t.took cmd c ∧ (t.load h).waiting = ld.waiting ++ [cmd]) ∧
          (ld.st = .loading → ld.relCmd = none → t.took cmd c ∧ t.load h = { ld with relCmd := some cmd }) ∧
          (ld.st ≠ .loading → ld.st ≠ .releasing → ld.relCmd = none → ld.cmd.isSome →
            t.took cmd c ∧ t.load h = { ld with relCmd := some cmd, st := .releasing }))) ∧
      (force = true → Gives (.exhibitReleaseForce cmd) s fun t =>
        (ld.st = .free ∨ ld.tenant ≠ c.tenant → s.answered t cmd .shapeInvalid h 0) ∧
        (ld.st ≠ .free → ld.tenant = c.tenant → ld.st ≠ .releasing → s.answered t cmd .busy h 0) ∧
        (ld.tenant = c.tenant → ld.st = .releasing → ld.cmd = none → s.answered t cmd .ok h 0))) ∧
  (∀ (s : State), Gives .splitWindow s fun t => ∀ g, g < 4 →
    (s.splitOn g = true ∧ s.stilled = false → (t.split g).target = s.splitTarget g) ∧
    (s.splitOn g = false ∨ s.stilled = true → t.split g = s.split g)) ∧
  (∀ (v : Word) (s : State), s.taken → let g := s.fld rEXH_SPLIT_SEL 1 0
    (s.splitOn g = false → v.toNat.testBit 63 = false → Gives (.exhSplitCtlWrite v) s fun t =>
      (t.reg rEXH_SPLIT_CTL g).toNat = v.toNat &&& regMask rEXH_SPLIT_CTL) ∧
    (s.splitOn g = true → Gives (.exhSplitCtlWrite v) s fun t =>
      t.fld rEXH_SPLIT_CTL 42 38 g = bits 42 38 v.toNat ∧ t.fld rEXH_SPLIT_CTL 57 53 g = s.fld rEXH_SPLIT_CTL 57 53 g ∧
      t.fld rEXH_SPLIT_CTL 31 0 g = s.fld rEXH_SPLIT_CTL 31 0 g)) ∧
  (∀ (v : Word) (s : State), s.taken → Gives (.exhWdogWrite v) s fun t =>
    t.fld rEXH_WDOG 15 0 = max 10 (bits 15 0 v.toNat))

namespace Sys2Proof.Machine

/-- Move `m` is over with a status. -/
def State.moveOver (t : State) (m : Nat) (st : Status) : Prop :=
  ∃ y, t.move m = some y ∧ y.phase = .done ∧ y.status = st.code ∧ y.shares = []

/-- The row of each kind of move. -/
def moveRow : MoveKind → Nat → Instr
  | .fetch, m => .moveFetch m
  | .ingest, m => .moveIngest m
  | .alloc, m => .moveAlloc m
  | .writeback, m => .moveWriteback m
  | .drop, m => .moveDrop m
  | .exportStage, m => .moveExport m

end Sys2Proof.Machine

/-- The six kinds of move as they start (R200 to R208). -/
def Obligations.MoveStarts : Prop :=
  ∀ (kind : MoveKind) (m : Nat) (s : State),
    (s.move m = none → Gives (moveRow kind m) s fun t => t = s) ∧
    ∀ x, s.move m = some x →
      ((x.kind ≠ kind ∨ x.phase ≠ .new ∨ s.stilled = true ∨ s.sourceComing m x = true) →
        Gives (moveRow kind m) s fun t => t = s) ∧
      (x.kind = kind → x.phase = .new → s.stilled = false → s.sourceComing m x = false →
        (s.moveCheck x = .shape → Gives (moveRow kind m) s fun t => t.moveOver m .shapeInvalid) ∧
        (s.moveCheck x = .window → Gives (moveRow kind m) s fun t => t.moveOver m .shapeInvalid ∧ t.flag rSEC_ERR 3 = true) ∧
        (s.moveCheck x = .busy → Gives (moveRow kind m) s fun t => t.moveOver m .busy) ∧
        (∀ tier size d o u, s.moveCheck x = .go tier none size → (kind = .fetch ∨ kind = .ingest ∨ kind = .alloc) →
          x.dst = some d → s.obj d = some o →
          lowestRun (s.rivals (o.poolOf tier) (if o.poolOf tier = 0 then o.bays else 0) o.rowLo o.rowHi)
            (s.poolUnits (o.poolOf tier)) (o.unitsOf tier) = some u →
          Gives (moveRow kind m) s fun t =>
            t.allocs = s.allocs ++ [{ copy := d, pool := o.poolOf tier, start := u, count := o.unitsOf tier,
                                      bays := if o.poolOf tier = 0 then o.bays else 0, rowLo := o.rowLo, rowHi := o.rowHi }] ∧
            ∃ y, t.move m = some y ∧ y.made = true ∧ y.size = size ∧ (y.phase = .copying ∨ y.phase = .held)) ∧
        (∀ tier lower size i o, s.moveCheck x = .go tier lower size → 0 < size →
          (kind = .writeback ∨ kind = .exportStage) → x.src = some i → s.obj i = some o → o.tier ≠ 1 → x.made = false →
          x.docs &&& s.docMask ≠ 0 → Gives (moveRow kind m) s fun t =>
            ∃ y, t.move m = some y ∧ y.phase = .copying ∧ y.size = size ∧ y.lower = lower ∧
              y.docs = x.docs &&& s.docMask) ∧
        (∀ tier lower, kind = .writeback → s.moveCheck x = .go tier lower 0 → Gives (moveRow kind m) s fun t =>
          t.moveOver m .ok ∧ t.allocs = s.allocs) ∧
        (∀ i o, kind = .drop → s.moveCheck x = .go 0 none 0 → x.src = some i → s.obj i = some o → s.moveIds = [m] →
          Gives (moveRow kind m) s fun t => t.moveOver m .ok ∧
            t.allocs = s.allocs.filter (fun a => decide (a.copy ≠ i)) ∧
            t.bytes (s.objAddr i) 64 = objBytes (freeObj o)))

/-- DOCENT_SHARE (R215, R227) and MOVE_COMPLETE (R205, R369). -/
def Obligations.MoveWork : Prop :=
  (∀ (docent : Fin 64) (found : List (Nat × Found)) (s : State), let d := docent.val
    (s.doc d = .stopped ∨ s.stilled = true ∨ s.oldestShare d = none → Gives (.docentShare docent found) s fun t => t = s) ∧
    (∀ m n x pos, s.doc d ≠ .stopped → s.stilled = false → s.oldestShare d = some (m, n) → s.move m = some x →
      shareAt (s.docentPieces x d) n = some pos → let off := pos.1 + pos.2.2
      (x.kind = .alloc → 64 ≤ min (s.segment x) (pos.2.1 - pos.2.2) → Gives (.docentShare docent []) s fun t =>
        ∀ i, i < 64 → t.byte (s.dstByte x off + i) = 0) ∧
      (∀ p, x.kind = .exportStage → pos.2.1 - pos.2.2 = 64 → 64 ≤ s.segment x → s.srcByte x off = some p →
        s.bad p = false → s.bad (p + 32) = false →
        (((s.docentPieces x d).map (fun q => q.2)).sum ≤ n + 64) →
        Gives (.docentShare docent []) s fun t =>
          (∀ i, i < 64 → t.byte (x.stage + off + i) = (s.bytes p 32 ++ s.bytes (p + 32) 32).getD i 0) ∧
          t.fld rTEN_ACC_T2 63 0 x.tenant = sat 64 (s.fld rTEN_ACC_T2 63 0 x.tenant + 64) ∧
          ∃ y, t.move m = some y ∧ ∀ q ∈ y.shares, q.1 ≠ d))) ∧
  (∀ (move : Nat) (s : State),
    (s.move move = none → Gives (.moveComplete move) s fun t => t = s) ∧
    ∀ x, s.move move = some x →
      ((x.phase ≠ .copying ∨ x.shares ≠ [] ∨ s.stilled = true) → Gives (.moveComplete move) s fun t => t = s) ∧
      (x.phase = .copying → x.shares = [] → s.stilled = false → x.fresh = false →
        (x.kind = .exportStage → (x.crcWas = none ∨ x.crcWas = some (crc32c (s.written x))) →
          Gives (.moveComplete move) s fun t => t.moveOver move .ok ∧ t.allocs = s.allocs) ∧
        (∀ c, x.crcWas = some c → c ≠ crc32c (s.written x) → Gives (.moveComplete move) s fun t =>
          t.moveOver move .eccUncorrectable ∧ t.flag rINT_ERR 0 = true)))

namespace Sys2Proof.Machine

/-- Selectors and other registers of RW fields only, one entry each, whose write does nothing else. -/
def plainRegs : List Nat :=
  [rFAB_ISL_SEL, rEXH_SPLIT_SEL, rDOC_IQ_SEL, rSRV_SVC_SEL, rQUE_PAIR_SEL, rTEN_SEL, rTEN_SLICE_SEL, rLNK_SEL, rMON_SEL,
   rINT_CTL, rLOG_CTL]

end Sys2Proof.Machine

/-- R286: control space accepts only aligned 64-bit accesses. -/
def Obligations.MisalignedAccess : Prop :=
  ∀ (off bytes : Nat) (s : State), s.taken → (off % 8 ≠ 0 ∨ bytes ≠ 8) →
    let refused (t : State) : Prop := t.flag rQUE_ERR 4 = true ∧ s.logged t { cls := .A, blk := blkQUE, code := 4 } ∧
      (footLog.add { flds := [.out .cdRead, .out .cdPoison], regs := [rQUE_ERR] }).Frame s t
    (Gives (.csBadAccess true off bytes) s refused) ∧
    (Gives (.csBadAccess false off bytes) s fun t => refused t ∧ t.cdRead = List.replicate bytes 0) ∧
    (off < endCS - baseCS → ∀ found, Gives (.cdAccess (.read (baseCS + off) bytes found)) s fun t =>
      refused t ∧ t.cdRead = List.replicate bytes 0) ∧
    (off < endCS - baseCS → ∀ bs, bs.length = bytes → Gives (.cdAccess (.write (baseCS + off) bs)) s refused)

/-- The control die's accesses (R284) and control space (R13, R246, R430, R487, R488). -/
def Obligations.ControlDieAccess : Prop :=
  (∀ (a : Nat) (s : State), s.taken → ¬ (baseCS ≤ a ∧ a < endCS) →
    (∀ n, s.nwSt = .active → s.cdInT2 a n = true → Gives (.cdAccess (.read a n [])) s fun t =>
      t.cdRead = (List.range n).map (fun i => if s.bad (a + i) then 0 else s.byte (a + i)) ∧ t.cdPoison = s.anyBad a n) ∧
    (∀ bs, s.nwSt = .active → s.cdInT2 a bs.length = true → Gives (.cdAccess (.write a bs)) s fun t =>
      t.bytes a bs.length = bs ∧ ∀ b, b < a ∨ a + bs.length ≤ b → t.byte b = s.byte b) ∧
    (∀ n found, (a < baseT2 ∨ baseT3 ≤ a) → s.cdInT2 a n = false → Gives (.cdAccess (.read a n found)) s fun t =>
      t.cdRead = List.replicate n 0 ∧ t.cdPoison = true ∧ t.flag rQUE_ERR 5 = true) ∧
    (∀ bs, (a < baseT2 ∨ baseT3 ≤ a) → s.cdInT2 a bs.length = false → Gives (.cdAccess (.write a bs)) s fun t =>
      t.flag rQUE_ERR 5 = true ∧ ∀ b, t.byte b = s.byte b)) ∧
  (∀ (off : Nat) (s : State), s.taken → off < endCS - baseCS → off % 8 = 0 → (regRow off).isSome →
    Gives (.cdAccess (.read (baseCS + off) 8 [])) s fun t => t.cdRead = leBytes 8 (s.regView off) ∧ t.cdPoison = false) ∧
  (∀ (write : Bool) (off : Nat) (s : State), s.taken → Gives (.csUnassigned write off) s fun t =>
    if unassigned off then
      s.logged t { cls := .A, blk := if off < 0x170000 then off / 0x10000 else 0xFF, off := off } ∧
      (write = false → t.cdRead = List.replicate 8 0)
    else t = s) ∧
  (∀ (off : Nat) (v : Word) (s : State), s.taken → Gives (.windowWrite off v) s fun t =>
    if inTables off then s.logged t { cls := .A, blk := blkSRV, off := off } ∧ (∀ i, t.req i = s.req i) ∧
      ∀ i, t.pfx i = s.pfx i
    else t = s) ∧
  (∀ (i : Nat) (s : State), s.taken →
    (i < 16384 → Gives (.windowLatchRead false i) s fun t =>
      t.reqLatch = some (i, s.reqBytes i) ∧ t.cdRead = leBytes 8 (leAt (s.reqBytes i) 0 8)) ∧
    (i < 12288 → Gives (.windowLatchRead true i) s fun t =>
      t.pfxLatch = some (i, s.pfxBytes i) ∧ t.cdRead = leBytes 8 (leAt (s.pfxBytes i) 0 8))) ∧
  (∀ (off : Nat) (v : Word) (s : State), s.taken → off % 8 = 0 → (regRow off).isSome →
    v.toNat &&& (2 ^ 64 - 1 - regMask off) ≠ 0 → Gives (.regWrite off v) s fun t =>
      exec (.regWrite off (BitVec.ofNat 64 (v.toNat &&& regMask off))) (run (incA (off / 0x10000) 0xFF off) s) = .next t) ∧
  (∀ (off : Nat) (v : Word) (s : State), s.taken → off ∈ plainRegs → Gives (.regWrite off v) s fun t =>
    (t.reg off 0).toNat = v.toNat &&& regMask off) ∧
  (∀ (v : Word) (s : State), s.taken → Gives (.regWrite rFAB_ERR v) s fun t =>
    (∀ j, j < 5 → t.flag rFAB_ERR j = (s.flag rFAB_ERR j && !v.toNat.testBit j)) ∧
    ((s.reg rFAB_ERR).toNat &&& (v.toNat &&& regMask rFAB_ERR) = (s.reg rFAB_ERR).toNat → (t.reg rFAB_ERR_SITE).toNat = 0)) ∧
  (∀ (v : Word) (s : State), s.taken → Gives (.regWrite rT3C_CTL v) s fun t =>
    t.flag rT3C_CTL 1 = v.toNat.testBit 1 ∧
    t.flag rT3C_CTL 0 = if s.flag rBOOT_LOCK 0 then s.flag rT3C_CTL 0 else v.toNat.testBit 0) ∧
  (∀ s : State, s.taken → Gives .bootLockSet s fun t => t.flag rBOOT_LOCK 0 = true)

/-- Census (R476 to R480) and log (R482 to R485). -/
def Obligations.CensusAndLog : Prop :=
  (∀ (unit : Fin 64) (raw : Nat) (tenant : Fin 64) (s : State), let u := unit.val; let c := s.census u
    Gives (.censusEvent unit raw tenant) s fun t =>
      if s.flag rMON_CTL 63 u ∧ s.monEvents u ∧ s.monTakes u tenant.val then
        (if c.intake.length < 16 then t.census u = { c with intake := c.intake ++ [raw] }
         else t.census u = { c with live := { c.live with missed := sat 32 (c.live.missed + 1) } }) ∧
        ∀ j, j ≠ u → t.census j = s.census j
      else t = s) ∧
  (∀ (unit : Fin 64) (level : Nat) (s : State), let u := unit.val; let c := s.census u
    let took (t : State) (raw : Nat) : Prop :=
      let v := min (raw >>> s.fld rMON_CFG 42 38 u) 0xFFFFFFFF
      (t.census u).live.min = min c.live.min v ∧ (t.census u).live.max = max c.live.max v ∧
      (t.census u).live.count = sat 64 (c.live.count + 1) ∧ (t.census u).live.sum = sat 64 (c.live.sum + v)
    Gives (.censusSample unit level) s fun t =>
      (s.flag rMON_CTL 63 u = false → t = s) ∧
      (s.flag rMON_CTL 63 u = true → s.monEvents u = true →
        match c.intake with
        | r :: rest => took t r ∧ (t.census u).intake = rest
        | [] => t = s) ∧
      (s.flag rMON_CTL 63 u = true → s.monEvents u = false → took t (s.monLevel u level))) ∧
  (∀ (unit : Fin 64) (s : State), let u := unit.val; s.taken →
    (Gives (.censusEnable unit true) s fun t =>
      if s.flag rMON_CTL 63 u then t = s
      else if 12 ≤ s.monClass u ∨ edgesRise (s.edges u) = false then
        t.flag rMON_CTL 63 u = false ∧ t.flag rMON_ERR 0 = true
      else t.flag rMON_CTL 63 u = true) ∧
    (Gives (.censusEnable unit false) s fun t => t.flag rMON_CTL 63 u = false ∧ (t.census u).intake = [] ∧
      (t.census u).live = (s.census u).live) ∧
    (Gives (.censusSnap unit) s fun t => t.census u = { s.census u with copy := (s.census u).live, copied := true }) ∧
    (Gives (.censusClear unit) s fun t => t.census u = { s.census u with live := {} })) ∧
  (∀ s : State,
    (s.logIntake = [] → Gives .logDrain s fun t => t = s) ∧
    ∀ e rest, s.logIntake = e :: rest → let ahead := seqAhead e.seq (s.fld rLOG_HEAD 31 0)
      Gives .logDrain s fun t => t.logIntake = rest ∧
        if e.stop = true ∧ 4096 ≤ ahead then t.logLost = sat 16 (s.logLost + 1) ∧ ∀ j, t.logSlot j = s.logSlot j
        else t.logSlot (e.seq % 4096) = some e ∧ (∀ j, j ≠ e.seq % 4096 → t.logSlot j = s.logSlot j) ∧
          (t.fld rLOG_HEAD 31 0 = if 4096 ≤ ahead then seqAhead e.seq 4095 else s.fld rLOG_HEAD 31 0)) ∧
  (∀ (v : Word) (s : State), s.taken → v.toNat < 2 ^ 32 → let head := s.fld rLOG_HEAD 31 0
    Gives (.logHeadWrite v) s fun t =>
      if s.flag rLOG_CTL 62 = false ∧ seqAhead v.toNat head ≤ seqAhead s.logWr head then t.fld rLOG_HEAD 31 0 = v.toNat
      else t.fld rLOG_HEAD 31 0 = head ∧ t.flag rLOG_STAT 30 = true) ∧
  (∀ (v : Word) (s : State), s.taken → bits 31 0 v.toNat ≠ s.fld rLOG_RD_SEL 31 0 →
    Gives (.logRdSelWrite v) s fun t => t.fld rLOG_RD_SEL 33 0 = bits 33 0 v.toNat ∧
      t.logLatch = s.heldEntry (bits 31 0 v.toNat)) ∧
  (∀ s : State, Gives .ibiHoldoffEnd s fun t =>
    match s.ibiWait with
    | some c => t.ibis = s.ibis ++ [c] ∧ t.ibiWait = none ∧ t.ibiHold = s.ibiHold
    | none => t.ibiHold = false ∧ t.ibis = s.ibis)

/-- Upkeep of the tiers (R177, R178, R182, R187 to R189, R210, R376). -/
def Obligations.TierUpkeep : Prop :=
  (∀ (tier : Tier) (unit : Nat) (s : State), Gives (.refreshWindow tier unit) s fun t => t = s) ∧
  (∀ (unit : Fin 16) (finished : Bool) (s : State),
    (Gives (.calibrationWindow .t1 unit finished) s fun t => t = s) ∧
    (unit.val < 8 → s.t2On = true → Gives (.calibrationWindow .t2 unit finished) s fun t =>
      if finished then t.calMiss unit.val = 0 ∧
        (8 ≤ s.calMiss unit.val → t.flag rT2C_STAT (32 + unit.val) = false)
      else t.calMiss unit.val = min 8 (s.calMiss unit.val + 1) ∧
        (s.calMiss unit.val = 7 → t.flag rT2C_STAT (32 + unit.val) = true ∧ t.flag rT2C_ERR 4 = true)) ∧
    (s.t3On = true → Gives (.calibrationWindow .t3 unit finished) s fun t =>
      if finished then t.calMiss (16 + unit.val) = 0 ∧ (8 ≤ s.calMiss (16 + unit.val) → t.flag rT3C_STAT unit.val = true)
      else t.calMiss (16 + unit.val) = min 8 (s.calMiss (16 + unit.val) + 1) ∧
        (s.calMiss (16 + unit.val) = 7 → t.flag rT3C_STAT unit.val = false ∧ t.flag rT3C_ERR 4 = true))) ∧
  (∀ (addr : Nat) (found : Found) (s : State), let a := addr / 32 * 32
    Gives (.t1Scrub addr found) s fun t =>
      if s.scrubs = true ∧ s.flag rT1C_SCRUB 16 = true ∧ s.region a = .t1 ∧ s.anyBad a 32 = false then
        (found = .clean → t = s) ∧
        (found = .corrected → t.fld rT1C_CE_CNT 31 0 = sat 32 (s.fld rT1C_CE_CNT 31 0 + 1) ∧ t.flag rT1C_ERR 0 = true ∧
          t.bad a = s.bad a) ∧
        (found = .uncorrectable → t.bad a = true ∧ t.flag rT1C_ERR 2 = true)
      else t = s) ∧
  (∀ (addr : Nat) (found : Found) (s : State), let a := addr / 64 * 64
    (Gives (.tierScrub .t1 addr found) s fun t => t = s) ∧
    (s.scrubs = true → s.flag rT2C_CTL 48 = true → s.region a = .t2 → s.anyBad a 64 = false →
      (s.inObjects a = false → Gives (.tierScrub .t2 addr found) s fun t =>
        (found = .clean → t = s) ∧ (found = .corrected → t.fld rT2C_CE_CNT 31 0 = sat 32 (s.fld rT2C_CE_CNT 31 0 + 1)) ∧
        (found = .uncorrectable → t.bad a = true ∧ t.bad (a + 32) = true ∧ t.flag rT2C_ERR 2 = true)) ∧
      (s.inObjects a = true → found = .uncorrectable → s.haltCause = 0 → Gives (.tierScrub .t2 addr found) s fun t =>
        t.haltCause = haltOBJECTS ∧ t.bad a = true ∧ ∀ b, b < 16 → t.bay b = {})) ∧
    (s.scrubs = true → s.flag rT3C_CTL 1 = true → s.region a = .t3 → s.anyBad a 64 = false →
      Gives (.tierScrub .t3 addr found) s fun t =>
        (found = .clean → t = s) ∧ (found = .corrected → t.fld rT3C_CE_CNT 31 0 = sat 32 (s.fld rT3C_CE_CNT 31 0 + 1)) ∧
        (found = .uncorrectable → t.bad a = true ∧ t.bad (a + 32) = true ∧ t.flag rT3C_ERR 2 = true))) ∧
  (∀ (v : Word) (s : State), s.taken → Gives (.t1cScrubWrite v) s fun t =>
    t.fld rT1C_SCRUB 15 0 = max 256 (bits 15 0 v.toNat) ∧ t.flag rT1C_SCRUB 16 = v.toNat.testBit 16) ∧
  (∀ (v : Word) (s : State), s.taken → Gives (.t2cCtlWrite v) s fun t =>
    let u := v.toNat &&& regMask rT2C_CTL
    t.flag rT2C_CTL 48 = v.toNat.testBit 48 ∧
    (if s.allocs = [] ∧ ctlFits u = true then
      t.fld rT2C_CTL 63 56 = bits 63 56 v.toNat ∧ t.fld rT2C_CTL 47 20 = bits 47 20 v.toNat
     else t.fld rT2C_CTL 63 56 = s.fld rT2C_CTL 63 56 ∧ t.fld rT2C_CTL 47 20 = s.fld rT2C_CTL 47 20))

/-- The hold (R380) and condition checks (R385 to R387). -/
def Obligations.HoldsAndChecks : Prop :=
  (∀ s : State, s.taken → (Gives (.holdEnable false) s fun t => t.flag rINT_HOLD_CTL 63 = false ∧ t.holdOn = false) ∧
    (Gives (.holdEnable true) s fun t => t.flag rINT_HOLD_CTL 63 = true ∧
      t.holdOn = (s.holdOn || decide ((s.reg rINT_HOLD_AT).toNat ≤ s.now)))) ∧
  (∀ s : State, Gives .holdAt s fun t =>
    if s.flag rINT_HOLD_CTL 63 = true ∧ (s.reg rINT_HOLD_AT).toNat ≤ s.now then t.holdOn = true else t = s) ∧
  (∀ (bay : Fin 16) (s : State), let b := bay.val
    (s.taken → Gives (.checkRequest bay) s fun t =>
      if (s.chk b).res = .waiting ∨ (s.chk b).res = .testing then t = s
      else if (s.bay b).st = .off then (t.chk b).res = .off ∧ t.flag rINT_CHK_CTL b = false
      else t.chk b = { res := .waiting, since := s.now } ∧ t.flag rINT_CHK_CTL b = true) ∧
    (Gives (.checkStart bay) s fun t =>
      if (s.chk b).res = .waiting ∧ ((s.bay b).st = .idle ∨ (s.bay b).st = .faulted) ∧ (s.bay b).act = .none ∧
          (s.bay b).load = none ∧ s.slicedBays.testBit b = false then
        t.bay b = { s.bay b with st := .testing, ret := (s.bay b).st } ∧ (t.chk b).res = .testing
      else t = s) ∧
    ((s.bay b).st ≠ .testing → ∀ f, Gives (.checkEnd bay f) s fun t => t = s) ∧
    ((s.bay b).st = .testing → s.scanWant.contains b = false →
      (Gives (.checkEnd bay none) s fun t => (t.chk b).res = .passed ∧ t.flag rINT_CHK_CTL b = false ∧
        t.bay b = (if s.flag rFAB_BAY_ON b then { st := .idle } else { st := .idle, act := .downing })) ∧
      (∀ f, Gives (.checkEnd bay (some f)) s fun t => (t.chk b).res = .failed ∧ (t.bay b).st = .faulted ∧
        t.flag rINT_ERR 3 = true)) ∧
    (Gives (.checkTimeout bay) s fun t =>
      if (s.chk b).res = .waiting then (t.chk b).res = .busy ∧ t.flag rINT_ERR 4 = true ∧ t.bay b = s.bay b else t = s))

/-- Itinerary queues (R216 to R222, R225, R230). -/
def Obligations.ItineraryQueues : Prop :=
  (∀ (iq : Fin 64) (s : State), let q := iq.val; let x := s.iq q
    ((x.st ≠ .running ∨ x.cancelling = true ∨ s.stilled = true ∨ s.holds (s.iqTenant q) = true) →
      Gives (.iqStepStart iq) s fun t => t = s) ∧
    (x.st = .running → x.cancelling = false → s.stilled = false → s.holds (s.iqTenant q) = false →
      (s.iqListMode q = true → x.next < s.iqCount q → s.recordFits (s.iqStep q x.next) x.next = false →
        Gives (.iqStepStart iq) s fun t => (t.iq q).st = .stopped ∧ (t.iq q).lastStep = x.next ∧
          (t.iq q).lastStatus = Status.shapeInvalid.code ∧ t.flag rDOC_ERR 4 = true) ∧
      (∀ k, s.iqListMode q = true → x.next < s.iqCount q → s.recordFits (s.iqStep q x.next) x.next = true →
        s.fired q (s.iqStep q x.next) = true → x.fly.length < s.iqLimit q →
        moveKindOf (s.iqStep q x.next).kind = some k → Gives (.iqStepStart iq) s fun t =>
          (t.iq q).next = x.next + 1 ∧ (t.iq q).fly = x.fly ++ [s.nextMove] ∧ t.nextMove = s.nextMove + 1 ∧
          ∃ y, t.move s.nextMove = some y ∧ y.kind = k ∧ y.src = idxOf (s.iqStep q x.next).src ∧
            y.dst = idxOf (s.iqStep q x.next).dst ∧ y.tenant = s.iqTenant q ∧ y.step = x.next ∧ y.phase = .new) ∧
      (s.iqListMode q = true → x.next < s.iqCount q → s.recordFits (s.iqStep q x.next) x.next = true →
        (s.fired q (s.iqStep q x.next) = false ∨ s.iqLimit q ≤ x.fly.length) →
        Gives (.iqStepStart iq) s fun t => t = s) ∧
      (∀ id rest c k, s.iqListMode q = false → x.cmds = id :: rest → x.fly.length < s.iqLimit q → s.cmd id = some c →
        moveKindOf (leAt c.desc 0x10 1) = some k → Gives (.iqStepStart iq) s fun t =>
          (t.iq q).cmds = rest ∧ (t.iq q).fly = x.fly ++ [s.nextMove] ∧
          ∃ y, t.move s.nextMove = some y ∧ y.kind = k ∧ y.cmd = some id ∧ y.phase = .new))) ∧
  (∀ (m : Nat) (s : State),
    (s.move m = none ∨ s.halted = true ∨ (∃ x, s.move m = some x ∧ x.phase ≠ .done) →
      Gives (.iqStepComplete m) s fun t => t = s) ∧
    ∀ x, s.move m = some x → s.halted = false → x.phase = .done →
      (Gives (.iqStepComplete m) s fun t => t.move m = none) ∧
      (x.cmd = none → x.snap = none → s.iqListMode x.iq = true → (s.iq x.iq).st = .running →
        x.status ≠ Status.ok.code → (x.status ≠ Status.busy.code ∨ x.skipBusy = false) →
        Gives (.iqStepComplete m) s fun t => (t.iq x.iq).lastStatus = x.status ∧ (t.iq x.iq).lastStep = x.step ∧
          t.flag rDOC_ERR 4 = true)) ∧
  (∀ (iq : Fin 64) (v : Word) (s : State), let q := iq.val; s.taken →
    (s.iqSettled q = false → s.tenantOn (s.iqTenant q) = false → Gives (.iqEnable iq v) s fun t =>
      t.iq q = s.iq q ∧ t.flag rDOC_ERR 5 = true) ∧
    ((s.iq q).st = .off → v.toNat.testBit 60 = true → s.tenantOn (bits 53 48 v.toNat) = true →
      Gives (.iqEnable iq v) s fun t => (t.iq q).st = .running ∧ (t.iq q).cancelling = false ∧
        t.flag rDOC_IQ_CTL 63 q = true ∧ t.fld rDOC_IQ_CTL 53 48 q = bits 53 48 v.toNat ∧
        t.fld rDOC_IQ_CTL 46 40 q = max 1 (min 64 (bits 46 40 v.toNat)))) ∧
  (∀ (iq : Fin 64) (s : State), let q := iq.val; s.taken →
    (Gives (.iqDisable iq) s fun t => t.flag rDOC_IQ_CTL 63 q = false ∧
      (t.iq q).st = if (s.iq q).st = .running ∧ (s.iq q).fly ≠ [] then .draining
        else if (s.iq q).st = .draining then .draining else .off) ∧
    ((s.iq q).st = .off → s.iqListMode q = true → Gives (.iqCancel iq) s fun t => (t.iq q).st = .done ∧
      (t.iq q).next = max (s.iq q).next (s.iqCount q)) ∧
    ((s.iq q).st = .done ∨ (s.iq q).st = .stopped → Gives (.iqCancel iq) s fun t => t.iq q = s.iq q) ∧
    ((s.iq q).st ≠ .draining → Gives (.iqForce iq) s fun t => (∀ j, t.iq j = s.iq j) ∧
      s.logged t { cls := .A, blk := blkDOC, off := rDOC_IQ_CTL }) ∧
    ((s.iq q).st = .draining → Gives (.iqForce iq) s fun t => t.flag rDOC_ERR 3 = true))

/-- Docents (R229, R237) and arbiters (R234 to R241). -/
def Obligations.DocentsAndArbiters : Prop :=
  (∀ (docent : Fin 64) (s : State), let d := docent.val; s.taken →
    (Gives (.docentEnable docent) s fun t => t.flag rDOC_EN d = true ∧ t.doc d = .enabled) ∧
    (Gives (.docentDisable docent) s fun t => t.flag rDOC_EN d = false ∧
      t.doc d = if s.doc d = .enabled then (if s.docBusy d then .draining else .stopped) else s.doc d) ∧
    (s.doc d ≠ .draining → Gives (.docentForce docent) s fun t => (∀ j, t.doc j = s.doc j) ∧ t.flag rDOC_ERR 0 = true) ∧
    (s.doc d = .draining → Gives (.docentForce docent) s fun t => t.flag rDOC_ERR 3 = true)) ∧
  (∀ (v : Word) (s : State), s.taken → Gives (.docSegWrite v) s fun t =>
    t.fld rDOC_SEG 31 16 = max 4 (min 1024 (bits 31 16 v.toNat)) ∧
    t.fld rDOC_SEG 15 0 = max 4 (min 1024 (bits 15 0 v.toNat))) ∧
  (∀ (arb : Fin 306) (r : Fin 128) (s : State), let a := arb.val
    (s.arbiter a).holder = none → s.arbClosed a = false → arbHas a r.val = true → s.arbShut a r.val = false →
    (s.arbReq (arbKey a r.val)).backing = false →
    ((s.arbiter a).heirs = [] → Gives (.arbPresent arb [r]) s fun t => t.arbiter a = { holder := some r.val, heirs := [] } ∧
      t.arbReq (arbKey a r.val) = {} ∧
      (arbUser a = false → t.fld rARB_GRANTS 47 0 (arbKey a r.val) =
        sat 48 (s.fld rARB_GRANTS 47 0 (arbKey a r.val) + 1))) ∧
    ((s.arbiter a).heirs = [] → ∀ r' : Fin 128, r.val < r'.val → arbHas a r'.val = true → s.arbShut a r'.val = false →
      (s.arbReq (arbKey a r'.val)).backing = false → Gives (.arbPresent arb [r, r']) s fun t =>
        t.arbiter a = { holder := some r.val, heirs := [r'.val] } ∧ (t.arbReq (arbKey a r'.val)).backing = true ∧
        (t.arbReq (arbKey a r'.val)).losses = (s.arbReq (arbKey a r'.val)).losses + 1) ∧
    (∀ h rest, (s.arbiter a).heirs = h :: rest → h ≠ r.val → Gives (.arbPresent arb [r]) s fun t =>
      (t.arbiter a).holder = none ∧ r.val ∈ (t.arbiter a).heirs ∧ (t.arbReq (arbKey a r.val)).backing = true)) ∧
  (∀ (arb : Fin 306) (r : Fin 128) (s : State), let a := arb.val; let k := arbKey a r.val
    ((s.arbReq k).backing = false → Gives (.arbBackoffExpire arb r) s fun t => t = s) ∧
    ((s.arbReq k).backing = true → (s.arbiter a).holder = none → s.arbClosed a = false → arbHas a r.val = true →
      s.arbShut a r.val = false → (s.arbiter a).heirs.head? = some r.val → Gives (.arbBackoffExpire arb r) s fun t =>
        (t.arbiter a).holder = some r.val ∧ r.val ∉ (t.arbiter a).heirs ∧ t.arbReq k = {}) ∧
    (Gives (.arbDrop arb) s fun t => t.arbiter a = { s.arbiter a with holder := none } ∧
      ∀ j, j ≠ a → t.arbiter j = s.arbiter j)) ∧
  (∀ (v : Word) (s : State), s.taken →
    (Gives (.arbCloseWrite v) s fun t => t.fld rARB_CLOSE 1 0 = bits 1 0 v.toNat) ∧
    (Gives (.arbCloseTenWrite v) s fun t => t.reg rARB_CLOSE_TEN 0 = v ∧
      ∀ a r, (a = 304 ∨ a = 305) → v.toNat.testBit r = true → r ∉ (t.arbiter a).heirs)) ∧
  (∀ s : State, s.taken →
    (Gives .arbCntClrAll s fun t => ∀ k, (t.reg rARB_GRANTS k).toNat = 0 ∧ (t.reg rARB_WAIT k).toNat = 0 ∧
      (t.reg rARB_WAIT_MAX k).toNat = 0) ∧
    (Gives .arbCntClrSel s fun t => let k := arbKey (s.fld rARB_SEL 24 16) (s.fld rARB_SEL 6 0)
      (t.reg rARB_GRANTS k).toNat = 0 ∧ (t.reg rARB_WAIT k).toNat = 0 ∧ (t.reg rARB_WAIT_MAX k).toNat = 0 ∧
      ∀ j, j ≠ k → t.reg rARB_GRANTS j = s.reg rARB_GRANTS j))

/-- SNAPSHOT (R301, R302). -/
def Obligations.Snapshots : Prop :=
  ∀ (cmd : Nat) (s : State),
    (s.cmd cmd = none → Gives (.snapshot cmd) s fun t => t = s) ∧
    ∀ c, s.cmd cmd = some c → let q := snIQ c.desc % 64
      ((c.op ≠ opcSNAP ∨ c.pair = none ∨ s.stilled = true ∨ c.snapOn = true ∨ s.fenceOpen c = false ∨
          (c.taken = false ∧ s.holds c.tenant = true)) → Gives (.snapshot cmd) s fun t => t = s) ∧
      (c.op = opcSNAP → c.pair.isSome → s.stilled = false → c.snapOn = false → s.fenceOpen c = true →
        s.holds c.tenant = false →
        ((snFLAGS c.desc).testBit 0 = true → s.iqCarries q c.tenant = false → Gives (.snapshot cmd) s fun t =>
          s.answered t cmd .shapeInvalid c.snapCopies 0) ∧
        (∀ i, (snFLAGS c.desc).testBit 0 = true → s.iqCarries q c.tenant = true → s.snapNext c.tenant = some i →
          (s.iq q).fly.length < s.iqLimit q → Gives (.snapshot cmd) s fun t =>
            (∃ d, t.cmd cmd = some d ∧ d.snapOn = true ∧ d.taken = true) ∧
            (t.iq q).fly = (s.iq q).fly ++ [s.nextMove] ∧
            ∃ y, t.move s.nextMove = some y ∧ y.kind = .writeback ∧ y.src = some i ∧ y.snap = some cmd) ∧
        ((snFLAGS c.desc).testBit 0 = false → (snFLAGS c.desc).testBit 1 = false →
          Gives (.snapshot cmd) s fun t => s.answered t cmd .ok c.snapCopies 0))

/-- The serving block's registers (R243, R244, R248, R262, R267, R280, R281). -/
def Obligations.Services : Prop :=
  (∀ (svc : Fin 64) (v : Word) (s : State), let k := svc.val
    let s1 := applyUpd (.reg rSRV_SVC_CFG k (bits 60 0 v.toNat)) s
    s.taken →
    (s.svcOn k = false → s1.svcOk k = true → Gives (.svcEnableReady svc v) s fun t =>
      t.fld rSRV_SVC_CFG 63 61 k = 4 + svcREADY ∧ t.svcTenant k = bits 51 46 v.toNat ∧
        t.fld rSRV_SVC_CFG 31 0 k = bits 31 0 v.toNat ∧ t.svcPins k = s1.svcCopies k) ∧
    (s.svcOn k = false → s1.svcOk k = false → Gives (.svcEnableReady svc v) s fun t =>
      t.fld rSRV_SVC_CFG 63 61 k = 0 ∧ t.flag rSRV_ERR 0 = true) ∧
    (s.svcOn k = true → s.svcState k = svcREADY →
      (Gives (.svcEnableReady svc v) s fun t => t.reg rSRV_SVC_CFG k = s.reg rSRV_SVC_CFG k ∧ t.svcPins k = s.svcPins k) ∧
      (Gives (.svcEnableStandby svc v) s fun t => t.reg rSRV_SVC_CFG k = s.reg rSRV_SVC_CFG k)) ∧
    (s.svcOn k = true → s.svcState k ≠ svcREADY → s.svcOk k = true → Gives (.svcEnableReady svc v) s fun t =>
      t.fld rSRV_SVC_CFG 63 61 k = 4 + svcREADY ∧ t.fld rSRV_SVC_CFG 60 0 k = s.fld rSRV_SVC_CFG 60 0 k) ∧
    (s.svcOn k = false → s1.standbyOk k = true → Gives (.svcEnableStandby svc v) s fun t =>
      t.fld rSRV_SVC_CFG 63 61 k = 4 + svcSTANDBY ∧ t.svcTenant k = bits 51 46 v.toNat) ∧
    (s.svcOn k = false → s1.standbyOk k = false → Gives (.svcEnableStandby svc v) s fun t =>
      t.fld rSRV_SVC_CFG 63 61 k = 0 ∧ t.flag rSRV_ERR 0 = true) ∧
    (s.svcOn k = true → Gives (.svcDisable svc) s fun t => t.fld rSRV_SVC_CFG 63 61 k = 0 ∧ t.svcPins k = []) ∧
    (s.svcOn k = false → Gives (.svcDisable svc) s fun t => t = s)) ∧
  (∀ s : State, s.taken →
    (Gives .srvEnable s fun t => t.flag rSRV_CTL 0 = true ∧ t.srvSt = .running) ∧
    (Gives .srvDisable s fun t => t.flag rSRV_CTL 0 = false ∧
      t.srvSt = if s.srvSt = .running then (if s.serveBusy then .draining else .off) else s.srvSt) ∧
    (s.srvSt ≠ .draining → Gives .srvForce s fun t => t.srvSt = s.srvSt ∧
      s.logged t { cls := .A, blk := blkSRV, off := rSRV_CTL }) ∧
    (s.srvSt = .draining → Gives .srvForce s fun t => t.srvSt = .off ∧ t.flag rSRV_ERR 4 = true)) ∧
  (∀ (v : Word) (s : State), let i := bits 13 0 v.toNat; let st := (s.req i).st
    s.taken →
    ((st = .done ∨ st = .cancelled ∨ st = .faulted) → Gives (.srvReqFree v) s fun t => t.req i = {} ∧
      ∀ j, j ≠ i → t.req j = s.req j) ∧
    (st ≠ .done → st ≠ .cancelled → st ≠ .faulted → Gives (.srvReqFree v) s fun t => (∀ j, t.req j = s.req j) ∧
      t.flag rSRV_ERR 3 = true)) ∧
  (∀ s : State, (s.flag rPWR_GUAR 63 = false → Gives .dlOpenRestore s fun t => t.flag rSRV_ADMIT_CTL 31 = true) ∧
    (s.flag rPWR_GUAR 63 = true → Gives .dlOpenRestore s fun t => t = s)) ∧
  (∀ (off : Nat) (v : Word) (s : State), let k := s.fld rSMP_SET_SEL 7 0
    (isParamReg off = false → Gives (.paramSetWrite off v) s fun t => t = s) ∧
    (isParamReg off = true → s.taken →
      ((∃ i ∈ s.reqIds, (s.req i).param = k) → Gives (.paramSetWrite off v) s fun t =>
        t.reg off k = s.reg off k ∧ t.flag rSMP_ERR 1 = true) ∧
      ((∀ i ∈ s.reqIds, (s.req i).param ≠ k) → Gives (.paramSetWrite off v) s fun t =>
        (off = rSMP_SET_TEMP ∨ off = rSMP_SET_PF → t.reg off k = v) ∧
        (off = rSMP_SET_PEN → t.setRep k = bits 63 32 v.toNat ∧
          t.setInvRep k = bits 31 0 (sfuEval 2 (bits 63 32 v.toNat))) ∧
        (off = rSMP_SET_K → t.setMinP k = bits 63 32 v.toNat ∧ t.setTopK k = bits 10 0 v.toNat) ∧
        t.setValid k = t.setMeets k ∧ (t.setMeets k = false → t.flag rSMP_ERR 0 = true)))) ∧
  (∀ (smp : Fin 4) (s : State), let k := smp.val; s.taken →
    (Gives (.samplerEnable smp) s fun t => t.flag rSMP_EN k = true ∧
      (t.smp k).st = if (s.smp k).st = .off then .idle else if (s.smp k).st = .draining then .busy else (s.smp k).st) ∧
    (Gives (.samplerDisable smp) s fun t => t.flag rSMP_EN k = false ∧
      (t.smp k).st = if (s.smp k).st = .idle then .off else if (s.smp k).st = .busy then .draining else (s.smp k).st) ∧
    ((s.smp k).st ≠ .draining → Gives (.samplerForce smp) s fun t => (∀ j, t.smp j = s.smp j) ∧
      s.logged t { cls := .A, blk := blkSMP, off := rSMP_FORCE }) ∧
    ((s.smp k).st = .draining → Gives (.samplerForce smp) s fun t => (t.smp k).st = .off ∧ t.flag rSMP_ERR 3 = true))

/-- SUBMIT (R258). -/
def Obligations.Submitting : Prop :=
  ∀ (cmd : Nat) (s : State),
    (s.takesServe cmd 1 = none → Gives (.submit cmd) s fun t => t = s) ∧
    ∀ c, s.takesServe cmd 1 = some c →
      (s.serviceFor c.tenant (suCOLLECTION c.desc) = none → Gives (.submit cmd) s fun t =>
        t.fld rSRV_ADMIT_STAT 63 56 = 6 ∧ s.answered t cmd .shapeInvalid noIdx 6) ∧
      ∀ v, s.serviceFor c.tenant (suCOLLECTION c.desc) = some v →
        let p := (idxOf (suPREFIX c.desc)).bind s.pfxOf
        let fits : Prop := idxOf (suPREFIX c.desc) = none ∨ ∃ q, p = some q ∧ (s.pfx q).tenant = c.tenant ∧ (s.pfx q).svc = v
        let x := s.submitReq c cmd v p
        let inside := (s.submitRanges x).all (fun (r : Nat × Nat) => s.inWindow c.tenant r.1 r.2)
        let adm := s.admission x s.freeEntry (s.totalBound v x.pb (s.stepTb v x.draft) (suG c.desc - 1) true)
        ((¬ fits ∨ s.submitOk x = false) → Gives (.submit cmd) s fun t =>
          t.fld rSRV_ADMIT_STAT 63 56 = 6 ∧ s.answered t cmd .shapeInvalid noIdx 6 ∧ ∀ j, t.req j = s.req j) ∧
        (fits → s.submitOk x = true →
          (inside = false → Gives (.submit cmd) s fun t =>
            t.flag rSEC_ERR 3 = true ∧ s.answered t cmd .shapeInvalid noIdx 6 ∧ ∀ j, t.req j = s.req j) ∧
          (∀ e, inside = true → adm = .error e → Gives (.submit cmd) s fun t =>
            t.fld rSRV_ADMIT_STAT 63 56 = e % 256 ∧ s.answered t cmd (refusalStatus e) noIdx e ∧
              ∀ j, t.req j = s.req j) ∧
          (∀ i r, inside = true → adm = .ok (i, r) → Gives (.submit cmd) s fun t =>
            t.req i = { x with
              pool := r, slot := s.freeSlot v r,
              frames := (freeFrames (s.usedFrames v r) 0 (s.poolFrames v r) (s.reqPages x - s.pfxPages x)).getD [] } ∧
            (∀ j, j ≠ i → t.req j = s.req j) ∧ t.reqStamp = s.reqStamp + 1 ∧
            t.cmd cmd = some { c with taken := true, decided := true } ∧
            t.bytes x.out 16 = leBytes 4 i ++ leBytes 4 x.promptEnd ++ leBytes 8 s.now))

/-- CANCEL, PARK, RESUME, RELEASE (R254, R257, R277, R278). -/
def Obligations.RequestControl : Prop :=
  ∀ (cmd : Nat) (s : State),
    (s.takesServe cmd 2 = none → Gives (.cancel cmd) s fun t => t = s) ∧
    (s.takesServe cmd 3 = none → Gives (.park cmd) s fun t => t = s) ∧
    (s.takesServe cmd 4 = none → Gives (.resume cmd) s fun t => t = s) ∧
    (s.takesServe cmd 5 = none → Gives (.release cmd) s fun t => t = s) ∧
    (∀ c, s.takesServe cmd 2 = some c →
      (s.ownEntry c = none → Gives (.cancel cmd) s fun t => s.answered t cmd .shapeInvalid (suENTRY c.desc) 0) ∧
      ∀ i, s.ownEntry c = some i → let x := s.req i
        (x.live = false → Gives (.cancel cmd) s fun t => s.answered t cmd .okCancelLate i 0 ∧ ∀ j, t.req j = s.req j) ∧
        (x.live = true → x.inProgress = true → Gives (.cancel cmd) s fun t => t.took cmd c ∧
          t.req i = { x with cancel := true, cancels := x.cancels ++ [cmd] }) ∧
        (x.live = true → x.inProgress = false → Gives (.cancel cmd) s fun t => (t.req i).st = .draining ∧
          (t.req i).endSt = .cancelled ∧ (t.req i).endStatus = Status.cancelled.code ∧
          (x.cancels = [] → x.parkCmd = none → s.answered t cmd .ok i 0))) ∧
    (∀ c, s.takesServe cmd 3 = some c →
      (s.ownEntry c = none → Gives (.park cmd) s fun t => s.answered t cmd .shapeInvalid (suENTRY c.desc) 0) ∧
      ∀ i, s.ownEntry c = some i → let x := s.req i
        ((x.live = false ∨ x.st = .parked) → Gives (.park cmd) s fun t => s.answered t cmd .shapeInvalid i 0) ∧
        (x.live = true → x.st ≠ .parked →
          (x.parkCmd.isSome → Gives (.park cmd) s fun t => s.answered t cmd .busy i 0 ∧ ∀ j, t.req j = s.req j) ∧
          (x.parkCmd = none → x.ph ≠ .idle → Gives (.park cmd) s fun t => t.took cmd c ∧
            t.req i = { x with parkCmd := some cmd }) ∧
          (∀ fs, x.parkCmd = none → x.ph = .idle →
            freeFrames (s.usedPark x.svc) 64 (s.poolFrames x.svc parkEntry) x.frames.length = some fs →
            Gives (.park cmd) s fun t => t.req i = { x with parkCmd := some cmd, ph := .parking, parkFrames := fs }) ∧
          (x.parkCmd = none → x.ph = .idle →
            freeFrames (s.usedPark x.svc) 64 (s.poolFrames x.svc parkEntry) x.frames.length = none →
            Gives (.park cmd) s fun t => t.req i = x ∧ s.answered t cmd .busy i 0))) ∧
    (∀ c, s.takesServe cmd 4 = some c →
      (s.ownEntry c = none → Gives (.resume cmd) s fun t => t.fld rSRV_ADMIT_STAT 63 56 = 6 ∧
        s.answered t cmd .shapeInvalid (suENTRY c.desc) 6) ∧
      ∀ i, s.ownEntry c = some i → let x := { s.req i with deadline := suDEADLINE c.desc }; let v := x.svc
        let adm := s.admission x (some i)
          (s.totalBound v (s.resumePb v x.committed) (s.stepTb v x.draft) (x.limit - x.committed - 1) false)
        ((x.st ≠ .parked ∨ s.svcOn v = false ∨ s.svcTenant v ≠ c.tenant) → Gives (.resume cmd) s fun t =>
          s.answered t cmd .shapeInvalid i 6 ∧ ∀ j, t.req j = s.req j) ∧
        (x.st = .parked → s.svcOn v = true → s.svcTenant v = c.tenant →
          (∀ e, adm = .error e → Gives (.resume cmd) s fun t =>
            s.answered t cmd (refusalStatus e) i e ∧ ∀ j, t.req j = s.req j) ∧
          (∀ k r, adm = .ok (k, r) → Gives (.resume cmd) s fun t => s.answered t cmd .ok i 0 ∧
            (t.req i).st = .admitted ∧ (t.req i).ph = .fetching ∧ (t.req i).pool = r ∧
            (t.req i).slot = s.freeSlot v r ∧ (t.req i).deadline = suDEADLINE c.desc))) ∧
    (∀ c, s.takesServe cmd 5 = some c → let h := suPREFIX c.desc
      ((s.pfxOf h = none ∨ ∃ p, s.pfxOf h = some p ∧ (s.pfx p).tenant ≠ c.tenant) → Gives (.release cmd) s fun t =>
        s.answered t cmd .shapeInvalid h 0 ∧ ∀ j, t.pfx j = s.pfx j) ∧
      (∀ p, s.pfxOf h = some p → (s.pfx p).tenant = c.tenant → Gives (.release cmd) s fun t =>
        s.answered t cmd .ok h 0 ∧
        t.pfx p = if (s.pfx p).refs = 0 then { gen := ((s.pfx p).gen + 1) % 2 ^ 18 }
          else { s.pfx p with st := .releasing }))

/-- The course of a request (R248, R252, R254, R260, R263, R274). -/
def Obligations.RequestCourse : Prop :=
  (∀ (svc : Fin 64) (s : State), let v := svc.val
    let place := minBy (fun (p : Nat × Nat) => p.2) ((s.preLoads v).filter (fun (p : Nat × Nat) => s.loadFree p.2))
    ((s.serves v = false ∨ s.nextPrefill v = none ∨ place = none) → Gives (.prefillStart svc) s fun t => t = s) ∧
    ∀ i r h, s.serves v = true → s.nextPrefill v = some i → place = some (r, h) →
      let room := freeFrames (s.usedFrames v r) 0 (s.poolFrames v r) (s.prefillFrames (s.req i) r)
      (room = none → Gives (.prefillStart svc) s fun t => t = s) ∧
      (room.isSome → Gives (.prefillStart svc) s fun t =>
        (t.req i).st = .prefill ∧ (t.req i).ph = .prefill ∧ (t.req i).preLoad = h ∧ (t.req i).prePool = r ∧
        (t.load h).waiting = [s.nextCmd] ∧
        ∃ c, t.cmd s.nextCmd = some c ∧ c.op = opPREFILL ∧ c.reqs = [i] ∧ c.svc = (s.req i).svc ∧ c.pair = none)) ∧
  (∀ (load : Fin 16) (s : State) (id i : Nat) (c : Cmd), let h := load.val; let ld := s.load h; let x := s.req i
    (ld.started && s.loadDone h) = true → ld.cmd = some id → s.cmd id = some c → c.op = opPREFILL → c.pair = none →
    c.reqs = [i] → ld.causes = 0 → ld.st = .running → ld.torn = false → ld.relForce = none → s.scanWant = [] →
    x.st = .prefill → x.ph = .prefill →
    (x.cancel = true → Gives (.prefillEnd load) s fun t => (t.req i).st = .draining ∧ (t.req i).endSt = .cancelled) ∧
    (x.cancel = false → x.limit = x.promptEnd → x.reg = false → Gives (.prefillEnd load) s fun t =>
      (t.req i).st = .draining ∧ (t.req i).endSt = .done ∧ (t.req i).committed = x.promptEnd) ∧
    (x.cancel = false → x.limit ≠ x.promptEnd → x.loc = .prefill → Gives (.prefillEnd load) s fun t =>
      t.cmd id = none ∧ (t.req i).committed = x.promptEnd ∧ (t.req i).ph = .handover) ∧
    (x.cancel = false → x.limit ≠ x.promptEnd → x.loc ≠ .prefill → Gives (.prefillEnd load) s fun t =>
      (t.req i).committed = x.promptEnd ∧ (t.req i).ph = .draw ∧ (t.req i).due = [x.promptEnd] ∧
      t.srvStep (drawKey i) = some { svc := x.svc, reqs := [i], ph := .head, cmd := some s.nextCmd })) ∧
  (∀ (req : Fin 16384) (s : State), let i := req.val; let x := s.req i
    ((x.ph ≠ .handover ∨ s.stilled = true) → Gives (.handoverComplete req) s fun t => t = s) ∧
    (x.ph = .handover → s.stilled = false → Gives (.handoverComplete req) s fun t =>
      (t.req i).loc = .decode ∧ (t.req i).preFrames = [] ∧ (t.req i).ph = .draw ∧ (t.req i).due = [x.committed] ∧
      t.srvStep (drawKey i) = some { svc := x.svc, reqs := [i], ph := .head, cmd := some s.nextCmd } ∧
      (t.load (s.svcHead x.svc)).waiting = (s.load (s.svcHead x.svc)).waiting ++ [s.nextCmd] ∧
      ∃ c, t.cmd s.nextCmd = some c ∧ c.op = opHEAD ∧ c.reqs = [i])) ∧
  (∀ (load : Fin 16) (s : State), let h := load.val
    (s.decodes h = none → Gives (.decodeStepStart load) s fun t => t = s) ∧
    ∀ v r, s.decodes h = some (v, r) → let rs := s.stepReqs v r
      ((rs = [] ∨ s.srvStep h ≠ none ∨ (s.load h).repl ≠ none) → Gives (.decodeStepStart load) s fun t => t = s) ∧
      (rs ≠ [] → s.srvStep h = none → (s.load h).repl = none → Gives (.decodeStepStart load) s fun t =>
        t.srvStep h = some { svc := v, reqs := rs, ph := .decode, cmd := some s.nextCmd } ∧
        (t.load h).waiting = (s.load h).waiting ++ [s.nextCmd] ∧
        (∃ c, t.cmd s.nextCmd = some c ∧ c.op = opDECODE ∧ c.reqs = rs) ∧
        ∀ i ∈ rs, let x := s.req i; let d := min x.draft (min x.proposed.length (x.limit - x.committed - 1))
          (t.req i).ph = .step ∧ (t.req i).st = (if d = 0 then .decode else .verify) ∧ (t.req i).prov = d ∧
          (t.req i).drafts = x.proposed.take d ∧ (t.req i).due = (List.range (d + 1)).map (fun j => x.committed + j))) ∧
  (∀ (req : Fin 16384) (s : State), let i := req.val; let x := s.req i
    ((x.ph ≠ .parking ∨ s.stilled = true) → Gives (.parkComplete req) s fun t => t = s) ∧
    (x.ph = .parking → s.stilled = false → Gives (.parkComplete req) s fun t =>
      (t.req i).st = .parked ∧ (t.req i).loc = .park ∧ (t.req i).slot = none ∧ (t.req i).frames = [] ∧
      ∀ id, x.parkCmd = some id → s.answered t id .ok i 0) ∧
    ((x.ph ≠ .fetching ∨ s.stilled = true) → Gives (.resumeFetchComplete req) s fun t => t = s) ∧
    (x.ph = .fetching → s.stilled = false → x.cancel = false → x.parkCmd = none →
      Gives (.resumeFetchComplete req) s fun t => (t.req i).st = .decode ∧ (t.req i).ph = .idle ∧
        (t.req i).loc = .decode ∧ (t.req i).parkFrames = []) ∧
    ((x.st ≠ .draining ∨ s.stillServed i = true) → Gives (.requestRelease req) s fun t => t = s) ∧
    (x.st = .draining → s.stillServed i = false → Gives (.requestRelease req) s fun t =>
      (t.req i).st = x.endSt ∧ (t.req i).slot = none ∧ (t.req i).frames = [] ∧ (t.req i).pfx = none ∧
      ∀ id st, x.cmd = some id → x.endSt = .done → x.finalStatus = Status.code st → s.answered t id st i x.detail))

/-- Candidate records (R264 to R278, R368). -/
def Obligations.CandidateRecords : Prop :=
  ∀ (rec : List Token) (lf : Bool) (s : State), let i := crREQ (recHeader rec); let x := s.req i
    let runs : Prop := ∃ key st id, s.stepOfReq i = some key ∧ s.srvStep key = some st ∧ st.cmd = some id
    ((s.freeSampler = none ∨ s.halted = true ∨ s.inStep i = false ∨ x.due = []) →
      Gives (.candidateRecord rec lf) s fun t => t = s) ∧
    (s.freeSampler.isSome → s.halted = false → s.inStep i = true → x.due ≠ [] →
      (s.recordOk x rec = false → x.live = true → Gives (.candidateRecord rec lf) s fun t =>
        t.flag rSMP_ERR 2 = true ∧ (t.req i).st = .draining ∧ (t.req i).endSt = .faulted ∧
        (t.req i).endStatus = Status.poisoned.code) ∧
      (s.recordOk x rec = true → s.sufficient x rec = false → Gives (.candidateRecord rec lf) s fun t =>
        t.fld rSMP_STAT 63 32 = sat 32 (s.fld rSMP_STAT 63 32 + 1) ∧ (t.req i).committed = x.committed ∧
        (runs → (t.req i).wide = true ∧ (t.req i).due = [])) ∧
      (s.recordOk x rec = true → s.sufficient x rec = true →
        (lf = true → x.live = true → Gives (.candidateRecord rec lf) s fun t => (t.req i).st = .draining ∧
          (t.req i).endSt = .faulted ∧ (t.req i).endStatus = Status.residueMismatch.code) ∧
        (let d := s.drawFrom x rec; let a := x.out + 16 * (1 + x.committed - x.promptEnd)
          lf = false → runs → x.drawn = [] → x.drafts = [] → d.1 ≠ s.svcEos x.svc → x.committed + 1 ≠ x.limit →
          Gives (.candidateRecord rec lf) s fun t =>
            (t.req i).committed = x.committed + 1 ∧ (t.req i).proposed = recDrafts rec ∧ (t.req i).due = [] ∧
            (x.penLen ≤ 1024 → (a + 16 ≤ x.penList ∨ x.penList + 4096 ≤ a) → t.bytes a 16 =
              tokenRecord x.committed d.1 d.2 (recordFlags false false false (crPENALISED (recHeader rec)))))))

namespace Sys2Proof.Machine

/-- The command that a descriptor becomes when it is dispatched for tenant `k` (R293). -/
def Intake.opened (e : Intake) (k now : Nat) : Cmd :=
  { op := dOpcode e.desc, tenant := k, pair := some e.pair, num := e.num, desc := e.desc, time := now }

/-- The next completion of pair `p` in `s` lies in `t` with command `c`, a status, a result and a detail, unless its slot
lies in the pair's progress block (R289, R305). -/
def State.completed (s t : State) (p : Nat) (c : Cmd) (st : Status) (res det : Nat) : Prop :=
  let n := (s.pair p).done
  let a := s.fld rQUE_CQ_BASE 47 0 p + 32 * (n % s.cqSlots p)
  (a + 32 ≤ s.progAddr p ∨ s.progAddr p + 64 ≤ a) →
    t.bytes a 32 = completionBytes c (phaseOf n (s.cqSlots p)) s.now st.code res det

end Sys2Proof.Machine

/-- The scanner and the pairs (R288 to R292, R324). -/
def Obligations.QueuePairs : Prop :=
  (∀ (pair : Fin 1024) (s : State), let p := pair.val; let x := s.pair p
    let v := s.le (s.progAddr p + 8) 4
    let head := if (v + 2 ^ 32 - x.cqHead) % 2 ^ 32 ≤ (x.cqTail + 2 ^ 32 - x.cqHead) % 2 ^ 32 then v else x.cqHead
    let fits : Prop := s.tenantOn (p / 16) = true ∧ (s.intake (p / 16)).length < 16 ∧
      (x.cqTail + 2 ^ 32 - head) % 2 ^ 32 + x.held < s.cqSlots p ∧
      dFlags (s.sqSlot p) / 128 = phaseOf x.sqHead (s.sqSlots p)
    ((s.scanner ≠ .running ∨ x.st ≠ .running ∨ s.stilled = true) → Gives (.scannerVisit pair) s fun t => t = s) ∧
    (s.scanner = .running → x.st = .running → s.stilled = false →
      (Gives (.scannerVisit pair) s fun t => (t.pair p).lastVisit = some s.now ∧ (t.pair p).cqHead = head) ∧
      (¬ fits → Gives (.scannerVisit pair) s fun t => t.intake (p / 16) = s.intake (p / 16) ∧
        (t.pair p).sqHead = x.sqHead ∧ (t.pair p).held = x.held) ∧
      (fits → Gives (.scannerVisit pair) s fun t =>
        (∃ rest, rest.length < s.burst ∧ t.intake (p / 16) =
          s.intake (p / 16) ++ { pair := p, num := x.sqHead, desc := s.sqSlot p } :: rest) ∧
        t.le (s.progAddr p) 4 = (t.pair p).sqHead))) ∧
  (∀ (pair : Fin 1024) (s : State), let p := pair.val; let x := s.pair p; s.taken →
    (x.st = .running → Gives (.pairEnable pair) s fun t => t = s) ∧
    (x.st ≠ .running → s.pairOk p = false → Gives (.pairEnable pair) s fun t => t.pair p = x ∧ t.flag rQUE_ERR 2 = true) ∧
    (x.st = .off → s.pairOk p = true → Gives (.pairEnable pair) s fun t => t.pair p = { st := .running } ∧
      t.flag rQUE_PAIR_CFG 63 p = true ∧ t.bytes (s.progAddr p) 64 = List.replicate 64 0) ∧
    (x.st = .draining → s.pairOk p = true → Gives (.pairEnable pair) s fun t => t.pair p = { x with st := .running } ∧
      t.flag rQUE_PAIR_CFG 63 p = true) ∧
    (Gives (.pairDisable pair) s fun t => t.flag rQUE_PAIR_CFG 63 p = false ∧
      t.pair p = { x with st := if x.st = .off ∨ x.held = 0 then .off else .draining }) ∧
    (x.st ≠ .draining → Gives (.pairForce pair) s fun t => (∀ j, t.pair j = s.pair j) ∧ t.flag rQUE_ERR 6 = true) ∧
    (x.st = .draining → Gives (.pairForce pair) s fun t => ∀ e ∈ t.intake (p / 16), e.pair ≠ p)) ∧
  (∀ s : State, let empty : Bool := (List.range 64).all (fun k => decide (s.intake k = []))
    s.taken →
    (Gives .queScannerEnable s fun t => t.flag rQUE_CTL 63 = true ∧ t.scanner = .running ∧
      (s.scanner = .off → t.rotStart = s.now ∧ t.rotLast = 1024)) ∧
    (Gives .queScannerDisable s fun t => t.flag rQUE_CTL 63 = false ∧
      t.scanner = if s.scanner = .off ∨ empty = true then .off else .draining) ∧
    (s.scanner ≠ .draining → Gives .queScannerForce s fun t => t.scanner = s.scanner ∧ t.flag rQUE_ERR 6 = true) ∧
    (s.scanner = .draining → Gives .queScannerForce s fun t => t.scanner = .off ∧
      ∀ k, k < 64 → t.intake k = []))

/-- DISPATCH (R293 to R297, R301), FENCE and UCIe. -/
def Obligations.Dispatching : Prop :=
  (∀ (tenant : Fin 64) (s : State), let k := tenant.val; let n := s.nextCmd
    (s.intake k = [] → Gives (.dispatch tenant) s fun t => t = s) ∧
    ∀ e rest, s.intake k = e :: rest → let c := e.opened k s.now
      ((s.stilled = true ∨ s.tenantOn k = false ∨ s.scanner = .off ∨ s.arbClosed 304 = true ∨ s.arbShut 304 k = true ∨
        s.fenced k e.pair = true) → Gives (.dispatch tenant) s fun t => t = s) ∧
      (s.stilled = false → s.tenantOn k = true → s.scanner ≠ .off → s.arbClosed 304 = false → s.arbShut 304 k = false →
        s.fenced k e.pair = false →
        (Gives (.dispatch tenant) s fun t => t.intake k = rest ∧ t.nextCmd = n + 1 ∧
          (t.pair e.pair).dispatched = (s.pair e.pair).dispatched + 1) ∧
        (s.descOk e.desc = false → Gives (.dispatch tenant) s fun t => t.cmd n = none ∧ t.flag rQUE_ERR 1 = true ∧
          s.completed t e.pair c .shapeInvalid (refusedResult e.desc).1 (refusedResult e.desc).2) ∧
        (s.descOk e.desc = true → (∃ r ∈ windowRanges e.desc, s.inWindow k r.1 r.2 = false) →
          Gives (.dispatch tenant) s fun t => t.cmd n = none ∧ t.flag rQUE_ERR 1 = true ∧ t.flag rSEC_ERR 3 = true ∧
            s.completed t e.pair c .shapeInvalid (refusedResult e.desc).1 (refusedResult e.desc).2) ∧
        (s.descOk e.desc = true → (∀ r ∈ windowRanges e.desc, s.inWindow k r.1 r.2 = true) →
          ((c.op = opcFENCE ∨ c.op = opcSNAP) → Gives (.dispatch tenant) s fun t =>
            ∃ w, t.cmd n = some { c with waits := w } ∧ ∀ i, i ∈ w ↔ i ∈ s.tenantCmds k ∧ i < n ∧
              ∃ d, s.cmd i = some d ∧ scopeHas c (d.pair.getD 0) = true) ∧
          (c.op = opcMOVE → let q := leAt e.desc 0x11 1 % 64
            (s.iqAccepts q k = true → Gives (.dispatch tenant) s fun t => t.took n c ∧
              (t.iq q).cmds = (s.iq q).cmds ++ [n]) ∧
            (s.iqAccepts q k = false → Gives (.dispatch tenant) s fun t => t.cmd n = none ∧
              s.completed t e.pair c .shapeInvalid (refusedResult e.desc).1 0)) ∧
          (opcUBLOCK ≤ c.op → s.flag rTEN_CTL 59 k = false → Gives (.dispatch tenant) s fun t => t.cmd n = none ∧
            s.completed t e.pair c .shapeInvalid 0 0) ∧
          (c.op ≠ opcFENCE → c.op ≠ opcSNAP → c.op ≠ opcMOVE → (c.op < opcUBLOCK ∨ s.flag rTEN_CTL 59 k = true) →
            Gives (.dispatch tenant) s fun t => t.cmd n = some c)))) ∧
  (∀ (cmd : Nat) (s : State),
    (s.takes cmd opcFENCE = none → Gives (.fence cmd) s fun t => t = s) ∧
    (∀ c, s.takes cmd opcFENCE = some c → Gives (.fence cmd) s fun t => t.took cmd c) ∧
    (s.cmd cmd = none → Gives (.fenceComplete cmd) s fun t => t = s) ∧
    (∀ c, s.cmd cmd = some c → (c.op ≠ opcFENCE ∨ c.taken = false ∨ s.fenceOpen c = false) →
      Gives (.fenceComplete cmd) s fun t => t = s) ∧
    (∀ c, s.cmd cmd = some c → c.op = opcFENCE → c.taken = true → s.fenceOpen c = true →
      Gives (.fenceComplete cmd) s fun t => s.answered t cmd .ok 0 0)) ∧
  (∀ (m : Fin 4) (s : State),
    (s.ucieUp.testBit m.val = false → Gives (.ucieModuleFail m) s fun t => t = s) ∧
    (s.ucieUp.testBit m.val = true → Gives (.ucieModuleFail m) s fun t => t.flag rQUE_ERR 0 = true ∧
      (∀ j, t.ucieUp.testBit j = (s.ucieUp.testBit j && decide (j ≠ m.val))) ∧
      (t.ucieUp = 0 → t.fld rINT_CNT 47 32 = sat 16 (s.fld rINT_CNT 47 32 + 1)) ∧
      (t.ucieUp ≠ 0 → t.fld rINT_CNT 47 32 = s.fld rINT_CNT 47 32)))

/-- Tenants (R307 to R309, R324). -/
def Obligations.Tenants : Prop :=
  ∀ (tenant : Fin 64) (s : State), let k := tenant.val; let st := (s.tenant k).st; s.taken →
    ((st = .off ∨ st = .draining) → Gives (.tenantEnable tenant) s fun t => (t.tenant k).st = .enabled ∧
      t.flag rTEN_CTL 63 k = true) ∧
    ((st = .enabled ∨ st = .resetting) → Gives (.tenantEnable tenant) s fun t => t = s) ∧
    (st = .enabled → Gives (.tenantDisable tenant) s fun t => t.flag rTEN_CTL 63 k = false ∧
      (t.tenant k).st = (if s.intake k = [] ∧ s.tenantCmds k = [] then .off else .draining) ∧
      ∀ p ∈ tenantPairs k, (s.pair p).st = .running → (t.pair p).st = if (s.pair p).held = 0 then .off else .draining) ∧
    (st ≠ .enabled → Gives (.tenantDisable tenant) s fun t => t = s) ∧
    (st ≠ .draining → Gives (.tenantForce tenant) s fun t => (∀ j, t.tenant j = s.tenant j) ∧ t.flag rTEN_ERR 0 = true) ∧
    (st = .draining → Gives (.tenantForce tenant) s fun t => t.intake k = []) ∧
    (∀ v : Word, st = .off → v.toNat.testBit 63 = true → v.toNat.testBit 62 = false →
      Gives (.tenCtlWrite tenant v) s fun t => (t.tenant k).st = .enabled ∧ t.flag rTEN_CTL 63 k = true ∧
        t.fld rTEN_CTL 54 38 k = max 50 (min 100000 (bits 54 38 v.toNat)) ∧
        t.fld rTEN_CTL 61 55 k = bits 61 55 v.toNat) ∧
    (∀ v : Word, st ≠ .off → v.toNat.testBit 62 = false → Gives (.tenCtlWrite tenant v) s fun t =>
      t.fld rTEN_CTL 61 0 k = s.fld rTEN_CTL 61 0 k) ∧
    (st = .resetting → Gives (.tenantReset tenant) s fun t => t = s) ∧
    (st ≠ .resetting → Gives (.tenantReset tenant) s fun t => t.intake k = [] ∧
      ((t.tenant k).st = .resetting ∨ (t.tenant k).st = .off) ∧
      ∀ i ∈ s.reqIds, (s.req i).tenant = k → t.req i = {})

/-- Slices (R312 to R320) and bay scan (R321 to R323). -/
def Obligations.Slicing : Prop :=
  (∀ (set : Fin 4) (v : Word) (s : State), let g := set.val; let m := bits 15 0 v.toNat; s.taken →
    (s.flag rTEN_SLICE_CFG 63 g = true → v.toNat.testBit 63 = true → Gives (.sliceSetEnable set v) s fun t =>
      t.reg rTEN_SLICE_CFG g = s.reg rTEN_SLICE_CFG g ∧ t.slice g = s.slice g) ∧
    (s.flag rTEN_SLICE_CFG 63 g = true → v.toNat.testBit 63 = false →
      (∀ h, h < 16 → (s.load h).sliced = false) → Gives (.sliceSetEnable set v) s fun t =>
        t.flag rTEN_SLICE_CFG 63 g = false ∧ t.sliceBays g = m ∧ t.slice g = {}) ∧
    (s.flag rTEN_SLICE_CFG 63 g = false → v.toNat.testBit 63 = true → s.sliceOk m = true →
      Gives (.sliceSetEnable set v) s fun t =>
        t.flag rTEN_SLICE_CFG 63 g = true ∧ t.sliceBays g = m ∧ t.slice g = { st := .idle }) ∧
    (s.flag rTEN_SLICE_CFG 63 g = false → v.toNat.testBit 63 = true → s.sliceOk m = false →
      Gives (.sliceSetEnable set v) s fun t =>
        t.flag rTEN_SLICE_CFG 63 g = false ∧ t.sliceBays g = m ∧ t.flag rTEN_ERR 5 = true)) ∧
  (∀ (set : Fin 4) (s : State), let g := set.val; let x := s.slice g
    ((x.st ≠ .active ∨ x.pend ≠ none ∨ s.stilled = true) → Gives (.sliceEnd set) s fun t => t = s) ∧
    (∀ k ks, x.st = .active → x.pend = none → s.stilled = false → s.waiters g = k :: ks →
      (s.tenant k).debt ≤ s.sliceNs k → Gives (.sliceEnd set) s fun t => t.slice g =
        { x with pend := some s.now, nextTen := k, st := if s.activeRests g then .switching else .active }) ∧
    (x.st = .active → x.pend = none → s.stilled = false → s.waiters g = [] → Gives (.sliceEnd set) s fun t =>
      t.slice g = x ∧ (t.tenant x.tenant).debt = (s.tenant x.tenant).debt - s.sliceNs x.tenant) ∧
    ((x.st ≠ .active ∨ x.pend = none ∨ s.stilled = true) → Gives (.preemptMark set) s fun t => t = s) ∧
    (∀ at', x.st = .active → x.pend = some at' → s.stilled = false →
      (s.activeRests g = true → Gives (.preemptMark set) s fun t => (t.slice g).st = .switching ∧
        (t.tenant x.tenant).debt = sat 32 ((s.tenant x.tenant).debt + (s.now - at'))) ∧
      (∀ h id ms, s.activeLoad g = some h → (s.load h).cmd = some id → s.flag rTEN_CTL 57 x.tenant = true →
        (s.load h).started = true → s.queuesEmpty h = true → s.marksAt h = some ms →
        (s.saveCopy (s.load h).tenant (s.sliceBays g) = none → Gives (.preemptMark set) s fun t =>
          t.flag rTEN_ERR 4 = true ∧ (t.load h).cmd = none) ∧
        (∀ i o, s.saveCopy (s.load h).tenant (s.sliceBays g) = some (i, o) →
          (∀ p ∈ ms, ∀ k ∈ bayScells p.1, s.saveLen k p.2 ≤ o.shareOf k) → Gives (.preemptMark set) s fun t =>
            (t.load h).saved = some (s.savedOf h) ∧ (t.load h).cmd = some id ∧ (t.slice g).st = .switching ∧
            (t.tenant x.tenant).debt = sat 32 ((s.tenant x.tenant).debt + (s.now - at'))))) ∧
    ((s.stilled = true ∨ x.st = .off ∨ (x.st = .active ∧ s.activeRests g = false)) →
      Gives (.tenantSwitch set) s fun t => t = s) ∧
    (x.st = .switching → s.stilled = false → s.waitsFor g x.nextTen = true →
      (s.sliceFree g (s.activeLoad g) = false → Gives (.tenantSwitch set) s fun t => t = s) ∧
      (∀ h, s.sliceFree g (s.activeLoad g) = true → s.slicedLoad x.nextTen = some h →
        Gives (.tenantSwitch set) s fun t => (t.slice g).st = .active ∧ (t.slice g).tenant = x.nextTen ∧
          (t.slice g).pend = none ∧ (t.load h).bays = s.sliceBays g ∧
          ∀ b, b < 16 → (s.sliceBays g).testBit b = true → t.bay b = { st := .allocated, load := some h, epoch := 0 }))) ∧
  (∀ (load : Fin 16) (s : State), let h := load.val
    let feeds := (remoteRecs (s.load h).image.recs).any (fun r => !rmOut r)
    (((s.load h).started = false ∨ feeds = false ∨ s.stilled = true) → Gives (.remoteTimeout load) s fun t => t = s) ∧
    ((s.load h).started = true → feeds = true → s.stilled = false → Gives (.remoteTimeout load) s fun t =>
      t.flag rTEN_ERR 3 = true ∧ (t.load h).cmd = none)) ∧
  (∀ (bay : Fin 16) (s : State), let b := bay.val
    let test : Prop := ∃ h, (s.bay b).load = some h ∧ s.flag rTEN_CTL 58 (s.load h).tenant = true
    s.taken →
    ((s.scanBarred b = true ∨ (s.scanReady b = false ∧ s.scanLater b = false)) → Gives (.scanOut bay) s fun t =>
      t.flag rTEN_ERR 1 = true ∧ (∀ j, t.bay j = s.bay j) ∧ t.scanWant = s.scanWant) ∧
    (s.scanBarred b = false → s.scanReady b = true → Gives (.scanOut bay) s fun t =>
      t.bay b = { s.bay b with st := .scanning, ret := (s.bay b).st } ∧ t.scanDir = 1 ∧ t.scanBay = some b ∧
      t.flag rTEN_SCAN_CTL 63 = true ∧ t.fld rTEN_SCAN_CTL 3 0 = b) ∧
    (s.scanBarred b = false → s.scanReady b = false → s.scanLater b = true → Gives (.scanOut bay) s fun t =>
      t.scanWant = [b] ∧ t.flag rTEN_SCAN_CTL 63 = true ∧ ∀ j, t.bay j = s.bay j) ∧
    ((s.scanBarred b = true ∨ (s.bay b).st ≠ .allocated ∨ s.scanReady b = false ∨ ¬ test ∨ s.scanBay ≠ some b) →
      Gives (.scanIn bay) s fun t => t.flag rTEN_ERR 1 = true ∧ ∀ j, t.bay j = s.bay j) ∧
    (s.scanBarred b = false → (s.bay b).st = .allocated → s.scanReady b = true → test → s.scanBay = some b →
      Gives (.scanIn bay) s fun t => t.bay b = { s.bay b with st := .scanning, ret := .allocated } ∧ t.scanDir = 2 ∧
        t.flag rTEN_SCAN_CTL 62 = true)) ∧
  (∀ (bay : Fin 16) (ns : BitVec 32) (s : State), let b := bay.val
    ((s.bay b).st ≠ .scanning → Gives (.scanComplete bay ns) s fun t => t = s) ∧
    ((s.bay b).st = .scanning → s.bayOnBit b = true → s.scanWant = [] → Gives (.scanComplete bay ns) s fun t =>
      t.bay b = { s.bay b with st := (s.bay b).ret } ∧ t.scanDir = 0 ∧ t.fld rTEN_SCAN_CTL 63 62 = 0 ∧
      t.fld rTEN_SCAN_STAT 31 0 = ns.toNat))

namespace Sys2Proof.Machine

/-- Nothing waits in the link switch: its inbound queues are empty and this module has nothing for itself (R346, R351). -/
def State.linkQuiet (s : State) : Prop := (∀ k, s.lnkQ k = []) ∧ s.localFlits = [] ∧ s.localLost = []

/-- The replay buffer of a port once an ACK has come (R331). -/
def Port.ackd (x : Port) (ack : Nat) : List Held :=
  match x.replay with
  | [] => []
  | r :: _ => let d := (ack + 65536 - r.seq) % 65536
    if d < x.replay.length then x.replay.drop (d + 1) else x.replay

/-- Port `p` accepts the flit and passes checks 1 to 3 of Table 9.12: its state carries it, its CRC is right, and a
sequenced one has the SEQ expected (R330, R355). -/
def State.accepts (s : State) (p : Nat) (flit : Flit) : Prop :=
  let f := flitBytes flit
  stateCarries (s.port p).st f = true ∧ (s.port p).st ≠ .draining ∧ crc32 (f.take 0xFC) = leAt f 0xFC 4 ∧
    (sequenced f = true → (flSEQ f + 65536 - (s.port p).rx) % 65536 = 0)

/-- Port `p` hears the flit: it passes checks 1 to 4, and `g` is what it says in the clear (R355, R358). -/
def State.hears (s : State) (p : Nat) (flit : Flit) (g : List Byte) : Prop :=
  s.linkQuiet ∧ s.accepts p flit ∧ formatOk (flitBytes flit) = true ∧ (s.authentic p (flitBytes flit)).1 = some g

/-- The rows by which a flit arrives, with no error found in the store it uses. -/
def flitRows (port : Fin 32) (flit : Flit) : List Instr :=
  [.idleFlit port flit, .dataFlit port flit .clean, .creditFlit port flit .clean, .noticeLost port flit .clean,
   .noticeCut port flit .clean,
   .hello port flit, .keepalive port flit, .rate port flit, .timeReq port flit, .timeResp port flit, .quar port flit,
   .kex port flit, .nak port flit .clean]

/-- Every row by which a flit arrives does the same. -/
def GivesFlit (port : Fin 32) (flit : Flit) (s : State) (q : State → Prop) : Prop :=
  ∀ i ∈ flitRows port flit, Gives i s q

/-- Entry `b` of the egress queues holds what comes: its bundle pauses with a port in service (R346, R347). -/
def State.stuck (s : State) (b : Nat) : Prop := s.pausedBundles.testBit b = true ∧ s.activePorts b ≠ []

end Sys2Proof.Machine

/-- The checks of an arriving flit (R330 to R332, R355, R357). -/
def Obligations.FlitChecks : Prop :=
  ∀ (port : Fin 32) (flit : Flit) (s : State), let p := port.val; let f := flitBytes flit; let x := s.port p
    let drops (lo : Nat) : Prop := GivesFlit port flit s fun t =>
      t.fld rLNK_PORT_DROP (lo + 11) lo p = sat 12 (s.fld rLNK_PORT_DROP (lo + 11) lo p + 1) ∧ t.flag rLNK_ERR 3 = true
    let lit : Prop := x.st ≠ .off ∧ x.st ≠ .training ∧ x.st ≠ .failed
    (¬ lit → GivesFlit port flit s fun t => t = s) ∧
    (lit → crc32 (f.take 0xFC) ≠ leAt f 0xFC 4 →
      (sequenced f = false → GivesFlit port flit s fun t => t = s) ∧
      (∀ n, sequenced f = true → x.lastNak = some n → s.now < n + 1000 → GivesFlit port flit s fun t => t = s) ∧
      (sequenced f = true → (∀ n, x.lastNak = some n → n + 1000 ≤ s.now) → GivesFlit port flit s fun t =>
        (t.port p).lastNak = some s.now ∧ (t.port p).rx = x.rx ∧
          t.fld rLNK_PORT_REPLAY 63 32 p = sat 32 (s.fld rLNK_PORT_REPLAY 63 32 p + 1))) ∧
    (s.linkQuiet → s.accepts p flit → formatOk f = false → drops 48) ∧
    (s.linkQuiet → s.accepts p flit → formatOk f = true → (s.authentic p f).1 = none → drops 36) ∧
    (∀ g, s.hears p flit g → routed f = true → routed g = true → x.waiting = [] →
      let home : Prop := s.live.role p = 1 ∨ flDEST g = s.live.me
      (lget 0 x.partner (flVC f) = 0 → drops 24) ∧
      (0 < lget 0 x.partner (flVC f) → s.routeOk p g = false → drops 12) ∧
      (0 < lget 0 x.partner (flVC f) → s.routeOk p g = true → home → s.streamOk (s.peerFrom p g) g = false → drops 0)) ∧
    (∀ g, s.hears p flit g → (flTYPE g = tyIDLE ∨ (flTYPE g = tyLINK ∧ flSUB g = subKEEPALIVE)) → x.waiting = [] →
      GivesFlit port flit s fun t => (t.port p).replay = x.ackd (flACK f) ∧ (t.port p).rx = x.rx ∧
        (t.port p).st = x.st ∧ (t.port p).credits = lset x.credits (flHCRED f / 2 ^ 14)
          (lget 0 x.credits (flHCRED f / 2 ^ 14) + flHCRED f % 2 ^ 14))

/-- LINK messages (R331, R342, R354, R361, R367, R466 to R468). -/
def Obligations.LinkMessages : Prop :=
  ∀ (port : Fin 32) (flit : Flit) (s : State) (g : List Byte), let p := port.val; let x := s.port p
    s.hears p flit g → flTYPE g = tyLINK →
    (flSUB g = subHELLO → x.st = .checking →
      let far := byteSlice g 0x08 28
      let s1 := applyUpd (.port p { x with far := far }) s
      (s1.helloFault p ≠ 0 → GivesFlit port flit s fun t => (t.port p).st = .quarantined ∧
        (t.port p).reason = s1.helloFault p ∧ (t.port p).far = far ∧ t.flag rLNK_ERR 1 = true) ∧
      (s1.helloFault p = 0 → x.encReq = false → (leAt far 0x15 1).testBit 0 = false → GivesFlit port flit s fun t =>
        (t.port p).st = (if s.wantsLow p = true ∨ (leAt far 0x15 1).testBit 1 = true then .lowRate else .active) ∧
        (t.port p).credits = List.replicate 4 1536 ∧ (t.port p).version = min 3 (leAt far 7 1))) ∧
    (flSUB g = subHELLO → x.carries = true → GivesFlit port flit s fun t => (t.port p).far = byteSlice g 0x08 28 ∧
      (t.port p).farLow = (leAt (byteSlice g 0x08 28) 0x15 1).testBit 1) ∧
    (flSUB g = subRATE → GivesFlit port flit s fun t => (t.port p).farLow = decide (leAt g 0x08 1 = 1) ∧
      (x.st = .active → (x.toldLow = true ∨ leAt g 0x08 1 = 1) → (t.port p).st = .lowRate)) ∧
    (flSUB g = subNAK → x.waiting = [] →
      let kept := x.ackd (flACK (flitBytes flit))
      let old := kept.takeWhile (fun r => decide (r.seq ≠ leAt g 0x08 2))
      let again := kept.drop old.length
      (∀ r ∈ again, r.resent < 7) → GivesFlit port flit s fun t =>
        (t.port p).replay = old ++ again.map (fun r => { r with resent := r.resent + 1 }) ∧
        t.fld rLNK_PORT_REPLAY 31 0 p = sat 32 (s.fld rLNK_PORT_REPLAY 31 0 p + again.length)) ∧
    (flSUB g = subNAK → x.waiting = [] →
      let again := (x.ackd (flACK (flitBytes flit))).dropWhile (fun r => decide (r.seq ≠ leAt g 0x08 2))
      again ≠ [] →
      ((∀ r ∈ again, r.resent < 7) → Gives (.nak port flit .corrected) s fun t =>
        s.logged t { cls := .A, blk := blkLNK, locus := p } ∧
        t.fld rLNK_PORT_REPLAY 31 0 p = sat 32 (s.fld rLNK_PORT_REPLAY 31 0 p + again.length)) ∧
      (lostFlits { x with replay := x.ackd (flACK (flitBytes flit)) } = [] → s.live.role p ≠ 1 →
        Gives (.nak port flit .uncorrectable) s fun t => (t.port p).st = .failed ∧ (t.port p).reason = rsREPLAY ∧
          (t.port p).replay = [] ∧ t.flag rLNK_ERR 2 = true)) ∧
    (flSUB g = subTIMEREQ → x.waiting = [] →
      (p < 24 → s.updSt ≠ .pause → GivesFlit port flit s fun t =>
        ∃ h, t.sentFlits p = s.sentFlits p ++ [flitOf (h ++ leBytes 4 (crc32 h))] ∧ flTYPE h = tyLINK ∧
          flSUB h = subTIMERESP ∧ byteSlice h 0x08 24 = leBytes 8 (leAt g 0x08 8) ++ leBytes 8 s.stamp ++ leBytes 8 s.stamp) ∧
      ((24 ≤ p ∨ s.updSt = .pause) → GivesFlit port flit s fun t => t.sentFlits p = s.sentFlits p)) ∧
    (flSUB g = subTIMERESP → GivesFlit port flit s fun t => t.timeOffset =
      if s.isRoot = false ∧ s.timeParent = p then
        (((leAt g 0x10 8 : Int) - (leAt g 0x08 8 : Int)) - ((s.stamp : Int) - (leAt g 0x18 8 : Int))) / 8
      else s.timeOffset) ∧
    (flSUB g = subQUAR → x.st ≠ .quarantined → GivesFlit port flit s fun t => (t.port p).st = .quarantined ∧
      (t.port p).reason = leAt g 0x08 1 % 16 ∧ t.flag rLNK_ERR 1 = true ∧ t.flag rLNK_PORT_CTL 61 p = false) ∧
    (flSUB g = subKEX → x.far ≠ [] →
      let kind := leAt g 0x08 1; let i := leAt g 0x09 1; let n := max 1 (cdiv (kexBytes kind) 228)
      let len := min 228 (kexBytes kind - 228 * i)
      let k := if i = 0 then { x.kex with kind := kind, frag := 0, msg := [] } else x.kex
      let fits : Prop := s.kexTurn p kind = true ∧ k.kind = kind ∧ k.frag = i ∧ i < n ∧ leAt g 0x0A 1 = n ∧
        leAt g 0x14 2 = len ∧ leAt g 0x10 4 = x.session ∧ (kind = 1 ∨ kind = 4 ∨ leAt g 0x0C 4 = k.cred)
      let msg := k.msg ++ byteSlice g 0x18 len
      (¬ fits → GivesFlit port flit s fun t => t.flag rSEC_ERR 5 = true ∧ (t.port p).kex = {} ∧
        (x.st = .checking → (t.port p).st = .quarantined ∧ (t.port p).reason = rsCRYPTO)) ∧
      (fits → i + 1 < n → GivesFlit port flit s fun t => (t.port p).kex =
        { k with on := decide (kind ≠ 4) || k.on, frag := i + 1, msg := msg }) ∧
      (fits → kind = 1 → i + 1 = n → ∀ slot,
        [0, 1].find? (fun i => (s.cred i).valid && decide ((s.cred i).id = leAt g 0x0C 4)) = some slot →
        GivesFlit port flit s fun t => (t.port p).kex.formed = true ∧ (t.port p).kex.slot = slot ∧
          (t.port p).kex.ek = msg) ∧
      (fits → kind = 3 → msg = hmac x.kex.theirs x.kex.th → GivesFlit port flit s fun t => (t.port p).enc = true ∧
        (t.port p).session = x.session + 1 ∧ (t.port p).txKeys = x.kex.txKeys ∧ (t.port p).kex = {} ∧
        (x.st = .checking → (t.port p).carries = true)) ∧
      (fits → kind = 3 → msg ≠ hmac x.kex.theirs x.kex.th → GivesFlit port flit s fun t => t.flag rSEC_ERR 5 = true ∧
        (t.port p).kex = {}))

/-- Routed flits (R337, R340, R345, R351, R352, R356, R367). -/
def Obligations.RoutedFlits : Prop :=
  (∀ (port : Fin 32) (flit : Flit) (s : State) (g : List Byte), let p := port.val; let x := s.port p
    let came := facing (bundleOf p)
    let home : Prop := s.live.role p = 1 ∨ flDEST g = s.live.me
    let key := streamKey (flLOAD g) (flSTREAM g)
    s.hears p flit g → routed (flitBytes flit) = true → routed g = true → 0 < lget 0 x.partner (flVC (flitBytes flit)) →
    s.routeOk p g = true →
    (flTYPE g ≠ tyDATA → ∀ i ∈ [Instr.creditFlit port flit .uncorrectable, .noticeLost port flit .uncorrectable,
        .noticeCut port flit .uncorrectable], Gives i s fun t =>
      t.fld rLNK_PORT_DROP 59 48 p = sat 12 (s.fld rLNK_PORT_DROP 59 48 p + 1) ∧ t.flag rLNK_ERR 3 = true) ∧
    (home → s.streamOk (s.peerFrom p g) g = true → flTYPE g = tyDATA → (s.stream key).cutHere = false →
      (Gives (.dataFlit port flit .corrected) s fun t => s.logged t { cls := .A, blk := blkLNK, locus := p } ∧
        (t.stream key).store = (s.stream key).store ++ flitTokens g) ∧
      (x.enc = false → Gives (.dataFlit port flit .uncorrectable) s fun t =>
        s.logged t { cls := .B, blk := blkLNK, locus := p } ∧
        ∃ ts, (t.stream key).store = (s.stream key).store ++ ts ∧ ts.length = flSUB g % 4 ∧
          ∀ y ∈ ts, y.payload = 0 ∧ Tok.poison y = true)) ∧
    (home → s.streamOk (s.peerFrom p g) g = true →
      (flTYPE g = tyDATA → GivesFlit port flit s fun t => t.stream key =
        if (s.stream key).cutHere then s.stream key
        else { s.stream key with
          store := (s.stream key).store ++ flitTokens g, inIndex := (s.stream key).inIndex + flSUB g % 4 }) ∧
      (∀ h st n i r rs, flTYPE g = tyCREDIT → creditEntries g = [(h, st, n)] → s.outNumber h st (s.peerFrom p g) = some i →
        s.outRecs h st = r :: rs → s.slotsOf (edgeSite (rmGateway r) st).1 = [] → GivesFlit port flit s fun t =>
          t.stream (streamKey h st) = { s.stream (streamKey h st) with
            spent := lset (s.stream (streamKey h st)).spent i (lget 0 (s.stream (streamKey h st)).spent i - n) }) ∧
      (flTYPE g = tyNOTICE → flSUB g = 2 → GivesFlit port flit s fun t => t.stream key =
        if (s.stream key).cutHere then s.stream key
        else { s.stream key with store := (s.stream key).store ++ [cutToken (flSTREAM g)], cutHere := true }) ∧
      (flTYPE g = tyNOTICE → flSUB g ≠ 2 → (s.remoteStreams (flLOAD g)).contains (flSTREAM g) = true →
        ((s.load (flLOAD g)).cmd = none → GivesFlit port flit s fun t =>
          t.stream key = { gen := leAt g 0x13 1 % 16 % 16 } ∧
          t.fld rLNK_NOTICE_CNT 15 0 = sat 16 (s.fld rLNK_NOTICE_CNT 15 0 + 1)) ∧
        ((s.load (flLOAD g)).cmd ≠ none → GivesFlit port flit s fun t => t.flag rLNK_ERR 4 = true))) ∧
    (¬ home →
      (∀ b v, s.admits (some came) g = some (b, v) → s.stuck b → GivesFlit port flit s fun t =>
        t.lnkQ (queueKey (facing came) (flVC g) b) = [{
          bytes := patch g 1 (leBytes 1 (if flTYPE g = tyDATA then flSUB g % 4 + (if 2 ≤ v then 4 else 0) else flSUB g)),
          vc := v, entry := some (p, flVC (flitBytes flit)) }]) ∧
      (s.admits (some came) g = none → GivesFlit port flit s fun t => t.flag rLNK_ERR 6 = true))) ∧
  (∀ (load : Fin 16) (stream : Fin 64) (peer : BitVec 32) (s : State), let h := load.val; let st := stream.val
    let key := streamKey h st; let x := s.stream key; let rs := s.outRecs h st
    s.linkQuiet →
    (s.outNumber h st (coordOf peer.toNat) = none → Gives (.mcastCut load stream peer) s fun t => t = s) ∧
    ∀ i, s.outNumber h st (coordOf peer.toNat) = some i →
      ((rs.length < 2 ∨ x.cut.testBit i = true ∨ x.hasCredit (i, lget [] rs i) = true ∨ s.gatewayWaits h st = false) →
        Gives (.mcastCut load stream peer) s fun t => t = s) ∧
      (2 ≤ rs.length → x.cut.testBit i = false → x.hasCredit (i, lget [] rs i) = false → s.gatewayWaits h st = true →
        bridgePeer (lget [] rs i) ≠ none →
        let y := { x with cut := x.cut ||| (1 <<< i) }
        let k := (edgeSite (rmGateway (lget [] rs i)) st).1
        (∀ q ∈ s.slotsOf k, (applyUpd (.stream key y) s).slotReady k q.2 = false) →
        Gives (.mcastCut load stream peer) s fun t => t.stream key = y ∧ t.flag rLNK_ERR 5 = true))

/-- Timers and failures of a link (R328, R331, R335, R337, R342, R347, R350, R354, R359, R467, R468). -/
def Obligations.LinkTimers : Prop :=
  (∀ (port : Fin 32) (s : State), let p := port.val; let x := s.port p; s.linkQuiet →
    let dead (reason : Nat) (t : State) : Prop := (t.port p).st = .failed ∧ (t.port p).reason = reason ∧
      (t.port p).replay = [] ∧ (t.port p).enc = false ∧ t.flag rLNK_ERR 2 = true ∧ t.flag rLNK_PORT_CTL 61 p = false
    (x.lit = false → (Gives (.laneLockLost port) s fun t => t = s) ∧ (Gives (.linkSilence port) s fun t => t = s) ∧
      Gives (.fecThreshold port) s fun t => t = s) ∧
    (x.lit = true → lostFlits x = [] → s.live.role p ≠ 1 →
      (Gives (.laneLockLost port) s (dead rsLOCK)) ∧ (Gives (.linkSilence port) s (dead rsSILENCE)) ∧
      Gives (.fecThreshold port) s fun t => dead rsFEC t ∧
        t.fld rLNK_PORT_FEC 31 0 p = sat 32 (s.fld rLNK_PORT_FEC 31 0 p + 65)) ∧
    ((x.replay = [] ∨ x.lit = false) → Gives (.replayTimeout port) s fun t => t = s) ∧
    (x.replay ≠ [] → x.lit = true → (∀ r ∈ x.replay, r.resent < 7) → Gives (.replayTimeout port) s fun t =>
      (t.port p).replay = x.replay.map (fun r => { r with resent := r.resent + 1 }) ∧
      t.fld rLNK_PORT_REPLAY 31 0 p = sat 32 (s.fld rLNK_PORT_REPLAY 31 0 p + x.replay.length)) ∧
    ((s.rekeyDue p = false ∨ x.carries = false ∨ x.kex.on = true) → Gives (.rekeyLimit port) s fun t => t = s) ∧
    (s.rekeyDue p = true → x.carries = true → x.kex.on = false →
      (s.startsKex p = true → Gives (.rekeyLimit port) s fun t => (t.port p).kex.on = true ∧ (t.port p).kex.mine = true ∧
        (t.port p).kex.cred = (s.cred (b2n (s.flag rSEC_CRED_CTL 62))).id) ∧
      (s.startsKex p = false → x.waiting = [] → x.replay.length < replaySize → Gives (.rekeyLimit port) s fun t =>
        (t.port p).tx = (x.tx + 1) % 65536 ∧ (t.port p).kex = x.kex)) ∧
    (x.kex.on = false → Gives (.kexTimeout port) s fun t => t = s) ∧
    (x.kex.on = true → Gives (.kexTimeout port) s fun t => t.flag rSEC_ERR 5 = true ∧ (t.port p).kex = {} ∧
      (x.st = .checking → (t.port p).st = .quarantined ∧ (t.port p).reason = rsCRYPTO) ∧
      (x.st ≠ .checking → s.rekeyDue p = false → (t.port p).st = x.st))) ∧
  (∀ (port : Fin 32) (s : State), let p := port.val; let x := s.port p
    (x.st ≠ .training → (Gives (.laneTrainingDone port) s fun t => t = s) ∧
      Gives (.laneTrainingTimeout port) s fun t => t = s) ∧
    (x.st = .training → (Gives (.laneTrainingDone port) s fun t => (t.port p).st = .checking ∧ (t.port p).far = [] ∧
        (t.port p).session = 0 ∧ ∃ h, t.sentFlits p = s.sentFlits p ++ [h]) ∧
      Gives (.laneTrainingTimeout port) s fun t => (t.port p).st = .failed ∧ (t.port p).reason = rsTRAIN ∧
        t.flag rLNK_ERR 0 = true) ∧
    (Gives (.laneRetrainDone port) s fun t => t.port p =
      if x.st = .lowRate ∧ x.retraining = true then { x with st := .active, retraining := false } else x) ∧
    (x.lit = true → x.st ≠ .draining → Gives (.helloTimer port) s fun t => (t.port p).toldLow = s.wantsLow p ∧
      (t.port p).mine = byteSlice (s.helloBody p) 0 28 ∧ ∃ h, t.sentFlits p = s.sentFlits p ++ [h]) ∧
    ((x.lit = false ∨ x.st = .draining) → Gives (.helloTimer port) s fun t => t = s) ∧
    ((x.st = .checking ∨ x.st = .quarantined ∨ x.st = .lowRate) → Gives (.keepaliveTimer port) s fun t =>
      ∃ h, t.sentFlits p = s.sentFlits p ++ [h]) ∧
    (x.st ≠ .checking → x.st ≠ .quarantined → x.st ≠ .lowRate → Gives (.keepaliveTimer port) s fun t => t = s)) ∧
  (∀ (load : Fin 16) (stream : Fin 64) (s : State), let h := load.val; let st := stream.val
    let key := streamKey h st; let x := s.stream key; s.linkQuiet →
    (x.pack = [] → Gives (.dataFlitTimer load stream) s fun t => t = s) ∧
    ((x.owed = 0 ∨ s.inRec h st = none) → Gives (.creditFlitTimer load stream) s fun t => t = s) ∧
    (∀ r b v, x.pack ≠ [] → x.cut = 0 → s.outRecs h st = [r] → bridgePeer r = none →
      let f := dataFlitBytes s.live.me r x.gen (x.index - x.pack.length) x.pack
      flDEST f ≠ s.live.me → s.admits none f = some (b, v) → s.stuck b →
      Gives (.dataFlitTimer load stream) s fun t => t.stream key = { x with pack := [] } ∧
        t.lnkQ (queueKey 8 0 b) = [{ bytes := patch f 1 (leBytes 1 (flSUB f % 4 + (if 2 ≤ v then 4 else 0))), vc := v }]) ∧
    (∀ r b v, x.owed ≠ 0 → s.inRec h st = some r → bridgePeer r = none →
      let f := patch (mkFlit tyCREDIT 1 (rmPeer r ++ coordBytes s.live.me)) 0x30
        (leBytes 1 (rmPeerLoad r) ++ leBytes 1 (rmPeerStream r) ++ leBytes 2 x.owed)
      flDEST f ≠ s.live.me → s.admits none f = some (b, v) → s.stuck b →
      Gives (.creditFlitTimer load stream) s fun t => t.stream key = { x with owed := 0 } ∧
        t.lnkQ (queueKey 8 0 b) = [{ bytes := patch f 1 (leBytes 1 (flSUB f)), vc := v }])) ∧
  (∀ (bundle : Fin 8) (s : State), let b := bundle.val
    let done := (s.activePorts b).all (fun p => ((s.port p).replay.filter (fun r => routed r.clear)).isEmpty)
    s.linkQuiet →
    (done = true → Gives (.bundleResume bundle) s fun t => t.pausedBundles = s.pausedBundles &&& (2 ^ 8 - 1 - (1 <<< b))) ∧
    (done = false → Gives (.bundleResume bundle) s fun t => t = s))

/-- Port control (R342, R343, R347, R351, R354), the policy (R357, R359) and the table (R364). -/
def Obligations.PortsAndTables : Prop :=
  (∀ (port : Fin 32) (s : State), let p := port.val; let x := s.port p; s.taken → s.linkQuiet →
    (x.st = .off → s.live.role p ≠ 2 → Gives (.portEnable port) s fun t => t.flag rLNK_PORT_CTL 63 p = true ∧
      t.port p = { st := .training, reason := x.reason, encReq := s.flag rLNK_POLICY 63 }) ∧
    (x.st = .draining → Gives (.portEnable port) s fun t => t.flag rLNK_PORT_CTL 63 p = true ∧
      t.port p = { x with st := x.back }) ∧
    ((x.st = .failed ∨ s.live.role p = 2) → x.st ≠ .draining → Gives (.portEnable port) s fun t =>
      t.flag rLNK_PORT_CTL 63 p = true ∧ t.port p = x) ∧
    (Gives (.portDisable port) s fun t => t.flag rLNK_PORT_CTL 63 p = false ∧
      (t.port p).st = if x.st = .off then .off else if x.st = .draining ∨ x.replay ≠ [] then .draining else .off) ∧
    (x.st ≠ .off → x.st ≠ .draining → x.replay ≠ [] → Gives (.portDisable port) s fun t => (t.port p).back = x.st ∧
      (t.port p).kex = {}) ∧
    (x.st ≠ .draining → Gives (.portForce port) s fun t => t.port p = x ∧ t.flag rLNK_ERR 7 = true) ∧
    (x.st = .draining → lostFlits x = [] → s.live.role p ≠ 1 → Gives (.portForce port) s fun t =>
      (t.port p).st = .off ∧ (t.port p).reason = rsFORCE ∧ (t.port p).replay = []) ∧
    (x.st = .quarantined → Gives (.portRetrain port) s fun t => (t.port p).st = .checking ∧ (t.port p).far = [] ∧
      t.flag rLNK_PORT_CTL 61 p = true) ∧
    (x.st ≠ .quarantined → Gives (.portRetrain port) s fun t => t = s) ∧
    (∀ low : Bool, (Gives (.portLow port low) s fun t => t.flag rLNK_PORT_CTL 60 p = low) ∧
      (s.nwSt = .active → x.carries = true → Gives (.portLow port low) s fun t => (t.port p).toldLow = low ∧
        (x.st = .active → x.toldLow = false → low = true → (t.port p).st = .lowRate)))) ∧
  (∀ (v : Word) (s : State), s.taken → Gives (.lnkPolicyWrite v) s fun t =>
    t.fld rLNK_POLICY 55 48 = max 24 (min 40 (bits 55 48 v.toNat)) ∧ t.fld rLNK_POLICY 47 32 = bits 47 32 v.toNat ∧
    t.flag rLNK_POLICY 63 = v.toNat.testBit 63) ∧
  (∀ s : State, s.taken → s.linkQuiet →
    (s.shadowTop.ok = true → Gives .topologyCommit s fun t => t.live = s.shadowTop ∧
      (s.shadowTop.noDetour = true → t.flag rTOP_ERR 1 = true) ∧
      (s.bootPhase = .ready → ∀ p, p < 32 → s.flag rLNK_PORT_CTL 63 p = true → (s.port p).st = .off →
        s.shadowTop.role p ≠ 2 → (t.port p).st = .training)) ∧
    (s.shadowTop.ok = false → Gives .topologyCommit s fun t => t.live = s.live ∧ t.flag rTOP_ERR 0 = true))

/-- Module time (R361, R502). -/
def Obligations.ModuleTime : Prop :=
  ∀ s : State, let steers : Bool := s.isRoot && s.flag rTOP_CTL 61
    let target := (s.reg rTOP_TIME_SET).toNat * 1000000000
    let early : Prop := ∃ n, s.ppsAt = some n ∧ s.now < n + 900000000
    (s.isRoot = true → Gives .timeSyncTimer s fun t => t.timeParent = 0) ∧
    (∀ p, s.isRoot = false → s.parentPort = some p → Gives .timeSyncTimer s fun t => t.timeParent = p ∧
      t.holdover = false ∧ (s.updSt ≠ .pause → ∃ h, t.sentFlits p = s.sentFlits p ++ [flitOf (h ++ leBytes 4 (crc32 h))] ∧
        flTYPE h = tyLINK ∧ flSUB h = subTIMEREQ ∧ byteSlice h 0x08 8 = leBytes 8 s.stamp)) ∧
    (s.isRoot = false → s.parentPort = none → Gives .timeSyncTimer s fun t => t.holdover = true ∧ t.timeLocked = false) ∧
    (early → Gives .ppsEdge s fun t => t = s) ∧
    (¬ early → steers = false → Gives .ppsEdge s fun t => t.ppsAt = some s.now ∧ t.now = s.now ∧
      t.slewLeft = s.slewLeft) ∧
    (¬ early → steers = true → s.timeLocked = true → Gives .ppsEdge s fun t => t.ppsAt = some s.now ∧
      t.slewLeft = (target : Int) - (s.now : Int) ∧
      (t.reg rTOP_TIME_SET).toNat = ((s.reg rTOP_TIME_SET).toNat + 1) % 2 ^ 64) ∧
    (¬ early → steers = true → s.timeLocked = false → s.now ≤ target → Gives .ppsEdge s fun t => t.now = target ∧
      t.ppsAt = some target ∧ t.timeLocked = true ∧ t.timeBehind = 0) ∧
    (¬ early → steers = true → s.timeLocked = false → target < s.now → Gives .ppsEdge s fun t => t.now = s.now ∧
      t.timeBehind = 4 * (s.now - target) ∧ t.timeLocked = false) ∧
    (steers = true → Gives .ppsLost s fun t => t.flag rTOP_ERR 3 = true ∧ t.ppsAt = none ∧ t.timeLocked = false) ∧
    (steers = false → Gives .ppsLost s fun t => t = s)

/-- The cap (R392 to R396), the brake (R400 to R404) and the guarantee clock (R405 to R407). -/
def Obligations.CapAndBrake : Prop :=
  (∀ (m : PowerMeas) (s : State),
    let eff := slewCap (s.fld rPWR_CAP 47 32) (s.fld rPWR_CAP 63 48)
    let defended : Bool := s.reqIds.any (fun i => (s.req i).oldCode && (s.req i).live && decide ((s.req i).st ≠ .parked))
    let floor := if defended then s.fld rPWR_GUAR 13 8 else s.fld rPWR_GUAR 5 0
    let n := ceilingNext pFab floor m.pin.toNat eff (s.fld rPWR_CAP 5 0) s.capOver s.capUnder
    Gives (.capPeriod m) s fun t =>
      t.fld rPWR_IN 63 48 = m.vin.toNat ∧ t.fld rPWR_IN 47 32 = m.iin.toNat ∧ t.fld rPWR_IN 31 16 = m.pin.toNat ∧
      t.fld rPWR_PEAK 63 48 = max (s.fld rPWR_PEAK 63 48) m.pin.toNat ∧
      t.fld rPWR_PEAK 47 32 = max (s.fld rPWR_PEAK 47 32) m.avg1ms.toNat ∧
      t.fld rPWR_ENERGY 63 0 = sat 64 (s.fld rPWR_ENERGY 63 0 + m.mj) ∧
      t.fld rPWR_CAP 47 32 = eff ∧ t.fld rPWR_GUAR 13 8 = floor ∧
      t.fld rPWR_CAP 5 0 = n.1 % 64 ∧ t.capOver = n.2.1 ∧ t.capUnder = n.2.2 ∧
      (∀ i, i < 640 → (t.island i).limCap = min (s.island i).limCap n.1) ∧
      t.flag rPWR_GUAR 63 = t.loadedIslands.any (fun i =>
        decide (min (t.island i).limCap (min (t.island i).limBrake (t.island i).limTherm) < floor))) ∧
  (∀ (v : BitVec 16) (s : State), s.taken →
    (Gives (.capTargetWrite v) s fun t => t.fld rPWR_CAP 63 48 = max 1200 (min 3800 v.toNat) ∧
      t.fld rPWR_CAP 47 0 = s.fld rPWR_CAP 47 0 ∧
      (v.toNat < 1200 ∨ 3800 < v.toNat → t.flag rPWR_ERR 0 = true)) ∧
    (let level := max 1200 (min 2400 v.toNat);
      Gives (.brakeLevelWrite v) s fun t => t.fld rPWR_BRAKE 63 48 = level ∧
        (∀ c, brakeCodeOf pFix pDoc pFab level = some c → t.fld rPWR_BRAKE 37 32 = c ∧ t.fld rPWR_BRAKE 31 27 = 16) ∧
        (brakeCodeOf pFix pDoc pFab level = none → t.fld rPWR_BRAKE 37 32 = 0 ∧
          t.fld rPWR_BRAKE 31 27 = (brakePaceOf pFix pDoc pFab level).getD 1) ∧
        (v.toNat < 1200 ∨ 2400 < v.toNat → t.flag rPWR_ERR 0 = true))) ∧
  (∀ (v : BitVec 6) (s : State), s.taken →
    let c := max 1 (min 36 v.toNat)
    Gives (.guaranteeCodeWrite v) s fun t => t.fld rPWR_GUAR 5 0 = c ∧
      t.fld rPWR_GUAR 13 8 = (if t.reqIds.any (fun i => (t.req i).oldCode && (t.req i).live &&
        decide ((t.req i).st ≠ .parked)) then max (s.fld rPWR_GUAR 13 8) c else c) ∧
      (c < s.fld rPWR_GUAR 5 0 → ∀ i ∈ s.reqIds, (s.req i).hasDeadline = true → (s.req i).live = true →
        (s.req i).st ≠ .parked → (t.req i).oldCode = true) ∧
      (v.toNat < 1 ∨ 36 < v.toNat → t.flag rPWR_ERR 0 = true)) ∧
  (∀ s : State,
    let asserts (t : State) : Prop := t.flag rPWR_BRAKE 47 = true ∧
      (s.flag rPWR_BRAKE 47 = false → t.fld rPWR_BRAKE 23 0 = sat 24 (s.fld rPWR_BRAKE 23 0 + 1) ∧
        ∀ i, i < 640 → (t.island i).limBrake = min (s.island i).limBrake (s.fld rPWR_BRAKE 37 32)) ∧
      (s.flag rPWR_BRAKE 47 = true → t.fld rPWR_BRAKE 23 0 = s.fld rPWR_BRAKE 23 0)
    let freed (t : State) : Prop := t.flag rPWR_BRAKE 47 = false ∧
      t.fld rPWR_CAP 47 32 = min (s.fld rPWR_BRAKE 63 48) (s.fld rPWR_CAP 63 48) ∧
      t.fld rPWR_CAP 5 0 = s.fld rPWR_BRAKE 37 32
    let held (t : State) : Prop := t.flag rPWR_BRAKE 47 = s.flag rPWR_BRAKE 47 ∧ t.reg rPWR_CAP = s.reg rPWR_CAP
    (Gives .brakeAssert s fun t => t.pinBrake = true ∧ asserts t) ∧
    (Gives .vinSag s fun t => t.flag rPWR_BRAKE 46 = true ∧ t.flag rPWR_ERR 4 = true ∧ asserts t) ∧
    (Gives .brakeRelease s fun t => t.pinBrake = false ∧
      (s.flag rPWR_BRAKE 47 = true → s.flag rPWR_BRAKE 46 = false → freed t) ∧
      (s.flag rPWR_BRAKE 47 = false ∨ s.flag rPWR_BRAKE 46 = true → held t)) ∧
    (Gives .vinRecover s fun t => t.flag rPWR_BRAKE 46 = false ∧
      (s.flag rPWR_BRAKE 47 = true → s.pinBrake = false → freed t) ∧
      (s.flag rPWR_BRAKE 47 = false ∨ s.pinBrake = true → held t)))

/-- Heat (R409 to R412) and night watch (R414 to R417). -/
def Obligations.HeatAndNightWatch : Prop :=
  (∀ (src : Fin 674) (degC : BitVec 8) (s : State), let k := src.val; let c := degC.toNat; let x := s.island k
    let due (ns : Nat) : Prop := ∀ a, s.thermAt k = some a → a + ns ≤ s.now
    (Gives (.sensorRead src degC) s fun t => t.temp k = some c ∧ t.fld rPWR_THERM 47 40 = t.hottest % 256 ∧
      (95 ≤ c → t.thermAlert = true) ∧ (c < 115 → t.hotSince k = none ∧ t.haltCause = s.haltCause) ∧
      (115 ≤ c → s.hotSince k = none → t.hotSince k = some s.now ∧ t.haltCause = s.haltCause) ∧
      (∀ a, 115 ≤ c → s.hotSince k = some a → a + 10000 ≤ s.now → s.halted = false → t.haltCause = haltTHERMAL)) ∧
    (k < 640 → c < 115 →
      (95 ≤ c → due 10000 → 0 < x.wantTherm → Gives (.sensorRead src degC) s fun t =>
        t.island k = { x with wantTherm := x.wantTherm - 1, limTherm := min x.limTherm (x.wantTherm - 1) } ∧
        t.thermAt k = some s.now ∧ t.flag rPWR_ERR 1 = true) ∧
      (c ≤ 92 → due 100000 → x.wantTherm < 36 → Gives (.sensorRead src degC) s fun t =>
        t.island k = { x with wantTherm := x.wantTherm + 1 } ∧ t.thermAt k = some s.now) ∧
      (92 < c → c < 95 → Gives (.sensorRead src degC) s fun t => t.island k = x))) ∧
  (∀ s : State,
    (s.hottest < 90 → (∀ i, i < 640 → s.thermLimited i = false) → Gives .thermAlertRelease s fun t =>
      t.thermAlert = false) ∧
    ((90 ≤ s.hottest ∨ ∃ i, i < 640 ∧ s.thermLimited i = true) → Gives .thermAlertRelease s fun t => t = s) ∧
    (s.taken →
      (s.nwSt = .active → s.mayWatch = true → Gives .nightWatchEnter s fun t => t.nwSt = .entering ∧
        t.flag rPWR_NW 63 = true ∧ (t.reg rFAB_BAY_ON 0).toNat = 0 ∧ ∀ b, b < 16 → t.bay b = {}) ∧
      (s.nwSt = .active → s.mayWatch = false → Gives .nightWatchEnter s fun t => t.nwSt = .active ∧
        t.flag rPWR_NW 63 = false ∧ t.flag rPWR_ERR 5 = true) ∧
      (s.nwSt = .leaving → Gives .nightWatchEnter s fun t => t.nwSt = .leaving ∧ t.flag rPWR_NW 63 = true) ∧
      (s.nwSt = .entering ∨ s.nwSt = .watch → Gives .nightWatchEnter s fun t => t = s) ∧
      (s.nwSt = .watch → Gives .nightWatchExit s fun t => t.nwSt = .leaving ∧ t.flag rPWR_NW 62 = true ∧
        ∀ b, b < 16 → (s.fld rPWR_NW 15 0).testBit b = true → s.halted = false → (s.bay b).st = .off →
          (t.bay b).st = .powering ∧ t.flag rFAB_BAY_ON b = true) ∧
      (s.nwSt = .entering → Gives .nightWatchExit s fun t => t.nwSt = .entering ∧ t.flag rPWR_NW 62 = true) ∧
      (s.nwSt = .active ∨ s.nwSt = .leaving → Gives .nightWatchExit s fun t => t = s)) ∧
    (s.nwSt ≠ .entering → Gives .nightWatchEntered s fun t => t = s) ∧
    (s.nwSt = .entering → Gives .nightWatchEntered s fun t => t.flag rPWR_NW 63 = false ∧
      t.nwSt = if s.flag rPWR_NW 62 = true then .leaving else .watch) ∧
    (s.heldRows = [] →
      (s.nwSt ≠ .leaving → Gives .nightWatchLeft s fun t => t = s) ∧
      (s.nwSt = .leaving → s.linkQuiet → s.flag rPWR_NW 63 = false → Gives .nightWatchLeft s fun t =>
        t.nwSt = .active ∧ t.flag rPWR_NW 62 = false)))

namespace Sys2Proof.Machine

/-- The state from which a start chooses its slot: the identity is set and the reservation of step 5 is over (R423,
R454). -/
def State.reserved (s : State) (obs : StartObs) : State :=
  run (.seq (.dyn fun s => .upd (.ident s.identOf)) (reserveAtStart obs.reserveFails)) s

/-- The state after step 3 of a start whose flash, identity and trims are good (R423, R424). -/
def State.journaled (s : State) (obs : StartObs) : State :=
  run (seqs [setFld rBOOT_STAT 55 52 s.bootCause, .upd (.bootCause 2), setFld rBOOT_FLASH 63 40 obs.jedec.toNat,
    when' (!obs.trims0Ok) (.seq (setErr blkBOOT 0) (setFld rBOOT_STAT 44 44 1)), readJournal, computeBrake]) s

/-- Every register and every byte of memory is as at reset, no unit holds anything (R422); the flash and the commands
that wait stay. -/
def State.wipedFrom (t s : State) : Prop :=
  (∀ off k, t.reg off k = State.reset.reg off k) ∧ (∀ a, t.byte a = State.reset.byte a) ∧
    (∀ h, t.load h = {}) ∧ (∀ b, t.bay b = {}) ∧ (∀ i, t.req i = {}) ∧ (∀ k, t.cmd k = none) ∧ (∀ p, t.port p = {}) ∧
    t.haltCause = 0 ∧ (∀ a, t.flash a = s.flash a) ∧ t.pending = s.pending

end Sys2Proof.Machine

/-- Resets, supplies and the start sequence (R412, R413, R422 to R424, R431, R494, R498, R499, R501). -/
def Obligations.ResetsAndStarts : Prop :=
  (∀ s : State,
    let cause (c : Nat) : Nat := if causeRank c < causeRank s.bootCause then c else s.bootCause
    let restarts (c : Nat) (t : State) : Prop := t.wipedFrom s ∧ t.bootPhase = .dark ∧ t.bootCause = cause c
    let goesOff (c : Nat) (t : State) : Prop := t.wipedFrom s ∧ t.bootPhase = .off ∧ t.bootCause = cause c
    (Gives .modReset s (restarts 1)) ∧ (Gives .powerOn s (restarts 0)) ∧
    (s.bootPhase = .off → Gives .vinReturn s (restarts 3)) ∧ (s.bootPhase ≠ .off → Gives .vinReturn s fun t => t = s) ∧
    (Gives .vinLoss s fun t => goesOff 3 t ∧ t.thermAlert = s.thermAlert) ∧
    (Gives .thermalCutoff s fun t => goesOff 4 t ∧ t.thermAlert = true) ∧
    (Gives .aonSupplyLost s fun t => goesOff 0 t ∧ t.thermAlert = false) ∧
    (∀ v : Word, s.taken →
      (bits 63 56 v.toNat = 0xA5 → v.toNat.testBit 0 = true → Gives (.softReset v) s (restarts 2)) ∧
      ((bits 63 56 v.toNat ≠ 0xA5 ∨ v.toNat.testBit 0 = false) → v.toNat &&& (2 ^ 64 - 1 - regMask rBOOT_RESET) = 0 →
        Gives (.softReset v) s fun t => t.bootPhase = s.bootPhase ∧
          s.logged t { cls := .A, blk := blkBOOT, off := rBOOT_RESET })) ∧
    (s.bootPhase ≠ .ready → Gives .refclkLost s fun t => t = s) ∧
    (s.bootPhase = .ready → s.halted = false → Gives .refclkLost s fun t => t.haltCause = haltINTERNAL ∧
      t.flag rINT_ERR 2 = true ∧ (t.reg rFAB_BAY_ON 0).toNat = 0 ∧ ∀ b, b < 16 → t.bay b = {})) ∧
  (∀ (obs : StartObs) (s : State),
    let stops (c : Nat) (t : State) : Prop := t.bootPhase = .stopped ∧ t.fld rBOOT_STAT 63 60 = 2 ∧
      t.fld rBOOT_STAT 59 56 = c
    let ready (t : State) : Prop := t.bootPhase = .ready ∧ t.fld rBOOT_STAT 63 60 = 1 ∧
      t.fld rBOOT_STAT 31 0 = obs.bootUs.toNat
    let good : Prop := obs.flashOk = true ∧ obs.identityOk = true ∧ (obs.trims0Ok = true ∨ obs.trims1Ok = true)
    (s.bootPhase ≠ .dark → Gives (.start obs) s fun t => t = s) ∧
    (s.bootPhase = .dark →
      (obs.flashOk = false → Gives (.start obs) s fun t => stops 1 t ∧ t.fld rBOOT_STAT 55 52 = s.bootCause % 16) ∧
      (obs.flashOk = true → obs.identityOk = false → Gives (.start obs) s (stops 2)) ∧
      (obs.flashOk = true → obs.identityOk = true → obs.trims0Ok = false → obs.trims1Ok = false →
        Gives (.start obs) s (stops 3)) ∧
      (good → obs.refclk = false → Gives (.start obs) s fun t => t.bootPhase = .waitRefclk ∧ t.startObs = some obs) ∧
      (good → obs.refclk = true →
        (obs.railsOk = false → Gives (.start obs) s (stops 5)) ∧
        (obs.railsOk = true → let s1 := (s.journaled obs).reserved obs
          (s1.journal.choice = none → Gives (.start obs) s (stops 4)) ∧
          (∀ k, s1.journal.choice = some k → s1.slotStarts k s1.journal.minSvn = true →
            Gives (.start obs) s ready)))) ∧
    ((s.startObs = none ∨ s.bootPhase ≠ .waitRefclk) → Gives .refclkArrive s fun t => t = s) ∧
    (s.startObs = some obs → s.bootPhase = .waitRefclk →
      (obs.railsOk = false → Gives .refclkArrive s (stops 5)) ∧
      (obs.railsOk = true → let s1 := (applyUpd (.startObs none) s).reserved obs
        (s1.journal.choice = none → Gives .refclkArrive s (stops 4)) ∧
        (∀ k, s1.journal.choice = some k → s1.slotStarts k s1.journal.minSvn = true → Gives .refclkArrive s ready))) ∧
    (s.bootPhase = .waitRefclk → Gives .refclkTimeout s fun t => stops 6 t ∧ t.startObs = none) ∧
    (s.bootPhase ≠ .waitRefclk → Gives .refclkTimeout s fun t => t = s))

/-- Updates (R434 to R445). -/
def Obligations.Updating : Prop :=
  (∀ (cmd : Nat) (ok : Bool) (s : State),
    let ended (t : State) (reason : Nat) : Prop := s.answered t cmd (updStatus reason) s.updTarget reason ∧
      t.fld rUPD_STAT 39 32 = reason
    (s.takesUpd cmd opcUBLOCK = none → Gives (.updateBlock cmd ok) s fun t => t = s) ∧
    (s.takesUpd cmd opcUMANIFEST = none → Gives (.updateManifest cmd ok) s fun t => t = s) ∧
    (s.takesUpd cmd opcUACTIVATE = none → Gives (.updateActivate cmd) s fun t => t = s) ∧
    (s.takesUpd cmd opcUCONFIRM = none → Gives (.updateConfirm cmd) s fun t => t = s) ∧
    (∀ c, s.takesUpd cmd opcUBLOCK = some c → let d := c.desc
      (s.updForeign c = true → Gives (.updateBlock cmd ok) s fun t => ended t 4 ∧ t.updSt = s.updSt) ∧
      (s.updForeign c = false → s.updSt = .trial → Gives (.updateBlock cmd ok) s fun t => ended t 5 ∧ t.updSt = .trial) ∧
      (s.updForeign c = false → s.updSt ≠ .trial →
        ((partArea (ubPART d)).2 < ubOFFSET d + ubLENGTH d → Gives (.updateBlock cmd ok) s fun t => ended t 1 ∧
          t.updSt = .staging ∧ t.updOwned = true ∧ t.flag rUPD_ERR 1 = s.flag rUPD_ERR 1) ∧
        (ubOFFSET d + ubLENGTH d ≤ (partArea (ubPART d)).2 → crc32c (s.updSource d) ≠ ubCRC d →
          Gives (.updateBlock cmd ok) s fun t => ended t 2 ∧ t.updSt = .staging ∧ t.flag rUPD_ERR 1 = true) ∧
        (ubOFFSET d + ubLENGTH d ≤ (partArea (ubPART d)).2 → crc32c (s.updSource d) = ubCRC d →
          s.journal.partBase s.updTarget (ubPART d) = none → Gives (.updateBlock cmd ok) s fun t => ended t 0x0B) ∧
        (∀ a, ubOFFSET d + ubLENGTH d ≤ (partArea (ubPART d)).2 → crc32c (s.updSource d) = ubCRC d →
          s.journal.partBase s.updTarget (ubPART d) = some a →
          (ok = true → Gives (.updateBlock cmd ok) s fun t => ended t 0 ∧ t.updSt = .staging ∧ t.updOwned = true ∧
            t.flashBytes (a + ubOFFSET d) (ubLENGTH d) = s.updSource d) ∧
          (ok = false → Gives (.updateBlock cmd ok) s fun t => ended t 3 ∧ t.flag rUPD_ERR 0 = true)))) ∧
    (∀ c, s.takesUpd cmd opcUMANIFEST = some c → s.updForeign c = false → s.updSt ≠ .trial →
      let m := s.updSource c.desc
      let s1 := run (seqs [.upd (.updSt .staging), .upd (.updManifest 0), eraseSectors (manifestAt s.updTarget) m.length,
        programFlash (manifestAt s.updTarget) m]) s
      let reason := s1.manifestReason m (s1.journal.partBase s1.updTarget) (fun _ => true) s1.journal.minSvn
      (s.updSt = .idle → Gives (.updateManifest cmd ok) s fun t => ended t 0x0B ∧ t.updSt = .idle) ∧
      (s.updSt ≠ .idle → crc32c m ≠ ubCRC c.desc → Gives (.updateManifest cmd ok) s fun t => ended t 2 ∧ t.updSt = s.updSt) ∧
      (s.updSt ≠ .idle → crc32c m = ubCRC c.desc →
        (ok = false → Gives (.updateManifest cmd ok) s fun t => ended t 3 ∧ t.updSt = .staging) ∧
        (ok = true → reason = none → Gives (.updateManifest cmd ok) s fun t => ended t 0 ∧ t.updSt = .verified ∧
          t.updManifest = mfMask m) ∧
        (∀ r, ok = true → reason = some r → Gives (.updateManifest cmd ok) s fun t => t.updSt = .staging ∧
          t.updManifest = 0))) ∧
    (∀ c, s.takesUpd cmd opcUACTIVATE = some c → s.updForeign c = false → s.updSt ≠ .trial →
      (s.updSt ≠ .verified → Gives (.updateActivate cmd) s fun t => ended t 0x0B ∧ t.updSt = s.updSt) ∧
      (s.updSt = .verified → s.armOk = false → Gives (.updateActivate cmd) s fun t => ended t 0x0C ∧ t.updSt = .staging) ∧
      (s.updSt = .verified → s.armOk = true → Gives (.updateActivate cmd) s fun t => ended t 0 ∧ t.updSt = .armed)) ∧
    (∀ c, s.takesUpd cmd opcUCONFIRM = some c → s.updForeign c = false → leAt c.desc 0x10 1 = 1 →
      (s.updSt ≠ .trial → Gives (.updateConfirm cmd) s fun t => ended t 0x0B ∧ t.updSt = s.updSt) ∧
      (s.updSt = .trial → Gives (.updateConfirm cmd) s fun t => s.answered t cmd .ok s.updTarget 0 ∧ t.updSt = .idle ∧
        t.flag rBOOT_STAT 50 = false ∧ t.updOwned = false))) ∧
  (∀ s : State, s.taken →
    (s.updSt ≠ .armed → Gives .updGo s fun t => t.updSt = s.updSt ∧ s.logged t { cls := .A, blk := blkUPD, off := rUPD_CTL }) ∧
    (s.updSt = .armed → s.updManifest % 32 = 0 → Gives .updGo s fun t => t.updSt = .idle ∧ t.updOwned = false) ∧
    (s.updSt = .armed → s.updManifest % 32 ≠ 0 → s.quiet = true → Gives .updGo s fun t => t.updSt = .pause ∧
      t.updGoAt = s.now ∧ t.fld rUPD_PAUSE 31 16 = sat 16 (s.fld rUPD_PAUSE 31 16 + 1) ∧
      (t.reg rFAB_BAY_ON 0).toNat = 0 ∧ ∀ b, b < 16 → t.bay b = {}) ∧
    (s.updSt = .armed → s.updManifest % 32 ≠ 0 → s.quiet = false → Gives .updGo s fun t => t.updSt = .armed ∧
      t.fld rUPD_STAT 39 32 = 0x0D ∧ t.flag rUPD_ERR 4 = true) ∧
    (s.updSt ≠ .trial → Gives .updAbort s fun t => t.updSt = .idle ∧ t.updOwned = false ∧ t.updManifest = 0) ∧
    (s.updSt = .trial → Gives .updAbort s fun t => t = s)) ∧
  (∀ s : State,
    (s.heldRows = [] → s.updSt ≠ .pause → (Gives .activationPartsReady s fun t => t = s) ∧
      Gives .activationRevert s fun t => t = s) ∧
    (s.heldRows = [] → s.updSt = .pause →
      (Gives .activationPartsReady s fun t => t.updSt = .trial ∧ t.flag rBOOT_STAT 50 = true ∧
        t.fld rBOOT_STAT 51 51 = s.updTarget % 2 ∧
        t.fld rUPD_PAUSE 63 32 = ((s.now - s.updGoAt) / 1000) % 2 ^ 32) ∧
      (Gives .activationRevert s fun t => t.updSt = .idle ∧ t.updOwned = false ∧ t.fld rUPD_STAT 39 32 = 0x0E ∧
        t.flag rUPD_ERR 5 = true ∧ t.runSlot = s.runSlot)) ∧
    (∀ v : Word, s.updSt = .pause → s.heldRows = [.arbCloseWrite v] → Gives .activationPartsReady s fun t =>
      t.updSt = .trial ∧ t.heldRows = [] ∧ t.fld rARB_CLOSE 1 0 = bits 1 0 v.toNat))

/-- Attestation (R452 to R457), windows (R462) and credentials (R465). -/
def Obligations.SecurityEngine : Prop :=
  (∀ (identity : Bool) (s : State), let row : Instr := if identity then .attestIdentity else .attestReport
    let a := s.fld rSEC_ATT_ADDR 47 0
    s.taken →
    (s.fld rSEC_ATT_CTL 61 60 = attBUSY → Gives row s fun t => t.reg rSEC_ATT_CTL 0 = s.reg rSEC_ATT_CTL 0 ∧
      t.attQ = s.attQ ∧ t.flag rSEC_ERR 7 = true) ∧
    (s.fld rSEC_ATT_CTL 61 60 ≠ attBUSY → s.attQ = [] →
      (s.attAddrOk = false → Gives row s fun t => t.flag rSEC_ATT_CTL 63 = false ∧ t.fld rSEC_ATT_CTL 61 60 = attFAILED ∧
        t.fld rSEC_ATT_CTL 59 52 = 1) ∧
      (s.attAddrOk = true → identity = true → Gives row s fun t => t.fld rSEC_ATT_CTL 61 60 = attDONE ∧
        t.fld rSEC_ATT_CTL 15 0 = s.identityRecord.length % 65536 ∧
        t.bytes a s.identityRecord.length = s.identityRecord) ∧
      (s.attAddrOk = true → identity = false → s.leafReady = true →
        let msg := s.report (s.bytes a 32)
        let bs := msg ++ s.signature msg (s.fld rSEC_IDX 63 48) (s.fld rSEC_IDX 36 26)
        Gives row s fun t => t.fld rSEC_ATT_CTL 61 60 = attDONE ∧ t.fld rSEC_ATT_CTL 15 0 = bs.length % 65536 ∧
          t.bytes a bs.length = bs ∧ t.fld rSEC_IDX 36 26 = s.fld rSEC_IDX 36 26 + 1) ∧
      (s.attAddrOk = true → identity = false → s.leafReady = false → s.flag rSEC_IDX 25 = false →
        s.nextTree ≤ 32767 → Gives row s fun t => t.fld rSEC_ATT_CTL 61 60 = attBUSY ∧ t.flag rSEC_IDX 24 = true ∧
          t.attQ = [{ identity := false }]))) ∧
  (∀ (ok : Bool) (s : State),
    (s.flag rSEC_IDX 24 = false → Gives (.reservationComplete ok) s fun t => t = s) ∧
    (∀ k, s.flag rSEC_IDX 24 = true → s.attQ = [] → s.idxSector = some k →
      (ok = true → Gives (.reservationComplete ok) s fun t => t.fld rSEC_IDX 63 48 = s.nextTree % 65536 ∧
        t.fld rSEC_IDX 36 26 = 0 ∧ t.flag rSEC_IDX 24 = false ∧ t.treeHeld = true ∧
        t.fld rSEC_IDX 15 0 = sat 16 (s.fld rSEC_IDX 15 0 + 1)) ∧
      (ok = false → Gives (.reservationComplete ok) s fun t => t.flag rSEC_ERR 1 = true ∧
        t.idxTried = s.idxTried ++ [k] ∧ t.treeHeld = s.treeHeld)) ∧
    (s.flag rSEC_IDX 24 = true → s.attQ = [] → s.idxSector = none → Gives (.reservationComplete ok) s fun t =>
      t.flag rSEC_IDX 25 = true ∧ t.flag rSEC_IDX 24 = false ∧ t.flag rSEC_ERR 2 = true)) ∧
  (∀ (v : Word) (s : State), s.taken →
    (let k := s.fld rSEC_WIN_SEL 5 0; let units := s.fld rT2C_CTL 63 56 * sizeGiB / unit64K;
      ((s.tenant k).st = .off → Gives (.secWinWrite v) s fun t => t.flag rSEC_WIN 63 k = v.toNat.testBit 63 ∧
        t.fld rSEC_WIN 51 32 k = bits 51 32 v.toNat ∧
        t.fld rSEC_WIN 19 0 k = min (bits 19 0 v.toNat) (units - bits 51 32 v.toNat)) ∧
      ((s.tenant k).st ≠ .off → Gives (.secWinWrite v) s fun t => t.reg rSEC_WIN k = s.reg rSEC_WIN k)) ∧
    (let i := bits 61 61 v.toNat; let c := s.cred i;
      (v.toNat.testBit 63 = true → c.valid = true → Gives (.credValidWrite v) s fun t => t.cred i = c) ∧
      (v.toNat.testBit 63 = true → c.valid = false → c.key.all Option.isSome = true → Gives (.credValidWrite v) s fun t =>
        t.cred i = { c with id := bits 31 0 v.toNat, valid := true }) ∧
      (v.toNat.testBit 63 = true → c.valid = false → c.key.all Option.isSome = false → Gives (.credValidWrite v) s fun t =>
        t.cred i = { c with id := bits 31 0 v.toNat } ∧ t.flag rSEC_ERR 6 = true) ∧
      (v.toNat.testBit 63 = false → c.valid = true → Gives (.credValidWrite v) s fun t => t.cred i = { id := c.id }) ∧
      (v.toNat.testBit 63 = false → c.valid = false → Gives (.credValidWrite v) s fun t =>
        t.cred i = { c with id := bits 31 0 v.toNat }) ∧
      Gives (.credValidWrite v) s fun t => t.fld rSEC_CRED_CTL 62 59 = bits 62 59 v.toNat) ∧
    (let i := s.fld rSEC_CRED_CTL 61 61; let w := s.fld rSEC_CRED_CTL 60 59; let c := s.cred i;
      (c.valid = true → Gives (.credKeyWrite v) s fun t => t.cred i = c ∧ t.fld rSEC_CRED_CTL 60 59 = w) ∧
      (c.valid = false → Gives (.credKeyWrite v) s fun t => t.cred i = { c with key := lset c.key w (some v.toNat) } ∧
        t.fld rSEC_CRED_CTL 60 59 = (w + 1) % 4)))

namespace Sys2Proof.Machine

/-- The class of R470 that a request of the sideband belongs to; none for every other command. -/
def sbService : Instr → Option Service
  | .setEndpointId _ | .getEndpointId | .getMctpVersionSupport _ | .getMessageTypeSupport => some .mctp
  | .gettid | .settid _ | .getpldmversion _ | .getpldmtypes | .getpldmcommands _ | .lvStatus => some .base
  | .getpdrrepositoryinfo | .getpdr _ | .getsensorreading _ | .getstatesensorreadings _ | .setnumericeffectervalue _ _
  | .getnumericeffectervalue _ | .setstateeffecterstates _ _ | .getstateeffecterstates _ | .lvLogRead _ _ | .lvLogAck _
  | .lvCensusRead _ _ _ | .lvAttest _ _ | .lvAttestRead _ _ | .lvCsRead _ | .lvCsWrite _ _ => some .full
  | _ => none

/-- A CCC of Table 14.1, a packet, or the engine's own refresh of the view. -/
def sbBus : Instr → Bool
  | .mctpPacket _ _ | .entdaa _ | .rstdaa | .enec _ | .disec _ | .setmwl _ | .setmrl _ | .getmwl | .getmrl | .getpid
  | .getbcr | .getdcr | .getstatus | .viewRefresh => true
  | _ => false

/-- The sideband serves a request of class `v` now. -/
def State.attends (s : State) (v : Service) : Prop := s.sbUp = true ∧ s.sbServes v = true

/-- The answer delivered. -/
def State.answers (t : State) (vals : List Nat) : Prop := t.resp = { code := .ok, vals := vals }

end Sys2Proof.Machine

/-- Who is served (R470) and the options of Table 14.1 (R469, R485). -/
def Obligations.SidebandGate : Prop :=
  (∀ (i : Instr) (s : State),
    ((sbService i).isSome ∨ sbBus i = true → s.sbUp = false → exec i s = .next s) ∧
    (∀ v, sbService i = some v → s.sbUp = true → s.sbServes v = false → exec i s = .next (run (answer .notReady []) s))) ∧
  (∀ s : State,
    (s.sbServes .mctp = true) ∧ (s.sbServes .base = true ↔ s.updSt ≠ .pause) ∧
    (s.sbServes .full = true ↔ s.updSt ≠ .pause ∧ s.bootPhase ≠ .stopped)) ∧
  (∀ s : State, s.sbUp = true →
    (∀ pkt, (Gives (.mctpPacket true pkt) s fun t => t = s) ∧
      Gives (.mctpPacket false pkt) s fun t => t.fld rMON_MGMT 31 0 = sat 32 (s.fld rMON_MGMT 31 0 + 1) ∧
        t.flag rMON_ERR 1 = true ∧ s.logged t { cls := .A, blk := blkMON, code := 1 }) ∧
    (∀ da, Gives (.entdaa da) s fun t => t.fld rMON_MGMT 46 40 = da.toNat ∧ t.fld rMON_MGMT 39 0 = s.fld rMON_MGMT 39 0 ∧
      t.fld rMON_MGMT 63 48 = s.fld rMON_MGMT 63 48) ∧
    (Gives .rstdaa s fun t => t.fld rMON_MGMT 46 40 = 0) ∧
    (∀ ev : Byte, (ev.toNat.testBit 0 = true → (Gives (.enec ev) s fun t => t.flag rMON_MGMT 62 = true) ∧
        Gives (.disec ev) s fun t => t.flag rMON_MGMT 62 = false) ∧
      (ev.toNat.testBit 0 = false → exec (.enec ev) s = .next s ∧ exec (.disec ev) s = .next s)) ∧
    (∀ n : BitVec 16, (Gives (.setmwl n) s fun t => t.mwl = n.toNat ∧ t.mrl = s.mrl) ∧
      Gives (.setmrl n) s fun t => t.mrl = n.toNat ∧ t.mwl = s.mwl) ∧
    (Gives .getmwl s fun t => t.answers [s.mwl]) ∧ (Gives .getmrl s fun t => t.answers [s.mrl]) ∧
    (Gives .getpid s fun t => t.answers [place 47 33 (Config.sideband 0 0) + bits 31 0 (crc32c (s.flashBytes 0x2008 16))]) ∧
    (Gives .getbcr s fun t => ∃ b, b < 256 ∧ t.answers [b]) ∧ (Gives .getdcr s fun t => ∃ b, b < 256 ∧ t.answers [b]) ∧
    (Gives .getstatus s fun t => ∃ b, b < 65536 ∧ t.answers [b]) ∧
    (∀ e : Byte, Gives (.setEndpointId e) s fun t => t.fld rMON_MGMT 55 48 = e.toNat ∧ t.answers []) ∧
    (Gives .getEndpointId s fun t => t.answers [s.fld rMON_MGMT 55 48]) ∧
    (∀ m : Byte, Gives (.getMctpVersionSupport m) s fun t =>
      if m.toNat = 0 ∨ m.toNat = 1 then ∃ x, t.answers [x] else t.resp = { code := .unsupported, vals := [] }) ∧
    (Gives .getMessageTypeSupport s fun t => t.answers [0, 1])) ∧
  (∀ s : State, s.attends .base →
    (Gives .gettid s fun t => t.answers [s.tid]) ∧
    (∀ n : Byte, Gives (.settid n) s fun t => t.tid = n.toNat ∧ t.answers []) ∧
    (Gives .getpldmtypes s fun t => t.answers [0x00, 0x02, 0x3F]) ∧
    (∀ n : Byte, Gives (.getpldmversion n) s fun t =>
      if n.toNat = 0 ∨ n.toNat = 2 ∨ n.toNat = 0x3F then ∃ x, t.answers [x]
      else t.resp = { code := .unsupported, vals := [] }) ∧
    (∀ n : Byte, Gives (.getpldmcommands n) s fun t =>
      if n.toNat = 0x3F then t.answers [1, 2, 3, 4, 5, 6, 7, 8]
      else if n.toNat = 0 ∨ n.toNat = 2 then ∃ l, t.answers l else t.resp = { code := .unsupported, vals := [] }) ∧
    (Gives .lvStatus s fun t => t.answers [s.fld rBOOT_STAT 63 60, s.fld rBOOT_STAT 59 56, b2n s.halted, s.haltCause,
      s.nwSt.code, s.fld rMON_VIEW 63 32, s.viewAt, s.logWr, s.fld rLOG_HEAD 31 0, s.regView rINT_CNT]))

/-- Sensors, effecters and the view (R471, R472, R474, R475). -/
def Obligations.SensorsAndEffecters : Prop :=
  (∀ s : State, s.attends .full →
    (∀ k : BitVec 16,
      (∀ num : Bool, let known := if num then numericSensor k.toNat else stateSensor k.toNat
        Gives (if num then .getsensorreading k else .getstatesensorreadings k) s fun t =>
          if known then t.answers (if s.viewStale then [] else [s.viewVal k.toNat])
          else t.resp = { code := .unsupported, vals := [] }) ∧
      (∀ num : Bool, let known : Prop := if num then k.toNat = 0x1001 ∨ k.toNat = 0x1002 else k.toNat = 0x1003 ∨ k.toNat = 0x1004
        let row : Instr := if num then .getnumericeffectervalue k else .getstateeffecterstates k
        (known → Gives row s fun t => t.answers [s.effPresent k.toNat, s.effPending k.toNat]) ∧
        (¬ known → Gives row s fun t => t.resp = { code := .unsupported, vals := [] }))) ∧
    (∃ x, Gives .getpdrrepositoryinfo s fun t => t.answers [x]) ∧
    (∀ h : BitVec 32, ∃ x, Gives (.getpdr h) s fun t => t.answers [x]) ∧
    (∀ v : BitVec 32, let n := v.toNat
      (let w := max 1200 (min 3800 n)
       Gives (.setnumericeffectervalue 0x1001 v) s fun t => t.fld rPWR_CAP 63 48 = w ∧ t.answers [] ∧
        t.effecter 0x1001 = some { pending := n, writtenAt := s.now, agreed := decide (w = n) } ∧
        (n < 1200 ∨ 3800 < n → t.flag rPWR_ERR 0 = true)) ∧
      (let w := max 1200 (min 2400 n)
       Gives (.setnumericeffectervalue 0x1002 v) s fun t => t.fld rPWR_BRAKE 63 48 = w ∧ t.answers [] ∧
        t.effecter 0x1002 = some { pending := n, writtenAt := s.now, agreed := decide (w = n) } ∧
        (n < 1200 ∨ 2400 < n → t.flag rPWR_ERR 0 = true)) ∧
      ∀ e : BitVec 16, e ≠ 0x1001 → e ≠ 0x1002 → Gives (.setnumericeffectervalue e v) s fun t =>
        t.resp = { code := .unsupported, vals := [] } ∧ (∀ off j, t.reg off j = s.reg off j) ∧
        ∀ j, t.effecter j = s.effecter j) ∧
    (∀ watch : Bool, let st : EffState := if watch then .watch else .active
      ∀ u, exec (if watch then .nightWatchEnter else .nightWatchExit) s = .next u →
        Gives (.setstateeffecterstates 0x1003 st) s fun t => t.nwSt = u.nwSt ∧ t.answers [] ∧
          (∀ off j, t.reg off j = u.reg off j) ∧ (∀ b, t.bay b = u.bay b) ∧
          t.effecter 0x1003 = some { pending := st.code, writtenAt := s.now,
                                     agreed := decide (t.effPresent 0x1003 = st.code) }) ∧
    (Gives (.setstateeffecterstates 0x1004 .reset) s fun t => t.wipedFrom s ∧ t.bootPhase = .dark ∧
      t.bootCause = if causeRank 2 < causeRank s.bootCause then 2 else s.bootCause) ∧
    (∀ (e : BitVec 16) (st : EffState), (e = 0x1003 → st = .reset) → (e = 0x1004 → st ≠ .reset) →
      Gives (.setstateeffecterstates e st) s fun t => t.resp = { code := .unsupported, vals := [] } ∧
        ∀ off j, t.reg off j = s.reg off j)) ∧
  (∀ s : State, s.sbUp = true → Gives .viewRefresh s fun t =>
    (∃ n, ∀ p ∈ s.viewNow n, t.viewVal p.1 = p.2) ∧ t.viewAt = s.now ∧ t.viewStale = false ∧
    t.fld rMON_VIEW 63 32 = (s.fld rMON_VIEW 63 32 + 1) % 2 ^ 32 ∧
    ∀ e ∈ [0x1001, 0x1002, 0x1003], ∀ x, s.effecter e = some x →
      (x.pending = s.effPresent e → t.effecter e = some { x with agreed := true }) ∧
      (x.pending ≠ s.effPresent e → x.agreed = false → t.effecter e = some x) ∧
      (x.pending ≠ s.effPresent e → x.agreed = true → t.effecter e = some { x with pending := s.effPresent e } ∧
        t.flag rMON_ERR 2 = true)) ∧
  (∀ s : State, Gives .viewStale s fun t => t.viewStale = true) ∧
  (∀ (k : BitVec 16) (s : State), let e := k.toNat
    (s.effecter e = none → Gives (.effecterDisagree k) s fun t => t = s) ∧
    ∀ x, s.effecter e = some x →
      (x.pending = s.effPresent e → Gives (.effecterDisagree k) s fun t => t = s) ∧
      (x.pending ≠ s.effPresent e → Gives (.effecterDisagree k) s fun t =>
        t.flag rMON_ERR 2 = true ∧ s.logged t { cls := .A, blk := blkMON, code := 2 } ∧
        t.fld rMON_VIEW 15 0 = sat 16 (s.fld rMON_VIEW 15 0 + 1) ∧
        t.effecter e = some { x with pending := s.effPresent e, agreed := true }))

/-- The OEM commands (Table 14.4). -/
def Obligations.OemCommands : Prop :=
  ∀ s : State, s.attends .full →
    (∀ (seq : BitVec 32) (n : Fin 33),
      (n.val = 0 → Gives (.lvLogRead seq n) s fun t => t.resp = { code := .unsupported, vals := [] }) ∧
      (0 < n.val → ∃ es : List Incident,
        (Gives (.lvLogRead seq n) s fun t => t.answers (es.length :: (es.flatMap Incident.bytes).map BitVec.toNat)) ∧
        es.length ≤ n.val ∧ (∀ j, (h : j < es.length) → s.heldEntry ((seq.toNat + j) % 2 ^ 32) = some es[j]) ∧
        (es.length < n.val → s.heldEntry ((seq.toNat + es.length) % 2 ^ 32) = none))) ∧
    (∀ head : BitVec 32, let h := s.fld rLOG_HEAD 31 0
      Gives (.lvLogAck head) s fun t => t.answers [] ∧
        if s.flag rLOG_CTL 62 = true ∧ seqAhead head.toNat h ≤ seqAhead s.logWr h then t.fld rLOG_HEAD 31 0 = head.toNat
        else t.fld rLOG_HEAD 31 0 = h ∧ t.flag rLOG_STAT 30 = true) ∧
    (∀ (unit : Fin 64) (snap clear : Bool), let u := unit.val
      let c := if snap then (s.census u).live else (s.census u).copy
      Gives (.lvCensusRead unit snap clear) s fun t =>
        t.answers ([(s.reg rMON_CFG u).toNat, c.min, c.max, sat 64 c.count, sat 64 c.sum] ++ c.bins ++ [sat 32 c.missed]) ∧
        (t.census u).copy = c ∧ (t.census u).live = if clear then {} else (s.census u).live) ∧
    (∀ (identity : Bool) (nonce : List Byte),
      (nonce.length ≠ 32 → Gives (.lvAttest identity nonce) s fun t => t.resp = { code := .unsupported, vals := [] } ∧
        t.attQ = s.attQ ∧ t.attBuf = s.attBuf) ∧
      (nonce.length = 32 → s.attQ.any (fun r => r.sideband) = true → Gives (.lvAttest identity nonce) s fun t =>
        t.resp = { code := .busy, vals := [] } ∧ t.attQ = s.attQ ∧ t.attBuf = s.attBuf) ∧
      (nonce.length = 32 → s.attQ.any (fun r => r.sideband) = false → Gives (.lvAttest identity nonce) s fun t =>
        t.answers [] ∧ (s.attQ = [] → identity = true → t.attBuf = s.identityRecord ∧ t.attBufSt = .done) ∧
        (s.attQ = [] → identity = false → s.leafReady = true →
          t.attBuf = s.report nonce ++ s.signature (s.report nonce) (s.fld rSEC_IDX 63 48) (s.fld rSEC_IDX 36 26) ∧
          t.attBufSt = .done ∧ t.fld rSEC_IDX 36 26 = s.fld rSEC_IDX 36 26 + 1))) ∧
    (∀ (off : Nat) (len : Fin 1025), Gives (.lvAttestRead off len) s fun t =>
      if s.attBufSt = .done then t.answers (((s.attBuf.drop off).take len.val).map BitVec.toNat)
      else t.resp = { code := .notReady, vals := [] }) ∧
    (∀ off : Nat,
      (off % 8 ≠ 0 → Gives (.lvCsRead off) s fun t => t.answers [0] ∧ t.flag rQUE_ERR 4 = true) ∧
      (off % 8 = 0 → (regRow off).isSome = true → Gives (.lvCsRead off) s fun t => t.answers [s.regView off]) ∧
      (off % 8 = 0 → (regRow off).isSome = false → Gives (.lvCsRead off) s fun t => t.answers [0] ∧
        (inTables off = false → inScan off = false →
          s.logged t { cls := .A, blk := if off < 0x170000 then off / 0x10000 else 0xFF, off := off }))) ∧
    (∀ (off : Nat) (v : Word),
      (s.flag rMON_MGMT 63 = false → Gives (.lvCsWrite off v) s fun t => t.resp = { code := .error, vals := [] } ∧
        t.flag rMON_ERR 3 = true ∧ s.logged t { cls := .A, blk := blkMON, code := 3 } ∧
        ∀ o k, o ≠ rMON_ERR → o ≠ rINT_CNT → t.reg o k = s.reg o k) ∧
      (s.flag rMON_MGMT 63 = true → off ∈ plainRegs → Gives (.lvCsWrite off v) s fun t => t.answers [] ∧
        (t.reg off 0).toNat = v.toNat &&& regMask off))

namespace Sys2Proof.Machine

/-- Rows that are accesses of the control die, of control space or of T2 (R284, R286). -/
def accessRow : Instr → Bool
  | .bayOn _ | .bayOff _ | .bayForce _ | .bayClkWrite _ _ | .aclInj _ | .sclScrubWrite _ | .sclInj _ | .exhSplitCtlWrite _
  | .exhWdogWrite _ | .cdAccess _ | .csBadAccess _ _ _ | .csUnassigned _ _ | .windowWrite _ _ | .windowLatchRead _ _
  | .censusEnable _ _ | .censusSnap _ | .censusClear _ | .logHeadWrite _ | .logRdSelWrite _ | .regWrite _ _
  | .t1cScrubWrite _ | .t2cCtlWrite _ | .docentEnable _ | .docentDisable _ | .docentForce _ | .docSegWrite _
  | .iqEnable _ _ | .iqDisable _ | .iqCancel _ | .iqForce _ | .arbCloseWrite _ | .arbCloseTenWrite _ | .arbCntClrAll
  | .arbCntClrSel | .svcEnableReady _ _ | .svcEnableStandby _ _ | .svcDisable _ | .srvReqFree _ | .srvEnable | .srvDisable
  | .srvForce | .samplerEnable _ | .samplerDisable _ | .samplerForce _ | .queScannerEnable | .queScannerDisable
  | .queScannerForce | .pairEnable _ | .pairDisable _ | .pairForce _ | .tenantEnable _ | .tenantDisable _ | .tenantForce _
  | .tenCtlWrite _ _ | .tenantReset _ | .sliceSetEnable _ _ | .scanOut _ | .scanIn _ | .portEnable _ | .portDisable _
  | .portForce _ | .portRetrain _ | .portLow _ _ | .lnkPolicyWrite _ | .topologyCommit | .holdEnable _ | .checkRequest _
  | .capTargetWrite _ | .brakeLevelWrite _ | .guaranteeCodeWrite _ | .nightWatchEnter | .nightWatchExit | .softReset _
  | .bootLockSet | .updGo | .updAbort | .attestReport | .attestIdentity | .secWinWrite _ | .credValidWrite _
  | .credKeyWrite _ => true
  | .paramSetWrite off _ => isParamReg off
  | _ => false

/-- What may change PWR_CAP.TARGET_W: a write of it, through control space or its effecter, also one that has waited for
the end of a pause or of night watch; a reset or a loss of supply, which clear every register; and a start, which applies
the configuration block. -/
def writesTarget : Instr → State → Bool
  | .capTargetWrite _, _ | .regWrite _ _, _ | .cdAccess (.write _ _), _ | .lvCsWrite _ _, _ => true
  | .setnumericeffectervalue e _, _ => decide (e = 0x1001)
  | .setstateeffecterstates e _, _ => decide (e = 0x1004)
  | .modReset, _ | .powerOn, _ | .softReset _, _ | .vinLoss, _ | .vinReturn, _ | .thermalCutoff, _ | .aonSupplyLost, _
  | .start _, _ | .refclkArrive, _ => true
  | .activationPartsReady, s | .activationRevert, s | .nightWatchLeft, s => decide (s.heldRows ≠ [])
  | _, _ => false

/-- Byte `a` lies in a pair's completion queue or progress block (R289, R290). -/
def State.queueByte (s : State) (a : Nat) : Prop :=
  ∃ p, (s.fld rQUE_CQ_BASE 47 0 p ≤ a ∧ a < s.fld rQUE_CQ_BASE 47 0 p + 32 * s.cqSlots p) ∨
    (s.progAddr p ≤ a ∧ a < s.progAddr p + 64)

/-- Byte `a` lies in the object table (R191). -/
def State.objectByte (s : State) (a : Nat) : Prop := ∃ i, i < s.objCount ∧ s.objAddr i ≤ a ∧ a < s.objAddr i + 64

/-- The command answers a next state in which every byte of memory outside `w` reads as before. -/
def StoresIn (i : Instr) (s : State) (w : Nat → Prop) : Prop := Gives i s fun t => ∀ a, ¬ w a → t.byte a = s.byte a

end Sys2Proof.Machine

/-- One step. The tick on an empty queue is the model's choice (log 4). -/
def Obligations.StepRunsFront : Prop :=
  (∀ (i : Instr) (rest : List Instr) (s : State), step { s with pending := i :: rest } = exec i { s with pending := rest }) ∧
  (∀ s : State, s.pending = [] →
    (s.sbUp = false → step s = .next s) ∧
    (s.sbUp = true → ∃ t, step s = .next t ∧ t.pending = [] ∧ t.variant = s.variant ∧
      t.now = s.now + (if 0 < s.timeBehind then (if s.timeFrac = 3 then 1 else 0)
        else if s.slewLeft = 0 ∨ s.slewFrac + 1 < slewPeriod then 1
        else if 0 < s.slewLeft then 2 else 0)))

/-- No command stops the block, none touches the queue, none changes the order number (R2). -/
def Obligations.QueueKept : Prop :=
  ∀ (i : Instr) (s : State), Gives i s fun t => t.pending = s.pending ∧ t.variant = s.variant

/-- Accesses during a firmware pause (R439, R440) and T2 accesses in night watch (R416). -/
def Obligations.PauseHolds : Prop :=
  (∀ (i : Instr) (s : State), accessRow i = true →
    (s.updSt = .pause → exec i s = .next (run (.upd (.heldRows (s.heldRows ++ [i]))) s)) ∧
    (s.updSt ≠ .pause → exec i s = .next (run (replay i) s))) ∧
  (∀ s : State, s.updSt ≠ .pause →
    (s.heldRows = [] → run replayOne s = s) ∧
    ∀ i rest, s.heldRows = i :: rest → run replayOne s = run (replay i) (run (.upd (.heldRows rest)) s)) ∧
  (∀ s : State,
    (exec .activationPartsReady s = .next (run replayHeld (run partsReadyA s))) ∧
    (exec .activationRevert s = .next (run replayHeld (run revertA s))) ∧
    (exec .nightWatchLeft s = .next (run replayHeld (run nwLeftA s))) ∧
    ∀ n, s.heldRows.length = n → run replayHeld s = (List.range n).foldl (fun u _ => run replayOne u) s)

/-- The canonical form of the state's tables is kept by every step. -/
def Obligations.StepKeepsForm : Prop :=
  ∀ s t : State, s.wf = true → step s = .next t → t.wf = true

/-- Reserved fields stay zero (R13). -/
def Obligations.StepKeepsReserved : Prop :=
  ∀ s t : State, s.clean → step s = .next t → t.clean

/-- The state after reset. What unlisted memory reads as is the model's choice (log 1). -/
def Obligations.ResetState : Prop :=
  State.reset.wf = true ∧ State.reset.clean ∧ State.reset.pending = [] ∧ State.reset.bootPhase = .dark ∧
  State.reset.halted = false ∧ State.reset.now = 0 ∧
  (∀ off idx, off < 2 ^ 24 → State.reset.reg off idx = regReset off) ∧
  (∀ (hi : Bool) (b : Fin 8), State.reset.fld (bayClkReg hi) (8 * b.val + 7) (8 * b.val) = 36) ∧
  (State.reset.reg rDOC_EN).toNat = 0xFFFFFFFFFFFFFFFF ∧ State.reset.fld rPWR_CAP 63 48 = 3800 ∧
  State.reset.fld rPWR_CAP 47 32 = 3800 ∧ State.reset.fld rPWR_CAP 5 0 = 36 ∧ State.reset.fld rPWR_BRAKE 63 48 = 1800 ∧
  State.reset.fld rPWR_GUAR 5 0 = 24 ∧ State.reset.fld rPWR_GUAR 13 8 = 24 ∧ State.reset.fld rSMP_EN 3 0 = 15 ∧
  State.reset.fld rLNK_POLICY 53 48 = 32 ∧
  (∀ h, State.reset.load h = {}) ∧ (∀ b, State.reset.bay b = {}) ∧ (∀ i, State.reset.req i = {}) ∧
  (∀ p, State.reset.port p = {}) ∧ (∀ c, State.reset.cmd c = none) ∧ ∀ a, State.reset.byte a = 0

/-- R398: TARGET_W changes only where it is written, at a reset, or when a start applies the configuration block. -/
def Obligations.TargetHolds : Prop :=
  (∀ (i : Instr) (s : State), writesTarget i s = false →
    Gives i s fun t => t.fld rPWR_CAP 63 48 = s.fld rPWR_CAP 63 48) ∧
  (∀ s : State, s.pending = [] → ∃ t, step s = .next t ∧ t.fld rPWR_CAP 63 48 = s.fld rPWR_CAP 63 48)

/-- Every byte outside what a command stores to reads as before. -/
def Obligations.MemoryFrames : Prop :=
  ∀ s : State,
    (∀ (k : Nat) (iq : Fin 64) (i : Fin 16384) (x : Fin 4) (ten : Fin 64) (ok : Bool),
      ∀ r ∈ [Instr.run k, .iqStepComplete k, .iqCancel iq, .fenceComplete k, .queScannerForce, .samplerForce x, .cancel k,
        .park k, .resume k, .release k, .requestRelease i, .updateBlock k ok, .updateManifest k ok, .updateActivate k,
        .updateConfirm k, .dispatch ten], StoresIn r s s.queueByte) ∧
    (∀ p : Fin 1024, (StoresIn (.scannerVisit p) s fun a => s.progAddr p.val ≤ a ∧ a < s.progAddr p.val + 4) ∧
      StoresIn (.pairEnable p) s fun a => s.progAddr p.val ≤ a ∧ a < s.progAddr p.val + 64) ∧
    (∀ (svc : Fin 64) (v : Word) (m : Nat),
      ∀ r ∈ [Instr.splitWindow, .moveComplete m, .svcEnableReady svc v, .svcEnableStandby svc v, .svcDisable svc],
        StoresIn r s s.objectByte) ∧
    (∀ (k : Nat) (d q : Fin 64) (v : Word),
      ∀ r ∈ [Instr.exhibitLoad k, .exhibitLoadSliced k, .exhibitLoadReplace k, .docentForce d, .iqEnable q v, .iqForce q],
        StoresIn r s fun a => s.queueByte a ∨ s.objectByte a) ∧
    (∀ k c, s.cmd k = some c → StoresIn (.snapshot k) s fun a => s.queueByte a ∨
      (snRECORD c.desc ≤ a ∧ a < snRECORD c.desc + 64) ∨
      (snREQTAB c.desc ≤ a ∧ a < snREQTAB c.desc + 64 * snMAX c.desc)) ∧
    (∀ k c, s.takesServe k 1 = some c → StoresIn (.submit k) s fun a => s.queueByte a ∨
      (suOUT c.desc ≤ a ∧ a < suOUT c.desc + 16)) ∧
    (s.attQ = [] → let b := s.fld rSEC_ATT_ADDR 47 0;
      (StoresIn .attestIdentity s fun a => b ≤ a ∧ a < b + s.identityRecord.length) ∧
      (let msg := s.report (s.bytes b 32);
       StoresIn .attestReport s fun a => b ≤ a ∧ a < b + (msg ++ s.signature msg 0 0).length) ∧
      ∀ identity nonce, StoresIn (.lvAttest identity nonce) s fun _ => False)

namespace Sys2Proof.Machine

/-- What each of these commands may change: parts of the state, and registers. -/
def plainFoot : Instr → Option Foot
  | .islandClockChange _ _ =>
    some { flds := [.fab .island], regs := [] }
  | .railSettled _ =>
    some { flds := [.fab .island, .srv .req, .log .logWr, .log .logLost, .log .logIntake, .log .ibiHold, .log .ibiWait,
      .out .ibis],
           regs := [rINT_CNT, rPWR_ERR, rPWR_GUAR, rSRV_ADMIT_CTL] }
  | .bayOn _ =>
    some { flds := [.fab .bay, .log .logWr, .log .logLost, .log .logIntake, .log .ibiHold, .log .ibiWait, .out .ibis,
      .upd .heldRows],
           regs := [rFAB_BAY_ON, rINT_CNT] }
  | .bayOff _ =>
    some { flds := [.fab .bay, .log .logWr, .log .logLost, .log .logIntake, .log .ibiHold, .log .ibiWait, .out .ibis,
      .upd .heldRows],
           regs := [rFAB_BAY_FENCE, rFAB_BAY_ON, rINT_CNT] }
  | .bayClkWrite _ _ =>
    some { flds := [.log .logWr, .log .logLost, .log .logIntake, .log .ibiHold, .log .ibiWait, .out .ibis,
      .upd .heldRows],
           regs := [rFAB_BAY_CLK_HI, rFAB_BAY_CLK_LO, rINT_CNT] }
  | .tile _ | .constStep _ | .loopStep _ | .endStep _ =>
    some { flds := [.cell .acell], regs := [] }
  | .aclInj _ =>
    some { flds := [.cell .acell, .log .logWr, .log .logLost, .log .logIntake, .log .ibiHold, .log .ibiWait, .out .ibis,
      .upd .heldRows],
           regs := [rINT_CNT] }
  | .correctionWriteback _ _ =>
    some { flds := [.cell .scell, .cell .line], regs := [] }
  | .sramScrub _ _ _ =>
    some { flds := [.cell .scell, .cell .line, .log .logWr, .log .logLost, .log .logIntake, .log .ibiHold,
      .log .ibiWait, .out .ibis],
           regs := [rINT_CNT, rSCL_CE_CNT, rSCL_ERR, rSCL_ERR_ADDR, rSCL_ERR_SITE] }
  | .sclScrubWrite _ | .t1cScrubWrite _ =>
    some { flds := [.log .logWr, .log .logLost, .log .logIntake, .log .ibiHold, .log .ibiWait, .out .ibis,
      .upd .heldRows],
           regs := [rINT_CNT, rSCL_SCRUB, rT1C_SCRUB] }
  | .sclInj _ =>
    some { flds := [.cell .line, .log .logWr, .log .logLost, .log .logIntake, .log .ibiHold, .log .ibiWait, .out .ibis,
      .upd .heldRows],
           regs := [rINT_CNT] }
  | .run _ =>
    some { flds := [.mem, .exh .load, .mov .iq, .que .pair, .que .cmd, .ten .tenant],
           regs := [rDOC_IQ_CTL, rQUE_PAIR_CFG, rTEN_CTL, rTEN_RESET] }
  | .configTokenArrive _ =>
    some { flds := [.fab .site, .fab .wire], regs := [] }
  | .switchSlow _ =>
    some { flds := [.log .logWr, .log .logLost, .log .logIntake, .log .ibiHold, .log .ibiWait, .out .ibis],
           regs := [rEXH_ERR, rINT_CNT] }
  | .splitWindow =>
    some { flds := [.mem, .fab .wire, .exh .load, .exh .imgEntry, .exh .split, .exh .imgStamp], regs := [rEXH_ERR] }
  | .exhSplitCtlWrite _ =>
    some { flds := [.exh .split, .log .logWr, .log .logLost, .log .logIntake, .log .ibiHold, .log .ibiWait, .out .ibis,
      .upd .heldRows],
           regs := [rEXH_ERR, rEXH_SPLIT_CTL, rINT_CNT] }
  | .exhWdogWrite _ =>
    some { flds := [.log .logWr, .log .logLost, .log .logIntake, .log .ibiHold, .log .ibiWait, .out .ibis,
      .upd .heldRows],
           regs := [rEXH_WDOG, rINT_CNT] }
  | .moveComplete _ =>
    some { flds := [.mem, .exh .imgEntry, .mov .move, .mov .allocs, .log .logWr, .log .logLost, .log .logIntake,
      .log .ibiHold, .log .ibiWait, .out .ibis],
           regs := [rINT_CNT, rINT_CRC, rINT_ERR] }
  | .csBadAccess _ _ _ =>
    some { flds := [.log .logWr, .log .logLost, .log .logIntake, .log .ibiHold, .log .ibiWait, .out .cdRead,
      .out .cdPoison, .out .ibis, .upd .heldRows],
           regs := [rINT_CNT, rQUE_ERR] }
  | .csUnassigned _ _ =>
    some { flds := [.log .logWr, .log .logLost, .log .logIntake, .log .ibiHold, .log .ibiWait, .out .cdRead,
      .out .cdPoison, .out .ibis, .upd .heldRows],
           regs := [rINT_CNT] }
  | .windowWrite _ _ =>
    some { flds := [.log .logWr, .log .logLost, .log .logIntake, .log .ibiHold, .log .ibiWait, .out .ibis,
      .upd .heldRows],
           regs := [rINT_CNT] }
  | .windowLatchRead _ _ =>
    some { flds := [.log .logWr, .log .logLost, .log .logIntake, .log .ibiHold, .log .ibiWait, .out .cdRead,
      .out .cdPoison, .out .ibis, .upd .heldRows, .win .reqLatch, .win .pfxLatch],
           regs := [rINT_CNT, rQUE_ERR] }
  | .censusEnable _ _ =>
    some { flds := [.log .logWr, .log .logLost, .log .logIntake, .log .ibiHold, .log .ibiWait, .mon .census, .out .ibis,
      .upd .heldRows],
           regs := [rINT_CNT, rMON_CTL, rMON_ERR] }
  | .censusSnap _ =>
    some { flds := [.mon .census, .upd .heldRows], regs := [] }
  | .censusClear _ =>
    some { flds := [.log .logWr, .log .logLost, .log .logIntake, .log .ibiHold, .log .ibiWait, .mon .census, .out .ibis,
      .upd .heldRows],
           regs := [rINT_CNT] }
  | .logHeadWrite _ =>
    some { flds := [.log .logWr, .log .logLost, .log .logIntake, .log .ibiHold, .log .ibiWait, .out .ibis,
      .upd .heldRows],
           regs := [rINT_CNT, rLOG_HEAD, rLOG_STAT] }
  | .logRdSelWrite _ =>
    some { flds := [.log .logWr, .log .logLost, .log .logIntake, .log .logLatch, .log .ibiHold, .log .ibiWait,
      .out .ibis, .upd .heldRows],
           regs := [rINT_CNT, rLOG_RD_SEL] }
  | .refreshWindow _ _ =>
    some { flds := [], regs := [] }
  | .calibrationWindow _ _ _ =>
    some { flds := [.mov .calMiss, .log .logWr, .log .logLost, .log .logIntake, .log .ibiHold, .log .ibiWait,
      .out .ibis],
           regs := [rINT_CNT, rT2C_ERR, rT2C_STAT, rT3C_ERR, rT3C_STAT] }
  | .t1Scrub _ _ =>
    some { flds := [.poison, .fresh, .log .logWr, .log .logLost, .log .logIntake, .log .ibiHold, .log .ibiWait,
      .out .ibis],
           regs := [rINT_CNT, rT1C_CE_CNT, rT1C_ERR, rT1C_ERR_ADDR, rT2C_CE_CNT, rT2C_ERR, rT2C_ERR_ADDR, rT3C_CE_CNT,
           rT3C_ERR, rT3C_ERR_ADDR] }
  | .t2cCtlWrite _ =>
    some { flds := [.log .logWr, .log .logLost, .log .logIntake, .log .ibiHold, .log .ibiWait, .out .ibis,
      .upd .heldRows],
           regs := [rINT_CNT, rT2C_CTL] }
  | .iqStepStart _ =>
    some { flds := [.mov .iq, .mov .move, .mov .nextMove, .log .logWr, .log .logLost, .log .logIntake, .log .ibiHold,
      .log .ibiWait, .out .ibis],
           regs := [rDOC_ERR, rINT_CNT] }
  | .iqStepComplete _ =>
    some { flds := [.mem, .mov .iq, .mov .move, .que .pair, .que .cmd, .ten .tenant, .log .logWr, .log .logLost,
      .log .logIntake, .log .ibiHold, .log .ibiWait, .out .ibis],
           regs := [rDOC_ERR, rDOC_IQ_CTL, rINT_CNT, rQUE_PAIR_CFG, rTEN_CTL, rTEN_RESET] }
  | .docentEnable _ =>
    some { flds := [.mov .doc, .mov .move, .upd .heldRows], regs := [rDOC_EN, rDOC_ERR] }
  | .docentDisable _ =>
    some { flds := [.mov .doc, .upd .heldRows], regs := [rDOC_EN] }
  | .docSegWrite _ =>
    some { flds := [.log .logWr, .log .logLost, .log .logIntake, .log .ibiHold, .log .ibiWait, .out .ibis,
      .upd .heldRows],
           regs := [rDOC_ERR, rDOC_SEG, rINT_CNT] }
  | .iqDisable _ =>
    some { flds := [.mov .iq, .upd .heldRows], regs := [rDOC_IQ_CTL] }
  | .iqCancel _ =>
    some { flds := [.mem, .mov .iq, .que .pair, .que .cmd, .ten .tenant, .upd .heldRows],
           regs := [rDOC_IQ_CTL, rQUE_PAIR_CFG, rTEN_CTL, rTEN_RESET] }
  | .arbPresent _ _ | .arbBackoffExpire _ _ =>
    some { flds := [.arb .arbiter, .arb .arbReq], regs := [rARB_GRANTS, rARB_WAIT, rARB_WAIT_MAX] }
  | .arbDrop _ =>
    some { flds := [.arb .arbiter], regs := [] }
  | .arbCloseWrite _ =>
    some { flds := [.log .logWr, .log .logLost, .log .logIntake, .log .ibiHold, .log .ibiWait, .out .ibis,
      .upd .heldRows],
           regs := [rARB_CLOSE, rINT_CNT] }
  | .arbCloseTenWrite _ =>
    some { flds := [.arb .arbiter, .log .logWr, .log .logLost, .log .logIntake, .log .ibiHold, .log .ibiWait,
      .out .ibis, .upd .heldRows],
           regs := [rARB_CLOSE_TEN, rINT_CNT] }
  | .arbCntClrAll | .arbCntClrSel =>
    some { flds := [.upd .heldRows], regs := [rARB_GRANTS, rARB_WAIT, rARB_WAIT_MAX] }
  | .svcEnableReady _ _ | .svcEnableStandby _ _ =>
    some { flds := [.mem, .srv .svcPins, .log .logWr, .log .logLost, .log .logIntake, .log .ibiHold, .log .ibiWait,
      .out .ibis, .upd .heldRows],
           regs := [rINT_CNT, rSRV_ERR, rSRV_SVC_CFG] }
  | .svcDisable _ =>
    some { flds := [.mem, .srv .svcPins, .upd .heldRows], regs := [rSRV_SVC_CFG] }
  | .cancel _ | .park _ =>
    some { flds := [.mem, .mov .iq, .srv .req, .que .pair, .que .cmd, .ten .tenant],
           regs := [rDOC_IQ_CTL, rQUE_PAIR_CFG, rTEN_CTL, rTEN_RESET] }
  | .release _ =>
    some { flds := [.mem, .mov .iq, .srv .pfx, .que .pair, .que .cmd, .ten .tenant],
           regs := [rDOC_IQ_CTL, rQUE_PAIR_CFG, rTEN_CTL, rTEN_RESET] }
  | .prefillStart _ | .handoverComplete _ =>
    some { flds := [.mem, .poison, .exh .load, .srv .req, .srv .pfx, .srv .srvStep, .que .cmd, .que .nextCmd],
           regs := [rTEN_ACC_T1, rTEN_ACC_T2, rTEN_ACC_T3] }
  | .decodeStepStart _ =>
    some { flds := [.exh .load, .srv .req, .srv .srvStep, .que .cmd, .que .nextCmd], regs := [] }
  | .parkComplete _ | .resumeFetchComplete _ =>
    some { flds := [.mem, .poison, .mov .iq, .srv .req, .srv .pfx, .que .pair, .que .cmd, .ten .tenant],
           regs := [rDOC_IQ_CTL, rQUE_PAIR_CFG, rTEN_ACC_T1, rTEN_ACC_T2, rTEN_ACC_T3, rTEN_CTL, rTEN_RESET] }
  | .requestRelease _ =>
    some { flds := [.mem, .mov .iq, .srv .req, .srv .pfx, .que .pair, .que .cmd, .ten .tenant],
           regs := [rDOC_IQ_CTL, rQUE_PAIR_CFG, rTEN_CTL, rTEN_RESET] }
  | .srvReqFree _ =>
    some { flds := [.srv .req, .log .logWr, .log .logLost, .log .logIntake, .log .ibiHold, .log .ibiWait, .out .ibis,
      .upd .heldRows],
           regs := [rINT_CNT, rSRV_ERR] }
  | .srvEnable | .srvDisable =>
    some { flds := [.srv .srvSt, .upd .heldRows], regs := [rSRV_CTL] }
  | .samplerEnable _ | .samplerDisable _ =>
    some { flds := [.srv .smp, .upd .heldRows], regs := [rSMP_EN] }
  | .paramSetWrite _ _ =>
    some { flds := [.log .logWr, .log .logLost, .log .logIntake, .log .ibiHold, .log .ibiWait, .out .ibis,
      .upd .heldRows],
           regs := [rINT_CNT, rSMP_ERR, rSMP_SET_K, rSMP_SET_PEN, rSMP_SET_PF, rSMP_SET_TEMP] }
  | .dlOpenRestore =>
    some { flds := [], regs := [rSRV_ADMIT_CTL] }
  | .scannerVisit _ =>
    some { flds := [.mem, .que .pair, .que .intake, .que .rotStart, .que .rotLast, .log .logWr, .log .logLost,
      .log .logIntake, .log .ibiHold, .log .ibiWait, .out .ibis],
           regs := [rINT_CNT, rQUE_ERR, rQUE_SCAN_STAT] }
  | .fence _ =>
    some { flds := [.que .cmd], regs := [] }
  | .fenceComplete _ =>
    some { flds := [.mem, .mov .iq, .que .pair, .que .cmd, .ten .tenant],
           regs := [rDOC_IQ_CTL, rQUE_PAIR_CFG, rTEN_CTL, rTEN_RESET] }
  | .snapshot _ =>
    some { flds := [.mem, .mov .iq, .mov .move, .mov .nextMove, .que .pair, .que .cmd, .ten .tenant],
           regs := [rDOC_IQ_CTL, rQUE_PAIR_CFG, rTEN_CTL, rTEN_RESET] }
  | .ucieModuleFail _ =>
    some { flds := [.que .ucieUp, .que .ucieRep, .log .logWr, .log .logLost, .log .logIntake, .log .ibiHold,
      .log .ibiWait, .out .ibis],
           regs := [rINT_CNT, rQUE_ERR] }
  | .queScannerEnable =>
    some { flds := [.que .scanner, .que .rotStart, .que .rotLast, .upd .heldRows], regs := [rQUE_CTL] }
  | .queScannerDisable =>
    some { flds := [.que .scanner, .upd .heldRows], regs := [rQUE_CTL] }
  | .pairEnable _ =>
    some { flds := [.mem, .que .pair, .log .logWr, .log .logLost, .log .logIntake, .log .ibiHold, .log .ibiWait,
      .out .ibis, .upd .heldRows],
           regs := [rINT_CNT, rQUE_ERR, rQUE_PAIR_CFG] }
  | .pairDisable _ =>
    some { flds := [.que .pair, .upd .heldRows], regs := [rQUE_PAIR_CFG] }
  | .tenantEnable _ =>
    some { flds := [.que .pair, .ten .tenant, .upd .heldRows], regs := [rTEN_CTL] }
  | .tenantDisable _ =>
    some { flds := [.mov .iq, .que .pair, .ten .tenant, .upd .heldRows],
           regs := [rDOC_IQ_CTL, rQUE_PAIR_CFG, rTEN_CTL, rTEN_RESET] }
  | .sliceSetEnable _ _ =>
    some { flds := [.ten .slice, .log .logWr, .log .logLost, .log .logIntake, .log .ibiHold, .log .ibiWait, .out .ibis,
      .upd .heldRows],
           regs := [rINT_CNT, rTEN_ERR, rTEN_SLICE_CFG] }
  | .sliceEnd _ =>
    some { flds := [.ten .tenant, .ten .slice], regs := [] }
  | .scanComplete _ _ =>
    some { flds := [.fab .bay, .fab .slot, .fab .site, .fab .credit, .cell .acell, .cell .lane, .cell .scell,
      .ten .scanWord, .ten .scanBay, .ten .scanDir, .ten .scanWant],
           regs := [rFAB_BAY_FENCE, rTEN_SCAN_CTL, rTEN_SCAN_STAT] }
  | .laneTrainingDone _ | .helloTimer _ | .keepaliveTimer _ =>
    some { flds := [.out .sentFlits, .lnk .port], regs := [] }
  | .laneTrainingTimeout _ =>
    some { flds := [.log .logWr, .log .logLost, .log .logIntake, .log .ibiHold, .log .ibiWait, .out .ibis, .lnk .port],
           regs := [rINT_CNT, rLNK_ERR, rLNK_ERR_PORT] }
  | .laneRetrainDone _ =>
    some { flds := [.lnk .port], regs := [] }
  | .timeSyncTimer =>
    some { flds := [.out .sentFlits, .lnk .port, .top .timeLocked, .top .holdover, .top .timeParent], regs := [] }
  | .ppsEdge =>
    some { flds := [.now, .top .timeLocked, .top .ppsAt, .top .slewLeft, .top .slewFrac, .top .timeBehind],
           regs := [rTOP_TIME_SET] }
  | .ppsLost =>
    some { flds := [.top .timeLocked, .top .ppsAt], regs := [rTOP_ERR] }
  | .lnkPolicyWrite _ =>
    some { flds := [.log .logWr, .log .logLost, .log .logIntake, .log .ibiHold, .log .ibiWait, .out .ibis,
      .upd .heldRows],
           regs := [rINT_CNT, rLNK_POLICY] }
  | .holdEnable _ =>
    some { flds := [.int .holdOn, .upd .heldRows], regs := [rINT_ERR, rINT_HOLD_CTL] }
  | .holdAt =>
    some { flds := [.int .holdOn], regs := [] }
  | .checkRequest _ =>
    some { flds := [.int .chk, .upd .heldRows], regs := [rINT_CHK_CTL] }
  | .checkStart _ =>
    some { flds := [.fab .bay, .int .chk], regs := [] }
  | .checkTimeout _ =>
    some { flds := [.int .chk], regs := [rINT_CHK_CTL, rINT_ERR] }
  | .capTargetWrite _ =>
    some { flds := [.log .logWr, .log .logLost, .log .logIntake, .log .ibiHold, .log .ibiWait, .out .ibis,
      .upd .heldRows],
           regs := [rINT_CNT, rPWR_CAP, rPWR_ERR] }
  | .brakeLevelWrite _ =>
    some { flds := [.fab .island, .srv .req, .log .logWr, .log .logLost, .log .logIntake, .log .ibiHold, .log .ibiWait,
      .out .ibis, .upd .heldRows],
           regs := [rINT_CNT, rPWR_BRAKE, rPWR_ERR, rPWR_GUAR, rSRV_ADMIT_CTL] }
  | .guaranteeCodeWrite _ =>
    some { flds := [.srv .req, .log .logWr, .log .logLost, .log .logIntake, .log .ibiHold, .log .ibiWait, .out .ibis,
      .upd .heldRows],
           regs := [rINT_CNT, rPWR_ERR, rPWR_GUAR, rSRV_ADMIT_CTL] }
  | .brakeAssert =>
    some { flds := [.fab .island, .srv .req, .log .logWr, .log .logLost, .log .logIntake, .log .ibiHold, .log .ibiWait,
      .out .ibis, .pwr .pinBrake],
           regs := [rINT_CNT, rPWR_BRAKE, rPWR_ERR, rPWR_GUAR, rSRV_ADMIT_CTL] }
  | .brakeRelease =>
    some { flds := [.fab .island, .srv .req, .log .logWr, .log .logLost, .log .logIntake, .log .ibiHold, .log .ibiWait,
      .out .ibis, .pwr .pinBrake, .pwr .capOver, .pwr .capUnder],
           regs := [rINT_CNT, rPWR_BRAKE, rPWR_CAP, rPWR_ERR, rPWR_GUAR, rSRV_ADMIT_CTL] }
  | .thermAlertRelease =>
    some { flds := [.out .thermAlert], regs := [] }
  | .vinSag =>
    some { flds := [.fab .island, .srv .req, .log .logWr, .log .logLost, .log .logIntake, .log .ibiHold, .log .ibiWait,
      .out .ibis, .boot .bootCause],
           regs := [rINT_CNT, rPWR_BRAKE, rPWR_ERR, rPWR_GUAR, rSRV_ADMIT_CTL] }
  | .vinRecover =>
    some { flds := [.fab .island, .srv .req, .log .logWr, .log .logLost, .log .logIntake, .log .ibiHold, .log .ibiWait,
      .out .ibis, .pwr .capOver, .pwr .capUnder],
           regs := [rINT_CNT, rPWR_BRAKE, rPWR_CAP, rPWR_ERR, rPWR_GUAR, rSRV_ADMIT_CTL] }
  | .nightWatchExit =>
    some { flds := [.fab .bay, .log .logWr, .log .logLost, .log .logIntake, .log .ibiHold, .log .ibiWait, .out .ibis,
      .pwr .nwSt, .upd .heldRows],
           regs := [rFAB_BAY_ON, rINT_CNT, rPWR_NW] }
  | .refclkTimeout =>
    some { flds := [.boot .bootPhase, .boot .startObs], regs := [rBOOT_STAT] }
  | .bootLockSet =>
    some { flds := [.upd .heldRows], regs := [rBOOT_LOCK] }
  | .updAbort =>
    some { flds := [.upd .updSt, .upd .updBegun, .upd .updManifest, .upd .heldRows], regs := [rUPD_STAT] }
  | .attestReport | .attestIdentity =>
    some { flds := [.mem, .poison, .log .logWr, .log .logLost, .log .logIntake, .log .ibiHold, .log .ibiWait,
      .out .ibis, .upd .heldRows, .sec .idxTried, .sec .attQ, .sec .attBuf, .sec .attBufSt],
           regs := [rINT_CNT, rSEC_ATT_CTL, rSEC_ERR, rSEC_IDX] }
  | .reservationComplete _ =>
    some { flds := [.mem, .poison, .fresh, .boot .flashAt, .sec .treeHeld, .sec .idxTried, .sec .attQ, .sec .attBuf,
      .sec .attBufSt],
           regs := [rBOOT_ERR, rBOOT_FLASH, rSEC_ATT_CTL, rSEC_ERR, rSEC_IDX] }
  | .secWinWrite _ =>
    some { flds := [.log .logWr, .log .logLost, .log .logIntake, .log .ibiHold, .log .ibiWait, .out .ibis,
      .upd .heldRows],
           regs := [rINT_CNT, rSEC_WIN] }
  | .credValidWrite _ =>
    some { flds := [.log .logWr, .log .logLost, .log .logIntake, .log .ibiHold, .log .ibiWait, .out .ibis,
      .upd .heldRows, .sec .cred],
           regs := [rINT_CNT, rSEC_CRED_CTL, rSEC_ERR] }
  | .credKeyWrite _ =>
    some { flds := [.log .logWr, .log .logLost, .log .logIntake, .log .ibiHold, .log .ibiWait, .out .ibis,
      .upd .heldRows, .sec .cred],
           regs := [rINT_CNT, rSEC_CRED_CTL] }
  | .mctpPacket _ _ =>
    some { flds := [.log .logWr, .log .logLost, .log .logIntake, .log .ibiHold, .log .ibiWait, .out .ibis],
           regs := [rINT_CNT, rMON_ERR, rMON_MGMT] }
  | .entdaa _ | .rstdaa | .enec _ | .disec _ =>
    some { flds := [], regs := [rMON_MGMT] }
  | .setmwl _ =>
    some { flds := [.mon .mwl], regs := [] }
  | .setmrl _ =>
    some { flds := [.mon .mrl], regs := [] }
  | .getmwl | .getmrl | .getpid | .getbcr | .getdcr | .getEndpointId | .getMctpVersionSupport _ | .getMessageTypeSupport
  | .gettid | .getpldmversion _ | .getpldmtypes | .getpldmcommands _ | .getpdrrepositoryinfo | .getpdr _
  | .getsensorreading _ | .getstatesensorreadings _ | .getnumericeffectervalue _ | .getstateeffecterstates _ | .lvStatus
  | .lvLogRead _ _ | .lvAttestRead _ _ =>
    some { flds := [.out .resp], regs := [] }
  | .getstatus =>
    some { flds := [.fresh, .out .resp], regs := [] }
  | .setEndpointId _ =>
    some { flds := [.out .resp], regs := [rMON_MGMT] }
  | .settid _ =>
    some { flds := [.mon .tid, .out .resp], regs := [] }
  | .setnumericeffectervalue _ _ =>
    some { flds := [.fab .island, .srv .req, .log .logWr, .log .logLost, .log .logIntake, .log .ibiHold, .log .ibiWait,
      .mon .effecter, .out .resp, .out .ibis],
           regs := [rINT_CNT, rPWR_BRAKE, rPWR_CAP, rPWR_ERR, rPWR_GUAR, rSRV_ADMIT_CTL] }
  | .lvLogAck _ =>
    some { flds := [.log .logWr, .log .logLost, .log .logIntake, .log .ibiHold, .log .ibiWait, .out .resp, .out .ibis],
           regs := [rINT_CNT, rLOG_HEAD, rLOG_STAT] }
  | .lvCensusRead _ _ _ =>
    some { flds := [.mon .census, .out .resp], regs := [] }
  | .lvAttest _ _ =>
    some { flds := [.mem, .poison, .out .resp, .sec .idxTried, .sec .attQ, .sec .attBuf, .sec .attBufSt],
           regs := [rSEC_ATT_CTL, rSEC_ERR, rSEC_IDX] }
  | .lvCsRead _ =>
    some { flds := [.log .logWr, .log .logLost, .log .logIntake, .log .ibiHold, .log .ibiWait, .out .resp, .out .ibis,
      .win .reqLatch, .win .pfxLatch],
           regs := [rINT_CNT, rQUE_ERR] }
  | .viewRefresh =>
    some { flds := [.fresh, .log .logWr, .log .logLost, .log .logIntake, .log .ibiHold, .log .ibiWait, .mon .viewVal,
      .mon .viewAt, .mon .viewStale, .mon .effecter, .out .ibis],
           regs := [rINT_CNT, rMON_ERR, rMON_VIEW] }
  | .viewStale =>
    some { flds := [.mon .viewStale], regs := [] }
  | .effecterDisagree _ =>
    some { flds := [.log .logWr, .log .logLost, .log .logIntake, .log .ibiHold, .log .ibiWait, .mon .effecter,
      .out .ibis],
           regs := [rINT_CNT, rMON_ERR, rMON_VIEW] }
  | .censusEvent _ _ _ | .censusSample _ _ =>
    some { flds := [.mon .census], regs := [] }
  | .logDrain =>
    some { flds := [.log .logLost, .log .logIntake, .log .logSlot], regs := [rLOG_HEAD] }
  | .ibiHoldoffEnd =>
    some { flds := [.log .ibiHold, .log .ibiWait, .out .ibis], regs := [] }
  | .nightWatchEntered =>
    some { flds := [.fab .bay, .log .logWr, .log .logLost, .log .logIntake, .log .ibiHold, .log .ibiWait, .out .ibis,
      .pwr .nwSt],
           regs := [rFAB_BAY_ON, rINT_CNT, rPWR_NW] }
  | _ => none

/-- What each of these commands may change, with all the work that it may end or move on. -/
def workFoot : Instr → Option Foot
  | .tokenHop _ _ _ _ | .creditReturn _ _ _ | .tokenConsume _ _ _ | .bayForce _ | .stallWatchdog _ _ | .tileStart _ _
  | .fabRd _ _ _ | .fabWr _ _ _ | .t1Rd _ _ _ | .t1Wr _ _ _ | .commandStart _ | .epochMarker _ _ _
  | .exhibitReleaseForce _ | .srvForce | .tenantReset _ | .preemptMark _ | .remoteTimeout _ | .dataFlitTimer _ _
  | .creditFlitTimer _ _ | .mcastCut _ _ _ | .rekeyLimit _ =>
    some footWork
  | .bayPowerUpDone _ | .bayPowerDownDone _ | .tenantSwitch _ =>
    some footBay
  | .bayClearDone _ | .commandComplete _ | .prefillEnd _ =>
    some footLoad
  | .vec _ _ | .sfu _ _ | .conv _ | .reduce _ _ =>
    some footCells
  | .exhibitLoad _ =>
    some { flds := [.mem, .fab .bay, .fab .wire, .exh .load, .exh .imgEntry, .exh .imgStamp, .mov .iq, .que .pair,
      .que .cmd, .ten .tenant, .log .logWr, .log .logLost, .log .logIntake, .log .ibiHold, .log .ibiWait, .out .ibis],
           regs := [rDOC_IQ_CTL, rEXH_ERR, rEXH_REFUSE, rFAB_BAY_FENCE, rINT_CNT, rQUE_PAIR_CFG, rSEC_ERR, rTEN_CTL,
           rTEN_RESET] }
  | .exhibitLoadReplace _ =>
    some { flds := [.mem, .fab .wire, .exh .load, .exh .imgEntry, .exh .imgStamp, .mov .iq, .que .pair, .que .cmd,
      .ten .tenant, .log .logWr, .log .logLost, .log .logIntake, .log .ibiHold, .log .ibiWait, .out .ibis],
           regs := [rDOC_IQ_CTL, rEXH_ERR, rEXH_REFUSE, rINT_CNT, rQUE_PAIR_CFG, rSEC_ERR, rTEN_CTL, rTEN_RESET] }
  | .exhibitLoadSliced _ =>
    some { flds := [.mem, .exh .load, .exh .imgEntry, .exh .imgStamp, .mov .iq, .que .pair, .que .cmd, .ten .tenant,
      .log .logWr, .log .logLost, .log .logIntake, .log .ibiHold, .log .ibiWait, .out .ibis],
           regs := [rDOC_IQ_CTL, rEXH_ERR, rEXH_REFUSE, rINT_CNT, rQUE_PAIR_CFG, rSEC_ERR, rTEN_CTL, rTEN_RESET] }
  | .loadConfigured _ =>
    some { flds := [.mem, .poison, .fab .bay, .fab .slot, .fab .site, .fab .credit, .fab .creditFly, .cell .acell,
      .cell .scell, .exh .load, .mov .iq, .srv .srvSt, .srv .req, .srv .pfx, .srv .srvStep, .que .pair, .que .cmd,
      .que .nextCmd, .ten .tenant, .ten .slice, .lnk .stream],
           regs := [rDOC_IQ_CTL, rFAB_BAY_FENCE, rQUE_PAIR_CFG, rSRV_CTL, rSRV_ERR, rTEN_ACC_T1, rTEN_ACC_T2,
           rTEN_ACC_T3, rTEN_CTL, rTEN_RESET] }
  | .replaceClose _ =>
    some { flds := [.mem, .poison, .fab .bay, .fab .slot, .fab .newSlot, .fab .site, .fab .credit, .fab .creditFly,
      .fab .wire, .cell .acell, .cell .cout, .cell .scell, .exh .load, .mov .iq, .srv .srvSt, .srv .req, .srv .pfx,
      .srv .srvStep, .que .pair, .que .cmd, .que .nextCmd, .ten .tenant, .ten .slice, .lnk .stream],
           regs := [rDOC_IQ_CTL, rFAB_BAY_FENCE, rQUE_PAIR_CFG, rSRV_CTL, rSRV_ERR, rTEN_ACC_T1, rTEN_ACC_T2,
           rTEN_ACC_T3, rTEN_CTL, rTEN_RESET] }
  | .exhibitRelease _ =>
    some { flds := [.mem, .poison, .fab .bay, .exh .load, .mov .iq, .srv .srvSt, .srv .req, .srv .pfx, .srv .srvStep,
      .que .pair, .que .cmd, .que .nextCmd, .ten .tenant, .ten .slice, .lnk .stream],
           regs := [rDOC_IQ_CTL, rFAB_BAY_FENCE, rQUE_PAIR_CFG, rSRV_CTL, rSRV_ERR, rTEN_ACC_T1, rTEN_ACC_T2,
           rTEN_ACC_T3, rTEN_CTL, rTEN_RESET] }
  | .moveFetch _ | .moveIngest _ | .moveAlloc _ | .moveWriteback _ | .moveDrop _ | .moveExport _ =>
    some { flds := [.mem, .poison, .exh .imgEntry, .mov .move, .mov .allocs, .log .logWr, .log .logLost,
      .log .logIntake, .log .ibiHold, .log .ibiWait, .out .ibis],
           regs := [rDOC_ERR, rINT_CNT, rINT_CRC, rINT_ERR, rSEC_ERR, rTEN_ACC_T1, rTEN_ACC_T2, rTEN_ACC_T3] }
  | .docentShare _ _ =>
    some { flds := [.mem, .poison, .fresh, .mov .doc, .mov .iq, .mov .move, .log .logWr, .log .logLost, .log .logIntake,
      .log .ibiHold, .log .ibiWait, .out .ibis],
           regs := [rINT_CNT, rT1C_CE_CNT, rT1C_ERR, rT1C_ERR_ADDR, rT2C_CE_CNT, rT2C_ERR, rT2C_ERR_ADDR, rT3C_CE_CNT,
           rT3C_ERR, rT3C_ERR_ADDR, rTEN_ACC_T1, rTEN_ACC_T2, rTEN_ACC_T3] }
  | .tierScrub _ _ _ =>
    some { flds := [.poison, .fresh, .fab .bay, .fab .slot, .fab .newSlot, .fab .site, .fab .credit, .fab .creditFly,
      .fab .wire, .fab .lastGrant, .fab .island, .cell .acell, .cell .acc, .cell .run16At, .cell .lane, .cell .laneBad,
      .cell .arrived, .cell .got, .cell .cout, .cell .scell, .cell .line, .exh .load, .exh .wdogWait, .mov .move,
      .ten .tenant, .ten .slice, .int .haltCause, .log .logWr, .log .logLost, .log .logIntake, .log .ibiHold,
      .log .ibiWait, .out .ibis, .out .sentFlits, .lnk .port, .lnk .lnkQ, .lnk .localLost],
           regs := [rFAB_BAY_FENCE, rFAB_BAY_FORCE, rFAB_BAY_ON, rINT_CNT, rINT_ERR, rLNK_ERR, rLNK_NOTICE_CNT,
           rT1C_CE_CNT, rT1C_ERR, rT1C_ERR_ADDR, rT2C_CE_CNT, rT2C_ERR, rT2C_ERR_ADDR, rT3C_CE_CNT, rT3C_ERR,
           rT3C_ERR_ADDR] }
  | .docentForce _ | .iqEnable _ _ | .iqForce _ | .dispatch _ | .queScannerForce =>
    some footIq
  | .submit _ =>
    some { flds := [.mem, .fresh, .mov .iq, .srv .req, .srv .pfx, .srv .reqStamp, .que .pair, .que .cmd, .ten .tenant,
      .log .logWr, .log .logLost, .log .logIntake, .log .ibiHold, .log .ibiWait, .out .ibis],
           regs := [rDOC_ERR, rDOC_IQ_CTL, rINT_CNT, rQUE_PAIR_CFG, rSEC_ERR, rSRV_ADMIT_STAT, rSRV_SVC_CFG, rTEN_CTL,
           rTEN_RESET] }
  | .resume _ =>
    some { flds := [.mem, .fresh, .mov .iq, .srv .req, .que .pair, .que .cmd, .ten .tenant, .log .logWr, .log .logLost,
      .log .logIntake, .log .ibiHold, .log .ibiWait, .out .ibis],
           regs := [rDOC_ERR, rDOC_IQ_CTL, rINT_CNT, rQUE_PAIR_CFG, rSEC_ERR, rSRV_ADMIT_STAT, rSRV_SVC_CFG, rTEN_CTL,
           rTEN_RESET] }
  | .candidateRecord _ _ =>
    some { flds := [.mem, .exh .load, .mov .iq, .srv .srvSt, .srv .req, .srv .srvStep, .que .pair, .que .cmd,
      .que .nextCmd, .ten .tenant, .log .logWr, .log .logLost, .log .logIntake, .log .ibiHold, .log .ibiWait, .out .ibis],
           regs := [rDOC_IQ_CTL, rINT_CNT, rINT_ERR, rQUE_PAIR_CFG, rSMP_ERR, rSMP_STAT, rSRV_CTL, rTEN_CTL,
           rTEN_RESET] }
  | .samplerForce _ =>
    some { flds := [.mem, .exh .load, .mov .iq, .srv .srvSt, .srv .req, .srv .srvStep, .srv .smp, .que .pair, .que .cmd,
      .que .nextCmd, .ten .tenant, .log .logWr, .log .logLost, .log .logIntake, .log .ibiHold, .log .ibiWait, .out .ibis,
      .upd .heldRows],
           regs := [rDOC_IQ_CTL, rINT_CNT, rQUE_PAIR_CFG, rSMP_ERR, rSRV_CTL, rTEN_CTL, rTEN_RESET] }
  | .pairForce _ =>
    some { flds := [.mem, .poison, .fresh, .fab .bay, .fab .slot, .fab .newSlot, .fab .site, .fab .credit,
      .fab .creditFly, .fab .wire, .fab .lastGrant, .fab .island, .cell .acell, .cell .acc, .cell .run16At, .cell .lane,
      .cell .laneBad, .cell .arrived, .cell .got, .cell .cout, .cell .scell, .cell .line, .exh .load, .exh .imgEntry,
      .exh .wdogWait, .mov .doc, .mov .iq, .mov .move, .mov .allocs, .srv .srvSt, .srv .req, .srv .pfx, .srv .srvStep,
      .srv .svcPins, .que .pair, .que .intake, .que .cmd, .que .nextCmd, .que .scanner, .ten .tenant, .ten .slice,
      .ten .scanWord, .ten .scanBay, .ten .scanDir, .ten .scanWant, .log .logWr, .log .logLost, .log .logIntake,
      .log .ibiHold, .log .ibiWait, .out .ibis, .out .sentFlits, .upd .updSt, .upd .updBegun, .upd .updManifest,
      .upd .heldRows, .lnk .port, .lnk .lnkQ, .lnk .stream, .lnk .localFlits, .lnk .localLost],
           regs := [rDOC_ERR, rDOC_IQ_CTL, rFAB_BAY_FENCE, rFAB_BAY_FORCE, rINT_CNT, rLNK_ERR, rLNK_NOTICE_CNT,
           rQUE_ERR, rQUE_PAIR_CFG, rSEC_ERR, rSRV_CTL, rSRV_ERR, rSRV_SVC_CFG, rTEN_ACC_LINK, rTEN_ACC_T1, rTEN_ACC_T2,
           rTEN_ACC_T3, rTEN_CTL, rTEN_RESET, rUPD_STAT] }
  | .tenantForce _ | .tenCtlWrite _ _ =>
    some { flds := [.mem, .poison, .fresh, .fab .bay, .fab .slot, .fab .newSlot, .fab .site, .fab .credit,
      .fab .creditFly, .fab .wire, .fab .lastGrant, .fab .island, .cell .acell, .cell .acc, .cell .run16At, .cell .lane,
      .cell .laneBad, .cell .arrived, .cell .got, .cell .cout, .cell .scell, .cell .line, .exh .load, .exh .imgEntry,
      .exh .wdogWait, .mov .doc, .mov .iq, .mov .move, .mov .allocs, .srv .srvSt, .srv .req, .srv .pfx, .srv .srvStep,
      .srv .svcPins, .que .pair, .que .intake, .que .cmd, .que .nextCmd, .que .scanner, .ten .tenant, .ten .slice,
      .ten .scanWord, .ten .scanBay, .ten .scanDir, .ten .scanWant, .log .logWr, .log .logLost, .log .logIntake,
      .log .ibiHold, .log .ibiWait, .out .ibis, .out .sentFlits, .upd .updSt, .upd .updBegun, .upd .updManifest,
      .upd .heldRows, .lnk .port, .lnk .lnkQ, .lnk .stream, .lnk .localFlits, .lnk .localLost],
           regs := [rDOC_ERR, rDOC_IQ_CTL, rFAB_BAY_FENCE, rFAB_BAY_FORCE, rINT_CNT, rLNK_ERR, rLNK_NOTICE_CNT,
           rQUE_ERR, rQUE_PAIR_CFG, rSEC_ERR, rSRV_CTL, rSRV_ERR, rSRV_SVC_CFG, rTEN_ACC_LINK, rTEN_ACC_T1, rTEN_ACC_T2,
           rTEN_ACC_T3, rTEN_CTL, rTEN_ERR, rTEN_RESET, rUPD_STAT] }
  | .scanOut _ | .scanIn _ =>
    some { flds := [.fab .bay, .fab .slot, .fab .site, .fab .credit, .cell .acell, .cell .lane, .cell .scell,
      .ten .scanWord, .ten .scanBay, .ten .scanDir, .ten .scanWant, .log .logWr, .log .logLost, .log .logIntake,
      .log .ibiHold, .log .ibiWait, .out .ibis, .upd .heldRows],
           regs := [rINT_CNT, rTEN_ERR, rTEN_SCAN_CTL] }
  | .idleFlit _ _ | .dataFlit _ _ _ | .creditFlit _ _ _ | .noticeLost _ _ _ | .noticeCut _ _ _ | .hello _ _ | .keepalive _ _
  | .rate _ _ | .timeReq _ _ | .timeResp _ _ | .quar _ _ | .kex _ _ | .nak _ _ _ | .replayTimeout _ | .laneLockLost _
  | .linkSilence _ | .fecThreshold _ | .bundleResume _ | .kexTimeout _ | .portEnable _ | .portDisable _ | .portForce _
  | .portRetrain _ | .portLow _ _ | .topologyCommit =>
    some footLink
  | .checkEnd _ _ =>
    some { flds := [.fab .bay, .fab .slot, .fab .newSlot, .fab .site, .fab .credit, .fab .creditFly, .fab .wire,
      .fab .lastGrant, .fab .island, .cell .acell, .cell .acc, .cell .run16At, .cell .lane, .cell .laneBad,
      .cell .arrived, .cell .got, .cell .cout, .cell .scell, .cell .line, .exh .load, .exh .wdogWait, .ten .tenant,
      .ten .slice, .ten .scanWord, .ten .scanBay, .ten .scanDir, .ten .scanWant, .int .chk, .log .logWr, .log .logLost,
      .log .logIntake, .log .ibiHold, .log .ibiWait, .out .ibis],
           regs := [rFAB_BAY_FENCE, rFAB_BAY_FORCE, rINT_CHK_CTL, rINT_CHK_FAIL, rINT_CNT, rINT_ERR] }
  | .capPeriod _ =>
    some { flds := [.fab .island, .srv .req, .log .logWr, .log .logLost, .log .logIntake, .log .ibiHold, .log .ibiWait,
      .out .ibis, .pwr .capOver, .pwr .capUnder, .boot .bootCause],
           regs := [rINT_CNT, rPWR_CAP, rPWR_ENERGY, rPWR_ERR, rPWR_GUAR, rPWR_IN, rPWR_PEAK, rSRV_ADMIT_CTL,
           rTEN_ACC_COMMON, rTEN_ACC_MJ] }
  | .sensorRead _ _ =>
    some { flds := [.fresh, .fab .bay, .fab .slot, .fab .newSlot, .fab .site, .fab .credit, .fab .creditFly, .fab .wire,
      .fab .lastGrant, .fab .island, .cell .acell, .cell .acc, .cell .run16At, .cell .lane, .cell .laneBad,
      .cell .arrived, .cell .got, .cell .cout, .cell .scell, .cell .line, .exh .load, .exh .wdogWait, .mov .move,
      .srv .req, .ten .tenant, .ten .slice, .int .haltCause, .log .logWr, .log .logLost, .log .logIntake, .log .ibiHold,
      .log .ibiWait, .out .ibis, .out .sentFlits, .out .thermAlert, .pwr .temp, .pwr .hotSince, .pwr .thermAt, .lnk .port,
      .lnk .lnkQ, .lnk .localLost],
           regs := [rFAB_BAY_FENCE, rFAB_BAY_FORCE, rFAB_BAY_ON, rINT_CNT, rINT_ERR, rLNK_ERR, rLNK_NOTICE_CNT,
           rPWR_ERR, rPWR_GUAR, rPWR_THERM, rSRV_ADMIT_CTL] }
  | .nightWatchEnter =>
    some { flds := [.fab .bay, .fab .slot, .fab .newSlot, .fab .site, .fab .credit, .fab .creditFly, .fab .wire,
      .fab .lastGrant, .fab .island, .cell .acell, .cell .acc, .cell .run16At, .cell .lane, .cell .laneBad,
      .cell .arrived, .cell .got, .cell .cout, .cell .scell, .cell .line, .exh .load, .exh .wdogWait, .ten .tenant,
      .ten .slice, .log .logWr, .log .logLost, .log .logIntake, .log .ibiHold, .log .ibiWait, .out .ibis, .out .sentFlits,
      .pwr .nwSt, .upd .heldRows, .lnk .port, .lnk .pausedBundles],
           regs := [rFAB_BAY_FENCE, rFAB_BAY_FORCE, rFAB_BAY_ON, rINT_CNT, rPWR_ERR, rPWR_NW] }
  | .refclkLost =>
    some { flds := [.fresh, .fab .bay, .fab .slot, .fab .newSlot, .fab .site, .fab .credit, .fab .creditFly, .fab .wire,
      .fab .lastGrant, .fab .island, .cell .acell, .cell .acc, .cell .run16At, .cell .lane, .cell .laneBad,
      .cell .arrived, .cell .got, .cell .cout, .cell .scell, .cell .line, .exh .load, .exh .wdogWait, .mov .move,
      .ten .tenant, .ten .slice, .int .haltCause, .log .logWr, .log .logLost, .log .logIntake,
      .log .ibiHold, .log .ibiWait, .out .ibis, .out .sentFlits, .lnk .port, .lnk .lnkQ, .lnk .localLost],
           regs := [rFAB_BAY_FENCE, rFAB_BAY_FORCE, rFAB_BAY_ON, rINT_CNT, rINT_ERR, rLNK_ERR, rLNK_NOTICE_CNT] }
  | .updateBlock _ _ =>
    some { flds := [.mem, .fresh, .mov .iq, .que .pair, .que .cmd, .ten .tenant, .log .logWr, .log .logLost,
      .log .logIntake, .log .ibiHold, .log .ibiWait, .out .ibis, .boot .flashAt, .boot .journal, .boot .jrnNext,
      .upd .updSt, .upd .updBegun, .upd .updManifest],
           regs := [rBOOT_ERR, rBOOT_FLASH, rDOC_IQ_CTL, rINT_CNT, rQUE_PAIR_CFG, rTEN_CTL, rTEN_RESET, rUPD_ERR,
           rUPD_STAT] }
  | .updateManifest _ _ =>
    some { flds := [.mem, .fresh, .mov .iq, .que .pair, .que .cmd, .ten .tenant, .log .logWr, .log .logLost,
      .log .logIntake, .log .ibiHold, .log .ibiWait, .out .ibis, .boot .flashAt, .upd .updSt, .upd .updManifest],
           regs := [rBOOT_ERR, rBOOT_FLASH, rDOC_IQ_CTL, rINT_CNT, rQUE_PAIR_CFG, rTEN_CTL, rTEN_RESET, rUPD_ERR,
           rUPD_STAT] }
  | .updateActivate _ =>
    some { flds := [.mem, .mov .iq, .que .pair, .que .cmd, .ten .tenant, .log .logWr, .log .logLost, .log .logIntake,
      .log .ibiHold, .log .ibiWait, .out .ibis, .upd .updSt],
           regs := [rDOC_IQ_CTL, rINT_CNT, rQUE_PAIR_CFG, rTEN_CTL, rTEN_RESET, rUPD_ERR, rUPD_STAT] }
  | .updateConfirm _ =>
    some { flds := [.mem, .mov .iq, .que .pair, .que .cmd, .ten .tenant, .log .logWr, .log .logLost, .log .logIntake,
      .log .ibiHold, .log .ibiWait, .out .ibis, .boot .flashAt, .boot .journal, .boot .jrnNext, .upd .updSt,
      .upd .updBegun, .upd .updManifest],
           regs := [rBOOT_FLASH, rBOOT_STAT, rDOC_IQ_CTL, rINT_CNT, rQUE_PAIR_CFG, rTEN_CTL, rTEN_RESET, rUPD_ERR,
           rUPD_STAT] }
  | .updGo =>
    some { flds := [.mem, .poison, .fresh, .fab .bay, .fab .slot, .fab .newSlot, .fab .site, .fab .credit,
      .fab .creditFly, .fab .wire, .fab .lastGrant, .fab .island, .cell .acell, .cell .acc, .cell .run16At, .cell .lane,
      .cell .laneBad, .cell .arrived, .cell .got, .cell .cout, .cell .scell, .cell .line, .exh .load, .exh .imgEntry,
      .exh .wdogWait, .mov .iq, .srv .srvSt, .srv .req, .srv .pfx, .srv .srvStep, .srv .svcPins, .que .pair, .que .intake,
      .que .cmd, .que .nextCmd, .que .scanner, .ten .tenant, .ten .slice, .ten .scanWord, .ten .scanBay, .ten .scanDir,
      .ten .scanWant, .log .logWr, .log .logLost, .log .logIntake, .log .ibiHold, .log .ibiWait, .out .ibis,
      .out .sentFlits, .boot .flashAt, .boot .journal, .boot .jrnNext, .upd .updSt, .upd .updBegun, .upd .updManifest,
      .upd .heldRows, .upd .updGoAt, .lnk .port, .lnk .lnkQ, .lnk .pausedBundles, .lnk .stream, .lnk .localFlits,
      .lnk .localLost],
           regs := [rBOOT_FLASH, rDOC_IQ_CTL, rFAB_BAY_FENCE, rFAB_BAY_FORCE, rFAB_BAY_ON, rINT_CNT, rLNK_ERR,
           rLNK_NOTICE_CNT, rQUE_PAIR_CFG, rSRV_CTL, rSRV_ERR, rSRV_SVC_CFG, rTEN_ACC_LINK, rTEN_ACC_T1, rTEN_ACC_T2,
           rTEN_ACC_T3, rTEN_CTL, rTEN_RESET, rUPD_ERR, rUPD_PAUSE, rUPD_STAT] }
  | _ => none

end Sys2Proof.Machine

/-- Frames of the commands that touch few parts. -/
def Obligations.Frames : Prop :=
  ∀ (i : Instr) (p : Foot), plainFoot i = some p → p.Of i

/-- Frames of the commands that move or end work, and of plain register writes. -/
def Obligations.WorkFrames : Prop :=
  (∀ (i : Instr) (p : Foot), workFoot i = some p → p.Of i) ∧
  (∀ (off : Nat) (v : Word) (s : State), off ∈ plainRegs → s.taken →
    Gives (.regWrite off v) s ((footLog.add { flds := [], regs := [off] }).Frame s)) ∧
  (∀ (off : Nat) (v : Word) (s : State), s.attends .full → s.flag rMON_MGMT 63 = false →
    Gives (.lvCsWrite off v) s ((footLog.add { flds := [.out .resp], regs := [rMON_ERR] }).Frame s))
end

