-- ==== Sys2Proof/Laws/Tab.lean ====
section
/-!
SUPPORT. Tables: what is read after a write, and that every operation keeps the canonical form.
-/

namespace Sys2Proof.Machine

variable {α : Type}

theorem tget_tdel (d : Nat → α) (t : Tab α) (k j : Nat) :
    tget d (tdel t k) j = if j = k then d j else tget d t j := by
  induction t with
  | nil => simp [tdel, tget]
  | cons p t ih =>
    obtain ⟨a, w⟩ := p
    by_cases h : a = k
    · subst h
      have : tdel ((a, w) :: t) a = tdel t a := by simp [tdel]
      rw [this, ih]
      by_cases h2 : j = a
      · simp [h2]
      · simp [h2, tget, Ne.symm h2]
    · have : tdel ((a, w) :: t) k = (a, w) :: tdel t k := by simp [tdel, h]
      rw [this]
      by_cases h2 : a = j
      · subst h2; simp [tget, h]
      · simp [tget, h2, ih]

/-- What is read at `j` after `v` is written at `k`. -/
theorem tget_tset [DecidableEq α] (d : Nat → α) (t : Tab α) (k j : Nat) (v : α) :
    tget d (tset d t k v) j = if j = k then v else tget d t j := by
  induction t with
  | nil =>
    by_cases hv : v = d k
    · by_cases hj : j = k
      · subst hj; simp [tset, tget, hv]
      · simp [tset, tget, hv, hj]
    · by_cases hj : j = k
      · simp [tset, tget, hv, hj]
      · simp [tset, tget, hv, hj, Ne.symm hj]
  | cons p t ih =>
    obtain ⟨a, w⟩ := p
    by_cases h : a < k
    · simp only [tset, h, if_true, tget]
      by_cases h2 : a = j
      · subst h2; simp [Nat.ne_of_lt h]
      · simp [h2, ih]
    · simp only [tset, h, if_false]
      by_cases hv : v = d k
      · rw [if_pos hv, tget_tdel]
        by_cases hj : j = k
        · subst hj; simp [hv]
        · simp [hj]
      · rw [if_neg hv]
        by_cases hj : j = k
        · simp [tget, hj]
        · simp [tget, hj, Ne.symm hj, tget_tdel]

theorem twfFrom_mono [DecidableEq α] (d : Nat → α) (t : Tab α) (lo hi : Nat) (h : lo ≤ hi)
    (w : twfFrom d hi t = true) : twfFrom d lo t = true := by
  cases t with
  | nil => rfl
  | cons p t =>
    simp only [twfFrom, Bool.and_eq_true, decide_eq_true_eq] at w ⊢
    exact ⟨⟨Nat.le_trans h w.1.1, w.1.2⟩, w.2⟩

theorem tdel_of_lt [DecidableEq α] (d : Nat → α) (t : Tab α) (lo k : Nat) (h : k < lo)
    (w : twfFrom d lo t = true) : tdel t k = t := by
  induction t generalizing lo with
  | nil => rfl
  | cons p t ih =>
    simp only [twfFrom, Bool.and_eq_true, decide_eq_true_eq] at w
    have hk : p.1 ≠ k := by omega
    have hrest : tdel t k = t := ih (p.1 + 1) (by omega) w.2
    have : tdel (p :: t) k = p :: tdel t k := by simp [tdel, hk]
    rw [this, hrest]

theorem twfFrom_tset [DecidableEq α] (d : Nat → α) (t : Tab α) (k : Nat) (v : α) (lo : Nat) (hlo : lo ≤ k)
    (w : twfFrom d lo t = true) : twfFrom d lo (tset d t k v) = true := by
  induction t generalizing lo with
  | nil =>
    by_cases hv : v = d k
    · simp [tset, hv, twfFrom]
    · simp [tset, hv, twfFrom, hlo]
  | cons p t ih =>
    obtain ⟨a, x⟩ := p
    simp only [twfFrom, Bool.and_eq_true, decide_eq_true_eq] at w
    by_cases h : a < k
    · simp only [tset, h, if_true, twfFrom, Bool.and_eq_true, decide_eq_true_eq]
      exact ⟨w.1, ih (a + 1) (by omega) w.2⟩
    · simp only [tset, h, if_false]
      by_cases hk : a = k
      · subst hk
        have hd : tdel ((a, x) :: t) a = t := by
          have : tdel ((a, x) :: t) a = tdel t a := by simp [tdel]
          rw [this, tdel_of_lt d t (a + 1) a (by omega) w.2]
        rw [hd]
        by_cases hv : v = d a
        · rw [if_pos hv]; exact twfFrom_mono d t lo (a + 1) (by omega) w.2
        · rw [if_neg hv]; simp [twfFrom, hlo, hv, w.2]
      · have hd : tdel ((a, x) :: t) k = (a, x) :: t :=
          tdel_of_lt d _ a k (by omega) (by simp [twfFrom, w.1.2, w.2])
        rw [hd]
        by_cases hv : v = d k
        · rw [if_pos hv]; simp [twfFrom, w.1.1, w.1.2, w.2]
        · rw [if_neg hv]
          simp only [twfFrom, Bool.and_eq_true, decide_eq_true_eq]
          exact ⟨⟨hlo, hv⟩, ⟨by omega, w.1.2⟩, w.2⟩

/-- A write keeps the canonical form. -/
theorem twf_tset [DecidableEq α] (d : Nat → α) (t : Tab α) (k : Nat) (v : α) (w : twf d t = true) :
    twf d (tset d t k v) = true := twfFrom_tset d t k v 0 (Nat.zero_le k) w

end Sys2Proof.Machine
end

