-- ==== Sys2Proof/Laws/State.lean ====
section
/-!
SUPPORT. What each primitive change does to each reader of the state, and which part it changes.
-/

namespace Sys2Proof.Machine

/-- The part that a primitive change may change; none for a register, and for the wipe, which changes all. -/
def Upd.fld : Upd → Option Fld
  | .now _ => some .now
  | .byte _ _ => some .mem
  | .bad _ _ => some .poison
  | .fresh _ => some .fresh
  | .reg _ _ _ => none
  | .wipe => none
  | .bay _ _ => some (.fab .bay)
  | .slot _ _ => some (.fab .slot)
  | .newSlot _ _ => some (.fab .newSlot)
  | .site _ _ => some (.fab .site)
  | .credit _ _ => some (.fab .credit)
  | .creditFly _ _ => some (.fab .creditFly)
  | .wire _ _ => some (.fab .wire)
  | .lastGrant _ _ => some (.fab .lastGrant)
  | .island _ _ => some (.fab .island)
  | .acell _ _ => some (.cell .acell)
  | .acc _ _ => some (.cell .acc)
  | .run16At _ _ => some (.cell .run16At)
  | .lane _ _ => some (.cell .lane)
  | .laneBad _ _ => some (.cell .laneBad)
  | .arrived _ _ => some (.cell .arrived)
  | .got _ _ => some (.cell .got)
  | .cout _ _ => some (.cell .cout)
  | .scell _ _ => some (.cell .scell)
  | .line _ _ => some (.cell .line)
  | .load _ _ => some (.exh .load)
  | .imgEntry _ _ => some (.exh .imgEntry)
  | .split _ _ => some (.exh .split)
  | .imgStamp _ => some (.exh .imgStamp)
  | .wdogWait _ _ => some (.exh .wdogWait)
  | .doc _ _ => some (.mov .doc)
  | .iq _ _ => some (.mov .iq)
  | .move _ _ => some (.mov .move)
  | .nextMove _ => some (.mov .nextMove)
  | .allocs _ => some (.mov .allocs)
  | .calMiss _ _ => some (.mov .calMiss)
  | .arbiter _ _ => some (.arb .arbiter)
  | .arbReq _ _ => some (.arb .arbReq)
  | .srvSt _ => some (.srv .srvSt)
  | .req _ _ => some (.srv .req)
  | .pfx _ _ => some (.srv .pfx)
  | .srvStep _ _ => some (.srv .srvStep)
  | .svcPins _ _ => some (.srv .svcPins)
  | .reqStamp _ => some (.srv .reqStamp)
  | .smp _ _ => some (.srv .smp)
  | .pair _ _ => some (.que .pair)
  | .intake _ _ => some (.que .intake)
  | .cmd _ _ => some (.que .cmd)
  | .nextCmd _ => some (.que .nextCmd)
  | .scanner _ => some (.que .scanner)
  | .rotStart _ => some (.que .rotStart)
  | .rotLast _ => some (.que .rotLast)
  | .ucieUp _ => some (.que .ucieUp)
  | .ucieRep _ => some (.que .ucieRep)
  | .ucieOn _ => some (.que .ucieOn)
  | .tenant _ _ => some (.ten .tenant)
  | .engFrac _ _ => some (.ten .engFrac)
  | .slice _ _ => some (.ten .slice)
  | .scanWord _ _ => some (.ten .scanWord)
  | .scanBay _ => some (.ten .scanBay)
  | .scanDir _ => some (.ten .scanDir)
  | .scanWant _ => some (.ten .scanWant)
  | .haltCause _ => some (.int .haltCause)
  | .holdOn _ => some (.int .holdOn)
  | .chk _ _ => some (.int .chk)
  | .logWr _ => some (.log .logWr)
  | .logLost _ => some (.log .logLost)
  | .logIntake _ => some (.log .logIntake)
  | .logSlot _ _ => some (.log .logSlot)
  | .logLatch _ => some (.log .logLatch)
  | .ibiHold _ => some (.log .ibiHold)
  | .ibiWait _ => some (.log .ibiWait)
  | .census _ _ => some (.mon .census)
  | .viewVal _ _ => some (.mon .viewVal)
  | .viewAt _ => some (.mon .viewAt)
  | .viewStale _ => some (.mon .viewStale)
  | .effecter _ _ => some (.mon .effecter)
  | .tid _ => some (.mon .tid)
  | .mwl _ => some (.mon .mwl)
  | .mrl _ => some (.mon .mrl)
  | .cdRead _ => some (.out .cdRead)
  | .cdPoison _ => some (.out .cdPoison)
  | .resp _ => some (.out .resp)
  | .ibis _ => some (.out .ibis)
  | .sentFlits _ _ => some (.out .sentFlits)
  | .thermAlert _ => some (.out .thermAlert)
  | .nwSt _ => some (.pwr .nwSt)
  | .pinBrake _ => some (.pwr .pinBrake)
  | .capOver _ => some (.pwr .capOver)
  | .capUnder _ => some (.pwr .capUnder)
  | .temp _ _ => some (.pwr .temp)
  | .hotSince _ _ => some (.pwr .hotSince)
  | .thermAt _ _ => some (.pwr .thermAt)
  | .bootPhase _ => some (.boot .bootPhase)
  | .bootCause _ => some (.boot .bootCause)
  | .startObs _ => some (.boot .startObs)
  | .flashAt _ _ => some (.boot .flashAt)
  | .journal _ => some (.boot .journal)
  | .jrnNext _ => some (.boot .jrnNext)
  | .cfgSeq _ => some (.boot .cfgSeq)
  | .cfgCopy _ => some (.boot .cfgCopy)
  | .cfgHash _ => some (.boot .cfgHash)
  | .updSt _ => some (.upd .updSt)
  | .updBegun _ => some (.upd .updBegun)
  | .updManifest _ => some (.upd .updManifest)
  | .heldRows _ => some (.upd .heldRows)
  | .updGoAt _ => some (.upd .updGoAt)
  | .port _ _ => some (.lnk .port)
  | .lnkQ _ _ => some (.lnk .lnkQ)
  | .pausedBundles _ => some (.lnk .pausedBundles)
  | .stream _ _ => some (.lnk .stream)
  | .localFlits _ => some (.lnk .localFlits)
  | .localLost _ => some (.lnk .localLost)
  | .live _ => some (.top .live)
  | .timeLocked _ => some (.top .timeLocked)
  | .holdover _ => some (.top .holdover)
  | .ppsAt _ => some (.top .ppsAt)
  | .timeParent _ => some (.top .timeParent)
  | .timeOffset _ => some (.top .timeOffset)
  | .timeGood _ => some (.top .timeGood)
  | .slewLeft _ => some (.top .slewLeft)
  | .slewFrac _ => some (.top .slewFrac)
  | .timeBehind _ => some (.top .timeBehind)
  | .timeFrac _ => some (.top .timeFrac)
  | .ident _ => some (.sec .ident)
  | .cred _ _ => some (.sec .cred)
  | .treeHeld _ => some (.sec .treeHeld)
  | .idxTried _ => some (.sec .idxTried)
  | .attQ _ => some (.sec .attQ)
  | .attBuf _ => some (.sec .attBuf)
  | .attBufSt _ => some (.sec .attBufSt)
  | .reqLatch _ => some (.win .reqLatch)
  | .pfxLatch _ => some (.win .pfxLatch)

@[simp] theorem applyUpd_now (s : State) (v : Nat) : (applyUpd (.now v) s).now = v := rfl
@[simp] theorem applyUpd_fresh (s : State) (v : Nat) : (applyUpd (.fresh v) s).fresh = v := rfl
@[simp] theorem applyUpd_byte (s : State) (a : Nat) (v : Byte) (j : Nat) : (applyUpd (.byte a v) s).byte j = if j = a then v else s.byte j :=
  tget_tset memDefault s.mem a j v
@[simp] theorem applyUpd_bad (s : State) (k : Nat) (v : Bool) (j : Nat) : (applyUpd (.bad k v) s).bad j = if j / 32 = k then v else s.bad j :=
  tget_tset _ s.poison k (j / 32) v
@[simp] theorem applyUpd_bay (s : State) (k : Nat) (v : Bay) (j : Nat) : (applyUpd (.bay k v) s).bay j = if j = k then v else s.bay j :=
  tget_tset _ s.fab.bays k j v
@[simp] theorem applyUpd_slot (s : State) (k : Nat) (v : Option Slot) (j : Nat) : (applyUpd (.slot k v) s).slot j = if j = k then v else s.slot j :=
  tget_tset _ s.fab.slots k j v
@[simp] theorem applyUpd_newSlot (s : State) (k : Nat) (v : Option Slot) (j : Nat) : (applyUpd (.newSlot k v) s).newSlot j = if j = k then v else s.newSlot j :=
  tget_tset _ s.fab.newSlots k j v
@[simp] theorem applyUpd_site (s : State) (k : Nat) (v : SiteSt) (j : Nat) : (applyUpd (.site k v) s).site j = if j = k then v else s.site j :=
  tget_tset _ s.fab.sites k j v
@[simp] theorem applyUpd_credit (s : State) (k : Nat) (v : Nat) (j : Nat) : (applyUpd (.credit k v) s).credit j = if j = k then v else s.credit j :=
  tget_tset _ s.fab.credits k j v
@[simp] theorem applyUpd_creditFly (s : State) (k : Nat) (v : Nat) (j : Nat) : (applyUpd (.creditFly k v) s).creditFly j = if j = k then v else s.creditFly j :=
  tget_tset _ s.fab.creditsFly k j v
@[simp] theorem applyUpd_wire (s : State) (k : Nat) (v : List Token) (j : Nat) : (applyUpd (.wire k v) s).wire j = if j = k then v else s.wire j :=
  tget_tset _ s.fab.wires k j v
@[simp] theorem applyUpd_lastGrant (s : State) (k : Nat) (v : Nat) (j : Nat) : (applyUpd (.lastGrant k v) s).lastGrant j = if j = k then v else s.lastGrant j :=
  tget_tset _ s.fab.lastGrant k j v
@[simp] theorem applyUpd_island (s : State) (k : Nat) (v : Island) (j : Nat) : (applyUpd (.island k v) s).island j = if j = k then v else s.island j :=
  tget_tset _ s.fab.islands k j v
@[simp] theorem applyUpd_acell (s : State) (k : Nat) (v : ACell) (j : Nat) : (applyUpd (.acell k v) s).acell j = if j = k then v else s.acell j :=
  tget_tset _ s.cell.acells k j v
@[simp] theorem applyUpd_acc (s : State) (k : Nat) (v : Acc) (j : Nat) : (applyUpd (.acc k v) s).acc j = if j = k then v else s.acc j :=
  tget_tset _ s.cell.accs k j v
@[simp] theorem applyUpd_run16At (s : State) (k : Nat) (v : Nat) (j : Nat) : (applyUpd (.run16At k v) s).run16At j = if j = k then v else s.run16At j :=
  tget_tset _ s.cell.runs k j v
@[simp] theorem applyUpd_lane (s : State) (k : Nat) (v : Nat) (j : Nat) : (applyUpd (.lane k v) s).lane j = if j = k then v else s.lane j :=
  tget_tset _ s.cell.lanes k j v
@[simp] theorem applyUpd_laneBad (s : State) (k : Nat) (v : Bool) (j : Nat) : (applyUpd (.laneBad k v) s).laneBad j = if j = k then v else s.laneBad j :=
  tget_tset _ s.cell.lanePoison k j v
@[simp] theorem applyUpd_arrived (s : State) (k : Nat) (v : List Token) (j : Nat) : (applyUpd (.arrived k v) s).arrived j = if j = k then v else s.arrived j :=
  tget_tset _ s.cell.arr k j v
@[simp] theorem applyUpd_got (s : State) (k : Nat) (v : List Token) (j : Nat) : (applyUpd (.got k v) s).got j = if j = k then v else s.got j :=
  tget_tset _ s.cell.got k j v
@[simp] theorem applyUpd_cout (s : State) (k : Nat) (v : List Token) (j : Nat) : (applyUpd (.cout k v) s).cout j = if j = k then v else s.cout j :=
  tget_tset _ s.cell.cout k j v
@[simp] theorem applyUpd_scell (s : State) (k : Nat) (v : SCell) (j : Nat) : (applyUpd (.scell k v) s).scell j = if j = k then v else s.scell j :=
  tget_tset _ s.cell.scells k j v
@[simp] theorem applyUpd_line (s : State) (k : Nat) (v : Line) (j : Nat) : (applyUpd (.line k v) s).line j = if j = k then v else s.line j :=
  tget_tset _ s.cell.lines k j v
@[simp] theorem applyUpd_load (s : State) (k : Nat) (v : Load) (j : Nat) : (applyUpd (.load k v) s).load j = if j = k then v else s.load j :=
  tget_tset _ s.exh.loads k j v
@[simp] theorem applyUpd_imgEntry (s : State) (k : Nat) (v : ImgEntry) (j : Nat) : (applyUpd (.imgEntry k v) s).imgEntry j = if j = k then v else s.imgEntry j :=
  tget_tset _ s.exh.imgs k j v
@[simp] theorem applyUpd_split (s : State) (k : Nat) (v : SplitSt) (j : Nat) : (applyUpd (.split k v) s).split j = if j = k then v else s.split j :=
  tget_tset _ s.exh.splits k j v
@[simp] theorem applyUpd_imgStamp (s : State) (v : Nat) : (applyUpd (.imgStamp v) s).imgStamp = v := rfl
@[simp] theorem applyUpd_wdogWait (s : State) (k : Nat) (v : Nat) (j : Nat) : (applyUpd (.wdogWait k v) s).wdogWait j = if j = k then v else s.wdogWait j :=
  tget_tset _ s.exh.wdogWait k j v
@[simp] theorem applyUpd_doc (s : State) (k : Nat) (v : DocState) (j : Nat) : (applyUpd (.doc k v) s).doc j = if j = k then v else s.doc j :=
  tget_tset _ s.mov.docs k j v
@[simp] theorem applyUpd_iq (s : State) (k : Nat) (v : Iq) (j : Nat) : (applyUpd (.iq k v) s).iq j = if j = k then v else s.iq j :=
  tget_tset _ s.mov.iqs k j v
@[simp] theorem applyUpd_move (s : State) (k : Nat) (v : Option Move) (j : Nat) : (applyUpd (.move k v) s).move j = if j = k then v else s.move j :=
  tget_tset _ s.mov.moves k j v
@[simp] theorem applyUpd_nextMove (s : State) (v : Nat) : (applyUpd (.nextMove v) s).nextMove = v := rfl
@[simp] theorem applyUpd_allocs (s : State) (v : List Alloc) : (applyUpd (.allocs v) s).allocs = v := rfl
@[simp] theorem applyUpd_calMiss (s : State) (k : Nat) (v : Nat) (j : Nat) : (applyUpd (.calMiss k v) s).calMiss j = if j = k then v else s.calMiss j :=
  tget_tset _ s.mov.calMiss k j v
@[simp] theorem applyUpd_arbiter (s : State) (k : Nat) (v : Arb) (j : Nat) : (applyUpd (.arbiter k v) s).arbiter j = if j = k then v else s.arbiter j :=
  tget_tset _ s.arb.arbs k j v
@[simp] theorem applyUpd_arbReq (s : State) (k : Nat) (v : ArbReq) (j : Nat) : (applyUpd (.arbReq k v) s).arbReq j = if j = k then v else s.arbReq j :=
  tget_tset _ s.arb.reqs k j v
@[simp] theorem applyUpd_srvSt (s : State) (v : UnitState) : (applyUpd (.srvSt v) s).srvSt = v := rfl
@[simp] theorem applyUpd_req (s : State) (k : Nat) (v : Req) (j : Nat) : (applyUpd (.req k v) s).req j = if j = k then v else s.req j :=
  tget_tset _ s.srv.reqs k j v
@[simp] theorem applyUpd_pfx (s : State) (k : Nat) (v : Pfx) (j : Nat) : (applyUpd (.pfx k v) s).pfx j = if j = k then v else s.pfx j :=
  tget_tset _ s.srv.pfxs k j v
@[simp] theorem applyUpd_srvStep (s : State) (k : Nat) (v : Option SrvStep) (j : Nat) : (applyUpd (.srvStep k v) s).srvStep j = if j = k then v else s.srvStep j :=
  tget_tset _ s.srv.steps k j v
@[simp] theorem applyUpd_svcPins (s : State) (k : Nat) (v : List Nat) (j : Nat) : (applyUpd (.svcPins k v) s).svcPins j = if j = k then v else s.svcPins j :=
  tget_tset _ s.srv.pins k j v
@[simp] theorem applyUpd_reqStamp (s : State) (v : Nat) : (applyUpd (.reqStamp v) s).reqStamp = v := rfl
@[simp] theorem applyUpd_smp (s : State) (k : Nat) (v : Smp) (j : Nat) : (applyUpd (.smp k v) s).smp j = if j = k then v else s.smp j :=
  tget_tset _ s.srv.smps k j v
@[simp] theorem applyUpd_pair (s : State) (k : Nat) (v : Pair) (j : Nat) : (applyUpd (.pair k v) s).pair j = if j = k then v else s.pair j :=
  tget_tset _ s.que.pairs k j v
@[simp] theorem applyUpd_intake (s : State) (k : Nat) (v : List Intake) (j : Nat) : (applyUpd (.intake k v) s).intake j = if j = k then v else s.intake j :=
  tget_tset _ s.que.intakes k j v
@[simp] theorem applyUpd_cmd (s : State) (k : Nat) (v : Option Cmd) (j : Nat) : (applyUpd (.cmd k v) s).cmd j = if j = k then v else s.cmd j :=
  tget_tset _ s.que.cmds k j v
@[simp] theorem applyUpd_nextCmd (s : State) (v : Nat) : (applyUpd (.nextCmd v) s).nextCmd = v := rfl
@[simp] theorem applyUpd_scanner (s : State) (v : UnitState) : (applyUpd (.scanner v) s).scanner = v := rfl
@[simp] theorem applyUpd_rotStart (s : State) (v : Nat) : (applyUpd (.rotStart v) s).rotStart = v := rfl
@[simp] theorem applyUpd_rotLast (s : State) (v : Nat) : (applyUpd (.rotLast v) s).rotLast = v := rfl
@[simp] theorem applyUpd_ucieUp (s : State) (v : Nat) : (applyUpd (.ucieUp v) s).ucieUp = v := rfl
@[simp] theorem applyUpd_ucieRep (s : State) (v : Nat) : (applyUpd (.ucieRep v) s).ucieRep = v := rfl
@[simp] theorem applyUpd_ucieOn (s : State) (v : Bool) : (applyUpd (.ucieOn v) s).ucieOn = v := rfl
@[simp] theorem applyUpd_tenant (s : State) (k : Nat) (v : Tenant) (j : Nat) : (applyUpd (.tenant k v) s).tenant j = if j = k then v else s.tenant j :=
  tget_tset _ s.ten.tenants k j v
@[simp] theorem applyUpd_engFrac (s : State) (k : Nat) (v : Nat) (j : Nat) : (applyUpd (.engFrac k v) s).engFrac j = if j = k then v else s.engFrac j :=
  tget_tset _ s.ten.engFrac k j v
@[simp] theorem applyUpd_slice (s : State) (k : Nat) (v : SliceSet) (j : Nat) : (applyUpd (.slice k v) s).slice j = if j = k then v else s.slice j :=
  tget_tset _ s.ten.slices k j v
@[simp] theorem applyUpd_scanWord (s : State) (k : Nat) (v : Word) (j : Nat) : (applyUpd (.scanWord k v) s).scanWord j = if j = k then v else s.scanWord j :=
  tget_tset _ s.ten.scanStore k j v
@[simp] theorem applyUpd_scanBay (s : State) (v : Option Nat) : (applyUpd (.scanBay v) s).scanBay = v := rfl
@[simp] theorem applyUpd_scanDir (s : State) (v : Nat) : (applyUpd (.scanDir v) s).scanDir = v := rfl
@[simp] theorem applyUpd_scanWant (s : State) (v : List Nat) : (applyUpd (.scanWant v) s).scanWant = v := rfl
@[simp] theorem applyUpd_haltCause (s : State) (v : Nat) : (applyUpd (.haltCause v) s).haltCause = v := rfl
@[simp] theorem applyUpd_holdOn (s : State) (v : Bool) : (applyUpd (.holdOn v) s).holdOn = v := rfl
@[simp] theorem applyUpd_chk (s : State) (k : Nat) (v : Chk) (j : Nat) : (applyUpd (.chk k v) s).chk j = if j = k then v else s.chk j :=
  tget_tset _ s.int.chks k j v
@[simp] theorem applyUpd_logWr (s : State) (v : Nat) : (applyUpd (.logWr v) s).logWr = v := rfl
@[simp] theorem applyUpd_logLost (s : State) (v : Nat) : (applyUpd (.logLost v) s).logLost = v := rfl
@[simp] theorem applyUpd_logIntake (s : State) (v : List Incident) : (applyUpd (.logIntake v) s).logIntake = v := rfl
@[simp] theorem applyUpd_logSlot (s : State) (k : Nat) (v : Option Incident) (j : Nat) : (applyUpd (.logSlot k v) s).logSlot j = if j = k then v else s.logSlot j :=
  tget_tset _ s.log.slots k j v
@[simp] theorem applyUpd_logLatch (s : State) (v : Option Incident) : (applyUpd (.logLatch v) s).logLatch = v := rfl
@[simp] theorem applyUpd_ibiHold (s : State) (v : Bool) : (applyUpd (.ibiHold v) s).ibiHold = v := rfl
@[simp] theorem applyUpd_ibiWait (s : State) (v : Option Nat) : (applyUpd (.ibiWait v) s).ibiWait = v := rfl
@[simp] theorem applyUpd_census (s : State) (k : Nat) (v : Census) (j : Nat) : (applyUpd (.census k v) s).census j = if j = k then v else s.census j :=
  tget_tset _ s.mon.census k j v
@[simp] theorem applyUpd_viewVal (s : State) (k : Nat) (v : Nat) (j : Nat) : (applyUpd (.viewVal k v) s).viewVal j = if j = k then v else s.viewVal j :=
  tget_tset _ s.mon.view k j v
@[simp] theorem applyUpd_viewAt (s : State) (v : Nat) : (applyUpd (.viewAt v) s).viewAt = v := rfl
@[simp] theorem applyUpd_viewStale (s : State) (v : Bool) : (applyUpd (.viewStale v) s).viewStale = v := rfl
@[simp] theorem applyUpd_effecter (s : State) (k : Nat) (v : Option Eff) (j : Nat) : (applyUpd (.effecter k v) s).effecter j = if j = k then v else s.effecter j :=
  tget_tset _ s.mon.effs k j v
@[simp] theorem applyUpd_tid (s : State) (v : Nat) : (applyUpd (.tid v) s).tid = v := rfl
@[simp] theorem applyUpd_mwl (s : State) (v : Nat) : (applyUpd (.mwl v) s).mwl = v := rfl
@[simp] theorem applyUpd_mrl (s : State) (v : Nat) : (applyUpd (.mrl v) s).mrl = v := rfl
@[simp] theorem applyUpd_cdRead (s : State) (v : List Byte) : (applyUpd (.cdRead v) s).cdRead = v := rfl
@[simp] theorem applyUpd_cdPoison (s : State) (v : Bool) : (applyUpd (.cdPoison v) s).cdPoison = v := rfl
@[simp] theorem applyUpd_resp (s : State) (v : SbResp) : (applyUpd (.resp v) s).resp = v := rfl
@[simp] theorem applyUpd_ibis (s : State) (v : List Nat) : (applyUpd (.ibis v) s).ibis = v := rfl
@[simp] theorem applyUpd_sentFlits (s : State) (k : Nat) (v : List Flit) (j : Nat) : (applyUpd (.sentFlits k v) s).sentFlits j = if j = k then v else s.sentFlits j :=
  tget_tset _ s.out.flits k j v
@[simp] theorem applyUpd_thermAlert (s : State) (v : Bool) : (applyUpd (.thermAlert v) s).thermAlert = v := rfl
@[simp] theorem applyUpd_nwSt (s : State) (v : NwState) : (applyUpd (.nwSt v) s).nwSt = v := rfl
@[simp] theorem applyUpd_pinBrake (s : State) (v : Bool) : (applyUpd (.pinBrake v) s).pinBrake = v := rfl
@[simp] theorem applyUpd_capOver (s : State) (v : Nat) : (applyUpd (.capOver v) s).capOver = v := rfl
@[simp] theorem applyUpd_capUnder (s : State) (v : Bool) : (applyUpd (.capUnder v) s).capUnder = v := rfl
@[simp] theorem applyUpd_temp (s : State) (k : Nat) (v : Option Nat) (j : Nat) : (applyUpd (.temp k v) s).temp j = if j = k then v else s.temp j :=
  tget_tset _ s.pwr.temps k j v
@[simp] theorem applyUpd_hotSince (s : State) (k : Nat) (v : Option Nat) (j : Nat) : (applyUpd (.hotSince k v) s).hotSince j = if j = k then v else s.hotSince j :=
  tget_tset _ s.pwr.hotAt k j v
@[simp] theorem applyUpd_thermAt (s : State) (k : Nat) (v : Option Nat) (j : Nat) : (applyUpd (.thermAt k v) s).thermAt j = if j = k then v else s.thermAt j :=
  tget_tset _ s.pwr.thermAt k j v
@[simp] theorem applyUpd_bootPhase (s : State) (v : BootPhase) : (applyUpd (.bootPhase v) s).bootPhase = v := rfl
@[simp] theorem applyUpd_bootCause (s : State) (v : Nat) : (applyUpd (.bootCause v) s).bootCause = v := rfl
@[simp] theorem applyUpd_startObs (s : State) (v : Option StartObs) : (applyUpd (.startObs v) s).startObs = v := rfl
@[simp] theorem applyUpd_flashAt (s : State) (k : Nat) (v : Option Byte) (j : Nat) : (applyUpd (.flashAt k v) s).flashAt j = if j = k then v else s.flashAt j :=
  tget_tset _ s.boot.flash k j v
@[simp] theorem applyUpd_journal (s : State) (v : Journal) : (applyUpd (.journal v) s).journal = v := rfl
@[simp] theorem applyUpd_jrnNext (s : State) (v : Nat) : (applyUpd (.jrnNext v) s).jrnNext = v := rfl
@[simp] theorem applyUpd_cfgSeq (s : State) (v : Nat) : (applyUpd (.cfgSeq v) s).cfgSeq = v := rfl
@[simp] theorem applyUpd_cfgCopy (s : State) (v : Nat) : (applyUpd (.cfgCopy v) s).cfgCopy = v := rfl
@[simp] theorem applyUpd_cfgHash (s : State) (v : List Byte) : (applyUpd (.cfgHash v) s).cfgHash = v := rfl
@[simp] theorem applyUpd_updSt (s : State) (v : UpdState) : (applyUpd (.updSt v) s).updSt = v := rfl
@[simp] theorem applyUpd_updBegun (s : State) (v : Bool) : (applyUpd (.updBegun v) s).updBegun = v := rfl
@[simp] theorem applyUpd_updManifest (s : State) (v : Nat) : (applyUpd (.updManifest v) s).updManifest = v := rfl
@[simp] theorem applyUpd_heldRows (s : State) (v : List Instr) : (applyUpd (.heldRows v) s).heldRows = v := rfl
@[simp] theorem applyUpd_updGoAt (s : State) (v : Nat) : (applyUpd (.updGoAt v) s).updGoAt = v := rfl
@[simp] theorem applyUpd_port (s : State) (k : Nat) (v : Port) (j : Nat) : (applyUpd (.port k v) s).port j = if j = k then v else s.port j :=
  tget_tset _ s.lnk.ports k j v
@[simp] theorem applyUpd_lnkQ (s : State) (k : Nat) (v : List Fwd) (j : Nat) : (applyUpd (.lnkQ k v) s).lnkQ j = if j = k then v else s.lnkQ j :=
  tget_tset _ s.lnk.queues k j v
@[simp] theorem applyUpd_pausedBundles (s : State) (v : Nat) : (applyUpd (.pausedBundles v) s).pausedBundles = v := rfl
@[simp] theorem applyUpd_stream (s : State) (k : Nat) (v : Stream) (j : Nat) : (applyUpd (.stream k v) s).stream j = if j = k then v else s.stream j :=
  tget_tset _ s.lnk.streams k j v
@[simp] theorem applyUpd_localFlits (s : State) (v : List (List Byte)) : (applyUpd (.localFlits v) s).localFlits = v := rfl
@[simp] theorem applyUpd_localLost (s : State) (v : List (Nat × Nat × Nat)) : (applyUpd (.localLost v) s).localLost = v := rfl
@[simp] theorem applyUpd_live (s : State) (v : LiveTop) : (applyUpd (.live v) s).live = v := rfl
@[simp] theorem applyUpd_timeLocked (s : State) (v : Bool) : (applyUpd (.timeLocked v) s).timeLocked = v := rfl
@[simp] theorem applyUpd_holdover (s : State) (v : Bool) : (applyUpd (.holdover v) s).holdover = v := rfl
@[simp] theorem applyUpd_ppsAt (s : State) (v : Option Nat) : (applyUpd (.ppsAt v) s).ppsAt = v := rfl
@[simp] theorem applyUpd_timeParent (s : State) (v : Nat) : (applyUpd (.timeParent v) s).timeParent = v := rfl
@[simp] theorem applyUpd_timeOffset (s : State) (v : Int) : (applyUpd (.timeOffset v) s).timeOffset = v := rfl
@[simp] theorem applyUpd_timeGood (s : State) (v : Bool) : (applyUpd (.timeGood v) s).timeGood = v := rfl
@[simp] theorem applyUpd_slewLeft (s : State) (v : Int) : (applyUpd (.slewLeft v) s).slewLeft = v := rfl
@[simp] theorem applyUpd_slewFrac (s : State) (v : Nat) : (applyUpd (.slewFrac v) s).slewFrac = v := rfl
@[simp] theorem applyUpd_timeBehind (s : State) (v : Nat) : (applyUpd (.timeBehind v) s).timeBehind = v := rfl
@[simp] theorem applyUpd_timeFrac (s : State) (v : Nat) : (applyUpd (.timeFrac v) s).timeFrac = v := rfl
@[simp] theorem applyUpd_ident (s : State) (v : Nat) : (applyUpd (.ident v) s).ident = v := rfl
@[simp] theorem applyUpd_cred (s : State) (k : Nat) (v : Cred) (j : Nat) : (applyUpd (.cred k v) s).cred j = if j = k then v else s.cred j :=
  tget_tset _ s.sec.creds k j v
@[simp] theorem applyUpd_treeHeld (s : State) (v : Bool) : (applyUpd (.treeHeld v) s).treeHeld = v := rfl
@[simp] theorem applyUpd_idxTried (s : State) (v : List Nat) : (applyUpd (.idxTried v) s).idxTried = v := rfl
@[simp] theorem applyUpd_attQ (s : State) (v : List AttReq) : (applyUpd (.attQ v) s).attQ = v := rfl
@[simp] theorem applyUpd_attBuf (s : State) (v : List Byte) : (applyUpd (.attBuf v) s).attBuf = v := rfl
@[simp] theorem applyUpd_attBufSt (s : State) (v : AttState) : (applyUpd (.attBufSt v) s).attBufSt = v := rfl
@[simp] theorem applyUpd_reqLatch (s : State) (v : Option (Nat × List Byte)) : (applyUpd (.reqLatch v) s).reqLatch = v := rfl
@[simp] theorem applyUpd_pfxLatch (s : State) (v : Option (Nat × List Byte)) : (applyUpd (.pfxLatch v) s).pfxLatch = v := rfl

@[simp] theorem applyUpd_variant (u : Upd) (s : State) : (applyUpd u s).variant = s.variant := by cases u <;> rfl
@[simp] theorem applyUpd_pending (u : Upd) (s : State) : (applyUpd u s).pending = s.pending := by cases u <;> rfl


theorem FabPart.same_refl (s : Fab) (p : FabPart) : p.same s s := by cases p <;> rfl

theorem CellPart.same_refl (s : Cells) (p : CellPart) : p.same s s := by cases p <;> rfl

theorem ExhPart.same_refl (s : Exh) (p : ExhPart) : p.same s s := by cases p <;> rfl

theorem MovPart.same_refl (s : Mov) (p : MovPart) : p.same s s := by cases p <;> rfl

theorem ArbPart.same_refl (s : Arbs) (p : ArbPart) : p.same s s := by cases p <;> rfl

theorem SrvPart.same_refl (s : Srv) (p : SrvPart) : p.same s s := by cases p <;> rfl

theorem QuePart.same_refl (s : Que) (p : QuePart) : p.same s s := by cases p <;> rfl

theorem TenPart.same_refl (s : Tens) (p : TenPart) : p.same s s := by cases p <;> rfl

theorem IntPart.same_refl (s : Integ) (p : IntPart) : p.same s s := by cases p <;> rfl

theorem LogPart.same_refl (s : Log) (p : LogPart) : p.same s s := by cases p <;> rfl

theorem MonPart.same_refl (s : Mon) (p : MonPart) : p.same s s := by cases p <;> rfl

theorem OutPart.same_refl (s : Out) (p : OutPart) : p.same s s := by cases p <;> rfl

theorem PwrPart.same_refl (s : Pwr) (p : PwrPart) : p.same s s := by cases p <;> rfl

theorem BootPart.same_refl (s : Boot) (p : BootPart) : p.same s s := by cases p <;> rfl

theorem UpdPart.same_refl (s : UpdS) (p : UpdPart) : p.same s s := by cases p <;> rfl

theorem LnkPart.same_refl (s : Lnk) (p : LnkPart) : p.same s s := by cases p <;> rfl

theorem TopPart.same_refl (s : Top) (p : TopPart) : p.same s s := by cases p <;> rfl

theorem SecPart.same_refl (s : Sec) (p : SecPart) : p.same s s := by cases p <;> rfl

theorem WinPart.same_refl (s : Win) (p : WinPart) : p.same s s := by cases p <;> rfl

theorem Fld.same_refl (s : State) (f : Fld) : f.same s s := by
  cases f
  case now => rfl
  case mem => rfl
  case poison => rfl
  case fresh => rfl
  case fab p => exact p.same_refl s.fab
  case cell p => exact p.same_refl s.cell
  case exh p => exact p.same_refl s.exh
  case mov p => exact p.same_refl s.mov
  case arb p => exact p.same_refl s.arb
  case srv p => exact p.same_refl s.srv
  case que p => exact p.same_refl s.que
  case ten p => exact p.same_refl s.ten
  case int p => exact p.same_refl s.int
  case log p => exact p.same_refl s.log
  case mon p => exact p.same_refl s.mon
  case out p => exact p.same_refl s.out
  case pwr p => exact p.same_refl s.pwr
  case boot p => exact p.same_refl s.boot
  case upd p => exact p.same_refl s.upd
  case lnk p => exact p.same_refl s.lnk
  case top p => exact p.same_refl s.top
  case sec p => exact p.same_refl s.sec
  case win p => exact p.same_refl s.win

theorem same_set_now (s t : State) (f : Fld) (h : f ≠ .now) (e : t = { s with now := t.now }) : f.same s t := by
  rw [e]; cases f
  case now => exact absurd rfl h
  case mem => rfl
  case poison => rfl
  case fresh => rfl
  case fab p => exact p.same_refl s.fab
  case cell p => exact p.same_refl s.cell
  case exh p => exact p.same_refl s.exh
  case mov p => exact p.same_refl s.mov
  case arb p => exact p.same_refl s.arb
  case srv p => exact p.same_refl s.srv
  case que p => exact p.same_refl s.que
  case ten p => exact p.same_refl s.ten
  case int p => exact p.same_refl s.int
  case log p => exact p.same_refl s.log
  case mon p => exact p.same_refl s.mon
  case out p => exact p.same_refl s.out
  case pwr p => exact p.same_refl s.pwr
  case boot p => exact p.same_refl s.boot
  case upd p => exact p.same_refl s.upd
  case lnk p => exact p.same_refl s.lnk
  case top p => exact p.same_refl s.top
  case sec p => exact p.same_refl s.sec
  case win p => exact p.same_refl s.win

theorem same_set_mem (s t : State) (f : Fld) (h : f ≠ .mem) (e : t = { s with mem := t.mem }) : f.same s t := by
  rw [e]; cases f
  case now => rfl
  case mem => exact absurd rfl h
  case poison => rfl
  case fresh => rfl
  case fab p => exact p.same_refl s.fab
  case cell p => exact p.same_refl s.cell
  case exh p => exact p.same_refl s.exh
  case mov p => exact p.same_refl s.mov
  case arb p => exact p.same_refl s.arb
  case srv p => exact p.same_refl s.srv
  case que p => exact p.same_refl s.que
  case ten p => exact p.same_refl s.ten
  case int p => exact p.same_refl s.int
  case log p => exact p.same_refl s.log
  case mon p => exact p.same_refl s.mon
  case out p => exact p.same_refl s.out
  case pwr p => exact p.same_refl s.pwr
  case boot p => exact p.same_refl s.boot
  case upd p => exact p.same_refl s.upd
  case lnk p => exact p.same_refl s.lnk
  case top p => exact p.same_refl s.top
  case sec p => exact p.same_refl s.sec
  case win p => exact p.same_refl s.win

theorem same_set_poison (s t : State) (f : Fld) (h : f ≠ .poison) (e : t = { s with poison := t.poison }) : f.same s t := by
  rw [e]; cases f
  case now => rfl
  case mem => rfl
  case poison => exact absurd rfl h
  case fresh => rfl
  case fab p => exact p.same_refl s.fab
  case cell p => exact p.same_refl s.cell
  case exh p => exact p.same_refl s.exh
  case mov p => exact p.same_refl s.mov
  case arb p => exact p.same_refl s.arb
  case srv p => exact p.same_refl s.srv
  case que p => exact p.same_refl s.que
  case ten p => exact p.same_refl s.ten
  case int p => exact p.same_refl s.int
  case log p => exact p.same_refl s.log
  case mon p => exact p.same_refl s.mon
  case out p => exact p.same_refl s.out
  case pwr p => exact p.same_refl s.pwr
  case boot p => exact p.same_refl s.boot
  case upd p => exact p.same_refl s.upd
  case lnk p => exact p.same_refl s.lnk
  case top p => exact p.same_refl s.top
  case sec p => exact p.same_refl s.sec
  case win p => exact p.same_refl s.win

theorem same_set_fresh (s t : State) (f : Fld) (h : f ≠ .fresh) (e : t = { s with fresh := t.fresh }) : f.same s t := by
  rw [e]; cases f
  case now => rfl
  case mem => rfl
  case poison => rfl
  case fresh => exact absurd rfl h
  case fab p => exact p.same_refl s.fab
  case cell p => exact p.same_refl s.cell
  case exh p => exact p.same_refl s.exh
  case mov p => exact p.same_refl s.mov
  case arb p => exact p.same_refl s.arb
  case srv p => exact p.same_refl s.srv
  case que p => exact p.same_refl s.que
  case ten p => exact p.same_refl s.ten
  case int p => exact p.same_refl s.int
  case log p => exact p.same_refl s.log
  case mon p => exact p.same_refl s.mon
  case out p => exact p.same_refl s.out
  case pwr p => exact p.same_refl s.pwr
  case boot p => exact p.same_refl s.boot
  case upd p => exact p.same_refl s.upd
  case lnk p => exact p.same_refl s.lnk
  case top p => exact p.same_refl s.top
  case sec p => exact p.same_refl s.sec
  case win p => exact p.same_refl s.win

theorem same_set_fab (s : State) (x : Fab) (f : Fld) (h : ∀ p, f = .fab p → p.same s.fab x) :
    f.same s { s with fab := x } := by
  cases f
  case now => rfl
  case mem => rfl
  case poison => rfl
  case fresh => rfl
  case fab p => exact h p rfl
  case cell p => exact p.same_refl s.cell
  case exh p => exact p.same_refl s.exh
  case mov p => exact p.same_refl s.mov
  case arb p => exact p.same_refl s.arb
  case srv p => exact p.same_refl s.srv
  case que p => exact p.same_refl s.que
  case ten p => exact p.same_refl s.ten
  case int p => exact p.same_refl s.int
  case log p => exact p.same_refl s.log
  case mon p => exact p.same_refl s.mon
  case out p => exact p.same_refl s.out
  case pwr p => exact p.same_refl s.pwr
  case boot p => exact p.same_refl s.boot
  case upd p => exact p.same_refl s.upd
  case lnk p => exact p.same_refl s.lnk
  case top p => exact p.same_refl s.top
  case sec p => exact p.same_refl s.sec
  case win p => exact p.same_refl s.win

theorem same_set_cell (s : State) (x : Cells) (f : Fld) (h : ∀ p, f = .cell p → p.same s.cell x) :
    f.same s { s with cell := x } := by
  cases f
  case now => rfl
  case mem => rfl
  case poison => rfl
  case fresh => rfl
  case fab p => exact p.same_refl s.fab
  case cell p => exact h p rfl
  case exh p => exact p.same_refl s.exh
  case mov p => exact p.same_refl s.mov
  case arb p => exact p.same_refl s.arb
  case srv p => exact p.same_refl s.srv
  case que p => exact p.same_refl s.que
  case ten p => exact p.same_refl s.ten
  case int p => exact p.same_refl s.int
  case log p => exact p.same_refl s.log
  case mon p => exact p.same_refl s.mon
  case out p => exact p.same_refl s.out
  case pwr p => exact p.same_refl s.pwr
  case boot p => exact p.same_refl s.boot
  case upd p => exact p.same_refl s.upd
  case lnk p => exact p.same_refl s.lnk
  case top p => exact p.same_refl s.top
  case sec p => exact p.same_refl s.sec
  case win p => exact p.same_refl s.win

theorem same_set_exh (s : State) (x : Exh) (f : Fld) (h : ∀ p, f = .exh p → p.same s.exh x) :
    f.same s { s with exh := x } := by
  cases f
  case now => rfl
  case mem => rfl
  case poison => rfl
  case fresh => rfl
  case fab p => exact p.same_refl s.fab
  case cell p => exact p.same_refl s.cell
  case exh p => exact h p rfl
  case mov p => exact p.same_refl s.mov
  case arb p => exact p.same_refl s.arb
  case srv p => exact p.same_refl s.srv
  case que p => exact p.same_refl s.que
  case ten p => exact p.same_refl s.ten
  case int p => exact p.same_refl s.int
  case log p => exact p.same_refl s.log
  case mon p => exact p.same_refl s.mon
  case out p => exact p.same_refl s.out
  case pwr p => exact p.same_refl s.pwr
  case boot p => exact p.same_refl s.boot
  case upd p => exact p.same_refl s.upd
  case lnk p => exact p.same_refl s.lnk
  case top p => exact p.same_refl s.top
  case sec p => exact p.same_refl s.sec
  case win p => exact p.same_refl s.win

theorem same_set_mov (s : State) (x : Mov) (f : Fld) (h : ∀ p, f = .mov p → p.same s.mov x) :
    f.same s { s with mov := x } := by
  cases f
  case now => rfl
  case mem => rfl
  case poison => rfl
  case fresh => rfl
  case fab p => exact p.same_refl s.fab
  case cell p => exact p.same_refl s.cell
  case exh p => exact p.same_refl s.exh
  case mov p => exact h p rfl
  case arb p => exact p.same_refl s.arb
  case srv p => exact p.same_refl s.srv
  case que p => exact p.same_refl s.que
  case ten p => exact p.same_refl s.ten
  case int p => exact p.same_refl s.int
  case log p => exact p.same_refl s.log
  case mon p => exact p.same_refl s.mon
  case out p => exact p.same_refl s.out
  case pwr p => exact p.same_refl s.pwr
  case boot p => exact p.same_refl s.boot
  case upd p => exact p.same_refl s.upd
  case lnk p => exact p.same_refl s.lnk
  case top p => exact p.same_refl s.top
  case sec p => exact p.same_refl s.sec
  case win p => exact p.same_refl s.win

theorem same_set_arb (s : State) (x : Arbs) (f : Fld) (h : ∀ p, f = .arb p → p.same s.arb x) :
    f.same s { s with arb := x } := by
  cases f
  case now => rfl
  case mem => rfl
  case poison => rfl
  case fresh => rfl
  case fab p => exact p.same_refl s.fab
  case cell p => exact p.same_refl s.cell
  case exh p => exact p.same_refl s.exh
  case mov p => exact p.same_refl s.mov
  case arb p => exact h p rfl
  case srv p => exact p.same_refl s.srv
  case que p => exact p.same_refl s.que
  case ten p => exact p.same_refl s.ten
  case int p => exact p.same_refl s.int
  case log p => exact p.same_refl s.log
  case mon p => exact p.same_refl s.mon
  case out p => exact p.same_refl s.out
  case pwr p => exact p.same_refl s.pwr
  case boot p => exact p.same_refl s.boot
  case upd p => exact p.same_refl s.upd
  case lnk p => exact p.same_refl s.lnk
  case top p => exact p.same_refl s.top
  case sec p => exact p.same_refl s.sec
  case win p => exact p.same_refl s.win

theorem same_set_srv (s : State) (x : Srv) (f : Fld) (h : ∀ p, f = .srv p → p.same s.srv x) :
    f.same s { s with srv := x } := by
  cases f
  case now => rfl
  case mem => rfl
  case poison => rfl
  case fresh => rfl
  case fab p => exact p.same_refl s.fab
  case cell p => exact p.same_refl s.cell
  case exh p => exact p.same_refl s.exh
  case mov p => exact p.same_refl s.mov
  case arb p => exact p.same_refl s.arb
  case srv p => exact h p rfl
  case que p => exact p.same_refl s.que
  case ten p => exact p.same_refl s.ten
  case int p => exact p.same_refl s.int
  case log p => exact p.same_refl s.log
  case mon p => exact p.same_refl s.mon
  case out p => exact p.same_refl s.out
  case pwr p => exact p.same_refl s.pwr
  case boot p => exact p.same_refl s.boot
  case upd p => exact p.same_refl s.upd
  case lnk p => exact p.same_refl s.lnk
  case top p => exact p.same_refl s.top
  case sec p => exact p.same_refl s.sec
  case win p => exact p.same_refl s.win

theorem same_set_que (s : State) (x : Que) (f : Fld) (h : ∀ p, f = .que p → p.same s.que x) :
    f.same s { s with que := x } := by
  cases f
  case now => rfl
  case mem => rfl
  case poison => rfl
  case fresh => rfl
  case fab p => exact p.same_refl s.fab
  case cell p => exact p.same_refl s.cell
  case exh p => exact p.same_refl s.exh
  case mov p => exact p.same_refl s.mov
  case arb p => exact p.same_refl s.arb
  case srv p => exact p.same_refl s.srv
  case que p => exact h p rfl
  case ten p => exact p.same_refl s.ten
  case int p => exact p.same_refl s.int
  case log p => exact p.same_refl s.log
  case mon p => exact p.same_refl s.mon
  case out p => exact p.same_refl s.out
  case pwr p => exact p.same_refl s.pwr
  case boot p => exact p.same_refl s.boot
  case upd p => exact p.same_refl s.upd
  case lnk p => exact p.same_refl s.lnk
  case top p => exact p.same_refl s.top
  case sec p => exact p.same_refl s.sec
  case win p => exact p.same_refl s.win

theorem same_set_ten (s : State) (x : Tens) (f : Fld) (h : ∀ p, f = .ten p → p.same s.ten x) :
    f.same s { s with ten := x } := by
  cases f
  case now => rfl
  case mem => rfl
  case poison => rfl
  case fresh => rfl
  case fab p => exact p.same_refl s.fab
  case cell p => exact p.same_refl s.cell
  case exh p => exact p.same_refl s.exh
  case mov p => exact p.same_refl s.mov
  case arb p => exact p.same_refl s.arb
  case srv p => exact p.same_refl s.srv
  case que p => exact p.same_refl s.que
  case ten p => exact h p rfl
  case int p => exact p.same_refl s.int
  case log p => exact p.same_refl s.log
  case mon p => exact p.same_refl s.mon
  case out p => exact p.same_refl s.out
  case pwr p => exact p.same_refl s.pwr
  case boot p => exact p.same_refl s.boot
  case upd p => exact p.same_refl s.upd
  case lnk p => exact p.same_refl s.lnk
  case top p => exact p.same_refl s.top
  case sec p => exact p.same_refl s.sec
  case win p => exact p.same_refl s.win

theorem same_set_int (s : State) (x : Integ) (f : Fld) (h : ∀ p, f = .int p → p.same s.int x) :
    f.same s { s with int := x } := by
  cases f
  case now => rfl
  case mem => rfl
  case poison => rfl
  case fresh => rfl
  case fab p => exact p.same_refl s.fab
  case cell p => exact p.same_refl s.cell
  case exh p => exact p.same_refl s.exh
  case mov p => exact p.same_refl s.mov
  case arb p => exact p.same_refl s.arb
  case srv p => exact p.same_refl s.srv
  case que p => exact p.same_refl s.que
  case ten p => exact p.same_refl s.ten
  case int p => exact h p rfl
  case log p => exact p.same_refl s.log
  case mon p => exact p.same_refl s.mon
  case out p => exact p.same_refl s.out
  case pwr p => exact p.same_refl s.pwr
  case boot p => exact p.same_refl s.boot
  case upd p => exact p.same_refl s.upd
  case lnk p => exact p.same_refl s.lnk
  case top p => exact p.same_refl s.top
  case sec p => exact p.same_refl s.sec
  case win p => exact p.same_refl s.win

theorem same_set_log (s : State) (x : Log) (f : Fld) (h : ∀ p, f = .log p → p.same s.log x) :
    f.same s { s with log := x } := by
  cases f
  case now => rfl
  case mem => rfl
  case poison => rfl
  case fresh => rfl
  case fab p => exact p.same_refl s.fab
  case cell p => exact p.same_refl s.cell
  case exh p => exact p.same_refl s.exh
  case mov p => exact p.same_refl s.mov
  case arb p => exact p.same_refl s.arb
  case srv p => exact p.same_refl s.srv
  case que p => exact p.same_refl s.que
  case ten p => exact p.same_refl s.ten
  case int p => exact p.same_refl s.int
  case log p => exact h p rfl
  case mon p => exact p.same_refl s.mon
  case out p => exact p.same_refl s.out
  case pwr p => exact p.same_refl s.pwr
  case boot p => exact p.same_refl s.boot
  case upd p => exact p.same_refl s.upd
  case lnk p => exact p.same_refl s.lnk
  case top p => exact p.same_refl s.top
  case sec p => exact p.same_refl s.sec
  case win p => exact p.same_refl s.win

theorem same_set_mon (s : State) (x : Mon) (f : Fld) (h : ∀ p, f = .mon p → p.same s.mon x) :
    f.same s { s with mon := x } := by
  cases f
  case now => rfl
  case mem => rfl
  case poison => rfl
  case fresh => rfl
  case fab p => exact p.same_refl s.fab
  case cell p => exact p.same_refl s.cell
  case exh p => exact p.same_refl s.exh
  case mov p => exact p.same_refl s.mov
  case arb p => exact p.same_refl s.arb
  case srv p => exact p.same_refl s.srv
  case que p => exact p.same_refl s.que
  case ten p => exact p.same_refl s.ten
  case int p => exact p.same_refl s.int
  case log p => exact p.same_refl s.log
  case mon p => exact h p rfl
  case out p => exact p.same_refl s.out
  case pwr p => exact p.same_refl s.pwr
  case boot p => exact p.same_refl s.boot
  case upd p => exact p.same_refl s.upd
  case lnk p => exact p.same_refl s.lnk
  case top p => exact p.same_refl s.top
  case sec p => exact p.same_refl s.sec
  case win p => exact p.same_refl s.win

theorem same_set_out (s : State) (x : Out) (f : Fld) (h : ∀ p, f = .out p → p.same s.out x) :
    f.same s { s with out := x } := by
  cases f
  case now => rfl
  case mem => rfl
  case poison => rfl
  case fresh => rfl
  case fab p => exact p.same_refl s.fab
  case cell p => exact p.same_refl s.cell
  case exh p => exact p.same_refl s.exh
  case mov p => exact p.same_refl s.mov
  case arb p => exact p.same_refl s.arb
  case srv p => exact p.same_refl s.srv
  case que p => exact p.same_refl s.que
  case ten p => exact p.same_refl s.ten
  case int p => exact p.same_refl s.int
  case log p => exact p.same_refl s.log
  case mon p => exact p.same_refl s.mon
  case out p => exact h p rfl
  case pwr p => exact p.same_refl s.pwr
  case boot p => exact p.same_refl s.boot
  case upd p => exact p.same_refl s.upd
  case lnk p => exact p.same_refl s.lnk
  case top p => exact p.same_refl s.top
  case sec p => exact p.same_refl s.sec
  case win p => exact p.same_refl s.win

theorem same_set_pwr (s : State) (x : Pwr) (f : Fld) (h : ∀ p, f = .pwr p → p.same s.pwr x) :
    f.same s { s with pwr := x } := by
  cases f
  case now => rfl
  case mem => rfl
  case poison => rfl
  case fresh => rfl
  case fab p => exact p.same_refl s.fab
  case cell p => exact p.same_refl s.cell
  case exh p => exact p.same_refl s.exh
  case mov p => exact p.same_refl s.mov
  case arb p => exact p.same_refl s.arb
  case srv p => exact p.same_refl s.srv
  case que p => exact p.same_refl s.que
  case ten p => exact p.same_refl s.ten
  case int p => exact p.same_refl s.int
  case log p => exact p.same_refl s.log
  case mon p => exact p.same_refl s.mon
  case out p => exact p.same_refl s.out
  case pwr p => exact h p rfl
  case boot p => exact p.same_refl s.boot
  case upd p => exact p.same_refl s.upd
  case lnk p => exact p.same_refl s.lnk
  case top p => exact p.same_refl s.top
  case sec p => exact p.same_refl s.sec
  case win p => exact p.same_refl s.win

theorem same_set_boot (s : State) (x : Boot) (f : Fld) (h : ∀ p, f = .boot p → p.same s.boot x) :
    f.same s { s with boot := x } := by
  cases f
  case now => rfl
  case mem => rfl
  case poison => rfl
  case fresh => rfl
  case fab p => exact p.same_refl s.fab
  case cell p => exact p.same_refl s.cell
  case exh p => exact p.same_refl s.exh
  case mov p => exact p.same_refl s.mov
  case arb p => exact p.same_refl s.arb
  case srv p => exact p.same_refl s.srv
  case que p => exact p.same_refl s.que
  case ten p => exact p.same_refl s.ten
  case int p => exact p.same_refl s.int
  case log p => exact p.same_refl s.log
  case mon p => exact p.same_refl s.mon
  case out p => exact p.same_refl s.out
  case pwr p => exact p.same_refl s.pwr
  case boot p => exact h p rfl
  case upd p => exact p.same_refl s.upd
  case lnk p => exact p.same_refl s.lnk
  case top p => exact p.same_refl s.top
  case sec p => exact p.same_refl s.sec
  case win p => exact p.same_refl s.win

theorem same_set_upd (s : State) (x : UpdS) (f : Fld) (h : ∀ p, f = .upd p → p.same s.upd x) :
    f.same s { s with upd := x } := by
  cases f
  case now => rfl
  case mem => rfl
  case poison => rfl
  case fresh => rfl
  case fab p => exact p.same_refl s.fab
  case cell p => exact p.same_refl s.cell
  case exh p => exact p.same_refl s.exh
  case mov p => exact p.same_refl s.mov
  case arb p => exact p.same_refl s.arb
  case srv p => exact p.same_refl s.srv
  case que p => exact p.same_refl s.que
  case ten p => exact p.same_refl s.ten
  case int p => exact p.same_refl s.int
  case log p => exact p.same_refl s.log
  case mon p => exact p.same_refl s.mon
  case out p => exact p.same_refl s.out
  case pwr p => exact p.same_refl s.pwr
  case boot p => exact p.same_refl s.boot
  case upd p => exact h p rfl
  case lnk p => exact p.same_refl s.lnk
  case top p => exact p.same_refl s.top
  case sec p => exact p.same_refl s.sec
  case win p => exact p.same_refl s.win

theorem same_set_lnk (s : State) (x : Lnk) (f : Fld) (h : ∀ p, f = .lnk p → p.same s.lnk x) :
    f.same s { s with lnk := x } := by
  cases f
  case now => rfl
  case mem => rfl
  case poison => rfl
  case fresh => rfl
  case fab p => exact p.same_refl s.fab
  case cell p => exact p.same_refl s.cell
  case exh p => exact p.same_refl s.exh
  case mov p => exact p.same_refl s.mov
  case arb p => exact p.same_refl s.arb
  case srv p => exact p.same_refl s.srv
  case que p => exact p.same_refl s.que
  case ten p => exact p.same_refl s.ten
  case int p => exact p.same_refl s.int
  case log p => exact p.same_refl s.log
  case mon p => exact p.same_refl s.mon
  case out p => exact p.same_refl s.out
  case pwr p => exact p.same_refl s.pwr
  case boot p => exact p.same_refl s.boot
  case upd p => exact p.same_refl s.upd
  case lnk p => exact h p rfl
  case top p => exact p.same_refl s.top
  case sec p => exact p.same_refl s.sec
  case win p => exact p.same_refl s.win

theorem same_set_top (s : State) (x : Top) (f : Fld) (h : ∀ p, f = .top p → p.same s.top x) :
    f.same s { s with top := x } := by
  cases f
  case now => rfl
  case mem => rfl
  case poison => rfl
  case fresh => rfl
  case fab p => exact p.same_refl s.fab
  case cell p => exact p.same_refl s.cell
  case exh p => exact p.same_refl s.exh
  case mov p => exact p.same_refl s.mov
  case arb p => exact p.same_refl s.arb
  case srv p => exact p.same_refl s.srv
  case que p => exact p.same_refl s.que
  case ten p => exact p.same_refl s.ten
  case int p => exact p.same_refl s.int
  case log p => exact p.same_refl s.log
  case mon p => exact p.same_refl s.mon
  case out p => exact p.same_refl s.out
  case pwr p => exact p.same_refl s.pwr
  case boot p => exact p.same_refl s.boot
  case upd p => exact p.same_refl s.upd
  case lnk p => exact p.same_refl s.lnk
  case top p => exact h p rfl
  case sec p => exact p.same_refl s.sec
  case win p => exact p.same_refl s.win

theorem same_set_sec (s : State) (x : Sec) (f : Fld) (h : ∀ p, f = .sec p → p.same s.sec x) :
    f.same s { s with sec := x } := by
  cases f
  case now => rfl
  case mem => rfl
  case poison => rfl
  case fresh => rfl
  case fab p => exact p.same_refl s.fab
  case cell p => exact p.same_refl s.cell
  case exh p => exact p.same_refl s.exh
  case mov p => exact p.same_refl s.mov
  case arb p => exact p.same_refl s.arb
  case srv p => exact p.same_refl s.srv
  case que p => exact p.same_refl s.que
  case ten p => exact p.same_refl s.ten
  case int p => exact p.same_refl s.int
  case log p => exact p.same_refl s.log
  case mon p => exact p.same_refl s.mon
  case out p => exact p.same_refl s.out
  case pwr p => exact p.same_refl s.pwr
  case boot p => exact p.same_refl s.boot
  case upd p => exact p.same_refl s.upd
  case lnk p => exact p.same_refl s.lnk
  case top p => exact p.same_refl s.top
  case sec p => exact h p rfl
  case win p => exact p.same_refl s.win

theorem same_set_win (s : State) (x : Win) (f : Fld) (h : ∀ p, f = .win p → p.same s.win x) :
    f.same s { s with win := x } := by
  cases f
  case now => rfl
  case mem => rfl
  case poison => rfl
  case fresh => rfl
  case fab p => exact p.same_refl s.fab
  case cell p => exact p.same_refl s.cell
  case exh p => exact p.same_refl s.exh
  case mov p => exact p.same_refl s.mov
  case arb p => exact p.same_refl s.arb
  case srv p => exact p.same_refl s.srv
  case que p => exact p.same_refl s.que
  case ten p => exact p.same_refl s.ten
  case int p => exact p.same_refl s.int
  case log p => exact p.same_refl s.log
  case mon p => exact p.same_refl s.mon
  case out p => exact p.same_refl s.out
  case pwr p => exact p.same_refl s.pwr
  case boot p => exact p.same_refl s.boot
  case upd p => exact p.same_refl s.upd
  case lnk p => exact p.same_refl s.lnk
  case top p => exact p.same_refl s.top
  case sec p => exact p.same_refl s.sec
  case win p => exact h p rfl

/-- A primitive change leaves every other part as it was. -/
theorem applyUpd_same (u : Upd) (s : State) (f : Fld) (hw : u ≠ .wipe) (h : u.fld ≠ some f) : f.same s (applyUpd u s) := by
  cases u
  case wipe => exact absurd rfl hw
  case now => exact same_set_now s _ f (fun e => h (by rw [e]; rfl)) rfl
  case byte => exact same_set_mem s _ f (fun e => h (by rw [e]; rfl)) rfl
  case bad => exact same_set_poison s _ f (fun e => h (by rw [e]; rfl)) rfl
  case fresh => exact same_set_fresh s _ f (fun e => h (by rw [e]; rfl)) rfl
  case reg => exact Fld.same_refl s f
  case bay => exact same_set_fab s _ f (fun p e => by subst e; cases p <;> first | rfl | exact absurd rfl h)
  case slot => exact same_set_fab s _ f (fun p e => by subst e; cases p <;> first | rfl | exact absurd rfl h)
  case newSlot => exact same_set_fab s _ f (fun p e => by subst e; cases p <;> first | rfl | exact absurd rfl h)
  case site => exact same_set_fab s _ f (fun p e => by subst e; cases p <;> first | rfl | exact absurd rfl h)
  case credit => exact same_set_fab s _ f (fun p e => by subst e; cases p <;> first | rfl | exact absurd rfl h)
  case creditFly => exact same_set_fab s _ f (fun p e => by subst e; cases p <;> first | rfl | exact absurd rfl h)
  case wire => exact same_set_fab s _ f (fun p e => by subst e; cases p <;> first | rfl | exact absurd rfl h)
  case lastGrant => exact same_set_fab s _ f (fun p e => by subst e; cases p <;> first | rfl | exact absurd rfl h)
  case island => exact same_set_fab s _ f (fun p e => by subst e; cases p <;> first | rfl | exact absurd rfl h)
  case acell => exact same_set_cell s _ f (fun p e => by subst e; cases p <;> first | rfl | exact absurd rfl h)
  case acc => exact same_set_cell s _ f (fun p e => by subst e; cases p <;> first | rfl | exact absurd rfl h)
  case run16At => exact same_set_cell s _ f (fun p e => by subst e; cases p <;> first | rfl | exact absurd rfl h)
  case lane => exact same_set_cell s _ f (fun p e => by subst e; cases p <;> first | rfl | exact absurd rfl h)
  case laneBad => exact same_set_cell s _ f (fun p e => by subst e; cases p <;> first | rfl | exact absurd rfl h)
  case arrived => exact same_set_cell s _ f (fun p e => by subst e; cases p <;> first | rfl | exact absurd rfl h)
  case got => exact same_set_cell s _ f (fun p e => by subst e; cases p <;> first | rfl | exact absurd rfl h)
  case cout => exact same_set_cell s _ f (fun p e => by subst e; cases p <;> first | rfl | exact absurd rfl h)
  case scell => exact same_set_cell s _ f (fun p e => by subst e; cases p <;> first | rfl | exact absurd rfl h)
  case line => exact same_set_cell s _ f (fun p e => by subst e; cases p <;> first | rfl | exact absurd rfl h)
  case load => exact same_set_exh s _ f (fun p e => by subst e; cases p <;> first | rfl | exact absurd rfl h)
  case imgEntry => exact same_set_exh s _ f (fun p e => by subst e; cases p <;> first | rfl | exact absurd rfl h)
  case split => exact same_set_exh s _ f (fun p e => by subst e; cases p <;> first | rfl | exact absurd rfl h)
  case imgStamp => exact same_set_exh s _ f (fun p e => by subst e; cases p <;> first | rfl | exact absurd rfl h)
  case wdogWait => exact same_set_exh s _ f (fun p e => by subst e; cases p <;> first | rfl | exact absurd rfl h)
  case doc => exact same_set_mov s _ f (fun p e => by subst e; cases p <;> first | rfl | exact absurd rfl h)
  case iq => exact same_set_mov s _ f (fun p e => by subst e; cases p <;> first | rfl | exact absurd rfl h)
  case move => exact same_set_mov s _ f (fun p e => by subst e; cases p <;> first | rfl | exact absurd rfl h)
  case nextMove => exact same_set_mov s _ f (fun p e => by subst e; cases p <;> first | rfl | exact absurd rfl h)
  case allocs => exact same_set_mov s _ f (fun p e => by subst e; cases p <;> first | rfl | exact absurd rfl h)
  case calMiss => exact same_set_mov s _ f (fun p e => by subst e; cases p <;> first | rfl | exact absurd rfl h)
  case arbiter => exact same_set_arb s _ f (fun p e => by subst e; cases p <;> first | rfl | exact absurd rfl h)
  case arbReq => exact same_set_arb s _ f (fun p e => by subst e; cases p <;> first | rfl | exact absurd rfl h)
  case srvSt => exact same_set_srv s _ f (fun p e => by subst e; cases p <;> first | rfl | exact absurd rfl h)
  case req => exact same_set_srv s _ f (fun p e => by subst e; cases p <;> first | rfl | exact absurd rfl h)
  case pfx => exact same_set_srv s _ f (fun p e => by subst e; cases p <;> first | rfl | exact absurd rfl h)
  case srvStep => exact same_set_srv s _ f (fun p e => by subst e; cases p <;> first | rfl | exact absurd rfl h)
  case svcPins => exact same_set_srv s _ f (fun p e => by subst e; cases p <;> first | rfl | exact absurd rfl h)
  case reqStamp => exact same_set_srv s _ f (fun p e => by subst e; cases p <;> first | rfl | exact absurd rfl h)
  case smp => exact same_set_srv s _ f (fun p e => by subst e; cases p <;> first | rfl | exact absurd rfl h)
  case pair => exact same_set_que s _ f (fun p e => by subst e; cases p <;> first | rfl | exact absurd rfl h)
  case intake => exact same_set_que s _ f (fun p e => by subst e; cases p <;> first | rfl | exact absurd rfl h)
  case cmd => exact same_set_que s _ f (fun p e => by subst e; cases p <;> first | rfl | exact absurd rfl h)
  case nextCmd => exact same_set_que s _ f (fun p e => by subst e; cases p <;> first | rfl | exact absurd rfl h)
  case scanner => exact same_set_que s _ f (fun p e => by subst e; cases p <;> first | rfl | exact absurd rfl h)
  case rotStart => exact same_set_que s _ f (fun p e => by subst e; cases p <;> first | rfl | exact absurd rfl h)
  case rotLast => exact same_set_que s _ f (fun p e => by subst e; cases p <;> first | rfl | exact absurd rfl h)
  case ucieUp => exact same_set_que s _ f (fun p e => by subst e; cases p <;> first | rfl | exact absurd rfl h)
  case ucieRep => exact same_set_que s _ f (fun p e => by subst e; cases p <;> first | rfl | exact absurd rfl h)
  case ucieOn => exact same_set_que s _ f (fun p e => by subst e; cases p <;> first | rfl | exact absurd rfl h)
  case tenant => exact same_set_ten s _ f (fun p e => by subst e; cases p <;> first | rfl | exact absurd rfl h)
  case engFrac => exact same_set_ten s _ f (fun p e => by subst e; cases p <;> first | rfl | exact absurd rfl h)
  case slice => exact same_set_ten s _ f (fun p e => by subst e; cases p <;> first | rfl | exact absurd rfl h)
  case scanWord => exact same_set_ten s _ f (fun p e => by subst e; cases p <;> first | rfl | exact absurd rfl h)
  case scanBay => exact same_set_ten s _ f (fun p e => by subst e; cases p <;> first | rfl | exact absurd rfl h)
  case scanDir => exact same_set_ten s _ f (fun p e => by subst e; cases p <;> first | rfl | exact absurd rfl h)
  case scanWant => exact same_set_ten s _ f (fun p e => by subst e; cases p <;> first | rfl | exact absurd rfl h)
  case haltCause => exact same_set_int s _ f (fun p e => by subst e; cases p <;> first | rfl | exact absurd rfl h)
  case holdOn => exact same_set_int s _ f (fun p e => by subst e; cases p <;> first | rfl | exact absurd rfl h)
  case chk => exact same_set_int s _ f (fun p e => by subst e; cases p <;> first | rfl | exact absurd rfl h)
  case logWr => exact same_set_log s _ f (fun p e => by subst e; cases p <;> first | rfl | exact absurd rfl h)
  case logLost => exact same_set_log s _ f (fun p e => by subst e; cases p <;> first | rfl | exact absurd rfl h)
  case logIntake => exact same_set_log s _ f (fun p e => by subst e; cases p <;> first | rfl | exact absurd rfl h)
  case logSlot => exact same_set_log s _ f (fun p e => by subst e; cases p <;> first | rfl | exact absurd rfl h)
  case logLatch => exact same_set_log s _ f (fun p e => by subst e; cases p <;> first | rfl | exact absurd rfl h)
  case ibiHold => exact same_set_log s _ f (fun p e => by subst e; cases p <;> first | rfl | exact absurd rfl h)
  case ibiWait => exact same_set_log s _ f (fun p e => by subst e; cases p <;> first | rfl | exact absurd rfl h)
  case census => exact same_set_mon s _ f (fun p e => by subst e; cases p <;> first | rfl | exact absurd rfl h)
  case viewVal => exact same_set_mon s _ f (fun p e => by subst e; cases p <;> first | rfl | exact absurd rfl h)
  case viewAt => exact same_set_mon s _ f (fun p e => by subst e; cases p <;> first | rfl | exact absurd rfl h)
  case viewStale => exact same_set_mon s _ f (fun p e => by subst e; cases p <;> first | rfl | exact absurd rfl h)
  case effecter => exact same_set_mon s _ f (fun p e => by subst e; cases p <;> first | rfl | exact absurd rfl h)
  case tid => exact same_set_mon s _ f (fun p e => by subst e; cases p <;> first | rfl | exact absurd rfl h)
  case mwl => exact same_set_mon s _ f (fun p e => by subst e; cases p <;> first | rfl | exact absurd rfl h)
  case mrl => exact same_set_mon s _ f (fun p e => by subst e; cases p <;> first | rfl | exact absurd rfl h)
  case cdRead => exact same_set_out s _ f (fun p e => by subst e; cases p <;> first | rfl | exact absurd rfl h)
  case cdPoison => exact same_set_out s _ f (fun p e => by subst e; cases p <;> first | rfl | exact absurd rfl h)
  case resp => exact same_set_out s _ f (fun p e => by subst e; cases p <;> first | rfl | exact absurd rfl h)
  case ibis => exact same_set_out s _ f (fun p e => by subst e; cases p <;> first | rfl | exact absurd rfl h)
  case sentFlits => exact same_set_out s _ f (fun p e => by subst e; cases p <;> first | rfl | exact absurd rfl h)
  case thermAlert => exact same_set_out s _ f (fun p e => by subst e; cases p <;> first | rfl | exact absurd rfl h)
  case nwSt => exact same_set_pwr s _ f (fun p e => by subst e; cases p <;> first | rfl | exact absurd rfl h)
  case pinBrake => exact same_set_pwr s _ f (fun p e => by subst e; cases p <;> first | rfl | exact absurd rfl h)
  case capOver => exact same_set_pwr s _ f (fun p e => by subst e; cases p <;> first | rfl | exact absurd rfl h)
  case capUnder => exact same_set_pwr s _ f (fun p e => by subst e; cases p <;> first | rfl | exact absurd rfl h)
  case temp => exact same_set_pwr s _ f (fun p e => by subst e; cases p <;> first | rfl | exact absurd rfl h)
  case hotSince => exact same_set_pwr s _ f (fun p e => by subst e; cases p <;> first | rfl | exact absurd rfl h)
  case thermAt => exact same_set_pwr s _ f (fun p e => by subst e; cases p <;> first | rfl | exact absurd rfl h)
  case bootPhase => exact same_set_boot s _ f (fun p e => by subst e; cases p <;> first | rfl | exact absurd rfl h)
  case bootCause => exact same_set_boot s _ f (fun p e => by subst e; cases p <;> first | rfl | exact absurd rfl h)
  case startObs => exact same_set_boot s _ f (fun p e => by subst e; cases p <;> first | rfl | exact absurd rfl h)
  case flashAt => exact same_set_boot s _ f (fun p e => by subst e; cases p <;> first | rfl | exact absurd rfl h)
  case journal => exact same_set_boot s _ f (fun p e => by subst e; cases p <;> first | rfl | exact absurd rfl h)
  case jrnNext => exact same_set_boot s _ f (fun p e => by subst e; cases p <;> first | rfl | exact absurd rfl h)
  case cfgSeq => exact same_set_boot s _ f (fun p e => by subst e; cases p <;> first | rfl | exact absurd rfl h)
  case cfgCopy => exact same_set_boot s _ f (fun p e => by subst e; cases p <;> first | rfl | exact absurd rfl h)
  case cfgHash => exact same_set_boot s _ f (fun p e => by subst e; cases p <;> first | rfl | exact absurd rfl h)
  case updSt => exact same_set_upd s _ f (fun p e => by subst e; cases p <;> first | rfl | exact absurd rfl h)
  case updBegun => exact same_set_upd s _ f (fun p e => by subst e; cases p <;> first | rfl | exact absurd rfl h)
  case updManifest => exact same_set_upd s _ f (fun p e => by subst e; cases p <;> first | rfl | exact absurd rfl h)
  case heldRows => exact same_set_upd s _ f (fun p e => by subst e; cases p <;> first | rfl | exact absurd rfl h)
  case updGoAt => exact same_set_upd s _ f (fun p e => by subst e; cases p <;> first | rfl | exact absurd rfl h)
  case port => exact same_set_lnk s _ f (fun p e => by subst e; cases p <;> first | rfl | exact absurd rfl h)
  case lnkQ => exact same_set_lnk s _ f (fun p e => by subst e; cases p <;> first | rfl | exact absurd rfl h)
  case pausedBundles => exact same_set_lnk s _ f (fun p e => by subst e; cases p <;> first | rfl | exact absurd rfl h)
  case stream => exact same_set_lnk s _ f (fun p e => by subst e; cases p <;> first | rfl | exact absurd rfl h)
  case localFlits => exact same_set_lnk s _ f (fun p e => by subst e; cases p <;> first | rfl | exact absurd rfl h)
  case localLost => exact same_set_lnk s _ f (fun p e => by subst e; cases p <;> first | rfl | exact absurd rfl h)
  case live => exact same_set_top s _ f (fun p e => by subst e; cases p <;> first | rfl | exact absurd rfl h)
  case timeLocked => exact same_set_top s _ f (fun p e => by subst e; cases p <;> first | rfl | exact absurd rfl h)
  case holdover => exact same_set_top s _ f (fun p e => by subst e; cases p <;> first | rfl | exact absurd rfl h)
  case ppsAt => exact same_set_top s _ f (fun p e => by subst e; cases p <;> first | rfl | exact absurd rfl h)
  case timeParent => exact same_set_top s _ f (fun p e => by subst e; cases p <;> first | rfl | exact absurd rfl h)
  case timeOffset => exact same_set_top s _ f (fun p e => by subst e; cases p <;> first | rfl | exact absurd rfl h)
  case timeGood => exact same_set_top s _ f (fun p e => by subst e; cases p <;> first | rfl | exact absurd rfl h)
  case slewLeft => exact same_set_top s _ f (fun p e => by subst e; cases p <;> first | rfl | exact absurd rfl h)
  case slewFrac => exact same_set_top s _ f (fun p e => by subst e; cases p <;> first | rfl | exact absurd rfl h)
  case timeBehind => exact same_set_top s _ f (fun p e => by subst e; cases p <;> first | rfl | exact absurd rfl h)
  case timeFrac => exact same_set_top s _ f (fun p e => by subst e; cases p <;> first | rfl | exact absurd rfl h)
  case ident => exact same_set_sec s _ f (fun p e => by subst e; cases p <;> first | rfl | exact absurd rfl h)
  case cred => exact same_set_sec s _ f (fun p e => by subst e; cases p <;> first | rfl | exact absurd rfl h)
  case treeHeld => exact same_set_sec s _ f (fun p e => by subst e; cases p <;> first | rfl | exact absurd rfl h)
  case idxTried => exact same_set_sec s _ f (fun p e => by subst e; cases p <;> first | rfl | exact absurd rfl h)
  case attQ => exact same_set_sec s _ f (fun p e => by subst e; cases p <;> first | rfl | exact absurd rfl h)
  case attBuf => exact same_set_sec s _ f (fun p e => by subst e; cases p <;> first | rfl | exact absurd rfl h)
  case attBufSt => exact same_set_sec s _ f (fun p e => by subst e; cases p <;> first | rfl | exact absurd rfl h)
  case reqLatch => exact same_set_win s _ f (fun p e => by subst e; cases p <;> first | rfl | exact absurd rfl h)
  case pfxLatch => exact same_set_win s _ f (fun p e => by subst e; cases p <;> first | rfl | exact absurd rfl h)

/-- A primitive change that is not of a register leaves every register. -/
theorem applyUpd_regs (u : Upd) (s : State) (hw : u ≠ .wipe) (h : ∀ off idx v, u ≠ .reg off idx v) :
    (applyUpd u s).regs = s.regs := by
  cases u <;> first | rfl | exact absurd rfl hw | exact absurd rfl (h _ _ _)

end Sys2Proof.Machine
end

