-- ==== Sys2Proof/Laws/Run.lean ====
section
/-!
SUPPORT. Running scripts: each combinator's equation, what a register holds after it is written, and the footprint of a
script.
-/

namespace Sys2Proof.Machine

/-! ### Combinators -/

@[simp] theorem run_nop (s : State) : run .nop s = s := rfl
@[simp] theorem run_upd (u : Upd) (s : State) : run (.upd u) s = applyUpd u s := rfl
@[simp] theorem run_seq (a b : Act) (s : State) : run (.seq a b) s = run b (run a s) := rfl
@[simp] theorem run_dyn (f : State → Act) (s : State) : run (.dyn f) s = run (f s) s := rfl
@[simp] theorem run_seqs_nil (s : State) : run (seqs []) s = s := rfl
@[simp] theorem run_seqs_cons (a : Act) (l : List Act) (s : State) : run (seqs (a :: l)) s = run (seqs l) (run a s) := by
  cases l <;> rfl
@[simp] theorem run_each_nil {α : Type} (f : α → Act) (s : State) : run (each [] f) s = s := rfl
@[simp] theorem run_each_cons {α : Type} (x : α) (l : List α) (f : α → Act) (s : State) :
    run (each (x :: l) f) s = run (each l f) (run (f x) s) := run_seqs_cons _ _ _
@[simp] theorem run_whenS (c : State → Bool) (a : Act) (s : State) :
    run (whenS c a) s = if c s then run a s else s := by
  simp only [whenS, run_dyn]; split <;> rfl
@[simp] theorem run_when' (c : Bool) (a : Act) (s : State) : run (when' c a) s = if c then run a s else s := by
  cases c <;> rfl
@[simp] theorem run_withSome_none {α : Type} (f : α → Act) (s : State) : run (withSome none f) s = s := rfl
@[simp] theorem run_withSome_some {α : Type} (x : α) (f : α → Act) (s : State) :
    run (withSome (some x) f) s = run (f x) s := rfl
@[simp] theorem run_withFresh (f : Nat → Act) (s : State) :
    run (withFresh f) s = run (f s.fresh) (applyUpd (.fresh (s.fresh + 1)) s) := rfl
theorem run_ite (c : Prop) [Decidable c] (a b : Act) (s : State) :
    run (if c then a else b) s = if c then run a s else run b s := by split <;> rfl

/-- A relation that every primitive change keeps, every script keeps. -/
theorem run_keeps {R : State → State → Prop} (hr : ∀ s, R s s) (ht : ∀ s t u, R s t → R t u → R s u)
    (hu : ∀ u s, R s (applyUpd u s)) (a : Act) (s : State) : R s (run a s) := by
  induction a generalizing s with
  | nop => exact hr s
  | upd u => exact hu u s
  | seq a b iha ihb => exact ht _ _ _ (iha s) (ihb _)
  | dyn f ih => exact ih s s

@[simp] theorem run_pending (a : Act) (s : State) : (run a s).pending = s.pending :=
  run_keeps (R := fun s t => t.pending = s.pending) (fun _ => rfl) (fun _ _ _ h k => k.trans h)
    (fun u s => applyUpd_pending u s) a s

@[simp] theorem run_variant (a : Act) (s : State) : (run a s).variant = s.variant :=
  run_keeps (R := fun s t => t.variant = s.variant) (fun _ => rfl) (fun _ _ _ h k => k.trans h)
    (fun u s => applyUpd_variant u s) a s

/-! ### Registers -/

theorem regKey_inj (off off' i j : Nat) (h : off < 2 ^ 24) (h' : off' < 2 ^ 24) :
    regKey off i = regKey off' j ↔ off = off' ∧ i = j := by
  simp only [regKey]; constructor
  · intro e; omega
  · rintro ⟨rfl, rfl⟩; rfl

/-- What a register entry holds after a register entry is written. -/
theorem applyUpd_reg_reg (off i v : Nat) (s : State) (off' j : Nat) (h : off < 2 ^ 24) (h' : off' < 2 ^ 24) :
    (applyUpd (.reg off i v) s).reg off' j =
      if off' = off ∧ j = i then BitVec.ofNat 64 (v &&& regMask off) else s.reg off' j := by
  show tget regReset (tset regReset s.regs (regKey off i) _) (regKey off' j) = _
  rw [tget_tset]
  simp only [regKey_inj off' off j i h' h]
  rfl

/-- A write of a whole register entry. -/
theorem setReg_reg (off v i : Nat) (s : State) (h : off < 2 ^ 24) :
    (run (setReg off v i) s).reg off i = BitVec.ofNat 64 (v &&& regMask off) := by
  simp [setReg, applyUpd_reg_reg _ _ _ _ _ _ h h]

/-- A write of a part that is no register leaves every register. -/
theorem reg_of_regs {s t : State} (h : t.regs = s.regs) (off i : Nat) : t.reg off i = s.reg off i := by
  simp only [State.reg, h]

/-! ### Footprints -/

/-- A primitive change stays within a footprint. -/
def Upd.Within (p : Foot) (u : Upd) : Prop :=
  match u with
  | .reg off _ _ => off < 2 ^ 24 ∧ off ∈ p.regs
  | .wipe => False
  | u => ∃ f, u.fld = some f ∧ f ∈ p.flds

/-- Every change that a script may make stays within a footprint. -/
inductive Act.Within (p : Foot) : Act → Prop where
  | nop : Act.Within p .nop
  | upd {u : Upd} (h : u.Within p) : Act.Within p (.upd u)
  | seq {a b : Act} (h : a.Within p) (k : b.Within p) : Act.Within p (.seq a b)
  | dyn {f : State → Act} (h : ∀ s, (f s).Within p) : Act.Within p (.dyn f)

theorem Foot.Frame.rfl' (p : Foot) (s : State) : p.Frame s s :=
  ⟨rfl, rfl, fun f _ => Fld.same_refl s f, fun _ _ _ _ => rfl⟩

theorem Fld.same_trans {f : Fld} {s t u : State} (h : f.same s t) (k : f.same t u) : f.same s u := by
  cases f with
  | now => exact Eq.trans k h
  | mem => exact Eq.trans k h
  | poison => exact Eq.trans k h
  | fresh => exact Eq.trans k h
  | _ p => cases p <;> exact Eq.trans k h

theorem Foot.Frame.trans {p : Foot} {s t u : State} (h : p.Frame s t) (k : p.Frame t u) : p.Frame s u :=
  ⟨k.1.trans h.1, k.2.1.trans h.2.1, fun f hf => Fld.same_trans (h.2.2.1 f hf) (k.2.2.1 f hf),
    fun off i ho hn => (k.2.2.2 off i ho hn).trans (h.2.2.2 off i ho hn)⟩

theorem Upd.Within.frame {p : Foot} {u : Upd} (h : u.Within p) (s : State) : p.Frame s (applyUpd u s) := by
  refine ⟨applyUpd_variant u s, applyUpd_pending u s, ?_, ?_⟩
  · intro f hf
    refine applyUpd_same u s f ?_ ?_
    · rintro rfl; exact h
    · intro e
      cases u <;> simp only [Upd.fld, reduceCtorEq, Option.some.injEq] at e
      all_goals
        obtain ⟨g, hg, hm⟩ := h
        simp only [Upd.fld, Option.some.injEq] at hg
        exact hf (e ▸ hg ▸ hm)
  · intro off i ho hn
    by_cases hr : ∃ o j v, u = .reg o j v
    · obtain ⟨o, j, v, rfl⟩ := hr
      rw [applyUpd_reg_reg _ _ _ _ _ _ h.1 ho, if_neg]
      rintro ⟨rfl, -⟩; exact hn h.2
    · refine reg_of_regs (applyUpd_regs u s ?_ ?_) off i
      · rintro rfl; exact h
      · intro o j v e; exact hr ⟨o, j, v, e⟩

/-- A script within a footprint leaves everything outside it. -/
theorem Act.Within.frame {p : Foot} {a : Act} (h : a.Within p) (s : State) : p.Frame s (run a s) := by
  induction h generalizing s with
  | nop => exact Foot.Frame.rfl' p s
  | upd h => exact Upd.Within.frame h s
  | seq _ _ iha ihb => exact (iha s).trans (ihb _)
  | dyn _ ih => exact ih s s

/-- One footprint lies in another. -/
def Foot.le (p q : Foot) : Bool := p.flds.all (fun f => decide (f ∈ q.flds)) && p.regs.all (fun r => decide (r ∈ q.regs))

theorem Act.Within.mono {p q : Foot} {a : Act} (h : a.Within p) (hpq : p.le q = true) : a.Within q := by
  simp only [Foot.le, Bool.and_eq_true, List.all_eq_true, decide_eq_true_eq] at hpq
  induction h with
  | nop => exact .nop
  | @upd u h =>
    refine .upd ?_
    cases u
    case reg => exact ⟨h.1, hpq.2 _ h.2⟩
    case wipe => exact h
    all_goals
      obtain ⟨f, e, m⟩ := h
      exact ⟨f, e, hpq.1 _ m⟩
  | seq _ _ iha ihb => exact .seq iha ihb
  | dyn _ ih => exact .dyn ih

theorem within_upd {p : Foot} {u : Upd} (h : ∃ f, u.fld = some f ∧ f ∈ p.flds) : (Act.upd u).Within p := by
  refine .upd ?_
  cases u <;> first | exact h | (obtain ⟨f, e, -⟩ := h; cases e)
theorem within_seqs_cons {p : Foot} {a : Act} {l : List Act} (h : a.Within p) (k : (seqs l).Within p) :
    (seqs (a :: l)).Within p := by
  cases l
  · exact h
  · exact .seq h k
theorem within_seqs_nil (p : Foot) : (seqs []).Within p := .nop
theorem within_each {p : Foot} {α : Type} (l : List α) {f : α → Act} (h : ∀ x, (f x).Within p) : (each l f).Within p := by
  unfold each
  induction l with
  | nil => exact .nop
  | cons a l ih => exact within_seqs_cons (h a) ih
theorem within_ite {p : Foot} {c : Prop} [Decidable c] {a b : Act} (h : a.Within p) (k : b.Within p) :
    (if c then a else b).Within p := by split <;> assumption
theorem within_whenS {p : Foot} {c : State → Bool} {a : Act} (h : a.Within p) : (whenS c a).Within p :=
  .dyn fun _ => within_ite h .nop
theorem within_when' {p : Foot} {c : Bool} {a : Act} (h : a.Within p) : (when' c a).Within p := within_ite h .nop
theorem within_withSome {p : Foot} {α : Type} {x : Option α} {f : α → Act} (h : ∀ y, x = some y → (f y).Within p) :
    (withSome x f).Within p := by
  cases x
  · exact .nop
  · exact h _ rfl
theorem within_withFresh {p : Foot} {f : Nat → Act} (hp : Fld.fresh ∈ p.flds) (h : ∀ n, (f n).Within p) :
    (withFresh f).Within p := .dyn fun _ => .seq (within_upd ⟨_, rfl, hp⟩) (h _)
theorem within_reg {p : Foot} {off idx v : Nat} (h : off < 2 ^ 24) (hm : off ∈ p.regs) :
    (Act.upd (.reg off idx v)).Within p := .upd ⟨h, hm⟩
theorem within_setReg {p : Foot} {off : Nat} (v i : Nat) (h : off < 2 ^ 24) (hm : off ∈ p.regs) :
    (setReg off v i).Within p := within_reg h hm
theorem within_setFld {p : Foot} {off : Nat} (hi lo x i : Nat) (h : off < 2 ^ 24) (hm : off ∈ p.regs) :
    (setFld off hi lo x i).Within p := .dyn fun _ => within_reg h hm
theorem within_orReg {p : Foot} {off : Nat} (m i : Nat) (h : off < 2 ^ 24) (hm : off ∈ p.regs) :
    (orReg off m i).Within p := .dyn fun _ => within_reg h hm
theorem within_addFld {p : Foot} {off : Nat} (hi lo n i : Nat) (h : off < 2 ^ 24) (hm : off ∈ p.regs) :
    (addFld off hi lo n i).Within p := .dyn fun _ => within_setFld _ _ _ _ h hm
theorem within_writeBytes {p : Foot} (hm : Fld.mem ∈ p.flds) (a : Nat) (bs : List Byte) : (writeBytes a bs).Within p := by
  induction bs generalizing a with
  | nil => exact .nop
  | cons b bs ih => exact .seq (within_upd ⟨_, rfl, hm⟩) (ih _)
theorem within_writeLe {p : Foot} (hm : Fld.mem ∈ p.flds) (a n v : Nat) : (writeLe a n v).Within p :=
  within_writeBytes hm a _

/-! ### Incidents -/

/-- The ERR register of a block, if the incident sets a bit of it, lies in a footprint. -/
def errOk (p : Foot) (blk code : Nat) : Bool :=
  (errReg blk).all (fun r => decide (r < 2 ^ 24) && decide (r ∈ p.regs)) || decide (code = 0xFF)

theorem errOk_any {p : Foot} {blk code : Nat}
    (h : (errReg blk).all (fun r => decide (r < 2 ^ 24) && decide (r ∈ p.regs)) = true) : errOk p blk code = true := by
  simp only [errOk, h, Bool.true_or]

theorem errOk_none (p : Foot) (blk : Nat) : errOk p blk 0xFF = true := by simp [errOk]

theorem w_setErr {p : Foot} (blk code : Nat) (he : errOk p blk code = true) : (setErr blk code).Within p := by
  unfold setErr; split
  · exact .nop
  · rename_i hc
    split
    · rename_i r hr
      simp only [errOk, hr, Option.all_some, Bool.or_eq_true, Bool.and_eq_true, decide_eq_true_eq, hc, or_false] at he
      exact within_orReg _ _ he.1 he.2
    · exact .nop

theorem w_incident {p : Foot} (x : Inc) (h : footLog.le p = true) (he : errOk p x.blk x.code = true) :
    (incident x).Within p := by
  refine .seq (w_setErr _ _ he) (Act.Within.mono (p := footLog) ?_ h)
  refine .seq (within_addFld _ _ _ _ (by decide) (by decide)) (.seq ?_ ?_)
  · refine .dyn fun _ => .seq (within_upd ⟨_, rfl, by decide⟩) (within_ite ?_ ?_) <;> exact within_upd ⟨_, rfl, by decide⟩
  · refine .dyn fun _ => within_ite (within_ite ?_ (.seq ?_ ?_)) .nop <;> exact within_upd ⟨_, rfl, by decide⟩

theorem w_incA {p : Foot} (blk code off : Nat) (h : footLog.le p = true) (he : errOk p blk code = true) :
    (incA blk code off).Within p := w_incident _ h he

theorem w_firstFault {p : Foot} {r : Nat} (vbit v : Nat) (h : r < 2 ^ 24) (hm : r ∈ p.regs) :
    (firstFault r vbit v).Within p := .dyn fun _ => within_ite .nop (within_setReg _ _ h hm)

end Sys2Proof.Machine
end

