-- ==== Sys2Proof/Laws/FeetBase.lean ====
section
/-!
SUPPORT. Footprints: what each shared operation may change (Ops, Work, Scan, Flash, Requests, Ports, Streams, Loads, Switch, Gateway, Fabric).
-/

namespace Sys2Proof.Machine

set_option Elab.async false
set_option linter.all false

theorem w_modBay {p : Foot} (k : Nat) (f) (h : Fld.fab .bay ∈ p.flds) : (modBay k f).Within p :=
  .dyn fun _ => within_upd ⟨_, rfl, h⟩
theorem w_modSlot {p : Foot} (k : Nat) (f) (h : Fld.fab .slot ∈ p.flds) : (modSlot k f).Within p :=
  .dyn fun _ => within_upd ⟨_, rfl, h⟩
theorem w_modNewSlot {p : Foot} (k : Nat) (f) (h : Fld.fab .newSlot ∈ p.flds) : (modNewSlot k f).Within p :=
  .dyn fun _ => within_upd ⟨_, rfl, h⟩
theorem w_modSite {p : Foot} (k : Nat) (f) (h : Fld.fab .site ∈ p.flds) : (modSite k f).Within p :=
  .dyn fun _ => within_upd ⟨_, rfl, h⟩
theorem w_modCredit {p : Foot} (k : Nat) (f) (h : Fld.fab .credit ∈ p.flds) : (modCredit k f).Within p :=
  .dyn fun _ => within_upd ⟨_, rfl, h⟩
theorem w_modCreditFly {p : Foot} (k : Nat) (f) (h : Fld.fab .creditFly ∈ p.flds) : (modCreditFly k f).Within p :=
  .dyn fun _ => within_upd ⟨_, rfl, h⟩
theorem w_modWire {p : Foot} (k : Nat) (f) (h : Fld.fab .wire ∈ p.flds) : (modWire k f).Within p :=
  .dyn fun _ => within_upd ⟨_, rfl, h⟩
theorem w_modLastGrant {p : Foot} (k : Nat) (f) (h : Fld.fab .lastGrant ∈ p.flds) : (modLastGrant k f).Within p :=
  .dyn fun _ => within_upd ⟨_, rfl, h⟩
theorem w_modIsland {p : Foot} (k : Nat) (f) (h : Fld.fab .island ∈ p.flds) : (modIsland k f).Within p :=
  .dyn fun _ => within_upd ⟨_, rfl, h⟩
theorem w_modAcell {p : Foot} (k : Nat) (f) (h : Fld.cell .acell ∈ p.flds) : (modAcell k f).Within p :=
  .dyn fun _ => within_upd ⟨_, rfl, h⟩
theorem w_modAcc {p : Foot} (k : Nat) (f) (h : Fld.cell .acc ∈ p.flds) : (modAcc k f).Within p :=
  .dyn fun _ => within_upd ⟨_, rfl, h⟩
theorem w_modRun16At {p : Foot} (k : Nat) (f) (h : Fld.cell .run16At ∈ p.flds) : (modRun16At k f).Within p :=
  .dyn fun _ => within_upd ⟨_, rfl, h⟩
theorem w_modLane {p : Foot} (k : Nat) (f) (h : Fld.cell .lane ∈ p.flds) : (modLane k f).Within p :=
  .dyn fun _ => within_upd ⟨_, rfl, h⟩
theorem w_modLaneBad {p : Foot} (k : Nat) (f) (h : Fld.cell .laneBad ∈ p.flds) : (modLaneBad k f).Within p :=
  .dyn fun _ => within_upd ⟨_, rfl, h⟩
theorem w_modArrived {p : Foot} (k : Nat) (f) (h : Fld.cell .arrived ∈ p.flds) : (modArrived k f).Within p :=
  .dyn fun _ => within_upd ⟨_, rfl, h⟩
theorem w_modGot {p : Foot} (k : Nat) (f) (h : Fld.cell .got ∈ p.flds) : (modGot k f).Within p :=
  .dyn fun _ => within_upd ⟨_, rfl, h⟩
theorem w_modCout {p : Foot} (k : Nat) (f) (h : Fld.cell .cout ∈ p.flds) : (modCout k f).Within p :=
  .dyn fun _ => within_upd ⟨_, rfl, h⟩
theorem w_modScell {p : Foot} (k : Nat) (f) (h : Fld.cell .scell ∈ p.flds) : (modScell k f).Within p :=
  .dyn fun _ => within_upd ⟨_, rfl, h⟩
theorem w_modLine {p : Foot} (k : Nat) (f) (h : Fld.cell .line ∈ p.flds) : (modLine k f).Within p :=
  .dyn fun _ => within_upd ⟨_, rfl, h⟩
theorem w_modLoad {p : Foot} (k : Nat) (f) (h : Fld.exh .load ∈ p.flds) : (modLoad k f).Within p :=
  .dyn fun _ => within_upd ⟨_, rfl, h⟩
theorem w_modImgEntry {p : Foot} (k : Nat) (f) (h : Fld.exh .imgEntry ∈ p.flds) : (modImgEntry k f).Within p :=
  .dyn fun _ => within_upd ⟨_, rfl, h⟩
theorem w_modSplit {p : Foot} (k : Nat) (f) (h : Fld.exh .split ∈ p.flds) : (modSplit k f).Within p :=
  .dyn fun _ => within_upd ⟨_, rfl, h⟩
theorem w_modWdogWait {p : Foot} (k : Nat) (f) (h : Fld.exh .wdogWait ∈ p.flds) : (modWdogWait k f).Within p :=
  .dyn fun _ => within_upd ⟨_, rfl, h⟩
theorem w_modDoc {p : Foot} (k : Nat) (f) (h : Fld.mov .doc ∈ p.flds) : (modDoc k f).Within p :=
  .dyn fun _ => within_upd ⟨_, rfl, h⟩
theorem w_modIq {p : Foot} (k : Nat) (f) (h : Fld.mov .iq ∈ p.flds) : (modIq k f).Within p :=
  .dyn fun _ => within_upd ⟨_, rfl, h⟩
theorem w_modMove {p : Foot} (k : Nat) (f) (h : Fld.mov .move ∈ p.flds) : (modMove k f).Within p :=
  .dyn fun _ => within_upd ⟨_, rfl, h⟩
theorem w_modCalMiss {p : Foot} (k : Nat) (f) (h : Fld.mov .calMiss ∈ p.flds) : (modCalMiss k f).Within p :=
  .dyn fun _ => within_upd ⟨_, rfl, h⟩
theorem w_modArbiter {p : Foot} (k : Nat) (f) (h : Fld.arb .arbiter ∈ p.flds) : (modArbiter k f).Within p :=
  .dyn fun _ => within_upd ⟨_, rfl, h⟩
theorem w_modArbReq {p : Foot} (k : Nat) (f) (h : Fld.arb .arbReq ∈ p.flds) : (modArbReq k f).Within p :=
  .dyn fun _ => within_upd ⟨_, rfl, h⟩
theorem w_modReq {p : Foot} (k : Nat) (f) (h : Fld.srv .req ∈ p.flds) : (modReq k f).Within p :=
  .dyn fun _ => within_upd ⟨_, rfl, h⟩
theorem w_modPfx {p : Foot} (k : Nat) (f) (h : Fld.srv .pfx ∈ p.flds) : (modPfx k f).Within p :=
  .dyn fun _ => within_upd ⟨_, rfl, h⟩
theorem w_modSrvStep {p : Foot} (k : Nat) (f) (h : Fld.srv .srvStep ∈ p.flds) : (modSrvStep k f).Within p :=
  .dyn fun _ => within_upd ⟨_, rfl, h⟩
theorem w_modSvcPins {p : Foot} (k : Nat) (f) (h : Fld.srv .svcPins ∈ p.flds) : (modSvcPins k f).Within p :=
  .dyn fun _ => within_upd ⟨_, rfl, h⟩
theorem w_modSmp {p : Foot} (k : Nat) (f) (h : Fld.srv .smp ∈ p.flds) : (modSmp k f).Within p :=
  .dyn fun _ => within_upd ⟨_, rfl, h⟩
theorem w_modPair {p : Foot} (k : Nat) (f) (h : Fld.que .pair ∈ p.flds) : (modPair k f).Within p :=
  .dyn fun _ => within_upd ⟨_, rfl, h⟩
theorem w_modIntake {p : Foot} (k : Nat) (f) (h : Fld.que .intake ∈ p.flds) : (modIntake k f).Within p :=
  .dyn fun _ => within_upd ⟨_, rfl, h⟩
theorem w_modCmd {p : Foot} (k : Nat) (f) (h : Fld.que .cmd ∈ p.flds) : (modCmd k f).Within p :=
  .dyn fun _ => within_upd ⟨_, rfl, h⟩
theorem w_modTenant {p : Foot} (k : Nat) (f) (h : Fld.ten .tenant ∈ p.flds) : (modTenant k f).Within p :=
  .dyn fun _ => within_upd ⟨_, rfl, h⟩
theorem w_modEngFrac {p : Foot} (k : Nat) (f) (h : Fld.ten .engFrac ∈ p.flds) : (modEngFrac k f).Within p :=
  .dyn fun _ => within_upd ⟨_, rfl, h⟩
theorem w_modSlice {p : Foot} (k : Nat) (f) (h : Fld.ten .slice ∈ p.flds) : (modSlice k f).Within p :=
  .dyn fun _ => within_upd ⟨_, rfl, h⟩
theorem w_modScanWord {p : Foot} (k : Nat) (f) (h : Fld.ten .scanWord ∈ p.flds) : (modScanWord k f).Within p :=
  .dyn fun _ => within_upd ⟨_, rfl, h⟩
theorem w_modChk {p : Foot} (k : Nat) (f) (h : Fld.int .chk ∈ p.flds) : (modChk k f).Within p :=
  .dyn fun _ => within_upd ⟨_, rfl, h⟩
theorem w_modLogSlot {p : Foot} (k : Nat) (f) (h : Fld.log .logSlot ∈ p.flds) : (modLogSlot k f).Within p :=
  .dyn fun _ => within_upd ⟨_, rfl, h⟩
theorem w_modCensus {p : Foot} (k : Nat) (f) (h : Fld.mon .census ∈ p.flds) : (modCensus k f).Within p :=
  .dyn fun _ => within_upd ⟨_, rfl, h⟩
theorem w_modViewVal {p : Foot} (k : Nat) (f) (h : Fld.mon .viewVal ∈ p.flds) : (modViewVal k f).Within p :=
  .dyn fun _ => within_upd ⟨_, rfl, h⟩
theorem w_modEffecter {p : Foot} (k : Nat) (f) (h : Fld.mon .effecter ∈ p.flds) : (modEffecter k f).Within p :=
  .dyn fun _ => within_upd ⟨_, rfl, h⟩
theorem w_modSentFlits {p : Foot} (k : Nat) (f) (h : Fld.out .sentFlits ∈ p.flds) : (modSentFlits k f).Within p :=
  .dyn fun _ => within_upd ⟨_, rfl, h⟩
theorem w_modTemp {p : Foot} (k : Nat) (f) (h : Fld.pwr .temp ∈ p.flds) : (modTemp k f).Within p :=
  .dyn fun _ => within_upd ⟨_, rfl, h⟩
theorem w_modHotSince {p : Foot} (k : Nat) (f) (h : Fld.pwr .hotSince ∈ p.flds) : (modHotSince k f).Within p :=
  .dyn fun _ => within_upd ⟨_, rfl, h⟩
theorem w_modThermAt {p : Foot} (k : Nat) (f) (h : Fld.pwr .thermAt ∈ p.flds) : (modThermAt k f).Within p :=
  .dyn fun _ => within_upd ⟨_, rfl, h⟩
theorem w_modFlashAt {p : Foot} (k : Nat) (f) (h : Fld.boot .flashAt ∈ p.flds) : (modFlashAt k f).Within p :=
  .dyn fun _ => within_upd ⟨_, rfl, h⟩
theorem w_modPort {p : Foot} (k : Nat) (f) (h : Fld.lnk .port ∈ p.flds) : (modPort k f).Within p :=
  .dyn fun _ => within_upd ⟨_, rfl, h⟩
theorem w_modLnkQ {p : Foot} (k : Nat) (f) (h : Fld.lnk .lnkQ ∈ p.flds) : (modLnkQ k f).Within p :=
  .dyn fun _ => within_upd ⟨_, rfl, h⟩
theorem w_modStream {p : Foot} (k : Nat) (f) (h : Fld.lnk .stream ∈ p.flds) : (modStream k f).Within p :=
  .dyn fun _ => within_upd ⟨_, rfl, h⟩
theorem w_modCred {p : Foot} (k : Nat) (f) (h : Fld.sec .cred ∈ p.flds) : (modCred k f).Within p :=
  .dyn fun _ => within_upd ⟨_, rfl, h⟩

def ft_badAddress : Foot :=
  { flds := [.log .logWr, .log .logLost, .log .logIntake, .log .ibiHold, .log .ibiWait, .out .ibis], regs := [rINT_CNT, rT2C_ERR, rT2C_ERR_ADDR, rT3C_ERR, rT3C_ERR_ADDR] }

theorem w_badAddress (agent a : Nat) (t3 : Bool) (tenant : Option Nat) : (badAddress agent a t3 tenant).Within ft_badAddress := by
  unfold badAddress
  repeat' first | with_reducible apply Act.Within.nop | with_reducible apply w_firstFault | with_reducible apply w_incident | decide +kernel | exact errOk_none _ _ | exact errOk_any (by decide +kernel) | with_reducible apply Act.Within.dyn | with_reducible apply within_ite | with_reducible apply Act.Within.seq | with_reducible apply within_seqs_cons | with_reducible apply within_seqs_nil | with_reducible intro _ | split | dsimp only

def ft_markBad : Foot :=
  { flds := [.poison], regs := [] }

theorem w_markBad (a n : Nat) (b : Bool) : (markBad a n b).Within ft_markBad := by
  unfold markBad
  repeat' first | with_reducible apply Act.Within.nop | with_reducible apply within_each | (with_reducible apply within_upd; exact ⟨_, rfl, by decide +kernel⟩) | decide +kernel | with_reducible apply Act.Within.dyn | with_reducible apply within_ite | with_reducible apply Act.Within.seq | with_reducible apply within_seqs_cons | with_reducible apply within_seqs_nil | with_reducible intro _ | split | dsimp only

def ft_tierCorrected : Foot :=
  { flds := [.log .logWr, .log .logLost, .log .logIntake, .log .ibiHold, .log .ibiWait, .out .ibis], regs := [rINT_CNT, rT1C_CE_CNT, rT1C_ERR, rT2C_CE_CNT, rT2C_ERR, rT3C_CE_CNT, rT3C_ERR] }

theorem w_tierCorrected (t : Tier) (a : Nat) : (tierCorrected t a).Within ft_tierCorrected := by
  unfold tierCorrected
  repeat' first | with_reducible apply Act.Within.nop | with_reducible apply w_incA | with_reducible apply w_incident | with_reducible apply within_addFld | decide +kernel | exact errOk_none _ _ | exact errOk_any (by decide +kernel) | with_reducible apply Act.Within.dyn | with_reducible apply within_ite | with_reducible apply Act.Within.seq | with_reducible apply within_seqs_cons | with_reducible apply within_seqs_nil | with_reducible intro _ | split | dsimp only

def ft_tierRecord : Foot :=
  { flds := [.fresh], regs := [rT1C_ERR_ADDR, rT2C_ERR_ADDR, rT3C_ERR_ADDR] }

theorem w_tierRecord (t : Tier) (agent a : Nat) (scrub : Bool) : (tierRecord t agent a scrub).Within ft_tierRecord := by
  unfold tierRecord
  repeat' first | with_reducible apply Act.Within.nop | with_reducible apply w_firstFault | with_reducible apply within_withFresh | decide +kernel | with_reducible apply Act.Within.dyn | with_reducible apply within_ite | with_reducible apply Act.Within.seq | with_reducible apply within_seqs_cons | with_reducible apply within_seqs_nil | with_reducible intro _ | split | dsimp only

def ft_tierUncorrectable : Foot :=
  { flds := [.fresh, .log .logWr, .log .logLost, .log .logIntake, .log .ibiHold, .log .ibiWait, .out .ibis], regs := [rINT_CNT, rT1C_ERR, rT1C_ERR_ADDR, rT2C_ERR, rT2C_ERR_ADDR, rT3C_ERR, rT3C_ERR_ADDR] }

theorem w_tierUncorrectable (t : Tier) (agent a : Nat) (scrub : Bool) (tenant : Option Nat) : (tierUncorrectable t agent a scrub tenant).Within ft_tierUncorrectable := by
  unfold tierUncorrectable
  repeat' first | with_reducible apply Act.Within.nop | with_reducible apply w_incident | with_reducible apply Act.Within.mono (w_tierRecord ..) | decide +kernel | exact errOk_none _ _ | exact errOk_any (by decide +kernel) | with_reducible apply Act.Within.dyn | with_reducible apply within_ite | with_reducible apply Act.Within.seq | with_reducible apply within_seqs_cons | with_reducible apply within_seqs_nil | with_reducible intro _ | split | dsimp only

def ft_setObj : Foot :=
  { flds := [.mem], regs := [] }

theorem w_setObj (i : Nat) (o : Obj) : (setObj i o).Within ft_setObj := by
  unfold setObj
  repeat' first | with_reducible apply Act.Within.nop | with_reducible apply within_writeBytes | decide +kernel | with_reducible apply Act.Within.dyn | with_reducible apply within_ite | with_reducible apply Act.Within.seq | with_reducible apply within_seqs_cons | with_reducible apply within_seqs_nil | with_reducible intro _ | split | dsimp only

theorem w_modObj (i : Nat) (f : Obj → Obj) : (modObj i f).Within ft_setObj := by
  unfold modObj
  repeat' first | with_reducible apply Act.Within.nop | with_reducible apply Act.Within.mono (w_setObj ..) | with_reducible apply within_withSome | decide +kernel | with_reducible apply Act.Within.dyn | with_reducible apply within_ite | with_reducible apply Act.Within.seq | with_reducible apply within_seqs_cons | with_reducible apply within_seqs_nil | with_reducible intro _ | split | dsimp only

theorem w_pinCopy (i : Nat) : (pinCopy i).Within ft_setObj := by
  unfold pinCopy
  repeat' first | with_reducible apply Act.Within.nop | with_reducible apply Act.Within.mono (w_modObj ..) | decide +kernel | with_reducible apply Act.Within.dyn | with_reducible apply within_ite | with_reducible apply Act.Within.seq | with_reducible apply within_seqs_cons | with_reducible apply within_seqs_nil | with_reducible intro _ | split | dsimp only

theorem w_unpinCopy (i : Nat) : (unpinCopy i).Within ft_setObj := by
  unfold unpinCopy
  repeat' first | with_reducible apply Act.Within.nop | with_reducible apply Act.Within.mono (w_modObj ..) | decide +kernel | with_reducible apply Act.Within.dyn | with_reducible apply within_ite | with_reducible apply Act.Within.seq | with_reducible apply within_seqs_cons | with_reducible apply within_seqs_nil | with_reducible intro _ | split | dsimp only

theorem w_dirtyCopy (i : Nat) : (dirtyCopy i).Within ft_setObj := by
  unfold dirtyCopy
  repeat' first | with_reducible apply Act.Within.nop | with_reducible apply Act.Within.mono (w_modObj ..) | decide +kernel | with_reducible apply Act.Within.dyn | with_reducible apply within_ite | with_reducible apply Act.Within.seq | with_reducible apply within_seqs_cons | with_reducible apply within_seqs_nil | with_reducible intro _ | split | dsimp only

def ft_chargeBytes : Foot :=
  { flds := [], regs := [rTEN_ACC_T1, rTEN_ACC_T2, rTEN_ACC_T3] }

theorem w_chargeBytes (tenant tier n : Nat) : (chargeBytes tenant tier n).Within ft_chargeBytes := by
  unfold chargeBytes
  repeat' first | with_reducible apply Act.Within.nop | with_reducible apply within_addFld | decide +kernel | with_reducible apply Act.Within.dyn | with_reducible apply within_ite | with_reducible apply Act.Within.seq | with_reducible apply within_seqs_cons | with_reducible apply within_seqs_nil | with_reducible intro _ | split | dsimp only

def ft_holdRow : Foot :=
  { flds := [.upd .heldRows], regs := [] }

theorem w_holdRow (i : Instr) : (holdRow i).Within ft_holdRow := by
  unfold holdRow
  repeat' first | with_reducible apply Act.Within.nop | (with_reducible apply within_upd; exact ⟨_, rfl, by decide +kernel⟩) | decide +kernel | with_reducible apply Act.Within.dyn | with_reducible apply within_ite | with_reducible apply Act.Within.seq | with_reducible apply within_seqs_cons | with_reducible apply within_seqs_nil | with_reducible intro _ | split | dsimp only

theorem w_regNow {p : Foot} (off v : Nat) {f : Nat → Act} (h : footLog.le p = true) (hf : ∀ x, (f x).Within p) :
    (regNow off v f).Within p :=
  .seq (within_when' (w_incident _ h (by simp [errOk]))) (hf _)

theorem w_bitDo {p : Foot} (i : Instr) {a : Act} (h : Fld.upd .heldRows ∈ p.flds) (ha : a.Within p) :
    (bitDo i a).Within p := by
  exact .dyn fun _ => within_ite (.dyn fun _ => within_upd ⟨_, rfl, h⟩) ha

theorem w_regDo {p : Foot} (i : Instr) (off v : Nat) {f : Nat → Act} (h : Fld.upd .heldRows ∈ p.flds)
    (hl : footLog.le p = true) (hf : ∀ x, (f x).Within p) : (regDo i off v f).Within p :=
  w_bitDo i h (w_regNow off v hl hf)

def ft_settlePair : Foot :=
  { flds := [.que .pair], regs := [rQUE_PAIR_CFG] }

theorem w_settlePair (p : Nat) : (settlePair p).Within ft_settlePair := by
  unfold settlePair
  repeat' first | with_reducible apply Act.Within.nop | with_reducible apply within_setFld | with_reducible apply w_modPair | decide +kernel | with_reducible apply Act.Within.dyn | with_reducible apply within_ite | with_reducible apply Act.Within.seq | with_reducible apply within_seqs_cons | with_reducible apply within_seqs_nil | with_reducible intro _ | split | dsimp only

def ft_endReset : Foot :=
  { flds := [.mov .iq, .que .pair, .ten .tenant], regs := [rDOC_IQ_CTL, rQUE_PAIR_CFG, rTEN_CTL, rTEN_RESET] }

theorem w_endReset (t : Nat) : (endReset t).Within ft_endReset := by
  unfold endReset
  repeat' first | with_reducible apply Act.Within.nop | with_reducible apply within_each | with_reducible apply within_setFld | with_reducible apply w_modIq | with_reducible apply w_modTenant | (with_reducible apply within_upd; exact ⟨_, rfl, by decide +kernel⟩) | decide +kernel | with_reducible apply Act.Within.dyn | with_reducible apply within_ite | with_reducible apply Act.Within.seq | with_reducible apply within_seqs_cons | with_reducible apply within_seqs_nil | with_reducible intro _ | split | dsimp only

theorem w_settleTenant (t : Nat) : (settleTenant t).Within ft_endReset := by
  unfold settleTenant
  repeat' first | with_reducible apply Act.Within.nop | with_reducible apply Act.Within.mono (w_endReset ..) | with_reducible apply within_setFld | with_reducible apply w_modTenant | decide +kernel | with_reducible apply Act.Within.dyn | with_reducible apply within_ite | with_reducible apply Act.Within.seq | with_reducible apply within_seqs_cons | with_reducible apply within_seqs_nil | with_reducible intro _ | split | dsimp only

def ft_completeCode : Foot :=
  { flds := [.mem, .mov .iq, .que .pair, .que .cmd, .ten .tenant], regs := [rDOC_IQ_CTL, rQUE_PAIR_CFG, rTEN_CTL, rTEN_RESET] }

theorem w_completeCode (id status result detail : Nat) : (completeCode id status result detail).Within ft_completeCode := by
  unfold completeCode
  repeat' first | with_reducible apply Act.Within.nop | with_reducible apply Act.Within.mono (w_settlePair ..) | with_reducible apply Act.Within.mono (w_settleTenant ..) | with_reducible apply within_withSome | with_reducible apply within_writeBytes | with_reducible apply within_writeLe | with_reducible apply w_modPair | (with_reducible apply within_upd; exact ⟨_, rfl, by decide +kernel⟩) | decide +kernel | with_reducible apply Act.Within.dyn | with_reducible apply within_ite | with_reducible apply Act.Within.seq | with_reducible apply within_seqs_cons | with_reducible apply within_seqs_nil | with_reducible intro _ | split | dsimp only

theorem w_complete (id : Nat) (st : Status) (result : Nat) (detail : Nat) : (complete id st result detail).Within ft_completeCode := by
  unfold complete
  repeat' first | with_reducible apply Act.Within.nop | with_reducible apply Act.Within.mono (w_completeCode ..) | decide +kernel | with_reducible apply Act.Within.dyn | with_reducible apply within_ite | with_reducible apply Act.Within.seq | with_reducible apply within_seqs_cons | with_reducible apply within_seqs_nil | with_reducible intro _ | split | dsimp only

def ft_windowFault : Foot :=
  { flds := [.log .logWr, .log .logLost, .log .logIntake, .log .ibiHold, .log .ibiWait, .out .ibis], regs := [rINT_CNT, rSEC_ERR] }

theorem w_windowFault (t : Nat) : (windowFault t).Within ft_windowFault := by
  unfold windowFault
  repeat' first | with_reducible apply Act.Within.nop | with_reducible apply w_incident | decide +kernel | exact errOk_none _ _ | exact errOk_any (by decide +kernel) | with_reducible apply Act.Within.dyn | with_reducible apply within_ite | with_reducible apply Act.Within.seq | with_reducible apply within_seqs_cons | with_reducible apply within_seqs_nil | with_reducible intro _ | split | dsimp only

def ft_settleIq : Foot :=
  { flds := [.mov .iq], regs := [rDOC_IQ_CTL] }

theorem w_settleIq (q : Nat) : (settleIq q).Within ft_settleIq := by
  unfold settleIq
  repeat' first | with_reducible apply Act.Within.nop | with_reducible apply within_setFld | (with_reducible apply within_upd; exact ⟨_, rfl, by decide +kernel⟩) | decide +kernel | with_reducible apply Act.Within.dyn | with_reducible apply within_ite | with_reducible apply Act.Within.seq | with_reducible apply within_seqs_cons | with_reducible apply within_seqs_nil | with_reducible intro _ | split | dsimp only

def ft_stopIq : Foot :=
  { flds := [.mov .iq, .log .logWr, .log .logLost, .log .logIntake, .log .ibiHold, .log .ibiWait, .out .ibis], regs := [rDOC_ERR, rINT_CNT] }

theorem w_stopIq (q step status : Nat) : (stopIq q step status).Within ft_stopIq := by
  unfold stopIq
  repeat' first | with_reducible apply Act.Within.nop | with_reducible apply w_incident | with_reducible apply w_modIq | decide +kernel | exact errOk_none _ _ | exact errOk_any (by decide +kernel) | with_reducible apply Act.Within.dyn | with_reducible apply within_ite | with_reducible apply Act.Within.seq | with_reducible apply within_seqs_cons | with_reducible apply within_seqs_nil | with_reducible intro _ | split | dsimp only

def ft_beginIq : Foot :=
  { flds := [.mov .iq, .log .logWr, .log .logLost, .log .logIntake, .log .ibiHold, .log .ibiWait, .out .ibis], regs := [rDOC_ERR, rDOC_IQ_CTL, rINT_CNT, rSEC_ERR] }

theorem w_beginIq (q : Nat) (fresh : Bool) : (beginIq q fresh).Within ft_beginIq := by
  unfold beginIq
  repeat' first | with_reducible apply Act.Within.nop | with_reducible apply Act.Within.mono (w_settleIq ..) | with_reducible apply Act.Within.mono (w_stopIq ..) | with_reducible apply Act.Within.mono (w_windowFault ..) | with_reducible apply w_modIq | decide +kernel | with_reducible apply Act.Within.dyn | with_reducible apply within_ite | with_reducible apply Act.Within.seq | with_reducible apply within_seqs_cons | with_reducible apply within_seqs_nil | with_reducible intro _ | split | dsimp only

theorem w_enableIq (q : Nat) : (enableIq q).Within ft_beginIq := by
  unfold enableIq
  repeat' first | with_reducible apply Act.Within.nop | with_reducible apply Act.Within.mono (w_beginIq ..) | with_reducible apply w_incident | with_reducible apply within_setFld | with_reducible apply w_modIq | decide +kernel | exact errOk_none _ _ | exact errOk_any (by decide +kernel) | with_reducible apply Act.Within.dyn | with_reducible apply within_ite | with_reducible apply Act.Within.seq | with_reducible apply within_seqs_cons | with_reducible apply within_seqs_nil | with_reducible intro _ | split | dsimp only

theorem w_dropWaiting (q status : Nat) : (dropWaiting q status).Within ft_completeCode := by
  unfold dropWaiting
  repeat' first | with_reducible apply Act.Within.nop | with_reducible apply Act.Within.mono (w_completeCode ..) | with_reducible apply within_each | with_reducible apply within_withSome | with_reducible apply w_modIq | decide +kernel | with_reducible apply Act.Within.dyn | with_reducible apply within_ite | with_reducible apply Act.Within.seq | with_reducible apply within_seqs_cons | with_reducible apply within_seqs_nil | with_reducible intro _ | split | dsimp only

theorem w_cancelSteps (p : Step → Bool) : (cancelSteps p).Within ft_settleIq := by
  unfold cancelSteps
  repeat' first | with_reducible apply Act.Within.nop | with_reducible apply Act.Within.mono (w_settleIq ..) | with_reducible apply within_each | with_reducible apply w_modIq | decide +kernel | with_reducible apply Act.Within.dyn | with_reducible apply within_ite | with_reducible apply Act.Within.seq | with_reducible apply within_seqs_cons | with_reducible apply within_seqs_nil | with_reducible intro _ | split | dsimp only

theorem w_cancelRequestWork (i : Nat) : (cancelRequestWork i).Within ft_settleIq := by
  unfold cancelRequestWork
  repeat' first | with_reducible apply Act.Within.nop | with_reducible apply Act.Within.mono (w_cancelSteps ..) | decide +kernel | with_reducible apply Act.Within.dyn | with_reducible apply within_ite | with_reducible apply Act.Within.seq | with_reducible apply within_seqs_cons | with_reducible apply within_seqs_nil | with_reducible intro _ | split | dsimp only

theorem w_cancelLoadWork (h : Nat) : (cancelLoadWork h).Within ft_settleIq := by
  unfold cancelLoadWork
  repeat' first | with_reducible apply Act.Within.nop | with_reducible apply Act.Within.mono (w_cancelSteps ..) | decide +kernel | with_reducible apply Act.Within.dyn | with_reducible apply within_ite | with_reducible apply Act.Within.seq | with_reducible apply within_seqs_cons | with_reducible apply within_seqs_nil | with_reducible intro _ | split | dsimp only

theorem w_cancelIq (q : Nat) : (cancelIq q).Within ft_completeCode := by
  unfold cancelIq
  repeat' first | with_reducible apply Act.Within.nop | with_reducible apply Act.Within.mono (w_dropWaiting ..) | with_reducible apply Act.Within.mono (w_settleIq ..) | with_reducible apply within_setFld | with_reducible apply within_orReg | with_reducible apply w_modIq | decide +kernel | with_reducible apply Act.Within.dyn | with_reducible apply within_ite | with_reducible apply Act.Within.seq | with_reducible apply within_seqs_cons | with_reducible apply within_seqs_nil | with_reducible intro _ | split | dsimp only

def ft_copyBytes : Foot :=
  { flds := [.mem, .poison], regs := [] }

theorem w_copyBytes (src dst : Obj) (so d n : Nat) : (copyBytes src dst so d n).Within ft_copyBytes := by
  unfold copyBytes
  repeat' first | with_reducible apply Act.Within.nop | with_reducible apply within_each | with_reducible apply within_writeBytes | (with_reducible apply within_upd; exact ⟨_, rfl, by decide +kernel⟩) | decide +kernel | with_reducible apply Act.Within.dyn | with_reducible apply within_ite | with_reducible apply Act.Within.seq | with_reducible apply within_seqs_cons | with_reducible apply within_seqs_nil | with_reducible intro _ | split | dsimp only

def ft_copyFrames : Foot :=
  { flds := [.mem, .poison], regs := [rTEN_ACC_T1, rTEN_ACC_T2, rTEN_ACC_T3] }

theorem w_copyFrames (v src dst : Nat) (fs : List (Nat × Nat)) : (copyFrames v src dst fs).Within ft_copyFrames := by
  unfold copyFrames
  repeat' first | with_reducible apply Act.Within.nop | with_reducible apply Act.Within.mono (w_chargeBytes ..) | with_reducible apply Act.Within.mono (w_copyBytes ..) | with_reducible apply Act.Within.mono (w_dirtyCopy ..) | with_reducible apply within_each | with_reducible refine within_when' ?_ | with_reducible apply within_withSome | decide +kernel | with_reducible apply Act.Within.dyn | with_reducible apply within_ite | with_reducible apply Act.Within.seq | with_reducible apply within_seqs_cons | with_reducible apply within_seqs_nil | with_reducible intro _ | split | dsimp only

def ft_acquirePfx : Foot :=
  { flds := [.mem, .poison, .srv .pfx], regs := [rTEN_ACC_T1, rTEN_ACC_T2, rTEN_ACC_T3] }

theorem w_acquirePfx (p r : Nat) : (acquirePfx p r).Within ft_acquirePfx := by
  unfold acquirePfx
  repeat' first | with_reducible apply Act.Within.nop | with_reducible apply Act.Within.mono (w_copyFrames ..) | with_reducible apply w_modPfx | decide +kernel | with_reducible apply Act.Within.dyn | with_reducible apply within_ite | with_reducible apply Act.Within.seq | with_reducible apply within_seqs_cons | with_reducible apply within_seqs_nil | with_reducible intro _ | split | dsimp only

def ft_leavePfx : Foot :=
  { flds := [.srv .pfx], regs := [] }

theorem w_leavePfx (p r : Nat) : (leavePfx p r).Within ft_leavePfx := by
  unfold leavePfx
  repeat' first | with_reducible apply Act.Within.nop | with_reducible apply w_modPfx | decide +kernel | with_reducible apply Act.Within.dyn | with_reducible apply within_ite | with_reducible apply Act.Within.seq | with_reducible apply within_seqs_cons | with_reducible apply within_seqs_nil | with_reducible intro _ | split | dsimp only

theorem w_settlePfx (p : Nat) : (settlePfx p).Within ft_leavePfx := by
  unfold settlePfx
  repeat' first | with_reducible apply Act.Within.nop | (with_reducible apply within_upd; exact ⟨_, rfl, by decide +kernel⟩) | decide +kernel | with_reducible apply Act.Within.dyn | with_reducible apply within_ite | with_reducible apply Act.Within.seq | with_reducible apply within_seqs_cons | with_reducible apply within_seqs_nil | with_reducible intro _ | split | dsimp only

def ft_writePageList : Foot :=
  { flds := [.mem, .srv .req], regs := [] }

theorem w_writePageList (i : Nat) : (writePageList i).Within ft_writePageList := by
  unfold writePageList
  repeat' first | with_reducible apply Act.Within.nop | with_reducible apply within_writeBytes | with_reducible apply w_modReq | decide +kernel | with_reducible apply Act.Within.dyn | with_reducible apply within_ite | with_reducible apply Act.Within.seq | with_reducible apply within_seqs_cons | with_reducible apply within_seqs_nil | with_reducible intro _ | split | dsimp only

def ft_drainReq : Foot :=
  { flds := [.mem, .mov .iq, .srv .req, .que .pair, .que .cmd, .ten .tenant], regs := [rDOC_IQ_CTL, rQUE_PAIR_CFG, rTEN_CTL, rTEN_RESET] }

theorem w_drainReq (i : Nat) (es : ReqState) (status : Nat) : (drainReq i es status).Within ft_drainReq := by
  unfold drainReq
  repeat' first | with_reducible apply Act.Within.nop | with_reducible apply Act.Within.mono (w_complete ..) | with_reducible apply within_each | with_reducible apply within_withSome | with_reducible apply w_modReq | decide +kernel | with_reducible apply Act.Within.dyn | with_reducible apply within_ite | with_reducible apply Act.Within.seq | with_reducible apply within_seqs_cons | with_reducible apply within_seqs_nil | with_reducible intro _ | split | dsimp only

theorem w_faultReq (i : Nat) (st : Status) : (faultReq i st).Within ft_drainReq := by
  unfold faultReq
  repeat' first | with_reducible apply Act.Within.nop | with_reducible apply Act.Within.mono (w_drainReq ..) | decide +kernel | with_reducible apply Act.Within.dyn | with_reducible apply within_ite | with_reducible apply Act.Within.seq | with_reducible apply within_seqs_cons | with_reducible apply within_seqs_nil | with_reducible intro _ | split | dsimp only

def ft_freeReqHoldings : Foot :=
  { flds := [.srv .req, .srv .pfx], regs := [] }

theorem w_freeReqHoldings (i : Nat) : (freeReqHoldings i).Within ft_freeReqHoldings := by
  unfold freeReqHoldings
  repeat' first | with_reducible apply Act.Within.nop | with_reducible apply Act.Within.mono (w_leavePfx ..) | with_reducible apply Act.Within.mono (w_settlePfx ..) | with_reducible apply within_withSome | with_reducible apply w_modReq | with_reducible apply w_modPfx | decide +kernel | with_reducible apply Act.Within.dyn | with_reducible apply within_ite | with_reducible apply Act.Within.seq | with_reducible apply within_seqs_cons | with_reducible apply within_seqs_nil | with_reducible intro _ | split | dsimp only

def ft_modStep : Foot :=
  { flds := [.srv .srvStep], regs := [] }

theorem w_modStep (key : Nat) (f : SrvStep → SrvStep) : (modStep key f).Within ft_modStep := by
  unfold modStep
  repeat' first | with_reducible apply Act.Within.nop | with_reducible apply w_modSrvStep | decide +kernel | with_reducible apply Act.Within.dyn | with_reducible apply within_ite | with_reducible apply Act.Within.seq | with_reducible apply within_seqs_cons | with_reducible apply within_seqs_nil | with_reducible intro _ | split | dsimp only

def ft_issueServe : Foot :=
  { flds := [.exh .load, .srv .srvStep, .que .cmd, .que .nextCmd], regs := [] }

theorem w_issueServe (op h v key : Nat) (rs : List Nat) : (issueServe op h v key rs).Within ft_issueServe := by
  unfold issueServe
  repeat' first | with_reducible apply Act.Within.nop | with_reducible apply Act.Within.mono (w_modStep ..) | with_reducible apply w_modLoad | (with_reducible apply within_upd; exact ⟨_, rfl, by decide +kernel⟩) | decide +kernel | with_reducible apply Act.Within.dyn | with_reducible apply within_ite | with_reducible apply Act.Within.seq | with_reducible apply within_seqs_cons | with_reducible apply within_seqs_nil | with_reducible intro _ | split | dsimp only

def ft_settleSrv : Foot :=
  { flds := [.srv .srvSt], regs := [rSRV_CTL] }

theorem w_settleSrv : (settleSrv).Within ft_settleSrv := by
  unfold settleSrv
  repeat' first | with_reducible apply Act.Within.nop | with_reducible apply within_setFld | (with_reducible apply within_upd; exact ⟨_, rfl, by decide +kernel⟩) | decide +kernel | with_reducible apply Act.Within.dyn | with_reducible apply within_ite | with_reducible apply Act.Within.seq | with_reducible apply within_seqs_cons | with_reducible apply within_seqs_nil | with_reducible intro _ | split | dsimp only

def ft_startDraw : Foot :=
  { flds := [.exh .load, .srv .req, .srv .srvStep, .que .cmd, .que .nextCmd], regs := [] }

theorem w_startDraw (i : Nat) : (startDraw i).Within ft_startDraw := by
  unfold startDraw
  repeat' first | with_reducible apply Act.Within.nop | with_reducible apply Act.Within.mono (w_issueServe ..) | with_reducible apply w_modReq | (with_reducible apply within_upd; exact ⟨_, rfl, by decide +kernel⟩) | decide +kernel | with_reducible apply Act.Within.dyn | with_reducible apply within_ite | with_reducible apply Act.Within.seq | with_reducible apply within_seqs_cons | with_reducible apply within_seqs_nil | with_reducible intro _ | split | dsimp only

theorem w_beginPark (i id : Nat) : (beginPark i id).Within ft_drainReq := by
  unfold beginPark
  repeat' first | with_reducible apply Act.Within.nop | with_reducible apply Act.Within.mono (w_complete ..) | with_reducible apply w_modReq | decide +kernel | with_reducible apply Act.Within.dyn | with_reducible apply within_ite | with_reducible apply Act.Within.seq | with_reducible apply within_seqs_cons | with_reducible apply within_seqs_nil | with_reducible intro _ | split | dsimp only

theorem w_reqBoundary (i : Nat) : (reqBoundary i).Within ft_drainReq := by
  unfold reqBoundary
  repeat' first | with_reducible apply Act.Within.nop | with_reducible apply Act.Within.mono (w_beginPark ..) | with_reducible apply Act.Within.mono (w_drainReq ..) | with_reducible apply within_withSome | decide +kernel | with_reducible apply Act.Within.dyn | with_reducible apply within_ite | with_reducible apply Act.Within.seq | with_reducible apply within_seqs_cons | with_reducible apply within_seqs_nil | with_reducible intro _ | split | dsimp only

def ft_endStep : Foot :=
  { flds := [.mem, .mov .iq, .srv .srvSt, .srv .req, .srv .srvStep, .que .pair, .que .cmd, .ten .tenant], regs := [rDOC_IQ_CTL, rQUE_PAIR_CFG, rSRV_CTL, rTEN_CTL, rTEN_RESET] }

theorem w_endStep (key : Nat) : (endStep key).Within ft_endStep := by
  unfold endStep
  repeat' first | with_reducible apply Act.Within.nop | with_reducible apply Act.Within.mono (w_reqBoundary ..) | with_reducible apply Act.Within.mono (w_settleSrv ..) | with_reducible apply within_each | with_reducible apply within_withSome | with_reducible apply w_modReq | (with_reducible apply within_upd; exact ⟨_, rfl, by decide +kernel⟩) | decide +kernel | with_reducible apply Act.Within.dyn | with_reducible apply within_ite | with_reducible apply Act.Within.seq | with_reducible apply within_seqs_cons | with_reducible apply within_seqs_nil | with_reducible intro _ | split | dsimp only

def ft_advanceStep : Foot :=
  { flds := [.mem, .exh .load, .mov .iq, .srv .srvSt, .srv .req, .srv .srvStep, .que .pair, .que .cmd, .que .nextCmd, .ten .tenant], regs := [rDOC_IQ_CTL, rQUE_PAIR_CFG, rSRV_CTL, rTEN_CTL, rTEN_RESET] }

theorem w_advanceStep (key : Nat) : (advanceStep key).Within ft_advanceStep := by
  unfold advanceStep
  repeat' first | with_reducible apply Act.Within.nop | with_reducible apply Act.Within.mono (w_endStep ..) | with_reducible apply Act.Within.mono (w_issueServe ..) | with_reducible apply Act.Within.mono (w_modStep ..) | with_reducible apply within_each | with_reducible apply within_withSome | with_reducible apply w_modReq | decide +kernel | with_reducible apply Act.Within.dyn | with_reducible apply within_ite | with_reducible apply Act.Within.seq | with_reducible apply within_seqs_cons | with_reducible apply within_seqs_nil | with_reducible intro _ | split | dsimp only

def ft_registerPfx : Foot :=
  { flds := [.mem, .poison, .mov .iq, .srv .req, .srv .pfx, .que .pair, .que .cmd, .ten .tenant], regs := [rDOC_IQ_CTL, rQUE_PAIR_CFG, rTEN_ACC_T1, rTEN_ACC_T2, rTEN_ACC_T3, rTEN_CTL, rTEN_RESET] }

theorem w_registerPfx (i : Nat) : (registerPfx i).Within ft_registerPfx := by
  unfold registerPfx
  repeat' first | with_reducible apply Act.Within.nop | with_reducible apply Act.Within.mono (w_copyFrames ..) | with_reducible apply Act.Within.mono (w_drainReq ..) | with_reducible apply within_writeBytes | with_reducible apply w_modReq | with_reducible apply w_modPfx | decide +kernel | with_reducible apply Act.Within.dyn | with_reducible apply within_ite | with_reducible apply Act.Within.seq | with_reducible apply within_seqs_cons | with_reducible apply within_seqs_nil | with_reducible intro _ | split | dsimp only

def ft_prefillDone : Foot :=
  { flds := [.mem, .poison, .exh .load, .mov .iq, .srv .req, .srv .pfx, .srv .srvStep, .que .pair, .que .cmd, .que .nextCmd, .ten .tenant], regs := [rDOC_IQ_CTL, rQUE_PAIR_CFG, rTEN_ACC_T1, rTEN_ACC_T2, rTEN_ACC_T3, rTEN_CTL, rTEN_RESET] }

theorem w_prefillDone (i : Nat) : (prefillDone i).Within ft_prefillDone := by
  unfold prefillDone
  repeat' first | with_reducible apply Act.Within.nop | with_reducible apply Act.Within.mono (w_drainReq ..) | with_reducible apply Act.Within.mono (w_registerPfx ..) | with_reducible apply Act.Within.mono (w_startDraw ..) | with_reducible apply w_modReq | decide +kernel | with_reducible apply Act.Within.dyn | with_reducible apply within_ite | with_reducible apply Act.Within.seq | with_reducible apply within_seqs_cons | with_reducible apply within_seqs_nil | with_reducible intro _ | split | dsimp only

def ft_serveEnd : Foot :=
  { flds := [.mem, .poison, .exh .load, .mov .iq, .srv .srvSt, .srv .req, .srv .pfx, .srv .srvStep, .que .pair, .que .cmd, .que .nextCmd, .ten .tenant], regs := [rDOC_IQ_CTL, rQUE_PAIR_CFG, rSRV_CTL, rSRV_ERR, rTEN_ACC_T1, rTEN_ACC_T2, rTEN_ACC_T3, rTEN_CTL, rTEN_RESET] }

theorem w_serveEnd (id : Nat) (st : Status) : (serveEnd id st).Within ft_serveEnd := by
  unfold serveEnd
  repeat' first | with_reducible apply Act.Within.nop | with_reducible apply Act.Within.mono (w_advanceStep ..) | with_reducible apply Act.Within.mono (w_endStep ..) | with_reducible apply Act.Within.mono (w_faultReq ..) | with_reducible apply Act.Within.mono (w_issueServe ..) | with_reducible apply Act.Within.mono (w_modStep ..) | with_reducible apply Act.Within.mono (w_prefillDone ..) | with_reducible apply w_setErr | with_reducible apply Act.Within.mono (w_settleSrv ..) | with_reducible apply within_each | with_reducible refine within_when' ?_ | with_reducible apply within_withSome | (with_reducible apply within_upd; exact ⟨_, rfl, by decide +kernel⟩) | decide +kernel | exact errOk_none _ _ | exact errOk_any (by decide +kernel) | with_reducible apply Act.Within.dyn | with_reducible apply within_ite | with_reducible apply Act.Within.seq | with_reducible apply within_seqs_cons | with_reducible apply within_seqs_nil | with_reducible intro _ | split | dsimp only

def ft_captureScan : Foot :=
  { flds := [.ten .scanWord, .ten .scanBay], regs := [] }

theorem w_captureScan (b : Nat) : (captureScan b).Within ft_captureScan := by
  unfold captureScan
  repeat' first | with_reducible apply Act.Within.nop | with_reducible apply within_each | (with_reducible apply within_upd; exact ⟨_, rfl, by decide +kernel⟩) | decide +kernel | with_reducible apply Act.Within.dyn | with_reducible apply within_ite | with_reducible apply Act.Within.seq | with_reducible apply within_seqs_cons | with_reducible apply within_seqs_nil | with_reducible intro _ | split | dsimp only

def ft_restoreSite : Foot :=
  { flds := [.fab .slot, .fab .site, .fab .credit, .cell .acell, .cell .lane, .cell .scell], regs := [] }

theorem w_restoreSite (k : Nat) : (restoreSite k).Within ft_restoreSite := by
  unfold restoreSite
  repeat' first | with_reducible apply Act.Within.nop | with_reducible apply within_each | with_reducible refine within_when' ?_ | with_reducible apply within_withSome | with_reducible apply w_modSite | with_reducible apply w_modAcell | with_reducible apply w_modScell | (with_reducible apply within_upd; exact ⟨_, rfl, by decide +kernel⟩) | decide +kernel | with_reducible apply Act.Within.dyn | with_reducible apply within_ite | with_reducible apply Act.Within.seq | with_reducible apply within_seqs_cons | with_reducible apply within_seqs_nil | with_reducible intro _ | split | dsimp only

theorem w_restoreScan (b : Nat) : (restoreScan b).Within ft_restoreSite := by
  unfold restoreScan
  repeat' first | with_reducible apply Act.Within.nop | with_reducible apply Act.Within.mono (w_restoreSite ..) | with_reducible apply within_each | decide +kernel | with_reducible apply Act.Within.dyn | with_reducible apply within_ite | with_reducible apply Act.Within.seq | with_reducible apply within_seqs_cons | with_reducible apply within_seqs_nil | with_reducible intro _ | split | dsimp only

def ft_startScan : Foot :=
  { flds := [.fab .bay, .fab .slot, .fab .site, .fab .credit, .cell .acell, .cell .lane, .cell .scell, .ten .scanWord, .ten .scanBay, .ten .scanDir, .ten .scanWant], regs := [] }

theorem w_startScan (b dir : Nat) : (startScan b dir).Within ft_startScan := by
  unfold startScan
  repeat' first | with_reducible apply Act.Within.nop | with_reducible apply Act.Within.mono (w_captureScan ..) | with_reducible apply Act.Within.mono (w_restoreScan ..) | (with_reducible apply within_upd; exact ⟨_, rfl, by decide +kernel⟩) | decide +kernel | with_reducible apply Act.Within.dyn | with_reducible apply within_ite | with_reducible apply Act.Within.seq | with_reducible apply within_seqs_cons | with_reducible apply within_seqs_nil | with_reducible intro _ | split | dsimp only

def ft_pauseBundle : Foot :=
  { flds := [.lnk .pausedBundles], regs := [] }

theorem w_pauseBundle (p : Nat) : (pauseBundle p).Within ft_pauseBundle := by
  unfold pauseBundle
  repeat' first | with_reducible apply Act.Within.nop | with_reducible refine within_when' ?_ | (with_reducible apply within_upd; exact ⟨_, rfl, by decide +kernel⟩) | decide +kernel | with_reducible apply Act.Within.dyn | with_reducible apply within_ite | with_reducible apply Act.Within.seq | with_reducible apply within_seqs_cons | with_reducible apply within_seqs_nil | with_reducible intro _ | split | dsimp only

def ft_emit : Foot :=
  { flds := [.out .sentFlits, .lnk .port], regs := [] }

theorem w_emit (p : Nat) (f : List Byte) : (emit p f).Within ft_emit := by
  unfold emit
  repeat' first | with_reducible apply Act.Within.nop | with_reducible apply w_modSentFlits | (with_reducible apply within_upd; exact ⟨_, rfl, by decide +kernel⟩) | decide +kernel | with_reducible apply Act.Within.dyn | with_reducible apply within_ite | with_reducible apply Act.Within.seq | with_reducible apply within_seqs_cons | with_reducible apply within_seqs_nil | with_reducible intro _ | split | dsimp only

theorem w_sendFree (p : Nat) (f : List Byte) : (sendFree p f).Within ft_emit := by
  unfold sendFree
  repeat' first | with_reducible apply Act.Within.nop | with_reducible apply Act.Within.mono (w_emit ..) | decide +kernel | with_reducible apply Act.Within.dyn | with_reducible apply within_ite | with_reducible apply Act.Within.seq | with_reducible apply within_seqs_cons | with_reducible apply within_seqs_nil | with_reducible intro _ | split | dsimp only

theorem w_sendSeq (p : Nat) (f : List Byte) : (sendSeq p f).Within ft_emit := by
  unfold sendSeq
  repeat' first | with_reducible apply Act.Within.nop | with_reducible apply Act.Within.mono (w_emit ..) | (with_reducible apply within_upd; exact ⟨_, rfl, by decide +kernel⟩) | decide +kernel | with_reducible apply Act.Within.dyn | with_reducible apply within_ite | with_reducible apply Act.Within.seq | with_reducible apply within_seqs_cons | with_reducible apply within_seqs_nil | with_reducible intro _ | split | dsimp only

theorem w_drainWaiting (n p : Nat) : (drainWaiting n p).Within ft_emit := by
  induction n with
  | zero => exact .nop
  | succ n ih =>
    unfold drainWaiting
    repeat' first | with_reducible apply Act.Within.nop | exact ih | exact ih _ | with_reducible apply Act.Within.mono (w_sendSeq ..) | with_reducible apply w_modPort | decide +kernel | with_reducible apply Act.Within.dyn | with_reducible apply within_ite | with_reducible apply Act.Within.seq | with_reducible apply within_seqs_cons | with_reducible apply within_seqs_nil | with_reducible intro _ | split | dsimp only

theorem w_sendLink (p sub : Nat) (body : List Byte) : (sendLink p sub body).Within ft_emit := by
  unfold sendLink
  repeat' first | with_reducible apply Act.Within.nop | with_reducible apply Act.Within.mono (w_drainWaiting ..) | with_reducible apply w_modPort | decide +kernel | with_reducible apply Act.Within.dyn | with_reducible apply within_ite | with_reducible apply Act.Within.seq | with_reducible apply within_seqs_cons | with_reducible apply within_seqs_nil | with_reducible intro _ | split | dsimp only

def ft_freeEntry : Foot :=
  { flds := [.lnk .port], regs := [] }

theorem w_freeEntry (e : Option (Nat × Nat)) : (freeEntry e).Within ft_freeEntry := by
  unfold freeEntry
  repeat' first | with_reducible apply Act.Within.nop | with_reducible apply within_withSome | with_reducible apply w_modPort | decide +kernel | with_reducible apply Act.Within.dyn | with_reducible apply within_ite | with_reducible apply Act.Within.seq | with_reducible apply within_seqs_cons | with_reducible apply within_seqs_nil | with_reducible intro _ | split | dsimp only

def ft_countLOST : Foot :=
  { flds := [], regs := [rLNK_NOTICE_CNT] }

theorem w_countLOST : (countLOST).Within ft_countLOST := by
  unfold countLOST
  repeat' first | with_reducible apply Act.Within.nop | with_reducible apply within_addFld | decide +kernel | with_reducible apply Act.Within.dyn | with_reducible apply within_ite | with_reducible apply Act.Within.seq | with_reducible apply within_seqs_cons | with_reducible apply within_seqs_nil | with_reducible intro _ | split | dsimp only

theorem w_countCUT : (countCUT).Within ft_countLOST := by
  unfold countCUT
  repeat' first | with_reducible apply Act.Within.nop | with_reducible apply within_addFld | decide +kernel | with_reducible apply Act.Within.dyn | with_reducible apply within_ite | with_reducible apply Act.Within.seq | with_reducible apply within_seqs_cons | with_reducible apply within_seqs_nil | with_reducible intro _ | split | dsimp only

def ft_countNOPATH : Foot :=
  { flds := [], regs := [rLNK_ERR, rLNK_NOTICE_CNT] }

theorem w_countNOPATH : (countNOPATH).Within ft_countNOPATH := by
  unfold countNOPATH
  repeat' first | with_reducible apply Act.Within.nop | with_reducible apply w_setErr | with_reducible apply within_addFld | decide +kernel | exact errOk_none _ _ | exact errOk_any (by decide +kernel) | with_reducible apply Act.Within.dyn | with_reducible apply within_ite | with_reducible apply Act.Within.seq | with_reducible apply within_seqs_cons | with_reducible apply within_seqs_nil | with_reducible intro _ | split | dsimp only

def ft_takeLost : Foot :=
  { flds := [.lnk .localLost], regs := [] }

theorem w_takeLost (xs : List (Nat × Nat)) (gen : Option Nat) : (takeLost xs gen).Within ft_takeLost := by
  unfold takeLost
  repeat' first | with_reducible apply Act.Within.nop | with_reducible apply within_each | (with_reducible apply within_upd; exact ⟨_, rfl, by decide +kernel⟩) | decide +kernel | with_reducible apply Act.Within.dyn | with_reducible apply within_ite | with_reducible apply Act.Within.seq | with_reducible apply within_seqs_cons | with_reducible apply within_seqs_nil | with_reducible intro _ | split | dsimp only

def ft_putQueue : Foot :=
  { flds := [.lnk .lnkQ], regs := [] }

theorem w_putQueue (came : Option Nat) (entry : Option (Nat × Nat)) (f : List Byte) (b v : Nat) : (putQueue came entry f b v).Within ft_putQueue := by
  unfold putQueue
  repeat' first | with_reducible apply Act.Within.nop | with_reducible apply w_modLnkQ | decide +kernel | with_reducible apply Act.Within.dyn | with_reducible apply within_ite | with_reducible apply Act.Within.seq | with_reducible apply within_seqs_cons | with_reducible apply within_seqs_nil | with_reducible intro _ | split | dsimp only

def ft_sendLost : Foot :=
  { flds := [.lnk .lnkQ, .lnk .localLost], regs := [rLNK_ERR, rLNK_NOTICE_CNT] }

theorem w_sendLost (dest : List Nat) (load st reason gen : Nat) : (sendLost dest load st reason gen).Within ft_sendLost := by
  unfold sendLost
  repeat' first | with_reducible apply Act.Within.nop | with_reducible apply Act.Within.mono (w_countLOST ..) | with_reducible apply Act.Within.mono (w_countNOPATH ..) | with_reducible apply Act.Within.mono (w_putQueue ..) | (with_reducible apply within_upd; exact ⟨_, rfl, by decide +kernel⟩) | decide +kernel | with_reducible apply Act.Within.dyn | with_reducible apply within_ite | with_reducible apply Act.Within.seq | with_reducible apply within_seqs_cons | with_reducible apply within_seqs_nil | with_reducible intro _ | split | dsimp only

def ft_tellSource : Foot :=
  { flds := [.fresh, .lnk .lnkQ, .lnk .localLost], regs := [rLNK_ERR, rLNK_NOTICE_CNT] }

theorem w_tellSource (f : List Byte) (reason : Nat) (q : Nat × Nat × Option Nat) : (tellSource f reason q).Within ft_tellSource := by
  unfold tellSource
  repeat' first | with_reducible apply Act.Within.nop | with_reducible apply Act.Within.mono (w_sendLost ..) | with_reducible apply Act.Within.mono (w_takeLost ..) | with_reducible apply within_withFresh | decide +kernel | with_reducible apply Act.Within.dyn | with_reducible apply within_ite | with_reducible apply Act.Within.seq | with_reducible apply within_seqs_cons | with_reducible apply within_seqs_nil | with_reducible intro _ | split | dsimp only

theorem w_dropNoPath (f : List Byte) : (dropNoPath f).Within ft_tellSource := by
  unfold dropNoPath
  repeat' first | with_reducible apply Act.Within.nop | with_reducible apply Act.Within.mono (w_countNOPATH ..) | with_reducible apply Act.Within.mono (w_tellSource ..) | with_reducible apply within_each | decide +kernel | with_reducible apply Act.Within.dyn | with_reducible apply within_ite | with_reducible apply Act.Within.seq | with_reducible apply within_seqs_cons | with_reducible apply within_seqs_nil | with_reducible intro _ | split | dsimp only

theorem w_tellLost (fs : List (List Byte)) : (tellLost fs).Within ft_tellSource := by
  unfold tellLost
  repeat' first | with_reducible apply Act.Within.nop | with_reducible apply Act.Within.mono (w_sendLost ..) | with_reducible apply Act.Within.mono (w_tellSource ..) | with_reducible apply within_withFresh | with_reducible apply within_each | with_reducible refine within_when' ?_ | decide +kernel | with_reducible apply Act.Within.dyn | with_reducible apply within_ite | with_reducible apply Act.Within.seq | with_reducible apply within_seqs_cons | with_reducible apply within_seqs_nil | with_reducible intro _ | split | dsimp only

theorem w_State_sendsOn (s : State) (p : Nat) (x : Fwd) (a : Act) (h : s.sendsOn p x = some a) :
    a.Within ft_emit := by
  unfold State.sendsOn at h; split at h
  · cases h; exact .seq (.dyn fun _ => within_upd ⟨_, rfl, by decide +kernel⟩) ((w_sendSeq ..).mono (by decide +kernel))
  · cases h

def ft_queueStep : Foot :=
  { flds := [.fresh, .out .sentFlits, .lnk .port, .lnk .lnkQ, .lnk .localLost], regs := [rLNK_ERR, rLNK_NOTICE_CNT] }

theorem w_queueStep (k : Nat) (s : State) (a : Act) (h : queueStep k s = some a) : a.Within ft_queueStep := by
  have hout : ∀ (k : Nat) (rest : List Fwd) (e : Option (Nat × Nat)), (Act.seq (.upd (.lnkQ k rest)) (freeEntry e)).Within ft_queueStep :=
    fun k rest e => .seq (within_upd ⟨_, rfl, by decide +kernel⟩) ((w_freeEntry ..).mono (by decide +kernel))
  have hs : ∀ (p : Nat) (x : Fwd) (b : Act), s.sendsOn p x = some b → b.Within ft_queueStep :=
    fun p x b hb => (w_State_sendsOn s p x b hb).mono (by decide +kernel)
  unfold queueStep at h
  split at h
  · cases h
  · dsimp only at h
    split at h
    · split at h
      · obtain ⟨b, hb, rfl⟩ := Option.map_eq_some_iff.1 h
        exact .seq (hout _ _ _) (hs _ _ _ hb)
      · cases h
        refine within_seqs_cons (hout _ _ _) (within_seqs_cons ?_ (within_seqs_cons (within_each _ fun _ => ?_) (within_seqs_nil _)))
        · exact (w_countNOPATH ..).mono (by decide +kernel)
        · exact (w_takeLost ..).mono (by decide +kernel)
    · split at h
      · cases h; exact .seq (hout _ _ _) ((w_dropNoPath ..).mono (by decide +kernel))
      · split at h
        · cases h
        · obtain ⟨b, hb, rfl⟩ := Option.map_eq_some_iff.1 h
          obtain ⟨q, -, hq⟩ := Option.bind_eq_some_iff.1 hb
          exact .seq (hout _ _ _) (hs _ _ _ hq)

theorem w_pumpN (n : Nat) : (pumpN n).Within ft_queueStep := by
  induction n with
  | zero => exact .nop
  | succ n ih =>
    unfold pumpN
    refine within_withFresh (by decide +kernel) fun v => ?_
    refine .dyn fun s => ?_
    dsimp only; split
    · rename_i a h
      obtain ⟨k, -, hk⟩ := List.exists_of_findSome?_eq_some h
      exact .seq ((w_queueStep k s a hk).mono (by decide +kernel)) ih
    · exact .nop

theorem w_pump : (pump).Within ft_queueStep := by
  unfold pump
  repeat' first | with_reducible apply Act.Within.nop | with_reducible apply Act.Within.mono (w_pumpN ..) | with_reducible refine within_when' ?_ | decide +kernel | with_reducible apply Act.Within.dyn | with_reducible apply within_ite | with_reducible apply Act.Within.seq | with_reducible apply within_seqs_cons | with_reducible apply within_seqs_nil | with_reducible intro _ | split | dsimp only

def ft_inject : Foot :=
  { flds := [.fresh, .out .sentFlits, .lnk .port, .lnk .lnkQ, .lnk .localFlits, .lnk .localLost], regs := [rLNK_ERR, rLNK_NOTICE_CNT] }

theorem w_inject (f : List Byte) : (inject f).Within ft_inject := by
  unfold inject
  repeat' first | with_reducible apply Act.Within.nop | with_reducible apply Act.Within.mono (w_dropNoPath ..) | with_reducible apply Act.Within.mono (w_pump ..) | with_reducible apply Act.Within.mono (w_putQueue ..) | (with_reducible apply within_upd; exact ⟨_, rfl, by decide +kernel⟩) | decide +kernel | with_reducible apply Act.Within.dyn | with_reducible apply within_ite | with_reducible apply Act.Within.seq | with_reducible apply within_seqs_cons | with_reducible apply within_seqs_nil | with_reducible intro _ | split | dsimp only

theorem w_sendBridge (q : Nat) (f : List Byte) : (sendBridge q f).Within ft_queueStep := by
  unfold sendBridge
  repeat' first | with_reducible apply Act.Within.nop | with_reducible apply Act.Within.mono (w_pump ..) | with_reducible apply w_modLnkQ | decide +kernel | with_reducible apply Act.Within.dyn | with_reducible apply within_ite | with_reducible apply Act.Within.seq | with_reducible apply within_seqs_cons | with_reducible apply within_seqs_nil | with_reducible intro _ | split | dsimp only

def ft_settleRate : Foot :=
  { flds := [.lnk .port, .lnk .pausedBundles], regs := [] }

theorem w_settleRate (p : Nat) : (settleRate p).Within ft_settleRate := by
  unfold settleRate
  repeat' first | with_reducible apply Act.Within.nop | with_reducible apply Act.Within.mono (w_pauseBundle ..) | with_reducible apply w_modPort | decide +kernel | with_reducible apply Act.Within.dyn | with_reducible apply within_ite | with_reducible apply Act.Within.seq | with_reducible apply within_seqs_cons | with_reducible apply within_seqs_nil | with_reducible intro _ | split | dsimp only

def ft_tellRate : Foot :=
  { flds := [.out .sentFlits, .lnk .port, .lnk .pausedBundles], regs := [] }

theorem w_tellRate (p : Nat) : (tellRate p).Within ft_tellRate := by
  unfold tellRate
  repeat' first | with_reducible apply Act.Within.nop | with_reducible apply Act.Within.mono (w_sendLink ..) | with_reducible apply Act.Within.mono (w_settleRate ..) | with_reducible apply w_modPort | decide +kernel | with_reducible apply Act.Within.dyn | with_reducible apply within_ite | with_reducible apply Act.Within.seq | with_reducible apply within_seqs_cons | with_reducible apply within_seqs_nil | with_reducible intro _ | split | dsimp only

theorem w_tellRates : (tellRates).Within ft_tellRate := by
  unfold tellRates
  repeat' first | with_reducible apply Act.Within.nop | with_reducible apply Act.Within.mono (w_tellRate ..) | with_reducible apply within_each | decide +kernel | with_reducible apply Act.Within.dyn | with_reducible apply within_ite | with_reducible apply Act.Within.seq | with_reducible apply within_seqs_cons | with_reducible apply within_seqs_nil | with_reducible intro _ | split | dsimp only

theorem w_sendHello (p : Nat) : (sendHello p).Within ft_emit := by
  unfold sendHello
  repeat' first | with_reducible apply Act.Within.nop | with_reducible apply Act.Within.mono (w_sendFree ..) | with_reducible apply w_modPort | decide +kernel | with_reducible apply Act.Within.dyn | with_reducible apply within_ite | with_reducible apply Act.Within.seq | with_reducible apply within_seqs_cons | with_reducible apply within_seqs_nil | with_reducible intro _ | split | dsimp only

def ft_portFault : Foot :=
  { flds := [.log .logWr, .log .logLost, .log .logIntake, .log .ibiHold, .log .ibiWait, .out .ibis], regs := [rINT_CNT, rLNK_ERR, rLNK_ERR_PORT] }

theorem w_portFault (p code reason : Nat) : (portFault p code reason).Within ft_portFault := by
  unfold portFault
  repeat' first | with_reducible apply Act.Within.nop | with_reducible apply w_firstFault | with_reducible apply w_incident | decide +kernel | exact errOk_none _ _ | exact errOk_any (by decide +kernel) | with_reducible apply Act.Within.dyn | with_reducible apply within_ite | with_reducible apply Act.Within.seq | with_reducible apply within_seqs_cons | with_reducible apply within_seqs_nil | with_reducible intro _ | split | dsimp only

theorem w_tellEnds (p : Nat) (x : Port) : (tellEnds p x).Within ft_tellSource := by
  unfold tellEnds
  repeat' first | with_reducible apply Act.Within.nop | with_reducible apply Act.Within.mono (w_takeLost ..) | with_reducible apply Act.Within.mono (w_tellLost ..) | decide +kernel | with_reducible apply Act.Within.dyn | with_reducible apply within_ite | with_reducible apply Act.Within.seq | with_reducible apply within_seqs_cons | with_reducible apply within_seqs_nil | with_reducible intro _ | split | dsimp only

def ft_loseFlits : Foot :=
  { flds := [.fresh, .lnk .port, .lnk .lnkQ, .lnk .localLost], regs := [rLNK_ERR, rLNK_NOTICE_CNT] }

theorem w_loseFlits (p : Nat) : (loseFlits p).Within ft_loseFlits := by
  unfold loseFlits
  repeat' first | with_reducible apply Act.Within.nop | with_reducible apply Act.Within.mono (w_tellEnds ..) | with_reducible apply w_modPort | decide +kernel | with_reducible apply Act.Within.dyn | with_reducible apply within_ite | with_reducible apply Act.Within.seq | with_reducible apply within_seqs_cons | with_reducible apply within_seqs_nil | with_reducible intro _ | split | dsimp only

def ft_failPort : Foot :=
  { flds := [.fresh, .log .logWr, .log .logLost, .log .logIntake, .log .ibiHold, .log .ibiWait, .out .ibis, .out .sentFlits, .lnk .port, .lnk .lnkQ, .lnk .pausedBundles, .lnk .localLost], regs := [rINT_CNT, rLNK_ERR, rLNK_ERR_PORT, rLNK_NOTICE_CNT, rLNK_PORT_CTL] }

theorem w_failPort (p reason : Nat) : (failPort p reason).Within ft_failPort := by
  unfold failPort
  repeat' first | with_reducible apply Act.Within.nop | with_reducible apply Act.Within.mono (w_pauseBundle ..) | with_reducible apply Act.Within.mono (w_portFault ..) | with_reducible apply Act.Within.mono (w_pump ..) | with_reducible apply Act.Within.mono (w_tellEnds ..) | with_reducible apply within_setFld | (with_reducible apply within_upd; exact ⟨_, rfl, by decide +kernel⟩) | decide +kernel | with_reducible apply Act.Within.dyn | with_reducible apply within_ite | with_reducible apply Act.Within.seq | with_reducible apply within_seqs_cons | with_reducible apply within_seqs_nil | with_reducible intro _ | split | dsimp only

theorem w_quarantine (p reason : Nat) (tell : Bool) : (quarantine p reason tell).Within ft_failPort := by
  unfold quarantine
  repeat' first | with_reducible apply Act.Within.nop | with_reducible apply Act.Within.mono (w_pauseBundle ..) | with_reducible apply Act.Within.mono (w_portFault ..) | with_reducible apply Act.Within.mono (w_pump ..) | with_reducible apply Act.Within.mono (w_sendLink ..) | with_reducible refine within_when' ?_ | with_reducible apply within_setFld | with_reducible apply w_modPort | decide +kernel | with_reducible apply Act.Within.dyn | with_reducible apply within_ite | with_reducible apply Act.Within.seq | with_reducible apply within_seqs_cons | with_reducible apply within_seqs_nil | with_reducible intro _ | split | dsimp only

def ft_settlePort : Foot :=
  { flds := [.lnk .port], regs := [rLNK_PORT_CTL] }

theorem w_settlePort (p : Nat) : (settlePort p).Within ft_settlePort := by
  unfold settlePort
  repeat' first | with_reducible apply Act.Within.nop | with_reducible apply within_setFld | (with_reducible apply within_upd; exact ⟨_, rfl, by decide +kernel⟩) | decide +kernel | with_reducible apply Act.Within.dyn | with_reducible apply within_ite | with_reducible apply Act.Within.seq | with_reducible apply within_seqs_cons | with_reducible apply within_seqs_nil | with_reducible intro _ | split | dsimp only

theorem w_startPort (p : Nat) : (startPort p).Within ft_freeEntry := by
  unfold startPort
  repeat' first | with_reducible apply Act.Within.nop | (with_reducible apply within_upd; exact ⟨_, rfl, by decide +kernel⟩) | decide +kernel | with_reducible apply Act.Within.dyn | with_reducible apply within_ite | with_reducible apply Act.Within.seq | with_reducible apply within_seqs_cons | with_reducible apply within_seqs_nil | with_reducible intro _ | split | dsimp only

theorem w_checkPort (p : Nat) : (checkPort p).Within ft_emit := by
  unfold checkPort
  repeat' first | with_reducible apply Act.Within.nop | with_reducible apply Act.Within.mono (w_sendHello ..) | with_reducible apply w_modPort | decide +kernel | with_reducible apply Act.Within.dyn | with_reducible apply within_ite | with_reducible apply Act.Within.seq | with_reducible apply within_seqs_cons | with_reducible apply within_seqs_nil | with_reducible intro _ | split | dsimp only

def ft_activate : Foot :=
  { flds := [.lnk .port, .lnk .pausedBundles], regs := [rLNK_PORT_CTL] }

theorem w_activate (p : Nat) : (activate p).Within ft_activate := by
  unfold activate
  repeat' first | with_reducible apply Act.Within.nop | with_reducible apply Act.Within.mono (w_pauseBundle ..) | with_reducible apply within_setFld | with_reducible apply w_modPort | decide +kernel | with_reducible apply Act.Within.dyn | with_reducible apply within_ite | with_reducible apply Act.Within.seq | with_reducible apply within_seqs_cons | with_reducible apply within_seqs_nil | with_reducible intro _ | split | dsimp only

def ft_resendFrom : Foot :=
  { flds := [.fresh, .log .logWr, .log .logLost, .log .logIntake, .log .ibiHold, .log .ibiWait, .out .ibis, .out .sentFlits, .lnk .port, .lnk .lnkQ, .lnk .pausedBundles, .lnk .localLost], regs := [rINT_CNT, rLNK_ERR, rLNK_ERR_PORT, rLNK_NOTICE_CNT, rLNK_PORT_CTL, rLNK_PORT_REPLAY] }

theorem w_resendFrom (p seq : Nat) : (resendFrom p seq).Within ft_resendFrom := by
  unfold resendFrom
  repeat' first | with_reducible apply Act.Within.nop | with_reducible apply Act.Within.mono (w_emit ..) | with_reducible apply Act.Within.mono (w_failPort ..) | with_reducible apply within_each | with_reducible refine within_when' ?_ | with_reducible apply within_addFld | with_reducible apply w_modPort | decide +kernel | with_reducible apply Act.Within.dyn | with_reducible apply within_ite | with_reducible apply Act.Within.seq | with_reducible apply within_seqs_cons | with_reducible apply within_seqs_nil | with_reducible intro _ | split | dsimp only

def ft_acked : Foot :=
  { flds := [.out .sentFlits, .lnk .port], regs := [rLNK_PORT_CTL] }

theorem w_acked (p ack : Nat) : (acked p ack).Within ft_acked := by
  unfold acked
  repeat' first | with_reducible apply Act.Within.nop | with_reducible apply Act.Within.mono (w_drainWaiting ..) | with_reducible apply Act.Within.mono (w_settlePort ..) | with_reducible refine within_when' ?_ | with_reducible apply w_modPort | decide +kernel | with_reducible apply Act.Within.dyn | with_reducible apply within_ite | with_reducible apply Act.Within.seq | with_reducible apply within_seqs_cons | with_reducible apply within_seqs_nil | with_reducible intro _ | split | dsimp only

def ft_sendToPeer : Foot :=
  { flds := [.fresh, .out .sentFlits, .lnk .port, .lnk .lnkQ, .lnk .localFlits, .lnk .localLost], regs := [rLNK_ERR, rLNK_NOTICE_CNT, rTEN_ACC_LINK] }

theorem w_sendToPeer (h : Nat) (r f : List Byte) : (sendToPeer h r f).Within ft_sendToPeer := by
  unfold sendToPeer
  repeat' first | with_reducible apply Act.Within.nop | with_reducible apply Act.Within.mono (w_inject ..) | with_reducible apply Act.Within.mono (w_sendBridge ..) | with_reducible apply within_addFld | decide +kernel | with_reducible apply Act.Within.dyn | with_reducible apply within_ite | with_reducible apply Act.Within.seq | with_reducible apply within_seqs_cons | with_reducible apply within_seqs_nil | with_reducible intro _ | split | dsimp only

def ft_flushPack : Foot :=
  { flds := [.fresh, .out .sentFlits, .lnk .port, .lnk .lnkQ, .lnk .stream, .lnk .localFlits, .lnk .localLost], regs := [rLNK_ERR, rLNK_NOTICE_CNT, rTEN_ACC_LINK] }

theorem w_flushPack (h st : Nat) : (flushPack h st).Within ft_flushPack := by
  unfold flushPack
  repeat' first | with_reducible apply Act.Within.nop | with_reducible apply Act.Within.mono (w_sendToPeer ..) | with_reducible apply within_each | with_reducible apply w_modStream | decide +kernel | with_reducible apply Act.Within.dyn | with_reducible apply within_ite | with_reducible apply Act.Within.seq | with_reducible apply within_seqs_cons | with_reducible apply within_seqs_nil | with_reducible intro _ | split | dsimp only

theorem w_gatewayOut (k out : Nat) (t : Token) : (gatewayOut k out t).Within ft_flushPack := by
  unfold gatewayOut
  repeat' first | with_reducible apply Act.Within.nop | with_reducible apply Act.Within.mono (w_flushPack ..) | with_reducible refine within_when' ?_ | with_reducible apply within_withSome | (with_reducible apply within_upd; exact ⟨_, rfl, by decide +kernel⟩) | decide +kernel | with_reducible apply Act.Within.dyn | with_reducible apply within_ite | with_reducible apply Act.Within.seq | with_reducible apply within_seqs_cons | with_reducible apply within_seqs_nil | with_reducible intro _ | split | dsimp only

theorem w_flushCredits (h st : Nat) : (flushCredits h st).Within ft_flushPack := by
  unfold flushCredits
  repeat' first | with_reducible apply Act.Within.nop | with_reducible apply Act.Within.mono (w_sendToPeer ..) | with_reducible apply within_withSome | with_reducible apply w_modStream | decide +kernel | with_reducible apply Act.Within.dyn | with_reducible apply within_ite | with_reducible apply Act.Within.seq | with_reducible apply within_seqs_cons | with_reducible apply within_seqs_nil | with_reducible intro _ | split | dsimp only

theorem w_takeStored (h st : Nat) : (takeStored h st).Within ft_flushPack := by
  unfold takeStored
  repeat' first | with_reducible apply Act.Within.nop | with_reducible apply Act.Within.mono (w_flushCredits ..) | with_reducible refine within_when' ?_ | with_reducible apply within_withSome | with_reducible apply w_modStream | decide +kernel | with_reducible apply Act.Within.dyn | with_reducible apply within_ite | with_reducible apply Act.Within.seq | with_reducible apply within_seqs_cons | with_reducible apply within_seqs_nil | with_reducible intro _ | split | dsimp only

theorem w_State_gatewayFeed (s : State) (k inp : Nat) (x : Token × Act) (h : s.gatewayFeed k inp = some x) :
    x.2.Within ft_flushPack := by
  unfold State.gatewayFeed at h
  repeat' split at h
  all_goals first | cases h; done | (cases h; exact (w_takeStored ..).mono (by decide +kernel))

def ft_gatewayCredit : Foot :=
  { flds := [], regs := [] }

theorem w_gatewayCredit (_k _inp _stream : Nat) : (gatewayCredit _k _inp _stream).Within ft_gatewayCredit := by
  unfold gatewayCredit
  repeat' first | with_reducible apply Act.Within.nop | decide +kernel | with_reducible apply Act.Within.dyn | with_reducible apply within_ite | with_reducible apply Act.Within.seq | with_reducible apply within_seqs_cons | with_reducible apply within_seqs_nil | with_reducible intro _ | split | dsimp only

def ft_resetStream : Foot :=
  { flds := [.lnk .stream], regs := [] }

theorem w_resetStream (h st gen : Nat) : (resetStream h st gen).Within ft_resetStream := by
  unfold resetStream
  repeat' first | with_reducible apply Act.Within.nop | (with_reducible apply within_upd; exact ⟨_, rfl, by decide +kernel⟩) | decide +kernel | with_reducible apply Act.Within.dyn | with_reducible apply within_ite | with_reducible apply Act.Within.seq | with_reducible apply within_seqs_cons | with_reducible apply within_seqs_nil | with_reducible intro _ | split | dsimp only

def ft_streamReset : Foot :=
  { flds := [.fresh, .out .sentFlits, .lnk .port, .lnk .lnkQ, .lnk .stream, .lnk .localLost], regs := [rLNK_ERR, rLNK_NOTICE_CNT] }

theorem w_streamReset (h : Nat) : (streamReset h).Within ft_streamReset := by
  unfold streamReset
  repeat' first | with_reducible apply Act.Within.nop | with_reducible apply Act.Within.mono (w_pump ..) | with_reducible apply Act.Within.mono (w_resetStream ..) | with_reducible apply Act.Within.mono (w_sendLost ..) | with_reducible apply within_each | with_reducible refine within_when' ?_ | decide +kernel | with_reducible apply Act.Within.dyn | with_reducible apply within_ite | with_reducible apply Act.Within.seq | with_reducible apply within_seqs_cons | with_reducible apply within_seqs_nil | with_reducible intro _ | split | dsimp only

theorem w_dropStreams (h : Nat) : (dropStreams h).Within ft_resetStream := by
  unfold dropStreams
  repeat' first | with_reducible apply Act.Within.nop | with_reducible apply within_each | (with_reducible apply within_upd; exact ⟨_, rfl, by decide +kernel⟩) | decide +kernel | with_reducible apply Act.Within.dyn | with_reducible apply within_ite | with_reducible apply Act.Within.seq | with_reducible apply within_seqs_cons | with_reducible apply within_seqs_nil | with_reducible intro _ | split | dsimp only

def ft_addCause : Foot :=
  { flds := [.exh .load], regs := [] }

theorem w_addCause (h rank : Nat) : (addCause h rank).Within ft_addCause := by
  unfold addCause
  repeat' first | with_reducible apply Act.Within.nop | with_reducible apply w_modLoad | decide +kernel | with_reducible apply Act.Within.dyn | with_reducible apply within_ite | with_reducible apply Act.Within.seq | with_reducible apply within_seqs_cons | with_reducible apply within_seqs_nil | with_reducible intro _ | split | dsimp only

theorem w_siteCause (k rank : Nat) : (siteCause k rank).Within ft_addCause := by
  unfold siteCause
  repeat' first | with_reducible apply Act.Within.nop | with_reducible apply Act.Within.mono (w_addCause ..) | with_reducible apply within_withSome | decide +kernel | with_reducible apply Act.Within.dyn | with_reducible apply within_ite | with_reducible apply Act.Within.seq | with_reducible apply within_seqs_cons | with_reducible apply within_seqs_nil | with_reducible intro _ | split | dsimp only

def ft_initCredit : Foot :=
  { flds := [.fab .credit, .fab .creditFly], regs := [] }

theorem w_initCredit (k : Nat) (x : Slot) : (initCredit k x).Within ft_initCredit := by
  unfold initCredit
  repeat' first | with_reducible apply Act.Within.nop | with_reducible refine within_when' ?_ | with_reducible apply within_withSome | (with_reducible apply within_upd; exact ⟨_, rfl, by decide +kernel⟩) | decide +kernel | with_reducible apply Act.Within.dyn | with_reducible apply within_ite | with_reducible apply Act.Within.seq | with_reducible apply within_seqs_cons | with_reducible apply within_seqs_nil | with_reducible intro _ | split | dsimp only

def ft_clearLoadQueues : Foot :=
  { flds := [.fab .slot, .fab .credit, .fab .creditFly, .fab .wire, .cell .acell, .cell .arrived, .cell .got, .cell .cout, .cell .scell], regs := [] }

theorem w_clearLoadQueues (h : Nat) : (clearLoadQueues h).Within ft_clearLoadQueues := by
  unfold clearLoadQueues
  repeat' first | with_reducible apply Act.Within.nop | with_reducible apply Act.Within.mono (w_initCredit ..) | with_reducible apply within_each | with_reducible refine within_when' ?_ | with_reducible apply within_withSome | with_reducible apply w_modSlot | with_reducible apply w_modAcell | with_reducible apply w_modScell | (with_reducible apply within_upd; exact ⟨_, rfl, by decide +kernel⟩) | decide +kernel | with_reducible apply Act.Within.dyn | with_reducible apply within_ite | with_reducible apply Act.Within.seq | with_reducible apply within_seqs_cons | with_reducible apply within_seqs_nil | with_reducible intro _ | split | dsimp only

theorem w_clearBay (b : Nat) : (clearBay b).Within footBay := by
  unfold clearBay
  repeat' first | with_reducible apply Act.Within.nop | with_reducible apply within_each | (with_reducible apply within_upd; exact ⟨_, rfl, by decide +kernel⟩) | decide +kernel | with_reducible apply Act.Within.dyn | with_reducible apply within_ite | with_reducible apply Act.Within.seq | with_reducible apply within_seqs_cons | with_reducible apply within_seqs_nil | with_reducible intro _ | split | dsimp only

def ft_setFences : Foot :=
  { flds := [], regs := [rFAB_BAY_FENCE] }

theorem w_setFences : (setFences).Within ft_setFences := by
  unfold setFences
  repeat' first | with_reducible apply Act.Within.nop | with_reducible apply within_setReg | decide +kernel | with_reducible apply Act.Within.dyn | with_reducible apply within_ite | with_reducible apply Act.Within.seq | with_reducible apply within_seqs_cons | with_reducible apply within_seqs_nil | with_reducible intro _ | split | dsimp only

def ft_leaveBay : Foot :=
  { flds := [.fab .bay], regs := [] }

theorem w_leaveBay (b : Nat) : (leaveBay b).Within ft_leaveBay := by
  unfold leaveBay
  repeat' first | with_reducible apply Act.Within.nop | with_reducible apply w_modBay | decide +kernel | with_reducible apply Act.Within.dyn | with_reducible apply within_ite | with_reducible apply Act.Within.seq | with_reducible apply within_seqs_cons | with_reducible apply within_seqs_nil | with_reducible intro _ | split | dsimp only

def ft_drainBays : Foot :=
  { flds := [.fab .bay], regs := [rFAB_BAY_FENCE] }

theorem w_drainBays (h : Nat) : (drainBays h).Within ft_drainBays := by
  unfold drainBays
  repeat' first | with_reducible apply Act.Within.nop | with_reducible apply Act.Within.mono (w_leaveBay ..) | with_reducible apply Act.Within.mono (w_setFences ..) | with_reducible apply within_each | with_reducible refine within_when' ?_ | decide +kernel | with_reducible apply Act.Within.dyn | with_reducible apply within_ite | with_reducible apply Act.Within.seq | with_reducible apply within_seqs_cons | with_reducible apply within_seqs_nil | with_reducible intro _ | split | dsimp only

def ft_unpinLoad : Foot :=
  { flds := [.mem, .exh .load], regs := [] }

theorem w_unpinLoad (h : Nat) : (unpinLoad h).Within ft_unpinLoad := by
  unfold unpinLoad
  repeat' first | with_reducible apply Act.Within.nop | with_reducible apply Act.Within.mono (w_unpinCopy ..) | with_reducible apply within_each | with_reducible refine within_when' ?_ | with_reducible apply within_withSome | with_reducible apply w_modLoad | decide +kernel | with_reducible apply Act.Within.dyn | with_reducible apply within_ite | with_reducible apply Act.Within.seq | with_reducible apply within_seqs_cons | with_reducible apply within_seqs_nil | with_reducible intro _ | split | dsimp only

theorem w_finishCmd (id h : Nat) (st : Status) : (finishCmd id h st).Within ft_serveEnd := by
  unfold finishCmd
  repeat' first | with_reducible apply Act.Within.nop | with_reducible apply Act.Within.mono (w_complete ..) | with_reducible apply Act.Within.mono (w_serveEnd ..) | with_reducible apply within_withSome | decide +kernel | with_reducible apply Act.Within.dyn | with_reducible apply within_ite | with_reducible apply Act.Within.seq | with_reducible apply within_seqs_cons | with_reducible apply within_seqs_nil | with_reducible intro _ | split | dsimp only

def ft_settleRelease : Foot :=
  { flds := [.mem, .poison, .exh .load, .mov .iq, .srv .srvSt, .srv .req, .srv .pfx, .srv .srvStep, .que .pair, .que .cmd, .que .nextCmd, .ten .tenant, .ten .slice], regs := [rDOC_IQ_CTL, rQUE_PAIR_CFG, rSRV_CTL, rSRV_ERR, rTEN_ACC_T1, rTEN_ACC_T2, rTEN_ACC_T3, rTEN_CTL, rTEN_RESET] }

theorem w_settleRelease (h : Nat) : (settleRelease h).Within ft_settleRelease := by
  unfold settleRelease
  repeat' first | with_reducible apply Act.Within.nop | with_reducible apply Act.Within.mono (w_complete ..) | with_reducible apply Act.Within.mono (w_finishCmd ..) | with_reducible apply Act.Within.mono (w_settleTenant ..) | with_reducible apply within_each | with_reducible refine within_when' ?_ | with_reducible apply within_withSome | with_reducible apply w_modSlice | (with_reducible apply within_upd; exact ⟨_, rfl, by decide +kernel⟩) | decide +kernel | with_reducible apply Act.Within.dyn | with_reducible apply within_ite | with_reducible apply Act.Within.seq | with_reducible apply within_seqs_cons | with_reducible apply within_seqs_nil | with_reducible intro _ | split | dsimp only

def ft_releaseLoad : Foot :=
  { flds := [.mem, .poison, .fab .bay, .exh .load, .mov .iq, .srv .srvSt, .srv .req, .srv .pfx, .srv .srvStep, .que .pair, .que .cmd, .que .nextCmd, .ten .tenant, .ten .slice, .lnk .stream], regs := [rDOC_IQ_CTL, rFAB_BAY_FENCE, rQUE_PAIR_CFG, rSRV_CTL, rSRV_ERR, rTEN_ACC_T1, rTEN_ACC_T2, rTEN_ACC_T3, rTEN_CTL, rTEN_RESET] }

theorem w_releaseLoad (h : Nat) : (releaseLoad h).Within ft_releaseLoad := by
  unfold releaseLoad
  repeat' first | with_reducible apply Act.Within.nop | with_reducible apply Act.Within.mono (w_cancelLoadWork ..) | with_reducible apply Act.Within.mono (w_dropStreams ..) | with_reducible apply Act.Within.mono (w_leaveBay ..) | with_reducible apply Act.Within.mono (w_setFences ..) | with_reducible apply Act.Within.mono (w_settleRelease ..) | with_reducible apply Act.Within.mono (w_unpinCopy ..) | with_reducible apply Act.Within.mono (w_unpinLoad ..) | with_reducible apply within_each | with_reducible apply within_withSome | with_reducible apply w_modLoad | decide +kernel | with_reducible apply Act.Within.dyn | with_reducible apply within_ite | with_reducible apply Act.Within.seq | with_reducible apply within_seqs_cons | with_reducible apply within_seqs_nil | with_reducible intro _ | split | dsimp only

theorem w_boundary (h : Nat) : (boundary h).Within footLoad := by
  unfold boundary
  repeat' first | with_reducible apply Act.Within.nop | with_reducible apply Act.Within.mono (w_drainBays ..) | with_reducible apply Act.Within.mono (w_releaseLoad ..) | with_reducible apply Act.Within.mono (w_startScan ..) | with_reducible apply within_each | with_reducible apply within_whenS | decide +kernel | with_reducible apply Act.Within.dyn | with_reducible apply within_ite | with_reducible apply Act.Within.seq | with_reducible apply within_seqs_cons | with_reducible apply within_seqs_nil | with_reducible intro _ | split | dsimp only

theorem w_endAs (h : Nat) (st : Status) (clears : Bool) : (endAs h st clears).Within footLoad := by
  unfold endAs
  repeat' first | with_reducible apply Act.Within.nop | with_reducible apply Act.Within.mono (w_boundary ..) | with_reducible apply Act.Within.mono (w_cancelLoadWork ..) | with_reducible apply Act.Within.mono (w_clearLoadQueues ..) | with_reducible apply Act.Within.mono (w_complete ..) | with_reducible apply Act.Within.mono (w_finishCmd ..) | with_reducible apply Act.Within.mono (w_streamReset ..) | with_reducible refine within_when' ?_ | with_reducible apply within_withSome | with_reducible apply w_modLoad | decide +kernel | with_reducible apply Act.Within.dyn | with_reducible apply within_ite | with_reducible apply Act.Within.seq | with_reducible apply within_seqs_cons | with_reducible apply within_seqs_nil | with_reducible intro _ | split | dsimp only

theorem w_endLoad (h : Nat) : (endLoad h).Within footLoad := by
  unfold endLoad
  repeat' first | with_reducible apply Act.Within.nop | with_reducible apply Act.Within.mono (w_endAs ..) | decide +kernel | with_reducible apply Act.Within.dyn | with_reducible apply within_ite | with_reducible apply Act.Within.seq | with_reducible apply within_seqs_cons | with_reducible apply within_seqs_nil | with_reducible intro _ | split | dsimp only

theorem w_endWith (h rank : Nat) : (endWith h rank).Within footLoad := by
  unfold endWith
  repeat' first | with_reducible apply Act.Within.nop | with_reducible apply Act.Within.mono (w_addCause ..) | with_reducible apply Act.Within.mono (w_endLoad ..) | decide +kernel | with_reducible apply Act.Within.dyn | with_reducible apply within_ite | with_reducible apply Act.Within.seq | with_reducible apply within_seqs_cons | with_reducible apply within_seqs_nil | with_reducible intro _ | split | dsimp only

def ft_installCell : Foot :=
  { flds := [.fab .site, .cell .acell, .cell .scell], regs := [] }

theorem w_installCell (k e : Nat) : (installCell k e).Within ft_installCell := by
  unfold installCell
  repeat' first | with_reducible apply Act.Within.nop | with_reducible apply w_modSite | with_reducible apply w_modAcell | with_reducible apply w_modScell | decide +kernel | with_reducible apply Act.Within.dyn | with_reducible apply within_ite | with_reducible apply Act.Within.seq | with_reducible apply within_seqs_cons | with_reducible apply within_seqs_nil | with_reducible intro _ | split | dsimp only

def ft_liveSlot : Foot :=
  { flds := [.fab .slot, .fab .credit, .fab .creditFly], regs := [] }

theorem w_liveSlot (k i : Nat) (x : Slot) : (liveSlot k i x).Within ft_liveSlot := by
  unfold liveSlot
  repeat' first | with_reducible apply Act.Within.nop | with_reducible apply Act.Within.mono (w_initCredit ..) | (with_reducible apply within_upd; exact ⟨_, rfl, by decide +kernel⟩) | decide +kernel | with_reducible apply Act.Within.dyn | with_reducible apply within_ite | with_reducible apply Act.Within.seq | with_reducible apply within_seqs_cons | with_reducible apply within_seqs_nil | with_reducible intro _ | split | dsimp only

def ft_settleSlots : Foot :=
  { flds := [.fab .slot, .fab .newSlot, .fab .credit, .fab .creditFly], regs := [] }

theorem w_settleSlots (k : Nat) : (settleSlots k).Within ft_settleSlots := by
  unfold settleSlots
  repeat' first | with_reducible apply Act.Within.nop | with_reducible apply Act.Within.mono (w_liveSlot ..) | with_reducible apply within_each | with_reducible refine within_when' ?_ | with_reducible apply within_withSome | (with_reducible apply within_upd; exact ⟨_, rfl, by decide +kernel⟩) | decide +kernel | with_reducible apply Act.Within.dyn | with_reducible apply within_ite | with_reducible apply Act.Within.seq | with_reducible apply within_seqs_cons | with_reducible apply within_seqs_nil | with_reducible intro _ | split | dsimp only

theorem w_settleRepl (h : Nat) : (settleRepl h).Within ft_releaseLoad := by
  unfold settleRepl
  repeat' first | with_reducible apply Act.Within.nop | with_reducible apply Act.Within.mono (w_complete ..) | with_reducible apply Act.Within.mono (w_releaseLoad ..) | with_reducible apply Act.Within.mono (w_unpinCopy ..) | with_reducible refine within_when' ?_ | with_reducible apply within_withSome | with_reducible apply w_modLoad | decide +kernel | with_reducible apply Act.Within.dyn | with_reducible apply within_ite | with_reducible apply Act.Within.seq | with_reducible apply within_seqs_cons | with_reducible apply within_seqs_nil | with_reducible intro _ | split | dsimp only

theorem w_settleBay (b : Nat) : (settleBay b).Within ft_releaseLoad := by
  unfold settleBay
  repeat' first | with_reducible apply Act.Within.nop | with_reducible apply Act.Within.mono (w_drainBays ..) | with_reducible apply Act.Within.mono (w_settleRepl ..) | with_reducible apply within_whenS | with_reducible apply within_withSome | with_reducible apply w_modBay | decide +kernel | with_reducible apply Act.Within.dyn | with_reducible apply within_ite | with_reducible apply Act.Within.seq | with_reducible apply within_seqs_cons | with_reducible apply within_seqs_nil | with_reducible intro _ | split | dsimp only

def ft_settleSite : Foot :=
  { flds := [.mem, .poison, .fab .bay, .fab .site, .exh .load, .mov .iq, .srv .srvSt, .srv .req, .srv .pfx, .srv .srvStep, .que .pair, .que .cmd, .que .nextCmd, .ten .tenant, .ten .slice, .lnk .stream], regs := [rDOC_IQ_CTL, rFAB_BAY_FENCE, rQUE_PAIR_CFG, rSRV_CTL, rSRV_ERR, rTEN_ACC_T1, rTEN_ACC_T2, rTEN_ACC_T3, rTEN_CTL, rTEN_RESET] }

theorem w_settleSite (k : Nat) : (settleSite k).Within ft_settleSite := by
  unfold settleSite
  repeat' first | with_reducible apply Act.Within.nop | with_reducible apply Act.Within.mono (w_settleBay ..) | with_reducible apply w_modSite | decide +kernel | with_reducible apply Act.Within.dyn | with_reducible apply within_ite | with_reducible apply Act.Within.seq | with_reducible apply within_seqs_cons | with_reducible apply within_seqs_nil | with_reducible intro _ | split | dsimp only

theorem w_baySees (k : Nat) (t : Token) : (baySees k t).Within ft_leaveBay := by
  unfold baySees
  repeat' first | with_reducible apply Act.Within.nop | with_reducible refine within_when' ?_ | with_reducible apply w_modBay | decide +kernel | with_reducible apply Act.Within.dyn | with_reducible apply within_ite | with_reducible apply Act.Within.seq | with_reducible apply within_seqs_cons | with_reducible apply within_seqs_nil | with_reducible intro _ | split | dsimp only

def ft_cellSendN : Foot :=
  { flds := [.fab .credit, .fab .wire, .cell .cout], regs := [] }

theorem w_cellSendN (n k st : Nat) : (cellSendN n k st).Within ft_cellSendN := by
  induction n with
  | zero => exact .nop
  | succ n ih =>
    unfold cellSendN
    repeat' first | with_reducible apply Act.Within.nop | exact ih | exact ih _ | with_reducible apply w_modCredit | with_reducible apply w_modWire | (with_reducible apply within_upd; exact ⟨_, rfl, by decide +kernel⟩) | decide +kernel | with_reducible apply Act.Within.dyn | with_reducible apply within_ite | with_reducible apply Act.Within.seq | with_reducible apply within_seqs_cons | with_reducible apply within_seqs_nil | with_reducible intro _ | split | dsimp only

theorem w_cellSend (k st : Nat) : (cellSend k st).Within ft_cellSendN := by
  unfold cellSend
  repeat' first | with_reducible apply Act.Within.nop | with_reducible apply Act.Within.mono (w_cellSendN ..) | decide +kernel | with_reducible apply Act.Within.dyn | with_reducible apply within_ite | with_reducible apply Act.Within.seq | with_reducible apply within_seqs_cons | with_reducible apply within_seqs_nil | with_reducible intro _ | split | dsimp only

theorem w_cellPut (k st : Nat) (t : Token) : (cellPut k st t).Within ft_cellSendN := by
  unfold cellPut
  repeat' first | with_reducible apply Act.Within.nop | with_reducible apply Act.Within.mono (w_cellSend ..) | with_reducible apply w_modCout | decide +kernel | with_reducible apply Act.Within.dyn | with_reducible apply within_ite | with_reducible apply Act.Within.seq | with_reducible apply within_seqs_cons | with_reducible apply within_seqs_nil | with_reducible intro _ | split | dsimp only

def ft_creditBack : Foot :=
  { flds := [.fab .creditFly], regs := [] }

theorem w_creditBack (k inp stream : Nat) : (creditBack k inp stream).Within ft_creditBack := by
  unfold creditBack
  repeat' first | with_reducible apply Act.Within.nop | with_reducible apply Act.Within.mono (w_gatewayCredit ..) | with_reducible apply w_modCreditFly | decide +kernel | with_reducible apply Act.Within.dyn | with_reducible apply within_ite | with_reducible apply Act.Within.seq | with_reducible apply within_seqs_cons | with_reducible apply within_seqs_nil | with_reducible intro _ | split | dsimp only

def ft_sendOut : Foot :=
  { flds := [.fresh, .fab .credit, .fab .wire, .cell .arrived, .out .sentFlits, .lnk .port, .lnk .lnkQ, .lnk .stream, .lnk .localFlits, .lnk .localLost], regs := [rLNK_ERR, rLNK_NOTICE_CNT, rTEN_ACC_LINK] }

theorem w_sendOut (k o stream : Nat) (t : Token) : (sendOut k o stream t).Within ft_sendOut := by
  unfold sendOut
  repeat' first | with_reducible apply Act.Within.nop | with_reducible apply Act.Within.mono (w_gatewayOut ..) | with_reducible apply w_modCredit | with_reducible apply w_modWire | with_reducible apply w_modArrived | decide +kernel | with_reducible apply Act.Within.dyn | with_reducible apply within_ite | with_reducible apply Act.Within.seq | with_reducible apply within_seqs_cons | with_reducible apply within_seqs_nil | with_reducible intro _ | split | dsimp only

theorem w_forwardSlot (k i : Nat) (x : Slot) (t : Token) : (forwardSlot k i x t).Within footLoad := by
  unfold forwardSlot
  repeat' first | with_reducible apply Act.Within.nop | with_reducible apply Act.Within.mono (w_creditBack ..) | with_reducible apply Act.Within.mono (w_sendOut ..) | with_reducible apply Act.Within.mono (w_settleSite ..) | with_reducible apply Act.Within.mono (w_settleSlots ..) | with_reducible apply within_each | with_reducible refine within_when' ?_ | (with_reducible apply within_upd; exact ⟨_, rfl, by decide +kernel⟩) | decide +kernel | with_reducible apply Act.Within.dyn | with_reducible apply within_ite | with_reducible apply Act.Within.seq | with_reducible apply within_seqs_cons | with_reducible apply within_seqs_nil | with_reducible intro _ | split | dsimp only

theorem w_forwardN (n k : Nat) : (forwardN n k).Within footLoad := by
  induction n with
  | zero => exact .nop
  | succ n ih =>
    unfold forwardN
    repeat' first | with_reducible apply Act.Within.nop | exact ih | exact ih _ | with_reducible apply Act.Within.mono (w_forwardSlot ..) | decide +kernel | with_reducible apply Act.Within.dyn | with_reducible apply within_ite | with_reducible apply Act.Within.seq | with_reducible apply within_seqs_cons | with_reducible apply within_seqs_nil | with_reducible intro _ | split | dsimp only

theorem w_forward (k : Nat) : (forward k).Within footLoad := by
  unfold forward
  repeat' first | with_reducible apply Act.Within.nop | with_reducible apply Act.Within.mono (w_forwardN ..) | decide +kernel | with_reducible apply Act.Within.dyn | with_reducible apply within_ite | with_reducible apply Act.Within.seq | with_reducible apply within_seqs_cons | with_reducible apply within_seqs_nil | with_reducible intro _ | split | dsimp only

def ft_autoscan : Foot :=
  { flds := [.fab .bay, .fab .slot, .fab .site, .fab .credit, .cell .acell, .cell .lane, .cell .scell, .ten .scanWord, .ten .scanBay, .ten .scanDir, .ten .scanWant], regs := [rINT_ERR] }

theorem w_autoscan (b : Nat) : (autoscan b).Within ft_autoscan := by
  unfold autoscan
  repeat' first | with_reducible apply Act.Within.nop | with_reducible apply w_setErr | with_reducible apply Act.Within.mono (w_startScan ..) | decide +kernel | exact errOk_none _ _ | exact errOk_any (by decide +kernel) | with_reducible apply Act.Within.dyn | with_reducible apply within_ite | with_reducible apply Act.Within.seq | with_reducible apply within_seqs_cons | with_reducible apply within_seqs_nil | with_reducible intro _ | split | dsimp only

theorem w_faultBay (b : Nat) : (faultBay b).Within footWork := by
  unfold faultBay
  repeat' first | with_reducible apply Act.Within.nop | with_reducible apply Act.Within.mono (w_autoscan ..) | with_reducible apply Act.Within.mono (w_endWith ..) | with_reducible apply within_withSome | with_reducible apply w_modBay | decide +kernel | with_reducible apply Act.Within.dyn | with_reducible apply within_ite | with_reducible apply Act.Within.seq | with_reducible apply within_seqs_cons | with_reducible apply within_seqs_nil | with_reducible intro _ | split | dsimp only

def ft_fabFault : Foot :=
  { flds := [.log .logWr, .log .logLost, .log .logIntake, .log .ibiHold, .log .ibiWait, .out .ibis], regs := [rFAB_ERR, rFAB_ERR_SITE, rINT_CNT] }

theorem w_fabFault (k inp stream bitNo : Nat) (ends : Bool) : (fabFault k inp stream bitNo ends).Within ft_fabFault := by
  unfold fabFault
  repeat' first | with_reducible apply Act.Within.nop | with_reducible apply w_firstFault | with_reducible apply w_incident | decide +kernel | exact errOk_none _ _ | exact errOk_any (by decide +kernel) | with_reducible apply Act.Within.dyn | with_reducible apply within_ite | with_reducible apply Act.Within.seq | with_reducible apply within_seqs_cons | with_reducible apply within_seqs_nil | with_reducible intro _ | split | dsimp only

theorem w_switchFault (k inp : Nat) (t : Token) (bitNo : Nat) : (switchFault k inp t bitNo).Within footWork := by
  unfold switchFault
  repeat' first | with_reducible apply Act.Within.nop | with_reducible apply Act.Within.mono (w_fabFault ..) | with_reducible apply Act.Within.mono (w_faultBay ..) | with_reducible apply w_modSite | decide +kernel | with_reducible apply Act.Within.dyn | with_reducible apply within_ite | with_reducible apply Act.Within.seq | with_reducible apply within_seqs_cons | with_reducible apply within_seqs_nil | with_reducible intro _ | split | dsimp only

def ft_sclFault : Foot :=
  { flds := [.log .logWr, .log .logLost, .log .logIntake, .log .ibiHold, .log .ibiWait, .out .ibis], regs := [rINT_CNT, rSCL_ERR, rSCL_ERR_ADDR, rSCL_ERR_SITE] }

theorem w_sclFault (k agent kind space addr : Nat) (cls : FClass) (injected : Bool) (status : Nat) : (sclFault k agent kind space addr cls injected status).Within ft_sclFault := by
  unfold sclFault
  repeat' first | with_reducible apply Act.Within.nop | with_reducible apply w_incident | with_reducible refine within_when' ?_ | with_reducible apply within_setReg | decide +kernel | exact errOk_none _ _ | exact errOk_any (by decide +kernel) | with_reducible apply Act.Within.dyn | with_reducible apply within_ite | with_reducible apply Act.Within.seq | with_reducible apply within_seqs_cons | with_reducible apply within_seqs_nil | with_reducible intro _ | split | dsimp only

theorem w_sclOverflow (k agent kind space addr : Nat) : (sclOverflow k agent kind space addr).Within footWork := by
  unfold sclOverflow
  repeat' first | with_reducible apply Act.Within.nop | with_reducible apply Act.Within.mono (w_endWith ..) | with_reducible apply Act.Within.mono (w_sclFault ..) | with_reducible apply within_withSome | decide +kernel | with_reducible apply Act.Within.dyn | with_reducible apply within_ite | with_reducible apply Act.Within.seq | with_reducible apply within_seqs_cons | with_reducible apply within_seqs_nil | with_reducible intro _ | split | dsimp only

theorem w_enqueue (k i : Nat) (x : Slot) (t : Token) : (enqueue k i x t).Within footWork := by
  unfold enqueue
  repeat' first | with_reducible apply Act.Within.nop | with_reducible apply Act.Within.mono (w_sclOverflow ..) | with_reducible refine within_when' ?_ | (with_reducible apply within_upd; exact ⟨_, rfl, by decide +kernel⟩) | decide +kernel | with_reducible apply Act.Within.dyn | with_reducible apply within_ite | with_reducible apply Act.Within.seq | with_reducible apply within_seqs_cons | with_reducible apply within_seqs_nil | with_reducible intro _ | split | dsimp only

theorem w_arrive {p : Foot} (k inp : Nat) (t : Token) {a : Act} (h : footWork.le p = true) (ha : a.Within p) :
    (arrive k inp t a).Within p := by
  have hs : ∀ c, (switchFault k inp t c).Within p := fun c => ((w_switchFault k inp t c).mono (q := footWork) (by decide +kernel)).mono h
  unfold arrive
  repeat' first
    | exact .nop | exact ha | exact hs _ | exact ((w_baySees ..).mono (q := footWork) (by decide +kernel)).mono h
    | exact ((w_enqueue ..).mono (q := footWork) (by decide +kernel)).mono h
    | exact ((w_forward ..).mono (q := footWork) (by decide +kernel)).mono h
    | refine .dyn fun _ => ?_ | refine within_ite ?_ ?_ | refine .seq ?_ ?_ | refine within_seqs_cons ?_ ?_ | exact within_seqs_nil _ | split

theorem w_lostAt (h st gen : Nat) : (lostAt h st gen).Within footWork := by
  unfold lostAt
  repeat' first | with_reducible apply Act.Within.nop | with_reducible apply Act.Within.mono (w_endWith ..) | with_reducible apply w_incident | with_reducible apply Act.Within.mono (w_resetStream ..) | with_reducible apply w_modStream | decide +kernel | exact errOk_none _ _ | exact errOk_any (by decide +kernel) | with_reducible apply Act.Within.dyn | with_reducible apply within_ite | with_reducible apply Act.Within.seq | with_reducible apply within_seqs_cons | with_reducible apply within_seqs_nil | with_reducible intro _ | split | dsimp only

theorem w_deliver (peer : List Nat) (f : List Byte) : (deliver peer f).Within footWork := by
  unfold deliver
  repeat' first | with_reducible apply Act.Within.nop | with_reducible apply Act.Within.mono (w_forward ..) | with_reducible apply Act.Within.mono (w_lostAt ..) | with_reducible apply within_each | with_reducible apply within_withSome | with_reducible apply within_addFld | with_reducible apply w_modStream | decide +kernel | with_reducible apply Act.Within.dyn | with_reducible apply within_ite | with_reducible apply Act.Within.seq | with_reducible apply within_seqs_cons | with_reducible apply within_seqs_nil | with_reducible intro _ | split | dsimp only

theorem w_takeLocal (n : Nat) : (takeLocal n).Within footWork := by
  induction n with
  | zero => exact .nop
  | succ n ih =>
    unfold takeLocal
    repeat' first | with_reducible apply Act.Within.nop | exact ih | exact ih _ | with_reducible apply Act.Within.mono (w_deliver ..) | with_reducible apply Act.Within.mono (w_lostAt ..) | with_reducible refine within_when' ?_ | with_reducible apply within_addFld | (with_reducible apply within_upd; exact ⟨_, rfl, by decide +kernel⟩) | decide +kernel | with_reducible apply Act.Within.dyn | with_reducible apply within_ite | with_reducible apply Act.Within.seq | with_reducible apply within_seqs_cons | with_reducible apply within_seqs_nil | with_reducible intro _ | split | dsimp only

theorem w_settleLocal : (settleLocal).Within footWork := by
  unfold settleLocal
  repeat' first | with_reducible apply Act.Within.nop | with_reducible apply Act.Within.mono (w_takeLocal ..) | decide +kernel | with_reducible apply Act.Within.dyn | with_reducible apply within_ite | with_reducible apply Act.Within.seq | with_reducible apply within_seqs_cons | with_reducible apply within_seqs_nil | with_reducible intro _ | split | dsimp only

def ft_State_inbound : Foot :=
  { flds := [.fresh, .fab .wire, .out .sentFlits, .lnk .port, .lnk .lnkQ, .lnk .stream, .lnk .localFlits, .lnk .localLost], regs := [rLNK_ERR, rLNK_NOTICE_CNT, rTEN_ACC_LINK] }

theorem w_State_inbound (s : State) (k inp : Nat) (feed : Option Token) (x : Token × Act)
    (h : s.inbound k inp feed = some x) : x.2.Within ft_State_inbound := by
  unfold State.inbound at h
  split at h
  · cases h; exact within_upd ⟨_, rfl, by decide +kernel⟩
  · split at h
    · split at h
      · rename_i q hq; cases h; exact (w_State_gatewayFeed s k inp _ hq).mono (by decide +kernel)
      · obtain ⟨t, -, rfl⟩ := Option.map_eq_some_iff.1 h; exact .nop
    · cases h

theorem w_tokenHopA (site : Site) (inp : Fin 9) (feed : Option Token) (noise : Token) : (tokenHopA site inp feed noise).Within footWork := by
  unfold tokenHopA
  repeat' first | with_reducible apply Act.Within.nop | with_reducible apply Act.Within.mono (w_State_inbound _ _ _ _ _ (by assumption)) | with_reducible apply w_arrive | with_reducible apply Act.Within.mono (w_settleLocal ..) | with_reducible apply within_withSome | decide +kernel | with_reducible apply Act.Within.dyn | with_reducible apply within_ite | with_reducible apply Act.Within.seq | with_reducible apply within_seqs_cons | with_reducible apply within_seqs_nil | with_reducible intro _ | split | dsimp only

theorem w_creditArrive (c : Nat) : (creditArrive c).Within ft_initCredit := by
  unfold creditArrive
  repeat' first | with_reducible apply Act.Within.nop | with_reducible apply w_modCredit | with_reducible apply w_modCreditFly | decide +kernel | with_reducible apply Act.Within.dyn | with_reducible apply within_ite | with_reducible apply Act.Within.seq | with_reducible apply within_seqs_cons | with_reducible apply within_seqs_nil | with_reducible intro _ | split | dsimp only

theorem w_creditReturnA (site : Site) (out : Fin 9) (stream : Fin 64) : (creditReturnA site out stream).Within footWork := by
  unfold creditReturnA
  repeat' first | with_reducible apply Act.Within.nop | with_reducible apply Act.Within.mono (w_cellSend ..) | with_reducible apply Act.Within.mono (w_creditArrive ..) | with_reducible apply Act.Within.mono (w_forward ..) | with_reducible apply Act.Within.mono (w_settleLocal ..) | with_reducible refine within_when' ?_ | decide +kernel | with_reducible apply Act.Within.dyn | with_reducible apply within_ite | with_reducible apply Act.Within.seq | with_reducible apply within_seqs_cons | with_reducible apply within_seqs_nil | with_reducible intro _ | split | dsimp only

def ft_islandClockChangeA : Foot :=
  { flds := [.fab .island], regs := [] }

theorem w_islandClockChangeA (isl : Fin 640) (droop : Option (Fin 37)) : (islandClockChangeA isl droop).Within ft_islandClockChangeA := by
  unfold islandClockChangeA
  repeat' first | with_reducible apply Act.Within.nop | (with_reducible apply within_upd; exact ⟨_, rfl, by decide +kernel⟩) | decide +kernel | with_reducible apply Act.Within.dyn | with_reducible apply within_ite | with_reducible apply Act.Within.seq | with_reducible apply within_seqs_cons | with_reducible apply within_seqs_nil | with_reducible intro _ | split | dsimp only

theorem w_writeBayClk {p : Foot} (off v : Nat) (h : off < 2 ^ 24) (hm : off ∈ p.regs) (hl : footLog.le p = true) :
    (writeBayClk off v).Within p :=
  .seq (within_setReg _ _ h hm) (within_each _ fun _ => within_when' (w_incA _ _ _ hl (by simp [errOk])))

def ft_bayOnA : Foot :=
  { flds := [.fab .bay, .log .logWr, .log .logLost, .log .logIntake, .log .ibiHold, .log .ibiWait, .out .ibis], regs := [rFAB_BAY_ON, rINT_CNT] }

theorem w_bayOnA (b : Nat) : (bayOnA b).Within ft_bayOnA := by
  unfold bayOnA
  repeat' first | with_reducible apply Act.Within.nop | with_reducible apply w_incA | with_reducible apply within_orReg | with_reducible apply w_modBay | decide +kernel | exact errOk_none _ _ | exact errOk_any (by decide +kernel) | with_reducible apply Act.Within.dyn | with_reducible apply within_ite | with_reducible apply Act.Within.seq | with_reducible apply within_seqs_cons | with_reducible apply within_seqs_nil | with_reducible intro _ | split | dsimp only

theorem w_downBay (b : Nat) : (downBay b).Within ft_drainBays := by
  unfold downBay
  repeat' first | with_reducible apply Act.Within.nop | with_reducible apply Act.Within.mono (w_setFences ..) | with_reducible apply w_modBay | decide +kernel | with_reducible apply Act.Within.dyn | with_reducible apply within_ite | with_reducible apply Act.Within.seq | with_reducible apply within_seqs_cons | with_reducible apply within_seqs_nil | with_reducible intro _ | split | dsimp only

theorem w_bayOffRow (b : Nat) : (bayOffRow b).Within ft_drainBays := by
  unfold bayOffRow
  repeat' first | with_reducible apply Act.Within.nop | with_reducible apply Act.Within.mono (w_downBay ..) | with_reducible apply Act.Within.mono (w_drainBays ..) | with_reducible refine within_when' ?_ | with_reducible apply within_withSome | (with_reducible apply within_upd; exact ⟨_, rfl, by decide +kernel⟩) | decide +kernel | with_reducible apply Act.Within.dyn | with_reducible apply within_ite | with_reducible apply Act.Within.seq | with_reducible apply within_seqs_cons | with_reducible apply within_seqs_nil | with_reducible intro _ | split | dsimp only

def ft_bayOffA : Foot :=
  { flds := [.fab .bay, .log .logWr, .log .logLost, .log .logIntake, .log .ibiHold, .log .ibiWait, .out .ibis], regs := [rFAB_BAY_FENCE, rFAB_BAY_ON, rINT_CNT] }

theorem w_bayOffA (b : Nat) : (bayOffA b).Within ft_bayOffA := by
  unfold bayOffA
  repeat' first | with_reducible apply Act.Within.nop | with_reducible apply Act.Within.mono (w_bayOffRow ..) | with_reducible apply w_incA | with_reducible apply within_setFld | decide +kernel | exact errOk_none _ _ | exact errOk_any (by decide +kernel) | with_reducible apply Act.Within.dyn | with_reducible apply within_ite | with_reducible apply Act.Within.seq | with_reducible apply within_seqs_cons | with_reducible apply within_seqs_nil | with_reducible intro _ | split | dsimp only

theorem w_bayForceA (b : Nat) : (bayForceA b).Within footWork := by
  unfold bayForceA
  repeat' first | with_reducible apply Act.Within.nop | with_reducible apply Act.Within.mono (w_endWith ..) | with_reducible apply w_incA | with_reducible apply Act.Within.mono (w_leaveBay ..) | with_reducible apply Act.Within.mono (w_setFences ..) | with_reducible refine within_when' ?_ | with_reducible apply within_withSome | with_reducible apply within_orReg | decide +kernel | exact errOk_none _ _ | exact errOk_any (by decide +kernel) | with_reducible apply Act.Within.dyn | with_reducible apply within_ite | with_reducible apply Act.Within.seq | with_reducible apply within_seqs_cons | with_reducible apply within_seqs_nil | with_reducible intro _ | split | dsimp only

theorem w_actOnBit (b : Nat) : (actOnBit b).Within ft_drainBays := by
  unfold actOnBit
  repeat' first | with_reducible apply Act.Within.nop | with_reducible apply Act.Within.mono (w_bayOffRow ..) | with_reducible apply within_whenS | decide +kernel | with_reducible apply Act.Within.dyn | with_reducible apply within_ite | with_reducible apply Act.Within.seq | with_reducible apply within_seqs_cons | with_reducible apply within_seqs_nil | with_reducible intro _ | split | dsimp only

theorem w_bayPowerUpDoneA (b : Nat) : (bayPowerUpDoneA b).Within footBay := by
  unfold bayPowerUpDoneA
  repeat' first | with_reducible apply Act.Within.nop | with_reducible apply Act.Within.mono (w_clearBay ..) | with_reducible apply within_each | with_reducible apply w_modIsland | (with_reducible apply within_upd; exact ⟨_, rfl, by decide +kernel⟩) | decide +kernel | with_reducible apply Act.Within.dyn | with_reducible apply within_ite | with_reducible apply Act.Within.seq | with_reducible apply within_seqs_cons | with_reducible apply within_seqs_nil | with_reducible intro _ | split | dsimp only

theorem w_bayClearDoneA (b : Nat) : (bayClearDoneA b).Within footLoad := by
  unfold bayClearDoneA
  repeat' first | with_reducible apply Act.Within.nop | with_reducible apply Act.Within.mono (w_actOnBit ..) | with_reducible apply Act.Within.mono (w_clearBay ..) | with_reducible apply Act.Within.mono (w_setFences ..) | with_reducible apply Act.Within.mono (w_settleRelease ..) | with_reducible apply within_withSome | (with_reducible apply within_upd; exact ⟨_, rfl, by decide +kernel⟩) | decide +kernel | with_reducible apply Act.Within.dyn | with_reducible apply within_ite | with_reducible apply Act.Within.seq | with_reducible apply within_seqs_cons | with_reducible apply within_seqs_nil | with_reducible intro _ | split | dsimp only

theorem w_bayGone (b : Nat) : (bayGone b).Within footBay := by
  unfold bayGone
  repeat' first | with_reducible apply Act.Within.nop | with_reducible apply Act.Within.mono (w_clearBay ..) | with_reducible apply within_each | with_reducible apply within_setFld | with_reducible apply w_modIsland | (with_reducible apply within_upd; exact ⟨_, rfl, by decide +kernel⟩) | decide +kernel | with_reducible apply Act.Within.dyn | with_reducible apply within_ite | with_reducible apply Act.Within.seq | with_reducible apply within_seqs_cons | with_reducible apply within_seqs_nil | with_reducible intro _ | split | dsimp only

theorem w_bayPowerDownDoneA (b : Nat) : (bayPowerDownDoneA b).Within footBay := by
  unfold bayPowerDownDoneA
  repeat' first | with_reducible apply Act.Within.nop | with_reducible apply Act.Within.mono (w_bayGone ..) | decide +kernel | with_reducible apply Act.Within.dyn | with_reducible apply within_ite | with_reducible apply Act.Within.seq | with_reducible apply within_seqs_cons | with_reducible apply within_seqs_nil | with_reducible intro _ | split | dsimp only

def ft_wdogFault : Foot :=
  { flds := [.log .logWr, .log .logLost, .log .logIntake, .log .ibiHold, .log .ibiWait, .out .ibis], regs := [rEXH_ERR, rEXH_ERR_SITE, rINT_CNT] }

theorem w_wdogFault (b : Nat) (h : Nat) (status : Nat) : (wdogFault b h status).Within ft_wdogFault := by
  unfold wdogFault
  repeat' first | with_reducible apply Act.Within.nop | with_reducible apply w_firstFault | with_reducible apply w_incident | decide +kernel | exact errOk_none _ _ | exact errOk_any (by decide +kernel) | with_reducible apply Act.Within.dyn | with_reducible apply within_ite | with_reducible apply Act.Within.seq | with_reducible apply within_seqs_cons | with_reducible apply within_seqs_nil | with_reducible intro _ | split | dsimp only

def ft_forceSwitch : Foot :=
  { flds := [.mem, .poison, .fab .bay, .fab .slot, .fab .newSlot, .fab .site, .fab .credit, .fab .creditFly, .cell .acell, .cell .scell, .exh .load, .mov .iq, .srv .srvSt, .srv .req, .srv .pfx, .srv .srvStep, .que .pair, .que .cmd, .que .nextCmd, .ten .tenant, .ten .slice, .lnk .stream], regs := [rDOC_IQ_CTL, rFAB_BAY_FENCE, rQUE_PAIR_CFG, rSRV_CTL, rSRV_ERR, rTEN_ACC_T1, rTEN_ACC_T2, rTEN_ACC_T3, rTEN_CTL, rTEN_RESET] }

theorem w_forceSwitch (h : Nat) : (forceSwitch h).Within ft_forceSwitch := by
  unfold forceSwitch
  repeat' first | with_reducible apply Act.Within.nop | with_reducible apply Act.Within.mono (w_installCell ..) | with_reducible apply Act.Within.mono (w_settleSite ..) | with_reducible apply Act.Within.mono (w_settleSlots ..) | with_reducible apply within_each | with_reducible refine within_when' ?_ | with_reducible apply within_withSome | (with_reducible apply within_upd; exact ⟨_, rfl, by decide +kernel⟩) | decide +kernel | with_reducible apply Act.Within.dyn | with_reducible apply within_ite | with_reducible apply Act.Within.seq | with_reducible apply within_seqs_cons | with_reducible apply within_seqs_nil | with_reducible intro _ | split | dsimp only

theorem w_stallWatchdogA (h b : Nat) : (stallWatchdogA h b).Within footWork := by
  unfold stallWatchdogA
  repeat' first | with_reducible apply Act.Within.nop | with_reducible apply Act.Within.mono (w_addCause ..) | with_reducible apply Act.Within.mono (w_clearLoadQueues ..) | with_reducible apply Act.Within.mono (w_endLoad ..) | with_reducible apply Act.Within.mono (w_endWith ..) | with_reducible apply Act.Within.mono (w_forceSwitch ..) | with_reducible apply Act.Within.mono (w_wdogFault ..) | decide +kernel | with_reducible apply Act.Within.dyn | with_reducible apply within_ite | with_reducible apply Act.Within.seq | with_reducible apply within_seqs_cons | with_reducible apply within_seqs_nil | with_reducible intro _ | split | dsimp only

def ft_engineTick : Foot :=
  { flds := [.ten .engFrac], regs := [rTEN_ACC_CYC] }

theorem w_engineTick : (engineTick).Within ft_engineTick := by
  unfold engineTick
  repeat' first | with_reducible apply Act.Within.nop | with_reducible apply within_each | with_reducible apply within_addFld | (with_reducible apply within_upd; exact ⟨_, rfl, by decide +kernel⟩) | decide +kernel | with_reducible apply Act.Within.dyn | with_reducible apply within_ite | with_reducible apply Act.Within.seq | with_reducible apply within_seqs_cons | with_reducible apply within_seqs_nil | with_reducible intro _ | split | dsimp only

theorem w_stallTick : (stallTick).Within ft_islandClockChangeA := by
  unfold stallTick
  repeat' first | with_reducible apply Act.Within.nop | with_reducible apply within_each | with_reducible apply w_modIsland | decide +kernel | with_reducible apply Act.Within.dyn | with_reducible apply within_ite | with_reducible apply Act.Within.seq | with_reducible apply within_seqs_cons | with_reducible apply within_seqs_nil | with_reducible intro _ | split | dsimp only

def ft_putFlash : Foot :=
  { flds := [.boot .flashAt], regs := [] }

theorem w_putFlash (a : Nat) (bs : List Byte) : (putFlash a bs).Within ft_putFlash := by
  unfold putFlash
  repeat' first | with_reducible apply Act.Within.nop | with_reducible apply within_each | (with_reducible apply within_upd; exact ⟨_, rfl, by decide +kernel⟩) | decide +kernel | with_reducible apply Act.Within.dyn | with_reducible apply within_ite | with_reducible apply Act.Within.seq | with_reducible apply within_seqs_cons | with_reducible apply within_seqs_nil | with_reducible intro _ | split | dsimp only

def ft_programFlash : Foot :=
  { flds := [.boot .flashAt], regs := [rBOOT_FLASH] }

theorem w_programFlash (a : Nat) (bs : List Byte) : (programFlash a bs).Within ft_programFlash := by
  unfold programFlash
  repeat' first | with_reducible apply Act.Within.nop | with_reducible apply Act.Within.mono (w_putFlash ..) | with_reducible apply within_addFld | decide +kernel | with_reducible apply Act.Within.dyn | with_reducible apply within_ite | with_reducible apply Act.Within.seq | with_reducible apply within_seqs_cons | with_reducible apply within_seqs_nil | with_reducible intro _ | split | dsimp only

theorem w_eraseFlash (a n : Nat) : (eraseFlash a n).Within ft_putFlash := by
  unfold eraseFlash
  repeat' first | with_reducible apply Act.Within.nop | with_reducible apply within_each | (with_reducible apply within_upd; exact ⟨_, rfl, by decide +kernel⟩) | decide +kernel | with_reducible apply Act.Within.dyn | with_reducible apply within_ite | with_reducible apply Act.Within.seq | with_reducible apply within_seqs_cons | with_reducible apply within_seqs_nil | with_reducible intro _ | split | dsimp only

theorem w_eraseSectors (a n : Nat) : (eraseSectors a n).Within ft_putFlash := by
  unfold eraseSectors
  repeat' first | with_reducible apply Act.Within.nop | with_reducible apply Act.Within.mono (w_eraseFlash ..) | decide +kernel | with_reducible apply Act.Within.dyn | with_reducible apply within_ite | with_reducible apply Act.Within.seq | with_reducible apply within_seqs_cons | with_reducible apply within_seqs_nil | with_reducible intro _ | split | dsimp only

def ft_spoilFlash : Foot :=
  { flds := [.fresh, .boot .flashAt], regs := [rBOOT_ERR] }

theorem w_spoilFlash (a n : Nat) : (spoilFlash a n).Within ft_spoilFlash := by
  unfold spoilFlash
  repeat' first | with_reducible apply Act.Within.nop | with_reducible apply Act.Within.mono (w_putFlash ..) | with_reducible apply w_setErr | (with_reducible apply within_upd; exact ⟨_, rfl, by decide +kernel⟩) | decide +kernel | exact errOk_none _ _ | exact errOk_any (by decide +kernel) | with_reducible apply Act.Within.dyn | with_reducible apply within_ite | with_reducible apply Act.Within.seq | with_reducible apply within_seqs_cons | with_reducible apply within_seqs_nil | with_reducible intro _ | split | dsimp only

def ft_writeJournalAt : Foot :=
  { flds := [.boot .flashAt, .boot .journal, .boot .jrnNext], regs := [rBOOT_FLASH] }

theorem w_writeJournalAt (i : Nat) (j : Journal) : (writeJournalAt i j).Within ft_writeJournalAt := by
  unfold writeJournalAt
  repeat' first | with_reducible apply Act.Within.nop | with_reducible apply Act.Within.mono (w_programFlash ..) | (with_reducible apply within_upd; exact ⟨_, rfl, by decide +kernel⟩) | decide +kernel | with_reducible apply Act.Within.dyn | with_reducible apply within_ite | with_reducible apply Act.Within.seq | with_reducible apply within_seqs_cons | with_reducible apply within_seqs_nil | with_reducible intro _ | split | dsimp only

theorem w_turnJournal : (turnJournal).Within ft_writeJournalAt := by
  unfold turnJournal
  repeat' first | with_reducible apply Act.Within.nop | with_reducible apply Act.Within.mono (w_eraseFlash ..) | with_reducible apply Act.Within.mono (w_writeJournalAt ..) | decide +kernel | with_reducible apply Act.Within.dyn | with_reducible apply within_ite | with_reducible apply Act.Within.seq | with_reducible apply within_seqs_cons | with_reducible apply within_seqs_nil | with_reducible intro _ | split | dsimp only

theorem w_appendJournal (f : Journal → Journal) : (appendJournal f).Within ft_writeJournalAt := by
  unfold appendJournal
  repeat' first | with_reducible apply Act.Within.nop | with_reducible apply Act.Within.mono (w_turnJournal ..) | with_reducible apply Act.Within.mono (w_writeJournalAt ..) | decide +kernel | with_reducible apply Act.Within.dyn | with_reducible apply within_ite | with_reducible apply Act.Within.seq | with_reducible apply within_seqs_cons | with_reducible apply within_seqs_nil | with_reducible intro _ | split | dsimp only

end Sys2Proof.Machine
end

