-- ==== Sys2Proof/Laws/FeetCells.lean ====
section
/-!
SUPPORT. Footprints: what each shared operation may change (ACell, SCell, Commands, Exhibit).
-/

namespace Sys2Proof.Machine

set_option Elab.async false
set_option linter.all false

def ft_aclFault : Foot :=
  { flds := [.log .logWr, .log .logLost, .log .logIntake, .log .ibiHold, .log .ibiWait, .out .ibis], regs := [rACL_ERR, rACL_ERR_SITE, rINT_CNT] }

theorem w_aclFault (k unit bitNo : Nat) (injected : Bool) (status : Status) : (aclFault k unit bitNo injected status).Within ft_aclFault := by
  unfold aclFault
  repeat' first | with_reducible apply Act.Within.nop | with_reducible apply w_firstFault | with_reducible apply w_incident | decide +kernel | exact errOk_none _ _ | exact errOk_any (by decide +kernel) | with_reducible apply Act.Within.dyn | with_reducible apply within_ite | with_reducible apply Act.Within.seq | with_reducible apply within_seqs_cons | with_reducible apply within_seqs_nil | with_reducible intro _ | split | dsimp only

def ft_residueFault : Foot :=
  { flds := [.exh .load, .log .logWr, .log .logLost, .log .logIntake, .log .ibiHold, .log .ibiWait, .out .ibis], regs := [rACL_ERR, rACL_ERR_SITE, rINT_CNT] }

theorem w_residueFault (k unit : Nat) (injected : Bool) : (residueFault k unit injected).Within ft_residueFault := by
  unfold residueFault
  repeat' first | with_reducible apply Act.Within.nop | with_reducible apply Act.Within.mono (w_aclFault ..) | with_reducible apply Act.Within.mono (w_siteCause ..) | decide +kernel | with_reducible apply Act.Within.dyn | with_reducible apply within_ite | with_reducible apply Act.Within.seq | with_reducible apply within_seqs_cons | with_reducible apply within_seqs_nil | with_reducible intro _ | split | dsimp only

def ft_countNanSat : Foot :=
  { flds := [], regs := [rACL_CNT] }

theorem w_countNanSat (nan sat : Nat) : (countNanSat nan sat).Within ft_countNanSat := by
  unfold countNanSat
  repeat' first | with_reducible apply Act.Within.nop | with_reducible apply within_addFld | decide +kernel | with_reducible apply Act.Within.dyn | with_reducible apply within_ite | with_reducible apply Act.Within.seq | with_reducible apply within_seqs_cons | with_reducible apply within_seqs_nil | with_reducible intro _ | split | dsimp only

def ft_nextStep : Foot :=
  { flds := [.cell .acell], regs := [] }

theorem w_nextStep (k : Nat) : (nextStep k).Within ft_nextStep := by
  unfold nextStep
  repeat' first | with_reducible apply Act.Within.nop | with_reducible apply w_modAcell | decide +kernel | with_reducible apply Act.Within.dyn | with_reducible apply within_ite | with_reducible apply Act.Within.seq | with_reducible apply within_seqs_cons | with_reducible apply within_seqs_nil | with_reducible intro _ | split | dsimp only

def ft_dropReads : Foot :=
  { flds := [.cell .got], regs := [] }

theorem w_dropReads (k : Nat) (rs : Reads) : (dropReads k rs).Within ft_dropReads := by
  unfold dropReads
  repeat' first | with_reducible apply Act.Within.nop | with_reducible apply within_each | with_reducible apply w_modGot | decide +kernel | with_reducible apply Act.Within.dyn | with_reducible apply within_ite | with_reducible apply Act.Within.seq | with_reducible apply within_seqs_cons | with_reducible apply within_seqs_nil | with_reducible intro _ | split | dsimp only

def ft_putToks : Foot :=
  { flds := [.fab .credit, .fab .wire, .cell .acell, .cell .lane, .cell .laneBad, .cell .cout], regs := [] }

theorem w_putToks (k sel : Nat) (toks : List (Nat × Bool)) : (putToks k sel toks).Within ft_putToks := by
  unfold putToks
  repeat' first | with_reducible apply Act.Within.nop | with_reducible apply Act.Within.mono (w_cellPut ..) | with_reducible apply within_each | with_reducible apply w_modAcell | (with_reducible apply within_upd; exact ⟨_, rfl, by decide +kernel⟩) | decide +kernel | with_reducible apply Act.Within.dyn | with_reducible apply within_ite | with_reducible apply Act.Within.seq | with_reducible apply within_seqs_cons | with_reducible apply within_seqs_nil | with_reducible intro _ | split | dsimp only

def ft_macTile : Foot :=
  { flds := [.cell .acc, .cell .run16At], regs := [] }

theorem w_macTile (k : Nat) (c : TileCfg) (a b : Side) : (macTile k c a b).Within ft_macTile := by
  unfold macTile
  repeat' first | with_reducible apply Act.Within.nop | with_reducible apply within_each | with_reducible apply w_modAcc | with_reducible apply w_modRun16At | decide +kernel | with_reducible apply Act.Within.dyn | with_reducible apply within_ite | with_reducible apply Act.Within.seq | with_reducible apply within_seqs_cons | with_reducible apply within_seqs_nil | with_reducible intro _ | split | dsimp only

def ft_tileOut : Foot :=
  { flds := [.fab .credit, .fab .wire, .cell .acell, .cell .acc, .cell .run16At, .cell .lane, .cell .laneBad, .cell .cout], regs := [rACL_CNT] }

theorem w_tileOut (k : Nat) (c : TileCfg) (out : Nat) (pout : Bool) (a b : Side) (n : Nat) : (tileOut k c out pout a b n).Within ft_tileOut := by
  unfold tileOut
  repeat' first | with_reducible apply Act.Within.nop | with_reducible apply Act.Within.mono (w_countNanSat ..) | with_reducible apply Act.Within.mono (w_putToks ..) | with_reducible apply within_each | with_reducible apply w_modAcell | (with_reducible apply within_upd; exact ⟨_, rfl, by decide +kernel⟩) | decide +kernel | with_reducible apply Act.Within.dyn | with_reducible apply within_ite | with_reducible apply Act.Within.seq | with_reducible apply within_seqs_cons | with_reducible apply within_seqs_nil | with_reducible intro _ | split | dsimp only

def ft_checkUnits : Foot :=
  { flds := [.cell .acell, .exh .load, .log .logWr, .log .logLost, .log .logIntake, .log .ibiHold, .log .ibiWait, .out .ibis], regs := [rACL_ERR, rACL_ERR_SITE, rINT_CNT] }

theorem w_checkUnits (k : Nat) (units : List Nat) (found : Option Nat) : (checkUnits k units found).Within ft_checkUnits := by
  unfold checkUnits
  repeat' first | with_reducible apply Act.Within.nop | with_reducible apply Act.Within.mono (w_residueFault ..) | with_reducible refine within_when' ?_ | with_reducible apply within_withSome | with_reducible apply w_modAcell | decide +kernel | with_reducible apply Act.Within.dyn | with_reducible apply within_ite | with_reducible apply Act.Within.seq | with_reducible apply within_seqs_cons | with_reducible apply within_seqs_nil | with_reducible intro _ | split | dsimp only

theorem w_closeChain (k : Nat) : (closeChain k).Within ft_nextStep := by
  unfold closeChain
  repeat' first | with_reducible apply Act.Within.nop | with_reducible apply w_modAcell | decide +kernel | with_reducible apply Act.Within.dyn | with_reducible apply within_ite | with_reducible apply Act.Within.seq | with_reducible apply within_seqs_cons | with_reducible apply within_seqs_nil | with_reducible intro _ | split | dsimp only

theorem w_tileDone (k : Nat) : (tileDone k).Within ft_nextStep := by
  unfold tileDone
  repeat' first | with_reducible apply Act.Within.nop | with_reducible apply Act.Within.mono (w_nextStep ..) | with_reducible apply w_modAcell | decide +kernel | with_reducible apply Act.Within.dyn | with_reducible apply within_ite | with_reducible apply Act.Within.seq | with_reducible apply within_seqs_cons | with_reducible apply within_seqs_nil | with_reducible intro _ | split | dsimp only

theorem w_chainOverflow (k : Nat) : (chainOverflow k).Within footWork := by
  unfold chainOverflow
  repeat' first | with_reducible apply Act.Within.nop | with_reducible apply Act.Within.mono (w_aclFault ..) | with_reducible apply Act.Within.mono (w_endWith ..) | with_reducible apply within_withSome | decide +kernel | with_reducible apply Act.Within.dyn | with_reducible apply within_ite | with_reducible apply Act.Within.seq | with_reducible apply within_seqs_cons | with_reducible apply within_seqs_nil | with_reducible intro _ | split | dsimp only

theorem w_tileWhole (k w : Nat) (c : TileCfg) (found : Option Nat) : (tileWhole k w c found).Within footWork := by
  unfold tileWhole
  repeat' first | with_reducible apply Act.Within.nop | with_reducible apply Act.Within.mono (w_chainOverflow ..) | with_reducible apply Act.Within.mono (w_checkUnits ..) | with_reducible apply Act.Within.mono (w_closeChain ..) | with_reducible apply Act.Within.mono (w_dropReads ..) | with_reducible apply Act.Within.mono (w_macTile ..) | with_reducible apply Act.Within.mono (w_tileDone ..) | with_reducible apply Act.Within.mono (w_tileOut ..) | with_reducible apply within_each | with_reducible refine within_when' ?_ | with_reducible apply w_modAcell | (with_reducible apply within_upd; exact ⟨_, rfl, by decide +kernel⟩) | decide +kernel | with_reducible apply Act.Within.dyn | with_reducible apply within_ite | with_reducible apply Act.Within.seq | with_reducible apply within_seqs_cons | with_reducible apply within_seqs_nil | with_reducible intro _ | split | dsimp only

theorem w_tileHold (k w : Nat) (c : TileCfg) : (tileHold k w c).Within footWork := by
  unfold tileHold
  repeat' first | with_reducible apply Act.Within.nop | with_reducible apply Act.Within.mono (w_chainOverflow ..) | with_reducible apply Act.Within.mono (w_dropReads ..) | with_reducible apply Act.Within.mono (w_tileDone ..) | with_reducible refine within_when' ?_ | with_reducible apply w_modAcell | decide +kernel | with_reducible apply Act.Within.dyn | with_reducible apply within_ite | with_reducible apply Act.Within.seq | with_reducible apply within_seqs_cons | with_reducible apply within_seqs_nil | with_reducible intro _ | split | dsimp only

theorem w_tilePiece (k w : Nat) (c : TileCfg) (found : Option Nat) : (tilePiece k w c found).Within footCells := by
  unfold tilePiece
  repeat' first | with_reducible apply Act.Within.nop | with_reducible apply Act.Within.mono (w_checkUnits ..) | with_reducible apply Act.Within.mono (w_closeChain ..) | with_reducible apply Act.Within.mono (w_dropReads ..) | with_reducible apply Act.Within.mono (w_macTile ..) | with_reducible apply Act.Within.mono (w_tileDone ..) | with_reducible apply Act.Within.mono (w_tileOut ..) | with_reducible refine within_when' ?_ | with_reducible apply w_modAcell | decide +kernel | with_reducible apply Act.Within.dyn | with_reducible apply within_ite | with_reducible apply Act.Within.seq | with_reducible apply within_seqs_cons | with_reducible apply within_seqs_nil | with_reducible intro _ | split | dsimp only

theorem w_tileA (k : Nat) : (tileA k).Within ft_nextStep := by
  unfold tileA
  repeat' first | with_reducible apply Act.Within.nop | with_reducible apply Act.Within.mono (w_nextStep ..) | with_reducible apply within_withSome | with_reducible apply w_modAcell | decide +kernel | with_reducible apply Act.Within.dyn | with_reducible apply within_ite | with_reducible apply Act.Within.seq | with_reducible apply within_seqs_cons | with_reducible apply within_seqs_nil | with_reducible intro _ | split | dsimp only

theorem w_tileStartA (k : Nat) (mismatch : Option AclUnit) : (tileStartA k mismatch).Within footWork := by
  unfold tileStartA
  repeat' first | with_reducible apply Act.Within.nop | with_reducible apply Act.Within.mono (w_tileHold ..) | with_reducible apply Act.Within.mono (w_tilePiece ..) | with_reducible apply Act.Within.mono (w_tileWhole ..) | with_reducible apply within_withSome | decide +kernel | with_reducible apply Act.Within.dyn | with_reducible apply within_ite | with_reducible apply Act.Within.seq | with_reducible apply within_seqs_cons | with_reducible apply within_seqs_nil | with_reducible intro _ | split | dsimp only

theorem w_stepFault (k unit : Nat) (mismatch : Bool) : (stepFault k unit mismatch).Within ft_checkUnits := by
  unfold stepFault
  repeat' first | with_reducible apply Act.Within.nop | with_reducible apply Act.Within.mono (w_residueFault ..) | with_reducible refine within_when' ?_ | with_reducible apply w_modAcell | decide +kernel | with_reducible apply Act.Within.dyn | with_reducible apply within_ite | with_reducible apply Act.Within.seq | with_reducible apply within_seqs_cons | with_reducible apply within_seqs_nil | with_reducible intro _ | split | dsimp only

theorem w_vecA (k : Nat) (mismatch : Bool) : (vecA k mismatch).Within footCells := by
  unfold vecA
  repeat' first | with_reducible apply Act.Within.nop | with_reducible apply Act.Within.mono (w_countNanSat ..) | with_reducible apply Act.Within.mono (w_dropReads ..) | with_reducible apply Act.Within.mono (w_nextStep ..) | with_reducible apply Act.Within.mono (w_putToks ..) | with_reducible apply Act.Within.mono (w_stepFault ..) | with_reducible apply within_withSome | decide +kernel | with_reducible apply Act.Within.dyn | with_reducible apply within_ite | with_reducible apply Act.Within.seq | with_reducible apply within_seqs_cons | with_reducible apply within_seqs_nil | with_reducible intro _ | split | dsimp only

theorem w_sfuA (k : Nat) (mismatch : Bool) : (sfuA k mismatch).Within footCells := by
  unfold sfuA
  repeat' first | with_reducible apply Act.Within.nop | with_reducible apply Act.Within.mono (w_countNanSat ..) | with_reducible apply Act.Within.mono (w_dropReads ..) | with_reducible apply Act.Within.mono (w_nextStep ..) | with_reducible apply Act.Within.mono (w_putToks ..) | with_reducible apply Act.Within.mono (w_stepFault ..) | with_reducible apply within_withSome | decide +kernel | with_reducible apply Act.Within.dyn | with_reducible apply within_ite | with_reducible apply Act.Within.seq | with_reducible apply within_seqs_cons | with_reducible apply within_seqs_nil | with_reducible intro _ | split | dsimp only

theorem w_convA (k : Nat) : (convA k).Within footCells := by
  unfold convA
  repeat' first | with_reducible apply Act.Within.nop | with_reducible apply Act.Within.mono (w_countNanSat ..) | with_reducible apply Act.Within.mono (w_dropReads ..) | with_reducible apply Act.Within.mono (w_nextStep ..) | with_reducible apply Act.Within.mono (w_putToks ..) | with_reducible apply Act.Within.mono (w_stepFault ..) | with_reducible apply within_withSome | decide +kernel | with_reducible apply Act.Within.dyn | with_reducible apply within_ite | with_reducible apply Act.Within.seq | with_reducible apply within_seqs_cons | with_reducible apply within_seqs_nil | with_reducible intro _ | split | dsimp only

theorem w_reduceA (k : Nat) (mismatch : Bool) : (reduceA k mismatch).Within footCells := by
  unfold reduceA
  repeat' first | with_reducible apply Act.Within.nop | with_reducible apply Act.Within.mono (w_countNanSat ..) | with_reducible apply Act.Within.mono (w_dropReads ..) | with_reducible apply Act.Within.mono (w_nextStep ..) | with_reducible apply Act.Within.mono (w_putToks ..) | with_reducible apply Act.Within.mono (w_stepFault ..) | with_reducible apply within_withSome | decide +kernel | with_reducible apply Act.Within.dyn | with_reducible apply within_ite | with_reducible apply Act.Within.seq | with_reducible apply within_seqs_cons | with_reducible apply within_seqs_nil | with_reducible intro _ | split | dsimp only

theorem w_constA (k : Nat) : (constA k).Within ft_nextStep := by
  unfold constA
  repeat' first | with_reducible apply Act.Within.nop | with_reducible apply Act.Within.mono (w_nextStep ..) | with_reducible apply within_withSome | with_reducible apply w_modAcell | decide +kernel | with_reducible apply Act.Within.dyn | with_reducible apply within_ite | with_reducible apply Act.Within.seq | with_reducible apply within_seqs_cons | with_reducible apply within_seqs_nil | with_reducible intro _ | split | dsimp only

theorem w_loopA (k : Nat) : (loopA k).Within ft_nextStep := by
  unfold loopA
  repeat' first | with_reducible apply Act.Within.nop | with_reducible apply within_withSome | with_reducible apply w_modAcell | decide +kernel | with_reducible apply Act.Within.dyn | with_reducible apply within_ite | with_reducible apply Act.Within.seq | with_reducible apply within_seqs_cons | with_reducible apply within_seqs_nil | with_reducible intro _ | split | dsimp only

theorem w_endA (k : Nat) : (endA k).Within ft_nextStep := by
  unfold endA
  repeat' first | with_reducible apply Act.Within.nop | with_reducible apply w_modAcell | decide +kernel | with_reducible apply Act.Within.dyn | with_reducible apply within_ite | with_reducible apply Act.Within.seq | with_reducible apply within_seqs_cons | with_reducible apply within_seqs_nil | with_reducible intro _ | split | dsimp only

def ft_writeAclInj : Foot :=
  { flds := [.cell .acell, .log .logWr, .log .logLost, .log .logIntake, .log .ibiHold, .log .ibiWait, .out .ibis], regs := [rINT_CNT] }

theorem w_writeAclInj (v : Nat) : (writeAclInj v).Within ft_writeAclInj := by
  unfold writeAclInj
  repeat' first | with_reducible apply Act.Within.nop | with_reducible apply w_incA | with_reducible apply w_modAcell | decide +kernel | exact errOk_none _ _ | exact errOk_any (by decide +kernel) | with_reducible apply Act.Within.dyn | with_reducible apply within_ite | with_reducible apply Act.Within.seq | with_reducible apply within_seqs_cons | with_reducible apply within_seqs_nil | with_reducible intro _ | split | dsimp only

def ft_lineCorrected : Foot :=
  { flds := [.log .logWr, .log .logLost, .log .logIntake, .log .ibiHold, .log .ibiWait, .out .ibis], regs := [rINT_CNT, rSCL_CE_CNT, rSCL_ERR] }

theorem w_lineCorrected (k : Nat) (injected : Bool) : (lineCorrected k injected).Within ft_lineCorrected := by
  unfold lineCorrected
  repeat' first | with_reducible apply Act.Within.nop | with_reducible apply w_incident | with_reducible apply within_addFld | decide +kernel | exact errOk_none _ _ | exact errOk_any (by decide +kernel) | with_reducible apply Act.Within.dyn | with_reducible apply within_ite | with_reducible apply Act.Within.seq | with_reducible apply within_seqs_cons | with_reducible apply within_seqs_nil | with_reducible intro _ | split | dsimp only

def ft_lineBad : Foot :=
  { flds := [.exh .load, .log .logWr, .log .logLost, .log .logIntake, .log .ibiHold, .log .ibiWait, .out .ibis], regs := [rINT_CNT, rSCL_ERR, rSCL_ERR_ADDR, rSCL_ERR_SITE] }

theorem w_lineBad (k agent l : Nat) (injected : Bool) : (lineBad k agent l injected).Within ft_lineBad := by
  unfold lineBad
  repeat' first | with_reducible apply Act.Within.nop | with_reducible apply Act.Within.mono (w_sclFault ..) | with_reducible apply Act.Within.mono (w_siteCause ..) | decide +kernel | with_reducible apply Act.Within.dyn | with_reducible apply within_ite | with_reducible apply Act.Within.seq | with_reducible apply within_seqs_cons | with_reducible apply within_seqs_nil | with_reducible intro _ | split | dsimp only

def ft_readLine : Foot :=
  { flds := [.cell .scell, .exh .load, .log .logWr, .log .logLost, .log .logIntake, .log .ibiHold, .log .ibiWait, .out .ibis], regs := [rINT_CNT, rSCL_CE_CNT, rSCL_ERR, rSCL_ERR_ADDR, rSCL_ERR_SITE] }

theorem w_readLine {p : Foot} (k agent l : Nat) (found : Found) {f : Nat → Bool → Act} (h : ft_readLine.le p = true)
    (hf : ∀ x b, (f x b).Within p) : (readLine k agent l found f).Within p := by
  refine .dyn fun s => ?_
  dsimp only; split
  · exact hf _ _
  · split
    · exact hf _ _
    · exact .seq (((w_lineCorrected ..).mono (q := ft_readLine) (by decide +kernel)).mono h)
        (.seq ((w_modScell (p := ft_readLine) k _ (by decide +kernel)).mono h) (hf _ _))
    · exact .seq (((w_lineBad ..).mono (q := ft_readLine) (by decide +kernel)).mono h) (hf _ _)

def ft_storeLine : Foot :=
  { flds := [.cell .scell, .cell .line], regs := [] }

theorem w_storeLine (k l : Nat) (x : Line) : (storeLine k l x).Within ft_storeLine := by
  unfold storeLine
  repeat' first | with_reducible apply Act.Within.nop | with_reducible apply w_modScell | (with_reducible apply within_upd; exact ⟨_, rfl, by decide +kernel⟩) | decide +kernel | with_reducible apply Act.Within.dyn | with_reducible apply within_ite | with_reducible apply Act.Within.seq | with_reducible apply within_seqs_cons | with_reducible apply within_seqs_nil | with_reducible intro _ | split | dsimp only

def ft_writeLine : Foot :=
  { flds := [.cell .scell, .cell .line, .exh .load, .log .logWr, .log .logLost, .log .logIntake, .log .ibiHold, .log .ibiWait, .out .ibis], regs := [rINT_CNT, rSCL_CE_CNT, rSCL_ERR, rSCL_ERR_ADDR, rSCL_ERR_SITE] }

theorem w_writeLine (k agent l payload : Nat) (bad : Bool) (mask : Nat) (found : Found) : (writeLine k agent l payload bad mask found).Within ft_writeLine := by
  unfold writeLine
  repeat' first | with_reducible apply Act.Within.nop | with_reducible apply Act.Within.mono (w_lineBad ..) | with_reducible apply Act.Within.mono (w_lineCorrected ..) | with_reducible apply Act.Within.mono (w_storeLine ..) | decide +kernel | with_reducible apply Act.Within.dyn | with_reducible apply within_ite | with_reducible apply Act.Within.seq | with_reducible apply within_seqs_cons | with_reducible apply within_seqs_nil | with_reducible intro _ | split | dsimp only

def ft_walkOn : Foot :=
  { flds := [.cell .scell], regs := [] }

theorem w_walkOn (k g p : Nat) (counts : List Nat) : (walkOn k g p counts).Within ft_walkOn := by
  unfold walkOn
  repeat' first | with_reducible apply Act.Within.nop | with_reducible apply w_modScell | decide +kernel | with_reducible apply Act.Within.dyn | with_reducible apply within_ite | with_reducible apply Act.Within.seq | with_reducible apply within_seqs_cons | with_reducible apply within_seqs_nil | with_reducible intro _ | split | dsimp only

theorem w_GenCtx_overSram (x : GenCtx) (l : Nat) : (GenCtx.overSram x l).Within footWork := by
  unfold GenCtx.overSram
  repeat' first | with_reducible apply Act.Within.nop | with_reducible apply Act.Within.mono (w_sclOverflow ..) | decide +kernel | with_reducible apply Act.Within.dyn | with_reducible apply within_ite | with_reducible apply Act.Within.seq | with_reducible apply within_seqs_cons | with_reducible apply within_seqs_nil | with_reducible intro _ | split | dsimp only

theorem w_GenCtx_planned {p : Foot} (x : GenCtx) {a : Act} (h : footWork.le p = true) (ha : a.Within p) :
    (x.planned a).Within p := by
  unfold GenCtx.planned; split
  · exact ((w_sclOverflow ..).mono (q := footWork) (by decide +kernel)).mono h
  · exact ha

theorem w_GenCtx_scaleOn (x : GenCtx) (t : Nat) : (GenCtx.scaleOn x t).Within ft_walkOn := by
  unfold GenCtx.scaleOn
  repeat' first | with_reducible apply Act.Within.nop | with_reducible apply w_modScell | decide +kernel | with_reducible apply Act.Within.dyn | with_reducible apply within_ite | with_reducible apply Act.Within.seq | with_reducible apply within_seqs_cons | with_reducible apply within_seqs_nil | with_reducible intro _ | split | dsimp only

theorem w_GenCtx_on (x : GenCtx) : (GenCtx.on x).Within ft_walkOn := by
  unfold GenCtx.on
  repeat' first | with_reducible apply Act.Within.nop | with_reducible apply Act.Within.mono (w_walkOn ..) | decide +kernel | with_reducible apply Act.Within.dyn | with_reducible apply within_ite | with_reducible apply Act.Within.seq | with_reducible apply within_seqs_cons | with_reducible apply within_seqs_nil | with_reducible intro _ | split | dsimp only

theorem w_GenCtx_send (x : GenCtx) (payload : Nat) (last bad : Bool) : (GenCtx.send x payload last bad).Within ft_cellSendN := by
  unfold GenCtx.send
  repeat' first | with_reducible apply Act.Within.nop | with_reducible apply Act.Within.mono (w_cellPut ..) | decide +kernel | with_reducible apply Act.Within.dyn | with_reducible apply within_ite | with_reducible apply Act.Within.seq | with_reducible apply within_seqs_cons | with_reducible apply within_seqs_nil | with_reducible intro _ | split | dsimp only

theorem w_fabRdA (k g : Nat) (found : Found) : (fabRdA k g found).Within footWork := by
  unfold fabRdA
  repeat' first | with_reducible apply Act.Within.nop | with_reducible apply Act.Within.mono (w_GenCtx_on ..) | with_reducible apply Act.Within.mono (w_GenCtx_overSram ..) | with_reducible apply w_GenCtx_planned | with_reducible apply Act.Within.mono (w_GenCtx_scaleOn ..) | with_reducible apply Act.Within.mono (w_GenCtx_send ..) | with_reducible apply w_readLine | with_reducible apply within_withSome | decide +kernel | with_reducible apply Act.Within.dyn | with_reducible apply within_ite | with_reducible apply Act.Within.seq | with_reducible apply within_seqs_cons | with_reducible apply within_seqs_nil | with_reducible intro _ | split | dsimp only

theorem w_fabWrA (k g : Nat) (found : Found) : (fabWrA k g found).Within footWork := by
  unfold fabWrA
  repeat' first | with_reducible apply Act.Within.nop | with_reducible apply Act.Within.mono (w_GenCtx_on ..) | with_reducible apply Act.Within.mono (w_GenCtx_overSram ..) | with_reducible apply w_GenCtx_planned | with_reducible apply Act.Within.mono (w_GenCtx_scaleOn ..) | with_reducible apply Act.Within.mono (w_writeLine ..) | with_reducible refine within_when' ?_ | with_reducible apply within_withSome | (with_reducible apply within_upd; exact ⟨_, rfl, by decide +kernel⟩) | decide +kernel | with_reducible apply Act.Within.dyn | with_reducible apply within_ite | with_reducible apply Act.Within.seq | with_reducible apply within_seqs_cons | with_reducible apply within_seqs_nil | with_reducible intro _ | split | dsimp only

def ft_portBad : Foot :=
  { flds := [.fresh, .exh .load, .log .logWr, .log .logLost, .log .logIntake, .log .ibiHold, .log .ibiWait, .out .ibis], regs := [rINT_CNT, rSCL_ERR, rSCL_ERR_ADDR, rSCL_ERR_SITE, rT1C_ERR, rT1C_ERR_ADDR, rT2C_ERR_ADDR, rT3C_ERR_ADDR] }

theorem w_portBad (k a : Nat) : (portBad k a).Within ft_portBad := by
  unfold portBad
  repeat' first | with_reducible apply Act.Within.nop | with_reducible apply Act.Within.mono (w_sclFault ..) | with_reducible apply Act.Within.mono (w_siteCause ..) | with_reducible apply Act.Within.mono (w_tierRecord ..) | with_reducible apply within_orReg | decide +kernel | with_reducible apply Act.Within.dyn | with_reducible apply within_ite | with_reducible apply Act.Within.seq | with_reducible apply within_seqs_cons | with_reducible apply within_seqs_nil | with_reducible intro _ | split | dsimp only

theorem w_State_overT1 (s : State) (x : GenCtx) (a : Int) : (State.overT1 s x a).Within footWork := by
  unfold State.overT1
  repeat' first | with_reducible apply Act.Within.nop | with_reducible apply Act.Within.mono (w_sclOverflow ..) | with_reducible refine within_when' ?_ | with_reducible apply within_orReg | decide +kernel | with_reducible apply Act.Within.dyn | with_reducible apply within_ite | with_reducible apply Act.Within.seq | with_reducible apply within_seqs_cons | with_reducible apply within_seqs_nil | with_reducible intro _ | split | dsimp only

theorem w_GenCtx_onward (x : GenCtx) : (GenCtx.onward x).Within ft_walkOn := by
  unfold GenCtx.onward
  repeat' first | with_reducible apply Act.Within.nop | with_reducible apply Act.Within.mono (w_GenCtx_on ..) | with_reducible apply Act.Within.mono (w_GenCtx_scaleOn ..) | decide +kernel | with_reducible apply Act.Within.dyn | with_reducible apply within_ite | with_reducible apply Act.Within.seq | with_reducible apply within_seqs_cons | with_reducible apply within_seqs_nil | with_reducible intro _ | split | dsimp only

theorem w_t1RdA (k g : Nat) (found : Found) : (t1RdA k g found).Within footWork := by
  unfold t1RdA
  repeat' first | with_reducible apply Act.Within.nop | with_reducible apply Act.Within.mono (w_GenCtx_onward ..) | with_reducible apply Act.Within.mono (w_GenCtx_overSram ..) | with_reducible apply w_GenCtx_planned | with_reducible apply Act.Within.mono (w_State_overT1 ..) | with_reducible apply Act.Within.mono (w_portBad ..) | with_reducible apply Act.Within.mono (w_storeLine ..) | with_reducible apply Act.Within.mono (w_tierCorrected ..) | with_reducible refine within_when' ?_ | with_reducible apply within_withSome | decide +kernel | with_reducible apply Act.Within.dyn | with_reducible apply within_ite | with_reducible apply Act.Within.seq | with_reducible apply within_seqs_cons | with_reducible apply within_seqs_nil | with_reducible intro _ | split | dsimp only

def ft_writeBeat : Foot :=
  { flds := [.mem, .poison, .fresh, .exh .load, .log .logWr, .log .logLost, .log .logIntake, .log .ibiHold, .log .ibiWait, .out .ibis], regs := [rINT_CNT, rSCL_ERR, rSCL_ERR_ADDR, rSCL_ERR_SITE, rT1C_CE_CNT, rT1C_ERR, rT1C_ERR_ADDR, rT2C_CE_CNT, rT2C_ERR, rT2C_ERR_ADDR, rT3C_CE_CNT, rT3C_ERR, rT3C_ERR_ADDR] }

theorem w_writeBeat (k copy : Nat) (beat : Int) (bytes : List (Int × Nat × Nat)) (found : Found) : (writeBeat k copy beat bytes found).Within ft_writeBeat := by
  unfold writeBeat
  repeat' first | with_reducible apply Act.Within.nop | with_reducible apply Act.Within.mono (w_markBad ..) | with_reducible apply Act.Within.mono (w_modObj ..) | with_reducible apply Act.Within.mono (w_portBad ..) | with_reducible apply Act.Within.mono (w_tierCorrected ..) | with_reducible apply within_each | (with_reducible apply within_upd; exact ⟨_, rfl, by decide +kernel⟩) | decide +kernel | with_reducible apply Act.Within.dyn | with_reducible apply within_ite | with_reducible apply Act.Within.seq | with_reducible apply within_seqs_cons | with_reducible apply within_seqs_nil | with_reducible intro _ | split | dsimp only

theorem w_t1WrA (k g : Nat) (found : Found) : (t1WrA k g found).Within footWork := by
  unfold t1WrA
  repeat' first | with_reducible apply Act.Within.nop | with_reducible apply Act.Within.mono (w_GenCtx_onward ..) | with_reducible apply Act.Within.mono (w_GenCtx_overSram ..) | with_reducible apply w_GenCtx_planned | with_reducible apply Act.Within.mono (w_State_overT1 ..) | with_reducible apply Act.Within.mono (w_dirtyCopy ..) | with_reducible apply Act.Within.mono (w_markBad ..) | with_reducible apply Act.Within.mono (w_modObj ..) | with_reducible apply w_readLine | with_reducible apply Act.Within.mono (w_siteCause ..) | with_reducible apply Act.Within.mono (w_writeBeat ..) | with_reducible apply within_each | with_reducible apply within_withSome | (with_reducible apply within_upd; exact ⟨_, rfl, by decide +kernel⟩) | decide +kernel | with_reducible apply Act.Within.dyn | with_reducible apply within_ite | with_reducible apply Act.Within.seq | with_reducible apply within_seqs_cons | with_reducible apply within_seqs_nil | with_reducible intro _ | split | dsimp only

theorem w_correctionWritebackA (k l : Nat) : (correctionWritebackA k l).Within ft_storeLine := by
  unfold correctionWritebackA
  repeat' first | with_reducible apply Act.Within.nop | with_reducible apply Act.Within.mono (w_storeLine ..) | decide +kernel | with_reducible apply Act.Within.dyn | with_reducible apply within_ite | with_reducible apply Act.Within.seq | with_reducible apply within_seqs_cons | with_reducible apply within_seqs_nil | with_reducible intro _ | split | dsimp only

def ft_sramScrubA : Foot :=
  { flds := [.cell .scell, .cell .line, .log .logWr, .log .logLost, .log .logIntake, .log .ibiHold, .log .ibiWait, .out .ibis], regs := [rINT_CNT, rSCL_CE_CNT, rSCL_ERR, rSCL_ERR_ADDR, rSCL_ERR_SITE] }

theorem w_sramScrubA (k bank : Nat) (found : Found) : (sramScrubA k bank found).Within ft_sramScrubA := by
  unfold sramScrubA
  repeat' first | with_reducible apply Act.Within.nop | with_reducible apply Act.Within.mono (w_lineCorrected ..) | with_reducible apply Act.Within.mono (w_sclFault ..) | with_reducible apply Act.Within.mono (w_storeLine ..) | with_reducible apply w_modScell | decide +kernel | with_reducible apply Act.Within.dyn | with_reducible apply within_ite | with_reducible apply Act.Within.seq | with_reducible apply within_seqs_cons | with_reducible apply within_seqs_nil | with_reducible intro _ | split | dsimp only

theorem w_writeScrub {p : Foot} (blk off v : Nat) (h : off < 2 ^ 24) (hm : off ∈ p.regs) (hl : footLog.le p = true) :
    (writeScrub blk off v).Within p :=
  .seq (within_setReg _ _ h hm) (within_when' (w_incA _ _ _ hl (by simp [errOk])))

def ft_writeSclInj : Foot :=
  { flds := [.cell .line, .log .logWr, .log .logLost, .log .logIntake, .log .ibiHold, .log .ibiWait, .out .ibis], regs := [rINT_CNT] }

theorem w_writeSclInj (v : Nat) : (writeSclInj v).Within ft_writeSclInj := by
  unfold writeSclInj
  repeat' first | with_reducible apply Act.Within.nop | with_reducible apply w_incA | (with_reducible apply within_upd; exact ⟨_, rfl, by decide +kernel⟩) | decide +kernel | exact errOk_none _ _ | exact errOk_any (by decide +kernel) | with_reducible apply Act.Within.dyn | with_reducible apply within_ite | with_reducible apply Act.Within.seq | with_reducible apply within_seqs_cons | with_reducible apply within_seqs_nil | with_reducible intro _ | split | dsimp only

def ft_stopCell : Foot :=
  { flds := [.cell .acell, .cell .scell], regs := [] }

theorem w_stopCell (k : Nat) : (stopCell k).Within ft_stopCell := by
  unfold stopCell
  repeat' first | with_reducible apply Act.Within.nop | with_reducible apply w_modAcell | with_reducible apply w_modScell | decide +kernel | with_reducible apply Act.Within.dyn | with_reducible apply within_ite | with_reducible apply Act.Within.seq | with_reducible apply within_seqs_cons | with_reducible apply within_seqs_nil | with_reducible intro _ | split | dsimp only

theorem w_staleFault (k st : Nat) : (staleFault k st).Within footWork := by
  unfold staleFault
  repeat' first | with_reducible apply Act.Within.nop | with_reducible apply Act.Within.mono (w_clearLoadQueues ..) | with_reducible apply Act.Within.mono (w_endWith ..) | with_reducible apply w_firstFault | with_reducible apply w_incident | with_reducible apply Act.Within.mono (w_stopCell ..) | with_reducible apply within_withSome | decide +kernel | exact errOk_none _ _ | exact errOk_any (by decide +kernel) | with_reducible apply Act.Within.dyn | with_reducible apply within_ite | with_reducible apply Act.Within.seq | with_reducible apply within_seqs_cons | with_reducible apply within_seqs_nil | with_reducible intro _ | split | dsimp only

def ft_popPort : Foot :=
  { flds := [.fab .creditFly, .cell .arrived], regs := [] }

theorem w_popPort (k st : Nat) (rest : List Token) : (popPort k st rest).Within ft_popPort := by
  unfold popPort
  repeat' first | with_reducible apply Act.Within.nop | with_reducible apply w_modCreditFly | (with_reducible apply within_upd; exact ⟨_, rfl, by decide +kernel⟩) | decide +kernel | with_reducible apply Act.Within.dyn | with_reducible apply within_ite | with_reducible apply Act.Within.seq | with_reducible apply within_seqs_cons | with_reducible apply within_seqs_nil | with_reducible intro _ | split | dsimp only

theorem w_tokenConsumeA (k st : Nat) (opbuf : Found) : (tokenConsumeA k st opbuf).Within footWork := by
  unfold tokenConsumeA
  repeat' first | with_reducible apply Act.Within.nop | with_reducible apply Act.Within.mono (w_aclFault ..) | with_reducible apply Act.Within.mono (w_fabFault ..) | with_reducible apply w_incident | with_reducible apply Act.Within.mono (w_popPort ..) | with_reducible apply Act.Within.mono (w_siteCause ..) | with_reducible apply Act.Within.mono (w_staleFault ..) | with_reducible refine within_when' ?_ | with_reducible apply w_modGot | decide +kernel | exact errOk_none _ _ | exact errOk_any (by decide +kernel) | with_reducible apply Act.Within.dyn | with_reducible apply within_ite | with_reducible apply Act.Within.seq | with_reducible apply within_seqs_cons | with_reducible apply within_seqs_nil | with_reducible intro _ | split | dsimp only

def ft_takeCmd : Foot :=
  { flds := [.que .cmd], regs := [] }

theorem w_takeCmd (id : Nat) : (takeCmd id).Within ft_takeCmd := by
  unfold takeCmd
  repeat' first | with_reducible apply Act.Within.nop | with_reducible apply w_modCmd | decide +kernel | with_reducible apply Act.Within.dyn | with_reducible apply within_ite | with_reducible apply Act.Within.seq | with_reducible apply within_seqs_cons | with_reducible apply within_seqs_nil | with_reducible intro _ | split | dsimp only

def ft_runCmdA : Foot :=
  { flds := [.mem, .exh .load, .mov .iq, .que .pair, .que .cmd, .ten .tenant], regs := [rDOC_IQ_CTL, rQUE_PAIR_CFG, rTEN_CTL, rTEN_RESET] }

theorem w_runCmdA (id : Nat) : (runCmdA id).Within ft_runCmdA := by
  unfold runCmdA
  repeat' first | with_reducible apply Act.Within.nop | with_reducible apply Act.Within.mono (w_complete ..) | with_reducible apply Act.Within.mono (w_takeCmd ..) | with_reducible apply within_withSome | with_reducible apply w_modLoad | decide +kernel | with_reducible apply Act.Within.dyn | with_reducible apply within_ite | with_reducible apply Act.Within.seq | with_reducible apply within_seqs_cons | with_reducible apply within_seqs_nil | with_reducible intro _ | split | dsimp only

theorem w_shapeFault (h : Nat) : (shapeFault h).Within footWork := by
  unfold shapeFault
  repeat' first | with_reducible apply Act.Within.nop | with_reducible apply Act.Within.mono (w_endAs ..) | with_reducible apply w_incident | with_reducible refine within_when' ?_ | with_reducible apply within_setReg | decide +kernel | exact errOk_none _ _ | exact errOk_any (by decide +kernel) | with_reducible apply Act.Within.dyn | with_reducible apply within_ite | with_reducible apply Act.Within.seq | with_reducible apply within_seqs_cons | with_reducible apply within_seqs_nil | with_reducible intro _ | split | dsimp only

theorem w_bindSlot (h b : Nat) (i : Option Nat) : (bindSlot h b i).Within ft_unpinLoad := by
  unfold bindSlot
  repeat' first | with_reducible apply Act.Within.nop | with_reducible apply Act.Within.mono (w_pinCopy ..) | with_reducible apply Act.Within.mono (w_unpinCopy ..) | with_reducible apply within_withSome | with_reducible apply w_modLoad | decide +kernel | with_reducible apply Act.Within.dyn | with_reducible apply within_ite | with_reducible apply Act.Within.seq | with_reducible apply within_seqs_cons | with_reducible apply within_seqs_nil | with_reducible intro _ | split | dsimp only

theorem w_startCells (h : Nat) : (startCells h).Within ft_stopCell := by
  unfold startCells
  repeat' first | with_reducible apply Act.Within.nop | with_reducible apply within_each | with_reducible apply w_modAcell | with_reducible apply w_modScell | decide +kernel | with_reducible apply Act.Within.dyn | with_reducible apply within_ite | with_reducible apply Act.Within.seq | with_reducible apply within_seqs_cons | with_reducible apply within_seqs_nil | with_reducible intro _ | split | dsimp only

def ft_startWhole : Foot :=
  { flds := [.cell .acell, .cell .scell, .exh .load], regs := [] }

theorem w_startWhole (h : Nat) : (startWhole h).Within ft_startWhole := by
  unfold startWhole
  repeat' first | with_reducible apply Act.Within.nop | with_reducible apply Act.Within.mono (w_startCells ..) | with_reducible apply w_modLoad | decide +kernel | with_reducible apply Act.Within.dyn | with_reducible apply within_ite | with_reducible apply Act.Within.seq | with_reducible apply within_seqs_cons | with_reducible apply within_seqs_nil | with_reducible intro _ | split | dsimp only

theorem w_checkCommand (h : Nat) (client : Bool) : (checkCommand h client).Within footWork := by
  unfold checkCommand
  repeat' first | with_reducible apply Act.Within.nop | with_reducible apply Act.Within.mono (w_endAs ..) | with_reducible apply Act.Within.mono (w_shapeFault ..) | with_reducible apply Act.Within.mono (w_startWhole ..) | decide +kernel | with_reducible apply Act.Within.dyn | with_reducible apply within_ite | with_reducible apply Act.Within.seq | with_reducible apply within_seqs_cons | with_reducible apply within_seqs_nil | with_reducible intro _ | split | dsimp only

theorem w_takeHead (h id : Nat) (rest : List Nat) (shape : List (Option Nat)) : (takeHead h id rest shape).Within ft_addCause := by
  unfold takeHead
  repeat' first | with_reducible apply Act.Within.nop | with_reducible apply w_modLoad | decide +kernel | with_reducible apply Act.Within.dyn | with_reducible apply within_ite | with_reducible apply Act.Within.seq | with_reducible apply within_seqs_cons | with_reducible apply within_seqs_nil | with_reducible intro _ | split | dsimp only

theorem w_startClient (h id : Nat) (rest : List Nat) (c : Cmd) : (startClient h id rest c).Within footWork := by
  unfold startClient
  repeat' first | with_reducible apply Act.Within.nop | with_reducible apply Act.Within.mono (w_bindSlot ..) | with_reducible apply Act.Within.mono (w_checkCommand ..) | with_reducible apply Act.Within.mono (w_endAs ..) | with_reducible apply Act.Within.mono (w_takeHead ..) | with_reducible apply within_each | decide +kernel | with_reducible apply Act.Within.dyn | with_reducible apply within_ite | with_reducible apply Act.Within.seq | with_reducible apply within_seqs_cons | with_reducible apply within_seqs_nil | with_reducible intro _ | split | dsimp only

theorem w_startServing (h id : Nat) (rest : List Nat) (c : Cmd) : (startServing h id rest c).Within footWork := by
  unfold startServing
  repeat' first | with_reducible apply Act.Within.nop | with_reducible apply Act.Within.mono (w_bindSlot ..) | with_reducible apply Act.Within.mono (w_checkCommand ..) | with_reducible apply Act.Within.mono (w_takeHead ..) | with_reducible apply within_withSome | with_reducible apply w_modLoad | (with_reducible apply within_upd; exact ⟨_, rfl, by decide +kernel⟩) | decide +kernel | with_reducible apply Act.Within.dyn | with_reducible apply within_ite | with_reducible apply Act.Within.seq | with_reducible apply within_seqs_cons | with_reducible apply within_seqs_nil | with_reducible intro _ | split | dsimp only

theorem w_commandStartA (h : Nat) : (commandStartA h).Within footWork := by
  unfold commandStartA
  repeat' first | with_reducible apply Act.Within.nop | with_reducible apply Act.Within.mono (w_startClient ..) | with_reducible apply Act.Within.mono (w_startServing ..) | with_reducible apply Act.Within.mono (w_startWhole ..) | with_reducible apply within_withSome | decide +kernel | with_reducible apply Act.Within.dyn | with_reducible apply within_ite | with_reducible apply Act.Within.seq | with_reducible apply within_seqs_cons | with_reducible apply within_seqs_nil | with_reducible intro _ | split | dsimp only

theorem w_completeA (h : Nat) (pre : Bool) : (completeA h pre).Within footLoad := by
  unfold completeA
  repeat' first | with_reducible apply Act.Within.nop | with_reducible apply Act.Within.mono (w_endLoad ..) | decide +kernel | with_reducible apply Act.Within.dyn | with_reducible apply within_ite | with_reducible apply Act.Within.seq | with_reducible apply within_seqs_cons | with_reducible apply within_seqs_nil | with_reducible intro _ | split | dsimp only

def ft_refuseImage : Foot :=
  { flds := [.mem, .mov .iq, .que .pair, .que .cmd, .ten .tenant, .log .logWr, .log .logLost, .log .logIntake, .log .ibiHold, .log .ibiWait, .out .ibis], regs := [rDOC_IQ_CTL, rEXH_ERR, rEXH_REFUSE, rINT_CNT, rQUE_PAIR_CFG, rSEC_ERR, rTEN_CTL, rTEN_RESET] }

theorem w_refuseImage (id reason off : Nat) : (refuseImage id reason off).Within ft_refuseImage := by
  unfold refuseImage
  repeat' first | with_reducible apply Act.Within.nop | with_reducible apply Act.Within.mono (w_complete ..) | with_reducible apply w_incident | with_reducible apply within_withSome | with_reducible apply within_setReg | with_reducible apply within_orReg | decide +kernel | exact errOk_none _ _ | exact errOk_any (by decide +kernel) | with_reducible apply Act.Within.dyn | with_reducible apply within_ite | with_reducible apply Act.Within.seq | with_reducible apply within_seqs_cons | with_reducible apply within_seqs_nil | with_reducible intro _ | split | dsimp only

def ft_keepImage : Foot :=
  { flds := [.exh .imgEntry, .exh .imgStamp], regs := [] }

theorem w_keepImage (e : Nat) (im : Image) : (keepImage e im).Within ft_keepImage := by
  unfold keepImage
  repeat' first | with_reducible apply Act.Within.nop | (with_reducible apply within_upd; exact ⟨_, rfl, by decide +kernel⟩) | decide +kernel | with_reducible apply Act.Within.dyn | with_reducible apply within_ite | with_reducible apply Act.Within.seq | with_reducible apply within_seqs_cons | with_reducible apply within_seqs_nil | with_reducible intro _ | split | dsimp only

theorem w_withImage {p : Foot} (id : Nat) (c : Cmd) {f : Nat → Nat → Image → Act} (h : ft_refuseImage.le p = true)
    (hf : ∀ i e im, (f i e im).Within p) : (withImage id c f).Within p := by
  have hc : ∀ (st : Status) (r d : Nat), (complete id st r d).Within p :=
    fun st r d => ((w_complete id st r d).mono (q := ft_refuseImage) (by decide +kernel)).mono h
  have hr : ∀ (r d : Nat), (refuseImage id r d).Within p :=
    fun r d => ((w_refuseImage id r d).mono (q := ft_refuseImage) (by decide +kernel)).mono h
  unfold withImage
  repeat' first | exact hc _ _ _ | exact hr _ _ | exact hf _ _ _ | refine within_withSome fun _ _ => ?_ | refine .dyn fun _ => ?_ | refine within_ite ?_ ?_ | split | dsimp only

def ft_sendTokens : Foot :=
  { flds := [.fab .wire], regs := [] }

theorem w_sendTokens (b : Nat) (l : List Nat) : (sendTokens b l).Within ft_sendTokens := by
  induction l with
  | nil => exact .nop
  | cons q l ih => exact .seq (.dyn fun _ => within_upd ⟨_, rfl, by decide +kernel⟩) ih

def ft_State_pathHead : Foot :=
  { flds := [.fab .site, .fab .wire], regs := [] }

theorem w_State_pathHead (s : State) (k : Nat) (x : Token × Act) (h : s.pathHead k = some x) :
    x.2.Within ft_State_pathHead := by
  unfold State.pathHead at h
  repeat' split at h
  all_goals first | cases h; done | (cases h; exact within_upd ⟨_, rfl, by decide +kernel⟩) | (cases h; exact .dyn fun _ => within_upd ⟨_, rfl, by decide +kernel⟩)

theorem w_configTokenA (k : Nat) : (configTokenA k).Within ft_State_pathHead := by
  unfold configTokenA
  repeat' first | with_reducible apply Act.Within.nop | with_reducible apply Act.Within.mono (w_State_pathHead _ _ _ (by assumption)) | with_reducible apply within_withSome | with_reducible apply w_modSite | decide +kernel | with_reducible apply Act.Within.dyn | with_reducible apply within_ite | with_reducible apply Act.Within.seq | with_reducible apply within_seqs_cons | with_reducible apply within_seqs_nil | with_reducible intro _ | split | dsimp only

theorem w_takeBays (h b n : Nat) : (takeBays h b n).Within ft_drainBays := by
  unfold takeBays
  repeat' first | with_reducible apply Act.Within.nop | with_reducible apply Act.Within.mono (w_setFences ..) | with_reducible apply within_each | (with_reducible apply within_upd; exact ⟨_, rfl, by decide +kernel⟩) | decide +kernel | with_reducible apply Act.Within.dyn | with_reducible apply within_ite | with_reducible apply Act.Within.seq | with_reducible apply within_seqs_cons | with_reducible apply within_seqs_nil | with_reducible intro _ | split | dsimp only

def ft_exhibitLoadA : Foot :=
  { flds := [.mem, .fab .bay, .fab .wire, .exh .load, .exh .imgEntry, .exh .imgStamp, .mov .iq, .que .pair, .que .cmd, .ten .tenant, .log .logWr, .log .logLost, .log .logIntake, .log .ibiHold, .log .ibiWait, .out .ibis], regs := [rDOC_IQ_CTL, rEXH_ERR, rEXH_REFUSE, rFAB_BAY_FENCE, rINT_CNT, rQUE_PAIR_CFG, rSEC_ERR, rTEN_CTL, rTEN_RESET] }

theorem w_exhibitLoadA (id : Nat) : (exhibitLoadA id).Within ft_exhibitLoadA := by
  unfold exhibitLoadA
  repeat' first | with_reducible apply Act.Within.nop | with_reducible apply Act.Within.mono (w_complete ..) | with_reducible apply Act.Within.mono (w_keepImage ..) | with_reducible apply Act.Within.mono (w_pinCopy ..) | with_reducible apply Act.Within.mono (w_sendTokens ..) | with_reducible apply Act.Within.mono (w_takeBays ..) | with_reducible apply Act.Within.mono (w_takeCmd ..) | with_reducible apply w_withImage | with_reducible apply within_withSome | (with_reducible apply within_upd; exact ⟨_, rfl, by decide +kernel⟩) | decide +kernel | with_reducible apply Act.Within.dyn | with_reducible apply within_ite | with_reducible apply Act.Within.seq | with_reducible apply within_seqs_cons | with_reducible apply within_seqs_nil | with_reducible intro _ | split | dsimp only

def ft_installLoad : Foot :=
  { flds := [.fab .slot, .fab .site, .fab .credit, .fab .creditFly, .cell .acell, .cell .scell], regs := [] }

theorem w_installLoad (h e : Nat) : (installLoad h e).Within ft_installLoad := by
  unfold installLoad
  repeat' first | with_reducible apply Act.Within.nop | with_reducible apply Act.Within.mono (w_installCell ..) | with_reducible apply Act.Within.mono (w_liveSlot ..) | with_reducible apply within_each | decide +kernel | with_reducible apply Act.Within.dyn | with_reducible apply within_ite | with_reducible apply Act.Within.seq | with_reducible apply within_seqs_cons | with_reducible apply within_seqs_nil | with_reducible intro _ | split | dsimp only

def ft_loadConfiguredA : Foot :=
  { flds := [.mem, .poison, .fab .bay, .fab .slot, .fab .site, .fab .credit, .fab .creditFly, .cell .acell, .cell .scell, .exh .load, .mov .iq, .srv .srvSt, .srv .req, .srv .pfx, .srv .srvStep, .que .pair, .que .cmd, .que .nextCmd, .ten .tenant, .ten .slice, .lnk .stream], regs := [rDOC_IQ_CTL, rFAB_BAY_FENCE, rQUE_PAIR_CFG, rSRV_CTL, rSRV_ERR, rTEN_ACC_T1, rTEN_ACC_T2, rTEN_ACC_T3, rTEN_CTL, rTEN_RESET] }

theorem w_loadConfiguredA (h : Nat) : (loadConfiguredA h).Within ft_loadConfiguredA := by
  unfold loadConfiguredA
  repeat' first | with_reducible apply Act.Within.nop | with_reducible apply Act.Within.mono (w_complete ..) | with_reducible apply Act.Within.mono (w_installLoad ..) | with_reducible apply Act.Within.mono (w_releaseLoad ..) | with_reducible refine within_when' ?_ | with_reducible apply within_withSome | with_reducible apply w_modLoad | decide +kernel | with_reducible apply Act.Within.dyn | with_reducible apply within_ite | with_reducible apply Act.Within.seq | with_reducible apply within_seqs_cons | with_reducible apply within_seqs_nil | with_reducible intro _ | split | dsimp only

def ft_exhibitLoadSlicedA : Foot :=
  { flds := [.mem, .exh .load, .exh .imgEntry, .exh .imgStamp, .mov .iq, .que .pair, .que .cmd, .ten .tenant, .log .logWr, .log .logLost, .log .logIntake, .log .ibiHold, .log .ibiWait, .out .ibis], regs := [rDOC_IQ_CTL, rEXH_ERR, rEXH_REFUSE, rINT_CNT, rQUE_PAIR_CFG, rSEC_ERR, rTEN_CTL, rTEN_RESET] }

theorem w_exhibitLoadSlicedA (id : Nat) : (exhibitLoadSlicedA id).Within ft_exhibitLoadSlicedA := by
  unfold exhibitLoadSlicedA
  repeat' first | with_reducible apply Act.Within.nop | with_reducible apply Act.Within.mono (w_complete ..) | with_reducible apply Act.Within.mono (w_keepImage ..) | with_reducible apply Act.Within.mono (w_pinCopy ..) | with_reducible apply Act.Within.mono (w_refuseImage ..) | with_reducible apply w_withImage | with_reducible apply within_withSome | (with_reducible apply within_upd; exact ⟨_, rfl, by decide +kernel⟩) | decide +kernel | with_reducible apply Act.Within.dyn | with_reducible apply within_ite | with_reducible apply Act.Within.seq | with_reducible apply within_seqs_cons | with_reducible apply within_seqs_nil | with_reducible intro _ | split | dsimp only

def ft_stageRepl : Foot :=
  { flds := [.mem, .fab .wire, .exh .load, .exh .imgEntry, .exh .imgStamp], regs := [] }

theorem w_stageRepl (h copy e : Nat) (im : Image) (cmd : Option Nat) : (stageRepl h copy e im cmd).Within ft_stageRepl := by
  unfold stageRepl
  repeat' first | with_reducible apply Act.Within.nop | with_reducible apply Act.Within.mono (w_keepImage ..) | with_reducible apply Act.Within.mono (w_pinCopy ..) | with_reducible apply Act.Within.mono (w_sendTokens ..) | with_reducible apply w_modLoad | decide +kernel | with_reducible apply Act.Within.dyn | with_reducible apply within_ite | with_reducible apply Act.Within.seq | with_reducible apply within_seqs_cons | with_reducible apply within_seqs_nil | with_reducible intro _ | split | dsimp only

def ft_exhibitLoadReplaceA : Foot :=
  { flds := [.mem, .fab .wire, .exh .load, .exh .imgEntry, .exh .imgStamp, .mov .iq, .que .pair, .que .cmd, .ten .tenant, .log .logWr, .log .logLost, .log .logIntake, .log .ibiHold, .log .ibiWait, .out .ibis], regs := [rDOC_IQ_CTL, rEXH_ERR, rEXH_REFUSE, rINT_CNT, rQUE_PAIR_CFG, rSEC_ERR, rTEN_CTL, rTEN_RESET] }

theorem w_exhibitLoadReplaceA (id : Nat) : (exhibitLoadReplaceA id).Within ft_exhibitLoadReplaceA := by
  unfold exhibitLoadReplaceA
  repeat' first | with_reducible apply Act.Within.nop | with_reducible apply Act.Within.mono (w_complete ..) | with_reducible apply Act.Within.mono (w_refuseImage ..) | with_reducible apply Act.Within.mono (w_stageRepl ..) | with_reducible apply Act.Within.mono (w_takeCmd ..) | with_reducible apply w_withImage | with_reducible apply within_withSome | with_reducible apply w_modLoad | decide +kernel | with_reducible apply Act.Within.dyn | with_reducible apply within_ite | with_reducible apply Act.Within.seq | with_reducible apply within_seqs_cons | with_reducible apply within_seqs_nil | with_reducible intro _ | split | dsimp only

def ft_switchCell : Foot :=
  { flds := [.mem, .poison, .fab .bay, .fab .site, .fab .credit, .fab .wire, .cell .acell, .cell .cout, .cell .scell, .exh .load, .mov .iq, .srv .srvSt, .srv .req, .srv .pfx, .srv .srvStep, .que .pair, .que .cmd, .que .nextCmd, .ten .tenant, .ten .slice, .lnk .stream], regs := [rDOC_IQ_CTL, rFAB_BAY_FENCE, rQUE_PAIR_CFG, rSRV_CTL, rSRV_ERR, rTEN_ACC_T1, rTEN_ACC_T2, rTEN_ACC_T3, rTEN_CTL, rTEN_RESET] }

theorem w_switchCell (k : Nat) : (switchCell k).Within ft_switchCell := by
  unfold switchCell
  repeat' first | with_reducible apply Act.Within.nop | with_reducible apply Act.Within.mono (w_cellPut ..) | with_reducible apply Act.Within.mono (w_installCell ..) | with_reducible apply Act.Within.mono (w_settleSite ..) | with_reducible apply within_each | with_reducible refine within_when' ?_ | decide +kernel | with_reducible apply Act.Within.dyn | with_reducible apply within_ite | with_reducible apply Act.Within.seq | with_reducible apply within_seqs_cons | with_reducible apply within_seqs_nil | with_reducible intro _ | split | dsimp only

def ft_replaceCloseA : Foot :=
  { flds := [.mem, .poison, .fab .bay, .fab .slot, .fab .newSlot, .fab .site, .fab .credit, .fab .creditFly, .fab .wire, .cell .acell, .cell .cout, .cell .scell, .exh .load, .mov .iq, .srv .srvSt, .srv .req, .srv .pfx, .srv .srvStep, .que .pair, .que .cmd, .que .nextCmd, .ten .tenant, .ten .slice, .lnk .stream], regs := [rDOC_IQ_CTL, rFAB_BAY_FENCE, rQUE_PAIR_CFG, rSRV_CTL, rSRV_ERR, rTEN_ACC_T1, rTEN_ACC_T2, rTEN_ACC_T3, rTEN_CTL, rTEN_RESET] }

theorem w_replaceCloseA (h : Nat) : (replaceCloseA h).Within ft_replaceCloseA := by
  unfold replaceCloseA
  repeat' first | with_reducible apply Act.Within.nop | with_reducible apply Act.Within.mono (w_cellPut ..) | with_reducible apply Act.Within.mono (w_settleSlots ..) | with_reducible apply Act.Within.mono (w_switchCell ..) | with_reducible apply within_each | with_reducible refine within_when' ?_ | with_reducible apply within_withSome | with_reducible apply w_modSite | with_reducible apply w_modWire | with_reducible apply w_modLoad | (with_reducible apply within_upd; exact ⟨_, rfl, by decide +kernel⟩) | decide +kernel | with_reducible apply Act.Within.dyn | with_reducible apply within_ite | with_reducible apply Act.Within.seq | with_reducible apply within_seqs_cons | with_reducible apply within_seqs_nil | with_reducible intro _ | split | dsimp only

theorem w_markerAtCell (k st : Nat) : (markerAtCell k st).Within footWork := by
  unfold markerAtCell
  repeat' first | with_reducible apply Act.Within.nop | with_reducible apply Act.Within.mono (w_popPort ..) | with_reducible apply Act.Within.mono (w_staleFault ..) | with_reducible apply Act.Within.mono (w_switchCell ..) | with_reducible apply w_modAcell | with_reducible apply w_modScell | decide +kernel | with_reducible apply Act.Within.dyn | with_reducible apply within_ite | with_reducible apply Act.Within.seq | with_reducible apply within_seqs_cons | with_reducible apply within_seqs_nil | with_reducible intro _ | split | dsimp only

theorem w_epochMarkerA (site : Site) (inp : Fin 9) (stream : Fin 64) : (epochMarkerA site inp stream).Within footWork := by
  unfold epochMarkerA
  repeat' first | with_reducible apply Act.Within.nop | with_reducible apply Act.Within.mono (w_State_inbound _ _ _ _ _ (by assumption)) | with_reducible apply Act.Within.mono (w_markerAtCell ..) | with_reducible apply Act.Within.mono (w_tokenHopA ..) | decide +kernel | with_reducible apply Act.Within.dyn | with_reducible apply within_ite | with_reducible apply Act.Within.seq | with_reducible apply within_seqs_cons | with_reducible apply within_seqs_nil | with_reducible intro _ | split | dsimp only

def ft_switchSlowA : Foot :=
  { flds := [.log .logWr, .log .logLost, .log .logIntake, .log .ibiHold, .log .ibiWait, .out .ibis], regs := [rEXH_ERR, rINT_CNT] }

theorem w_switchSlowA (b : Nat) : (switchSlowA b).Within ft_switchSlowA := by
  unfold switchSlowA
  repeat' first | with_reducible apply Act.Within.nop | with_reducible apply w_incident | with_reducible apply within_whenS | decide +kernel | exact errOk_none _ _ | exact errOk_any (by decide +kernel) | with_reducible apply Act.Within.dyn | with_reducible apply within_ite | with_reducible apply Act.Within.seq | with_reducible apply within_seqs_cons | with_reducible apply within_seqs_nil | with_reducible intro _ | split | dsimp only

theorem w_exhibitReleaseA (id : Nat) : (exhibitReleaseA id).Within ft_releaseLoad := by
  unfold exhibitReleaseA
  repeat' first | with_reducible apply Act.Within.nop | with_reducible apply Act.Within.mono (w_complete ..) | with_reducible apply Act.Within.mono (w_releaseLoad ..) | with_reducible apply Act.Within.mono (w_takeCmd ..) | with_reducible apply within_withSome | with_reducible apply w_modLoad | decide +kernel | with_reducible apply Act.Within.dyn | with_reducible apply within_ite | with_reducible apply Act.Within.seq | with_reducible apply within_seqs_cons | with_reducible apply within_seqs_nil | with_reducible intro _ | split | dsimp only

theorem w_exhibitReleaseForceA (id : Nat) : (exhibitReleaseForceA id).Within footWork := by
  unfold exhibitReleaseForceA
  repeat' first | with_reducible apply Act.Within.nop | with_reducible apply Act.Within.mono (w_complete ..) | with_reducible apply Act.Within.mono (w_endWith ..) | with_reducible apply w_incident | with_reducible apply Act.Within.mono (w_takeCmd ..) | with_reducible apply within_withSome | with_reducible apply w_modLoad | decide +kernel | exact errOk_none _ _ | exact errOk_any (by decide +kernel) | with_reducible apply Act.Within.dyn | with_reducible apply within_ite | with_reducible apply Act.Within.seq | with_reducible apply within_seqs_cons | with_reducible apply within_seqs_nil | with_reducible intro _ | split | dsimp only

def ft_moveBay : Foot :=
  { flds := [.mem, .fab .wire, .exh .load, .exh .imgEntry, .exh .split, .exh .imgStamp], regs := [rEXH_ERR] }

theorem w_moveBay (g r e : Nat) : (moveBay g r e).Within ft_moveBay := by
  unfold moveBay
  repeat' first | with_reducible apply Act.Within.nop | with_reducible apply w_setErr | with_reducible apply Act.Within.mono (w_stageRepl ..) | with_reducible apply w_modSplit | decide +kernel | exact errOk_none _ _ | exact errOk_any (by decide +kernel) | with_reducible apply Act.Within.dyn | with_reducible apply within_ite | with_reducible apply Act.Within.seq | with_reducible apply within_seqs_cons | with_reducible apply within_seqs_nil | with_reducible intro _ | split | dsimp only

theorem w_splitWindowA : (splitWindowA).Within ft_moveBay := by
  unfold splitWindowA
  repeat' first | with_reducible apply Act.Within.nop | with_reducible apply Act.Within.mono (w_moveBay ..) | with_reducible apply within_each | with_reducible apply w_modSplit | decide +kernel | with_reducible apply Act.Within.dyn | with_reducible apply within_ite | with_reducible apply Act.Within.seq | with_reducible apply within_seqs_cons | with_reducible apply within_seqs_nil | with_reducible intro _ | split | dsimp only

def ft_writeSplitCtl : Foot :=
  { flds := [.exh .split, .log .logWr, .log .logLost, .log .logIntake, .log .ibiHold, .log .ibiWait, .out .ibis], regs := [rEXH_ERR, rEXH_SPLIT_CTL, rINT_CNT] }

theorem w_writeSplitCtl (v : Nat) : (writeSplitCtl v).Within ft_writeSplitCtl := by
  unfold writeSplitCtl
  repeat' first | with_reducible apply Act.Within.nop | with_reducible apply w_incA | with_reducible apply within_setFld | with_reducible apply within_setReg | (with_reducible apply within_upd; exact ⟨_, rfl, by decide +kernel⟩) | decide +kernel | exact errOk_none _ _ | exact errOk_any (by decide +kernel) | with_reducible apply Act.Within.dyn | with_reducible apply within_ite | with_reducible apply Act.Within.seq | with_reducible apply within_seqs_cons | with_reducible apply within_seqs_nil | with_reducible intro _ | split | dsimp only

def ft_writeWdog : Foot :=
  { flds := [.log .logWr, .log .logLost, .log .logIntake, .log .ibiHold, .log .ibiWait, .out .ibis], regs := [rEXH_WDOG, rINT_CNT] }

theorem w_writeWdog (v : Nat) : (writeWdog v).Within ft_writeWdog := by
  unfold writeWdog
  repeat' first | with_reducible apply Act.Within.nop | with_reducible apply w_incA | with_reducible refine within_when' ?_ | with_reducible apply within_setReg | decide +kernel | exact errOk_none _ _ | exact errOk_any (by decide +kernel) | with_reducible apply Act.Within.dyn | with_reducible apply within_ite | with_reducible apply Act.Within.seq | with_reducible apply within_seqs_cons | with_reducible apply within_seqs_nil | with_reducible intro _ | split | dsimp only

end Sys2Proof.Machine
end

