-- ==== Sys2Proof/Laws/FeetUnits.lean ====
section
/-!
SUPPORT. Footprints: what each shared operation may change (Serving, Sampler, Moves, Itinerary, Queues, Arbiter).
-/

namespace Sys2Proof.Machine

set_option Elab.async false
set_option linter.all false

def ft_arbGrant : Foot :=
  { flds := [.arb .arbiter, .arb .arbReq], regs := [rARB_GRANTS, rARB_WAIT, rARB_WAIT_MAX] }

theorem w_arbGrant (a r : Nat) : (arbGrant a r).Within ft_arbGrant := by
  unfold arbGrant
  repeat' first | with_reducible apply Act.Within.nop | with_reducible refine within_when' ?_ | with_reducible apply within_addFld | with_reducible apply within_setFld | with_reducible apply w_modArbiter | (with_reducible apply within_upd; exact ⟨_, rfl, by decide +kernel⟩) | decide +kernel | with_reducible apply Act.Within.dyn | with_reducible apply within_ite | with_reducible apply Act.Within.seq | with_reducible apply within_seqs_cons | with_reducible apply within_seqs_nil | with_reducible intro _ | split | dsimp only

def ft_arbLose : Foot :=
  { flds := [.arb .arbiter, .arb .arbReq], regs := [] }

theorem w_arbLose (a r : Nat) : (arbLose a r).Within ft_arbLose := by
  unfold arbLose
  repeat' first | with_reducible apply Act.Within.nop | with_reducible refine within_when' ?_ | with_reducible apply w_modArbiter | with_reducible apply w_modArbReq | decide +kernel | with_reducible apply Act.Within.dyn | with_reducible apply within_ite | with_reducible apply Act.Within.seq | with_reducible apply within_seqs_cons | with_reducible apply within_seqs_nil | with_reducible intro _ | split | dsimp only

theorem w_arbPresentA (a : Nat) (reqs : List Nat) : (arbPresentA a reqs).Within ft_arbGrant := by
  unfold arbPresentA
  repeat' first | with_reducible apply Act.Within.nop | with_reducible apply Act.Within.mono (w_arbGrant ..) | with_reducible apply Act.Within.mono (w_arbLose ..) | with_reducible apply within_each | with_reducible apply within_withSome | decide +kernel | with_reducible apply Act.Within.dyn | with_reducible apply within_ite | with_reducible apply Act.Within.seq | with_reducible apply within_seqs_cons | with_reducible apply within_seqs_nil | with_reducible intro _ | split | dsimp only

theorem w_arbAgainA (a r : Nat) : (arbAgainA a r).Within ft_arbGrant := by
  unfold arbAgainA
  repeat' first | with_reducible apply Act.Within.nop | with_reducible apply Act.Within.mono (w_arbPresentA ..) | with_reducible apply within_whenS | with_reducible apply w_modArbReq | decide +kernel | with_reducible apply Act.Within.dyn | with_reducible apply within_ite | with_reducible apply Act.Within.seq | with_reducible apply within_seqs_cons | with_reducible apply within_seqs_nil | with_reducible intro _ | split | dsimp only

def ft_writeCloseTen : Foot :=
  { flds := [.arb .arbiter], regs := [rARB_CLOSE_TEN] }

theorem w_writeCloseTen (v : Nat) : (writeCloseTen v).Within ft_writeCloseTen := by
  unfold writeCloseTen
  repeat' first | with_reducible apply Act.Within.nop | with_reducible apply within_each | with_reducible apply within_setReg | with_reducible apply w_modArbiter | decide +kernel | with_reducible apply Act.Within.dyn | with_reducible apply within_ite | with_reducible apply Act.Within.seq | with_reducible apply within_seqs_cons | with_reducible apply within_seqs_nil | with_reducible intro _ | split | dsimp only

def ft_clearCount : Foot :=
  { flds := [], regs := [rARB_GRANTS, rARB_WAIT, rARB_WAIT_MAX] }

theorem w_clearCount (k : Nat) : (clearCount k).Within ft_clearCount := by
  unfold clearCount
  repeat' first | with_reducible apply Act.Within.nop | with_reducible apply within_setReg | decide +kernel | with_reducible apply Act.Within.dyn | with_reducible apply within_ite | with_reducible apply Act.Within.seq | with_reducible apply within_seqs_cons | with_reducible apply within_seqs_nil | with_reducible intro _ | split | dsimp only

theorem w_clearCounts : (clearCounts).Within ft_clearCount := by
  unfold clearCounts
  repeat' first | with_reducible apply Act.Within.nop | with_reducible apply Act.Within.mono (w_clearCount ..) | with_reducible apply within_each | decide +kernel | with_reducible apply Act.Within.dyn | with_reducible apply within_ite | with_reducible apply Act.Within.seq | with_reducible apply within_seqs_cons | with_reducible apply within_seqs_nil | with_reducible intro _ | split | dsimp only

theorem w_clearSelected : (clearSelected).Within ft_clearCount := by
  unfold clearSelected
  repeat' first | with_reducible apply Act.Within.nop | with_reducible apply Act.Within.mono (w_clearCount ..) | decide +kernel | with_reducible apply Act.Within.dyn | with_reducible apply within_ite | with_reducible apply Act.Within.seq | with_reducible apply within_seqs_cons | with_reducible apply within_seqs_nil | with_reducible intro _ | split | dsimp only

def ft_svcFail : Foot :=
  { flds := [.log .logWr, .log .logLost, .log .logIntake, .log .ibiHold, .log .ibiWait, .out .ibis], regs := [rINT_CNT, rSRV_ERR, rSRV_SVC_CFG] }

theorem w_svcFail (v : Nat) : (svcFail v).Within ft_svcFail := by
  unfold svcFail
  repeat' first | with_reducible apply Act.Within.nop | with_reducible apply w_incident | with_reducible refine within_when' ?_ | with_reducible apply within_setFld | decide +kernel | exact errOk_none _ _ | exact errOk_any (by decide +kernel) | with_reducible apply Act.Within.dyn | with_reducible apply within_ite | with_reducible apply Act.Within.seq | with_reducible apply within_seqs_cons | with_reducible apply within_seqs_nil | with_reducible intro _ | split | dsimp only

def ft_svcReady : Foot :=
  { flds := [.mem, .srv .svcPins, .log .logWr, .log .logLost, .log .logIntake, .log .ibiHold, .log .ibiWait, .out .ibis], regs := [rINT_CNT, rSRV_ERR, rSRV_SVC_CFG] }

theorem w_svcReady (v : Nat) : (svcReady v).Within ft_svcReady := by
  unfold svcReady
  repeat' first | with_reducible apply Act.Within.nop | with_reducible apply Act.Within.mono (w_pinCopy ..) | with_reducible apply Act.Within.mono (w_svcFail ..) | with_reducible apply within_each | with_reducible apply within_setFld | (with_reducible apply within_upd; exact ⟨_, rfl, by decide +kernel⟩) | decide +kernel | with_reducible apply Act.Within.dyn | with_reducible apply within_ite | with_reducible apply Act.Within.seq | with_reducible apply within_seqs_cons | with_reducible apply within_seqs_nil | with_reducible intro _ | split | dsimp only

theorem w_svcStandby (v : Nat) : (svcStandby v).Within ft_svcFail := by
  unfold svcStandby
  repeat' first | with_reducible apply Act.Within.nop | with_reducible apply Act.Within.mono (w_svcFail ..) | with_reducible apply within_setFld | decide +kernel | with_reducible apply Act.Within.dyn | with_reducible apply within_ite | with_reducible apply Act.Within.seq | with_reducible apply within_seqs_cons | with_reducible apply within_seqs_nil | with_reducible intro _ | split | dsimp only

def ft_svcOff : Foot :=
  { flds := [.mem, .srv .svcPins], regs := [rSRV_SVC_CFG] }

theorem w_svcOff (v : Nat) : (svcOff v).Within ft_svcOff := by
  unfold svcOff
  repeat' first | with_reducible apply Act.Within.nop | with_reducible apply Act.Within.mono (w_unpinCopy ..) | with_reducible apply within_each | with_reducible apply within_setFld | (with_reducible apply within_upd; exact ⟨_, rfl, by decide +kernel⟩) | decide +kernel | with_reducible apply Act.Within.dyn | with_reducible apply within_ite | with_reducible apply Act.Within.seq | with_reducible apply within_seqs_cons | with_reducible apply within_seqs_nil | with_reducible intro _ | split | dsimp only

theorem w_writeSvcCfg (v w : Nat) : (writeSvcCfg v w).Within ft_svcReady := by
  unfold writeSvcCfg
  repeat' first | with_reducible apply Act.Within.nop | with_reducible apply w_incA | with_reducible apply Act.Within.mono (w_svcFail ..) | with_reducible apply Act.Within.mono (w_svcOff ..) | with_reducible apply Act.Within.mono (w_svcReady ..) | with_reducible apply Act.Within.mono (w_svcStandby ..) | with_reducible apply within_setReg | decide +kernel | exact errOk_none _ _ | exact errOk_any (by decide +kernel) | with_reducible apply Act.Within.dyn | with_reducible apply within_ite | with_reducible apply Act.Within.seq | with_reducible apply within_seqs_cons | with_reducible apply within_seqs_nil | with_reducible intro _ | split | dsimp only

def ft_admitReason : Foot :=
  { flds := [], regs := [rSRV_ADMIT_STAT] }

theorem w_admitReason (reason : Nat) (declined : Bool) : (admitReason reason declined).Within ft_admitReason := by
  unfold admitReason
  repeat' first | with_reducible apply Act.Within.nop | with_reducible refine within_when' ?_ | with_reducible apply within_addFld | with_reducible apply within_setFld | decide +kernel | with_reducible apply Act.Within.dyn | with_reducible apply within_ite | with_reducible apply Act.Within.seq | with_reducible apply within_seqs_cons | with_reducible apply within_seqs_nil | with_reducible intro _ | split | dsimp only

def ft_refuseAdmit : Foot :=
  { flds := [.mem, .mov .iq, .que .pair, .que .cmd, .ten .tenant], regs := [rDOC_IQ_CTL, rQUE_PAIR_CFG, rSRV_ADMIT_STAT, rTEN_CTL, rTEN_RESET] }

theorem w_refuseAdmit (id result reason : Nat) : (refuseAdmit id result reason).Within ft_refuseAdmit := by
  unfold refuseAdmit
  repeat' first | with_reducible apply Act.Within.nop | with_reducible apply Act.Within.mono (w_admitReason ..) | with_reducible apply Act.Within.mono (w_complete ..) | decide +kernel | with_reducible apply Act.Within.dyn | with_reducible apply within_ite | with_reducible apply Act.Within.seq | with_reducible apply within_seqs_cons | with_reducible apply within_seqs_nil | with_reducible intro _ | split | dsimp only

def ft_startStaging : Foot :=
  { flds := [.mov .iq, .log .logWr, .log .logLost, .log .logIntake, .log .ibiHold, .log .ibiWait, .out .ibis], regs := [rDOC_ERR, rDOC_IQ_CTL, rINT_CNT, rSEC_ERR, rSRV_SVC_CFG] }

theorem w_startStaging (v : Nat) : (startStaging v).Within ft_startStaging := by
  unfold startStaging
  repeat' first | with_reducible apply Act.Within.nop | with_reducible apply Act.Within.mono (w_enableIq ..) | with_reducible apply within_setFld | decide +kernel | with_reducible apply Act.Within.dyn | with_reducible apply within_ite | with_reducible apply Act.Within.seq | with_reducible apply within_seqs_cons | with_reducible apply within_seqs_nil | with_reducible intro _ | split | dsimp only

def ft_admitReq : Foot :=
  { flds := [.mem, .mov .iq, .srv .req, .srv .pfx, .srv .reqStamp, .que .cmd, .log .logWr, .log .logLost, .log .logIntake, .log .ibiHold, .log .ibiWait, .out .ibis], regs := [rDOC_ERR, rDOC_IQ_CTL, rINT_CNT, rSEC_ERR, rSRV_SVC_CFG] }

theorem w_admitReq (id i r : Nat) (x : Req) : (admitReq id i r x).Within ft_admitReq := by
  unfold admitReq
  repeat' first | with_reducible apply Act.Within.nop | with_reducible apply Act.Within.mono (w_startStaging ..) | with_reducible apply within_withSome | with_reducible apply within_writeBytes | with_reducible apply w_modPfx | with_reducible apply w_modCmd | (with_reducible apply within_upd; exact ⟨_, rfl, by decide +kernel⟩) | decide +kernel | with_reducible apply Act.Within.dyn | with_reducible apply within_ite | with_reducible apply Act.Within.seq | with_reducible apply within_seqs_cons | with_reducible apply within_seqs_nil | with_reducible intro _ | split | dsimp only

def ft_submitA : Foot :=
  { flds := [.mem, .fresh, .mov .iq, .srv .req, .srv .pfx, .srv .reqStamp, .que .pair, .que .cmd, .ten .tenant, .log .logWr, .log .logLost, .log .logIntake, .log .ibiHold, .log .ibiWait, .out .ibis], regs := [rDOC_ERR, rDOC_IQ_CTL, rINT_CNT, rQUE_PAIR_CFG, rSEC_ERR, rSRV_ADMIT_STAT, rSRV_SVC_CFG, rTEN_CTL, rTEN_RESET] }

theorem w_submitA (id : Nat) : (submitA id).Within ft_submitA := by
  unfold submitA
  repeat' first | with_reducible apply Act.Within.nop | with_reducible apply Act.Within.mono (w_admitReq ..) | with_reducible apply Act.Within.mono (w_refuseAdmit ..) | with_reducible apply Act.Within.mono (w_windowFault ..) | with_reducible apply within_withSome | (with_reducible apply within_upd; exact ⟨_, rfl, by decide +kernel⟩) | decide +kernel | with_reducible apply Act.Within.dyn | with_reducible apply within_ite | with_reducible apply Act.Within.seq | with_reducible apply within_seqs_cons | with_reducible apply within_seqs_nil | with_reducible intro _ | split | dsimp only

theorem w_cancelA (id : Nat) : (cancelA id).Within ft_drainReq := by
  unfold cancelA
  repeat' first | with_reducible apply Act.Within.nop | with_reducible apply Act.Within.mono (w_complete ..) | with_reducible apply Act.Within.mono (w_drainReq ..) | with_reducible apply Act.Within.mono (w_takeCmd ..) | with_reducible refine within_when' ?_ | with_reducible apply within_withSome | with_reducible apply w_modReq | decide +kernel | with_reducible apply Act.Within.dyn | with_reducible apply within_ite | with_reducible apply Act.Within.seq | with_reducible apply within_seqs_cons | with_reducible apply within_seqs_nil | with_reducible intro _ | split | dsimp only

theorem w_parkA (id : Nat) : (parkA id).Within ft_drainReq := by
  unfold parkA
  repeat' first | with_reducible apply Act.Within.nop | with_reducible apply Act.Within.mono (w_beginPark ..) | with_reducible apply Act.Within.mono (w_complete ..) | with_reducible apply Act.Within.mono (w_takeCmd ..) | with_reducible refine within_when' ?_ | with_reducible apply within_withSome | with_reducible apply w_modReq | decide +kernel | with_reducible apply Act.Within.dyn | with_reducible apply within_ite | with_reducible apply Act.Within.seq | with_reducible apply within_seqs_cons | with_reducible apply within_seqs_nil | with_reducible intro _ | split | dsimp only

def ft_resumeA : Foot :=
  { flds := [.mem, .fresh, .mov .iq, .srv .req, .que .pair, .que .cmd, .ten .tenant, .log .logWr, .log .logLost, .log .logIntake, .log .ibiHold, .log .ibiWait, .out .ibis], regs := [rDOC_ERR, rDOC_IQ_CTL, rINT_CNT, rQUE_PAIR_CFG, rSEC_ERR, rSRV_ADMIT_STAT, rSRV_SVC_CFG, rTEN_CTL, rTEN_RESET] }

theorem w_resumeA (id : Nat) : (resumeA id).Within ft_resumeA := by
  unfold resumeA
  repeat' first | with_reducible apply Act.Within.nop | with_reducible apply Act.Within.mono (w_complete ..) | with_reducible apply Act.Within.mono (w_refuseAdmit ..) | with_reducible apply Act.Within.mono (w_startStaging ..) | with_reducible apply within_withSome | (with_reducible apply within_upd; exact ⟨_, rfl, by decide +kernel⟩) | decide +kernel | with_reducible apply Act.Within.dyn | with_reducible apply within_ite | with_reducible apply Act.Within.seq | with_reducible apply within_seqs_cons | with_reducible apply within_seqs_nil | with_reducible intro _ | split | dsimp only

def ft_releaseA : Foot :=
  { flds := [.mem, .mov .iq, .srv .pfx, .que .pair, .que .cmd, .ten .tenant], regs := [rDOC_IQ_CTL, rQUE_PAIR_CFG, rTEN_CTL, rTEN_RESET] }

theorem w_releaseA (id : Nat) : (releaseA id).Within ft_releaseA := by
  unfold releaseA
  repeat' first | with_reducible apply Act.Within.nop | with_reducible apply Act.Within.mono (w_complete ..) | with_reducible apply Act.Within.mono (w_settlePfx ..) | with_reducible apply within_withSome | with_reducible apply w_modPfx | decide +kernel | with_reducible apply Act.Within.dyn | with_reducible apply within_ite | with_reducible apply Act.Within.seq | with_reducible apply within_seqs_cons | with_reducible apply within_seqs_nil | with_reducible intro _ | split | dsimp only

theorem w_copyPartial (i r : Nat) : (copyPartial i r).Within ft_copyFrames := by
  unfold copyPartial
  repeat' first | with_reducible apply Act.Within.nop | with_reducible apply Act.Within.mono (w_copyFrames ..) | with_reducible refine within_when' ?_ | with_reducible apply within_withSome | decide +kernel | with_reducible apply Act.Within.dyn | with_reducible apply within_ite | with_reducible apply Act.Within.seq | with_reducible apply within_seqs_cons | with_reducible apply within_seqs_nil | with_reducible intro _ | split | dsimp only

def ft_startPrefill : Foot :=
  { flds := [.mem, .poison, .exh .load, .srv .req, .srv .pfx, .srv .srvStep, .que .cmd, .que .nextCmd], regs := [rTEN_ACC_T1, rTEN_ACC_T2, rTEN_ACC_T3] }

theorem w_startPrefill (i h r : Nat) : (startPrefill i h r).Within ft_startPrefill := by
  unfold startPrefill
  repeat' first | with_reducible apply Act.Within.nop | with_reducible apply Act.Within.mono (w_acquirePfx ..) | with_reducible apply Act.Within.mono (w_copyPartial ..) | with_reducible apply Act.Within.mono (w_issueServe ..) | with_reducible apply Act.Within.mono (w_writePageList ..) | with_reducible apply within_withSome | with_reducible apply w_modReq | decide +kernel | with_reducible apply Act.Within.dyn | with_reducible apply within_ite | with_reducible apply Act.Within.seq | with_reducible apply within_seqs_cons | with_reducible apply within_seqs_nil | with_reducible intro _ | split | dsimp only

theorem w_prefillStartA (v : Nat) : (prefillStartA v).Within ft_startPrefill := by
  unfold prefillStartA
  repeat' first | with_reducible apply Act.Within.nop | with_reducible apply Act.Within.mono (w_startPrefill ..) | decide +kernel | with_reducible apply Act.Within.dyn | with_reducible apply within_ite | with_reducible apply Act.Within.seq | with_reducible apply within_seqs_cons | with_reducible apply within_seqs_nil | with_reducible intro _ | split | dsimp only

theorem w_handOver (i : Nat) : (handOver i).Within ft_copyFrames := by
  unfold handOver
  repeat' first | with_reducible apply Act.Within.nop | with_reducible apply Act.Within.mono (w_copyFrames ..) | with_reducible apply within_each | decide +kernel | with_reducible apply Act.Within.dyn | with_reducible apply within_ite | with_reducible apply Act.Within.seq | with_reducible apply within_seqs_cons | with_reducible apply within_seqs_nil | with_reducible intro _ | split | dsimp only

theorem w_handoverA (i : Nat) : (handoverA i).Within ft_startPrefill := by
  unfold handoverA
  repeat' first | with_reducible apply Act.Within.nop | with_reducible apply Act.Within.mono (w_acquirePfx ..) | with_reducible apply Act.Within.mono (w_handOver ..) | with_reducible apply Act.Within.mono (w_leavePfx ..) | with_reducible apply Act.Within.mono (w_startDraw ..) | with_reducible apply Act.Within.mono (w_writePageList ..) | with_reducible apply within_withSome | with_reducible apply w_modReq | decide +kernel | with_reducible apply Act.Within.dyn | with_reducible apply within_ite | with_reducible apply Act.Within.seq | with_reducible apply within_seqs_cons | with_reducible apply within_seqs_nil | with_reducible intro _ | split | dsimp only

def ft_enterStep : Foot :=
  { flds := [.srv .req], regs := [] }

theorem w_enterStep (i : Nat) : (enterStep i).Within ft_enterStep := by
  unfold enterStep
  repeat' first | with_reducible apply Act.Within.nop | with_reducible apply w_modReq | decide +kernel | with_reducible apply Act.Within.dyn | with_reducible apply within_ite | with_reducible apply Act.Within.seq | with_reducible apply within_seqs_cons | with_reducible apply within_seqs_nil | with_reducible intro _ | split | dsimp only

theorem w_decodeStepA (h : Nat) : (decodeStepA h).Within ft_startDraw := by
  unfold decodeStepA
  repeat' first | with_reducible apply Act.Within.nop | with_reducible apply Act.Within.mono (w_enterStep ..) | with_reducible apply Act.Within.mono (w_issueServe ..) | with_reducible apply within_each | with_reducible apply within_withSome | (with_reducible apply within_upd; exact ⟨_, rfl, by decide +kernel⟩) | decide +kernel | with_reducible apply Act.Within.dyn | with_reducible apply within_ite | with_reducible apply Act.Within.seq | with_reducible apply within_seqs_cons | with_reducible apply within_seqs_nil | with_reducible intro _ | split | dsimp only

theorem w_parkDoneA (i : Nat) : (parkDoneA i).Within ft_registerPfx := by
  unfold parkDoneA
  repeat' first | with_reducible apply Act.Within.nop | with_reducible apply Act.Within.mono (w_complete ..) | with_reducible apply Act.Within.mono (w_copyFrames ..) | with_reducible apply Act.Within.mono (w_leavePfx ..) | with_reducible apply Act.Within.mono (w_writePageList ..) | with_reducible apply within_withSome | with_reducible apply w_modReq | decide +kernel | with_reducible apply Act.Within.dyn | with_reducible apply within_ite | with_reducible apply Act.Within.seq | with_reducible apply within_seqs_cons | with_reducible apply within_seqs_nil | with_reducible intro _ | split | dsimp only

theorem w_fetchDoneA (i : Nat) : (fetchDoneA i).Within ft_registerPfx := by
  unfold fetchDoneA
  repeat' first | with_reducible apply Act.Within.nop | with_reducible apply Act.Within.mono (w_acquirePfx ..) | with_reducible apply Act.Within.mono (w_copyFrames ..) | with_reducible apply Act.Within.mono (w_reqBoundary ..) | with_reducible apply Act.Within.mono (w_writePageList ..) | with_reducible apply within_withSome | with_reducible apply w_modReq | decide +kernel | with_reducible apply Act.Within.dyn | with_reducible apply within_ite | with_reducible apply Act.Within.seq | with_reducible apply within_seqs_cons | with_reducible apply within_seqs_nil | with_reducible intro _ | split | dsimp only

def ft_requestReleaseA : Foot :=
  { flds := [.mem, .mov .iq, .srv .req, .srv .pfx, .que .pair, .que .cmd, .ten .tenant], regs := [rDOC_IQ_CTL, rQUE_PAIR_CFG, rTEN_CTL, rTEN_RESET] }

theorem w_requestReleaseA (i : Nat) : (requestReleaseA i).Within ft_requestReleaseA := by
  unfold requestReleaseA
  repeat' first | with_reducible apply Act.Within.nop | with_reducible apply Act.Within.mono (w_cancelRequestWork ..) | with_reducible apply Act.Within.mono (w_completeCode ..) | with_reducible apply Act.Within.mono (w_freeReqHoldings ..) | with_reducible refine within_when' ?_ | with_reducible apply within_withSome | with_reducible apply w_modReq | decide +kernel | with_reducible apply Act.Within.dyn | with_reducible apply within_ite | with_reducible apply Act.Within.seq | with_reducible apply within_seqs_cons | with_reducible apply within_seqs_nil | with_reducible intro _ | split | dsimp only

def ft_writeReqFree : Foot :=
  { flds := [.srv .req, .log .logWr, .log .logLost, .log .logIntake, .log .ibiHold, .log .ibiWait, .out .ibis], regs := [rINT_CNT, rSRV_ERR] }

theorem w_writeReqFree (v : Nat) : (writeReqFree v).Within ft_writeReqFree := by
  unfold writeReqFree
  repeat' first | with_reducible apply Act.Within.nop | with_reducible apply w_incA | (with_reducible apply within_upd; exact ⟨_, rfl, by decide +kernel⟩) | decide +kernel | exact errOk_none _ _ | exact errOk_any (by decide +kernel) | with_reducible apply Act.Within.dyn | with_reducible apply within_ite | with_reducible apply Act.Within.seq | with_reducible apply within_seqs_cons | with_reducible apply within_seqs_nil | with_reducible intro _ | split | dsimp only

theorem w_srvOn : (srvOn).Within ft_settleSrv := by
  unfold srvOn
  repeat' first | with_reducible apply Act.Within.nop | with_reducible apply within_setFld | (with_reducible apply within_upd; exact ⟨_, rfl, by decide +kernel⟩) | decide +kernel | with_reducible apply Act.Within.dyn | with_reducible apply within_ite | with_reducible apply Act.Within.seq | with_reducible apply within_seqs_cons | with_reducible apply within_seqs_nil | with_reducible intro _ | split | dsimp only

theorem w_srvOff : (srvOff).Within ft_settleSrv := by
  unfold srvOff
  repeat' first | with_reducible apply Act.Within.nop | with_reducible refine within_when' ?_ | with_reducible apply within_setFld | (with_reducible apply within_upd; exact ⟨_, rfl, by decide +kernel⟩) | decide +kernel | with_reducible apply Act.Within.dyn | with_reducible apply within_ite | with_reducible apply Act.Within.seq | with_reducible apply within_seqs_cons | with_reducible apply within_seqs_nil | with_reducible intro _ | split | dsimp only

theorem w_abortServing (h : Nat) : (abortServing h).Within footLoad := by
  unfold abortServing
  repeat' first | with_reducible apply Act.Within.nop | with_reducible apply Act.Within.mono (w_endWith ..) | with_reducible apply Act.Within.mono (w_serveEnd ..) | with_reducible apply within_each | with_reducible refine within_when' ?_ | with_reducible apply w_modLoad | decide +kernel | with_reducible apply Act.Within.dyn | with_reducible apply within_ite | with_reducible apply Act.Within.seq | with_reducible apply within_seqs_cons | with_reducible apply within_seqs_nil | with_reducible intro _ | split | dsimp only

theorem w_srvForceA : (srvForceA).Within footWork := by
  unfold srvForceA
  repeat' first | with_reducible apply Act.Within.nop | with_reducible apply Act.Within.mono (w_abortServing ..) | with_reducible apply Act.Within.mono (w_faultReq ..) | with_reducible apply w_incA | with_reducible apply w_setErr | with_reducible apply within_each | with_reducible apply within_withSome | (with_reducible apply within_upd; exact ⟨_, rfl, by decide +kernel⟩) | decide +kernel | exact errOk_none _ _ | exact errOk_any (by decide +kernel) | with_reducible apply Act.Within.dyn | with_reducible apply within_ite | with_reducible apply Act.Within.seq | with_reducible apply within_seqs_cons | with_reducible apply within_seqs_nil | with_reducible intro _ | split | dsimp only

def ft_guaranteeSuspend : Foot :=
  { flds := [.srv .req], regs := [rSRV_ADMIT_CTL] }

theorem w_guaranteeSuspend : (guaranteeSuspend).Within ft_guaranteeSuspend := by
  unfold guaranteeSuspend
  repeat' first | with_reducible apply Act.Within.nop | with_reducible apply within_each | with_reducible apply within_setFld | with_reducible apply w_modReq | decide +kernel | with_reducible apply Act.Within.dyn | with_reducible apply within_ite | with_reducible apply Act.Within.seq | with_reducible apply within_seqs_cons | with_reducible apply within_seqs_nil | with_reducible intro _ | split | dsimp only

def ft_modMv : Foot :=
  { flds := [.mov .move], regs := [] }

theorem w_modMv (m : Nat) (f : Move → Move) : (modMv m f).Within ft_modMv := by
  unfold modMv
  repeat' first | with_reducible apply Act.Within.nop | with_reducible apply w_modMove | decide +kernel | with_reducible apply Act.Within.dyn | with_reducible apply within_ite | with_reducible apply Act.Within.seq | with_reducible apply within_seqs_cons | with_reducible apply within_seqs_nil | with_reducible intro _ | split | dsimp only

theorem w_markMoving (is : List (Option Nat)) : (markMoving is).Within ft_setObj := by
  unfold markMoving
  repeat' first | with_reducible apply Act.Within.nop | with_reducible apply Act.Within.mono (w_setObj ..) | with_reducible apply within_each | with_reducible apply within_withSome | decide +kernel | with_reducible apply Act.Within.dyn | with_reducible apply within_ite | with_reducible apply Act.Within.seq | with_reducible apply within_seqs_cons | with_reducible apply within_seqs_nil | with_reducible intro _ | split | dsimp only

def ft_endMove : Foot :=
  { flds := [.mem, .mov .move], regs := [] }

theorem w_endMove (m code : Nat) : (endMove m code).Within ft_endMove := by
  unfold endMove
  repeat' first | with_reducible apply Act.Within.nop | with_reducible apply Act.Within.mono (w_markMoving ..) | with_reducible apply Act.Within.mono (w_modMv ..) | with_reducible apply within_withSome | decide +kernel | with_reducible apply Act.Within.dyn | with_reducible apply within_ite | with_reducible apply Act.Within.seq | with_reducible apply within_seqs_cons | with_reducible apply within_seqs_nil | with_reducible intro _ | split | dsimp only

def ft_freeCopy : Foot :=
  { flds := [.mem, .exh .imgEntry, .mov .allocs], regs := [] }

theorem w_freeCopy (i : Nat) : (freeCopy i).Within ft_freeCopy := by
  unfold freeCopy
  repeat' first | with_reducible apply Act.Within.nop | with_reducible apply Act.Within.mono (w_setObj ..) | with_reducible apply within_each | with_reducible refine within_when' ?_ | with_reducible apply within_whenS | with_reducible apply within_withSome | (with_reducible apply within_upd; exact ⟨_, rfl, by decide +kernel⟩) | decide +kernel | with_reducible apply Act.Within.dyn | with_reducible apply within_ite | with_reducible apply Act.Within.seq | with_reducible apply within_seqs_cons | with_reducible apply within_seqs_nil | with_reducible intro _ | split | dsimp only

def ft_failDependents : Foot :=
  { flds := [.mem, .exh .imgEntry, .mov .move, .mov .allocs], regs := [] }

theorem w_failDependents (n i : Nat) : (failDependents n i).Within ft_failDependents := by
  induction n generalizing i with
  | zero => exact .nop
  | succ n ih =>
    unfold failDependents
    repeat' first | with_reducible apply Act.Within.nop | exact ih | exact ih _ | with_reducible apply Act.Within.mono (w_endMove ..) | with_reducible apply Act.Within.mono (w_freeCopy ..) | with_reducible apply within_each | with_reducible apply within_withSome | decide +kernel | with_reducible apply Act.Within.dyn | with_reducible apply within_ite | with_reducible apply Act.Within.seq | with_reducible apply within_seqs_cons | with_reducible apply within_seqs_nil | with_reducible intro _ | split | dsimp only

theorem w_failMove (m code : Nat) : (failMove m code).Within ft_failDependents := by
  unfold failMove
  repeat' first | with_reducible apply Act.Within.nop | with_reducible apply Act.Within.mono (w_endMove ..) | with_reducible apply Act.Within.mono (w_failDependents ..) | with_reducible apply Act.Within.mono (w_freeCopy ..) | with_reducible apply within_withSome | decide +kernel | with_reducible apply Act.Within.dyn | with_reducible apply within_ite | with_reducible apply Act.Within.seq | with_reducible apply within_seqs_cons | with_reducible apply within_seqs_nil | with_reducible intro _ | split | dsimp only

def ft_crcFault : Foot :=
  { flds := [.log .logWr, .log .logLost, .log .logIntake, .log .ibiHold, .log .ibiWait, .out .ibis], regs := [rINT_CNT, rINT_CRC, rINT_ERR] }

theorem w_crcFault (kind : MoveKind) (tenant src : Nat) : (crcFault kind tenant src).Within ft_crcFault := by
  unfold crcFault
  repeat' first | with_reducible apply Act.Within.nop | with_reducible apply w_firstFault | with_reducible apply w_incident | decide +kernel | exact errOk_none _ _ | exact errOk_any (by decide +kernel) | with_reducible apply Act.Within.dyn | with_reducible apply within_ite | with_reducible apply Act.Within.seq | with_reducible apply within_seqs_cons | with_reducible apply within_seqs_nil | with_reducible intro _ | split | dsimp only

theorem w_wroteBack (i l crc : Nat) : (wroteBack i l crc).Within ft_setObj := by
  unfold wroteBack
  repeat' first | with_reducible apply Act.Within.nop | with_reducible apply Act.Within.mono (w_modObj ..) | decide +kernel | with_reducible apply Act.Within.dyn | with_reducible apply within_ite | with_reducible apply Act.Within.seq | with_reducible apply within_seqs_cons | with_reducible apply within_seqs_nil | with_reducible intro _ | split | dsimp only

theorem w_writeBackNow (i l tenant : Nat) : (writeBackNow i l tenant).Within ft_copyFrames := by
  unfold writeBackNow
  repeat' first | with_reducible apply Act.Within.nop | with_reducible apply Act.Within.mono (w_chargeBytes ..) | with_reducible apply Act.Within.mono (w_copyBytes ..) | with_reducible apply Act.Within.mono (w_wroteBack ..) | decide +kernel | with_reducible apply Act.Within.dyn | with_reducible apply within_ite | with_reducible apply Act.Within.seq | with_reducible apply within_seqs_cons | with_reducible apply within_seqs_nil | with_reducible intro _ | split | dsimp only

def ft_evict : Foot :=
  { flds := [.mem, .poison, .exh .imgEntry, .mov .allocs, .log .logWr, .log .logLost, .log .logIntake, .log .ibiHold, .log .ibiWait, .out .ibis], regs := [rINT_CNT, rINT_CRC, rINT_ERR, rTEN_ACC_T1, rTEN_ACC_T2, rTEN_ACC_T3] }

theorem w_evict (v tenant : Nat) : (evict v tenant).Within ft_evict := by
  unfold evict
  repeat' first | with_reducible apply Act.Within.nop | with_reducible apply Act.Within.mono (w_crcFault ..) | with_reducible apply Act.Within.mono (w_freeCopy ..) | with_reducible apply Act.Within.mono (w_writeBackNow ..) | with_reducible refine within_when' ?_ | with_reducible apply within_withSome | decide +kernel | with_reducible apply Act.Within.dyn | with_reducible apply within_ite | with_reducible apply Act.Within.seq | with_reducible apply within_seqs_cons | with_reducible apply within_seqs_nil | with_reducible intro _ | split | dsimp only

theorem w_placeCopy {p : Foot} (d tier tenant : Nat) {got full : Act} (h : ft_evict.le p = true)
    (hg : got.Within p) (hf : full.Within p) (n : Nat) (skip : List Nat) : (placeCopy d tier tenant got full n skip).Within p := by
  have hs : ∀ i o, (setObj i o).Within p := fun i o => ((w_setObj i o).mono (q := ft_evict) (by decide +kernel)).mono h
  have he : ∀ v, (evict v tenant).Within p := fun v => ((w_evict v tenant).mono (q := ft_evict) (by decide +kernel)).mono h
  have ha : ∀ l, (Act.upd (.allocs l)).Within p :=
    fun l => Act.Within.mono (p := ft_evict) (within_upd ⟨_, rfl, by decide +kernel⟩) h
  induction n generalizing skip with
  | zero => exact hf
  | succ n ih =>
    unfold placeCopy
    refine .dyn fun s => within_withSome fun o _ => ?_
    dsimp only
    repeat' first
      | exact hf | exact within_seqs_cons (ha _) (within_seqs_cons (hs _ _) (within_seqs_cons hg (within_seqs_nil _)))
      | exact .seq (he _) (ih _) | split

def ft_divideMove : Foot :=
  { flds := [.mov .move], regs := [rDOC_ERR] }

theorem w_divideMove (m : Nat) : (divideMove m).Within ft_divideMove := by
  unfold divideMove
  repeat' first | with_reducible apply Act.Within.nop | with_reducible apply Act.Within.mono (w_modMv ..) | with_reducible apply w_setErr | with_reducible refine within_when' ?_ | with_reducible apply within_withSome | decide +kernel | exact errOk_none _ _ | exact errOk_any (by decide +kernel) | with_reducible apply Act.Within.dyn | with_reducible apply within_ite | with_reducible apply Act.Within.seq | with_reducible apply within_seqs_cons | with_reducible apply within_seqs_nil | with_reducible intro _ | split | dsimp only

def ft_goMove : Foot :=
  { flds := [.mem, .poison, .exh .imgEntry, .mov .move, .mov .allocs, .log .logWr, .log .logLost, .log .logIntake, .log .ibiHold, .log .ibiWait, .out .ibis], regs := [rDOC_ERR, rINT_CNT, rINT_CRC, rINT_ERR, rTEN_ACC_T1, rTEN_ACC_T2, rTEN_ACC_T3] }

theorem w_goMove (m : Nat) (x : Move) (tier : Nat) (lower : Option Nat) (size : Nat) : (goMove m x tier lower size).Within ft_goMove := by
  unfold goMove
  repeat' first | with_reducible apply Act.Within.nop | with_reducible apply Act.Within.mono (w_divideMove ..) | with_reducible apply Act.Within.mono (w_endMove ..) | with_reducible apply Act.Within.mono (w_failDependents ..) | with_reducible apply Act.Within.mono (w_freeCopy ..) | with_reducible apply Act.Within.mono (w_markMoving ..) | with_reducible apply Act.Within.mono (w_modMv ..) | with_reducible apply Act.Within.mono (w_modObj ..) | with_reducible apply w_placeCopy | with_reducible refine within_when' ?_ | with_reducible apply within_withSome | decide +kernel | with_reducible apply Act.Within.dyn | with_reducible apply within_ite | with_reducible apply Act.Within.seq | with_reducible apply within_seqs_cons | with_reducible apply within_seqs_nil | with_reducible intro _ | split | dsimp only

def ft_moveStart : Foot :=
  { flds := [.mem, .poison, .exh .imgEntry, .mov .move, .mov .allocs, .log .logWr, .log .logLost, .log .logIntake, .log .ibiHold, .log .ibiWait, .out .ibis], regs := [rDOC_ERR, rINT_CNT, rINT_CRC, rINT_ERR, rSEC_ERR, rTEN_ACC_T1, rTEN_ACC_T2, rTEN_ACC_T3] }

theorem w_moveStart (k : MoveKind) (m : Nat) : (moveStart k m).Within ft_moveStart := by
  unfold moveStart
  repeat' first | with_reducible apply Act.Within.nop | with_reducible apply Act.Within.mono (w_endMove ..) | with_reducible apply Act.Within.mono (w_goMove ..) | with_reducible apply Act.Within.mono (w_windowFault ..) | with_reducible apply within_withSome | decide +kernel | with_reducible apply Act.Within.dyn | with_reducible apply within_ite | with_reducible apply Act.Within.seq | with_reducible apply within_seqs_cons | with_reducible apply within_seqs_nil | with_reducible intro _ | split | dsimp only

def ft_carryUnit : Foot :=
  { flds := [.mem, .poison, .fresh, .mov .move, .log .logWr, .log .logLost, .log .logIntake, .log .ibiHold, .log .ibiWait, .out .ibis], regs := [rINT_CNT, rT1C_CE_CNT, rT1C_ERR, rT1C_ERR_ADDR, rT2C_CE_CNT, rT2C_ERR, rT2C_ERR_ADDR, rT3C_CE_CNT, rT3C_ERR, rT3C_ERR_ADDR] }

theorem w_carryUnit (m off : Nat) (f : Found) : (carryUnit m off f).Within ft_carryUnit := by
  unfold carryUnit
  repeat' first | with_reducible apply Act.Within.nop | with_reducible apply Act.Within.mono (w_markBad ..) | with_reducible apply Act.Within.mono (w_modMv ..) | with_reducible apply Act.Within.mono (w_modObj ..) | with_reducible apply Act.Within.mono (w_tierCorrected ..) | with_reducible apply Act.Within.mono (w_tierUncorrectable ..) | with_reducible refine within_when' ?_ | with_reducible apply within_withSome | with_reducible apply within_writeBytes | (with_reducible apply within_upd; exact ⟨_, rfl, by decide +kernel⟩) | decide +kernel | with_reducible apply Act.Within.dyn | with_reducible apply within_ite | with_reducible apply Act.Within.seq | with_reducible apply within_seqs_cons | with_reducible apply within_seqs_nil | with_reducible intro _ | split | dsimp only

def ft_settleDocent : Foot :=
  { flds := [.mov .doc], regs := [] }

theorem w_settleDocent (d : Nat) : (settleDocent d).Within ft_settleDocent := by
  unfold settleDocent
  repeat' first | with_reducible apply Act.Within.nop | with_reducible apply within_whenS | (with_reducible apply within_upd; exact ⟨_, rfl, by decide +kernel⟩) | decide +kernel | with_reducible apply Act.Within.dyn | with_reducible apply within_ite | with_reducible apply Act.Within.seq | with_reducible apply within_seqs_cons | with_reducible apply within_seqs_nil | with_reducible intro _ | split | dsimp only

def ft_docentShareA : Foot :=
  { flds := [.mem, .poison, .fresh, .mov .doc, .mov .iq, .mov .move, .log .logWr, .log .logLost, .log .logIntake, .log .ibiHold, .log .ibiWait, .out .ibis], regs := [rINT_CNT, rT1C_CE_CNT, rT1C_ERR, rT1C_ERR_ADDR, rT2C_CE_CNT, rT2C_ERR, rT2C_ERR_ADDR, rT3C_CE_CNT, rT3C_ERR, rT3C_ERR_ADDR, rTEN_ACC_T1, rTEN_ACC_T2, rTEN_ACC_T3] }

theorem w_docentShareA (d : Nat) (found : List (Nat × Found)) : (docentShareA d found).Within ft_docentShareA := by
  unfold docentShareA
  repeat' first | with_reducible apply Act.Within.nop | with_reducible apply Act.Within.mono (w_carryUnit ..) | with_reducible apply Act.Within.mono (w_chargeBytes ..) | with_reducible apply Act.Within.mono (w_modMv ..) | with_reducible apply Act.Within.mono (w_settleDocent ..) | with_reducible apply within_each | with_reducible apply within_withSome | with_reducible apply w_modIq | decide +kernel | with_reducible apply Act.Within.dyn | with_reducible apply within_ite | with_reducible apply Act.Within.seq | with_reducible apply within_seqs_cons | with_reducible apply within_seqs_nil | with_reducible intro _ | split | dsimp only

def ft_moveDoneA : Foot :=
  { flds := [.mem, .exh .imgEntry, .mov .move, .mov .allocs, .log .logWr, .log .logLost, .log .logIntake, .log .ibiHold, .log .ibiWait, .out .ibis], regs := [rINT_CNT, rINT_CRC, rINT_ERR] }

theorem w_moveDoneA (m : Nat) : (moveDoneA m).Within ft_moveDoneA := by
  unfold moveDoneA
  repeat' first | with_reducible apply Act.Within.nop | with_reducible apply Act.Within.mono (w_crcFault ..) | with_reducible apply Act.Within.mono (w_endMove ..) | with_reducible apply Act.Within.mono (w_failDependents ..) | with_reducible apply Act.Within.mono (w_failMove ..) | with_reducible apply Act.Within.mono (w_freeCopy ..) | with_reducible apply Act.Within.mono (w_modObj ..) | with_reducible apply Act.Within.mono (w_wroteBack ..) | with_reducible refine within_when' ?_ | with_reducible apply within_withSome | decide +kernel | with_reducible apply Act.Within.dyn | with_reducible apply within_ite | with_reducible apply Act.Within.seq | with_reducible apply within_seqs_cons | with_reducible apply within_seqs_nil | with_reducible intro _ | split | dsimp only

def ft_launch : Foot :=
  { flds := [.mov .iq, .mov .move, .mov .nextMove], regs := [] }

theorem w_launch (q : Nat) (x : Move) : (launch q x).Within ft_launch := by
  unfold launch
  repeat' first | with_reducible apply Act.Within.nop | with_reducible apply w_modIq | (with_reducible apply within_upd; exact ⟨_, rfl, by decide +kernel⟩) | decide +kernel | with_reducible apply Act.Within.dyn | with_reducible apply within_ite | with_reducible apply Act.Within.seq | with_reducible apply within_seqs_cons | with_reducible apply within_seqs_nil | with_reducible intro _ | split | dsimp only

def ft_passStep : Foot :=
  { flds := [.mov .iq], regs := [] }

theorem w_passStep (q i : Nat) : (passStep q i).Within ft_passStep := by
  unfold passStep
  repeat' first | with_reducible apply Act.Within.nop | with_reducible apply w_modIq | decide +kernel | with_reducible apply Act.Within.dyn | with_reducible apply within_ite | with_reducible apply Act.Within.seq | with_reducible apply within_seqs_cons | with_reducible apply within_seqs_nil | with_reducible intro _ | split | dsimp only

def ft_listStep : Foot :=
  { flds := [.mov .iq, .mov .move, .mov .nextMove, .log .logWr, .log .logLost, .log .logIntake, .log .ibiHold, .log .ibiWait, .out .ibis], regs := [rDOC_ERR, rINT_CNT] }

theorem w_listStep (q : Nat) : (listStep q).Within ft_listStep := by
  unfold listStep
  repeat' first | with_reducible apply Act.Within.nop | with_reducible apply Act.Within.mono (w_launch ..) | with_reducible apply Act.Within.mono (w_passStep ..) | with_reducible apply Act.Within.mono (w_stopIq ..) | with_reducible apply within_withSome | with_reducible apply w_modIq | decide +kernel | with_reducible apply Act.Within.dyn | with_reducible apply within_ite | with_reducible apply Act.Within.seq | with_reducible apply within_seqs_cons | with_reducible apply within_seqs_nil | with_reducible intro _ | split | dsimp only

theorem w_commandStep (q : Nat) : (commandStep q).Within ft_launch := by
  unfold commandStep
  repeat' first | with_reducible apply Act.Within.nop | with_reducible apply Act.Within.mono (w_launch ..) | with_reducible apply within_withSome | with_reducible apply w_modIq | decide +kernel | with_reducible apply Act.Within.dyn | with_reducible apply within_ite | with_reducible apply Act.Within.seq | with_reducible apply within_seqs_cons | with_reducible apply within_seqs_nil | with_reducible intro _ | split | dsimp only

theorem w_iqStepA (q : Nat) : (iqStepA q).Within ft_listStep := by
  unfold iqStepA
  repeat' first | with_reducible apply Act.Within.nop | with_reducible apply Act.Within.mono (w_commandStep ..) | with_reducible apply Act.Within.mono (w_listStep ..) | decide +kernel | with_reducible apply Act.Within.dyn | with_reducible apply within_ite | with_reducible apply Act.Within.seq | with_reducible apply within_seqs_cons | with_reducible apply within_seqs_nil | with_reducible intro _ | split | dsimp only

theorem w_snapMoved (id : Nat) (x : Move) : (snapMoved id x).Within ft_completeCode := by
  unfold snapMoved
  repeat' first | with_reducible apply Act.Within.nop | with_reducible apply Act.Within.mono (w_completeCode ..) | with_reducible apply within_withSome | (with_reducible apply within_upd; exact ⟨_, rfl, by decide +kernel⟩) | decide +kernel | with_reducible apply Act.Within.dyn | with_reducible apply within_ite | with_reducible apply Act.Within.seq | with_reducible apply within_seqs_cons | with_reducible apply within_seqs_nil | with_reducible intro _ | split | dsimp only

def ft_stepDone : Foot :=
  { flds := [.mem, .mov .iq, .mov .move, .que .pair, .que .cmd, .ten .tenant, .log .logWr, .log .logLost, .log .logIntake, .log .ibiHold, .log .ibiWait, .out .ibis], regs := [rDOC_ERR, rDOC_IQ_CTL, rINT_CNT, rQUE_PAIR_CFG, rTEN_CTL, rTEN_RESET] }

theorem w_stepDone (m : Nat) : (stepDone m).Within ft_stepDone := by
  unfold stepDone
  repeat' first | with_reducible apply Act.Within.nop | with_reducible apply Act.Within.mono (w_completeCode ..) | with_reducible apply Act.Within.mono (w_settleIq ..) | with_reducible apply Act.Within.mono (w_settleTenant ..) | with_reducible apply Act.Within.mono (w_snapMoved ..) | with_reducible apply Act.Within.mono (w_stopIq ..) | with_reducible refine within_when' ?_ | with_reducible apply within_withSome | with_reducible apply w_modIq | (with_reducible apply within_upd; exact ⟨_, rfl, by decide +kernel⟩) | decide +kernel | with_reducible apply Act.Within.dyn | with_reducible apply within_ite | with_reducible apply Act.Within.seq | with_reducible apply within_seqs_cons | with_reducible apply within_seqs_nil | with_reducible intro _ | split | dsimp only

theorem w_abortMoves (ms : List Nat) : (abortMoves ms).Within footIq := by
  unfold abortMoves
  repeat' first | with_reducible apply Act.Within.nop | with_reducible apply Act.Within.mono (w_failMove ..) | with_reducible apply Act.Within.mono (w_stepDone ..) | with_reducible apply within_each | with_reducible apply within_whenS | decide +kernel | with_reducible apply Act.Within.dyn | with_reducible apply within_ite | with_reducible apply Act.Within.seq | with_reducible apply within_seqs_cons | with_reducible apply within_seqs_nil | with_reducible intro _ | split | dsimp only

theorem w_releaseHeld : (releaseHeld).Within ft_divideMove := by
  unfold releaseHeld
  repeat' first | with_reducible apply Act.Within.nop | with_reducible apply Act.Within.mono (w_divideMove ..) | with_reducible apply within_each | with_reducible apply within_whenS | decide +kernel | with_reducible apply Act.Within.dyn | with_reducible apply within_ite | with_reducible apply Act.Within.seq | with_reducible apply within_seqs_cons | with_reducible apply within_seqs_nil | with_reducible intro _ | split | dsimp only

def ft_docentOn : Foot :=
  { flds := [.mov .doc, .mov .move], regs := [rDOC_EN, rDOC_ERR] }

theorem w_docentOn (d : Nat) : (docentOn d).Within ft_docentOn := by
  unfold docentOn
  repeat' first | with_reducible apply Act.Within.nop | with_reducible apply Act.Within.mono (w_releaseHeld ..) | with_reducible apply within_setFld | (with_reducible apply within_upd; exact ⟨_, rfl, by decide +kernel⟩) | decide +kernel | with_reducible apply Act.Within.dyn | with_reducible apply within_ite | with_reducible apply Act.Within.seq | with_reducible apply within_seqs_cons | with_reducible apply within_seqs_nil | with_reducible intro _ | split | dsimp only

def ft_docentOff : Foot :=
  { flds := [.mov .doc], regs := [rDOC_EN] }

theorem w_docentOff (d : Nat) : (docentOff d).Within ft_docentOff := by
  unfold docentOff
  repeat' first | with_reducible apply Act.Within.nop | with_reducible apply within_setFld | (with_reducible apply within_upd; exact ⟨_, rfl, by decide +kernel⟩) | decide +kernel | with_reducible apply Act.Within.dyn | with_reducible apply within_ite | with_reducible apply Act.Within.seq | with_reducible apply within_seqs_cons | with_reducible apply within_seqs_nil | with_reducible intro _ | split | dsimp only

theorem w_docentForceA (d : Nat) : (docentForceA d).Within footIq := by
  unfold docentForceA
  repeat' first | with_reducible apply Act.Within.nop | with_reducible apply Act.Within.mono (w_abortMoves ..) | with_reducible apply w_incA | with_reducible apply w_setErr | with_reducible apply Act.Within.mono (w_settleDocent ..) | with_reducible apply within_each | decide +kernel | exact errOk_none _ _ | exact errOk_any (by decide +kernel) | with_reducible apply Act.Within.dyn | with_reducible apply within_ite | with_reducible apply Act.Within.seq | with_reducible apply within_seqs_cons | with_reducible apply within_seqs_nil | with_reducible intro _ | split | dsimp only

def ft_writeDocSeg : Foot :=
  { flds := [.log .logWr, .log .logLost, .log .logIntake, .log .ibiHold, .log .ibiWait, .out .ibis], regs := [rDOC_ERR, rDOC_SEG, rINT_CNT] }

theorem w_writeDocSeg (v : Nat) : (writeDocSeg v).Within ft_writeDocSeg := by
  unfold writeDocSeg
  repeat' first | with_reducible apply Act.Within.nop | with_reducible apply w_incA | with_reducible refine within_when' ?_ | with_reducible apply within_setReg | decide +kernel | exact errOk_none _ _ | exact errOk_any (by decide +kernel) | with_reducible apply Act.Within.dyn | with_reducible apply within_ite | with_reducible apply Act.Within.seq | with_reducible apply within_seqs_cons | with_reducible apply within_seqs_nil | with_reducible intro _ | split | dsimp only

theorem w_disableIq (q : Nat) : (disableIq q).Within ft_settleIq := by
  unfold disableIq
  repeat' first | with_reducible apply Act.Within.nop | with_reducible apply within_setFld | with_reducible apply w_modIq | decide +kernel | with_reducible apply Act.Within.dyn | with_reducible apply within_ite | with_reducible apply Act.Within.seq | with_reducible apply within_seqs_cons | with_reducible apply within_seqs_nil | with_reducible intro _ | split | dsimp only

theorem w_forceIq (q : Nat) : (forceIq q).Within footIq := by
  unfold forceIq
  repeat' first | with_reducible apply Act.Within.nop | with_reducible apply Act.Within.mono (w_abortMoves ..) | with_reducible apply w_incA | with_reducible apply w_setErr | with_reducible apply Act.Within.mono (w_settleDocent ..) | with_reducible apply within_each | decide +kernel | exact errOk_none _ _ | exact errOk_any (by decide +kernel) | with_reducible apply Act.Within.dyn | with_reducible apply within_ite | with_reducible apply Act.Within.seq | with_reducible apply within_seqs_cons | with_reducible apply within_seqs_nil | with_reducible intro _ | split | dsimp only

theorem w_freshList (q : Nat) : (freshList q).Within ft_passStep := by
  unfold freshList
  repeat' first | with_reducible apply Act.Within.nop | with_reducible apply w_modIq | decide +kernel | with_reducible apply Act.Within.dyn | with_reducible apply within_ite | with_reducible apply Act.Within.seq | with_reducible apply within_seqs_cons | with_reducible apply within_seqs_nil | with_reducible intro _ | split | dsimp only

def ft_takeIqSettings : Foot :=
  { flds := [.mov .iq, .log .logWr, .log .logLost, .log .logIntake, .log .ibiHold, .log .ibiWait, .out .ibis], regs := [rDOC_ERR, rDOC_IQ_CTL, rINT_CNT] }

theorem w_takeIqSettings (q v : Nat) : (takeIqSettings q v).Within ft_takeIqSettings := by
  unfold takeIqSettings
  repeat' first | with_reducible apply Act.Within.nop | with_reducible apply Act.Within.mono (w_freshList ..) | with_reducible apply w_incA | with_reducible refine within_when' ?_ | with_reducible apply within_setFld | decide +kernel | exact errOk_none _ _ | exact errOk_any (by decide +kernel) | with_reducible apply Act.Within.dyn | with_reducible apply within_ite | with_reducible apply Act.Within.seq | with_reducible apply within_seqs_cons | with_reducible apply within_seqs_nil | with_reducible intro _ | split | dsimp only

theorem w_writeIqCtl (q v : Nat) : (writeIqCtl q v).Within footIq := by
  unfold writeIqCtl
  repeat' first | with_reducible apply Act.Within.nop | with_reducible apply Act.Within.mono (w_cancelIq ..) | with_reducible apply Act.Within.mono (w_disableIq ..) | with_reducible apply Act.Within.mono (w_enableIq ..) | with_reducible apply Act.Within.mono (w_forceIq ..) | with_reducible apply Act.Within.mono (w_takeIqSettings ..) | with_reducible refine within_when' ?_ | with_reducible apply within_whenS | decide +kernel | with_reducible apply Act.Within.dyn | with_reducible apply within_ite | with_reducible apply Act.Within.seq | with_reducible apply within_seqs_cons | with_reducible apply within_seqs_nil | with_reducible intro _ | split | dsimp only

def ft_writeIqBase : Foot :=
  { flds := [.mov .iq], regs := [rDOC_IQ_BASE] }

theorem w_writeIqBase (q v : Nat) : (writeIqBase q v).Within ft_writeIqBase := by
  unfold writeIqBase
  repeat' first | with_reducible apply Act.Within.nop | with_reducible apply Act.Within.mono (w_freshList ..) | with_reducible refine within_when' ?_ | with_reducible apply within_setReg | decide +kernel | with_reducible apply Act.Within.dyn | with_reducible apply within_ite | with_reducible apply Act.Within.seq | with_reducible apply within_seqs_cons | with_reducible apply within_seqs_nil | with_reducible intro _ | split | dsimp only

theorem w_snapFinish (id : Nat) (c : Cmd) : (snapFinish id c).Within ft_completeCode := by
  unfold snapFinish
  repeat' first | with_reducible apply Act.Within.nop | with_reducible apply Act.Within.mono (w_complete ..) | with_reducible apply within_each | with_reducible apply within_writeBytes | decide +kernel | with_reducible apply Act.Within.dyn | with_reducible apply within_ite | with_reducible apply Act.Within.seq | with_reducible apply within_seqs_cons | with_reducible apply within_seqs_nil | with_reducible intro _ | split | dsimp only

def ft_snapshotA : Foot :=
  { flds := [.mem, .mov .iq, .mov .move, .mov .nextMove, .que .pair, .que .cmd, .ten .tenant], regs := [rDOC_IQ_CTL, rQUE_PAIR_CFG, rTEN_CTL, rTEN_RESET] }

theorem w_snapshotA (id : Nat) : (snapshotA id).Within ft_snapshotA := by
  unfold snapshotA
  repeat' first | with_reducible apply Act.Within.nop | with_reducible apply Act.Within.mono (w_complete ..) | with_reducible apply Act.Within.mono (w_launch ..) | with_reducible apply Act.Within.mono (w_snapFinish ..) | with_reducible apply Act.Within.mono (w_takeCmd ..) | with_reducible apply within_withSome | with_reducible apply w_modCmd | decide +kernel | with_reducible apply Act.Within.dyn | with_reducible apply within_ite | with_reducible apply Act.Within.seq | with_reducible apply within_seqs_cons | with_reducible apply within_seqs_nil | with_reducible intro _ | split | dsimp only

theorem w_completeRefused (id : Nat) (st : Status) : (completeRefused id st).Within ft_completeCode := by
  unfold completeRefused
  repeat' first | with_reducible apply Act.Within.nop | with_reducible apply Act.Within.mono (w_complete ..) | with_reducible apply within_withSome | decide +kernel | with_reducible apply Act.Within.dyn | with_reducible apply within_ite | with_reducible apply Act.Within.seq | with_reducible apply within_seqs_cons | with_reducible apply within_seqs_nil | with_reducible intro _ | split | dsimp only

def ft_readCqHead : Foot :=
  { flds := [.que .pair, .log .logWr, .log .logLost, .log .logIntake, .log .ibiHold, .log .ibiWait, .out .ibis], regs := [rINT_CNT, rQUE_ERR] }

theorem w_readCqHead (p : Nat) : (readCqHead p).Within ft_readCqHead := by
  unfold readCqHead
  repeat' first | with_reducible apply Act.Within.nop | with_reducible apply w_incident | with_reducible refine within_when' ?_ | with_reducible apply w_modPair | decide +kernel | exact errOk_none _ _ | exact errOk_any (by decide +kernel) | with_reducible apply Act.Within.dyn | with_reducible apply within_ite | with_reducible apply Act.Within.seq | with_reducible apply within_seqs_cons | with_reducible apply within_seqs_nil | with_reducible intro _ | split | dsimp only

def ft_takeDescs : Foot :=
  { flds := [.que .pair, .que .intake], regs := [] }

theorem w_takeDescs (n p : Nat) : (takeDescs n p).Within ft_takeDescs := by
  induction n with
  | zero => exact .nop
  | succ n ih =>
    unfold takeDescs
    repeat' first | with_reducible apply Act.Within.nop | exact ih | exact ih _ | with_reducible apply w_modPair | with_reducible apply w_modIntake | decide +kernel | with_reducible apply Act.Within.dyn | with_reducible apply within_ite | with_reducible apply Act.Within.seq | with_reducible apply within_seqs_cons | with_reducible apply within_seqs_nil | with_reducible intro _ | split | dsimp only

def ft_countRotation : Foot :=
  { flds := [.que .rotStart, .que .rotLast], regs := [rQUE_SCAN_STAT] }

theorem w_countRotation (p : Nat) : (countRotation p).Within ft_countRotation := by
  unfold countRotation
  repeat' first | with_reducible apply Act.Within.nop | with_reducible refine within_when' ?_ | with_reducible apply within_setFld | (with_reducible apply within_upd; exact ⟨_, rfl, by decide +kernel⟩) | decide +kernel | with_reducible apply Act.Within.dyn | with_reducible apply within_ite | with_reducible apply Act.Within.seq | with_reducible apply within_seqs_cons | with_reducible apply within_seqs_nil | with_reducible intro _ | split | dsimp only

def ft_visitA : Foot :=
  { flds := [.mem, .que .pair, .que .intake, .que .rotStart, .que .rotLast, .log .logWr, .log .logLost, .log .logIntake, .log .ibiHold, .log .ibiWait, .out .ibis], regs := [rINT_CNT, rQUE_ERR, rQUE_SCAN_STAT] }

theorem w_visitA (p : Nat) : (visitA p).Within ft_visitA := by
  unfold visitA
  repeat' first | with_reducible apply Act.Within.nop | with_reducible apply Act.Within.mono (w_countRotation ..) | with_reducible apply Act.Within.mono (w_readCqHead ..) | with_reducible apply Act.Within.mono (w_takeDescs ..) | with_reducible refine within_when' ?_ | with_reducible apply within_writeLe | with_reducible apply w_modPair | decide +kernel | with_reducible apply Act.Within.dyn | with_reducible apply within_ite | with_reducible apply Act.Within.seq | with_reducible apply within_seqs_cons | with_reducible apply within_seqs_nil | with_reducible intro _ | split | dsimp only

def ft_settleScanner : Foot :=
  { flds := [.que .scanner], regs := [] }

theorem w_settleScanner : (settleScanner).Within ft_settleScanner := by
  unfold settleScanner
  repeat' first | with_reducible apply Act.Within.nop | with_reducible apply within_whenS | (with_reducible apply within_upd; exact ⟨_, rfl, by decide +kernel⟩) | decide +kernel | with_reducible apply Act.Within.dyn | with_reducible apply within_ite | with_reducible apply Act.Within.seq | with_reducible apply within_seqs_cons | with_reducible apply within_seqs_nil | with_reducible intro _ | split | dsimp only

def ft_openCmd : Foot :=
  { flds := [.que .cmd, .que .nextCmd], regs := [] }

theorem w_openCmd (t : Nat) (e : Intake) : (openCmd t e).Within ft_openCmd := by
  unfold openCmd
  repeat' first | with_reducible apply Act.Within.nop | (with_reducible apply within_upd; exact ⟨_, rfl, by decide +kernel⟩) | decide +kernel | with_reducible apply Act.Within.dyn | with_reducible apply within_ite | with_reducible apply Act.Within.seq | with_reducible apply within_seqs_cons | with_reducible apply within_seqs_nil | with_reducible intro _ | split | dsimp only

theorem w_handOut (id : Nat) (c : Cmd) : (handOut id c).Within ft_completeCode := by
  unfold handOut
  repeat' first | with_reducible apply Act.Within.nop | with_reducible apply Act.Within.mono (w_completeRefused ..) | with_reducible apply Act.Within.mono (w_takeCmd ..) | with_reducible apply w_modIq | (with_reducible apply within_upd; exact ⟨_, rfl, by decide +kernel⟩) | decide +kernel | with_reducible apply Act.Within.dyn | with_reducible apply within_ite | with_reducible apply Act.Within.seq | with_reducible apply within_seqs_cons | with_reducible apply within_seqs_nil | with_reducible intro _ | split | dsimp only

theorem w_dispatchA (t : Nat) : (dispatchA t).Within footIq := by
  unfold dispatchA
  repeat' first | with_reducible apply Act.Within.nop | with_reducible apply Act.Within.mono (w_completeRefused ..) | with_reducible apply Act.Within.mono (w_handOut ..) | with_reducible apply Act.Within.mono (w_openCmd ..) | with_reducible apply w_setErr | with_reducible apply Act.Within.mono (w_settleScanner ..) | with_reducible apply Act.Within.mono (w_windowFault ..) | with_reducible apply within_withSome | with_reducible apply within_writeLe | with_reducible apply w_modPair | (with_reducible apply within_upd; exact ⟨_, rfl, by decide +kernel⟩) | decide +kernel | exact errOk_none _ _ | exact errOk_any (by decide +kernel) | with_reducible apply Act.Within.dyn | with_reducible apply within_ite | with_reducible apply Act.Within.seq | with_reducible apply within_seqs_cons | with_reducible apply within_seqs_nil | with_reducible intro _ | split | dsimp only

theorem w_fenceA (id : Nat) : (fenceA id).Within ft_takeCmd := by
  unfold fenceA
  repeat' first | with_reducible apply Act.Within.nop | with_reducible apply Act.Within.mono (w_takeCmd ..) | with_reducible apply within_withSome | decide +kernel | with_reducible apply Act.Within.dyn | with_reducible apply within_ite | with_reducible apply Act.Within.seq | with_reducible apply within_seqs_cons | with_reducible apply within_seqs_nil | with_reducible intro _ | split | dsimp only

theorem w_fenceDoneA (id : Nat) : (fenceDoneA id).Within ft_completeCode := by
  unfold fenceDoneA
  repeat' first | with_reducible apply Act.Within.nop | with_reducible apply Act.Within.mono (w_complete ..) | with_reducible apply within_withSome | decide +kernel | with_reducible apply Act.Within.dyn | with_reducible apply within_ite | with_reducible apply Act.Within.seq | with_reducible apply within_seqs_cons | with_reducible apply within_seqs_nil | with_reducible intro _ | split | dsimp only

def ft_ucieFailA : Foot :=
  { flds := [.que .ucieUp, .que .ucieRep, .log .logWr, .log .logLost, .log .logIntake, .log .ibiHold, .log .ibiWait, .out .ibis], regs := [rINT_CNT, rQUE_ERR] }

theorem w_ucieFailA (m : Nat) : (ucieFailA m).Within ft_ucieFailA := by
  unfold ucieFailA
  repeat' first | with_reducible apply Act.Within.nop | with_reducible apply w_incA | with_reducible apply w_incident | with_reducible refine within_when' ?_ | (with_reducible apply within_upd; exact ⟨_, rfl, by decide +kernel⟩) | decide +kernel | exact errOk_none _ _ | exact errOk_any (by decide +kernel) | with_reducible apply Act.Within.dyn | with_reducible apply within_ite | with_reducible apply Act.Within.seq | with_reducible apply within_seqs_cons | with_reducible apply within_seqs_nil | with_reducible intro _ | split | dsimp only

def ft_dropStaging : Foot :=
  { flds := [.mem, .fab .site, .fab .wire, .exh .load], regs := [] }

theorem w_dropStaging (h : Nat) : (dropStaging h).Within ft_dropStaging := by
  unfold dropStaging
  repeat' first | with_reducible apply Act.Within.nop | with_reducible apply Act.Within.mono (w_unpinCopy ..) | with_reducible apply within_each | with_reducible apply within_withSome | with_reducible apply w_modSite | with_reducible apply w_modLoad | (with_reducible apply within_upd; exact ⟨_, rfl, by decide +kernel⟩) | decide +kernel | with_reducible apply Act.Within.dyn | with_reducible apply within_ite | with_reducible apply Act.Within.seq | with_reducible apply within_seqs_cons | with_reducible apply within_seqs_nil | with_reducible intro _ | split | dsimp only

theorem w_abortOnLoad (id h : Nat) : (abortOnLoad id h).Within footLoad := by
  unfold abortOnLoad
  repeat' first | with_reducible apply Act.Within.nop | with_reducible apply Act.Within.mono (w_complete ..) | with_reducible apply Act.Within.mono (w_completeRefused ..) | with_reducible apply Act.Within.mono (w_dropStaging ..) | with_reducible apply Act.Within.mono (w_endWith ..) | with_reducible apply Act.Within.mono (w_releaseLoad ..) | with_reducible refine within_when' ?_ | with_reducible apply w_modLoad | decide +kernel | with_reducible apply Act.Within.dyn | with_reducible apply within_ite | with_reducible apply Act.Within.seq | with_reducible apply within_seqs_cons | with_reducible apply within_seqs_nil | with_reducible intro _ | split | dsimp only

theorem w_abortOnReq (id i : Nat) : (abortOnReq id i).Within ft_drainReq := by
  unfold abortOnReq
  repeat' first | with_reducible apply Act.Within.nop | with_reducible apply Act.Within.mono (w_complete ..) | with_reducible apply Act.Within.mono (w_faultReq ..) | with_reducible apply w_modReq | decide +kernel | with_reducible apply Act.Within.dyn | with_reducible apply within_ite | with_reducible apply Act.Within.seq | with_reducible apply within_seqs_cons | with_reducible apply within_seqs_nil | with_reducible intro _ | split | dsimp only

theorem w_abortOnIq (id q : Nat) : (abortOnIq id q).Within ft_completeCode := by
  unfold abortOnIq
  repeat' first | with_reducible apply Act.Within.nop | with_reducible apply Act.Within.mono (w_completeRefused ..) | with_reducible apply w_modIq | decide +kernel | with_reducible apply Act.Within.dyn | with_reducible apply within_ite | with_reducible apply Act.Within.seq | with_reducible apply within_seqs_cons | with_reducible apply within_seqs_nil | with_reducible intro _ | split | dsimp only

def ft_abortCmd : Foot :=
  { flds := [.mem, .poison, .fresh, .fab .bay, .fab .slot, .fab .newSlot, .fab .site, .fab .credit, .fab .creditFly, .fab .wire, .fab .lastGrant, .fab .island, .cell .acell, .cell .acc, .cell .run16At, .cell .lane, .cell .laneBad, .cell .arrived, .cell .got, .cell .cout, .cell .scell, .cell .line, .exh .load, .exh .imgEntry, .exh .wdogWait, .mov .doc, .mov .iq, .mov .move, .mov .allocs, .srv .srvSt, .srv .req, .srv .pfx, .srv .srvStep, .srv .svcPins, .que .pair, .que .intake, .que .cmd, .que .nextCmd, .que .scanner, .ten .tenant, .ten .slice, .ten .scanWord, .ten .scanBay, .ten .scanDir, .ten .scanWant, .log .logWr, .log .logLost, .log .logIntake, .log .ibiHold, .log .ibiWait, .out .ibis, .out .sentFlits, .upd .updSt, .upd .updBegun, .upd .updManifest, .upd .heldRows, .lnk .port, .lnk .lnkQ, .lnk .stream, .lnk .localFlits, .lnk .localLost], regs := [rDOC_ERR, rDOC_IQ_CTL, rFAB_BAY_FENCE, rFAB_BAY_FORCE, rINT_CNT, rLNK_ERR, rLNK_NOTICE_CNT, rQUE_ERR, rQUE_PAIR_CFG, rSEC_ERR, rSRV_CTL, rSRV_ERR, rSRV_SVC_CFG, rTEN_ACC_LINK, rTEN_ACC_T1, rTEN_ACC_T2, rTEN_ACC_T3, rTEN_CTL, rTEN_RESET, rUPD_STAT] }

theorem w_abortCmd (id : Nat) : (abortCmd id).Within ft_abortCmd := by
  unfold abortCmd
  repeat' first | with_reducible apply Act.Within.nop | with_reducible apply Act.Within.mono (w_abortMoves ..) | with_reducible apply Act.Within.mono (w_abortOnIq ..) | with_reducible apply Act.Within.mono (w_abortOnLoad ..) | with_reducible apply Act.Within.mono (w_abortOnReq ..) | with_reducible apply Act.Within.mono (w_completeRefused ..) | with_reducible apply within_each | with_reducible refine within_when' ?_ | with_reducible apply within_withSome | decide +kernel | with_reducible apply Act.Within.dyn | with_reducible apply within_ite | with_reducible apply Act.Within.seq | with_reducible apply within_seqs_cons | with_reducible apply within_seqs_nil | with_reducible intro _ | split | dsimp only

def ft_dropIntake : Foot :=
  { flds := [.mem, .mov .iq, .que .pair, .que .intake, .que .cmd, .que .nextCmd, .ten .tenant], regs := [rDOC_IQ_CTL, rQUE_PAIR_CFG, rTEN_CTL, rTEN_RESET] }

theorem w_dropIntake (t : Nat) (p : Intake → Bool) : (dropIntake t p).Within ft_dropIntake := by
  unfold dropIntake
  repeat' first | with_reducible apply Act.Within.nop | with_reducible apply Act.Within.mono (w_completeRefused ..) | with_reducible apply Act.Within.mono (w_openCmd ..) | with_reducible apply within_each | (with_reducible apply within_upd; exact ⟨_, rfl, by decide +kernel⟩) | decide +kernel | with_reducible apply Act.Within.dyn | with_reducible apply within_ite | with_reducible apply Act.Within.seq | with_reducible apply within_seqs_cons | with_reducible apply within_seqs_nil | with_reducible intro _ | split | dsimp only

def ft_scannerOn : Foot :=
  { flds := [.que .scanner, .que .rotStart, .que .rotLast], regs := [rQUE_CTL] }

theorem w_scannerOn : (scannerOn).Within ft_scannerOn := by
  unfold scannerOn
  repeat' first | with_reducible apply Act.Within.nop | with_reducible apply within_setFld | (with_reducible apply within_upd; exact ⟨_, rfl, by decide +kernel⟩) | decide +kernel | with_reducible apply Act.Within.dyn | with_reducible apply within_ite | with_reducible apply Act.Within.seq | with_reducible apply within_seqs_cons | with_reducible apply within_seqs_nil | with_reducible intro _ | split | dsimp only

def ft_scannerOff : Foot :=
  { flds := [.que .scanner], regs := [rQUE_CTL] }

theorem w_scannerOff : (scannerOff).Within ft_scannerOff := by
  unfold scannerOff
  repeat' first | with_reducible apply Act.Within.nop | with_reducible apply Act.Within.mono (w_settleScanner ..) | with_reducible apply within_whenS | with_reducible apply within_setFld | (with_reducible apply within_upd; exact ⟨_, rfl, by decide +kernel⟩) | decide +kernel | with_reducible apply Act.Within.dyn | with_reducible apply within_ite | with_reducible apply Act.Within.seq | with_reducible apply within_seqs_cons | with_reducible apply within_seqs_nil | with_reducible intro _ | split | dsimp only

theorem w_scannerForce : (scannerForce).Within footIq := by
  unfold scannerForce
  repeat' first | with_reducible apply Act.Within.nop | with_reducible apply Act.Within.mono (w_dropIntake ..) | with_reducible apply w_incA | with_reducible apply Act.Within.mono (w_settleScanner ..) | with_reducible apply within_each | decide +kernel | exact errOk_none _ _ | exact errOk_any (by decide +kernel) | with_reducible apply Act.Within.dyn | with_reducible apply within_ite | with_reducible apply Act.Within.seq | with_reducible apply within_seqs_cons | with_reducible apply within_seqs_nil | with_reducible intro _ | split | dsimp only

def ft_pairOn : Foot :=
  { flds := [.mem, .que .pair, .log .logWr, .log .logLost, .log .logIntake, .log .ibiHold, .log .ibiWait, .out .ibis], regs := [rINT_CNT, rQUE_ERR, rQUE_PAIR_CFG] }

theorem w_pairOn (p : Nat) : (pairOn p).Within ft_pairOn := by
  unfold pairOn
  repeat' first | with_reducible apply Act.Within.nop | with_reducible apply w_incident | with_reducible apply within_writeBytes | with_reducible apply within_setFld | with_reducible apply w_modPair | (with_reducible apply within_upd; exact ⟨_, rfl, by decide +kernel⟩) | decide +kernel | exact errOk_none _ _ | exact errOk_any (by decide +kernel) | with_reducible apply Act.Within.dyn | with_reducible apply within_ite | with_reducible apply Act.Within.seq | with_reducible apply within_seqs_cons | with_reducible apply within_seqs_nil | with_reducible intro _ | split | dsimp only

theorem w_pairOff (p : Nat) : (pairOff p).Within ft_settlePair := by
  unfold pairOff
  repeat' first | with_reducible apply Act.Within.nop | with_reducible apply Act.Within.mono (w_settlePair ..) | with_reducible apply within_whenS | with_reducible apply within_setFld | with_reducible apply w_modPair | decide +kernel | with_reducible apply Act.Within.dyn | with_reducible apply within_ite | with_reducible apply Act.Within.seq | with_reducible apply within_seqs_cons | with_reducible apply within_seqs_nil | with_reducible intro _ | split | dsimp only

theorem w_pairForceA (p : Nat) : (pairForceA p).Within ft_abortCmd := by
  unfold pairForceA
  repeat' first | with_reducible apply Act.Within.nop | with_reducible apply Act.Within.mono (w_abortCmd ..) | with_reducible apply Act.Within.mono (w_dropIntake ..) | with_reducible apply w_incident | with_reducible apply Act.Within.mono (w_settleScanner ..) | with_reducible apply within_each | decide +kernel | exact errOk_none _ _ | exact errOk_any (by decide +kernel) | with_reducible apply Act.Within.dyn | with_reducible apply within_ite | with_reducible apply Act.Within.seq | with_reducible apply within_seqs_cons | with_reducible apply within_seqs_nil | with_reducible intro _ | split | dsimp only

theorem w_commitTokens (i : Nat) (toks : List (Nat × Nat)) (drafts : List Nat) : (commitTokens i toks drafts).Within ft_drainReq := by
  unfold commitTokens
  repeat' first | with_reducible apply Act.Within.nop | with_reducible apply Act.Within.mono (w_drainReq ..) | with_reducible apply within_each | with_reducible refine within_when' ?_ | with_reducible apply within_writeBytes | with_reducible apply w_modReq | decide +kernel | with_reducible apply Act.Within.dyn | with_reducible apply within_ite | with_reducible apply Act.Within.seq | with_reducible apply within_seqs_cons | with_reducible apply within_seqs_nil | with_reducible intro _ | split | dsimp only

theorem w_takeDraw (i : Nat) (d : Nat × Nat) (rec : List Token) : (takeDraw i d rec).Within ft_drainReq := by
  unfold takeDraw
  repeat' first | with_reducible apply Act.Within.nop | with_reducible apply Act.Within.mono (w_commitTokens ..) | with_reducible apply w_modReq | decide +kernel | with_reducible apply Act.Within.dyn | with_reducible apply within_ite | with_reducible apply Act.Within.seq | with_reducible apply within_seqs_cons | with_reducible apply within_seqs_nil | with_reducible intro _ | split | dsimp only

def ft_evaluateRecord : Foot :=
  { flds := [.mem, .mov .iq, .srv .req, .que .pair, .que .cmd, .ten .tenant, .log .logWr, .log .logLost, .log .logIntake, .log .ibiHold, .log .ibiWait, .out .ibis], regs := [rDOC_IQ_CTL, rINT_CNT, rINT_ERR, rQUE_PAIR_CFG, rSMP_ERR, rSMP_STAT, rTEN_CTL, rTEN_RESET] }

theorem w_evaluateRecord (i : Nat) (rec : List Token) (laneFault : Bool) : (evaluateRecord i rec laneFault).Within ft_evaluateRecord := by
  unfold evaluateRecord
  repeat' first | with_reducible apply Act.Within.nop | with_reducible apply Act.Within.mono (w_faultReq ..) | with_reducible apply w_incident | with_reducible apply Act.Within.mono (w_takeDraw ..) | with_reducible apply within_addFld | with_reducible apply w_modReq | decide +kernel | exact errOk_none _ _ | exact errOk_any (by decide +kernel) | with_reducible apply Act.Within.dyn | with_reducible apply within_ite | with_reducible apply Act.Within.seq | with_reducible apply within_seqs_cons | with_reducible apply within_seqs_nil | with_reducible intro _ | split | dsimp only

def ft_candidateA : Foot :=
  { flds := [.mem, .exh .load, .mov .iq, .srv .srvSt, .srv .req, .srv .srvStep, .que .pair, .que .cmd, .que .nextCmd, .ten .tenant, .log .logWr, .log .logLost, .log .logIntake, .log .ibiHold, .log .ibiWait, .out .ibis], regs := [rDOC_IQ_CTL, rINT_CNT, rINT_ERR, rQUE_PAIR_CFG, rSMP_ERR, rSMP_STAT, rSRV_CTL, rTEN_CTL, rTEN_RESET] }

theorem w_candidateA (rec : List Token) (laneFault : Bool) : (candidateA rec laneFault).Within ft_candidateA := by
  unfold candidateA
  repeat' first | with_reducible apply Act.Within.nop | with_reducible apply Act.Within.mono (w_advanceStep ..) | with_reducible apply Act.Within.mono (w_evaluateRecord ..) | with_reducible apply within_withSome | decide +kernel | with_reducible apply Act.Within.dyn | with_reducible apply within_ite | with_reducible apply Act.Within.seq | with_reducible apply within_seqs_cons | with_reducible apply within_seqs_nil | with_reducible intro _ | split | dsimp only

def ft_samplerOn : Foot :=
  { flds := [.srv .smp], regs := [rSMP_EN] }

theorem w_samplerOn (k : Nat) : (samplerOn k).Within ft_samplerOn := by
  unfold samplerOn
  repeat' first | with_reducible apply Act.Within.nop | with_reducible apply within_setFld | with_reducible apply w_modSmp | decide +kernel | with_reducible apply Act.Within.dyn | with_reducible apply within_ite | with_reducible apply Act.Within.seq | with_reducible apply within_seqs_cons | with_reducible apply within_seqs_nil | with_reducible intro _ | split | dsimp only

theorem w_samplerOff (k : Nat) : (samplerOff k).Within ft_samplerOn := by
  unfold samplerOff
  repeat' first | with_reducible apply Act.Within.nop | with_reducible apply within_setFld | with_reducible apply w_modSmp | decide +kernel | with_reducible apply Act.Within.dyn | with_reducible apply within_ite | with_reducible apply Act.Within.seq | with_reducible apply within_seqs_cons | with_reducible apply within_seqs_nil | with_reducible intro _ | split | dsimp only

def ft_samplerForceA : Foot :=
  { flds := [.mem, .exh .load, .mov .iq, .srv .srvSt, .srv .req, .srv .srvStep, .srv .smp, .que .pair, .que .cmd, .que .nextCmd, .ten .tenant, .log .logWr, .log .logLost, .log .logIntake, .log .ibiHold, .log .ibiWait, .out .ibis], regs := [rDOC_IQ_CTL, rINT_CNT, rQUE_PAIR_CFG, rSMP_ERR, rSRV_CTL, rTEN_CTL, rTEN_RESET] }

theorem w_samplerForceA (k : Nat) : (samplerForceA k).Within ft_samplerForceA := by
  unfold samplerForceA
  repeat' first | with_reducible apply Act.Within.nop | with_reducible apply Act.Within.mono (w_advanceStep ..) | with_reducible apply Act.Within.mono (w_faultReq ..) | with_reducible apply w_incA | with_reducible apply w_setErr | with_reducible apply within_withSome | (with_reducible apply within_upd; exact ⟨_, rfl, by decide +kernel⟩) | decide +kernel | exact errOk_none _ _ | exact errOk_any (by decide +kernel) | with_reducible apply Act.Within.dyn | with_reducible apply within_ite | with_reducible apply Act.Within.seq | with_reducible apply within_seqs_cons | with_reducible apply within_seqs_nil | with_reducible intro _ | split | dsimp only

def ft_writeParamSet : Foot :=
  { flds := [.log .logWr, .log .logLost, .log .logIntake, .log .ibiHold, .log .ibiWait, .out .ibis], regs := [rINT_CNT, rSMP_ERR, rSMP_SET_K, rSMP_SET_PEN, rSMP_SET_PF, rSMP_SET_TEMP] }

theorem w_writeParamSet (off v : Nat) (h : isParamReg off = true) : (writeParamSet off v).Within ft_writeParamSet := by
  have h' : off = rSMP_SET_TEMP ∨ off = rSMP_SET_PEN ∨ off = rSMP_SET_PF ∨ off = rSMP_SET_K := by
    simpa [isParamReg, or_assoc] using h
  rcases h' with rfl | rfl | rfl | rfl
  all_goals
    unfold writeParamSet
    repeat' first | with_reducible apply Act.Within.nop | with_reducible apply w_incA | with_reducible refine within_when' ?_ | with_reducible apply within_setFld | with_reducible apply within_setReg | decide +kernel | exact errOk_none _ _ | exact errOk_any (by decide +kernel) | with_reducible apply Act.Within.dyn | with_reducible apply within_ite | with_reducible apply Act.Within.seq | with_reducible apply within_seqs_cons | with_reducible apply within_seqs_nil | with_reducible intro _ | split | dsimp only

end Sys2Proof.Machine
end

