-- ==== Sys2Proof/Laws/FeetCare.lean ====
section
/-!
SUPPORT. Footprints: what each shared operation may change (Clock, Links, Halt, Update, Power, Reset, Security, Slices, Tenants, Census, Tiers, CtrlSpace, Boot, Sideband, Idle).
-/

namespace Sys2Proof.Machine

set_option Elab.async false
set_option linter.all false

def ft_timeTick : Foot :=
  { flds := [.now, .top .slewLeft, .top .slewFrac, .top .timeBehind, .top .timeFrac], regs := [] }

theorem w_timeTick : (timeTick).Within ft_timeTick := by
  unfold timeTick
  repeat' first | with_reducible apply Act.Within.nop | (with_reducible apply within_upd; exact ⟨_, rfl, by decide +kernel⟩) | decide +kernel | with_reducible apply Act.Within.dyn | with_reducible apply within_ite | with_reducible apply Act.Within.seq | with_reducible apply within_seqs_cons | with_reducible apply within_seqs_nil | with_reducible intro _ | split | dsimp only

def ft_stepTime : Foot :=
  { flds := [.now, .top .timeLocked, .top .slewLeft, .top .slewFrac, .top .timeBehind], regs := [] }

theorem w_stepTime (target : Int) : (stepTime target).Within ft_stepTime := by
  unfold stepTime
  repeat' first | with_reducible apply Act.Within.nop | (with_reducible apply within_upd; exact ⟨_, rfl, by decide +kernel⟩) | decide +kernel | with_reducible apply Act.Within.dyn | with_reducible apply within_ite | with_reducible apply Act.Within.seq | with_reducible apply within_seqs_cons | with_reducible apply within_seqs_nil | with_reducible intro _ | split | dsimp only

def ft_takeOffset : Foot :=
  { flds := [.now, .log .logWr, .log .logLost, .log .logIntake, .log .ibiHold, .log .ibiWait, .out .ibis, .top .timeLocked, .top .timeOffset, .top .timeGood, .top .slewLeft, .top .slewFrac, .top .timeBehind], regs := [rINT_CNT, rTOP_ERR] }

theorem w_takeOffset (ns : Int) : (takeOffset ns).Within ft_takeOffset := by
  unfold takeOffset
  repeat' first | with_reducible apply Act.Within.nop | with_reducible apply w_incA | with_reducible apply Act.Within.mono (w_stepTime ..) | with_reducible refine within_when' ?_ | with_reducible apply within_whenS | (with_reducible apply within_upd; exact ⟨_, rfl, by decide +kernel⟩) | decide +kernel | exact errOk_none _ _ | exact errOk_any (by decide +kernel) | with_reducible apply Act.Within.dyn | with_reducible apply within_ite | with_reducible apply Act.Within.seq | with_reducible apply within_seqs_cons | with_reducible apply within_seqs_nil | with_reducible intro _ | split | dsimp only

theorem w_answerTime (p t1 : Nat) : (answerTime p t1).Within ft_emit := by
  unfold answerTime
  repeat' first | with_reducible apply Act.Within.nop | with_reducible apply Act.Within.mono (w_sendFree ..) | decide +kernel | with_reducible apply Act.Within.dyn | with_reducible apply within_ite | with_reducible apply Act.Within.seq | with_reducible apply within_seqs_cons | with_reducible apply within_seqs_nil | with_reducible intro _ | split | dsimp only

theorem w_hearTime (p t1 t2 t3 : Nat) : (hearTime p t1 t2 t3).Within ft_takeOffset := by
  unfold hearTime
  repeat' first | with_reducible apply Act.Within.nop | with_reducible apply Act.Within.mono (w_takeOffset ..) | decide +kernel | with_reducible apply Act.Within.dyn | with_reducible apply within_ite | with_reducible apply Act.Within.seq | with_reducible apply within_seqs_cons | with_reducible apply within_seqs_nil | with_reducible intro _ | split | dsimp only

def ft_timeSyncTimerA : Foot :=
  { flds := [.out .sentFlits, .lnk .port, .top .timeLocked, .top .holdover, .top .timeParent], regs := [] }

theorem w_timeSyncTimerA : (timeSyncTimerA).Within ft_timeSyncTimerA := by
  unfold timeSyncTimerA
  repeat' first | with_reducible apply Act.Within.nop | with_reducible apply Act.Within.mono (w_sendFree ..) | with_reducible refine within_when' ?_ | (with_reducible apply within_upd; exact ⟨_, rfl, by decide +kernel⟩) | decide +kernel | with_reducible apply Act.Within.dyn | with_reducible apply within_ite | with_reducible apply Act.Within.seq | with_reducible apply within_seqs_cons | with_reducible apply within_seqs_nil | with_reducible intro _ | split | dsimp only

def ft_ppsEdgeA : Foot :=
  { flds := [.now, .top .timeLocked, .top .ppsAt, .top .slewLeft, .top .slewFrac, .top .timeBehind], regs := [rTOP_TIME_SET] }

theorem w_ppsEdgeA : (ppsEdgeA).Within ft_ppsEdgeA := by
  unfold ppsEdgeA
  repeat' first | with_reducible apply Act.Within.nop | with_reducible apply Act.Within.mono (w_stepTime ..) | with_reducible apply within_whenS | with_reducible apply within_setReg | (with_reducible apply within_upd; exact ⟨_, rfl, by decide +kernel⟩) | decide +kernel | with_reducible apply Act.Within.dyn | with_reducible apply within_ite | with_reducible apply Act.Within.seq | with_reducible apply within_seqs_cons | with_reducible apply within_seqs_nil | with_reducible intro _ | split | dsimp only

def ft_ppsLostA : Foot :=
  { flds := [.top .timeLocked, .top .ppsAt], regs := [rTOP_ERR] }

theorem w_ppsLostA : (ppsLostA).Within ft_ppsLostA := by
  unfold ppsLostA
  repeat' first | with_reducible apply Act.Within.nop | with_reducible apply w_setErr | (with_reducible apply within_upd; exact ⟨_, rfl, by decide +kernel⟩) | decide +kernel | exact errOk_none _ _ | exact errOk_any (by decide +kernel) | with_reducible apply Act.Within.dyn | with_reducible apply within_ite | with_reducible apply Act.Within.seq | with_reducible apply within_seqs_cons | with_reducible apply within_seqs_nil | with_reducible intro _ | split | dsimp only

theorem w_sendKex (p kind : Nat) (msg : List Byte) : (sendKex p kind msg).Within ft_emit := by
  unfold sendKex
  repeat' first | with_reducible apply Act.Within.nop | with_reducible apply Act.Within.mono (w_sendLink ..) | with_reducible apply within_each | decide +kernel | with_reducible apply Act.Within.dyn | with_reducible apply within_ite | with_reducible apply Act.Within.seq | with_reducible apply within_seqs_cons | with_reducible apply within_seqs_nil | with_reducible intro _ | split | dsimp only

def ft_failKex : Foot :=
  { flds := [.fresh, .log .logWr, .log .logLost, .log .logIntake, .log .ibiHold, .log .ibiWait, .out .ibis, .out .sentFlits, .lnk .port, .lnk .lnkQ, .lnk .pausedBundles, .lnk .localLost], regs := [rINT_CNT, rLNK_ERR, rLNK_ERR_PORT, rLNK_NOTICE_CNT, rLNK_PORT_CTL, rSEC_ERR] }

theorem w_failKex (p : Nat) : (failKex p).Within ft_failKex := by
  unfold failKex
  repeat' first | with_reducible apply Act.Within.nop | with_reducible apply Act.Within.mono (w_quarantine ..) | with_reducible apply w_setErr | with_reducible refine within_when' ?_ | with_reducible apply w_modPort | decide +kernel | exact errOk_none _ _ | exact errOk_any (by decide +kernel) | with_reducible apply Act.Within.dyn | with_reducible apply within_ite | with_reducible apply Act.Within.seq | with_reducible apply within_seqs_cons | with_reducible apply within_seqs_nil | with_reducible intro _ | split | dsimp only

def ft_offerKex : Foot :=
  { flds := [.fresh, .out .sentFlits, .lnk .port], regs := [] }

theorem w_offerKex (p : Nat) : (offerKex p).Within ft_offerKex := by
  unfold offerKex
  repeat' first | with_reducible apply Act.Within.nop | with_reducible apply Act.Within.mono (w_sendKex ..) | with_reducible apply within_withFresh | with_reducible apply w_modPort | decide +kernel | with_reducible apply Act.Within.dyn | with_reducible apply within_ite | with_reducible apply Act.Within.seq | with_reducible apply within_seqs_cons | with_reducible apply within_seqs_nil | with_reducible intro _ | split | dsimp only

theorem w_formKeys (p : Nat) (ct ss : List Byte) : (formKeys p ct ss).Within ft_freeEntry := by
  unfold formKeys
  repeat' first | with_reducible apply Act.Within.nop | with_reducible apply w_modPort | decide +kernel | with_reducible apply Act.Within.dyn | with_reducible apply within_ite | with_reducible apply Act.Within.seq | with_reducible apply within_seqs_cons | with_reducible apply within_seqs_nil | with_reducible intro _ | split | dsimp only

theorem w_sendConfirm (p : Nat) : (sendConfirm p).Within ft_emit := by
  unfold sendConfirm
  repeat' first | with_reducible apply Act.Within.nop | with_reducible apply Act.Within.mono (w_sendKex ..) | with_reducible apply w_modPort | decide +kernel | with_reducible apply Act.Within.dyn | with_reducible apply within_ite | with_reducible apply Act.Within.seq | with_reducible apply within_seqs_cons | with_reducible apply within_seqs_nil | with_reducible intro _ | split | dsimp only

theorem w_startSession (p : Nat) : (startSession p).Within ft_activate := by
  unfold startSession
  repeat' first | with_reducible apply Act.Within.nop | with_reducible apply Act.Within.mono (w_activate ..) | with_reducible refine within_when' ?_ | (with_reducible apply within_upd; exact ⟨_, rfl, by decide +kernel⟩) | decide +kernel | with_reducible apply Act.Within.dyn | with_reducible apply within_ite | with_reducible apply Act.Within.seq | with_reducible apply within_seqs_cons | with_reducible apply within_seqs_nil | with_reducible intro _ | split | dsimp only

theorem w_acceptKex (p credId : Nat) (ek : List Byte) : (acceptKex p credId ek).Within ft_failKex := by
  unfold acceptKex
  repeat' first | with_reducible apply Act.Within.nop | with_reducible apply Act.Within.mono (w_failKex ..) | with_reducible apply Act.Within.mono (w_formKeys ..) | with_reducible apply Act.Within.mono (w_sendConfirm ..) | with_reducible apply Act.Within.mono (w_sendKex ..) | with_reducible apply within_withFresh | with_reducible apply w_modPort | decide +kernel | with_reducible apply Act.Within.dyn | with_reducible apply within_ite | with_reducible apply Act.Within.seq | with_reducible apply within_seqs_cons | with_reducible apply within_seqs_nil | with_reducible intro _ | split | dsimp only

theorem w_kexMessage (p kind credId : Nat) (msg : List Byte) : (kexMessage p kind credId msg).Within ft_failKex := by
  unfold kexMessage
  repeat' first | with_reducible apply Act.Within.nop | with_reducible apply Act.Within.mono (w_acceptKex ..) | with_reducible apply Act.Within.mono (w_failKex ..) | with_reducible apply Act.Within.mono (w_formKeys ..) | with_reducible apply Act.Within.mono (w_offerKex ..) | with_reducible apply Act.Within.mono (w_sendConfirm ..) | with_reducible apply Act.Within.mono (w_startSession ..) | decide +kernel | with_reducible apply Act.Within.dyn | with_reducible apply within_ite | with_reducible apply Act.Within.seq | with_reducible apply within_seqs_cons | with_reducible apply within_seqs_nil | with_reducible intro _ | split | dsimp only

def ft_hearKex : Foot :=
  { flds := [.fresh, .cell .scell, .log .logWr, .log .logLost, .log .logIntake, .log .ibiHold, .log .ibiWait, .out .ibis, .out .sentFlits, .lnk .port, .lnk .lnkQ, .lnk .pausedBundles, .lnk .localLost], regs := [rINT_CNT, rLNK_ERR, rLNK_ERR_PORT, rLNK_NOTICE_CNT, rLNK_PORT_CTL, rSEC_ERR] }

theorem w_hearKex (p : Nat) (f : List Byte) : (hearKex p f).Within ft_hearKex := by
  unfold hearKex
  repeat' first | with_reducible apply Act.Within.nop | with_reducible apply Act.Within.mono (w_GenCtx_on ..) | with_reducible apply Act.Within.mono (w_failKex ..) | with_reducible apply Act.Within.mono (w_kexMessage ..) | with_reducible refine within_when' ?_ | with_reducible apply w_modPort | decide +kernel | with_reducible apply Act.Within.dyn | with_reducible apply within_ite | with_reducible apply Act.Within.seq | with_reducible apply within_seqs_cons | with_reducible apply within_seqs_nil | with_reducible intro _ | split | dsimp only

theorem w_checkHello (p : Nat) : (checkHello p).Within ft_failPort := by
  unfold checkHello
  repeat' first | with_reducible apply Act.Within.nop | with_reducible apply Act.Within.mono (w_activate ..) | with_reducible apply Act.Within.mono (w_offerKex ..) | with_reducible apply Act.Within.mono (w_quarantine ..) | with_reducible refine within_when' ?_ | decide +kernel | with_reducible apply Act.Within.dyn | with_reducible apply within_ite | with_reducible apply Act.Within.seq | with_reducible apply within_seqs_cons | with_reducible apply within_seqs_nil | with_reducible intro _ | split | dsimp only

theorem w_State_authentic (s : State) (p : Nat) (f : List Byte) : (s.authentic p f).2.Within ft_freeEntry := by
  unfold State.authentic
  dsimp only
  repeat' split
  all_goals first | exact .nop | exact .dyn fun _ => within_upd ⟨_, rfl, by decide +kernel⟩

def ft_dropFlit : Foot :=
  { flds := [.fresh, .log .logWr, .log .logLost, .log .logIntake, .log .ibiHold, .log .ibiWait, .out .ibis, .out .sentFlits, .lnk .port, .lnk .lnkQ, .lnk .pausedBundles, .lnk .localLost], regs := [rINT_CNT, rLNK_ERR, rLNK_ERR_PORT, rLNK_NOTICE_CNT, rLNK_PORT_CTL, rLNK_PORT_DROP] }

theorem w_dropFlit (p lo : Nat) : (dropFlit p lo).Within ft_dropFlit := by
  unfold dropFlit
  repeat' first | with_reducible apply Act.Within.nop | with_reducible apply w_incident | with_reducible apply Act.Within.mono (w_quarantine ..) | with_reducible apply w_setErr | with_reducible refine within_when' ?_ | with_reducible apply within_addFld | with_reducible apply w_modPort | decide +kernel | exact errOk_none _ _ | exact errOk_any (by decide +kernel) | with_reducible apply Act.Within.dyn | with_reducible apply within_ite | with_reducible apply Act.Within.seq | with_reducible apply within_seqs_cons | with_reducible apply within_seqs_nil | with_reducible intro _ | split | dsimp only

theorem w_hearRouted (p : Nat) (entry : Option (Nat × Nat)) (f : List Byte) : (hearRouted p entry f).Within footLink := by
  unfold hearRouted
  repeat' first | with_reducible apply Act.Within.nop | with_reducible apply Act.Within.mono (w_deliver ..) | with_reducible apply Act.Within.mono (w_dropFlit ..) | with_reducible apply Act.Within.mono (w_dropNoPath ..) | with_reducible apply Act.Within.mono (w_freeEntry ..) | with_reducible apply Act.Within.mono (w_putQueue ..) | decide +kernel | with_reducible apply Act.Within.dyn | with_reducible apply within_ite | with_reducible apply Act.Within.seq | with_reducible apply within_seqs_cons | with_reducible apply within_seqs_nil | with_reducible intro _ | split | dsimp only

theorem w_hearStored (p : Nat) (entry : Option (Nat × Nat)) (found : Found) (f : List Byte) :
    (hearStored p entry found f).Within footLink := by
  unfold hearStored
  repeat' first | with_reducible apply Act.Within.nop | with_reducible apply w_incident | with_reducible apply Act.Within.mono (w_hearRouted ..) | with_reducible apply Act.Within.mono (w_dropFlit ..) | with_reducible apply Act.Within.mono (w_freeEntry ..) | decide +kernel | exact errOk_none _ _ | exact errOk_any (by decide +kernel) | with_reducible apply Act.Within.dyn | with_reducible apply within_ite | with_reducible apply Act.Within.seq | with_reducible apply within_seqs_cons | with_reducible apply within_seqs_nil | with_reducible intro _ | split | dsimp only

def ft_hearLink : Foot :=
  { flds := [.now, .fresh, .cell .scell, .log .logWr, .log .logLost, .log .logIntake, .log .ibiHold, .log .ibiWait, .out .ibis, .out .sentFlits, .lnk .port, .lnk .lnkQ, .lnk .pausedBundles, .lnk .localLost, .top .timeLocked, .top .timeOffset, .top .timeGood, .top .slewLeft, .top .slewFrac, .top .timeBehind], regs := [rINT_CNT, rLNK_ERR, rLNK_ERR_PORT, rLNK_NOTICE_CNT, rLNK_PORT_CTL, rLNK_PORT_REPLAY, rSEC_ERR, rTOP_ERR] }

theorem w_resendStored (p : Nat) (found : Found) (seq : Nat) : (resendStored p found seq).Within ft_hearLink := by
  unfold resendStored
  repeat' first | with_reducible apply Act.Within.nop | with_reducible apply w_incident | with_reducible apply Act.Within.mono (w_resendFrom ..) | with_reducible apply Act.Within.mono (w_failPort ..) | decide +kernel | exact errOk_none _ _ | exact errOk_any (by decide +kernel) | with_reducible apply Act.Within.dyn | with_reducible apply within_ite | with_reducible apply Act.Within.seq | with_reducible apply within_seqs_cons | with_reducible apply within_seqs_nil | with_reducible intro _ | split | dsimp only

theorem w_hearLink (p : Nat) (found : Found) (f : List Byte) : (hearLink p found f).Within ft_hearLink := by
  unfold hearLink
  repeat' first | with_reducible apply Act.Within.nop | with_reducible apply Act.Within.mono (w_answerTime ..) | with_reducible apply Act.Within.mono (w_checkHello ..) | with_reducible apply Act.Within.mono (w_hearKex ..) | with_reducible apply Act.Within.mono (w_hearTime ..) | with_reducible apply Act.Within.mono (w_quarantine ..) | with_reducible apply Act.Within.mono (w_resendStored ..) | with_reducible apply Act.Within.mono (w_settleRate ..) | with_reducible refine within_when' ?_ | with_reducible apply within_whenS | with_reducible apply w_modPort | decide +kernel | with_reducible apply Act.Within.dyn | with_reducible apply within_ite | with_reducible apply Act.Within.seq | with_reducible apply within_seqs_cons | with_reducible apply within_seqs_nil | with_reducible intro _ | split | dsimp only

theorem w_inspect (p : Nat) (found : Found) (f : List Byte) : (inspect p found f).Within footLink := by
  unfold inspect
  repeat' first | with_reducible apply Act.Within.nop | with_reducible apply Act.Within.mono (w_State_authentic _ _ _) | with_reducible apply Act.Within.mono (w_dropFlit ..) | with_reducible apply Act.Within.mono (w_freeEntry ..) | with_reducible apply Act.Within.mono (w_hearLink ..) | with_reducible apply Act.Within.mono (w_hearStored ..) | with_reducible refine within_when' ?_ | with_reducible apply w_modPort | decide +kernel | with_reducible apply Act.Within.dyn | with_reducible apply within_ite | with_reducible apply Act.Within.seq | with_reducible apply within_seqs_cons | with_reducible apply within_seqs_nil | with_reducible intro _ | split | dsimp only

def ft_sendNak : Foot :=
  { flds := [.out .sentFlits, .lnk .port], regs := [rLNK_PORT_REPLAY] }

theorem w_sendNak (p : Nat) : (sendNak p).Within ft_sendNak := by
  unfold sendNak
  repeat' first | with_reducible apply Act.Within.nop | with_reducible apply Act.Within.mono (w_sendFree ..) | with_reducible apply within_addFld | with_reducible apply w_modPort | decide +kernel | with_reducible apply Act.Within.dyn | with_reducible apply within_ite | with_reducible apply Act.Within.seq | with_reducible apply within_seqs_cons | with_reducible apply within_seqs_nil | with_reducible intro _ | split | dsimp only

theorem w_hearHeader (p : Nat) (f : List Byte) : (hearHeader p f).Within ft_acked := by
  unfold hearHeader
  repeat' first | with_reducible apply Act.Within.nop | with_reducible apply Act.Within.mono (w_acked ..) | with_reducible apply w_modPort | decide +kernel | with_reducible apply Act.Within.dyn | with_reducible apply within_ite | with_reducible apply Act.Within.seq | with_reducible apply within_seqs_cons | with_reducible apply within_seqs_nil | with_reducible intro _ | split | dsimp only

theorem w_receive (p : Nat) (flit : Flit) (found : Found) : (receive p flit found).Within footLink := by
  unfold receive
  repeat' first | with_reducible apply Act.Within.nop | with_reducible apply Act.Within.mono (w_hearHeader ..) | with_reducible apply Act.Within.mono (w_inspect ..) | with_reducible apply Act.Within.mono (w_pump ..) | with_reducible apply Act.Within.mono (w_sendNak ..) | with_reducible apply Act.Within.mono (w_settleLocal ..) | with_reducible refine within_when' ?_ | with_reducible apply w_modPort | decide +kernel | with_reducible apply Act.Within.dyn | with_reducible apply within_ite | with_reducible apply Act.Within.seq | with_reducible apply within_seqs_cons | with_reducible apply within_seqs_nil | with_reducible intro _ | split | dsimp only

theorem w_linkAct {p : Foot} {a : Act} (h : footWork.le p = true) (ha : a.Within p) : (linkAct a).Within p :=
  within_seqs_cons ha (within_seqs_cons ((w_pump.mono (q := footWork) (by decide +kernel)).mono h)
    (within_seqs_cons ((w_settleLocal.mono (q := footWork) (by decide +kernel)).mono h) (within_seqs_nil _)))

theorem w_replayTimeoutA (p : Nat) : (replayTimeoutA p).Within footLink := by
  unfold replayTimeoutA
  repeat' first | with_reducible apply Act.Within.nop | with_reducible apply w_linkAct | with_reducible apply Act.Within.mono (w_resendFrom ..) | with_reducible refine within_when' ?_ | decide +kernel | with_reducible apply Act.Within.dyn | with_reducible apply within_ite | with_reducible apply Act.Within.seq | with_reducible apply within_seqs_cons | with_reducible apply within_seqs_nil | with_reducible intro _ | split | dsimp only

theorem w_linkFails (p reason : Nat) : (linkFails p reason).Within footLink := by
  unfold linkFails
  repeat' first | with_reducible apply Act.Within.nop | with_reducible apply Act.Within.mono (w_failPort ..) | with_reducible apply w_linkAct | with_reducible apply within_whenS | decide +kernel | with_reducible apply Act.Within.dyn | with_reducible apply within_ite | with_reducible apply Act.Within.seq | with_reducible apply within_seqs_cons | with_reducible apply within_seqs_nil | with_reducible intro _ | split | dsimp only

def ft_trainFailA : Foot :=
  { flds := [.log .logWr, .log .logLost, .log .logIntake, .log .ibiHold, .log .ibiWait, .out .ibis, .lnk .port], regs := [rINT_CNT, rLNK_ERR, rLNK_ERR_PORT] }

theorem w_trainFailA (p : Nat) : (trainFailA p).Within ft_trainFailA := by
  unfold trainFailA
  repeat' first | with_reducible apply Act.Within.nop | with_reducible apply Act.Within.mono (w_portFault ..) | with_reducible apply within_whenS | with_reducible apply w_modPort | decide +kernel | with_reducible apply Act.Within.dyn | with_reducible apply within_ite | with_reducible apply Act.Within.seq | with_reducible apply within_seqs_cons | with_reducible apply within_seqs_nil | with_reducible intro _ | split | dsimp only

theorem w_mcastCutA (h st peer : Nat) : (mcastCutA h st peer).Within footWork := by
  unfold mcastCutA
  repeat' first | with_reducible apply Act.Within.nop | with_reducible apply Act.Within.mono (w_addCause ..) | with_reducible apply Act.Within.mono (w_countCUT ..) | with_reducible apply Act.Within.mono (w_forward ..) | with_reducible apply w_incident | with_reducible apply Act.Within.mono (w_inject ..) | with_reducible refine within_when' ?_ | with_reducible apply within_withSome | with_reducible apply w_modStream | decide +kernel | exact errOk_none _ _ | exact errOk_any (by decide +kernel) | with_reducible apply Act.Within.dyn | with_reducible apply within_ite | with_reducible apply Act.Within.seq | with_reducible apply within_seqs_cons | with_reducible apply within_seqs_nil | with_reducible intro _ | split | dsimp only

theorem w_bundleResumeA (b : Nat) : (bundleResumeA b).Within ft_pauseBundle := by
  unfold bundleResumeA
  repeat' first | with_reducible apply Act.Within.nop | (with_reducible apply within_upd; exact ⟨_, rfl, by decide +kernel⟩) | decide +kernel | with_reducible apply Act.Within.dyn | with_reducible apply within_ite | with_reducible apply Act.Within.seq | with_reducible apply within_seqs_cons | with_reducible apply within_seqs_nil | with_reducible intro _ | split | dsimp only

def ft_rekeyA : Foot :=
  { flds := [.fresh, .cell .scell, .out .sentFlits, .lnk .port], regs := [] }

theorem w_rekeyA (p : Nat) : (rekeyA p).Within ft_rekeyA := by
  unfold rekeyA
  repeat' first | with_reducible apply Act.Within.nop | with_reducible apply Act.Within.mono (w_GenCtx_on ..) | with_reducible apply Act.Within.mono (w_offerKex ..) | with_reducible apply Act.Within.mono (w_sendKex ..) | decide +kernel | with_reducible apply Act.Within.dyn | with_reducible apply within_ite | with_reducible apply Act.Within.seq | with_reducible apply within_seqs_cons | with_reducible apply within_seqs_nil | with_reducible intro _ | split | dsimp only

theorem w_portOnA (p : Nat) : (portOnA p).Within ft_activate := by
  unfold portOnA
  repeat' first | with_reducible apply Act.Within.nop | with_reducible apply Act.Within.mono (w_pauseBundle ..) | with_reducible apply Act.Within.mono (w_startPort ..) | with_reducible refine within_when' ?_ | with_reducible apply within_orReg | with_reducible apply w_modPort | decide +kernel | with_reducible apply Act.Within.dyn | with_reducible apply within_ite | with_reducible apply Act.Within.seq | with_reducible apply within_seqs_cons | with_reducible apply within_seqs_nil | with_reducible intro _ | split | dsimp only

theorem w_portOffA (p : Nat) : (portOffA p).Within ft_activate := by
  unfold portOffA
  repeat' first | with_reducible apply Act.Within.nop | with_reducible apply Act.Within.mono (w_pauseBundle ..) | with_reducible apply Act.Within.mono (w_settlePort ..) | with_reducible refine within_when' ?_ | with_reducible apply within_setFld | with_reducible apply w_modPort | decide +kernel | with_reducible apply Act.Within.dyn | with_reducible apply within_ite | with_reducible apply Act.Within.seq | with_reducible apply within_seqs_cons | with_reducible apply within_seqs_nil | with_reducible intro _ | split | dsimp only

def ft_portForceA : Foot :=
  { flds := [.fresh, .log .logWr, .log .logLost, .log .logIntake, .log .ibiHold, .log .ibiWait, .out .ibis, .lnk .port, .lnk .lnkQ, .lnk .localLost], regs := [rINT_CNT, rLNK_ERR, rLNK_NOTICE_CNT, rLNK_PORT_CTL] }

theorem w_portForceA (p : Nat) : (portForceA p).Within ft_portForceA := by
  unfold portForceA
  repeat' first | with_reducible apply Act.Within.nop | with_reducible apply w_incident | with_reducible apply Act.Within.mono (w_loseFlits ..) | with_reducible apply Act.Within.mono (w_settlePort ..) | with_reducible apply within_orReg | with_reducible apply w_modPort | decide +kernel | exact errOk_none _ _ | exact errOk_any (by decide +kernel) | with_reducible apply Act.Within.dyn | with_reducible apply within_ite | with_reducible apply Act.Within.seq | with_reducible apply within_seqs_cons | with_reducible apply within_seqs_nil | with_reducible intro _ | split | dsimp only

theorem w_portRetrainA (p : Nat) : (portRetrainA p).Within ft_acked := by
  unfold portRetrainA
  repeat' first | with_reducible apply Act.Within.nop | with_reducible apply Act.Within.mono (w_checkPort ..) | with_reducible apply within_whenS | with_reducible apply within_orReg | decide +kernel | with_reducible apply Act.Within.dyn | with_reducible apply within_ite | with_reducible apply Act.Within.seq | with_reducible apply within_seqs_cons | with_reducible apply within_seqs_nil | with_reducible intro _ | split | dsimp only

def ft_portLowA : Foot :=
  { flds := [.out .sentFlits, .lnk .port, .lnk .pausedBundles], regs := [rLNK_PORT_CTL] }

theorem w_portLowA (p : Nat) (low : Bool) : (portLowA p low).Within ft_portLowA := by
  unfold portLowA
  repeat' first | with_reducible apply Act.Within.nop | with_reducible apply Act.Within.mono (w_tellRate ..) | with_reducible apply within_setFld | decide +kernel | with_reducible apply Act.Within.dyn | with_reducible apply within_ite | with_reducible apply Act.Within.seq | with_reducible apply within_seqs_cons | with_reducible apply within_seqs_nil | with_reducible intro _ | split | dsimp only

theorem w_writePortCtl (p v : Nat) : (writePortCtl p v).Within footLink := by
  unfold writePortCtl
  repeat' first | with_reducible apply Act.Within.nop | with_reducible apply w_linkAct | with_reducible apply Act.Within.mono (w_portForceA ..) | with_reducible apply Act.Within.mono (w_portLowA ..) | with_reducible apply Act.Within.mono (w_portOffA ..) | with_reducible apply Act.Within.mono (w_portOnA ..) | with_reducible apply Act.Within.mono (w_portRetrainA ..) | with_reducible refine within_when' ?_ | decide +kernel | with_reducible apply Act.Within.dyn | with_reducible apply within_ite | with_reducible apply Act.Within.seq | with_reducible apply within_seqs_cons | with_reducible apply within_seqs_nil | with_reducible intro _ | split | dsimp only

def ft_writePolicy : Foot :=
  { flds := [.log .logWr, .log .logLost, .log .logIntake, .log .ibiHold, .log .ibiWait, .out .ibis], regs := [rINT_CNT, rLNK_POLICY] }

theorem w_writePolicy (v : Nat) : (writePolicy v).Within ft_writePolicy := by
  unfold writePolicy
  repeat' first | with_reducible apply Act.Within.nop | with_reducible apply w_incA | with_reducible refine within_when' ?_ | with_reducible apply within_setReg | decide +kernel | exact errOk_none _ _ | exact errOk_any (by decide +kernel) | with_reducible apply Act.Within.dyn | with_reducible apply within_ite | with_reducible apply Act.Within.seq | with_reducible apply within_seqs_cons | with_reducible apply within_seqs_nil | with_reducible intro _ | split | dsimp only

theorem w_startPorts : (startPorts).Within ft_freeEntry := by
  unfold startPorts
  repeat' first | with_reducible apply Act.Within.nop | with_reducible apply Act.Within.mono (w_startPort ..) | with_reducible apply within_each | with_reducible refine within_when' ?_ | decide +kernel | with_reducible apply Act.Within.dyn | with_reducible apply within_ite | with_reducible apply Act.Within.seq | with_reducible apply within_seqs_cons | with_reducible apply within_seqs_nil | with_reducible intro _ | split | dsimp only

def ft_commitTop : Foot :=
  { flds := [.log .logWr, .log .logLost, .log .logIntake, .log .ibiHold, .log .ibiWait, .out .ibis, .lnk .port, .top .live], regs := [rINT_CNT, rTOP_ERR] }

theorem w_commitTop : (commitTop).Within ft_commitTop := by
  unfold commitTop
  repeat' first | with_reducible apply Act.Within.nop | with_reducible apply w_incA | with_reducible apply w_setErr | with_reducible apply Act.Within.mono (w_startPorts ..) | with_reducible refine within_when' ?_ | (with_reducible apply within_upd; exact ⟨_, rfl, by decide +kernel⟩) | decide +kernel | exact errOk_none _ _ | exact errOk_any (by decide +kernel) | with_reducible apply Act.Within.dyn | with_reducible apply within_ite | with_reducible apply Act.Within.seq | with_reducible apply within_seqs_cons | with_reducible apply within_seqs_nil | with_reducible intro _ | split | dsimp only

theorem w_haltNotices : (haltNotices).Within ft_sendLost := by
  unfold haltNotices
  repeat' first | with_reducible apply Act.Within.nop | with_reducible apply Act.Within.mono (w_sendLost ..) | with_reducible apply within_each | with_reducible refine within_when' ?_ | decide +kernel | with_reducible apply Act.Within.dyn | with_reducible apply within_ite | with_reducible apply Act.Within.seq | with_reducible apply within_seqs_cons | with_reducible apply within_seqs_nil | with_reducible intro _ | split | dsimp only

def ft_haltModule : Foot :=
  { flds := [.fresh, .fab .bay, .fab .slot, .fab .newSlot, .fab .site, .fab .credit, .fab .creditFly, .fab .wire, .fab .lastGrant, .fab .island, .cell .acell, .cell .acc, .cell .run16At, .cell .lane, .cell .laneBad, .cell .arrived, .cell .got, .cell .cout, .cell .scell, .cell .line, .exh .load, .exh .wdogWait, .mov .move, .ten .tenant, .ten .slice, .int .haltCause, .out .sentFlits, .lnk .port, .lnk .lnkQ, .lnk .localLost], regs := [rFAB_BAY_FENCE, rFAB_BAY_FORCE, rFAB_BAY_ON, rINT_ERR, rLNK_ERR, rLNK_NOTICE_CNT] }

theorem w_haltModule (cause : Nat) : (haltModule cause).Within ft_haltModule := by
  unfold haltModule
  repeat' first | with_reducible apply Act.Within.nop | with_reducible apply Act.Within.mono (w_bayGone ..) | with_reducible apply Act.Within.mono (w_haltNotices ..) | with_reducible apply Act.Within.mono (w_modMv ..) | with_reducible apply Act.Within.mono (w_pump ..) | with_reducible apply w_setErr | with_reducible apply Act.Within.mono (w_setFences ..) | with_reducible apply within_each | with_reducible apply within_setReg | with_reducible apply w_modLoad | (with_reducible apply within_upd; exact ⟨_, rfl, by decide +kernel⟩) | decide +kernel | exact errOk_none _ _ | exact errOk_any (by decide +kernel) | with_reducible apply Act.Within.dyn | with_reducible apply within_ite | with_reducible apply Act.Within.seq | with_reducible apply within_seqs_cons | with_reducible apply within_seqs_nil | with_reducible intro _ | split | dsimp only

def ft_haltLogged : Foot :=
  { flds := [.fresh, .fab .bay, .fab .slot, .fab .newSlot, .fab .site, .fab .credit, .fab .creditFly, .fab .wire, .fab .lastGrant, .fab .island, .cell .acell, .cell .acc, .cell .run16At, .cell .lane, .cell .laneBad, .cell .arrived, .cell .got, .cell .cout, .cell .scell, .cell .line, .exh .load, .exh .wdogWait, .mov .move, .ten .tenant, .ten .slice, .int .haltCause, .log .logWr, .log .logLost, .log .logIntake, .log .ibiHold, .log .ibiWait, .out .ibis, .out .sentFlits, .lnk .port, .lnk .lnkQ, .lnk .localLost], regs := [rFAB_BAY_FENCE, rFAB_BAY_FORCE, rFAB_BAY_ON, rINT_CNT, rINT_ERR, rLNK_ERR, rLNK_NOTICE_CNT] }

theorem w_haltLogged (cause : Nat) : (haltLogged cause).Within ft_haltLogged := by
  unfold haltLogged
  repeat' first | with_reducible apply Act.Within.mono (w_haltModule ..) | with_reducible apply within_whenS | with_reducible apply w_incident | decide +kernel | exact errOk_any (by decide +kernel) | with_reducible apply Act.Within.seq | with_reducible intro _

def ft_settleHold : Foot :=
  { flds := [.int .holdOn], regs := [] }

theorem w_settleHold : (settleHold).Within ft_settleHold := by
  unfold settleHold
  repeat' first | with_reducible apply Act.Within.nop | with_reducible apply within_whenS | (with_reducible apply within_upd; exact ⟨_, rfl, by decide +kernel⟩) | decide +kernel | with_reducible apply Act.Within.dyn | with_reducible apply within_ite | with_reducible apply Act.Within.seq | with_reducible apply within_seqs_cons | with_reducible apply within_seqs_nil | with_reducible intro _ | split | dsimp only

def ft_writeHold : Foot :=
  { flds := [.int .holdOn], regs := [rINT_ERR, rINT_HOLD_CTL] }

theorem w_writeHold (en : Bool) : (writeHold en).Within ft_writeHold := by
  unfold writeHold
  repeat' first | with_reducible apply Act.Within.nop | with_reducible apply w_setErr | with_reducible apply Act.Within.mono (w_settleHold ..) | with_reducible refine within_when' ?_ | with_reducible apply within_setFld | (with_reducible apply within_upd; exact ⟨_, rfl, by decide +kernel⟩) | decide +kernel | exact errOk_none _ _ | exact errOk_any (by decide +kernel) | with_reducible apply Act.Within.dyn | with_reducible apply within_ite | with_reducible apply Act.Within.seq | with_reducible apply within_seqs_cons | with_reducible apply within_seqs_nil | with_reducible intro _ | split | dsimp only

def ft_checkOver : Foot :=
  { flds := [.int .chk], regs := [rINT_CHK_CTL] }

theorem w_checkOver (b : Nat) (r : ChkRes) : (checkOver b r).Within ft_checkOver := by
  unfold checkOver
  repeat' first | with_reducible apply Act.Within.nop | with_reducible apply within_setFld | (with_reducible apply within_upd; exact ⟨_, rfl, by decide +kernel⟩) | decide +kernel | with_reducible apply Act.Within.dyn | with_reducible apply within_ite | with_reducible apply Act.Within.seq | with_reducible apply within_seqs_cons | with_reducible apply within_seqs_nil | with_reducible intro _ | split | dsimp only

theorem w_checkRequestA (b : Nat) : (checkRequestA b).Within ft_checkOver := by
  unfold checkRequestA
  repeat' first | with_reducible apply Act.Within.nop | with_reducible apply Act.Within.mono (w_checkOver ..) | with_reducible apply within_orReg | (with_reducible apply within_upd; exact ⟨_, rfl, by decide +kernel⟩) | decide +kernel | with_reducible apply Act.Within.dyn | with_reducible apply within_ite | with_reducible apply Act.Within.seq | with_reducible apply within_seqs_cons | with_reducible apply within_seqs_nil | with_reducible intro _ | split | dsimp only

def ft_checkStartA : Foot :=
  { flds := [.fab .bay, .int .chk], regs := [] }

theorem w_checkStartA (b : Nat) : (checkStartA b).Within ft_checkStartA := by
  unfold checkStartA
  repeat' first | with_reducible apply Act.Within.nop | with_reducible apply w_modChk | (with_reducible apply within_upd; exact ⟨_, rfl, by decide +kernel⟩) | decide +kernel | with_reducible apply Act.Within.dyn | with_reducible apply within_ite | with_reducible apply Act.Within.seq | with_reducible apply within_seqs_cons | with_reducible apply within_seqs_nil | with_reducible intro _ | split | dsimp only

def ft_checkEndA : Foot :=
  { flds := [.fab .bay, .fab .slot, .fab .newSlot, .fab .site, .fab .credit, .fab .creditFly, .fab .wire, .fab .lastGrant, .fab .island, .cell .acell, .cell .acc, .cell .run16At, .cell .lane, .cell .laneBad, .cell .arrived, .cell .got, .cell .cout, .cell .scell, .cell .line, .exh .load, .exh .wdogWait, .ten .tenant, .ten .slice, .ten .scanWord, .ten .scanBay, .ten .scanDir, .ten .scanWant, .int .chk, .log .logWr, .log .logLost, .log .logIntake, .log .ibiHold, .log .ibiWait, .out .ibis], regs := [rFAB_BAY_FENCE, rFAB_BAY_FORCE, rINT_CHK_CTL, rINT_CHK_FAIL, rINT_CNT, rINT_ERR] }

theorem w_checkEndA (b : Nat) (fail : Option ChkFail) : (checkEndA b fail).Within ft_checkEndA := by
  unfold checkEndA
  repeat' first | with_reducible apply Act.Within.nop | with_reducible apply Act.Within.mono (w_actOnBit ..) | with_reducible apply Act.Within.mono (w_checkOver ..) | with_reducible apply Act.Within.mono (w_clearBay ..) | with_reducible apply w_firstFault | with_reducible apply w_incident | with_reducible apply Act.Within.mono (w_startScan ..) | with_reducible refine within_when' ?_ | (with_reducible apply within_upd; exact ⟨_, rfl, by decide +kernel⟩) | decide +kernel | exact errOk_none _ _ | exact errOk_any (by decide +kernel) | with_reducible apply Act.Within.dyn | with_reducible apply within_ite | with_reducible apply Act.Within.seq | with_reducible apply within_seqs_cons | with_reducible apply within_seqs_nil | with_reducible intro _ | split | dsimp only

def ft_checkTimeoutA : Foot :=
  { flds := [.int .chk], regs := [rINT_CHK_CTL, rINT_ERR] }

theorem w_checkTimeoutA (b : Nat) : (checkTimeoutA b).Within ft_checkTimeoutA := by
  unfold checkTimeoutA
  repeat' first | with_reducible apply Act.Within.nop | with_reducible apply Act.Within.mono (w_checkOver ..) | with_reducible apply w_setErr | with_reducible apply within_whenS | decide +kernel | exact errOk_none _ _ | exact errOk_any (by decide +kernel) | with_reducible apply Act.Within.dyn | with_reducible apply within_ite | with_reducible apply Act.Within.seq | with_reducible apply within_seqs_cons | with_reducible apply within_seqs_nil | with_reducible intro _ | split | dsimp only

def ft_writeChkCtl : Foot :=
  { flds := [.int .chk, .log .logWr, .log .logLost, .log .logIntake, .log .ibiHold, .log .ibiWait, .out .ibis], regs := [rINT_CHK_CTL, rINT_CNT] }

theorem w_writeChkCtl (v : Nat) : (writeChkCtl v).Within ft_writeChkCtl := by
  unfold writeChkCtl
  repeat' first | with_reducible apply Act.Within.nop | with_reducible apply Act.Within.mono (w_checkRequestA ..) | with_reducible apply w_incA | with_reducible apply within_each | with_reducible refine within_when' ?_ | with_reducible apply within_setFld | decide +kernel | exact errOk_none _ _ | exact errOk_any (by decide +kernel) | with_reducible apply Act.Within.dyn | with_reducible apply within_ite | with_reducible apply Act.Within.seq | with_reducible apply within_seqs_cons | with_reducible apply within_seqs_nil | with_reducible intro _ | split | dsimp only

def ft_updEnd : Foot :=
  { flds := [.mem, .mov .iq, .que .pair, .que .cmd, .ten .tenant, .log .logWr, .log .logLost, .log .logIntake, .log .ibiHold, .log .ibiWait, .out .ibis], regs := [rDOC_IQ_CTL, rINT_CNT, rQUE_PAIR_CFG, rTEN_CTL, rTEN_RESET, rUPD_ERR, rUPD_STAT] }

theorem w_updEnd (id reason : Nat) : (updEnd id reason).Within ft_updEnd := by
  unfold updEnd
  repeat' first | with_reducible apply Act.Within.nop | with_reducible apply Act.Within.mono (w_complete ..) | with_reducible apply w_incident | with_reducible refine within_when' ?_ | with_reducible apply within_withSome | with_reducible apply within_setFld | decide +kernel | exact errOk_none _ _ | exact errOk_any (by decide +kernel) | with_reducible apply Act.Within.dyn | with_reducible apply within_ite | with_reducible apply Act.Within.seq | with_reducible apply within_seqs_cons | with_reducible apply within_seqs_nil | with_reducible intro _ | split | dsimp only

def ft_endSession : Foot :=
  { flds := [.upd .updSt, .upd .updBegun, .upd .updManifest], regs := [rUPD_STAT] }

theorem w_endSession : (endSession).Within ft_endSession := by
  unfold endSession
  repeat' first | with_reducible apply Act.Within.nop | with_reducible apply within_setFld | (with_reducible apply within_upd; exact ⟨_, rfl, by decide +kernel⟩) | decide +kernel | with_reducible apply Act.Within.dyn | with_reducible apply within_ite | with_reducible apply Act.Within.seq | with_reducible apply within_seqs_cons | with_reducible apply within_seqs_nil | with_reducible intro _ | split | dsimp only

theorem w_abortSession : (abortSession).Within ft_endSession := by
  unfold abortSession
  repeat' first | with_reducible apply Act.Within.nop | with_reducible apply Act.Within.mono (w_endSession ..) | with_reducible apply within_whenS | decide +kernel | with_reducible apply Act.Within.dyn | with_reducible apply within_ite | with_reducible apply Act.Within.seq | with_reducible apply within_seqs_cons | with_reducible apply within_seqs_nil | with_reducible intro _ | split | dsimp only

def ft_writePart : Foot :=
  { flds := [.mem, .fresh, .mov .iq, .que .pair, .que .cmd, .ten .tenant, .log .logWr, .log .logLost, .log .logIntake, .log .ibiHold, .log .ibiWait, .out .ibis, .boot .flashAt, .boot .journal, .boot .jrnNext, .upd .updBegun], regs := [rBOOT_ERR, rBOOT_FLASH, rDOC_IQ_CTL, rINT_CNT, rQUE_PAIR_CFG, rTEN_CTL, rTEN_RESET, rUPD_ERR, rUPD_STAT] }

theorem w_writePart (id a : Nat) (d : List Byte) (ok : Bool) : (writePart id a d ok).Within ft_writePart := by
  unfold writePart
  repeat' first | with_reducible apply Act.Within.nop | with_reducible apply Act.Within.mono (w_appendJournal ..) | with_reducible apply Act.Within.mono (w_eraseFlash ..) | with_reducible apply Act.Within.mono (w_eraseSectors ..) | with_reducible apply Act.Within.mono (w_programFlash ..) | with_reducible apply Act.Within.mono (w_spoilFlash ..) | with_reducible apply Act.Within.mono (w_updEnd ..) | with_reducible refine within_when' ?_ | with_reducible apply within_orReg | (with_reducible apply within_upd; exact ⟨_, rfl, by decide +kernel⟩) | decide +kernel | with_reducible apply Act.Within.dyn | with_reducible apply within_ite | with_reducible apply Act.Within.seq | with_reducible apply within_seqs_cons | with_reducible apply within_seqs_nil | with_reducible intro _ | split | dsimp only

def ft_updateBlockA : Foot :=
  { flds := [.mem, .fresh, .mov .iq, .que .pair, .que .cmd, .ten .tenant, .log .logWr, .log .logLost, .log .logIntake, .log .ibiHold, .log .ibiWait, .out .ibis, .boot .flashAt, .boot .journal, .boot .jrnNext, .upd .updSt, .upd .updBegun, .upd .updManifest], regs := [rBOOT_ERR, rBOOT_FLASH, rDOC_IQ_CTL, rINT_CNT, rQUE_PAIR_CFG, rTEN_CTL, rTEN_RESET, rUPD_ERR, rUPD_STAT] }

theorem w_updateBlockA (id : Nat) (flashOk : Bool) : (updateBlockA id flashOk).Within ft_updateBlockA := by
  unfold updateBlockA
  repeat' first | with_reducible apply Act.Within.nop | with_reducible apply Act.Within.mono (w_updEnd ..) | with_reducible apply Act.Within.mono (w_writePart ..) | with_reducible refine within_when' ?_ | with_reducible apply within_withSome | with_reducible apply within_setFld | (with_reducible apply within_upd; exact ⟨_, rfl, by decide +kernel⟩) | decide +kernel | with_reducible apply Act.Within.dyn | with_reducible apply within_ite | with_reducible apply Act.Within.seq | with_reducible apply within_seqs_cons | with_reducible apply within_seqs_nil | with_reducible intro _ | split | dsimp only

def ft_updateManifestA : Foot :=
  { flds := [.mem, .fresh, .mov .iq, .que .pair, .que .cmd, .ten .tenant, .log .logWr, .log .logLost, .log .logIntake, .log .ibiHold, .log .ibiWait, .out .ibis, .boot .flashAt, .upd .updSt, .upd .updManifest], regs := [rBOOT_ERR, rBOOT_FLASH, rDOC_IQ_CTL, rINT_CNT, rQUE_PAIR_CFG, rTEN_CTL, rTEN_RESET, rUPD_ERR, rUPD_STAT] }

theorem w_updateManifestA (id : Nat) (flashOk : Bool) : (updateManifestA id flashOk).Within ft_updateManifestA := by
  unfold updateManifestA
  repeat' first | with_reducible apply Act.Within.nop | with_reducible apply Act.Within.mono (w_eraseSectors ..) | with_reducible apply Act.Within.mono (w_programFlash ..) | with_reducible apply Act.Within.mono (w_spoilFlash ..) | with_reducible apply Act.Within.mono (w_updEnd ..) | with_reducible apply within_withSome | (with_reducible apply within_upd; exact ⟨_, rfl, by decide +kernel⟩) | decide +kernel | with_reducible apply Act.Within.dyn | with_reducible apply within_ite | with_reducible apply Act.Within.seq | with_reducible apply within_seqs_cons | with_reducible apply within_seqs_nil | with_reducible intro _ | split | dsimp only

def ft_updateActivateA : Foot :=
  { flds := [.mem, .mov .iq, .que .pair, .que .cmd, .ten .tenant, .log .logWr, .log .logLost, .log .logIntake, .log .ibiHold, .log .ibiWait, .out .ibis, .upd .updSt], regs := [rDOC_IQ_CTL, rINT_CNT, rQUE_PAIR_CFG, rTEN_CTL, rTEN_RESET, rUPD_ERR, rUPD_STAT] }

theorem w_updateActivateA (id : Nat) : (updateActivateA id).Within ft_updateActivateA := by
  unfold updateActivateA
  repeat' first | with_reducible apply Act.Within.nop | with_reducible apply Act.Within.mono (w_updEnd ..) | with_reducible apply within_withSome | (with_reducible apply within_upd; exact ⟨_, rfl, by decide +kernel⟩) | decide +kernel | with_reducible apply Act.Within.dyn | with_reducible apply within_ite | with_reducible apply Act.Within.seq | with_reducible apply within_seqs_cons | with_reducible apply within_seqs_nil | with_reducible intro _ | split | dsimp only

def ft_updateConfirmA : Foot :=
  { flds := [.mem, .mov .iq, .que .pair, .que .cmd, .ten .tenant, .log .logWr, .log .logLost, .log .logIntake, .log .ibiHold, .log .ibiWait, .out .ibis, .boot .flashAt, .boot .journal, .boot .jrnNext, .upd .updSt, .upd .updBegun, .upd .updManifest], regs := [rBOOT_FLASH, rBOOT_STAT, rDOC_IQ_CTL, rINT_CNT, rQUE_PAIR_CFG, rTEN_CTL, rTEN_RESET, rUPD_ERR, rUPD_STAT] }

theorem w_updateConfirmA (id : Nat) : (updateConfirmA id).Within ft_updateConfirmA := by
  unfold updateConfirmA
  repeat' first | with_reducible apply Act.Within.nop | with_reducible apply Act.Within.mono (w_appendJournal ..) | with_reducible apply Act.Within.mono (w_endSession ..) | with_reducible apply Act.Within.mono (w_updEnd ..) | with_reducible refine within_when' ?_ | with_reducible apply within_withSome | with_reducible apply within_setFld | decide +kernel | with_reducible apply Act.Within.dyn | with_reducible apply within_ite | with_reducible apply Act.Within.seq | with_reducible apply within_seqs_cons | with_reducible apply within_seqs_nil | with_reducible intro _ | split | dsimp only

theorem w_pauseLoad (h : Nat) : (pauseLoad h).Within footLoad := by
  unfold pauseLoad
  repeat' first | with_reducible apply Act.Within.nop | with_reducible apply Act.Within.mono (w_endWith ..) | with_reducible apply Act.Within.mono (w_finishCmd ..) | with_reducible apply Act.Within.mono (w_releaseLoad ..) | with_reducible apply within_each | with_reducible apply w_modLoad | decide +kernel | with_reducible apply Act.Within.dyn | with_reducible apply within_ite | with_reducible apply Act.Within.seq | with_reducible apply within_seqs_cons | with_reducible apply within_seqs_nil | with_reducible intro _ | split | dsimp only

def ft_pauseFabric : Foot :=
  { flds := [.mem, .poison, .fresh, .fab .bay, .fab .slot, .fab .newSlot, .fab .site, .fab .credit, .fab .creditFly, .fab .wire, .fab .lastGrant, .fab .island, .cell .acell, .cell .acc, .cell .run16At, .cell .lane, .cell .laneBad, .cell .arrived, .cell .got, .cell .cout, .cell .scell, .cell .line, .exh .load, .exh .imgEntry, .exh .wdogWait, .mov .iq, .srv .srvSt, .srv .req, .srv .pfx, .srv .srvStep, .srv .svcPins, .que .pair, .que .intake, .que .cmd, .que .nextCmd, .que .scanner, .ten .tenant, .ten .slice, .ten .scanWord, .ten .scanBay, .ten .scanDir, .ten .scanWant, .out .sentFlits, .upd .updSt, .upd .updBegun, .upd .updManifest, .lnk .port, .lnk .lnkQ, .lnk .stream, .lnk .localFlits, .lnk .localLost], regs := [rDOC_IQ_CTL, rFAB_BAY_FENCE, rFAB_BAY_FORCE, rFAB_BAY_ON, rLNK_ERR, rLNK_NOTICE_CNT, rQUE_PAIR_CFG, rSRV_CTL, rSRV_ERR, rSRV_SVC_CFG, rTEN_ACC_LINK, rTEN_ACC_T1, rTEN_ACC_T2, rTEN_ACC_T3, rTEN_CTL, rTEN_RESET, rUPD_STAT] }

theorem w_pauseFabric : (pauseFabric).Within ft_pauseFabric := by
  unfold pauseFabric
  repeat' first | with_reducible apply Act.Within.nop | with_reducible apply Act.Within.mono (w_bayGone ..) | with_reducible apply Act.Within.mono (w_pauseLoad ..) | with_reducible apply Act.Within.mono (w_setFences ..) | with_reducible apply Act.Within.mono (w_settleRelease ..) | with_reducible apply Act.Within.mono (w_svcOff ..) | with_reducible apply within_each | with_reducible apply within_whenS | with_reducible apply within_setReg | with_reducible apply w_modSlice | (with_reducible apply within_upd; exact ⟨_, rfl, by decide +kernel⟩) | decide +kernel | with_reducible apply Act.Within.dyn | with_reducible apply within_ite | with_reducible apply Act.Within.seq | with_reducible apply within_seqs_cons | with_reducible apply within_seqs_nil | with_reducible intro _ | split | dsimp only

def ft_goSettings : Foot :=
  { flds := [.boot .flashAt, .boot .journal, .boot .jrnNext, .upd .updSt, .upd .updBegun, .upd .updManifest], regs := [rBOOT_FLASH, rUPD_STAT] }

theorem w_goSettings : (goSettings).Within ft_goSettings := by
  unfold goSettings
  repeat' first | with_reducible apply Act.Within.nop | with_reducible apply Act.Within.mono (w_appendJournal ..) | with_reducible apply Act.Within.mono (w_endSession ..) | decide +kernel | with_reducible apply Act.Within.dyn | with_reducible apply within_ite | with_reducible apply Act.Within.seq | with_reducible apply within_seqs_cons | with_reducible apply within_seqs_nil | with_reducible intro _ | split | dsimp only

def ft_goFirmware : Foot :=
  { flds := [.mem, .poison, .fresh, .fab .bay, .fab .slot, .fab .newSlot, .fab .site, .fab .credit, .fab .creditFly, .fab .wire, .fab .lastGrant, .fab .island, .cell .acell, .cell .acc, .cell .run16At, .cell .lane, .cell .laneBad, .cell .arrived, .cell .got, .cell .cout, .cell .scell, .cell .line, .exh .load, .exh .imgEntry, .exh .wdogWait, .mov .iq, .srv .srvSt, .srv .req, .srv .pfx, .srv .srvStep, .srv .svcPins, .que .pair, .que .intake, .que .cmd, .que .nextCmd, .que .scanner, .ten .tenant, .ten .slice, .ten .scanWord, .ten .scanBay, .ten .scanDir, .ten .scanWant, .out .sentFlits, .boot .flashAt, .boot .journal, .boot .jrnNext, .upd .updSt, .upd .updBegun, .upd .updManifest, .upd .updGoAt, .lnk .port, .lnk .lnkQ, .lnk .pausedBundles, .lnk .stream, .lnk .localFlits, .lnk .localLost], regs := [rBOOT_FLASH, rDOC_IQ_CTL, rFAB_BAY_FENCE, rFAB_BAY_FORCE, rFAB_BAY_ON, rLNK_ERR, rLNK_NOTICE_CNT, rQUE_PAIR_CFG, rSRV_CTL, rSRV_ERR, rSRV_SVC_CFG, rTEN_ACC_LINK, rTEN_ACC_T1, rTEN_ACC_T2, rTEN_ACC_T3, rTEN_CTL, rTEN_RESET, rUPD_PAUSE, rUPD_STAT] }

theorem w_goFirmware : (goFirmware).Within ft_goFirmware := by
  unfold goFirmware
  repeat' first | with_reducible apply Act.Within.nop | with_reducible apply Act.Within.mono (w_appendJournal ..) | with_reducible apply Act.Within.mono (w_pauseFabric ..) | with_reducible apply Act.Within.mono (w_tellRates ..) | with_reducible apply within_addFld | (with_reducible apply within_upd; exact ⟨_, rfl, by decide +kernel⟩) | decide +kernel | with_reducible apply Act.Within.dyn | with_reducible apply within_ite | with_reducible apply Act.Within.seq | with_reducible apply within_seqs_cons | with_reducible apply within_seqs_nil | with_reducible intro _ | split | dsimp only

def ft_updGoA : Foot :=
  { flds := [.mem, .poison, .fresh, .fab .bay, .fab .slot, .fab .newSlot, .fab .site, .fab .credit, .fab .creditFly, .fab .wire, .fab .lastGrant, .fab .island, .cell .acell, .cell .acc, .cell .run16At, .cell .lane, .cell .laneBad, .cell .arrived, .cell .got, .cell .cout, .cell .scell, .cell .line, .exh .load, .exh .imgEntry, .exh .wdogWait, .mov .iq, .srv .srvSt, .srv .req, .srv .pfx, .srv .srvStep, .srv .svcPins, .que .pair, .que .intake, .que .cmd, .que .nextCmd, .que .scanner, .ten .tenant, .ten .slice, .ten .scanWord, .ten .scanBay, .ten .scanDir, .ten .scanWant, .log .logWr, .log .logLost, .log .logIntake, .log .ibiHold, .log .ibiWait, .out .ibis, .out .sentFlits, .boot .flashAt, .boot .journal, .boot .jrnNext, .upd .updSt, .upd .updBegun, .upd .updManifest, .upd .updGoAt, .lnk .port, .lnk .lnkQ, .lnk .pausedBundles, .lnk .stream, .lnk .localFlits, .lnk .localLost], regs := [rBOOT_FLASH, rDOC_IQ_CTL, rFAB_BAY_FENCE, rFAB_BAY_FORCE, rFAB_BAY_ON, rINT_CNT, rLNK_ERR, rLNK_NOTICE_CNT, rQUE_PAIR_CFG, rSRV_CTL, rSRV_ERR, rSRV_SVC_CFG, rTEN_ACC_LINK, rTEN_ACC_T1, rTEN_ACC_T2, rTEN_ACC_T3, rTEN_CTL, rTEN_RESET, rUPD_ERR, rUPD_PAUSE, rUPD_STAT] }

theorem w_updGoA : (updGoA).Within ft_updGoA := by
  unfold updGoA
  repeat' first | with_reducible apply Act.Within.nop | with_reducible apply Act.Within.mono (w_goFirmware ..) | with_reducible apply Act.Within.mono (w_goSettings ..) | with_reducible apply w_incA | with_reducible apply within_setFld | decide +kernel | exact errOk_none _ _ | exact errOk_any (by decide +kernel) | with_reducible apply Act.Within.dyn | with_reducible apply within_ite | with_reducible apply Act.Within.seq | with_reducible apply within_seqs_cons | with_reducible apply within_seqs_nil | with_reducible intro _ | split | dsimp only

def ft_showFirmware : Foot :=
  { flds := [], regs := [rBOOT_FW, rBOOT_STAT] }

theorem w_showFirmware (t : Nat) : (showFirmware t).Within ft_showFirmware := by
  unfold showFirmware
  repeat' first | with_reducible apply Act.Within.nop | with_reducible apply within_setFld | with_reducible apply within_setReg | decide +kernel | with_reducible apply Act.Within.dyn | with_reducible apply within_ite | with_reducible apply Act.Within.seq | with_reducible apply within_seqs_cons | with_reducible apply within_seqs_nil | with_reducible intro _ | split | dsimp only

def ft_endPause : Foot :=
  { flds := [.out .sentFlits, .upd .updSt, .lnk .port, .lnk .pausedBundles], regs := [rUPD_PAUSE] }

theorem w_endPause (st : UpdState) : (endPause st).Within ft_endPause := by
  unfold endPause
  repeat' first | with_reducible apply Act.Within.nop | with_reducible apply Act.Within.mono (w_tellRates ..) | with_reducible apply within_setFld | (with_reducible apply within_upd; exact ⟨_, rfl, by decide +kernel⟩) | decide +kernel | with_reducible apply Act.Within.dyn | with_reducible apply within_ite | with_reducible apply Act.Within.seq | with_reducible apply within_seqs_cons | with_reducible apply within_seqs_nil | with_reducible intro _ | split | dsimp only

def ft_partsReadyA : Foot :=
  { flds := [.out .sentFlits, .upd .updSt, .lnk .port, .lnk .pausedBundles], regs := [rBOOT_FW, rBOOT_STAT, rUPD_PAUSE] }

theorem w_partsReadyA : (partsReadyA).Within ft_partsReadyA := by
  unfold partsReadyA
  repeat' first | with_reducible apply Act.Within.nop | with_reducible apply Act.Within.mono (w_endPause ..) | with_reducible apply Act.Within.mono (w_showFirmware ..) | with_reducible apply within_setFld | decide +kernel | with_reducible apply Act.Within.dyn | with_reducible apply within_ite | with_reducible apply Act.Within.seq | with_reducible apply within_seqs_cons | with_reducible apply within_seqs_nil | with_reducible intro _ | split | dsimp only

def ft_revertA : Foot :=
  { flds := [.log .logWr, .log .logLost, .log .logIntake, .log .ibiHold, .log .ibiWait, .out .ibis, .out .sentFlits, .boot .flashAt, .boot .journal, .boot .jrnNext, .upd .updSt, .upd .updBegun, .upd .updManifest, .lnk .port, .lnk .pausedBundles], regs := [rBOOT_FLASH, rINT_CNT, rUPD_ERR, rUPD_PAUSE, rUPD_STAT] }

theorem w_revertA : (revertA).Within ft_revertA := by
  unfold revertA
  repeat' first | with_reducible apply Act.Within.nop | with_reducible apply Act.Within.mono (w_appendJournal ..) | with_reducible apply Act.Within.mono (w_endPause ..) | with_reducible apply Act.Within.mono (w_endSession ..) | with_reducible apply w_incA | with_reducible apply within_addFld | with_reducible apply within_setFld | decide +kernel | exact errOk_none _ _ | exact errOk_any (by decide +kernel) | with_reducible apply Act.Within.dyn | with_reducible apply within_ite | with_reducible apply Act.Within.seq | with_reducible apply within_seqs_cons | with_reducible apply within_seqs_nil | with_reducible intro _ | split | dsimp only

def ft_settleFloor : Foot :=
  { flds := [], regs := [rPWR_GUAR] }

theorem w_settleFloor : (settleFloor).Within ft_settleFloor := by
  unfold settleFloor
  repeat' first | with_reducible apply Act.Within.nop | with_reducible apply within_setFld | decide +kernel | with_reducible apply Act.Within.dyn | with_reducible apply within_ite | with_reducible apply Act.Within.seq | with_reducible apply within_seqs_cons | with_reducible apply within_seqs_nil | with_reducible intro _ | split | dsimp only

def ft_settleForced : Foot :=
  { flds := [.srv .req, .log .logWr, .log .logLost, .log .logIntake, .log .ibiHold, .log .ibiWait, .out .ibis], regs := [rINT_CNT, rPWR_ERR, rPWR_GUAR, rSRV_ADMIT_CTL] }

theorem w_settleForced : (settleForced).Within ft_settleForced := by
  unfold settleForced
  repeat' first | with_reducible apply Act.Within.nop | with_reducible apply Act.Within.mono (w_guaranteeSuspend ..) | with_reducible apply w_incA | with_reducible refine within_when' ?_ | with_reducible apply within_addFld | with_reducible apply within_setFld | decide +kernel | exact errOk_none _ _ | exact errOk_any (by decide +kernel) | with_reducible apply Act.Within.dyn | with_reducible apply within_ite | with_reducible apply Act.Within.seq | with_reducible apply within_seqs_cons | with_reducible apply within_seqs_nil | with_reducible intro _ | split | dsimp only

def ft_setCeiling : Foot :=
  { flds := [.fab .island], regs := [rPWR_CAP] }

theorem w_setCeiling (c : Nat) : (setCeiling c).Within ft_setCeiling := by
  unfold setCeiling
  repeat' first | with_reducible apply Act.Within.nop | with_reducible apply within_each | with_reducible apply within_setFld | with_reducible apply w_modIsland | decide +kernel | with_reducible apply Act.Within.dyn | with_reducible apply within_ite | with_reducible apply Act.Within.seq | with_reducible apply within_seqs_cons | with_reducible apply within_seqs_nil | with_reducible intro _ | split | dsimp only

def ft_applyBrake : Foot :=
  { flds := [.fab .island], regs := [rPWR_ERR] }

theorem w_applyBrake : (applyBrake).Within ft_applyBrake := by
  unfold applyBrake
  repeat' first | with_reducible apply Act.Within.nop | with_reducible apply w_setErr | with_reducible apply within_each | with_reducible refine within_when' ?_ | with_reducible apply w_modIsland | decide +kernel | exact errOk_none _ _ | exact errOk_any (by decide +kernel) | with_reducible apply Act.Within.dyn | with_reducible apply within_ite | with_reducible apply Act.Within.seq | with_reducible apply within_seqs_cons | with_reducible apply within_seqs_nil | with_reducible intro _ | split | dsimp only

def ft_railSettledA : Foot :=
  { flds := [.fab .island, .srv .req, .log .logWr, .log .logLost, .log .logIntake, .log .ibiHold, .log .ibiWait, .out .ibis], regs := [rINT_CNT, rPWR_ERR, rPWR_GUAR, rSRV_ADMIT_CTL] }

theorem w_railSettledA (bay : Fin 16) : (railSettledA bay).Within ft_railSettledA := by
  unfold railSettledA
  repeat' first | with_reducible apply Act.Within.nop | with_reducible apply Act.Within.mono (w_settleForced ..) | with_reducible apply within_each | with_reducible apply w_modIsland | decide +kernel | with_reducible apply Act.Within.dyn | with_reducible apply within_ite | with_reducible apply Act.Within.seq | with_reducible apply within_seqs_cons | with_reducible apply within_seqs_nil | with_reducible intro _ | split | dsimp only

def ft_chargeEnergy : Foot :=
  { flds := [], regs := [rPWR_ENERGY, rTEN_ACC_COMMON, rTEN_ACC_MJ] }

theorem w_chargeEnergy (m : PowerMeas) : (chargeEnergy m).Within ft_chargeEnergy := by
  unfold chargeEnergy
  repeat' first | with_reducible apply Act.Within.nop | with_reducible apply within_each | with_reducible apply within_addFld | decide +kernel | with_reducible apply Act.Within.dyn | with_reducible apply within_ite | with_reducible apply Act.Within.seq | with_reducible apply within_seqs_cons | with_reducible apply within_seqs_nil | with_reducible intro _ | split | dsimp only

def ft_vinLeft : Foot :=
  { flds := [.boot .bootCause], regs := [] }

theorem w_vinLeft : (vinLeft).Within ft_vinLeft := by
  unfold vinLeft
  repeat' first | with_reducible apply Act.Within.nop | with_reducible refine within_when' ?_ | (with_reducible apply within_upd; exact ⟨_, rfl, by decide +kernel⟩) | decide +kernel | with_reducible apply Act.Within.dyn | with_reducible apply within_ite | with_reducible apply Act.Within.seq | with_reducible apply within_seqs_cons | with_reducible apply within_seqs_nil | with_reducible intro _ | split | dsimp only

def ft_capPeriodA : Foot :=
  { flds := [.fab .island, .srv .req, .log .logWr, .log .logLost, .log .logIntake, .log .ibiHold, .log .ibiWait, .out .ibis, .pwr .capOver, .pwr .capUnder, .boot .bootCause], regs := [rINT_CNT, rPWR_CAP, rPWR_ENERGY, rPWR_ERR, rPWR_GUAR, rPWR_IN, rPWR_PEAK, rSRV_ADMIT_CTL, rTEN_ACC_COMMON, rTEN_ACC_MJ] }

theorem w_capPeriodA (m : PowerMeas) : (capPeriodA m).Within ft_capPeriodA := by
  unfold capPeriodA
  repeat' first | with_reducible apply Act.Within.nop | with_reducible apply Act.Within.mono (w_chargeEnergy ..) | with_reducible apply Act.Within.mono (w_setCeiling ..) | with_reducible apply Act.Within.mono (w_settleFloor ..) | with_reducible apply Act.Within.mono (w_settleForced ..) | with_reducible apply Act.Within.mono (w_vinLeft ..) | with_reducible refine within_when' ?_ | with_reducible apply within_setFld | with_reducible apply within_setReg | (with_reducible apply within_upd; exact ⟨_, rfl, by decide +kernel⟩) | decide +kernel | with_reducible apply Act.Within.dyn | with_reducible apply within_ite | with_reducible apply Act.Within.seq | with_reducible apply within_seqs_cons | with_reducible apply within_seqs_nil | with_reducible intro _ | split | dsimp only

theorem w_clamped {p : Foot} (lo hi v : Nat) {f : Nat → Act}
    (h : Foot.le { flds := footLog.flds, regs := [rINT_CNT, rPWR_ERR] } p = true) (hf : ∀ x, (f x).Within p) :
    (clamped lo hi v f).Within p :=
  .seq (hf _) (within_when' ((w_incA blkPWR 0 0 (p := { flds := footLog.flds, regs := [rINT_CNT, rPWR_ERR] })
    (by decide +kernel) (by decide +kernel)).mono h))

def ft_writeTarget : Foot :=
  { flds := [.log .logWr, .log .logLost, .log .logIntake, .log .ibiHold, .log .ibiWait, .out .ibis], regs := [rINT_CNT, rPWR_CAP, rPWR_ERR] }

theorem w_writeTarget (v : Nat) : (writeTarget v).Within ft_writeTarget := by
  unfold writeTarget
  repeat' first | with_reducible apply Act.Within.nop | with_reducible apply w_clamped | with_reducible apply within_setFld | decide +kernel | with_reducible apply Act.Within.dyn | with_reducible apply within_ite | with_reducible apply Act.Within.seq | with_reducible apply within_seqs_cons | with_reducible apply within_seqs_nil | with_reducible intro _ | split | dsimp only

def ft_computeBrake : Foot :=
  { flds := [], regs := [rPWR_BRAKE] }

theorem w_computeBrake : (computeBrake).Within ft_computeBrake := by
  unfold computeBrake
  repeat' first | with_reducible apply Act.Within.nop | with_reducible apply within_setFld | decide +kernel | with_reducible apply Act.Within.dyn | with_reducible apply within_ite | with_reducible apply Act.Within.seq | with_reducible apply within_seqs_cons | with_reducible apply within_seqs_nil | with_reducible intro _ | split | dsimp only

def ft_writeLevel : Foot :=
  { flds := [.fab .island, .srv .req, .log .logWr, .log .logLost, .log .logIntake, .log .ibiHold, .log .ibiWait, .out .ibis], regs := [rINT_CNT, rPWR_BRAKE, rPWR_ERR, rPWR_GUAR, rSRV_ADMIT_CTL] }

theorem w_writeLevel (v : Nat) : (writeLevel v).Within ft_writeLevel := by
  unfold writeLevel
  repeat' first | with_reducible apply Act.Within.nop | with_reducible apply Act.Within.mono (w_applyBrake ..) | with_reducible apply w_clamped | with_reducible apply Act.Within.mono (w_computeBrake ..) | with_reducible apply Act.Within.mono (w_settleForced ..) | with_reducible apply within_setFld | decide +kernel | with_reducible apply Act.Within.dyn | with_reducible apply within_ite | with_reducible apply Act.Within.seq | with_reducible apply within_seqs_cons | with_reducible apply within_seqs_nil | with_reducible intro _ | split | dsimp only

theorem w_brakeOn : (brakeOn).Within ft_writeLevel := by
  unfold brakeOn
  repeat' first | with_reducible apply Act.Within.nop | with_reducible apply Act.Within.mono (w_applyBrake ..) | with_reducible apply w_incA | with_reducible apply Act.Within.mono (w_settleForced ..) | with_reducible apply within_whenS | with_reducible apply within_addFld | with_reducible apply within_setFld | decide +kernel | exact errOk_none _ _ | exact errOk_any (by decide +kernel) | with_reducible apply Act.Within.dyn | with_reducible apply within_ite | with_reducible apply Act.Within.seq | with_reducible apply within_seqs_cons | with_reducible apply within_seqs_nil | with_reducible intro _ | split | dsimp only

def ft_brakeOff : Foot :=
  { flds := [.fab .island, .srv .req, .log .logWr, .log .logLost, .log .logIntake, .log .ibiHold, .log .ibiWait, .out .ibis, .pwr .capOver, .pwr .capUnder], regs := [rINT_CNT, rPWR_BRAKE, rPWR_CAP, rPWR_ERR, rPWR_GUAR, rSRV_ADMIT_CTL] }

theorem w_brakeOff : (brakeOff).Within ft_brakeOff := by
  unfold brakeOff
  repeat' first | with_reducible apply Act.Within.nop | with_reducible apply Act.Within.mono (w_setCeiling ..) | with_reducible apply Act.Within.mono (w_settleForced ..) | with_reducible refine within_when' ?_ | with_reducible apply within_setFld | (with_reducible apply within_upd; exact ⟨_, rfl, by decide +kernel⟩) | decide +kernel | with_reducible apply Act.Within.dyn | with_reducible apply within_ite | with_reducible apply Act.Within.seq | with_reducible apply within_seqs_cons | with_reducible apply within_seqs_nil | with_reducible intro _ | split | dsimp only

theorem w_writeGuarantee (v : Nat) : (writeGuarantee v).Within ft_settleForced := by
  unfold writeGuarantee
  repeat' first | with_reducible apply Act.Within.nop | with_reducible apply w_clamped | with_reducible apply Act.Within.mono (w_settleFloor ..) | with_reducible apply Act.Within.mono (w_settleForced ..) | with_reducible apply within_each | with_reducible refine within_when' ?_ | with_reducible apply within_setFld | with_reducible apply w_modReq | decide +kernel | with_reducible apply Act.Within.dyn | with_reducible apply within_ite | with_reducible apply Act.Within.seq | with_reducible apply within_seqs_cons | with_reducible apply within_seqs_nil | with_reducible intro _ | split | dsimp only

def ft_showHot : Foot :=
  { flds := [.fresh], regs := [rPWR_THERM] }

theorem w_showHot : (showHot).Within ft_showHot := by
  unfold showHot
  repeat' first | with_reducible apply Act.Within.nop | with_reducible apply within_withFresh | with_reducible apply within_setFld | decide +kernel | with_reducible apply Act.Within.dyn | with_reducible apply within_ite | with_reducible apply Act.Within.seq | with_reducible apply within_seqs_cons | with_reducible apply within_seqs_nil | with_reducible intro _ | split | dsimp only

def ft_throttle : Foot :=
  { flds := [.fab .island, .log .logWr, .log .logLost, .log .logIntake, .log .ibiHold, .log .ibiWait, .out .ibis, .pwr .thermAt], regs := [rINT_CNT, rPWR_ERR] }

theorem w_throttle (i : Nat) : (throttle i).Within ft_throttle := by
  unfold throttle
  repeat' first | with_reducible apply Act.Within.nop | with_reducible apply w_incA | with_reducible refine within_when' ?_ | with_reducible apply w_modIsland | (with_reducible apply within_upd; exact ⟨_, rfl, by decide +kernel⟩) | decide +kernel | exact errOk_none _ _ | exact errOk_any (by decide +kernel) | with_reducible apply Act.Within.dyn | with_reducible apply within_ite | with_reducible apply Act.Within.seq | with_reducible apply within_seqs_cons | with_reducible apply within_seqs_nil | with_reducible intro _ | split | dsimp only

theorem w_moveTherm (i c : Nat) : (moveTherm i c).Within ft_throttle := by
  unfold moveTherm
  repeat' first | with_reducible apply Act.Within.nop | with_reducible apply Act.Within.mono (w_throttle ..) | with_reducible apply w_modIsland | (with_reducible apply within_upd; exact ⟨_, rfl, by decide +kernel⟩) | decide +kernel | with_reducible apply Act.Within.dyn | with_reducible apply within_ite | with_reducible apply Act.Within.seq | with_reducible apply within_seqs_cons | with_reducible apply within_seqs_nil | with_reducible intro _ | split | dsimp only

def ft_tripCheck : Foot :=
  { flds := [.fresh, .fab .bay, .fab .slot, .fab .newSlot, .fab .site, .fab .credit, .fab .creditFly, .fab .wire, .fab .lastGrant, .fab .island, .cell .acell, .cell .acc, .cell .run16At, .cell .lane, .cell .laneBad, .cell .arrived, .cell .got, .cell .cout, .cell .scell, .cell .line, .exh .load, .exh .wdogWait, .mov .move, .ten .tenant, .ten .slice, .int .haltCause, .log .logWr, .log .logLost, .log .logIntake, .log .ibiHold, .log .ibiWait, .out .ibis, .out .sentFlits, .pwr .hotSince, .lnk .port, .lnk .lnkQ, .lnk .localLost], regs := [rFAB_BAY_FENCE, rFAB_BAY_FORCE, rFAB_BAY_ON, rINT_CNT, rINT_ERR, rLNK_ERR, rLNK_NOTICE_CNT] }

theorem w_tripCheck (src c : Nat) : (tripCheck src c).Within ft_tripCheck := by
  unfold tripCheck
  repeat' first | with_reducible apply Act.Within.nop | with_reducible apply Act.Within.mono (w_haltLogged ..) | with_reducible refine within_when' ?_ | (with_reducible apply within_upd; exact ⟨_, rfl, by decide +kernel⟩) | decide +kernel | with_reducible apply Act.Within.dyn | with_reducible apply within_ite | with_reducible apply Act.Within.seq | with_reducible apply within_seqs_cons | with_reducible apply within_seqs_nil | with_reducible intro _ | split | dsimp only

def ft_sensorReadA : Foot :=
  { flds := [.fresh, .fab .bay, .fab .slot, .fab .newSlot, .fab .site, .fab .credit, .fab .creditFly, .fab .wire, .fab .lastGrant, .fab .island, .cell .acell, .cell .acc, .cell .run16At, .cell .lane, .cell .laneBad, .cell .arrived, .cell .got, .cell .cout, .cell .scell, .cell .line, .exh .load, .exh .wdogWait, .mov .move, .srv .req, .ten .tenant, .ten .slice, .int .haltCause, .log .logWr, .log .logLost, .log .logIntake, .log .ibiHold, .log .ibiWait, .out .ibis, .out .sentFlits, .out .thermAlert, .pwr .temp, .pwr .hotSince, .pwr .thermAt, .lnk .port, .lnk .lnkQ, .lnk .localLost], regs := [rFAB_BAY_FENCE, rFAB_BAY_FORCE, rFAB_BAY_ON, rINT_CNT, rINT_ERR, rLNK_ERR, rLNK_NOTICE_CNT, rPWR_ERR, rPWR_GUAR, rPWR_THERM, rSRV_ADMIT_CTL] }

theorem w_sensorReadA (src c : Nat) : (sensorReadA src c).Within ft_sensorReadA := by
  unfold sensorReadA
  repeat' first | with_reducible apply Act.Within.nop | with_reducible apply Act.Within.mono (w_moveTherm ..) | with_reducible apply Act.Within.mono (w_settleForced ..) | with_reducible apply Act.Within.mono (w_showHot ..) | with_reducible apply Act.Within.mono (w_tripCheck ..) | with_reducible refine within_when' ?_ | (with_reducible apply within_upd; exact ⟨_, rfl, by decide +kernel⟩) | decide +kernel | with_reducible apply Act.Within.dyn | with_reducible apply within_ite | with_reducible apply Act.Within.seq | with_reducible apply within_seqs_cons | with_reducible apply within_seqs_nil | with_reducible intro _ | split | dsimp only

def ft_nwBegin : Foot :=
  { flds := [.fab .bay, .fab .slot, .fab .newSlot, .fab .site, .fab .credit, .fab .creditFly, .fab .wire, .fab .lastGrant, .fab .island, .cell .acell, .cell .acc, .cell .run16At, .cell .lane, .cell .laneBad, .cell .arrived, .cell .got, .cell .cout, .cell .scell, .cell .line, .exh .load, .exh .wdogWait, .ten .tenant, .ten .slice, .log .logWr, .log .logLost, .log .logIntake, .log .ibiHold, .log .ibiWait, .out .ibis, .out .sentFlits, .pwr .nwSt, .lnk .port, .lnk .pausedBundles], regs := [rFAB_BAY_FENCE, rFAB_BAY_FORCE, rFAB_BAY_ON, rINT_CNT, rPWR_ERR, rPWR_NW] }

theorem w_nwBegin : (nwBegin).Within ft_nwBegin := by
  unfold nwBegin
  repeat' first | with_reducible apply Act.Within.nop | with_reducible apply Act.Within.mono (w_bayGone ..) | with_reducible apply w_incA | with_reducible apply Act.Within.mono (w_tellRates ..) | with_reducible apply within_each | with_reducible apply within_setFld | with_reducible apply within_setReg | (with_reducible apply within_upd; exact ⟨_, rfl, by decide +kernel⟩) | decide +kernel | exact errOk_none _ _ | exact errOk_any (by decide +kernel) | with_reducible apply Act.Within.dyn | with_reducible apply within_ite | with_reducible apply Act.Within.seq | with_reducible apply within_seqs_cons | with_reducible apply within_seqs_nil | with_reducible intro _ | split | dsimp only

theorem w_nwEnterA : (nwEnterA).Within ft_nwBegin := by
  unfold nwEnterA
  repeat' first | with_reducible apply Act.Within.nop | with_reducible apply Act.Within.mono (w_nwBegin ..) | with_reducible apply within_setFld | decide +kernel | with_reducible apply Act.Within.dyn | with_reducible apply within_ite | with_reducible apply Act.Within.seq | with_reducible apply within_seqs_cons | with_reducible apply within_seqs_nil | with_reducible intro _ | split | dsimp only

def ft_nwWake : Foot :=
  { flds := [.fab .bay, .log .logWr, .log .logLost, .log .logIntake, .log .ibiHold, .log .ibiWait, .out .ibis, .pwr .nwSt], regs := [rFAB_BAY_ON, rINT_CNT] }

theorem w_nwWake : (nwWake).Within ft_nwWake := by
  unfold nwWake
  repeat' first | with_reducible apply Act.Within.nop | with_reducible apply Act.Within.mono (w_bayOnA ..) | with_reducible apply within_each | (with_reducible apply within_upd; exact ⟨_, rfl, by decide +kernel⟩) | decide +kernel | with_reducible apply Act.Within.dyn | with_reducible apply within_ite | with_reducible apply Act.Within.seq | with_reducible apply within_seqs_cons | with_reducible apply within_seqs_nil | with_reducible intro _ | split | dsimp only

def ft_nwExitA : Foot :=
  { flds := [.fab .bay, .log .logWr, .log .logLost, .log .logIntake, .log .ibiHold, .log .ibiWait, .out .ibis, .pwr .nwSt], regs := [rFAB_BAY_ON, rINT_CNT, rPWR_NW] }

theorem w_nwExitA : (nwExitA).Within ft_nwExitA := by
  unfold nwExitA
  repeat' first | with_reducible apply Act.Within.nop | with_reducible apply Act.Within.mono (w_nwWake ..) | with_reducible apply within_setFld | decide +kernel | with_reducible apply Act.Within.dyn | with_reducible apply within_ite | with_reducible apply Act.Within.seq | with_reducible apply within_seqs_cons | with_reducible apply within_seqs_nil | with_reducible intro _ | split | dsimp only

theorem w_nwEnteredA : (nwEnteredA).Within ft_nwExitA := by
  unfold nwEnteredA
  repeat' first | with_reducible apply Act.Within.nop | with_reducible apply Act.Within.mono (w_nwWake ..) | with_reducible refine within_when' ?_ | with_reducible apply within_setFld | (with_reducible apply within_upd; exact ⟨_, rfl, by decide +kernel⟩) | decide +kernel | with_reducible apply Act.Within.dyn | with_reducible apply within_ite | with_reducible apply Act.Within.seq | with_reducible apply within_seqs_cons | with_reducible apply within_seqs_nil | with_reducible intro _ | split | dsimp only

def ft_nwLeftA : Foot :=
  { flds := [.fresh, .fab .bay, .fab .slot, .fab .newSlot, .fab .site, .fab .credit, .fab .creditFly, .fab .wire, .fab .lastGrant, .fab .island, .cell .acell, .cell .acc, .cell .run16At, .cell .lane, .cell .laneBad, .cell .arrived, .cell .got, .cell .cout, .cell .scell, .cell .line, .exh .load, .exh .wdogWait, .ten .tenant, .ten .slice, .log .logWr, .log .logLost, .log .logIntake, .log .ibiHold, .log .ibiWait, .out .ibis, .out .sentFlits, .pwr .nwSt, .lnk .port, .lnk .lnkQ, .lnk .pausedBundles, .lnk .localLost], regs := [rFAB_BAY_FENCE, rFAB_BAY_FORCE, rFAB_BAY_ON, rINT_CNT, rLNK_ERR, rLNK_NOTICE_CNT, rPWR_ERR, rPWR_NW] }

theorem w_nwLeftA : (nwLeftA).Within ft_nwLeftA := by
  unfold nwLeftA
  repeat' first | with_reducible apply Act.Within.nop | with_reducible apply Act.Within.mono (w_nwBegin ..) | with_reducible apply Act.Within.mono (w_pump ..) | with_reducible apply Act.Within.mono (w_tellRates ..) | with_reducible refine within_when' ?_ | with_reducible apply within_setFld | (with_reducible apply within_upd; exact ⟨_, rfl, by decide +kernel⟩) | decide +kernel | with_reducible apply Act.Within.dyn | with_reducible apply within_ite | with_reducible apply Act.Within.seq | with_reducible apply within_seqs_cons | with_reducible apply within_seqs_nil | with_reducible intro _ | split | dsimp only

theorem w_recordCause (c : Nat) : (recordCause c).Within ft_vinLeft := by
  unfold recordCause
  repeat' first | with_reducible apply Act.Within.nop | with_reducible refine within_when' ?_ | (with_reducible apply within_upd; exact ⟨_, rfl, by decide +kernel⟩) | decide +kernel | with_reducible apply Act.Within.dyn | with_reducible apply within_ite | with_reducible apply Act.Within.seq | with_reducible apply within_seqs_cons | with_reducible apply within_seqs_nil | with_reducible intro _ | split | dsimp only

def ft_exhaust : Foot :=
  { flds := [], regs := [rSEC_ERR, rSEC_IDX] }

theorem w_exhaust : (exhaust).Within ft_exhaust := by
  unfold exhaust
  repeat' first | with_reducible apply Act.Within.nop | with_reducible apply w_setErr | with_reducible apply within_setFld | decide +kernel | exact errOk_none _ _ | exact errOk_any (by decide +kernel) | with_reducible apply Act.Within.dyn | with_reducible apply within_ite | with_reducible apply Act.Within.seq | with_reducible apply within_seqs_cons | with_reducible apply within_seqs_nil | with_reducible intro _ | split | dsimp only

def ft_startReserve : Foot :=
  { flds := [.sec .idxTried], regs := [rSEC_ERR, rSEC_IDX] }

theorem w_startReserve : (startReserve).Within ft_startReserve := by
  unfold startReserve
  repeat' first | with_reducible apply Act.Within.nop | with_reducible apply Act.Within.mono (w_exhaust ..) | with_reducible apply within_setFld | (with_reducible apply within_upd; exact ⟨_, rfl, by decide +kernel⟩) | decide +kernel | with_reducible apply Act.Within.dyn | with_reducible apply within_ite | with_reducible apply Act.Within.seq | with_reducible apply within_seqs_cons | with_reducible apply within_seqs_nil | with_reducible intro _ | split | dsimp only

theorem w_eraseOldest : (eraseOldest).Within ft_putFlash := by
  unfold eraseOldest
  repeat' first | with_reducible apply Act.Within.nop | with_reducible apply Act.Within.mono (w_eraseFlash ..) | with_reducible refine within_when' ?_ | decide +kernel | with_reducible apply Act.Within.dyn | with_reducible apply within_ite | with_reducible apply Act.Within.seq | with_reducible apply within_seqs_cons | with_reducible apply within_seqs_nil | with_reducible intro _ | split | dsimp only

def ft_reserveTry : Foot :=
  { flds := [.fresh, .boot .flashAt, .sec .treeHeld, .sec .idxTried], regs := [rBOOT_ERR, rBOOT_FLASH, rSEC_ERR, rSEC_IDX] }

theorem w_reserveTry (ok slow : Bool) : (reserveTry ok slow).Within ft_reserveTry := by
  unfold reserveTry
  repeat' first | with_reducible apply Act.Within.nop | with_reducible apply Act.Within.mono (w_eraseFlash ..) | with_reducible apply Act.Within.mono (w_exhaust ..) | with_reducible apply Act.Within.mono (w_programFlash ..) | with_reducible apply w_setErr | with_reducible apply Act.Within.mono (w_spoilFlash ..) | with_reducible refine within_when' ?_ | with_reducible apply within_addFld | with_reducible apply within_setFld | (with_reducible apply within_upd; exact ⟨_, rfl, by decide +kernel⟩) | decide +kernel | exact errOk_none _ _ | exact errOk_any (by decide +kernel) | with_reducible apply Act.Within.dyn | with_reducible apply within_ite | with_reducible apply Act.Within.seq | with_reducible apply within_seqs_cons | with_reducible apply within_seqs_nil | with_reducible intro _ | split | dsimp only

def ft_attDone : Foot :=
  { flds := [.mem, .poison, .sec .attBuf, .sec .attBufSt], regs := [rSEC_ATT_CTL] }

theorem w_attDone (r : AttReq) (bs : List Byte) : (attDone r bs).Within ft_attDone := by
  unfold attDone
  repeat' first | with_reducible apply Act.Within.nop | with_reducible apply Act.Within.mono (w_markBad ..) | with_reducible apply within_writeBytes | with_reducible apply within_setFld | (with_reducible apply within_upd; exact ⟨_, rfl, by decide +kernel⟩) | decide +kernel | with_reducible apply Act.Within.dyn | with_reducible apply within_ite | with_reducible apply Act.Within.seq | with_reducible apply within_seqs_cons | with_reducible apply within_seqs_nil | with_reducible intro _ | split | dsimp only

def ft_attFail : Foot :=
  { flds := [.sec .attBufSt], regs := [rSEC_ATT_CTL] }

theorem w_attFail (r : AttReq) (result : Nat) : (attFail r result).Within ft_attFail := by
  unfold attFail
  repeat' first | with_reducible apply Act.Within.nop | with_reducible apply within_setFld | (with_reducible apply within_upd; exact ⟨_, rfl, by decide +kernel⟩) | decide +kernel | with_reducible apply Act.Within.dyn | with_reducible apply within_ite | with_reducible apply Act.Within.seq | with_reducible apply within_seqs_cons | with_reducible apply within_seqs_nil | with_reducible intro _ | split | dsimp only

def ft_attServe : Foot :=
  { flds := [.mem, .poison, .sec .idxTried, .sec .attBuf, .sec .attBufSt], regs := [rSEC_ATT_CTL, rSEC_ERR, rSEC_IDX] }

theorem w_attServe (r : AttReq) : (attServe r).Within ft_attServe := by
  unfold attServe
  repeat' first | with_reducible apply Act.Within.nop | with_reducible apply Act.Within.mono (w_attDone ..) | with_reducible apply Act.Within.mono (w_startReserve ..) | with_reducible refine within_when' ?_ | with_reducible apply within_setFld | decide +kernel | with_reducible apply Act.Within.dyn | with_reducible apply within_ite | with_reducible apply Act.Within.seq | with_reducible apply within_seqs_cons | with_reducible apply within_seqs_nil | with_reducible intro _ | split | dsimp only

def ft_attNext : Foot :=
  { flds := [.mem, .poison, .sec .idxTried, .sec .attQ, .sec .attBuf, .sec .attBufSt], regs := [rSEC_ATT_CTL, rSEC_ERR, rSEC_IDX] }

theorem w_attNext (result : Nat) : (attNext result).Within ft_attNext := by
  unfold attNext
  repeat' first | with_reducible apply Act.Within.nop | with_reducible apply Act.Within.mono (w_attFail ..) | with_reducible apply Act.Within.mono (w_attServe ..) | with_reducible apply Act.Within.mono (w_startReserve ..) | with_reducible apply within_whenS | (with_reducible apply within_upd; exact ⟨_, rfl, by decide +kernel⟩) | decide +kernel | with_reducible apply Act.Within.dyn | with_reducible apply within_ite | with_reducible apply Act.Within.seq | with_reducible apply within_seqs_cons | with_reducible apply within_seqs_nil | with_reducible intro _ | split | dsimp only

theorem w_attPump (result : Nat) : (attPump result).Within ft_attNext := by
  unfold attPump
  repeat' first | with_reducible apply Act.Within.nop | with_reducible apply Act.Within.mono (w_attNext ..) | with_reducible apply within_each | decide +kernel | with_reducible apply Act.Within.dyn | with_reducible apply within_ite | with_reducible apply Act.Within.seq | with_reducible apply within_seqs_cons | with_reducible apply within_seqs_nil | with_reducible intro _ | split | dsimp only

def ft_attGo : Foot :=
  { flds := [.mem, .poison, .log .logWr, .log .logLost, .log .logIntake, .log .ibiHold, .log .ibiWait, .out .ibis, .sec .idxTried, .sec .attQ, .sec .attBuf, .sec .attBufSt], regs := [rINT_CNT, rSEC_ATT_CTL, rSEC_ERR, rSEC_IDX] }

theorem w_attGo (identity : Bool) : (attGo identity).Within ft_attGo := by
  unfold attGo
  repeat' first | with_reducible apply Act.Within.nop | with_reducible apply Act.Within.mono (w_attPump ..) | with_reducible apply w_incA | with_reducible apply within_setFld | (with_reducible apply within_upd; exact ⟨_, rfl, by decide +kernel⟩) | decide +kernel | exact errOk_none _ _ | exact errOk_any (by decide +kernel) | with_reducible apply Act.Within.dyn | with_reducible apply within_ite | with_reducible apply Act.Within.seq | with_reducible apply within_seqs_cons | with_reducible apply within_seqs_nil | with_reducible intro _ | split | dsimp only

def ft_reservationA : Foot :=
  { flds := [.mem, .poison, .fresh, .boot .flashAt, .sec .treeHeld, .sec .idxTried, .sec .attQ, .sec .attBuf, .sec .attBufSt], regs := [rBOOT_ERR, rBOOT_FLASH, rSEC_ATT_CTL, rSEC_ERR, rSEC_IDX] }

theorem w_reservationA (ok : Bool) : (reservationA ok).Within ft_reservationA := by
  unfold reservationA
  repeat' first | with_reducible apply Act.Within.nop | with_reducible apply Act.Within.mono (w_attPump ..) | with_reducible apply Act.Within.mono (w_eraseOldest ..) | with_reducible apply Act.Within.mono (w_reserveTry ..) | with_reducible refine within_when' ?_ | with_reducible apply within_whenS | decide +kernel | with_reducible apply Act.Within.dyn | with_reducible apply within_ite | with_reducible apply Act.Within.seq | with_reducible apply within_seqs_cons | with_reducible apply within_seqs_nil | with_reducible intro _ | split | dsimp only

def ft_writeWin : Foot :=
  { flds := [.log .logWr, .log .logLost, .log .logIntake, .log .ibiHold, .log .ibiWait, .out .ibis], regs := [rINT_CNT, rSEC_WIN] }

theorem w_writeWin (v : Nat) : (writeWin v).Within ft_writeWin := by
  unfold writeWin
  repeat' first | with_reducible apply Act.Within.nop | with_reducible apply w_incA | with_reducible refine within_when' ?_ | with_reducible apply within_setReg | decide +kernel | exact errOk_none _ _ | exact errOk_any (by decide +kernel) | with_reducible apply Act.Within.dyn | with_reducible apply within_ite | with_reducible apply Act.Within.seq | with_reducible apply within_seqs_cons | with_reducible apply within_seqs_nil | with_reducible intro _ | split | dsimp only

def ft_writeCredCtl : Foot :=
  { flds := [.log .logWr, .log .logLost, .log .logIntake, .log .ibiHold, .log .ibiWait, .out .ibis, .sec .cred], regs := [rINT_CNT, rSEC_CRED_CTL, rSEC_ERR] }

theorem w_writeCredCtl (v : Nat) : (writeCredCtl v).Within ft_writeCredCtl := by
  unfold writeCredCtl
  repeat' first | with_reducible apply Act.Within.nop | with_reducible apply w_incA | with_reducible apply within_setReg | (with_reducible apply within_upd; exact ⟨_, rfl, by decide +kernel⟩) | decide +kernel | exact errOk_none _ _ | exact errOk_any (by decide +kernel) | with_reducible apply Act.Within.dyn | with_reducible apply within_ite | with_reducible apply Act.Within.seq | with_reducible apply within_seqs_cons | with_reducible apply within_seqs_nil | with_reducible intro _ | split | dsimp only

def ft_writeCredKey : Foot :=
  { flds := [.sec .cred], regs := [rSEC_CRED_CTL] }

theorem w_writeCredKey (v : Nat) : (writeCredKey v).Within ft_writeCredKey := by
  unfold writeCredKey
  repeat' first | with_reducible apply Act.Within.nop | with_reducible apply within_setFld | (with_reducible apply within_upd; exact ⟨_, rfl, by decide +kernel⟩) | decide +kernel | with_reducible apply Act.Within.dyn | with_reducible apply within_ite | with_reducible apply Act.Within.seq | with_reducible apply within_seqs_cons | with_reducible apply within_seqs_nil | with_reducible intro _ | split | dsimp only

def ft_payDebt : Foot :=
  { flds := [.ten .tenant], regs := [] }

theorem w_payDebt (t n : Nat) : (payDebt t n).Within ft_payDebt := by
  unfold payDebt
  repeat' first | with_reducible apply Act.Within.nop | with_reducible apply w_modTenant | decide +kernel | with_reducible apply Act.Within.dyn | with_reducible apply within_ite | with_reducible apply Act.Within.seq | with_reducible apply within_seqs_cons | with_reducible apply within_seqs_nil | with_reducible intro _ | split | dsimp only

theorem w_chooseNext {p : Foot} {f : Nat → Act} {g : Act} (h : ft_payDebt.le p = true) (hf : ∀ x, (f x).Within p)
    (hg : g.Within p) (l : List Nat) : (chooseNext f g l).Within p := by
  induction l with
  | nil => exact hg
  | cons t ts ih =>
    exact .dyn fun _ => within_ite (.seq ((w_payDebt ..).mono h) ih) (hf t)

theorem w_startSlice (t : Nat) : (startSlice t).Within ft_payDebt := by
  unfold startSlice
  repeat' first | with_reducible apply Act.Within.nop | with_reducible apply Act.Within.mono (w_payDebt ..) | decide +kernel | with_reducible apply Act.Within.dyn | with_reducible apply within_ite | with_reducible apply Act.Within.seq | with_reducible apply within_seqs_cons | with_reducible apply within_seqs_nil | with_reducible intro _ | split | dsimp only

def ft_sliceEndA : Foot :=
  { flds := [.ten .tenant, .ten .slice], regs := [] }

theorem w_sliceEndA (g : Nat) : (sliceEndA g).Within ft_sliceEndA := by
  unfold sliceEndA
  repeat' first | with_reducible apply Act.Within.nop | with_reducible apply w_chooseNext | with_reducible apply Act.Within.mono (w_startSlice ..) | with_reducible apply w_modSlice | decide +kernel | with_reducible apply Act.Within.dyn | with_reducible apply within_ite | with_reducible apply Act.Within.seq | with_reducible apply within_seqs_cons | with_reducible apply within_seqs_nil | with_reducible intro _ | split | dsimp only

def ft_writeSliceCfg : Foot :=
  { flds := [.ten .slice, .log .logWr, .log .logLost, .log .logIntake, .log .ibiHold, .log .ibiWait, .out .ibis], regs := [rINT_CNT, rTEN_ERR, rTEN_SLICE_CFG] }

theorem w_writeSliceCfg (g v : Nat) : (writeSliceCfg g v).Within ft_writeSliceCfg := by
  unfold writeSliceCfg
  repeat' first | with_reducible apply Act.Within.nop | with_reducible apply w_incA | with_reducible apply within_setReg | (with_reducible apply within_upd; exact ⟨_, rfl, by decide +kernel⟩) | decide +kernel | exact errOk_none _ _ | exact errOk_any (by decide +kernel) | with_reducible apply Act.Within.dyn | with_reducible apply within_ite | with_reducible apply Act.Within.seq | with_reducible apply within_seqs_cons | with_reducible apply within_seqs_nil | with_reducible intro _ | split | dsimp only

def ft_takePreempt : Foot :=
  { flds := [.ten .tenant, .ten .slice], regs := [rTEN_ERR] }

theorem w_takePreempt (g : Nat) (bound : Option Nat) : (takePreempt g bound).Within ft_takePreempt := by
  unfold takePreempt
  repeat' first | with_reducible apply Act.Within.nop | with_reducible apply w_setErr | with_reducible refine within_when' ?_ | with_reducible apply w_modTenant | with_reducible apply w_modSlice | decide +kernel | exact errOk_none _ _ | exact errOk_any (by decide +kernel) | with_reducible apply Act.Within.dyn | with_reducible apply within_ite | with_reducible apply Act.Within.seq | with_reducible apply within_seqs_cons | with_reducible apply within_seqs_nil | with_reducible intro _ | split | dsimp only

theorem w_saveLine (a v : Nat) (bad : Bool) : (saveLine a v bad).Within ft_copyBytes := by
  unfold saveLine
  repeat' first | with_reducible apply Act.Within.nop | with_reducible apply Act.Within.mono (w_markBad ..) | with_reducible apply within_writeLe | decide +kernel | with_reducible apply Act.Within.dyn | with_reducible apply within_ite | with_reducible apply Act.Within.seq | with_reducible apply within_seqs_cons | with_reducible apply within_seqs_nil | with_reducible intro _ | split | dsimp only

theorem w_saveScell (o : Obj) (r : List Byte) (k : Nat) : (saveScell o r k).Within ft_copyBytes := by
  unfold saveScell
  repeat' first | with_reducible apply Act.Within.nop | with_reducible apply Act.Within.mono (w_saveLine ..) | with_reducible apply within_each | decide +kernel | with_reducible apply Act.Within.dyn | with_reducible apply within_ite | with_reducible apply Act.Within.seq | with_reducible apply within_seqs_cons | with_reducible apply within_seqs_nil | with_reducible intro _ | split | dsimp only

theorem w_saveLoad (g h : Nat) (ms : List (Nat × List Byte)) : (saveLoad g h ms).Within footWork := by
  unfold saveLoad
  repeat' first | with_reducible apply Act.Within.nop | with_reducible apply Act.Within.mono (w_dirtyCopy ..) | with_reducible apply Act.Within.mono (w_endWith ..) | with_reducible apply w_incident | with_reducible apply Act.Within.mono (w_saveScell ..) | with_reducible apply within_each | with_reducible apply w_modLoad | decide +kernel | exact errOk_none _ _ | exact errOk_any (by decide +kernel) | with_reducible apply Act.Within.dyn | with_reducible apply within_ite | with_reducible apply Act.Within.seq | with_reducible apply within_seqs_cons | with_reducible apply within_seqs_nil | with_reducible intro _ | split | dsimp only

theorem w_preemptMarkA (g : Nat) : (preemptMarkA g).Within footWork := by
  unfold preemptMarkA
  repeat' first | with_reducible apply Act.Within.nop | with_reducible apply Act.Within.mono (w_saveLoad ..) | with_reducible apply Act.Within.mono (w_takePreempt ..) | decide +kernel | with_reducible apply Act.Within.dyn | with_reducible apply within_ite | with_reducible apply Act.Within.seq | with_reducible apply within_seqs_cons | with_reducible apply within_seqs_nil | with_reducible intro _ | split | dsimp only

def ft_stageImage : Foot :=
  { flds := [.fab .site], regs := [] }

theorem w_stageImage (b : Nat) (l : List Nat) : (stageImage b l).Within ft_stageImage := by
  induction l with
  | nil => exact .nop
  | cons q l ih => exact .seq (.dyn fun _ => within_upd ⟨_, rfl, by decide +kernel⟩) ih

def ft_restoreScell : Foot :=
  { flds := [.cell .acc, .cell .run16At, .cell .line], regs := [] }

theorem w_restoreScell (o : Obj) (r : List Byte) (k : Nat) : (restoreScell o r k).Within ft_restoreScell := by
  unfold restoreScell
  repeat' first | with_reducible apply Act.Within.nop | with_reducible apply within_each | with_reducible refine within_when' ?_ | (with_reducible apply within_upd; exact ⟨_, rfl, by decide +kernel⟩) | decide +kernel | with_reducible apply Act.Within.dyn | with_reducible apply within_ite | with_reducible apply Act.Within.seq | with_reducible apply within_seqs_cons | with_reducible apply within_seqs_nil | with_reducible intro _ | split | dsimp only

def ft_restoreLoad : Foot :=
  { flds := [.cell .acell, .cell .acc, .cell .run16At, .cell .scell, .cell .line, .exh .load], regs := [] }

theorem w_restoreLoad (g h : Nat) (v : Saved) : (restoreLoad g h v).Within ft_restoreLoad := by
  unfold restoreLoad
  repeat' first | with_reducible apply Act.Within.nop | with_reducible apply Act.Within.mono (w_restoreScell ..) | with_reducible apply within_each | with_reducible apply within_withSome | with_reducible apply w_modLoad | (with_reducible apply within_upd; exact ⟨_, rfl, by decide +kernel⟩) | decide +kernel | with_reducible apply Act.Within.dyn | with_reducible apply within_ite | with_reducible apply Act.Within.seq | with_reducible apply within_seqs_cons | with_reducible apply within_seqs_nil | with_reducible intro _ | split | dsimp only

theorem w_changeTenant (g t : Nat) : (changeTenant g t).Within footBay := by
  unfold changeTenant
  repeat' first | with_reducible apply Act.Within.nop | with_reducible apply Act.Within.mono (w_clearBay ..) | with_reducible apply Act.Within.mono (w_installLoad ..) | with_reducible apply Act.Within.mono (w_restoreLoad ..) | with_reducible apply Act.Within.mono (w_setFences ..) | with_reducible apply Act.Within.mono (w_stageImage ..) | with_reducible apply Act.Within.mono (w_startSlice ..) | with_reducible apply within_each | with_reducible apply within_withSome | with_reducible apply w_modLoad | with_reducible apply w_modSlice | (with_reducible apply within_upd; exact ⟨_, rfl, by decide +kernel⟩) | decide +kernel | with_reducible apply Act.Within.dyn | with_reducible apply within_ite | with_reducible apply Act.Within.seq | with_reducible apply within_seqs_cons | with_reducible apply within_seqs_nil | with_reducible intro _ | split | dsimp only

theorem w_tenantSwitchA (g : Nat) : (tenantSwitchA g).Within footBay := by
  unfold tenantSwitchA
  repeat' first | with_reducible apply Act.Within.nop | with_reducible apply Act.Within.mono (w_changeTenant ..) | with_reducible apply w_chooseNext | with_reducible apply w_modSlice | decide +kernel | with_reducible apply Act.Within.dyn | with_reducible apply within_ite | with_reducible apply Act.Within.seq | with_reducible apply within_seqs_cons | with_reducible apply within_seqs_nil | with_reducible intro _ | split | dsimp only

theorem w_remoteTimeoutA (h : Nat) : (remoteTimeoutA h).Within footWork := by
  unfold remoteTimeoutA
  repeat' first | with_reducible apply Act.Within.nop | with_reducible apply Act.Within.mono (w_endWith ..) | with_reducible apply w_incident | decide +kernel | exact errOk_none _ _ | exact errOk_any (by decide +kernel) | with_reducible apply Act.Within.dyn | with_reducible apply within_ite | with_reducible apply Act.Within.seq | with_reducible apply within_seqs_cons | with_reducible apply within_seqs_nil | with_reducible intro _ | split | dsimp only

def ft_scanRefused : Foot :=
  { flds := [.log .logWr, .log .logLost, .log .logIntake, .log .ibiHold, .log .ibiWait, .out .ibis], regs := [rINT_CNT, rTEN_ERR] }

theorem w_scanRefused : (scanRefused).Within ft_scanRefused := by
  unfold scanRefused
  repeat' first | with_reducible apply Act.Within.nop | with_reducible apply w_incA | decide +kernel | exact errOk_none _ _ | exact errOk_any (by decide +kernel) | with_reducible apply Act.Within.dyn | with_reducible apply within_ite | with_reducible apply Act.Within.seq | with_reducible apply within_seqs_cons | with_reducible apply within_seqs_nil | with_reducible intro _ | split | dsimp only

def ft_scanOutA : Foot :=
  { flds := [.fab .bay, .fab .slot, .fab .site, .fab .credit, .cell .acell, .cell .lane, .cell .scell, .ten .scanWord, .ten .scanBay, .ten .scanDir, .ten .scanWant, .log .logWr, .log .logLost, .log .logIntake, .log .ibiHold, .log .ibiWait, .out .ibis], regs := [rINT_CNT, rTEN_ERR, rTEN_SCAN_CTL] }

theorem w_scanOutA (b : Nat) : (scanOutA b).Within ft_scanOutA := by
  unfold scanOutA
  repeat' first | with_reducible apply Act.Within.nop | with_reducible apply Act.Within.mono (w_scanRefused ..) | with_reducible apply Act.Within.mono (w_startScan ..) | with_reducible apply within_setFld | (with_reducible apply within_upd; exact ⟨_, rfl, by decide +kernel⟩) | decide +kernel | with_reducible apply Act.Within.dyn | with_reducible apply within_ite | with_reducible apply Act.Within.seq | with_reducible apply within_seqs_cons | with_reducible apply within_seqs_nil | with_reducible intro _ | split | dsimp only

theorem w_scanInA (b : Nat) : (scanInA b).Within ft_scanOutA := by
  unfold scanInA
  repeat' first | with_reducible apply Act.Within.nop | with_reducible apply Act.Within.mono (w_scanRefused ..) | with_reducible apply Act.Within.mono (w_startScan ..) | with_reducible apply within_setFld | decide +kernel | with_reducible apply Act.Within.dyn | with_reducible apply within_ite | with_reducible apply Act.Within.seq | with_reducible apply within_seqs_cons | with_reducible apply within_seqs_nil | with_reducible intro _ | split | dsimp only

theorem w_nextScan : (nextScan).Within ft_startScan := by
  unfold nextScan
  repeat' first | with_reducible apply Act.Within.nop | with_reducible apply Act.Within.mono (w_startScan ..) | with_reducible apply within_each | with_reducible apply within_whenS | decide +kernel | with_reducible apply Act.Within.dyn | with_reducible apply within_ite | with_reducible apply Act.Within.seq | with_reducible apply within_seqs_cons | with_reducible apply within_seqs_nil | with_reducible intro _ | split | dsimp only

def ft_scanCompleteA : Foot :=
  { flds := [.fab .bay, .fab .slot, .fab .site, .fab .credit, .cell .acell, .cell .lane, .cell .scell, .ten .scanWord, .ten .scanBay, .ten .scanDir, .ten .scanWant], regs := [rFAB_BAY_FENCE, rTEN_SCAN_CTL, rTEN_SCAN_STAT] }

theorem w_scanCompleteA (b ns : Nat) : (scanCompleteA b ns).Within ft_scanCompleteA := by
  unfold scanCompleteA
  repeat' first | with_reducible apply Act.Within.nop | with_reducible apply Act.Within.mono (w_actOnBit ..) | with_reducible apply Act.Within.mono (w_nextScan ..) | with_reducible apply within_setFld | with_reducible apply w_modBay | (with_reducible apply within_upd; exact ⟨_, rfl, by decide +kernel⟩) | decide +kernel | with_reducible apply Act.Within.dyn | with_reducible apply within_ite | with_reducible apply Act.Within.seq | with_reducible apply within_seqs_cons | with_reducible apply within_seqs_nil | with_reducible intro _ | split | dsimp only

def ft_tenantOnA : Foot :=
  { flds := [.que .pair, .ten .tenant], regs := [rTEN_CTL] }

theorem w_tenantOnA (t : Nat) : (tenantOnA t).Within ft_tenantOnA := by
  unfold tenantOnA
  repeat' first | with_reducible apply Act.Within.nop | with_reducible apply within_each | with_reducible apply within_whenS | with_reducible apply within_setFld | with_reducible apply w_modPair | with_reducible apply w_modTenant | decide +kernel | with_reducible apply Act.Within.dyn | with_reducible apply within_ite | with_reducible apply Act.Within.seq | with_reducible apply within_seqs_cons | with_reducible apply within_seqs_nil | with_reducible intro _ | split | dsimp only

theorem w_tenantOffA (t : Nat) : (tenantOffA t).Within ft_endReset := by
  unfold tenantOffA
  repeat' first | with_reducible apply Act.Within.nop | with_reducible apply Act.Within.mono (w_settlePair ..) | with_reducible apply Act.Within.mono (w_settleTenant ..) | with_reducible apply within_each | with_reducible apply within_whenS | with_reducible apply within_setFld | with_reducible apply w_modPair | with_reducible apply w_modTenant | decide +kernel | with_reducible apply Act.Within.dyn | with_reducible apply within_ite | with_reducible apply Act.Within.seq | with_reducible apply within_seqs_cons | with_reducible apply within_seqs_nil | with_reducible intro _ | split | dsimp only

def ft_tenantForceA : Foot :=
  { flds := [.mem, .poison, .fresh, .fab .bay, .fab .slot, .fab .newSlot, .fab .site, .fab .credit, .fab .creditFly, .fab .wire, .fab .lastGrant, .fab .island, .cell .acell, .cell .acc, .cell .run16At, .cell .lane, .cell .laneBad, .cell .arrived, .cell .got, .cell .cout, .cell .scell, .cell .line, .exh .load, .exh .imgEntry, .exh .wdogWait, .mov .doc, .mov .iq, .mov .move, .mov .allocs, .srv .srvSt, .srv .req, .srv .pfx, .srv .srvStep, .srv .svcPins, .que .pair, .que .intake, .que .cmd, .que .nextCmd, .que .scanner, .ten .tenant, .ten .slice, .ten .scanWord, .ten .scanBay, .ten .scanDir, .ten .scanWant, .log .logWr, .log .logLost, .log .logIntake, .log .ibiHold, .log .ibiWait, .out .ibis, .out .sentFlits, .upd .updSt, .upd .updBegun, .upd .updManifest, .upd .heldRows, .lnk .port, .lnk .lnkQ, .lnk .stream, .lnk .localFlits, .lnk .localLost], regs := [rDOC_ERR, rDOC_IQ_CTL, rFAB_BAY_FENCE, rFAB_BAY_FORCE, rINT_CNT, rLNK_ERR, rLNK_NOTICE_CNT, rQUE_ERR, rQUE_PAIR_CFG, rSEC_ERR, rSRV_CTL, rSRV_ERR, rSRV_SVC_CFG, rTEN_ACC_LINK, rTEN_ACC_T1, rTEN_ACC_T2, rTEN_ACC_T3, rTEN_CTL, rTEN_ERR, rTEN_RESET, rUPD_STAT] }

theorem w_tenantForceA (t : Nat) : (tenantForceA t).Within ft_tenantForceA := by
  unfold tenantForceA
  repeat' first | with_reducible apply Act.Within.nop | with_reducible apply Act.Within.mono (w_abortCmd ..) | with_reducible apply Act.Within.mono (w_abortMoves ..) | with_reducible apply Act.Within.mono (w_abortServing ..) | with_reducible apply Act.Within.mono (w_dropIntake ..) | with_reducible apply w_incident | with_reducible apply Act.Within.mono (w_settleScanner ..) | with_reducible apply Act.Within.mono (w_settleTenant ..) | with_reducible apply within_each | with_reducible apply within_whenS | decide +kernel | exact errOk_none _ _ | exact errOk_any (by decide +kernel) | with_reducible apply Act.Within.dyn | with_reducible apply within_ite | with_reducible apply Act.Within.seq | with_reducible apply within_seqs_cons | with_reducible apply within_seqs_nil | with_reducible intro _ | split | dsimp only

def ft_takeTenCtl : Foot :=
  { flds := [.log .logWr, .log .logLost, .log .logIntake, .log .ibiHold, .log .ibiWait, .out .ibis], regs := [rINT_CNT, rTEN_CTL, rTEN_ERR] }

theorem w_takeTenCtl (t v : Nat) : (takeTenCtl t v).Within ft_takeTenCtl := by
  unfold takeTenCtl
  repeat' first | with_reducible apply Act.Within.nop | with_reducible apply w_incident | with_reducible refine within_when' ?_ | with_reducible apply within_setReg | decide +kernel | exact errOk_none _ _ | exact errOk_any (by decide +kernel) | with_reducible apply Act.Within.dyn | with_reducible apply within_ite | with_reducible apply Act.Within.seq | with_reducible apply within_seqs_cons | with_reducible apply within_seqs_nil | with_reducible intro _ | split | dsimp only

theorem w_writeTenCtl (t v : Nat) : (writeTenCtl t v).Within ft_tenantForceA := by
  unfold writeTenCtl
  repeat' first | with_reducible apply Act.Within.nop | with_reducible apply Act.Within.mono (w_takeTenCtl ..) | with_reducible apply Act.Within.mono (w_tenantForceA ..) | with_reducible apply Act.Within.mono (w_tenantOffA ..) | with_reducible apply Act.Within.mono (w_tenantOnA ..) | with_reducible refine within_when' ?_ | decide +kernel | with_reducible apply Act.Within.dyn | with_reducible apply within_ite | with_reducible apply Act.Within.seq | with_reducible apply within_seqs_cons | with_reducible apply within_seqs_nil | with_reducible intro _ | split | dsimp only

theorem w_resetIntake (t : Nat) : (resetIntake t).Within ft_takeDescs := by
  unfold resetIntake
  repeat' first | with_reducible apply Act.Within.nop | with_reducible apply within_each | with_reducible apply w_modPair | (with_reducible apply within_upd; exact ⟨_, rfl, by decide +kernel⟩) | decide +kernel | with_reducible apply Act.Within.dyn | with_reducible apply within_ite | with_reducible apply Act.Within.seq | with_reducible apply within_seqs_cons | with_reducible apply within_seqs_nil | with_reducible intro _ | split | dsimp only

theorem w_resetLoad (h : Nat) : (resetLoad h).Within footLoad := by
  unfold resetLoad
  repeat' first | with_reducible apply Act.Within.nop | with_reducible apply Act.Within.mono (w_clearLoadQueues ..) | with_reducible apply Act.Within.mono (w_completeRefused ..) | with_reducible apply Act.Within.mono (w_releaseLoad ..) | with_reducible apply Act.Within.mono (w_streamReset ..) | with_reducible apply within_each | with_reducible refine within_when' ?_ | with_reducible apply within_withSome | with_reducible apply w_modLoad | (with_reducible apply within_upd; exact ⟨_, rfl, by decide +kernel⟩) | decide +kernel | with_reducible apply Act.Within.dyn | with_reducible apply within_ite | with_reducible apply Act.Within.seq | with_reducible apply within_seqs_cons | with_reducible apply within_seqs_nil | with_reducible intro _ | split | dsimp only

def ft_resetReq : Foot :=
  { flds := [.srv .req, .srv .pfx, .que .pair, .que .cmd], regs := [] }

theorem w_resetReq (i : Nat) : (resetReq i).Within ft_resetReq := by
  unfold resetReq
  repeat' first | with_reducible apply Act.Within.nop | with_reducible apply Act.Within.mono (w_freeReqHoldings ..) | with_reducible apply within_withSome | with_reducible apply w_modPair | (with_reducible apply within_upd; exact ⟨_, rfl, by decide +kernel⟩) | decide +kernel | with_reducible apply Act.Within.dyn | with_reducible apply within_ite | with_reducible apply Act.Within.seq | with_reducible apply within_seqs_cons | with_reducible apply within_seqs_nil | with_reducible intro _ | split | dsimp only

def ft_resetServing : Foot :=
  { flds := [.mem, .srv .srvSt, .srv .req, .srv .pfx, .srv .srvStep, .srv .svcPins, .que .pair, .que .cmd], regs := [rSRV_CTL, rSRV_SVC_CFG] }

theorem w_resetServing (t : Nat) : (resetServing t).Within ft_resetServing := by
  unfold resetServing
  repeat' first | with_reducible apply Act.Within.nop | with_reducible apply Act.Within.mono (w_resetReq ..) | with_reducible apply Act.Within.mono (w_settlePfx ..) | with_reducible apply Act.Within.mono (w_settleSrv ..) | with_reducible apply Act.Within.mono (w_svcOff ..) | with_reducible apply within_each | with_reducible refine within_when' ?_ | with_reducible apply within_withSome | with_reducible apply w_modPfx | (with_reducible apply within_upd; exact ⟨_, rfl, by decide +kernel⟩) | decide +kernel | with_reducible apply Act.Within.dyn | with_reducible apply within_ite | with_reducible apply Act.Within.seq | with_reducible apply within_seqs_cons | with_reducible apply within_seqs_nil | with_reducible intro _ | split | dsimp only

theorem w_resetCmd (id : Nat) : (resetCmd id).Within ft_completeCode := by
  unfold resetCmd
  repeat' first | with_reducible apply Act.Within.nop | with_reducible apply Act.Within.mono (w_completeRefused ..) | with_reducible apply within_withSome | with_reducible apply w_modPair | (with_reducible apply within_upd; exact ⟨_, rfl, by decide +kernel⟩) | decide +kernel | with_reducible apply Act.Within.dyn | with_reducible apply within_ite | with_reducible apply Act.Within.seq | with_reducible apply within_seqs_cons | with_reducible apply within_seqs_nil | with_reducible intro _ | split | dsimp only

theorem w_tenantResetA (t : Nat) : (tenantResetA t).Within footLoad := by
  unfold tenantResetA
  repeat' first | with_reducible apply Act.Within.nop | with_reducible apply Act.Within.mono (w_abortSession ..) | with_reducible apply Act.Within.mono (w_cancelIq ..) | with_reducible apply Act.Within.mono (w_resetCmd ..) | with_reducible apply Act.Within.mono (w_resetIntake ..) | with_reducible apply Act.Within.mono (w_resetLoad ..) | with_reducible apply Act.Within.mono (w_resetServing ..) | with_reducible apply Act.Within.mono (w_settleScanner ..) | with_reducible apply Act.Within.mono (w_settleTenant ..) | with_reducible apply within_each | with_reducible refine within_when' ?_ | with_reducible apply within_orReg | with_reducible apply w_modCmd | with_reducible apply w_modTenant | decide +kernel | with_reducible apply Act.Within.dyn | with_reducible apply within_ite | with_reducible apply Act.Within.seq | with_reducible apply within_seqs_cons | with_reducible apply within_seqs_nil | with_reducible intro _ | split | dsimp only

def ft_takeSample : Foot :=
  { flds := [.mon .census], regs := [] }

theorem w_takeSample (u raw : Nat) : (takeSample u raw).Within ft_takeSample := by
  unfold takeSample
  repeat' first | with_reducible apply Act.Within.nop | with_reducible apply w_modCensus | decide +kernel | with_reducible apply Act.Within.dyn | with_reducible apply within_ite | with_reducible apply Act.Within.seq | with_reducible apply within_seqs_cons | with_reducible apply within_seqs_nil | with_reducible intro _ | split | dsimp only

theorem w_censusEventA (u raw t : Nat) : (censusEventA u raw t).Within ft_takeSample := by
  unfold censusEventA
  repeat' first | with_reducible apply Act.Within.nop | with_reducible apply w_modCensus | decide +kernel | with_reducible apply Act.Within.dyn | with_reducible apply within_ite | with_reducible apply Act.Within.seq | with_reducible apply within_seqs_cons | with_reducible apply within_seqs_nil | with_reducible intro _ | split | dsimp only

theorem w_censusSampleA (u level : Nat) : (censusSampleA u level).Within ft_takeSample := by
  unfold censusSampleA
  repeat' first | with_reducible apply Act.Within.nop | with_reducible apply Act.Within.mono (w_takeSample ..) | with_reducible apply w_modCensus | decide +kernel | with_reducible apply Act.Within.dyn | with_reducible apply within_ite | with_reducible apply Act.Within.seq | with_reducible apply within_seqs_cons | with_reducible apply within_seqs_nil | with_reducible intro _ | split | dsimp only

def ft_censusEn : Foot :=
  { flds := [.log .logWr, .log .logLost, .log .logIntake, .log .ibiHold, .log .ibiWait, .mon .census, .out .ibis], regs := [rINT_CNT, rMON_CTL, rMON_ERR] }

theorem w_censusEn (u : Nat) (en : Bool) : (censusEn u en).Within ft_censusEn := by
  unfold censusEn
  repeat' first | with_reducible apply Act.Within.nop | with_reducible apply w_incA | with_reducible apply within_setFld | with_reducible apply w_modCensus | decide +kernel | exact errOk_none _ _ | exact errOk_any (by decide +kernel) | with_reducible apply Act.Within.dyn | with_reducible apply within_ite | with_reducible apply Act.Within.seq | with_reducible apply within_seqs_cons | with_reducible apply within_seqs_nil | with_reducible intro _ | split | dsimp only

theorem w_censusSnapA (u : Nat) : (censusSnapA u).Within ft_takeSample := by
  unfold censusSnapA
  repeat' first | with_reducible apply Act.Within.nop | with_reducible apply w_modCensus | decide +kernel | with_reducible apply Act.Within.dyn | with_reducible apply within_ite | with_reducible apply Act.Within.seq | with_reducible apply within_seqs_cons | with_reducible apply within_seqs_nil | with_reducible intro _ | split | dsimp only

theorem w_censusClearA (u : Nat) : (censusClearA u).Within ft_takeSample := by
  unfold censusClearA
  repeat' first | with_reducible apply Act.Within.nop | with_reducible apply w_modCensus | decide +kernel | with_reducible apply Act.Within.dyn | with_reducible apply within_ite | with_reducible apply Act.Within.seq | with_reducible apply within_seqs_cons | with_reducible apply within_seqs_nil | with_reducible intro _ | split | dsimp only

theorem w_writeMonCtl (v : Nat) : (writeMonCtl v).Within ft_censusEn := by
  unfold writeMonCtl
  repeat' first | with_reducible apply Act.Within.nop | with_reducible apply Act.Within.mono (w_censusClearA ..) | with_reducible apply Act.Within.mono (w_censusEn ..) | with_reducible apply Act.Within.mono (w_censusSnapA ..) | with_reducible refine within_when' ?_ | decide +kernel | with_reducible apply Act.Within.dyn | with_reducible apply within_ite | with_reducible apply Act.Within.seq | with_reducible apply within_seqs_cons | with_reducible apply within_seqs_nil | with_reducible intro _ | split | dsimp only

def ft_logDrainA : Foot :=
  { flds := [.log .logLost, .log .logIntake, .log .logSlot], regs := [rLOG_HEAD] }

theorem w_logDrainA : (logDrainA).Within ft_logDrainA := by
  unfold logDrainA
  repeat' first | with_reducible apply Act.Within.nop | with_reducible refine within_when' ?_ | with_reducible apply within_setFld | (with_reducible apply within_upd; exact ⟨_, rfl, by decide +kernel⟩) | decide +kernel | with_reducible apply Act.Within.dyn | with_reducible apply within_ite | with_reducible apply Act.Within.seq | with_reducible apply within_seqs_cons | with_reducible apply within_seqs_nil | with_reducible intro _ | split | dsimp only

def ft_advanceHead : Foot :=
  { flds := [.log .logWr, .log .logLost, .log .logIntake, .log .ibiHold, .log .ibiWait, .out .ibis], regs := [rINT_CNT, rLOG_HEAD, rLOG_STAT] }

theorem w_advanceHead (side : Bool) (h : Nat) : (advanceHead side h).Within ft_advanceHead := by
  unfold advanceHead
  repeat' first | with_reducible apply Act.Within.nop | with_reducible apply w_incA | with_reducible apply within_setFld | with_reducible apply within_orReg | decide +kernel | exact errOk_none _ _ | exact errOk_any (by decide +kernel) | with_reducible apply Act.Within.dyn | with_reducible apply within_ite | with_reducible apply Act.Within.seq | with_reducible apply within_seqs_cons | with_reducible apply within_seqs_nil | with_reducible intro _ | split | dsimp only

def ft_writeRdSel : Foot :=
  { flds := [.log .logLatch], regs := [rLOG_RD_SEL] }

theorem w_writeRdSel (v : Nat) : (writeRdSel v).Within ft_writeRdSel := by
  unfold writeRdSel
  repeat' first | with_reducible apply Act.Within.nop | with_reducible refine within_when' ?_ | with_reducible apply within_setReg | (with_reducible apply within_upd; exact ⟨_, rfl, by decide +kernel⟩) | decide +kernel | with_reducible apply Act.Within.dyn | with_reducible apply within_ite | with_reducible apply Act.Within.seq | with_reducible apply within_seqs_cons | with_reducible apply within_seqs_nil | with_reducible intro _ | split | dsimp only

def ft_ibiHoldoffEndA : Foot :=
  { flds := [.log .ibiHold, .log .ibiWait, .out .ibis], regs := [] }

theorem w_ibiHoldoffEndA : (ibiHoldoffEndA).Within ft_ibiHoldoffEndA := by
  unfold ibiHoldoffEndA
  repeat' first | with_reducible apply Act.Within.nop | (with_reducible apply within_upd; exact ⟨_, rfl, by decide +kernel⟩) | decide +kernel | with_reducible apply Act.Within.dyn | with_reducible apply within_ite | with_reducible apply Act.Within.seq | with_reducible apply within_seqs_cons | with_reducible apply within_seqs_nil | with_reducible intro _ | split | dsimp only

def ft_showLate : Foot :=
  { flds := [], regs := [rT2C_STAT, rT3C_STAT] }

theorem w_showLate (tier : Tier) (unit : Nat) (late : Bool) : (showLate tier unit late).Within ft_showLate := by
  unfold showLate
  repeat' first | with_reducible apply Act.Within.nop | with_reducible apply within_setFld | decide +kernel | with_reducible apply Act.Within.dyn | with_reducible apply within_ite | with_reducible apply Act.Within.seq | with_reducible apply within_seqs_cons | with_reducible apply within_seqs_nil | with_reducible intro _ | split | dsimp only

def ft_calWindowA : Foot :=
  { flds := [.mov .calMiss, .log .logWr, .log .logLost, .log .logIntake, .log .ibiHold, .log .ibiWait, .out .ibis], regs := [rINT_CNT, rT2C_ERR, rT2C_STAT, rT3C_ERR, rT3C_STAT] }

theorem w_calWindowA (tier : Tier) (unit : Nat) (finished : Bool) : (calWindowA tier unit finished).Within ft_calWindowA := by
  unfold calWindowA
  repeat' first | with_reducible apply Act.Within.nop | with_reducible apply w_incident | with_reducible apply Act.Within.mono (w_showLate ..) | with_reducible refine within_when' ?_ | with_reducible apply within_withSome | with_reducible apply w_modCalMiss | (with_reducible apply within_upd; exact ⟨_, rfl, by decide +kernel⟩) | decide +kernel | exact errOk_none _ _ | exact errOk_any (by decide +kernel) | with_reducible apply Act.Within.dyn | with_reducible apply within_ite | with_reducible apply Act.Within.seq | with_reducible apply within_seqs_cons | with_reducible apply within_seqs_nil | with_reducible intro _ | split | dsimp only

def ft_scrubRead : Foot :=
  { flds := [.poison, .fresh, .log .logWr, .log .logLost, .log .logIntake, .log .ibiHold, .log .ibiWait, .out .ibis], regs := [rINT_CNT, rT1C_CE_CNT, rT1C_ERR, rT1C_ERR_ADDR, rT2C_CE_CNT, rT2C_ERR, rT2C_ERR_ADDR, rT3C_CE_CNT, rT3C_ERR, rT3C_ERR_ADDR] }

theorem w_scrubRead (tier : Tier) (agent a n : Nat) (found : Found) : (scrubRead tier agent a n found).Within ft_scrubRead := by
  unfold scrubRead
  repeat' first | with_reducible apply Act.Within.nop | with_reducible apply Act.Within.mono (w_markBad ..) | with_reducible apply Act.Within.mono (w_tierCorrected ..) | with_reducible apply Act.Within.mono (w_tierUncorrectable ..) | decide +kernel | with_reducible apply Act.Within.dyn | with_reducible apply within_ite | with_reducible apply Act.Within.seq | with_reducible apply within_seqs_cons | with_reducible apply within_seqs_nil | with_reducible intro _ | split | dsimp only

theorem w_t1ScrubA (addr : Nat) (found : Found) : (t1ScrubA addr found).Within ft_scrubRead := by
  unfold t1ScrubA
  repeat' first | with_reducible apply Act.Within.nop | with_reducible apply Act.Within.mono (w_scrubRead ..) | decide +kernel | with_reducible apply Act.Within.dyn | with_reducible apply within_ite | with_reducible apply Act.Within.seq | with_reducible apply within_seqs_cons | with_reducible apply within_seqs_nil | with_reducible intro _ | split | dsimp only

def ft_objectsFault : Foot :=
  { flds := [.poison, .fresh, .fab .bay, .fab .slot, .fab .newSlot, .fab .site, .fab .credit, .fab .creditFly, .fab .wire, .fab .lastGrant, .fab .island, .cell .acell, .cell .acc, .cell .run16At, .cell .lane, .cell .laneBad, .cell .arrived, .cell .got, .cell .cout, .cell .scell, .cell .line, .exh .load, .exh .wdogWait, .mov .move, .ten .tenant, .ten .slice, .int .haltCause, .log .logWr, .log .logLost, .log .logIntake, .log .ibiHold, .log .ibiWait, .out .ibis, .out .sentFlits, .lnk .port, .lnk .lnkQ, .lnk .localLost], regs := [rFAB_BAY_FENCE, rFAB_BAY_FORCE, rFAB_BAY_ON, rINT_CNT, rINT_ERR, rLNK_ERR, rLNK_NOTICE_CNT, rT1C_CE_CNT, rT1C_ERR, rT1C_ERR_ADDR, rT2C_CE_CNT, rT2C_ERR, rT2C_ERR_ADDR, rT3C_CE_CNT, rT3C_ERR, rT3C_ERR_ADDR] }

theorem w_objectsFault (agent a : Nat) : (objectsFault agent a).Within ft_objectsFault := by
  have hc : ∀ c, errOk ft_objectsFault blkT2C c = true := fun c => errOk_any (by decide +kernel)
  unfold objectsFault
  repeat' first | with_reducible apply Act.Within.mono (w_haltModule ..) | with_reducible apply w_incident | with_reducible apply Act.Within.mono (w_markBad ..) | with_reducible apply Act.Within.mono (w_tierRecord ..) | decide +kernel | exact hc _ | with_reducible apply within_seqs_cons | with_reducible apply within_seqs_nil

def ft_tierScrubA : Foot :=
  { flds := [.poison, .fresh, .fab .bay, .fab .slot, .fab .newSlot, .fab .site, .fab .credit, .fab .creditFly, .fab .wire, .fab .lastGrant, .fab .island, .cell .acell, .cell .acc, .cell .run16At, .cell .lane, .cell .laneBad, .cell .arrived, .cell .got, .cell .cout, .cell .scell, .cell .line, .exh .load, .exh .wdogWait, .mov .move, .ten .tenant, .ten .slice, .int .haltCause, .log .logWr, .log .logLost, .log .logIntake, .log .ibiHold, .log .ibiWait, .out .ibis, .out .sentFlits, .lnk .port, .lnk .lnkQ, .lnk .localLost], regs := [rFAB_BAY_FENCE, rFAB_BAY_FORCE, rFAB_BAY_ON, rINT_CNT, rINT_ERR, rLNK_ERR, rLNK_NOTICE_CNT, rT1C_CE_CNT, rT1C_ERR, rT1C_ERR_ADDR, rT2C_CE_CNT, rT2C_ERR, rT2C_ERR_ADDR, rT3C_CE_CNT, rT3C_ERR, rT3C_ERR_ADDR] }

theorem w_tierScrubA (tier : Tier) (addr : Nat) (found : Found) : (tierScrubA tier addr found).Within ft_tierScrubA := by
  unfold tierScrubA
  repeat' first | with_reducible apply Act.Within.nop | with_reducible apply Act.Within.mono (w_objectsFault ..) | with_reducible apply w_incident | with_reducible apply Act.Within.mono (w_markBad ..) | with_reducible apply Act.Within.mono (w_scrubRead ..) | with_reducible apply Act.Within.mono (w_tierRecord ..) | decide +kernel | exact errOk_none _ _ | exact errOk_any (by decide +kernel) | with_reducible apply Act.Within.dyn | with_reducible apply within_ite | with_reducible apply Act.Within.seq | with_reducible apply within_seqs_cons | with_reducible apply within_seqs_nil | with_reducible intro _ | split | dsimp only

def ft_writeT2Ctl : Foot :=
  { flds := [.log .logWr, .log .logLost, .log .logIntake, .log .ibiHold, .log .ibiWait, .out .ibis], regs := [rINT_CNT, rT2C_CTL] }

theorem w_writeT2Ctl (v : Nat) : (writeT2Ctl v).Within ft_writeT2Ctl := by
  unfold writeT2Ctl
  repeat' first | with_reducible apply Act.Within.nop | with_reducible apply w_incA | with_reducible refine within_when' ?_ | with_reducible apply within_setReg | decide +kernel | exact errOk_none _ _ | exact errOk_any (by decide +kernel) | with_reducible apply Act.Within.dyn | with_reducible apply within_ite | with_reducible apply Act.Within.seq | with_reducible apply within_seqs_cons | with_reducible apply within_seqs_nil | with_reducible intro _ | split | dsimp only

theorem w_byBit {p : Foot} (n v : Nat) {f g : Nat → Act} (hf : ∀ x, (f x).Within p) (hg : ∀ x, (g x).Within p) :
    (byBit n v f g).Within p :=
  within_each _ fun i => within_ite (hf i) (hg i)

def ft_writeQueCtl : Foot :=
  { flds := [.mem, .exh .imgEntry, .mov .doc, .mov .iq, .mov .move, .mov .allocs, .que .pair, .que .intake, .que .cmd, .que .nextCmd, .que .scanner, .que .rotStart, .que .rotLast, .ten .tenant, .log .logWr, .log .logLost, .log .logIntake, .log .ibiHold, .log .ibiWait, .out .ibis, .upd .heldRows], regs := [rDOC_ERR, rDOC_IQ_CTL, rINT_CNT, rQUE_CTL, rQUE_ERR, rQUE_PAIR_CFG, rSEC_ERR, rTEN_CTL, rTEN_RESET] }

theorem w_writeQueCtl (v : Nat) : (writeQueCtl v).Within ft_writeQueCtl := by
  unfold writeQueCtl
  repeat' first | with_reducible apply Act.Within.nop | with_reducible apply Act.Within.mono (w_scannerForce ..) | with_reducible apply Act.Within.mono (w_scannerOff ..) | with_reducible apply Act.Within.mono (w_scannerOn ..) | with_reducible refine within_when' ?_ | with_reducible apply within_setFld | decide +kernel | with_reducible apply Act.Within.dyn | with_reducible apply within_ite | with_reducible apply Act.Within.seq | with_reducible apply within_seqs_cons | with_reducible apply within_seqs_nil | with_reducible intro _ | split | dsimp only

theorem w_writePairCfg (v : Nat) : (writePairCfg v).Within ft_abortCmd := by
  unfold writePairCfg
  repeat' first | with_reducible apply Act.Within.nop | with_reducible apply Act.Within.mono (w_pairForceA ..) | with_reducible apply Act.Within.mono (w_pairOff ..) | with_reducible apply Act.Within.mono (w_pairOn ..) | with_reducible refine within_when' ?_ | with_reducible apply within_setFld | decide +kernel | with_reducible apply Act.Within.dyn | with_reducible apply within_ite | with_reducible apply Act.Within.seq | with_reducible apply within_seqs_cons | with_reducible apply within_seqs_nil | with_reducible intro _ | split | dsimp only

theorem w_writeScanCtl (v : Nat) : (writeScanCtl v).Within ft_scanOutA := by
  unfold writeScanCtl
  repeat' first | with_reducible apply Act.Within.nop | with_reducible apply Act.Within.mono (w_scanInA ..) | with_reducible apply Act.Within.mono (w_scanOutA ..) | with_reducible apply Act.Within.mono (w_scanRefused ..) | with_reducible apply within_setFld | decide +kernel | with_reducible apply Act.Within.dyn | with_reducible apply within_ite | with_reducible apply Act.Within.seq | with_reducible apply within_seqs_cons | with_reducible apply within_seqs_nil | with_reducible intro _ | split | dsimp only

def ft_csBad : Foot :=
  { flds := [.log .logWr, .log .logLost, .log .logIntake, .log .ibiHold, .log .ibiWait, .out .ibis], regs := [rINT_CNT, rQUE_ERR] }

theorem w_csBad : (csBad).Within ft_csBad := by
  unfold csBad
  repeat' first | with_reducible apply Act.Within.nop | with_reducible apply w_incA | decide +kernel | exact errOk_none _ _ | exact errOk_any (by decide +kernel) | with_reducible apply Act.Within.dyn | with_reducible apply within_ite | with_reducible apply Act.Within.seq | with_reducible apply within_seqs_cons | with_reducible apply within_seqs_nil | with_reducible intro _ | split | dsimp only

def ft_csNone : Foot :=
  { flds := [.log .logWr, .log .logLost, .log .logIntake, .log .ibiHold, .log .ibiWait, .out .ibis], regs := [rINT_CNT] }

theorem w_csNone (off : Nat) : (csNone off).Within ft_csNone := by
  unfold csNone
  repeat' first | with_reducible apply Act.Within.nop | with_reducible apply w_incident | decide +kernel | exact errOk_none _ _ | exact errOk_any (by decide +kernel) | with_reducible apply Act.Within.dyn | with_reducible apply within_ite | with_reducible apply Act.Within.seq | with_reducible apply within_seqs_cons | with_reducible apply within_seqs_nil | with_reducible intro _ | split | dsimp only

theorem w_tableWrite (off : Nat) : (tableWrite off).Within ft_csNone := by
  unfold tableWrite
  repeat' first | with_reducible apply Act.Within.nop | with_reducible apply w_incA | decide +kernel | exact errOk_none _ _ | exact errOk_any (by decide +kernel) | with_reducible apply Act.Within.dyn | with_reducible apply within_ite | with_reducible apply Act.Within.seq | with_reducible apply within_seqs_cons | with_reducible apply within_seqs_nil | with_reducible intro _ | split | dsimp only

def ft_scanWrite : Foot :=
  { flds := [.ten .scanWord], regs := [] }

theorem w_scanWrite (off v : Nat) : (scanWrite off v).Within ft_scanWrite := by
  unfold scanWrite
  repeat' first | with_reducible apply Act.Within.nop | with_reducible refine within_when' ?_ | (with_reducible apply within_upd; exact ⟨_, rfl, by decide +kernel⟩) | decide +kernel | with_reducible apply Act.Within.dyn | with_reducible apply within_ite | with_reducible apply Act.Within.seq | with_reducible apply within_seqs_cons | with_reducible apply within_seqs_nil | with_reducible intro _ | split | dsimp only

def ft_latchReq : Foot :=
  { flds := [.win .reqLatch], regs := [] }

theorem w_latchReq (i : Nat) : (latchReq i).Within ft_latchReq := by
  unfold latchReq
  repeat' first | with_reducible apply Act.Within.nop | (with_reducible apply within_upd; exact ⟨_, rfl, by decide +kernel⟩) | decide +kernel | with_reducible apply Act.Within.dyn | with_reducible apply within_ite | with_reducible apply Act.Within.seq | with_reducible apply within_seqs_cons | with_reducible apply within_seqs_nil | with_reducible intro _ | split | dsimp only

def ft_latchPfx : Foot :=
  { flds := [.win .pfxLatch], regs := [] }

theorem w_latchPfx (p : Nat) : (latchPfx p).Within ft_latchPfx := by
  unfold latchPfx
  repeat' first | with_reducible apply Act.Within.nop | (with_reducible apply within_upd; exact ⟨_, rfl, by decide +kernel⟩) | decide +kernel | with_reducible apply Act.Within.dyn | with_reducible apply within_ite | with_reducible apply Act.Within.seq | with_reducible apply within_seqs_cons | with_reducible apply within_seqs_nil | with_reducible intro _ | split | dsimp only

def ft_csRead : Foot :=
  { flds := [.log .logWr, .log .logLost, .log .logIntake, .log .ibiHold, .log .ibiWait, .out .ibis, .win .reqLatch, .win .pfxLatch], regs := [rINT_CNT, rQUE_ERR] }

theorem w_csRead {p : Foot} (side : Bool) (off : Nat) {k : Nat → Act} (h : ft_csRead.le p = true)
    (hk : ∀ v, (k v).Within p) : (csRead side off k).Within p := by
  have hb : csBad.Within p := ((w_csBad).mono (q := ft_csRead) (by decide +kernel)).mono h
  have hn : (csNone off).Within p := ((w_csNone off).mono (q := ft_csRead) (by decide +kernel)).mono h
  have hr : ∀ i, (latchReq i).Within p := fun i => ((w_latchReq i).mono (q := ft_csRead) (by decide +kernel)).mono h
  have hp : ∀ i, (latchPfx i).Within p := fun i => ((w_latchPfx i).mono (q := ft_csRead) (by decide +kernel)).mono h
  unfold csRead
  repeat' first
    | exact hk _ | exact hb | exact hn | exact hr _ | exact hp _ | refine within_when' ?_ | refine .dyn fun _ => ?_
    | refine within_ite ?_ ?_ | refine .seq ?_ ?_ | dsimp only

def ft_toCd : Foot :=
  { flds := [.out .cdRead, .out .cdPoison], regs := [] }

theorem w_toCd (bs : List Byte) (poison : Bool) : (toCd bs poison).Within ft_toCd := by
  unfold toCd
  repeat' first | with_reducible apply Act.Within.nop | (with_reducible apply within_upd; exact ⟨_, rfl, by decide +kernel⟩) | decide +kernel | with_reducible apply Act.Within.dyn | with_reducible apply within_ite | with_reducible apply Act.Within.seq | with_reducible apply within_seqs_cons | with_reducible apply within_seqs_nil | with_reducible intro _ | split | dsimp only

theorem w_cdUnit (a : Nat) (found : Found) : (cdUnit a found).Within ft_tierScrubA := by
  unfold cdUnit
  repeat' first | with_reducible apply Act.Within.nop | with_reducible apply Act.Within.mono (w_objectsFault ..) | with_reducible apply Act.Within.mono (w_markBad ..) | with_reducible apply Act.Within.mono (w_tierCorrected ..) | with_reducible apply Act.Within.mono (w_tierUncorrectable ..) | decide +kernel | with_reducible apply Act.Within.dyn | with_reducible apply within_ite | with_reducible apply Act.Within.seq | with_reducible apply within_seqs_cons | with_reducible apply within_seqs_nil | with_reducible intro _ | split | dsimp only

def ft_cdReadT2 : Foot :=
  { flds := [.poison, .fresh, .fab .bay, .fab .slot, .fab .newSlot, .fab .site, .fab .credit, .fab .creditFly, .fab .wire, .fab .lastGrant, .fab .island, .cell .acell, .cell .acc, .cell .run16At, .cell .lane, .cell .laneBad, .cell .arrived, .cell .got, .cell .cout, .cell .scell, .cell .line, .exh .load, .exh .wdogWait, .mov .move, .ten .tenant, .ten .slice, .int .haltCause, .log .logWr, .log .logLost, .log .logIntake, .log .ibiHold, .log .ibiWait, .out .cdRead, .out .cdPoison, .out .ibis, .out .sentFlits, .lnk .port, .lnk .lnkQ, .lnk .localLost], regs := [rFAB_BAY_FENCE, rFAB_BAY_FORCE, rFAB_BAY_ON, rINT_CNT, rINT_ERR, rLNK_ERR, rLNK_NOTICE_CNT, rT1C_CE_CNT, rT1C_ERR, rT1C_ERR_ADDR, rT2C_CE_CNT, rT2C_ERR, rT2C_ERR_ADDR, rT3C_CE_CNT, rT3C_ERR, rT3C_ERR_ADDR] }

theorem w_cdReadT2 (a n : Nat) (found : List (Nat × Found)) : (cdReadT2 a n found).Within ft_cdReadT2 := by
  unfold cdReadT2
  repeat' first | with_reducible apply Act.Within.nop | with_reducible apply Act.Within.mono (w_cdUnit ..) | with_reducible apply Act.Within.mono (w_toCd ..) | with_reducible apply within_each | with_reducible refine within_when' ?_ | decide +kernel | with_reducible apply Act.Within.dyn | with_reducible apply within_ite | with_reducible apply Act.Within.seq | with_reducible apply within_seqs_cons | with_reducible apply within_seqs_nil | with_reducible intro _ | split | dsimp only

theorem w_cdWriteT2 (a : Nat) (bs : List Byte) : (cdWriteT2 a bs).Within ft_copyBytes := by
  unfold cdWriteT2
  repeat' first | with_reducible apply Act.Within.nop | with_reducible apply Act.Within.mono (w_markBad ..) | with_reducible refine within_when' ?_ | with_reducible apply within_writeBytes | decide +kernel | with_reducible apply Act.Within.dyn | with_reducible apply within_ite | with_reducible apply Act.Within.seq | with_reducible apply within_seqs_cons | with_reducible apply within_seqs_nil | with_reducible intro _ | split | dsimp only

def ft_cdOutside : Foot :=
  { flds := [.log .logWr, .log .logLost, .log .logIntake, .log .ibiHold, .log .ibiWait, .out .ibis], regs := [rINT_CNT, rQUE_ERR, rT2C_ERR, rT2C_ERR_ADDR, rT3C_ERR, rT3C_ERR_ADDR] }

theorem w_cdOutside (a : Nat) : (cdOutside a).Within ft_cdOutside := by
  unfold cdOutside
  repeat' first | with_reducible apply Act.Within.nop | with_reducible apply Act.Within.mono (w_badAddress ..) | with_reducible apply w_setErr | decide +kernel | exact errOk_none _ _ | exact errOk_any (by decide +kernel) | with_reducible apply Act.Within.dyn | with_reducible apply within_ite | with_reducible apply Act.Within.seq | with_reducible apply within_seqs_cons | with_reducible apply within_seqs_nil | with_reducible intro _ | split | dsimp only

def ft_cdWake : Foot :=
  { flds := [.fab .bay, .log .logWr, .log .logLost, .log .logIntake, .log .ibiHold, .log .ibiWait, .out .ibis, .pwr .nwSt, .upd .heldRows], regs := [rFAB_BAY_ON, rINT_CNT, rPWR_NW] }

theorem w_cdWake (i : Instr) : (cdWake i).Within ft_cdWake := by
  unfold cdWake
  repeat' first | with_reducible apply Act.Within.nop | with_reducible apply Act.Within.mono (w_holdRow ..) | with_reducible apply Act.Within.mono (w_nwWake ..) | with_reducible apply within_setFld | decide +kernel | with_reducible apply Act.Within.dyn | with_reducible apply within_ite | with_reducible apply Act.Within.seq | with_reducible apply within_seqs_cons | with_reducible apply within_seqs_nil | with_reducible intro _ | split | dsimp only

def ft_csBadAccessA : Foot :=
  { flds := [.log .logWr, .log .logLost, .log .logIntake, .log .ibiHold, .log .ibiWait, .out .cdRead, .out .cdPoison, .out .ibis], regs := [rINT_CNT, rQUE_ERR] }

theorem w_csBadAccessA (write : Bool) (off bytes : Nat) : (csBadAccessA write off bytes).Within ft_csBadAccessA := by
  unfold csBadAccessA
  repeat' first | with_reducible apply Act.Within.nop | with_reducible apply Act.Within.mono (w_csBad ..) | with_reducible apply Act.Within.mono (w_toCd ..) | with_reducible refine within_when' ?_ | decide +kernel | with_reducible apply Act.Within.dyn | with_reducible apply within_ite | with_reducible apply Act.Within.seq | with_reducible apply within_seqs_cons | with_reducible apply within_seqs_nil | with_reducible intro _ | split | dsimp only

def ft_csUnassignedA : Foot :=
  { flds := [.log .logWr, .log .logLost, .log .logIntake, .log .ibiHold, .log .ibiWait, .out .cdRead, .out .cdPoison, .out .ibis], regs := [rINT_CNT] }

theorem w_csUnassignedA (write : Bool) (off : Nat) : (csUnassignedA write off).Within ft_csUnassignedA := by
  unfold csUnassignedA
  repeat' first | with_reducible apply Act.Within.nop | with_reducible apply Act.Within.mono (w_csNone ..) | with_reducible apply Act.Within.mono (w_toCd ..) | with_reducible refine within_when' ?_ | decide +kernel | with_reducible apply Act.Within.dyn | with_reducible apply within_ite | with_reducible apply Act.Within.seq | with_reducible apply within_seqs_cons | with_reducible apply within_seqs_nil | with_reducible intro _ | split | dsimp only

def ft_windowLatchA : Foot :=
  { flds := [.log .logWr, .log .logLost, .log .logIntake, .log .ibiHold, .log .ibiWait, .out .cdRead, .out .cdPoison, .out .ibis, .win .reqLatch, .win .pfxLatch], regs := [rINT_CNT, rQUE_ERR] }

theorem w_windowLatchA (pfx : Bool) (i : Nat) : (windowLatchA pfx i).Within ft_windowLatchA := by
  unfold windowLatchA
  repeat' first | with_reducible apply Act.Within.nop | with_reducible apply w_csRead | with_reducible apply Act.Within.mono (w_toCd ..) | with_reducible refine within_when' ?_ | decide +kernel | with_reducible apply Act.Within.dyn | with_reducible apply within_ite | with_reducible apply Act.Within.seq | with_reducible apply within_seqs_cons | with_reducible apply within_seqs_nil | with_reducible intro _ | split | dsimp only

def ft_stopStart : Foot :=
  { flds := [.boot .bootPhase], regs := [rBOOT_STAT] }

theorem w_stopStart (cause : Nat) : (stopStart cause).Within ft_stopStart := by
  unfold stopStart
  repeat' first | with_reducible apply Act.Within.nop | with_reducible apply within_setFld | (with_reducible apply within_upd; exact ⟨_, rfl, by decide +kernel⟩) | decide +kernel | with_reducible apply Act.Within.dyn | with_reducible apply within_ite | with_reducible apply Act.Within.seq | with_reducible apply within_seqs_cons | with_reducible apply within_seqs_nil | with_reducible intro _ | split | dsimp only

def ft_readJournal : Foot :=
  { flds := [.boot .flashAt, .boot .journal, .boot .jrnNext], regs := [rBOOT_ERR, rBOOT_FLASH] }

theorem w_readJournal : (readJournal).Within ft_readJournal := by
  unfold readJournal
  repeat' first | with_reducible apply Act.Within.nop | with_reducible apply Act.Within.mono (w_appendJournal ..) | with_reducible apply w_setErr | with_reducible apply within_each | with_reducible refine within_when' ?_ | with_reducible apply within_whenS | (with_reducible apply within_upd; exact ⟨_, rfl, by decide +kernel⟩) | decide +kernel | exact errOk_none _ _ | exact errOk_any (by decide +kernel) | with_reducible apply Act.Within.dyn | with_reducible apply within_ite | with_reducible apply Act.Within.seq | with_reducible apply within_seqs_cons | with_reducible apply within_seqs_nil | with_reducible intro _ | split | dsimp only

theorem w_storeMigration (q : Option (Nat × List Byte)) : (storeMigration q).Within ft_writeJournalAt := by
  unfold storeMigration
  repeat' first | with_reducible apply Act.Within.nop | with_reducible apply Act.Within.mono (w_appendJournal ..) | with_reducible apply Act.Within.mono (w_eraseSectors ..) | with_reducible apply Act.Within.mono (w_programFlash ..) | with_reducible apply within_withSome | decide +kernel | with_reducible apply Act.Within.dyn | with_reducible apply within_ite | with_reducible apply Act.Within.seq | with_reducible apply within_seqs_cons | with_reducible apply within_seqs_nil | with_reducible intro _ | split | dsimp only

def ft_shadowFrom : Foot :=
  { flds := [], regs := [rTOP_CORDON, rTOP_CTL, rTOP_PORT, rTOP_PORT_ID, rTOP_SELF] }

theorem w_shadowFrom (t : LiveTop) (ctl : Nat) : (shadowFrom t ctl).Within ft_shadowFrom := by
  unfold shadowFrom
  repeat' first | with_reducible apply Act.Within.nop | with_reducible apply within_each | with_reducible apply within_setReg | decide +kernel | with_reducible apply Act.Within.dyn | with_reducible apply within_ite | with_reducible apply Act.Within.seq | with_reducible apply within_seqs_cons | with_reducible apply within_seqs_nil | with_reducible intro _ | split | dsimp only

def ft_topoDefault : Foot :=
  { flds := [.log .logWr, .log .logLost, .log .logIntake, .log .ibiHold, .log .ibiWait, .out .ibis, .top .live], regs := [rBOOT_ERR, rBOOT_STAT, rINT_CNT, rTOP_CORDON, rTOP_CTL, rTOP_PORT, rTOP_PORT_ID, rTOP_SELF] }

theorem w_topoDefault : (topoDefault).Within ft_topoDefault := by
  unfold topoDefault
  repeat' first | with_reducible apply Act.Within.nop | with_reducible apply w_incA | with_reducible apply Act.Within.mono (w_shadowFrom ..) | with_reducible apply within_setFld | (with_reducible apply within_upd; exact ⟨_, rfl, by decide +kernel⟩) | decide +kernel | exact errOk_none _ _ | exact errOk_any (by decide +kernel) | with_reducible apply Act.Within.dyn | with_reducible apply within_ite | with_reducible apply Act.Within.seq | with_reducible apply within_seqs_cons | with_reducible apply within_seqs_nil | with_reducible intro _ | split | dsimp only

def ft_loadTopo : Foot :=
  { flds := [.log .logWr, .log .logLost, .log .logIntake, .log .ibiHold, .log .ibiWait, .out .ibis, .lnk .port, .top .live], regs := [rBOOT_ERR, rBOOT_STAT, rINT_CNT, rTOP_CORDON, rTOP_CTL, rTOP_ERR, rTOP_PORT, rTOP_PORT_ID, rTOP_SELF] }

theorem w_loadTopo : (loadTopo).Within ft_loadTopo := by
  unfold loadTopo
  repeat' first | with_reducible apply Act.Within.nop | with_reducible apply Act.Within.mono (w_commitTop ..) | with_reducible apply Act.Within.mono (w_shadowFrom ..) | with_reducible apply Act.Within.mono (w_topoDefault ..) | with_reducible refine within_when' ?_ | decide +kernel | with_reducible apply Act.Within.dyn | with_reducible apply within_ite | with_reducible apply Act.Within.seq | with_reducible apply within_seqs_cons | with_reducible apply within_seqs_nil | with_reducible intro _ | split | dsimp only

def ft_trainUcie : Foot :=
  { flds := [.que .ucieUp, .que .ucieRep, .que .ucieOn, .log .logWr, .log .logLost, .log .logIntake, .log .ibiHold, .log .ibiWait, .out .ibis], regs := [rINT_CNT, rQUE_ERR] }

theorem w_trainUcie (obs : StartObs) : (trainUcie obs).Within ft_trainUcie := by
  unfold trainUcie
  repeat' first | with_reducible apply Act.Within.nop | with_reducible apply w_incA | with_reducible apply w_incident | with_reducible apply within_each | with_reducible refine within_when' ?_ | (with_reducible apply within_upd; exact ⟨_, rfl, by decide +kernel⟩) | decide +kernel | exact errOk_none _ _ | exact errOk_any (by decide +kernel) | with_reducible apply Act.Within.dyn | with_reducible apply within_ite | with_reducible apply Act.Within.seq | with_reducible apply within_seqs_cons | with_reducible apply within_seqs_nil | with_reducible intro _ | split | dsimp only

def ft_trainT2 : Foot :=
  { flds := [.fresh, .fab .bay, .fab .slot, .fab .newSlot, .fab .site, .fab .credit, .fab .creditFly, .fab .wire, .fab .lastGrant, .fab .island, .cell .acell, .cell .acc, .cell .run16At, .cell .lane, .cell .laneBad, .cell .arrived, .cell .got, .cell .cout, .cell .scell, .cell .line, .exh .load, .exh .wdogWait, .mov .move, .ten .tenant, .ten .slice, .int .haltCause, .log .logWr, .log .logLost, .log .logIntake, .log .ibiHold, .log .ibiWait, .out .ibis, .out .sentFlits, .lnk .port, .lnk .lnkQ, .lnk .localLost], regs := [rFAB_BAY_FENCE, rFAB_BAY_FORCE, rFAB_BAY_ON, rINT_CNT, rINT_ERR, rLNK_ERR, rLNK_NOTICE_CNT, rT2C_ERR, rT2C_STAT] }

theorem w_trainT2 (obs : StartObs) : (trainT2 obs).Within ft_trainT2 := by
  unfold trainT2
  repeat' first | with_reducible apply Act.Within.nop | with_reducible apply Act.Within.mono (w_haltModule ..) | with_reducible apply w_incident | with_reducible apply within_setReg | decide +kernel | exact errOk_none _ _ | exact errOk_any (by decide +kernel) | with_reducible apply Act.Within.dyn | with_reducible apply within_ite | with_reducible apply Act.Within.seq | with_reducible apply within_seqs_cons | with_reducible apply within_seqs_nil | with_reducible intro _ | split | dsimp only

def ft_trainT3 : Foot :=
  { flds := [.log .logWr, .log .logLost, .log .logIntake, .log .ibiHold, .log .ibiWait, .out .ibis], regs := [rINT_CNT, rT3C_ERR, rT3C_STAT] }

theorem w_trainT3 (obs : StartObs) : (trainT3 obs).Within ft_trainT3 := by
  unfold trainT3
  repeat' first | with_reducible apply Act.Within.nop | with_reducible apply w_incident | with_reducible apply within_setReg | decide +kernel | exact errOk_none _ _ | exact errOk_any (by decide +kernel) | with_reducible apply Act.Within.dyn | with_reducible apply within_ite | with_reducible apply Act.Within.seq | with_reducible apply within_seqs_cons | with_reducible apply within_seqs_nil | with_reducible intro _ | split | dsimp only

theorem w_reserveAtStart (fails : Nat) : (reserveAtStart fails).Within ft_reserveTry := by
  unfold reserveAtStart
  repeat' first | with_reducible apply Act.Within.nop | with_reducible apply Act.Within.mono (w_reserveTry ..) | with_reducible apply Act.Within.mono (w_startReserve ..) | with_reducible apply within_each | with_reducible apply within_whenS | decide +kernel | with_reducible apply Act.Within.dyn | with_reducible apply within_ite | with_reducible apply Act.Within.seq | with_reducible apply within_seqs_cons | with_reducible apply within_seqs_nil | with_reducible intro _ | split | dsimp only

def ft_answer : Foot :=
  { flds := [.out .resp], regs := [] }

theorem w_answer (code : SbCode) (vals : List Nat) : (answer code vals).Within ft_answer := by
  unfold answer
  repeat' first | with_reducible apply Act.Within.nop | (with_reducible apply within_upd; exact ⟨_, rfl, by decide +kernel⟩) | decide +kernel | with_reducible apply Act.Within.dyn | with_reducible apply within_ite | with_reducible apply Act.Within.seq | with_reducible apply within_seqs_cons | with_reducible apply within_seqs_nil | with_reducible intro _ | split | dsimp only

theorem w_answerOk : (answerOk).Within ft_answer := by
  unfold answerOk
  repeat' first | with_reducible apply Act.Within.nop | with_reducible apply Act.Within.mono (w_answer ..) | decide +kernel | with_reducible apply Act.Within.dyn | with_reducible apply within_ite | with_reducible apply Act.Within.seq | with_reducible apply within_seqs_cons | with_reducible apply within_seqs_nil | with_reducible intro _ | split | dsimp only

theorem w_request {p : Foot} {v : Service} {a : Act} (h : Foot.le { flds := [.out .resp], regs := [] } p = true)
    (ha : a.Within p) : (request v a).Within p := by
  exact .dyn fun _ => within_when' (within_ite ha
    (Act.Within.mono (p := { flds := [.out .resp], regs := [] }) (within_upd ⟨_, rfl, by decide +kernel⟩) h))

theorem w_ccc {p : Foot} {a : Act} (h : a.Within p) : (ccc a).Within p := within_whenS h

def ft_mctpPacketA : Foot :=
  { flds := [.log .logWr, .log .logLost, .log .logIntake, .log .ibiHold, .log .ibiWait, .out .ibis], regs := [rINT_CNT, rMON_ERR, rMON_MGMT] }

theorem w_mctpPacketA (pecOk : Bool) : (mctpPacketA pecOk).Within ft_mctpPacketA := by
  unfold mctpPacketA
  repeat' first | with_reducible apply Act.Within.nop | with_reducible apply w_ccc | with_reducible apply w_incA | with_reducible refine within_when' ?_ | with_reducible apply within_addFld | decide +kernel | exact errOk_none _ _ | exact errOk_any (by decide +kernel) | with_reducible apply Act.Within.dyn | with_reducible apply within_ite | with_reducible apply Act.Within.seq | with_reducible apply within_seqs_cons | with_reducible apply within_seqs_nil | with_reducible intro _ | split | dsimp only

theorem w_readSensor (known : Bool) (k : Nat) : (readSensor known k).Within ft_answer := by
  unfold readSensor
  repeat' first | with_reducible apply Act.Within.nop | with_reducible apply Act.Within.mono (w_answer ..) | decide +kernel | with_reducible apply Act.Within.dyn | with_reducible apply within_ite | with_reducible apply Act.Within.seq | with_reducible apply within_seqs_cons | with_reducible apply within_seqs_nil | with_reducible intro _ | split | dsimp only

theorem w_writeEffecter {p : Foot} (h : Fld.mon .effecter ∈ p.flds) (e v : Nat) {a : Act} (ha : a.Within p) :
    (writeEffecter e v a).Within p := .seq ha (.dyn fun _ => within_upd ⟨_, rfl, h⟩)

def ft_setNumericA : Foot :=
  { flds := [.fab .island, .srv .req, .log .logWr, .log .logLost, .log .logIntake, .log .ibiHold, .log .ibiWait, .mon .effecter, .out .resp, .out .ibis], regs := [rINT_CNT, rPWR_BRAKE, rPWR_CAP, rPWR_ERR, rPWR_GUAR, rSRV_ADMIT_CTL] }

theorem w_setNumericA (e v : Nat) : (setNumericA e v).Within ft_setNumericA := by
  unfold setNumericA
  repeat' first | with_reducible apply Act.Within.nop | with_reducible apply Act.Within.mono (w_answer ..) | with_reducible apply Act.Within.mono (w_answerOk ..) | with_reducible apply w_writeEffecter | with_reducible apply Act.Within.mono (w_writeLevel ..) | with_reducible apply Act.Within.mono (w_writeTarget ..) | decide +kernel | with_reducible apply Act.Within.dyn | with_reducible apply within_ite | with_reducible apply Act.Within.seq | with_reducible apply within_seqs_cons | with_reducible apply within_seqs_nil | with_reducible intro _ | split | dsimp only

theorem w_readEffecter (known : Bool) (e : Nat) : (readEffecter known e).Within ft_answer := by
  unfold readEffecter
  repeat' first | with_reducible apply Act.Within.nop | with_reducible apply Act.Within.mono (w_answer ..) | decide +kernel | with_reducible apply Act.Within.dyn | with_reducible apply within_ite | with_reducible apply Act.Within.seq | with_reducible apply within_seqs_cons | with_reducible apply within_seqs_nil | with_reducible intro _ | split | dsimp only

theorem w_logReadA (seq n : Nat) : (logReadA seq n).Within ft_answer := by
  unfold logReadA
  repeat' first | with_reducible apply Act.Within.nop | with_reducible apply Act.Within.mono (w_answer ..) | decide +kernel | with_reducible apply Act.Within.dyn | with_reducible apply within_ite | with_reducible apply Act.Within.seq | with_reducible apply within_seqs_cons | with_reducible apply within_seqs_nil | with_reducible intro _ | split | dsimp only

def ft_censusReadA : Foot :=
  { flds := [.mon .census, .out .resp], regs := [] }

theorem w_censusReadA (u : Nat) (snap clear : Bool) : (censusReadA u snap clear).Within ft_censusReadA := by
  unfold censusReadA
  repeat' first | with_reducible apply Act.Within.nop | with_reducible apply Act.Within.mono (w_answer ..) | with_reducible apply Act.Within.mono (w_censusClearA ..) | with_reducible apply Act.Within.mono (w_censusSnapA ..) | with_reducible refine within_when' ?_ | decide +kernel | with_reducible apply Act.Within.dyn | with_reducible apply within_ite | with_reducible apply Act.Within.seq | with_reducible apply within_seqs_cons | with_reducible apply within_seqs_nil | with_reducible intro _ | split | dsimp only

def ft_lvAttestA : Foot :=
  { flds := [.mem, .poison, .out .resp, .sec .idxTried, .sec .attQ, .sec .attBuf, .sec .attBufSt], regs := [rSEC_ATT_CTL, rSEC_ERR, rSEC_IDX] }

theorem w_lvAttestA (identity : Bool) (nonce : List Byte) : (lvAttestA identity nonce).Within ft_lvAttestA := by
  unfold lvAttestA
  repeat' first | with_reducible apply Act.Within.nop | with_reducible apply Act.Within.mono (w_answer ..) | with_reducible apply Act.Within.mono (w_answerOk ..) | with_reducible apply Act.Within.mono (w_attPump ..) | (with_reducible apply within_upd; exact ⟨_, rfl, by decide +kernel⟩) | decide +kernel | with_reducible apply Act.Within.dyn | with_reducible apply within_ite | with_reducible apply Act.Within.seq | with_reducible apply within_seqs_cons | with_reducible apply within_seqs_nil | with_reducible intro _ | split | dsimp only

theorem w_attestReadA (off len : Nat) : (attestReadA off len).Within ft_answer := by
  unfold attestReadA
  repeat' first | with_reducible apply Act.Within.nop | with_reducible apply Act.Within.mono (w_answer ..) | decide +kernel | with_reducible apply Act.Within.dyn | with_reducible apply within_ite | with_reducible apply Act.Within.seq | with_reducible apply within_seqs_cons | with_reducible apply within_seqs_nil | with_reducible intro _ | split | dsimp only

def ft_disagree : Foot :=
  { flds := [.log .logWr, .log .logLost, .log .logIntake, .log .ibiHold, .log .ibiWait, .mon .effecter, .out .ibis], regs := [rINT_CNT, rMON_ERR, rMON_VIEW] }

theorem w_disagree (e : Nat) : (disagree e).Within ft_disagree := by
  unfold disagree
  repeat' first | with_reducible apply Act.Within.nop | with_reducible apply w_incA | with_reducible apply within_addFld | with_reducible apply w_modEffecter | decide +kernel | exact errOk_none _ _ | exact errOk_any (by decide +kernel) | with_reducible apply Act.Within.dyn | with_reducible apply within_ite | with_reducible apply Act.Within.seq | with_reducible apply within_seqs_cons | with_reducible apply within_seqs_nil | with_reducible intro _ | split | dsimp only

theorem w_checkEffecter (e : Nat) : (checkEffecter e).Within ft_disagree := by
  unfold checkEffecter
  repeat' first | with_reducible apply Act.Within.nop | with_reducible apply Act.Within.mono (w_disagree ..) | with_reducible refine within_when' ?_ | with_reducible apply within_withSome | (with_reducible apply within_upd; exact ⟨_, rfl, by decide +kernel⟩) | decide +kernel | with_reducible apply Act.Within.dyn | with_reducible apply within_ite | with_reducible apply Act.Within.seq | with_reducible apply within_seqs_cons | with_reducible apply within_seqs_nil | with_reducible intro _ | split | dsimp only

def ft_viewRefreshA : Foot :=
  { flds := [.fresh, .log .logWr, .log .logLost, .log .logIntake, .log .ibiHold, .log .ibiWait, .mon .viewVal, .mon .viewAt, .mon .viewStale, .mon .effecter, .out .ibis], regs := [rINT_CNT, rMON_ERR, rMON_VIEW] }

theorem w_viewRefreshA : (viewRefreshA).Within ft_viewRefreshA := by
  unfold viewRefreshA
  repeat' first | with_reducible apply Act.Within.nop | with_reducible apply w_ccc | with_reducible apply Act.Within.mono (w_checkEffecter ..) | with_reducible apply within_withFresh | with_reducible apply within_each | with_reducible apply within_setFld | (with_reducible apply within_upd; exact ⟨_, rfl, by decide +kernel⟩) | decide +kernel | with_reducible apply Act.Within.dyn | with_reducible apply within_ite | with_reducible apply Act.Within.seq | with_reducible apply within_seqs_cons | with_reducible apply within_seqs_nil | with_reducible intro _ | split | dsimp only

theorem w_effecterDisagreeA (e : Nat) : (effecterDisagreeA e).Within ft_disagree := by
  unfold effecterDisagreeA
  repeat' first | with_reducible apply Act.Within.nop | with_reducible apply Act.Within.mono (w_disagree ..) | with_reducible refine within_when' ?_ | with_reducible apply within_withSome | decide +kernel | with_reducible apply Act.Within.dyn | with_reducible apply within_ite | with_reducible apply Act.Within.seq | with_reducible apply within_seqs_cons | with_reducible apply within_seqs_nil | with_reducible intro _ | split | dsimp only

def ft_idleTick : Foot :=
  { flds := [.now, .mem, .poison, .fresh, .fab .bay, .fab .slot, .fab .newSlot, .fab .site, .fab .credit, .fab .creditFly, .fab .wire, .fab .lastGrant, .fab .island, .cell .acell, .cell .acc, .cell .run16At, .cell .lane, .cell .laneBad, .cell .arrived, .cell .got, .cell .cout, .cell .scell, .cell .line, .exh .load, .exh .imgEntry, .exh .wdogWait, .mov .iq, .mov .move, .mov .allocs, .srv .srvSt, .srv .req, .srv .pfx, .srv .srvStep, .srv .svcPins, .que .pair, .que .intake, .que .cmd, .que .nextCmd, .que .scanner, .ten .tenant, .ten .engFrac, .ten .slice, .ten .scanWord, .ten .scanBay, .ten .scanDir, .ten .scanWant, .int .holdOn, .log .logWr, .log .logLost, .log .logIntake, .log .ibiHold, .log .ibiWait, .out .ibis, .out .sentFlits, .upd .updSt, .upd .updBegun, .upd .updManifest, .upd .heldRows, .lnk .port, .lnk .lnkQ, .lnk .stream, .lnk .localFlits, .lnk .localLost, .top .slewLeft, .top .slewFrac, .top .timeBehind, .top .timeFrac], regs := [rACL_CNT, rACL_ERR, rACL_ERR_SITE, rDOC_ERR, rDOC_IQ_CTL, rEXH_ERR, rEXH_ERR_SITE, rFAB_BAY_FENCE, rFAB_BAY_FORCE, rFAB_ERR, rFAB_ERR_SITE, rINT_CNT, rINT_ERR, rLNK_ERR, rLNK_NOTICE_CNT, rQUE_ERR, rQUE_PAIR_CFG, rSCL_CE_CNT, rSCL_ERR, rSCL_ERR_ADDR, rSCL_ERR_SITE, rSRV_CTL, rSRV_ERR, rSRV_SVC_CFG, rT1C_CE_CNT, rT1C_ERR, rT1C_ERR_ADDR, rT2C_CE_CNT, rT2C_ERR, rT2C_ERR_ADDR, rT3C_CE_CNT, rT3C_ERR, rT3C_ERR_ADDR, rTEN_ACC_CYC, rTEN_ACC_LINK, rTEN_ACC_T1, rTEN_ACC_T2, rTEN_ACC_T3, rTEN_CTL, rTEN_ERR, rTEN_RESET, rUPD_STAT] }

theorem w_idleTick : (idleTick).Within ft_idleTick := by
  unfold idleTick
  repeat' first | with_reducible apply Act.Within.nop | with_reducible apply Act.Within.mono (w_engineTick ..) | with_reducible apply Act.Within.mono (w_settleHold ..) | with_reducible apply Act.Within.mono (w_settleLocal ..) | with_reducible apply Act.Within.mono (w_stallTick ..) | with_reducible apply Act.Within.mono (w_timeTick ..) | with_reducible apply within_whenS | decide +kernel | with_reducible apply Act.Within.dyn | with_reducible apply within_ite | with_reducible apply Act.Within.seq | with_reducible apply within_seqs_cons | with_reducible apply within_seqs_nil | with_reducible intro _ | split | dsimp only

end Sys2Proof.Machine
end

