-- ==== Sys2Proof/Laws/Reg.lean ====
section
/-!
SUPPORT. Fields and flags of registers after they are written.
-/

namespace Sys2Proof.Machine

theorem testBit_bits (hi lo v j : Nat) : (bits hi lo v).testBit j = (decide (j < hi + 1 - lo) && v.testBit (lo + j)) := by
  simp only [bits, Nat.testBit_mod_two_pow, Nat.testBit_shiftRight]

theorem setBits_eq (hi lo v x : Nat) (h : lo ≤ hi) :
    setBits hi lo v x = 2 ^ (hi + 1) * (v / 2 ^ (hi + 1)) + (2 ^ lo * (x % 2 ^ (hi + 1 - lo)) + v % 2 ^ lo) := by
  obtain ⟨w, hw⟩ : ∃ w, hi + 1 = lo + w := ⟨hi + 1 - lo, by omega⟩
  have hw' : lo + w - lo = w := by omega
  simp only [setBits, bits, place, hw, hw', Nat.shiftLeft_eq, Nat.shiftRight_eq_div_pow]
  have h3 : v / 2 ^ (lo + w) = v / 2 ^ lo / 2 ^ w := by rw [Nat.pow_add, Nat.div_div_eq_div_mul]
  have h1 : 2 ^ lo * (2 ^ w * (v / 2 ^ lo / 2 ^ w) + v / 2 ^ lo % 2 ^ w) + v % 2 ^ lo = v := by
    rw [Nat.div_add_mod, Nat.div_add_mod]
  rw [h3, Nat.pow_add]
  generalize v / 2 ^ lo / 2 ^ w = c at *
  generalize v / 2 ^ lo % 2 ^ w = m at *
  generalize v % 2 ^ lo = l at *
  generalize x % 2 ^ w = y
  have e1 : v = 2 ^ lo * 2 ^ w * c + m * 2 ^ lo + l := by rw [← h1]; ring
  have e2 : v - m * 2 ^ lo = 2 ^ lo * 2 ^ w * c + l := by omega
  rw [e2]; ring

theorem testBit_setBits (hi lo v x j : Nat) (h : lo ≤ hi) :
    (setBits hi lo v x).testBit j = if lo ≤ j ∧ j ≤ hi then x.testBit (j - lo) else v.testBit j := by
  rw [setBits_eq hi lo v x h]
  have hm : 2 ^ lo * (x % 2 ^ (hi + 1 - lo)) + v % 2 ^ lo < 2 ^ (hi + 1) := by
    have a : x % 2 ^ (hi + 1 - lo) < 2 ^ (hi + 1 - lo) := Nat.mod_lt _ (by positivity)
    have b : v % 2 ^ lo < 2 ^ lo := Nat.mod_lt _ (by positivity)
    have c : 2 ^ (hi + 1) = 2 ^ lo * 2 ^ (hi + 1 - lo) := by rw [← Nat.pow_add]; congr 1; omega
    rw [c]
    calc _ < 2 ^ lo * (x % 2 ^ (hi + 1 - lo)) + 2 ^ lo := by omega
      _ = 2 ^ lo * (x % 2 ^ (hi + 1 - lo) + 1) := by ring
      _ ≤ _ := Nat.mul_le_mul_left _ a
  rw [Nat.testBit_two_pow_mul_add _ hm, Nat.testBit_two_pow_mul_add _ (Nat.mod_lt _ (by positivity))]
  by_cases h1 : j < hi + 1
  · rw [if_pos h1]
    by_cases h2 : j < lo
    · rw [if_pos h2, if_neg (by omega), Nat.testBit_mod_two_pow]; simp [h2]
    · rw [if_neg h2, if_pos ⟨by omega, by omega⟩, Nat.testBit_mod_two_pow]
      simp [show j - lo < hi + 1 - lo by omega]
  · rw [if_neg h1, if_neg (by omega), Nat.testBit_div_two_pow]; congr 1; omega

/-- Every bit of a field is a bit of the register that is not reserved. -/
def covers (off hi lo : Nat) : Bool :=
  decide (lo ≤ hi) && decide (hi < 64) && decide (bits hi lo (regMask off) = 2 ^ (hi + 1 - lo) - 1)

theorem covers_bit {off hi lo j : Nat} (h : covers off hi lo = true) (h1 : lo ≤ j) (h2 : j ≤ hi) :
    (regMask off).testBit j = true ∧ j < 64 := by
  simp only [covers, Bool.and_eq_true, decide_eq_true_eq] at h
  have := congrArg (fun n => n.testBit (j - lo)) h.2
  simp only [testBit_bits, Nat.testBit_two_pow_sub_one] at this
  rw [show lo + (j - lo) = j by omega] at this
  simp only [show j - lo < hi + 1 - lo by omega, decide_true, Bool.true_and] at this
  exact ⟨this, by omega⟩

theorem testBit_ofNat64 (v j : Nat) : (BitVec.ofNat 64 v).toNat.testBit j = (decide (j < 64) && v.testBit j) := by
  simp only [BitVec.toNat_ofNat, Nat.testBit_mod_two_pow]

theorem flag_setFld (off hi lo x i j : Nat) (s : State) (h : off < 2 ^ 24) (hl : lo ≤ hi)
    (hc : covers off j j = true) :
    (run (setFld off hi lo x i) s).flag off j i = if lo ≤ j ∧ j ≤ hi then x.testBit (j - lo) else s.flag off j i := by
  have hm := covers_bit hc (Nat.le_refl j) (Nat.le_refl j)
  simp only [State.flag, setFld, run_dyn, run_upd, applyUpd_reg_reg _ _ _ _ _ _ h h, and_self, if_true,
    testBit_ofNat64, Nat.testBit_and, hm.1, hm.2, decide_true, Bool.true_and, Bool.and_true, testBit_setBits _ _ _ _ _ hl]

theorem fld_setFld (off hi lo x i : Nat) (s : State) (h : off < 2 ^ 24) (hc : covers off hi lo = true) :
    (run (setFld off hi lo x i) s).fld off hi lo i = x % 2 ^ (hi + 1 - lo) := by
  have hl : lo ≤ hi := by simp only [covers, Bool.and_eq_true, decide_eq_true_eq] at hc; exact hc.1.1
  refine Nat.eq_of_testBit_eq fun j => ?_
  simp only [State.fld, setFld, run_dyn, run_upd, applyUpd_reg_reg _ _ _ _ _ _ h h, and_self, if_true, testBit_bits,
    testBit_ofNat64, Nat.testBit_and, testBit_setBits _ _ _ _ _ hl, Nat.testBit_mod_two_pow]
  by_cases hj : j < hi + 1 - lo
  · have hm := covers_bit hc (Nat.le_add_right lo j) (by omega)
    simp [hj, hm.1, hm.2, show lo + j ≤ hi by omega]
  · simp [hj]

/-- Another field of the same entry. -/
theorem fld_setFld_other (off hi lo x i hi' lo' : Nat) (s : State) (h : off < 2 ^ 24) (hl : lo ≤ hi)
    (hc : covers off hi' lo' = true) (hd : hi < lo' ∨ hi' < lo) :
    (run (setFld off hi lo x i) s).fld off hi' lo' i = s.fld off hi' lo' i := by
  refine Nat.eq_of_testBit_eq fun j => ?_
  simp only [State.fld, setFld, run_dyn, run_upd, applyUpd_reg_reg _ _ _ _ _ _ h h, and_self, if_true, testBit_bits,
    testBit_ofNat64, Nat.testBit_and, testBit_setBits _ _ _ _ _ hl]
  by_cases hj : j < hi' + 1 - lo'
  · have hm := covers_bit hc (Nat.le_add_right lo' j) (by omega)
    simp [hj, hm.1, hm.2, show ¬ (lo ≤ lo' + j ∧ lo' + j ≤ hi) by omega]
  · simp [hj]

/-- A field of a register entry that is written whole. -/
theorem fld_setReg (off v i hi lo : Nat) (s : State) (h : off < 2 ^ 24) (hc : covers off hi lo = true) :
    (run (setReg off v i) s).fld off hi lo i = bits hi lo v := by
  refine Nat.eq_of_testBit_eq fun j => ?_
  simp only [State.fld, setReg_reg _ _ _ _ h, testBit_bits, testBit_ofNat64, Nat.testBit_and]
  by_cases hj : j < hi + 1 - lo
  · have hm := covers_bit hc (Nat.le_add_right lo j) (by omega)
    simp [hj, hm.1, hm.2]
  · simp [hj]

theorem flag_orReg (off m i j : Nat) (s : State) (h : off < 2 ^ 24) (hc : covers off j j = true) :
    (run (orReg off m i) s).flag off j i = (s.flag off j i || m.testBit j) := by
  have hm := covers_bit hc (Nat.le_refl j) (Nat.le_refl j)
  simp only [State.flag, orReg, run_dyn, run_upd, applyUpd_reg_reg _ _ _ _ _ _ h h, and_self, if_true, testBit_ofNat64,
    Nat.testBit_and, Nat.testBit_or, hm.1, hm.2, decide_true, Bool.true_and, Bool.and_true]

theorem fld_addFld (off hi lo n i : Nat) (s : State) (h : off < 2 ^ 24) (hc : covers off hi lo = true) :
    (run (addFld off hi lo n i) s).fld off hi lo i = sat (hi + 1 - lo) (s.fld off hi lo i + n) := by
  simp only [addFld, run_dyn, fld_setFld _ _ _ _ _ _ h hc]
  refine Nat.mod_eq_of_lt ?_
  have : 0 < 2 ^ (hi + 1 - lo) := by positivity
  simp only [sat]; omega

/-- A script that may not write a register leaves its fields and flags. -/
theorem Foot.Frame.fld {p : Foot} {s t : State} (f : p.Frame s t) (off hi lo i : Nat) (h : off < 2 ^ 24)
    (hn : off ∉ p.regs) : t.fld off hi lo i = s.fld off hi lo i := by
  simp only [State.fld, f.2.2.2 off i h hn]

theorem Foot.Frame.flag {p : Foot} {s t : State} (f : p.Frame s t) (off j i : Nat) (h : off < 2 ^ 24)
    (hn : off ∉ p.regs) : t.flag off j i = s.flag off j i := by
  simp only [State.flag, f.2.2.2 off i h hn]

end Sys2Proof.Machine
end

