-- ==== Sys2Proof/Laws/Keep.lean ====
section
/-!
SUPPORT. What each reader reads after a script that may not change its part.
-/

namespace Sys2Proof.Machine

variable {p : Foot} {a : Act}

theorem keep_now (h : a.Within p) (hn : Fld.now ∉ p.flds) (s : State) : (run a s).now = s.now := (h.frame s).2.2.1 _ hn
theorem keep_fresh (h : a.Within p) (hn : Fld.fresh ∉ p.flds) (s : State) : (run a s).fresh = s.fresh := (h.frame s).2.2.1 _ hn
theorem keep_byte (h : a.Within p) (hn : Fld.mem ∉ p.flds) (s : State) (k : Nat) : (run a s).byte k = s.byte k := by
  have e : (run a s).mem = s.mem := (h.frame s).2.2.1 _ hn
  simp only [State.byte, e]
theorem keep_bad (h : a.Within p) (hn : Fld.poison ∉ p.flds) (s : State) (k : Nat) : (run a s).bad k = s.bad k := by
  have e : (run a s).poison = s.poison := (h.frame s).2.2.1 _ hn
  simp only [State.bad, e]
theorem keep_bay (h : a.Within p) (hn : Fld.fab .bay ∉ p.flds) (s : State) (k : Nat) : (run a s).bay k = s.bay k := by
  have e : (run a s).fab.bays = s.fab.bays := (h.frame s).2.2.1 _ hn
  simp only [State.bay, e]
theorem keep_slot (h : a.Within p) (hn : Fld.fab .slot ∉ p.flds) (s : State) (k : Nat) : (run a s).slot k = s.slot k := by
  have e : (run a s).fab.slots = s.fab.slots := (h.frame s).2.2.1 _ hn
  simp only [State.slot, e]
theorem keep_newSlot (h : a.Within p) (hn : Fld.fab .newSlot ∉ p.flds) (s : State) (k : Nat) : (run a s).newSlot k = s.newSlot k := by
  have e : (run a s).fab.newSlots = s.fab.newSlots := (h.frame s).2.2.1 _ hn
  simp only [State.newSlot, e]
theorem keep_site (h : a.Within p) (hn : Fld.fab .site ∉ p.flds) (s : State) (k : Nat) : (run a s).site k = s.site k := by
  have e : (run a s).fab.sites = s.fab.sites := (h.frame s).2.2.1 _ hn
  simp only [State.site, e]
theorem keep_credit (h : a.Within p) (hn : Fld.fab .credit ∉ p.flds) (s : State) (k : Nat) : (run a s).credit k = s.credit k := by
  have e : (run a s).fab.credits = s.fab.credits := (h.frame s).2.2.1 _ hn
  simp only [State.credit, e]
theorem keep_creditFly (h : a.Within p) (hn : Fld.fab .creditFly ∉ p.flds) (s : State) (k : Nat) : (run a s).creditFly k = s.creditFly k := by
  have e : (run a s).fab.creditsFly = s.fab.creditsFly := (h.frame s).2.2.1 _ hn
  simp only [State.creditFly, e]
theorem keep_wire (h : a.Within p) (hn : Fld.fab .wire ∉ p.flds) (s : State) (k : Nat) : (run a s).wire k = s.wire k := by
  have e : (run a s).fab.wires = s.fab.wires := (h.frame s).2.2.1 _ hn
  simp only [State.wire, e]
theorem keep_lastGrant (h : a.Within p) (hn : Fld.fab .lastGrant ∉ p.flds) (s : State) (k : Nat) : (run a s).lastGrant k = s.lastGrant k := by
  have e : (run a s).fab.lastGrant = s.fab.lastGrant := (h.frame s).2.2.1 _ hn
  simp only [State.lastGrant, e]
theorem keep_island (h : a.Within p) (hn : Fld.fab .island ∉ p.flds) (s : State) (k : Nat) : (run a s).island k = s.island k := by
  have e : (run a s).fab.islands = s.fab.islands := (h.frame s).2.2.1 _ hn
  simp only [State.island, e]
theorem keep_acell (h : a.Within p) (hn : Fld.cell .acell ∉ p.flds) (s : State) (k : Nat) : (run a s).acell k = s.acell k := by
  have e : (run a s).cell.acells = s.cell.acells := (h.frame s).2.2.1 _ hn
  simp only [State.acell, e]
theorem keep_acc (h : a.Within p) (hn : Fld.cell .acc ∉ p.flds) (s : State) (k : Nat) : (run a s).acc k = s.acc k := by
  have e : (run a s).cell.accs = s.cell.accs := (h.frame s).2.2.1 _ hn
  simp only [State.acc, e]
theorem keep_run16At (h : a.Within p) (hn : Fld.cell .run16At ∉ p.flds) (s : State) (k : Nat) : (run a s).run16At k = s.run16At k := by
  have e : (run a s).cell.runs = s.cell.runs := (h.frame s).2.2.1 _ hn
  simp only [State.run16At, e]
theorem keep_lane (h : a.Within p) (hn : Fld.cell .lane ∉ p.flds) (s : State) (k : Nat) : (run a s).lane k = s.lane k := by
  have e : (run a s).cell.lanes = s.cell.lanes := (h.frame s).2.2.1 _ hn
  simp only [State.lane, e]
theorem keep_laneBad (h : a.Within p) (hn : Fld.cell .laneBad ∉ p.flds) (s : State) (k : Nat) : (run a s).laneBad k = s.laneBad k := by
  have e : (run a s).cell.lanePoison = s.cell.lanePoison := (h.frame s).2.2.1 _ hn
  simp only [State.laneBad, e]
theorem keep_arrived (h : a.Within p) (hn : Fld.cell .arrived ∉ p.flds) (s : State) (k : Nat) : (run a s).arrived k = s.arrived k := by
  have e : (run a s).cell.arr = s.cell.arr := (h.frame s).2.2.1 _ hn
  simp only [State.arrived, e]
theorem keep_got (h : a.Within p) (hn : Fld.cell .got ∉ p.flds) (s : State) (k : Nat) : (run a s).got k = s.got k := by
  have e : (run a s).cell.got = s.cell.got := (h.frame s).2.2.1 _ hn
  simp only [State.got, e]
theorem keep_cout (h : a.Within p) (hn : Fld.cell .cout ∉ p.flds) (s : State) (k : Nat) : (run a s).cout k = s.cout k := by
  have e : (run a s).cell.cout = s.cell.cout := (h.frame s).2.2.1 _ hn
  simp only [State.cout, e]
theorem keep_scell (h : a.Within p) (hn : Fld.cell .scell ∉ p.flds) (s : State) (k : Nat) : (run a s).scell k = s.scell k := by
  have e : (run a s).cell.scells = s.cell.scells := (h.frame s).2.2.1 _ hn
  simp only [State.scell, e]
theorem keep_line (h : a.Within p) (hn : Fld.cell .line ∉ p.flds) (s : State) (k : Nat) : (run a s).line k = s.line k := by
  have e : (run a s).cell.lines = s.cell.lines := (h.frame s).2.2.1 _ hn
  simp only [State.line, e]
theorem keep_load (h : a.Within p) (hn : Fld.exh .load ∉ p.flds) (s : State) (k : Nat) : (run a s).load k = s.load k := by
  have e : (run a s).exh.loads = s.exh.loads := (h.frame s).2.2.1 _ hn
  simp only [State.load, e]
theorem keep_imgEntry (h : a.Within p) (hn : Fld.exh .imgEntry ∉ p.flds) (s : State) (k : Nat) : (run a s).imgEntry k = s.imgEntry k := by
  have e : (run a s).exh.imgs = s.exh.imgs := (h.frame s).2.2.1 _ hn
  simp only [State.imgEntry, e]
theorem keep_split (h : a.Within p) (hn : Fld.exh .split ∉ p.flds) (s : State) (k : Nat) : (run a s).split k = s.split k := by
  have e : (run a s).exh.splits = s.exh.splits := (h.frame s).2.2.1 _ hn
  simp only [State.split, e]
theorem keep_imgStamp (h : a.Within p) (hn : Fld.exh .imgStamp ∉ p.flds) (s : State) : (run a s).imgStamp = s.imgStamp := by
  have e : (run a s).exh.stamp = s.exh.stamp := (h.frame s).2.2.1 _ hn
  simp only [State.imgStamp, e]
theorem keep_wdogWait (h : a.Within p) (hn : Fld.exh .wdogWait ∉ p.flds) (s : State) (k : Nat) : (run a s).wdogWait k = s.wdogWait k := by
  have e : (run a s).exh.wdogWait = s.exh.wdogWait := (h.frame s).2.2.1 _ hn
  simp only [State.wdogWait, e]
theorem keep_doc (h : a.Within p) (hn : Fld.mov .doc ∉ p.flds) (s : State) (k : Nat) : (run a s).doc k = s.doc k := by
  have e : (run a s).mov.docs = s.mov.docs := (h.frame s).2.2.1 _ hn
  simp only [State.doc, e]
theorem keep_iq (h : a.Within p) (hn : Fld.mov .iq ∉ p.flds) (s : State) (k : Nat) : (run a s).iq k = s.iq k := by
  have e : (run a s).mov.iqs = s.mov.iqs := (h.frame s).2.2.1 _ hn
  simp only [State.iq, e]
theorem keep_move (h : a.Within p) (hn : Fld.mov .move ∉ p.flds) (s : State) (k : Nat) : (run a s).move k = s.move k := by
  have e : (run a s).mov.moves = s.mov.moves := (h.frame s).2.2.1 _ hn
  simp only [State.move, e]
theorem keep_nextMove (h : a.Within p) (hn : Fld.mov .nextMove ∉ p.flds) (s : State) : (run a s).nextMove = s.nextMove := by
  have e : (run a s).mov.nextMove = s.mov.nextMove := (h.frame s).2.2.1 _ hn
  simp only [State.nextMove, e]
theorem keep_allocs (h : a.Within p) (hn : Fld.mov .allocs ∉ p.flds) (s : State) : (run a s).allocs = s.allocs := by
  have e : (run a s).mov.allocs = s.mov.allocs := (h.frame s).2.2.1 _ hn
  simp only [State.allocs, e]
theorem keep_calMiss (h : a.Within p) (hn : Fld.mov .calMiss ∉ p.flds) (s : State) (k : Nat) : (run a s).calMiss k = s.calMiss k := by
  have e : (run a s).mov.calMiss = s.mov.calMiss := (h.frame s).2.2.1 _ hn
  simp only [State.calMiss, e]
theorem keep_arbiter (h : a.Within p) (hn : Fld.arb .arbiter ∉ p.flds) (s : State) (k : Nat) : (run a s).arbiter k = s.arbiter k := by
  have e : (run a s).arb.arbs = s.arb.arbs := (h.frame s).2.2.1 _ hn
  simp only [State.arbiter, e]
theorem keep_arbReq (h : a.Within p) (hn : Fld.arb .arbReq ∉ p.flds) (s : State) (k : Nat) : (run a s).arbReq k = s.arbReq k := by
  have e : (run a s).arb.reqs = s.arb.reqs := (h.frame s).2.2.1 _ hn
  simp only [State.arbReq, e]
theorem keep_srvSt (h : a.Within p) (hn : Fld.srv .srvSt ∉ p.flds) (s : State) : (run a s).srvSt = s.srvSt := by
  have e : (run a s).srv.st = s.srv.st := (h.frame s).2.2.1 _ hn
  simp only [State.srvSt, e]
theorem keep_req (h : a.Within p) (hn : Fld.srv .req ∉ p.flds) (s : State) (k : Nat) : (run a s).req k = s.req k := by
  have e : (run a s).srv.reqs = s.srv.reqs := (h.frame s).2.2.1 _ hn
  simp only [State.req, e]
theorem keep_pfx (h : a.Within p) (hn : Fld.srv .pfx ∉ p.flds) (s : State) (k : Nat) : (run a s).pfx k = s.pfx k := by
  have e : (run a s).srv.pfxs = s.srv.pfxs := (h.frame s).2.2.1 _ hn
  simp only [State.pfx, e]
theorem keep_srvStep (h : a.Within p) (hn : Fld.srv .srvStep ∉ p.flds) (s : State) (k : Nat) : (run a s).srvStep k = s.srvStep k := by
  have e : (run a s).srv.steps = s.srv.steps := (h.frame s).2.2.1 _ hn
  simp only [State.srvStep, e]
theorem keep_svcPins (h : a.Within p) (hn : Fld.srv .svcPins ∉ p.flds) (s : State) (k : Nat) : (run a s).svcPins k = s.svcPins k := by
  have e : (run a s).srv.pins = s.srv.pins := (h.frame s).2.2.1 _ hn
  simp only [State.svcPins, e]
theorem keep_reqStamp (h : a.Within p) (hn : Fld.srv .reqStamp ∉ p.flds) (s : State) : (run a s).reqStamp = s.reqStamp := by
  have e : (run a s).srv.stamp = s.srv.stamp := (h.frame s).2.2.1 _ hn
  simp only [State.reqStamp, e]
theorem keep_smp (h : a.Within p) (hn : Fld.srv .smp ∉ p.flds) (s : State) (k : Nat) : (run a s).smp k = s.smp k := by
  have e : (run a s).srv.smps = s.srv.smps := (h.frame s).2.2.1 _ hn
  simp only [State.smp, e]
theorem keep_pair (h : a.Within p) (hn : Fld.que .pair ∉ p.flds) (s : State) (k : Nat) : (run a s).pair k = s.pair k := by
  have e : (run a s).que.pairs = s.que.pairs := (h.frame s).2.2.1 _ hn
  simp only [State.pair, e]
theorem keep_intake (h : a.Within p) (hn : Fld.que .intake ∉ p.flds) (s : State) (k : Nat) : (run a s).intake k = s.intake k := by
  have e : (run a s).que.intakes = s.que.intakes := (h.frame s).2.2.1 _ hn
  simp only [State.intake, e]
theorem keep_cmd (h : a.Within p) (hn : Fld.que .cmd ∉ p.flds) (s : State) (k : Nat) : (run a s).cmd k = s.cmd k := by
  have e : (run a s).que.cmds = s.que.cmds := (h.frame s).2.2.1 _ hn
  simp only [State.cmd, e]
theorem keep_nextCmd (h : a.Within p) (hn : Fld.que .nextCmd ∉ p.flds) (s : State) : (run a s).nextCmd = s.nextCmd := by
  have e : (run a s).que.nextCmd = s.que.nextCmd := (h.frame s).2.2.1 _ hn
  simp only [State.nextCmd, e]
theorem keep_scanner (h : a.Within p) (hn : Fld.que .scanner ∉ p.flds) (s : State) : (run a s).scanner = s.scanner := by
  have e : (run a s).que.scanner = s.que.scanner := (h.frame s).2.2.1 _ hn
  simp only [State.scanner, e]
theorem keep_rotStart (h : a.Within p) (hn : Fld.que .rotStart ∉ p.flds) (s : State) : (run a s).rotStart = s.rotStart := by
  have e : (run a s).que.rotStart = s.que.rotStart := (h.frame s).2.2.1 _ hn
  simp only [State.rotStart, e]
theorem keep_rotLast (h : a.Within p) (hn : Fld.que .rotLast ∉ p.flds) (s : State) : (run a s).rotLast = s.rotLast := by
  have e : (run a s).que.rotLast = s.que.rotLast := (h.frame s).2.2.1 _ hn
  simp only [State.rotLast, e]
theorem keep_ucieUp (h : a.Within p) (hn : Fld.que .ucieUp ∉ p.flds) (s : State) : (run a s).ucieUp = s.ucieUp := by
  have e : (run a s).que.ucieUp = s.que.ucieUp := (h.frame s).2.2.1 _ hn
  simp only [State.ucieUp, e]
theorem keep_ucieRep (h : a.Within p) (hn : Fld.que .ucieRep ∉ p.flds) (s : State) : (run a s).ucieRep = s.ucieRep := by
  have e : (run a s).que.ucieRep = s.que.ucieRep := (h.frame s).2.2.1 _ hn
  simp only [State.ucieRep, e]
theorem keep_ucieOn (h : a.Within p) (hn : Fld.que .ucieOn ∉ p.flds) (s : State) : (run a s).ucieOn = s.ucieOn := by
  have e : (run a s).que.ucieOn = s.que.ucieOn := (h.frame s).2.2.1 _ hn
  simp only [State.ucieOn, e]
theorem keep_tenant (h : a.Within p) (hn : Fld.ten .tenant ∉ p.flds) (s : State) (k : Nat) : (run a s).tenant k = s.tenant k := by
  have e : (run a s).ten.tenants = s.ten.tenants := (h.frame s).2.2.1 _ hn
  simp only [State.tenant, e]
theorem keep_engFrac (h : a.Within p) (hn : Fld.ten .engFrac ∉ p.flds) (s : State) (k : Nat) : (run a s).engFrac k = s.engFrac k := by
  have e : (run a s).ten.engFrac = s.ten.engFrac := (h.frame s).2.2.1 _ hn
  simp only [State.engFrac, e]
theorem keep_slice (h : a.Within p) (hn : Fld.ten .slice ∉ p.flds) (s : State) (k : Nat) : (run a s).slice k = s.slice k := by
  have e : (run a s).ten.slices = s.ten.slices := (h.frame s).2.2.1 _ hn
  simp only [State.slice, e]
theorem keep_scanWord (h : a.Within p) (hn : Fld.ten .scanWord ∉ p.flds) (s : State) (k : Nat) : (run a s).scanWord k = s.scanWord k := by
  have e : (run a s).ten.scanStore = s.ten.scanStore := (h.frame s).2.2.1 _ hn
  simp only [State.scanWord, e]
theorem keep_scanBay (h : a.Within p) (hn : Fld.ten .scanBay ∉ p.flds) (s : State) : (run a s).scanBay = s.scanBay := by
  have e : (run a s).ten.scanBay = s.ten.scanBay := (h.frame s).2.2.1 _ hn
  simp only [State.scanBay, e]
theorem keep_scanDir (h : a.Within p) (hn : Fld.ten .scanDir ∉ p.flds) (s : State) : (run a s).scanDir = s.scanDir := by
  have e : (run a s).ten.scanDir = s.ten.scanDir := (h.frame s).2.2.1 _ hn
  simp only [State.scanDir, e]
theorem keep_scanWant (h : a.Within p) (hn : Fld.ten .scanWant ∉ p.flds) (s : State) : (run a s).scanWant = s.scanWant := by
  have e : (run a s).ten.scanWant = s.ten.scanWant := (h.frame s).2.2.1 _ hn
  simp only [State.scanWant, e]
theorem keep_haltCause (h : a.Within p) (hn : Fld.int .haltCause ∉ p.flds) (s : State) : (run a s).haltCause = s.haltCause := by
  have e : (run a s).int.halt = s.int.halt := (h.frame s).2.2.1 _ hn
  simp only [State.haltCause, e]
theorem keep_holdOn (h : a.Within p) (hn : Fld.int .holdOn ∉ p.flds) (s : State) : (run a s).holdOn = s.holdOn := by
  have e : (run a s).int.holdOn = s.int.holdOn := (h.frame s).2.2.1 _ hn
  simp only [State.holdOn, e]
theorem keep_chk (h : a.Within p) (hn : Fld.int .chk ∉ p.flds) (s : State) (k : Nat) : (run a s).chk k = s.chk k := by
  have e : (run a s).int.chks = s.int.chks := (h.frame s).2.2.1 _ hn
  simp only [State.chk, e]
theorem keep_logWr (h : a.Within p) (hn : Fld.log .logWr ∉ p.flds) (s : State) : (run a s).logWr = s.logWr := by
  have e : (run a s).log.wr = s.log.wr := (h.frame s).2.2.1 _ hn
  simp only [State.logWr, e]
theorem keep_logLost (h : a.Within p) (hn : Fld.log .logLost ∉ p.flds) (s : State) : (run a s).logLost = s.logLost := by
  have e : (run a s).log.lost = s.log.lost := (h.frame s).2.2.1 _ hn
  simp only [State.logLost, e]
theorem keep_logIntake (h : a.Within p) (hn : Fld.log .logIntake ∉ p.flds) (s : State) : (run a s).logIntake = s.logIntake := by
  have e : (run a s).log.intake = s.log.intake := (h.frame s).2.2.1 _ hn
  simp only [State.logIntake, e]
theorem keep_logSlot (h : a.Within p) (hn : Fld.log .logSlot ∉ p.flds) (s : State) (k : Nat) : (run a s).logSlot k = s.logSlot k := by
  have e : (run a s).log.slots = s.log.slots := (h.frame s).2.2.1 _ hn
  simp only [State.logSlot, e]
theorem keep_logLatch (h : a.Within p) (hn : Fld.log .logLatch ∉ p.flds) (s : State) : (run a s).logLatch = s.logLatch := by
  have e : (run a s).log.latch = s.log.latch := (h.frame s).2.2.1 _ hn
  simp only [State.logLatch, e]
theorem keep_ibiHold (h : a.Within p) (hn : Fld.log .ibiHold ∉ p.flds) (s : State) : (run a s).ibiHold = s.ibiHold := by
  have e : (run a s).log.ibiHold = s.log.ibiHold := (h.frame s).2.2.1 _ hn
  simp only [State.ibiHold, e]
theorem keep_ibiWait (h : a.Within p) (hn : Fld.log .ibiWait ∉ p.flds) (s : State) : (run a s).ibiWait = s.ibiWait := by
  have e : (run a s).log.ibiWait = s.log.ibiWait := (h.frame s).2.2.1 _ hn
  simp only [State.ibiWait, e]
theorem keep_census (h : a.Within p) (hn : Fld.mon .census ∉ p.flds) (s : State) (k : Nat) : (run a s).census k = s.census k := by
  have e : (run a s).mon.census = s.mon.census := (h.frame s).2.2.1 _ hn
  simp only [State.census, e]
theorem keep_viewVal (h : a.Within p) (hn : Fld.mon .viewVal ∉ p.flds) (s : State) (k : Nat) : (run a s).viewVal k = s.viewVal k := by
  have e : (run a s).mon.view = s.mon.view := (h.frame s).2.2.1 _ hn
  simp only [State.viewVal, e]
theorem keep_viewAt (h : a.Within p) (hn : Fld.mon .viewAt ∉ p.flds) (s : State) : (run a s).viewAt = s.viewAt := by
  have e : (run a s).mon.viewAt = s.mon.viewAt := (h.frame s).2.2.1 _ hn
  simp only [State.viewAt, e]
theorem keep_viewStale (h : a.Within p) (hn : Fld.mon .viewStale ∉ p.flds) (s : State) : (run a s).viewStale = s.viewStale := by
  have e : (run a s).mon.stale = s.mon.stale := (h.frame s).2.2.1 _ hn
  simp only [State.viewStale, e]
theorem keep_effecter (h : a.Within p) (hn : Fld.mon .effecter ∉ p.flds) (s : State) (k : Nat) : (run a s).effecter k = s.effecter k := by
  have e : (run a s).mon.effs = s.mon.effs := (h.frame s).2.2.1 _ hn
  simp only [State.effecter, e]
theorem keep_tid (h : a.Within p) (hn : Fld.mon .tid ∉ p.flds) (s : State) : (run a s).tid = s.tid := by
  have e : (run a s).mon.tid = s.mon.tid := (h.frame s).2.2.1 _ hn
  simp only [State.tid, e]
theorem keep_mwl (h : a.Within p) (hn : Fld.mon .mwl ∉ p.flds) (s : State) : (run a s).mwl = s.mwl := by
  have e : (run a s).mon.mwl = s.mon.mwl := (h.frame s).2.2.1 _ hn
  simp only [State.mwl, e]
theorem keep_mrl (h : a.Within p) (hn : Fld.mon .mrl ∉ p.flds) (s : State) : (run a s).mrl = s.mrl := by
  have e : (run a s).mon.mrl = s.mon.mrl := (h.frame s).2.2.1 _ hn
  simp only [State.mrl, e]
theorem keep_cdRead (h : a.Within p) (hn : Fld.out .cdRead ∉ p.flds) (s : State) : (run a s).cdRead = s.cdRead := by
  have e : (run a s).out.cdRead = s.out.cdRead := (h.frame s).2.2.1 _ hn
  simp only [State.cdRead, e]
theorem keep_cdPoison (h : a.Within p) (hn : Fld.out .cdPoison ∉ p.flds) (s : State) : (run a s).cdPoison = s.cdPoison := by
  have e : (run a s).out.cdPoison = s.out.cdPoison := (h.frame s).2.2.1 _ hn
  simp only [State.cdPoison, e]
theorem keep_resp (h : a.Within p) (hn : Fld.out .resp ∉ p.flds) (s : State) : (run a s).resp = s.resp := by
  have e : (run a s).out.resp = s.out.resp := (h.frame s).2.2.1 _ hn
  simp only [State.resp, e]
theorem keep_ibis (h : a.Within p) (hn : Fld.out .ibis ∉ p.flds) (s : State) : (run a s).ibis = s.ibis := by
  have e : (run a s).out.ibis = s.out.ibis := (h.frame s).2.2.1 _ hn
  simp only [State.ibis, e]
theorem keep_sentFlits (h : a.Within p) (hn : Fld.out .sentFlits ∉ p.flds) (s : State) (k : Nat) : (run a s).sentFlits k = s.sentFlits k := by
  have e : (run a s).out.flits = s.out.flits := (h.frame s).2.2.1 _ hn
  simp only [State.sentFlits, e]
theorem keep_thermAlert (h : a.Within p) (hn : Fld.out .thermAlert ∉ p.flds) (s : State) : (run a s).thermAlert = s.thermAlert := by
  have e : (run a s).out.alert = s.out.alert := (h.frame s).2.2.1 _ hn
  simp only [State.thermAlert, e]
theorem keep_nwSt (h : a.Within p) (hn : Fld.pwr .nwSt ∉ p.flds) (s : State) : (run a s).nwSt = s.nwSt := by
  have e : (run a s).pwr.nw = s.pwr.nw := (h.frame s).2.2.1 _ hn
  simp only [State.nwSt, e]
theorem keep_pinBrake (h : a.Within p) (hn : Fld.pwr .pinBrake ∉ p.flds) (s : State) : (run a s).pinBrake = s.pinBrake := by
  have e : (run a s).pwr.pin = s.pwr.pin := (h.frame s).2.2.1 _ hn
  simp only [State.pinBrake, e]
theorem keep_capOver (h : a.Within p) (hn : Fld.pwr .capOver ∉ p.flds) (s : State) : (run a s).capOver = s.capOver := by
  have e : (run a s).pwr.overN = s.pwr.overN := (h.frame s).2.2.1 _ hn
  simp only [State.capOver, e]
theorem keep_capUnder (h : a.Within p) (hn : Fld.pwr .capUnder ∉ p.flds) (s : State) : (run a s).capUnder = s.capUnder := by
  have e : (run a s).pwr.under = s.pwr.under := (h.frame s).2.2.1 _ hn
  simp only [State.capUnder, e]
theorem keep_temp (h : a.Within p) (hn : Fld.pwr .temp ∉ p.flds) (s : State) (k : Nat) : (run a s).temp k = s.temp k := by
  have e : (run a s).pwr.temps = s.pwr.temps := (h.frame s).2.2.1 _ hn
  simp only [State.temp, e]
theorem keep_hotSince (h : a.Within p) (hn : Fld.pwr .hotSince ∉ p.flds) (s : State) (k : Nat) : (run a s).hotSince k = s.hotSince k := by
  have e : (run a s).pwr.hotAt = s.pwr.hotAt := (h.frame s).2.2.1 _ hn
  simp only [State.hotSince, e]
theorem keep_thermAt (h : a.Within p) (hn : Fld.pwr .thermAt ∉ p.flds) (s : State) (k : Nat) : (run a s).thermAt k = s.thermAt k := by
  have e : (run a s).pwr.thermAt = s.pwr.thermAt := (h.frame s).2.2.1 _ hn
  simp only [State.thermAt, e]
theorem keep_bootPhase (h : a.Within p) (hn : Fld.boot .bootPhase ∉ p.flds) (s : State) : (run a s).bootPhase = s.bootPhase := by
  have e : (run a s).boot.phase = s.boot.phase := (h.frame s).2.2.1 _ hn
  simp only [State.bootPhase, e]
theorem keep_bootCause (h : a.Within p) (hn : Fld.boot .bootCause ∉ p.flds) (s : State) : (run a s).bootCause = s.bootCause := by
  have e : (run a s).boot.cause = s.boot.cause := (h.frame s).2.2.1 _ hn
  simp only [State.bootCause, e]
theorem keep_startObs (h : a.Within p) (hn : Fld.boot .startObs ∉ p.flds) (s : State) : (run a s).startObs = s.startObs := by
  have e : (run a s).boot.obs = s.boot.obs := (h.frame s).2.2.1 _ hn
  simp only [State.startObs, e]
theorem keep_flashAt (h : a.Within p) (hn : Fld.boot .flashAt ∉ p.flds) (s : State) (k : Nat) : (run a s).flashAt k = s.flashAt k := by
  have e : (run a s).boot.flash = s.boot.flash := (h.frame s).2.2.1 _ hn
  simp only [State.flashAt, e]
theorem keep_journal (h : a.Within p) (hn : Fld.boot .journal ∉ p.flds) (s : State) : (run a s).journal = s.journal := by
  have e : (run a s).boot.jrn = s.boot.jrn := (h.frame s).2.2.1 _ hn
  simp only [State.journal, e]
theorem keep_jrnNext (h : a.Within p) (hn : Fld.boot .jrnNext ∉ p.flds) (s : State) : (run a s).jrnNext = s.jrnNext := by
  have e : (run a s).boot.jrnNext = s.boot.jrnNext := (h.frame s).2.2.1 _ hn
  simp only [State.jrnNext, e]
theorem keep_cfgSeq (h : a.Within p) (hn : Fld.boot .cfgSeq ∉ p.flds) (s : State) : (run a s).cfgSeq = s.cfgSeq := by
  have e : (run a s).boot.cfgSeq = s.boot.cfgSeq := (h.frame s).2.2.1 _ hn
  simp only [State.cfgSeq, e]
theorem keep_cfgCopy (h : a.Within p) (hn : Fld.boot .cfgCopy ∉ p.flds) (s : State) : (run a s).cfgCopy = s.cfgCopy := by
  have e : (run a s).boot.cfgCopy = s.boot.cfgCopy := (h.frame s).2.2.1 _ hn
  simp only [State.cfgCopy, e]
theorem keep_cfgHash (h : a.Within p) (hn : Fld.boot .cfgHash ∉ p.flds) (s : State) : (run a s).cfgHash = s.cfgHash := by
  have e : (run a s).boot.cfgHash = s.boot.cfgHash := (h.frame s).2.2.1 _ hn
  simp only [State.cfgHash, e]
theorem keep_updSt (h : a.Within p) (hn : Fld.upd .updSt ∉ p.flds) (s : State) : (run a s).updSt = s.updSt := by
  have e : (run a s).upd.st = s.upd.st := (h.frame s).2.2.1 _ hn
  simp only [State.updSt, e]
theorem keep_updBegun (h : a.Within p) (hn : Fld.upd .updBegun ∉ p.flds) (s : State) : (run a s).updBegun = s.updBegun := by
  have e : (run a s).upd.begun = s.upd.begun := (h.frame s).2.2.1 _ hn
  simp only [State.updBegun, e]
theorem keep_updManifest (h : a.Within p) (hn : Fld.upd .updManifest ∉ p.flds) (s : State) : (run a s).updManifest = s.updManifest := by
  have e : (run a s).upd.parts = s.upd.parts := (h.frame s).2.2.1 _ hn
  simp only [State.updManifest, e]
theorem keep_heldRows (h : a.Within p) (hn : Fld.upd .heldRows ∉ p.flds) (s : State) : (run a s).heldRows = s.heldRows := by
  have e : (run a s).upd.held = s.upd.held := (h.frame s).2.2.1 _ hn
  simp only [State.heldRows, e]
theorem keep_updGoAt (h : a.Within p) (hn : Fld.upd .updGoAt ∉ p.flds) (s : State) : (run a s).updGoAt = s.updGoAt := by
  have e : (run a s).upd.goAt = s.upd.goAt := (h.frame s).2.2.1 _ hn
  simp only [State.updGoAt, e]
theorem keep_port (h : a.Within p) (hn : Fld.lnk .port ∉ p.flds) (s : State) (k : Nat) : (run a s).port k = s.port k := by
  have e : (run a s).lnk.ports = s.lnk.ports := (h.frame s).2.2.1 _ hn
  simp only [State.port, e]
theorem keep_lnkQ (h : a.Within p) (hn : Fld.lnk .lnkQ ∉ p.flds) (s : State) (k : Nat) : (run a s).lnkQ k = s.lnkQ k := by
  have e : (run a s).lnk.queues = s.lnk.queues := (h.frame s).2.2.1 _ hn
  simp only [State.lnkQ, e]
theorem keep_pausedBundles (h : a.Within p) (hn : Fld.lnk .pausedBundles ∉ p.flds) (s : State) : (run a s).pausedBundles = s.pausedBundles := by
  have e : (run a s).lnk.paused = s.lnk.paused := (h.frame s).2.2.1 _ hn
  simp only [State.pausedBundles, e]
theorem keep_stream (h : a.Within p) (hn : Fld.lnk .stream ∉ p.flds) (s : State) (k : Nat) : (run a s).stream k = s.stream k := by
  have e : (run a s).lnk.streams = s.lnk.streams := (h.frame s).2.2.1 _ hn
  simp only [State.stream, e]
theorem keep_localFlits (h : a.Within p) (hn : Fld.lnk .localFlits ∉ p.flds) (s : State) : (run a s).localFlits = s.localFlits := by
  have e : (run a s).lnk.own = s.lnk.own := (h.frame s).2.2.1 _ hn
  simp only [State.localFlits, e]
theorem keep_localLost (h : a.Within p) (hn : Fld.lnk .localLost ∉ p.flds) (s : State) : (run a s).localLost = s.localLost := by
  have e : (run a s).lnk.localLost = s.lnk.localLost := (h.frame s).2.2.1 _ hn
  simp only [State.localLost, e]
theorem keep_live (h : a.Within p) (hn : Fld.top .live ∉ p.flds) (s : State) : (run a s).live = s.live := by
  have e : (run a s).top.live = s.top.live := (h.frame s).2.2.1 _ hn
  simp only [State.live, e]
theorem keep_timeLocked (h : a.Within p) (hn : Fld.top .timeLocked ∉ p.flds) (s : State) : (run a s).timeLocked = s.timeLocked := by
  have e : (run a s).top.locked = s.top.locked := (h.frame s).2.2.1 _ hn
  simp only [State.timeLocked, e]
theorem keep_holdover (h : a.Within p) (hn : Fld.top .holdover ∉ p.flds) (s : State) : (run a s).holdover = s.holdover := by
  have e : (run a s).top.holdover = s.top.holdover := (h.frame s).2.2.1 _ hn
  simp only [State.holdover, e]
theorem keep_ppsAt (h : a.Within p) (hn : Fld.top .ppsAt ∉ p.flds) (s : State) : (run a s).ppsAt = s.ppsAt := by
  have e : (run a s).top.ppsAt = s.top.ppsAt := (h.frame s).2.2.1 _ hn
  simp only [State.ppsAt, e]
theorem keep_timeParent (h : a.Within p) (hn : Fld.top .timeParent ∉ p.flds) (s : State) : (run a s).timeParent = s.timeParent := by
  have e : (run a s).top.parent = s.top.parent := (h.frame s).2.2.1 _ hn
  simp only [State.timeParent, e]
theorem keep_timeOffset (h : a.Within p) (hn : Fld.top .timeOffset ∉ p.flds) (s : State) : (run a s).timeOffset = s.timeOffset := by
  have e : (run a s).top.offset = s.top.offset := (h.frame s).2.2.1 _ hn
  simp only [State.timeOffset, e]
theorem keep_timeGood (h : a.Within p) (hn : Fld.top .timeGood ∉ p.flds) (s : State) : (run a s).timeGood = s.timeGood := by
  have e : (run a s).top.good = s.top.good := (h.frame s).2.2.1 _ hn
  simp only [State.timeGood, e]
theorem keep_slewLeft (h : a.Within p) (hn : Fld.top .slewLeft ∉ p.flds) (s : State) : (run a s).slewLeft = s.slewLeft := by
  have e : (run a s).top.slew = s.top.slew := (h.frame s).2.2.1 _ hn
  simp only [State.slewLeft, e]
theorem keep_slewFrac (h : a.Within p) (hn : Fld.top .slewFrac ∉ p.flds) (s : State) : (run a s).slewFrac = s.slewFrac := by
  have e : (run a s).top.slewFrac = s.top.slewFrac := (h.frame s).2.2.1 _ hn
  simp only [State.slewFrac, e]
theorem keep_timeBehind (h : a.Within p) (hn : Fld.top .timeBehind ∉ p.flds) (s : State) : (run a s).timeBehind = s.timeBehind := by
  have e : (run a s).top.behind = s.top.behind := (h.frame s).2.2.1 _ hn
  simp only [State.timeBehind, e]
theorem keep_timeFrac (h : a.Within p) (hn : Fld.top .timeFrac ∉ p.flds) (s : State) : (run a s).timeFrac = s.timeFrac := by
  have e : (run a s).top.frac = s.top.frac := (h.frame s).2.2.1 _ hn
  simp only [State.timeFrac, e]
theorem keep_ident (h : a.Within p) (hn : Fld.sec .ident ∉ p.flds) (s : State) : (run a s).ident = s.ident := by
  have e : (run a s).sec.ident = s.sec.ident := (h.frame s).2.2.1 _ hn
  simp only [State.ident, e]
theorem keep_cred (h : a.Within p) (hn : Fld.sec .cred ∉ p.flds) (s : State) (k : Nat) : (run a s).cred k = s.cred k := by
  have e : (run a s).sec.creds = s.sec.creds := (h.frame s).2.2.1 _ hn
  simp only [State.cred, e]
theorem keep_treeHeld (h : a.Within p) (hn : Fld.sec .treeHeld ∉ p.flds) (s : State) : (run a s).treeHeld = s.treeHeld := by
  have e : (run a s).sec.held = s.sec.held := (h.frame s).2.2.1 _ hn
  simp only [State.treeHeld, e]
theorem keep_idxTried (h : a.Within p) (hn : Fld.sec .idxTried ∉ p.flds) (s : State) : (run a s).idxTried = s.idxTried := by
  have e : (run a s).sec.tried = s.sec.tried := (h.frame s).2.2.1 _ hn
  simp only [State.idxTried, e]
theorem keep_attQ (h : a.Within p) (hn : Fld.sec .attQ ∉ p.flds) (s : State) : (run a s).attQ = s.attQ := by
  have e : (run a s).sec.attQ = s.sec.attQ := (h.frame s).2.2.1 _ hn
  simp only [State.attQ, e]
theorem keep_attBuf (h : a.Within p) (hn : Fld.sec .attBuf ∉ p.flds) (s : State) : (run a s).attBuf = s.attBuf := by
  have e : (run a s).sec.buf = s.sec.buf := (h.frame s).2.2.1 _ hn
  simp only [State.attBuf, e]
theorem keep_attBufSt (h : a.Within p) (hn : Fld.sec .attBufSt ∉ p.flds) (s : State) : (run a s).attBufSt = s.attBufSt := by
  have e : (run a s).sec.bufSt = s.sec.bufSt := (h.frame s).2.2.1 _ hn
  simp only [State.attBufSt, e]
theorem keep_reqLatch (h : a.Within p) (hn : Fld.win .reqLatch ∉ p.flds) (s : State) : (run a s).reqLatch = s.reqLatch := by
  have e : (run a s).win.req = s.win.req := (h.frame s).2.2.1 _ hn
  simp only [State.reqLatch, e]
theorem keep_pfxLatch (h : a.Within p) (hn : Fld.win .pfxLatch ∉ p.flds) (s : State) : (run a s).pfxLatch = s.pfxLatch := by
  have e : (run a s).win.pfx = s.win.pfx := (h.frame s).2.2.1 _ hn
  simp only [State.pfxLatch, e]
theorem keep_fld (h : a.Within p) (off hi lo i : Nat) (ho : off < 2 ^ 24) (hn : off ∉ p.regs) (s : State) :
    (run a s).fld off hi lo i = s.fld off hi lo i := (h.frame s).fld off hi lo i ho hn
theorem keep_flag (h : a.Within p) (off j i : Nat) (ho : off < 2 ^ 24) (hn : off ∉ p.regs) (s : State) :
    (run a s).flag off j i = s.flag off j i := (h.frame s).flag off j i ho hn

end Sys2Proof.Machine
end

