-- ==== Sys2Proof/WellFormed.lean ====
section
/-!
DEFINITION. Which commands are well formed: the bounds the spec sets on operands that no type bounds.
-/

namespace Sys2Proof

open Machine

/-- A control-space offset of an aligned 64-bit register (R12, R490). -/
def wfOff (off : Nat) : Bool := decide (off < 2 ^ 28) && decide (off % 8 = 0)

/-- The command's operands are within the spec's bounds. -/
def Instr.wf : Instr → Bool
  | .cdAccess (.read addr len _) => decide (addr + len ≤ 2 ^ 48) && decide (0 < len)
  | .cdAccess (.write addr data) => decide (addr + data.length ≤ 2 ^ 48) && decide (data ≠ [])
  | .csBadAccess _ off _ => decide (off < 2 ^ 28)
  | .csUnassigned _ off => wfOff off
  | .windowWrite off _ => wfOff off
  | .lvCsRead off => wfOff off
  | .lvCsWrite off _ => wfOff off
  | .regWrite off _ => wfOff off
  | .paramSetWrite off _ => wfOff off
  | .lvAttest _ nonce => decide (nonce.length = 32)
  | .lvAttestRead off _ => decide (off < 2 ^ 16)
  | .arbPresent _ reqs => noDup reqs && decide (reqs ≠ [])
  | .candidateRecord rec _ => decide (rec ≠ [])
  | .capPeriod m => decide (m.bayMj.length = 16)
  | .mctpPacket _ packet => decide (4 ≤ packet.length) && decide (packet.length ≤ 68)
  | _ => true

end Sys2Proof
end

