-- ==== Sys2Proof/Tests/Slice0.lean ====
section
/-!
SUPPORT. Checks: ill-formed commands are refused, small steps do what the spec says, and every statement's hypotheses
are met by a state written out here.
-/

namespace Sys2Proof.Tests

open Sys2Proof Sys2Proof.Machine

set_option maxRecDepth 100000
set_option exponentiation.threshold 4096

/-- The reset state after some primitive changes. -/
def st (l : List Upd) : State := l.foldl (fun s u => applyUpd u s) State.reset

/-- The state that a command answers. -/
def after (i : Instr) (s : State) : State :=
  match exec i s with
  | .next t => t
  | _ => s

/-! ### Well-formedness: one ill-formed command for each check -/

theorem wf_cdRead_range : Instr.wf (.cdAccess (.read (2 ^ 48) 8 [])) = false := by decide
theorem wf_cdRead_len : Instr.wf (.cdAccess (.read 0x10000000000 0 [])) = false := by decide
theorem wf_cdWrite_range : Instr.wf (.cdAccess (.write (2 ^ 48) [1])) = false := by decide
theorem wf_cdWrite_len : Instr.wf (.cdAccess (.write 0x10000000000 [])) = false := by decide
theorem wf_csBadAccess : Instr.wf (.csBadAccess true (2 ^ 28) 4) = false := by decide
theorem wf_csUnassigned : Instr.wf (.csUnassigned true 4) = false := by decide
theorem wf_windowWrite : Instr.wf (.windowWrite 0x1000001 0) = false := by decide
theorem wf_lvCsRead : Instr.wf (.lvCsRead 1) = false := by decide
theorem wf_lvCsWrite : Instr.wf (.lvCsWrite (2 ^ 28) 0) = false := by decide
theorem wf_regWrite : Instr.wf (.regWrite 3 0) = false := by decide
theorem wf_paramSetWrite : Instr.wf (.paramSetWrite 3 0) = false := by decide
theorem wf_lvAttest : Instr.wf (.lvAttest true [1, 2]) = false := by decide
theorem wf_lvAttestRead : Instr.wf (.lvAttestRead (2 ^ 16) 1) = false := by decide
theorem wf_arbPresent_twice : Instr.wf (.arbPresent 3 [1, 1]) = false := by decide
theorem wf_arbPresent_none : Instr.wf (.arbPresent 3 []) = false := by decide
theorem wf_candidateRecord : Instr.wf (.candidateRecord [] false) = false := by decide
theorem wf_capPeriod : Instr.wf (.capPeriod ⟨6300, 5000, 3000, 3000, 30, [1]⟩) = false := by decide
theorem wf_mctpPacket_short : Instr.wf (.mctpPacket true [1, 2, 3]) = false := by decide
theorem wf_mctpPacket_long : Instr.wf (.mctpPacket true (List.replicate 69 0)) = false := by decide
theorem wf_ok : Instr.wf (.regWrite 0x10038 5) = true ∧ Instr.wf (.bayOn 3) = true := by decide

/-! ### Fabric -/

/-- The A-cell's site at row 10, column 10 of die 0, in bay 2, and the S-cell's to its west. -/
def siteA : Site := ⟨0, 10, 10⟩
def siteS : Site := ⟨0, 10, 9⟩

/-- A data token of stream 5, epoch 0; no token; a change of the parity bit. -/
def tok5 : Token := Tok.make 0x1234 false kindData 5 0 false
def tok0 : Token := ⟨0, 0⟩
def flipPar : Token := ⟨0, 0x100⟩

/-- Bay 2 is ALLOCATED, with a token for input 4 of site 330 on the wire. -/
def hop (t : Token) (l : List Upd) : State := st ([.bay 2 { st := .allocated }, .wire (330 * 16 + 4) [t]] ++ l)

/-- A slot of site 330 from input 4 to output 6 (west). -/
def slotW : Slot := { inp := 4, stream := 5, outs := 64 }

theorem wit_TokenHopArrival_idle : (State.reset.bay (keyBay (siteKey siteA))).passes = false := by decide
theorem wit_TokenHopArrival_stopped :
    ((st [.site 330 { stopped := 16 }]).site (siteKey siteA)).stopped.testBit 4 = true := by decide
theorem wit_TokenHopArrival_common :
    ((hop tok5 []).bay (keyBay (siteKey siteA))).passes = true ∧
      ((hop tok5 []).site (siteKey siteA)).stopped.testBit 4 = false ∧ (hop tok5 []).noLocal ∧
      (hop tok5 []).wire (siteKey siteA * 16 + 4) = tok5 :: [] := by unfold State.noLocal; decide
theorem wit_TokenHopArrival_invalid : Tok.valid (tok0.xor tok0) = false ∧ (hop tok0 []).noLocal ∧
    (hop tok0 []).wire (siteKey siteA * 16 + 4) = [tok0] := by unfold State.noLocal; decide
theorem wit_TokenHopArrival_parity : Tok.valid (tok5.xor flipPar) = true ∧ Tok.parityOk (tok5.xor flipPar) = false ∧
    (hop tok5 [.reg rINT_CTL 0 0]).faultAlone 2 :=
  ⟨by decide, by decide, by decide, fun h hh => absurd (show none = some h from hh) (by simp)⟩
theorem wit_TokenHopArrival_noSlot : Tok.valid (tok5.xor tok0) = true ∧ Tok.parityOk (tok5.xor tok0) = true ∧
    (hop tok5 []).slotFor 330 4 (Tok.stream (tok5.xor tok0)) = none ∧ (hop tok5 []).slotStaged 330 4 5 = false := by decide
theorem wit_TokenHopArrival_slot : let s := hop tok5 [.slot (330 * 32 + 3) (some slotW)]
    s.slotFor 330 4 (Tok.stream (tok5.xor tok0)) = some (3, slotW) ∧ slotW.q.length < slotOwnDepth 330 slotW.inp ∧
      slotW.spilled = [] ∧ s.slotsBlocked 330 := by unfold State.slotsBlocked; decide

theorem wit_SwitchForwards_send :
    let s := hop tok5 [.slot (330 * 32 + 3) (some slotW), .credit (330 * 2048 + 6 * 64 + 5) 1]
    (s.bay (keyBay 330)).passes = true ∧ (s.site 330).stopped.testBit 4 = false ∧ s.noLocal ∧
      s.wire (330 * 16 + 4) = tok5 :: [] ∧ Tok.valid (tok5.xor tok0) = true ∧ Tok.parityOk (tok5.xor tok0) = true ∧
      Tok.kind (tok5.xor tok0) ≠ kindMarker ∧ s.slotsOf 330 = [(3, slotW)] ∧ slotW.inp = 4 ∧
      slotW.stream = Tok.stream (tok5.xor tok0) ∧ slotW.q = [] ∧ slotW.spilled = [] ∧ bitsOn 9 slotW.outs = [6] ∧
      neighbour 330 6 = some 329 ∧ 0 < s.credit (330 * 2048 + 6 * 64 + slotW.stream) ∧
      senderKey 330 slotW.inp slotW.stream = some (331 * 2048 + 6 * 64 + 5) := by unfold State.noLocal; decide
theorem wit_SwitchForwards_none : State.reset.noLocal ∧ State.reset.slotsEmpty 330 ∧
    State.reset.creditFly (330 * 2048 + 6 * 64 + 5) = 0 := by unfold State.noLocal State.slotsEmpty; decide
theorem wit_SwitchForwards_back : let s := st [.creditFly (330 * 2048 + 6 * 64 + 5) 1]
    s.noLocal ∧ s.slotsEmpty 330 ∧ 0 < s.creditFly (330 * 2048 + 6 * 64 + 5) := by
  unfold State.noLocal State.slotsEmpty; decide
theorem wit_SwitchForwards_queued :
    let x : Slot := { slotW with q := [tok5] }
    let s := st [.creditFly (330 * 2048 + 6 * 64 + 5) 1, .slot (330 * 32 + 3) (some x)]
    s.noLocal ∧ 0 < s.creditFly (330 * 2048 + 6 * 64 + 5) ∧ s.credit (330 * 2048 + 6 * 64 + 5) = 0 ∧
      s.slotsOf 330 = [(3, x)] ∧ bitsOn 9 x.outs = [6] ∧ neighbour 330 6 = some 329 ∧ Tok.kind tok5 ≠ kindMarker ∧
      (senderKey 330 x.inp x.stream).isSome = true := by unfold State.noLocal; decide
theorem wit_SwitchForwards_cell : State.reset.noLocal ∧ State.reset.slotsEmpty 330 ∧ State.reset.cout (330 * 64 + 5) = [] := by
  unfold State.noLocal State.slotsEmpty; decide

/-- A program of a generator that writes stream 5 to SRAM. -/
theorem wit_TokenConsumed_none : State.reset.arrived (siteKey siteA * 64 + 5) = [] := by decide
theorem wit_TokenConsumed_unwanted : let s := st [.arrived (330 * 64 + 5) [tok5]]
    s.arrived (siteKey siteA * 64 + 5) = tok5 :: [] ∧ s.cellWants (siteKey siteA) 5 = false := by decide
theorem wit_TokenConsumed_marker : Tok.kind (Tok.make 0 false kindMarker 5 0 false) = kindMarker := by decide

/-! ### A-cells -/

/-- Writes of bytes one after another. -/
def poke (a : Nat) (bs : List Byte) : List Upd := ((List.range bs.length).zip bs).map (fun p => .byte (a + p.1) p.2)

/-- The A-cell of site 330 with a program, in an ALLOCATED bay. -/
def acell (a : ACell) (l : List Upd) : State := st ([.bay 2 { st := .allocated, load := some 0 }, .acell 330 a] ++ l)

/-- Step words: TILE from streams 1 and 2, without scales, input or output. -/
def wTile : Nat := place 63 58 opTILE + 1 + place 13 7 2 + place 20 14 127 + place 27 21 127 + place 34 28 127 + place 41 35 127
/-- VEC of two tokens of streams 1 and 2 to stream 3, SFU and REDUCE of one token of stream 1 to stream 3. -/
def wVec : Nat := place 63 58 opVEC + 0 + place 11 5 1 + place 18 12 2 + place 25 19 127 + place 32 26 3 + place 48 33 2
def wSfu : Nat := place 63 58 opSFU + place 9 3 1 + place 16 10 3 + place 32 17 1
def wReduce : Nat := place 63 58 opREDUCE + place 7 1 1 + place 14 8 3 + place 30 15 1
/-- CONV of four tokens of stream 1 to INT8 or BF16 on stream 3, CONST of register 2, LOOP of two words, thrice. -/
def wConv : Nat := place 63 58 opCONV + fBF16 + place 10 4 1 + place 17 11 3 + place 33 18 2
def wConst : Nat := place 63 58 opCONST + 2 + place 35 4 77
def wLoop : Nat := place 63 58 opLOOP + 2 + place 26 11 3

/-- ACFG: INT8 operands, FP32 out, tile code 0, chains of 512. -/
def acfg0 : Nat := fINT8 + place 7 4 fINT8 + place 74 60 512

/-- Tokens for a whole K-tile. -/
def gotTile : List Upd := [.got (330 * 64 + 1) (List.replicate 256 tok5), .got (330 * 64 + 2) (List.replicate 256 tok5)]
def tileCell : ACell := { acfg := some acfg0, steps := [wTile], ended := false }
def busyCell : ACell := { tileCell with tile := some wTile }

theorem wit_TileKLoop_idle : State.reset.aRuns (siteKey siteA) opTILE = none := by decide
theorem wit_TileKLoop_issue : let s := acell tileCell []
    s.aRuns (siteKey siteA) opTILE = some wTile ∧ (s.acell (siteKey siteA)).tile = none ∧
      (s.acell (siteKey siteA)).acfg = some acfg0 := by decide
theorem wit_TileKLoop_noAcfg : let s := acell { tileCell with acfg := none } []
    s.aRuns (siteKey siteA) opTILE = some wTile ∧ (s.acell (siteKey siteA)).acfg = none := by decide
theorem wit_TileKLoop_notWhole : let s := acell busyCell []
    s.aRuns (siteKey siteA) opTILE = some wTile ∧
      s.readsWhole 330 (tileReads (tileCfg acfg0) (s.acell 330) wTile) = false := by decide
theorem wit_TileKLoop_whole : let s := acell busyCell gotTile
    (s.acell 330).tile.isSome = true ∧ s.readsWhole 330 (tileReads (tileCfg acfg0) (s.acell 330) wTile) = true ∧
      (tileCfg acfg0).quart = false ∧ tiPin wTile = selNone ∧ 0 + (tileCfg acfg0).kk ≤ (tileCfg acfg0).chain ∧
      tiOut wTile = selNone ∧ fmtIs16 (tileCfg acfg0).fa = false ∧ (s.acell 330).inj = none := by decide
theorem wit_TileKLoop_chain : let s := acell { busyCell with chainOpen := true, chainLen := 257 } gotTile
    s.readsWhole 330 (tileReads (tileCfg acfg0) (s.acell 330) wTile) = true ∧
      (tileCfg acfg0).chain < (s.acell 330).chainLen + (tileCfg acfg0).kk := by decide

theorem wit_VectorSteps_idle : State.reset.aRuns (siteKey siteA) opVEC = none ∧
    State.reset.aRuns (siteKey siteA) opSFU = none ∧ State.reset.aRuns (siteKey siteA) opREDUCE = none := by decide
theorem wit_VectorSteps_vec :
    let s := acell { steps := [wVec], ended := false } [.got (330 * 64 + 1) [tok5, tok5], .got (330 * 64 + 2) [tok5, tok5]]
    s.aRuns (siteKey siteA) opVEC = some wVec ∧ s.readsWhole 330 (s.acell 330).reads = true ∧ veX wVec < 63 ∧ veY wVec < 63 ∧
      veX wVec ≠ veY wVec ∧ vecUses (veFn wVec) = [0, 1] ∧ veFn wVec ≠ 10 ∧ veOut wVec < 63 ∧ s.portFull 330 (veOut wVec) := by
  unfold State.portFull; decide
theorem wit_VectorSteps_notWhole : let s := acell { steps := [wVec], ended := false } [.got (330 * 64 + 1) [tok5, tok5]]
    s.aRuns (siteKey siteA) opVEC = some wVec ∧ s.readsWhole 330 (s.acell 330).reads = false := by decide
theorem wit_VectorSteps_sfu : let s := acell { steps := [wSfu], ended := false } [.got (330 * 64 + 1) [tok5]]
    s.aRuns (siteKey siteA) opSFU = some wSfu ∧ s.readsWhole 330 (s.acell 330).reads = true ∧ sfX wSfu < 63 ∧ sfOut wSfu < 63 ∧
      s.portFull 330 (sfOut wSfu) := by unfold State.portFull; decide
theorem wit_VectorSteps_reduce : let s := acell { steps := [wReduce], ended := false } [.got (330 * 64 + 1) [tok5]]
    s.aRuns (siteKey siteA) opREDUCE = some wReduce ∧ s.readsWhole 330 (s.acell 330).reads = true ∧ reX wReduce < 63 ∧
      reOut wReduce < 63 ∧ reFn wReduce = 0 ∧ reN wReduce = 1 ∧ s.portFull 330 (reOut wReduce) := by
  unfold State.portFull; decide

theorem wit_CellProgram_idle : State.reset.aRuns (siteKey siteA) opCONST = none ∧
    State.reset.aRuns (siteKey siteA) opLOOP = none ∧ State.reset.aRuns (siteKey siteA) opCONV = none := by decide
theorem wit_CellProgram_const : (acell { steps := [wConst], ended := false } []).aRuns (siteKey siteA) opCONST = some wConst := by
  decide
theorem wit_CellProgram_loop : let s := acell { steps := [wLoop, wVec, wVec], ended := false } []
    s.aRuns (siteKey siteA) opLOOP = some wLoop ∧ s.loopCount 330 wLoop = 3 := by decide
theorem wit_CellProgram_conv : let s := acell { steps := [wConv], ended := false } [.got (330 * 64 + 1) [tok5, tok5]]
    s.aRuns (siteKey siteA) opCONV = some wConv ∧ s.readsWhole 330 (s.acell 330).reads = true ∧ cvX wConv < 63 ∧ cvOut wConv < 63 ∧
      s.portFull 330 (cvOut wConv) ∧ cvFmt wConv ≠ fINT32 ∧ cvFmt wConv < fPARTIAL ∧ fmtIsMx (cvFmt wConv) = false ∧
      fmtIsInt (cvFmt wConv) = false := by unfold State.portFull; decide
theorem wit_CellProgram_inj : State.reset.taken ∧
    (acell {} []).injOk (2 ^ 63 + place 22 17 10 + place 16 11 10 + place 10 7 6) = true := by unfold State.taken; decide

/-- CONST stores its value, LOOP enters its body (R146, R516). -/
theorem test_const : ((after (.constStep siteA) (acell { steps := [wConst], ended := false } [])).acell 330).consts =
    [0, 0, 77, 0, 0, 0, 0, 0, 0, 0, 0, 0, 0, 0, 0, 0] := by decide
theorem test_loop : ((after (.loopStep siteA) (acell { steps := [wLoop, wVec, wVec], ended := false } [])).acell 330).pc = 1 := by
  decide

/-! ### S-cells -/

/-- A generator's program: a mode, INT8, stream 5, ring 0, object slot 0, two steps of 64 elements through dimension 0,
whose extent stands in shape slot 0. -/
def agProg (mode : Nat) : Nat :=
  mode + place 5 2 fINT8 + place 11 6 5 + place 22 20 2 + (2 + place 35 20 64 + place 49 36 1 + place 89 50 64) <<< 23
    + ((List.range 5).map (fun l => place 19 17 1 <<< agLvl (l + 1))).sum
/-- The same with a RUNTIME count at level 0. -/
def agRun (mode : Nat) : Nat := agProg mode + 2 ^ 39

/-- The S-cell of site 329 with a program in generator 0 and a ring of four lines; extent 128. -/
def scell (p : Nat) (idx : List Nat) (l : List Upd) : State :=
  st ([.bay 2 { st := .allocated, load := some 0 },
    .load 0 { st := .running, bays := 4, shape := some 128 :: List.replicate 31 none,
              binds := some 3 :: List.replicate 15 none },
    .scell 329 { gens := [{ prog := some p, running := true, idx := idx }, {}],
                 rings := some { lines := 4, slots := 0 } :: List.replicate 7 none }] ++ l)
def idx0 : List Nat := [0, 0, 0, 0, 0, 0]

/-- Copy 3 lies spread over bay 2's vaults. -/
def copy3 : Obj := { addr := 4096, tier := 1, whole := true, size := 2 ^ 20, bays := 4, rowLo := 0, rowHi := 39, stripe := 9 }

/-- The point's own extent and the generator's context. -/
def ready (s : State) (mode : Nat) (q : GenCtx → Bool) : Prop := (s.genReady (siteKey siteS) 0 mode).any q = true

theorem wit_GeneratorsIdle_none : ∀ m ∈ [modeFABRD, modeFABWR, modeT1RD, modeT1WR],
    State.reset.genReady (siteKey siteS) 0 m = none := by decide
theorem wit_GeneratorsIdle_over : ∀ m ∈ [modeFABRD, modeFABWR, modeT1RD, modeT1WR],
    ready (scell (agRun m) [2, 0, 0, 0, 0, 0] []) m (fun x => decide (overPlan x.p x.idx = some 0)) := by
  unfold ready; decide
theorem wit_GeneratorsIdle_slot : let s := scell (agProg modeFABRD + 2 ^ (23 + 50)) [1, 5, 0, 0, 0, 0] []
    ready s modeFABRD (fun x => decide (overPlan x.p x.idx = none) && decide (x.scale = none)) := by unfold ready; decide
theorem wit_GeneratorsIdle_outside :
    ready (scell (agProg modeFABRD + place 49 36 7 <<< 23) [1, 0, 0, 0, 0, 0] []) modeFABRD (fun x =>
      decide (overPlan x.p x.idx = none) && decide (x.scale = none) && !x.inSlot x.line) := by unfold ready; decide

/-- The generator is at a point of the kind that `q` says, with no scale pass and no level over its plan. -/
def point (s : State) (mode : Nat) (q : GenCtx → Nat → Bool) : Prop :=
  ready s mode (fun x => decide (overPlan x.p x.idx = none) && decide (x.scale = none) &&
    q x (validMask (agFmt x.p) (s.walkValid 329 x.p x.idx)))

theorem wit_FabricWalks_rdInvalid : let s := scell (agProg modeFABRD) [2, 0, 0, 0, 0, 0] []
    point s modeFABRD (fun x m => decide (m = 0) && decide (agStream x.p = 5)) ∧ s.portFull (siteKey siteS) 5 := by
  unfold point ready State.portFull; decide
theorem wit_FabricWalks_rd : let s := scell (agProg modeFABRD) [1, 0, 0, 0, 0, 0] []
    point s modeFABRD (fun x m => decide (m ≠ 0) && x.inSlot x.line && decide (x.line.toNat = 1)) ∧ s.portFull 329 5 ∧
      (s.line (329 * 8192 + 1)).poison = false ∧ (s.line (329 * 8192 + 1)).finds .clean = .clean := by
  unfold point ready State.portFull; decide
theorem wit_FabricWalks_rdPoison : let s := scell (agProg modeFABRD) [1, 0, 0, 0, 0, 0] [.line (329 * 8192 + 1) { poison := true }]
    point s modeFABRD (fun x m => decide (m ≠ 0) && x.inSlot x.line) ∧ (s.line (329 * 8192 + 1)).poison = true := by
  unfold point ready; decide
theorem wit_FabricWalks_wrInvalid : let s := scell (agProg modeFABWR) [2, 0, 0, 0, 0, 0] [.got (329 * 64 + 5) [tok5]]
    point s modeFABWR (fun _ m => decide (m = 0)) ∧ s.got (siteKey siteS * 64 + 5) = [tok5] := by unfold point ready; decide
theorem wit_FabricWalks_wr : let s := scell (agProg modeFABWR) idx0 [.got (329 * 64 + 5) [tok5]]
    point s modeFABWR (fun x m => decide (m = allBits) && x.inSlot x.line) ∧ s.got (329 * 64 + 5) = [tok5] ∧
      Tok.poison tok5 = false := by unfold point ready; decide
theorem wit_FabricWalks_wrPoison : Tok.poison (Tok.setPoison tok5) = true ∧
    point (scell (agProg modeFABWR) idx0 [.got (329 * 64 + 5) [Tok.setPoison tok5]]) modeFABWR
      (fun x m => decide (m ≠ 0) && x.inSlot x.line) := by unfold point ready; decide
/-- Only 40 of 64 elements valid: a part of a line. -/
def partCell (l : List Upd) : State :=
  scell (agProg modeFABWR) idx0 ([.load 0 { st := .running, bays := 4, shape := some 40 :: List.replicate 31 none }] ++ l)
theorem wit_FabricWalks_wrPart : let s := partCell [.got (329 * 64 + 5) [tok5]]
    point s modeFABWR (fun x m => decide (m ≠ 0) && decide (m ≠ allBits) && x.inSlot x.line) ∧
      (s.line (329 * 8192)).poison = false ∧ (s.line (329 * 8192)).inj = 0 := by unfold point ready; decide
theorem wit_FabricWalks_wrPartPoison :
    ((partCell [.line (329 * 8192) { poison := true }, .got (329 * 64 + 5) [tok5]]).line (329 * 8192)).poison = true := by decide

/-- The first byte that a walk of copy 3 reaches at the S-cell. -/
def byte3 : Nat := keyVault 329 * vaultBytes + 4096
/-- At T1's side: copy 3 bound, the walk's first point, the bytes consecutive from `byte3` and inside the share. -/
def t1Cell (mode : Nat) (l : List Upd) : State := scell (agProg mode) idx0 (poke (State.reset.objAddr 3) (objBytes copy3) ++ l)
def t1Point (s : State) (mode : Nat) : Prop := ready s mode (fun x =>
  let w := s.t1Work x
  decide (overPlan x.p x.idx = none) && decide (w.1 = (List.range 64).map (fun i => (((byte3 + i : Nat) : Int), true))) &&
    decide (w.2.1 = allBits) && x.inSlot w.2.2 && decide (overShare (s.shareOf x) (validBeats w.1) = none) &&
    (s.bound x).isSome && decide (w.2.2.toNat = 0))
theorem wit_T1Walks_read : let s := t1Cell modeT1RD []
    t1Point s modeT1RD ∧ (∀ i, i < 64 → s.bad (byte3 + i) = false) ∧ 0 < 64 := by unfold t1Point ready; decide
theorem wit_T1Walks_readPoison : let s := t1Cell modeT1RD [.bad (byte3 / 32) true]
    t1Point s modeT1RD ∧ ∃ i, i < 64 ∧ s.bad (byte3 + i) = true := by
  unfold t1Point ready; exact ⟨by decide, 0, by decide, by decide⟩
theorem wit_T1Walks_write : let s := t1Cell modeT1WR []
    t1Point s modeT1WR ∧ byte3 % 32 = 0 ∧ (s.line (329 * 8192)).poison = false ∧
      (s.line (329 * 8192)).finds .clean = .clean := by unfold t1Point ready; decide
theorem wit_T1Walks_writePoison : let s := t1Cell modeT1WR [.line (329 * 8192) { poison := true }]
    t1Point s modeT1WR ∧ (s.line (329 * 8192)).poison = true := by unfold t1Point ready; decide

theorem wit_SramUpkeep_writeBack :
    ((st [.scell 329 { writeBack := [6143] }]).scell (siteKey siteS)).writeBack.contains 6143 = true := by decide
theorem wit_SramUpkeep_corrected : let s := st [.bay 2 { st := .idle }, .line (329 * 8192 + 15) { inj := 1 }]
    s.flag rSCL_SCRUB 16 = true ∧ keyIsA (siteKey siteS) = false ∧ (s.bay (keyBay 329)).powered = true ∧
      (s.bay (keyBay 329)).st ≠ .scanning ∧ lget 0 (s.scell 329).scrubRow 15 = 0 ∧
      (s.line (329 * 8192 + 15)).poison = false ∧ (s.line (329 * 8192 + 15)).finds .clean = .corrected := by decide
theorem wit_SramUpkeep_bad : ({ inj := 2 } : Line).finds .clean = .uncorrectable ∧
    ({} : Line).finds .uncorrectable = .uncorrectable := by decide
theorem wit_SramUpkeep_regs : State.reset.taken := by unfold State.taken; decide
theorem wit_SramUpkeep_inj : let s := st [.bay 2 { st := .allocated }]; let u := 2 ^ 63 + place 36 24 6143 + place 22 17 10 + place 16 11 9
    u &&& regMask rSCL_INJ = u ∧ u.testBit 63 = true ∧ bits 22 17 u ≤ 39 ∧ bits 16 11 u ≤ 31 ∧ keyIsA (mkKey 0 10 9) = false ∧
      bits 36 24 u ≤ 6143 ∧ (s.line (mkKey 0 10 9 * 8192 + 6143)).poison = false ∧
      (s.bay (keyBay (mkKey 0 10 9))).st = .allocated := by decide

/-- SCL_INJ flips a bit of the line it names (R130). -/
theorem test_sclInj : ((after (.sclInj (BitVec.ofNat 64 (2 ^ 63 + place 36 24 6143 + place 22 17 10 + place 16 11 9)))
    (st [.bay 2 { st := .allocated }])).line (329 * 8192 + 6143)).inj = 1 := by decide

/-! ### Tokens consumed, bay power, clocks -/

/-- A token of stream 1 with an epoch. -/
def tokE (e : Nat) : Token := Tok.make 7 false kindData 1 e false
/-- The SFU step of site 330 waits for a token of stream 1, which has arrived. -/
def waits (t : Token) : State := acell { steps := [wSfu], ended := false } [.arrived (330 * 64 + 1) [t]]
theorem wit_TokenConsumed_take : (waits (tokE 0)).arrived (siteKey siteA * 64 + 1) = tokE 0 :: [] ∧
    Tok.kind (tokE 0) ≠ kindMarker ∧ (waits (tokE 0)).cellWants (siteKey siteA) 1 = true ∧
    ((waits (tokE 0)).bay (keyBay (siteKey siteA))).passes = true ∧
    Tok.epoch (tokE 0) = (waits (tokE 0)).cellEpoch (siteKey siteA) := by decide
theorem wit_TokenConsumed_stale : (waits (tokE 3)).cellWants (siteKey siteA) 1 = true ∧
    Tok.epoch (tokE 3) ≠ (waits (tokE 3)).cellEpoch (siteKey siteA) := by decide
theorem wit_TokenConsumed_residue : Tok.residueOk ((tokE 0).xor ⟨0, 1⟩) = false := by decide
theorem wit_TokenConsumed_reserved : Tok.kind (Tok.make 7 false kindReserved 1 0 false) = kindReserved := by decide

/-- A load holds bay 2 and runs command 9 of pair 3. -/
def busyBay (x : Bay) : State :=
  st [.bay 2 x, .load 1 { st := .running, bays := 4, cmd := some 9 }, .cmd 9 (some { pair := some 3 })]
theorem wit_BayPower_regs : State.reset.taken ∧ (State.reset.bay 15).st ≠ .draining ∧ (State.reset.bay 15).act ≠ .clearing := by
  unfold State.taken; decide
theorem wit_BayPower_off : let s := busyBay { st := .allocated, load := some 1 }
    s.taken ∧ (s.bay 2).act = .none ∧ (s.bay 2).st = .allocated ∧ (s.load 1).cmd.isSome = true := by unfold State.taken; decide
theorem wit_BayPower_offIdle : ((st [.bay 2 { st := .faulted }]).bay 2).act = .none ∧
    ((st [.bay 2 { st := .faulted }]).bay 2).st = .faulted := by decide
theorem wit_BayPower_force : let s := st [.bay 2 { st := .draining, load := some 1 }]
    s.taken ∧ (s.bay 2).st = .draining ∧ (∀ h, (s.bay 2).load = some h → (s.load h).cmd = none) ∧ (s.bay 2).load.isSome = true :=
  ⟨by unfold State.taken; decide, by decide, fun h e => by
    have : h = 1 := by simpa using (show some 1 = some h from e).symm
    subst this; decide, by decide⟩
theorem wit_BayPower_clear : ((st [.bay 2 { st := .idle, act := .clearing }]).bay 2).act = .clearing := by decide
theorem wit_ClocksRailsAndStalls_regs : State.reset.taken := by unfold State.taken; decide
theorem wit_ClocksRailsAndStalls_other : ((State.reset.bay 2).load ≠ some 1) := by decide
theorem wit_ClocksRailsAndStalls_stall : let s := busyBay { st := .allocated, load := some 1 }
    (s.bay 2).load = some 1 ∧ (s.bay 2).st = .allocated ∧ (s.load 1).cmd = some 9 ∧ s.cmd 9 = some { pair := some 3 } ∧
      (s.load 1).st = .running ∧ (s.load 1).torn = false ∧ s.scanWant = [] ∧ s.halted = false := by decide

/-- A bay that powers up is IDLE with its ON bit set (Table 1.8). -/
theorem test_powerUp : ((after (.bayPowerUpDone 2) (after (.bayOn 2) State.reset)).bay 2).st = .idle := by decide
/-- Clock code 40 is taken as 36 (R36). -/
theorem test_bayClk : (after (.bayClkWrite false 40) State.reset).fld rFAB_BAY_CLK_LO 7 0 = 36 := by decide

/-! ### Commands and exhibits -/

/-- A descriptor of 64 bytes with little-endian fields: offset, length, value. -/
def desc (fs : List (Nat × Nat × Nat)) : List Byte :=
  fs.foldl (fun d f => patch d f.1 (leBytes f.2.1 f.2.2)) (List.replicate 64 0)

/-- A command of tenant 2 from pair 35, not taken. -/
def cmdOf (op : Nat) (fs : List (Nat × Nat × Nat)) : Cmd := { op := op, tenant := 2, pair := some 35, desc := desc fs }

/-- Command 9 waits. -/
def has (c : Cmd) (l : List Upd) : State := st ([.cmd 9 (some c)] ++ l)

/-- RUN of load 15. -/
def cRun : Cmd := cmdOf opcRUN [(0x10, 1, 15)]
theorem wit_RunAndComplete_none : State.reset.takes 9 opcRUN = none := by decide
theorem wit_RunAndComplete_run : (has cRun []).takes 9 opcRUN = some cRun ∧ leAt cRun.desc 0x10 1 % 16 = 15 := by decide
theorem wit_RunAndComplete_idle : (State.reset.load 15).started = false ∧ State.reset.loadOp 15 ≠ some opPREFILL := by decide
/-- Load 15 runs command 9, whose cells are done. -/
def ran (c : Cmd) (l : List Upd) : State :=
  has c ([.load 15 { st := .running, tenant := 2, bays := 4, cmd := some 9, started := true },
    .bay 2 { st := .allocated, load := some 15 }] ++ l)
theorem wit_RunAndComplete_done : let s := ran cRun []
    ((s.load 15).started && s.loadDone 15) = true ∧ s.loadOp 15 ≠ some opPREFILL ∧ (s.load 15).cmd = some 9 ∧
      s.cmd 9 = some cRun ∧ cRun.pair = some 35 ∧ (s.load 15).causes = 0 ∧ (s.load 15).st = .running ∧
      (s.load 15).torn = false ∧ (s.load 15).relForce = none ∧ s.scanWant = [] ∧ (s.load 15).repl = none := by decide
theorem wit_RunAndComplete_prefill : let s := ran { op := opPREFILL } []
    ((s.load 15).started && s.loadDone 15) = true ∧ s.loadOp 15 = some opPREFILL := by decide
theorem wit_answered : let s := ran cRun []
    s.cmd 9 = some cRun ∧ cRun.pair = some 35 ∧ cRun.reset = false ∧ s.halted = false ∧
      (s.fld rQUE_CQ_BASE 47 0 35 + 32 * ((s.pair 35).done % s.cqSlots 35) + 32 ≤ s.progAddr 35 ∨
        s.progAddr 35 + 64 ≤ s.fld rQUE_CQ_BASE 47 0 35 + 32 * ((s.pair 35).done % s.cqSlots 35)) := by decide

/-- Load 15 is READY in bay 2, with RUN command 9 in front; one shape is supplied. -/
def mayRun (c : Cmd) (l : List Upd) : State :=
  has c ([.load 15 { st := .ready, tenant := 2, bays := 4, waiting := [9] },
    .bay 2 { st := .allocated, load := some 15 }] ++ l)
/-- RUN with the argument block at 0x10_0000_0000 that supplies shape slot 0. -/
def cArgs (mask : Nat) : Cmd := cmdOf opcRUN [(0x10, 1, 15), (0x14, 4, mask), (0x18, 6, 0x10000000000)]
theorem wit_CommandStart_idle : (State.reset.load 15).cmd = none ∧ (State.reset.load 15).waiting = [] := by decide
theorem wit_CommandStart_started : ((ran cRun []).load 15).cmd.isSome = true ∧ ((ran cRun []).load 15).started = true := by decide
theorem wit_CommandStart_mayNot : let s := has cRun [.load 15 { st := .loading, waiting := [9] }]
    (s.load 15).cmd = none ∧ (s.load 15).waiting = [9] ∧ s.cmd 9 = some cRun ∧ s.mayStart 15 cRun = false := by decide
theorem wit_CommandStart_starts : let c := cArgs 1
    let s := mayRun c (poke 0x10000000000 (leBytes 4 64) ++ [.scell 329 { gens := [{ prog := some (agProg modeFABRD) }, {}] }])
    s.mayStart 15 c = true ∧ leAt c.desc 0x12 2 = 0 ∧ s.t1Progs 15 = [] ∧ s.namedSlots 15 ≠ [] ∧
      (∀ i ∈ s.namedSlots 15, (leAt c.desc 0x14 4).testBit i = true) ∧ (s.load 15).image.recs = [] ∧
      some 0 ∉ ((List.range 32).map (fun i => if (leAt c.desc 0x14 4).testBit i then
        some (leAt (s.bytes (leAt c.desc 0x18 6) 192) (4 * i) 4) else none)) := by decide
theorem wit_CommandStart_missing : let c := cArgs 0
    let s := mayRun c [.scell 329 { gens := [{ prog := some (agProg modeFABRD) }, {}] }]
    s.mayStart 15 c = true ∧ s.t1Progs 15 = [] ∧ ∃ i ∈ s.namedSlots 15, (leAt c.desc 0x14 4).testBit i = false := by decide

/-- EXHIBIT_LOAD of the image at T1 edge address 0x1000, which copy 3 holds. -/
def cLoad (more : List (Nat × Nat × Nat)) : Cmd := cmdOf opcEXLOAD ([(0x10, 6, 0x1000)] ++ more)
def image1 : Image := { addr := 0x1000, digest := List.replicate 32 0, nBays := 1 }
def edgeCopy : Obj := { addr := 0x1000, tier := 1, whole := true, owner := 2, size := 4096,
                        ext := List.replicate 6 0 }
def stored (c : Cmd) (l : List Upd) : State :=
  has c (poke (State.reset.objAddr 3) (objBytes edgeCopy) ++
    [.allocs [{ copy := 3, pool := 1, count := 1 }], .imgEntry 5 { valid := true, image := image1 }] ++ l)
theorem finds1 (c : Cmd) (l : List Upd) (h : c.tenant = 2) (ha : leAt c.desc 0x10 6 = 0x1000)
    (h1 : (stored c l).copyAt 0x1000 = some 3) (h2 : (stored c l).obj 3 = some edgeCopy)
    (h3 : (List.range 32).find? (fun e => ((stored c l).imgEntry e).valid
      && decide (((stored c l).imgEntry e).image.addr = 0x1000)
      && decide (((stored c l).imgEntry e).image.digest = (stored c l).bytes (0x1000 + 0x10) 32)) = some 5) :
    (stored c l).findsImage c 3 5 := by
  unfold State.findsImage
  simp only [ha]
  exact ⟨h1, ⟨edgeCopy, h2, rfl, h.symm⟩, h3⟩
theorem wit_ExhibitLoads_none : State.reset.takes 9 opcEXLOAD = none := by decide
theorem wit_ExhibitLoads_takes : (has (cLoad []) []).takes 9 opcEXLOAD = some (cLoad []) ∧ (cLoad []).isReplace = false ∧
    (cLoad []).isSliced = false ∧ (has (cLoad []) []).holds 2 = false ∧ (has (cLoad []) []).stilled = false ∧
    (has (cLoad []) []).copyAt (leAt (cLoad []).desc 0x10 6) = none := by decide
theorem wit_ExhibitLoads_load : let s := stored (cLoad []) [.bay 2 { st := .idle }]
    s.findsImage (cLoad []) 3 5 ∧ s.freeHandle = some 0 ∧ s.placement (s.imgEntry 5).image 0 = some 2 ∧ s.pinFull 3 = false ∧
      s.storeFits (s.imgEntry 5).image = true :=
  ⟨finds1 _ _ rfl (by decide) (by decide) (by decide) (by decide), by decide, by decide, by decide, by decide⟩
theorem wit_ExhibitLoads_busy : let s := stored (cLoad []) []
    s.findsImage (cLoad []) 3 5 ∧ s.placement (s.imgEntry 5).image 0 = none :=
  ⟨finds1 _ _ rfl (by decide) (by decide) (by decide) (by decide), by decide⟩
theorem wit_ExhibitLoads_replace : let c := cLoad [(0x18, 1, 0x8F)]
    let s := stored c [.load 15 { st := .ready, tenant := 2, bays := 4 }, .bay 2 { st := .allocated, load := some 15 }]
    s.takes 9 opcEXLOAD = some c ∧ c.isReplace = true ∧ c.isSliced = false ∧ leAt c.desc 0x18 1 % 16 = 15 ∧ s.findsImage c 3 5 ∧
      (s.load 15).repl = none ∧ (s.load 15).tenant = c.tenant ∧ (s.load 15).sliced = false ∧
      popCount 16 (s.load 15).bays = (s.imgEntry 5).image.nBays ∧
      (firstBays 1 image1.seam (image1.place % 4)).contains (lowBay (s.load 15).bays) = true ∧
      remoteRecs (s.imgEntry 5).image.recs = [] ∧ remoteRecs (s.load 15).image.recs = [] ∧ s.pinFull 3 = false :=
  ⟨by decide, by decide, by decide, by decide, finds1 _ _ rfl (by decide) (by decide) (by decide) (by decide), by decide,
    by decide, by decide, by decide, by decide, by decide, by decide, by decide⟩
theorem wit_ExhibitLoads_replaceFree : let c := cLoad [(0x18, 1, 0x8F)]
    ((has c []).load 15).repl = none ∧ ((has c []).load 15).st = .free := by decide
theorem wit_ExhibitLoads_sliced : let c := cLoad [(0x19, 1, 1)]; let s := stored c [.reg rTEN_SLICE_CFG 0 4]
    s.takes 9 opcEXLOAD = some c ∧ c.isReplace = false ∧ c.isSliced = true ∧ s.findsImage c 3 5 ∧ s.freeHandle = some 0 ∧
      popCount 16 (s.fld rTEN_SLICE_CFG 15 0 (s.setOf c.tenant)) = (s.imgEntry 5).image.nBays ∧
      (firstBays 1 image1.seam (image1.place % 4)).contains (lowBay (s.fld rTEN_SLICE_CFG 15 0 (s.setOf 2))) = true ∧
      s.pinFull 3 = false ∧ s.storeFits (s.imgEntry 5).image = true ∧
      (∀ j, j < 16 → (s.load j).st = .free ∨ (s.load j).sliced = false ∨ (s.load j).tenant ≠ c.tenant) :=
  ⟨by decide, by decide, by decide, finds1 _ _ rfl (by decide) (by decide) (by decide) (by decide), by decide, by decide,
    by decide, by decide, by decide, by decide⟩

/-- A configuration token for row `r`, column `c` of die 0. -/
def cfgTok (r c : Nat) : Token := Tok.make (place 510 505 r + place 504 499 c) false kindConfig 0 0 false
theorem wit_ConfigurationPath_none : State.reset.pathHead (siteKey siteA) = none := by decide
theorem wit_ConfigurationPath_mine : let s := st [.site (mkKey 0 9 10) { cfgQ := [cfgTok 10 10] }]
    (s.pathHead (siteKey siteA)).map (fun p => p.1) = some (cfgTok 10 10) ∧
      mkKey (cfgDie (cfgTok 10 10).payload.toNat) (cfgRow (cfgTok 10 10).payload.toNat) (cfgCol (cfgTok 10 10).payload.toNat) =
        siteKey siteA := by decide
theorem wit_ConfigurationPath_pass : let s := st [.site (mkKey 0 9 10) { cfgQ := [cfgTok 12 10] }, .site 330 { cfgQ := List.replicate 7 tok5 }]
    (s.pathHead (siteKey siteA)).map (fun p => p.1) = some (cfgTok 12 10) ∧ (s.site 330).cfgQ.length = 7 := by decide
theorem wit_ConfigurationPath_full : let s := st [.site (mkKey 0 9 10) { cfgQ := [cfgTok 12 10] }, .site 330 { cfgQ := List.replicate 8 tok5 }]
    (s.pathHead (siteKey siteA)).isSome = true ∧ 8 ≤ (s.site 330).cfgQ.length := by decide
theorem wit_ConfigurationPath_free : (State.reset.load 15).st ≠ .loading ∧ (State.reset.load 15).repl = none := by decide
theorem wit_ConfigurationPath_configured :
    let s := st [.load 15 { st := .loading, bays := 4, loadCmd := some 9 }, .bay 2 { st := .allocated, load := some 15 }]
    (s.load 15).st = .loading ∧ s.inTransit 15 = false ∧ (s.load 15).loadCmd = some 9 ∧ (s.load 15).relCmd = none := by decide
theorem wit_ConfigurationPath_close :
    let s := st [.load 15 { st := .replacing, bays := 4, waiting := [9], repl := some { cmd := some 9 } },
      .bay 2 { st := .allocated, load := some 15 }]
    (s.load 15).repl = some { cmd := some 9 } ∧ (s.load 15).cmd = none ∧ s.inTransit 15 = false ∧ s.loadWhole 15 = true ∧
      s.stilled = false ∧ (s.load 15).waiting.head? = some 9 := by decide
theorem wit_ConfigurationPath_noMarker : State.reset.arrived (siteKey siteA * 64 + 1) = [] := by decide
/-- A marker of epoch 0 has arrived on stream 1 of site 330, whose program reads streams 1 and 2, or only 1. -/
def mark0 : Token := Tok.make 0x10 true kindMarker 1 0 false
def marked (w : Nat) (l : List Upd) : State := acell { steps := [w], ended := true } ([.arrived (330 * 64 + 1) [mark0]] ++ l)
theorem wit_ConfigurationPath_marker : let s := marked wVec []
    s.arrived (siteKey siteA * 64 + 1) = mark0 :: [] ∧ Tok.kind mark0 = kindMarker ∧ (s.bay (keyBay 330)).passes = true ∧
      keyIsA (siteKey siteA) = true ∧ (s.acell 330).stopped = false ∧ Tok.epoch mark0 = (s.acell 330).epoch ∧
      bits 3 0 mark0.payload.toNat = (s.acell 330).epoch ∧
      (∃ st ∈ s.cellInputs 330, st ≠ 1 ∧ (s.acell 330).marked.testBit st = false) := by decide
theorem wit_ConfigurationPath_switch : let s := marked wSfu [.site 330 { switching := true }]
    (s.site 330).switching = true ∧ (s.bay (keyBay 330)).epoch = (s.acell 330).epoch ∧
      (∀ st ∈ s.cellInputs 330, st = 1 ∨ (s.acell 330).marked.testBit st = true) := by decide

/-- EXHIBIT_RELEASE of load 15, and with FORCE. -/
def cRel (force : Nat) : Cmd := cmdOf opcEXREL [(0x19, 1, 2 * force), (0x1A, 1, 15)]
theorem wit_ReleaseAndSplit_none : State.reset.takes 9 opcEXREL = none := by decide
theorem wit_ReleaseAndSplit_takes : (has (cRel 0) []).takes 9 opcEXREL = some (cRel 0) ∧ leAt (cRel 0).desc 0x1A 1 % 16 = 15 ∧
    (leAt (cRel 0).desc 0x19 1).testBit 1 = false ∧ ((has (cRel 0) []).load 15).st = .free := by decide
theorem wit_ReleaseAndSplit_force : let s := has (cRel 1) [.load 15 { st := .releasing, tenant := 2 }]
    s.takes 9 opcEXREL = some (cRel 1) ∧ (leAt (cRel 1).desc 0x19 1).testBit 1 = true ∧ (s.load 15).tenant = 2 ∧
      (s.load 15).st = .releasing ∧ (s.load 15).cmd = none := by decide
theorem wit_ReleaseAndSplit_running : let s := has (cRel 0) [.load 15 { st := .running, tenant := 2, cmd := some 8 }]
    (s.load 15).st ≠ .free ∧ s.inService 15 = false ∧ (s.load 15).relCmd = none ∧ (s.load 15).cmd.isSome = true := by decide
theorem wit_ReleaseAndSplit_loading : let s := has (cRel 0) [.load 15 { st := .loading, tenant := 2 }]
    (s.load 15).st = .loading ∧ (s.load 15).relCmd = none ∧ s.inService 15 = false := by decide
theorem wit_ReleaseAndSplit_split : State.reset.splitOn 3 = false ∧ State.reset.stilled = false ∧
    (st [.reg rEXH_SPLIT_CTL 3 (2 ^ 63)]).splitOn 3 = true ∧ State.reset.taken := by unfold State.taken; decide

/-- RUN of a free load answers SHAPE_INVALID; the command is gone (R298). -/
theorem test_runFree : (after (.run 9) (has cRun [])).cmd 9 = none := by decide

/-! ### Moves -/

/-- Copies of tenant 2: copy 3 whole in T2, dirty over copy 6 in T3 or clean; copy 4 free for an allocation in T2 or a
fetch to the T1 edge. -/
def c3 (dirty : Bool) (lower : Nat) : Obj :=
  { addr := baseT2 + 0x800000000, tier := 2, whole := true, writable := true, dirty := dirty, owner := 2, size := 64,
    ext := List.replicate 6 0, lower := lower }
def c6 : Obj := { addr := baseT3, tier := 3, whole := true, writable := true, owner := 2, size := 64, ext := List.replicate 6 0,
                  lower := noIdx }
def c4 (tierReq : Nat) : Obj :=
  { owner := 2, writable := true, size := 64, ext := List.replicate 6 0, lower := noIdx, tierReq := tierReq }
def objs (l : List (Nat × Obj)) : List Upd := l.flatMap (fun p => poke (State.reset.objAddr p.1) (objBytes p.2))
/-- Move 7 of tenant 2 beside these copies. -/
def mvs (x : Move) (os : List (Nat × Obj)) (l : List Upd) : State := st (objs os ++ [.move 7 (some x)] ++ l)
def mv (k : MoveKind) : Move := { kind := k, src := some 3, tenant := 2, docs := 2 ^ 64 - 1 }

/-- What a move meets in a state: it is new and nothing holds it back, and its check answers as `q` says. -/
def meets (s : State) (x : Move) (q : MoveCheck → Bool) : Prop :=
  s.move 7 = some x ∧ x.phase = .new ∧ s.stilled = false ∧ s.sourceComing 7 x = false ∧ q (s.moveCheck x) = true

theorem wit_MoveStarts_none : State.reset.move 7 = none := by decide
theorem wit_MoveStarts_started : (mvs { mv .fetch with phase := .copying } [] []).move 7 = some { mv .fetch with phase := .copying } := by
  decide
theorem wit_MoveStarts_shape : meets (mvs (mv .fetch) [] []) (mv .fetch) (fun c => decide (c = .shape)) := by
  unfold meets; decide
theorem wit_MoveStarts_window : let x : Move := { mv .exportStage with stage := baseT2 + 0x200000 }
    meets (mvs x [(3, c3 false noIdx)] [.reg rSEC_WIN 2 (2 ^ 63)]) x (fun c => decide (c = .window)) := by unfold meets; decide
theorem wit_MoveStarts_busy : meets (mvs (mv .drop) [(3, { c3 false noIdx with pin := 1 })] []) (mv .drop)
    (fun c => decide (c = .busy)) := by unfold meets; decide
theorem wit_MoveStarts_place : let x : Move := { kind := .alloc, dst := some 4, tenant := 2 }; let s := mvs x [(4, c4 2)] []
    meets s x (fun c => decide (c = .go 2 none 64)) ∧ s.obj 4 = some (c4 2) ∧
      (lowestRun (s.rivals ((c4 2).poolOf 2) 0 (c4 2).rowLo (c4 2).rowHi) (s.poolUnits ((c4 2).poolOf 2)) ((c4 2).unitsOf 2)).isSome =
        true := by unfold meets; decide
theorem wit_MoveStarts_fetch : let x : Move := { mv .fetch with dst := some 4 }
    let s := mvs x [(3, c3 false noIdx), (4, c4 1)] []
    meets s x (fun c => decide (c = .go 1 none 64)) ∧ x.dst = some 4 ∧ s.obj 4 = some (c4 1) ∧ (c4 1).poolOf 1 = 1 := by
  unfold meets; decide
theorem wit_MoveStarts_ingest : let x : Move := { kind := .ingest, dst := some 4, tenant := 2, stage := baseT2 + 0x200000 }
    meets (mvs x [(4, c4 2)] []) x (fun c => decide (c = .go 2 none 64)) := by unfold meets; decide
theorem wit_MoveStarts_copy : let s := mvs (mv .writeback) [(3, c3 true 6), (6, c6)] []
    meets s (mv .writeback) (fun c => decide (c = .go 3 (some 6) 64)) ∧ s.obj 3 = some (c3 true 6) ∧ (c3 true 6).tier ≠ 1 ∧
      (mv .writeback).made = false ∧ (mv .writeback).docs &&& s.docMask ≠ 0 := by unfold meets; decide
theorem wit_MoveStarts_export : let x : Move := { mv .exportStage with stage := baseT2 + 0x200000 }
    meets (mvs x [(3, c3 false noIdx)] []) x (fun c => decide (c = .go 2 none 64)) := by unfold meets; decide
theorem wit_MoveStarts_clean : meets (mvs (mv .writeback) [(3, c3 false 6), (6, c6)] []) (mv .writeback)
    (fun c => decide (c = .go 3 (some 6) 0)) := by unfold meets; decide
theorem wit_MoveStarts_drop : let s := mvs (mv .drop) [(3, c3 false noIdx)] []
    meets s (mv .drop) (fun c => decide (c = .go 0 none 0)) ∧ s.obj 3 = some (c3 false noIdx) ∧ s.moveIds = [7] := by
  unfold meets; decide

/-- Move 7 copies; docent 0 holds its share. -/
def copying (x : Move) : Move := { x with phase := .copying, size := 64, shares := [(0, 0)], docs := 1 }
theorem wit_MoveWork_idle : State.reset.oldestShare 0 = none ∧ (State.reset.doc 63) ≠ .stopped := by decide
theorem wit_MoveWork_alloc : let x := copying { kind := .alloc, dst := some 4, tenant := 2, made := true }
    let s := mvs x [(4, { c4 2 with tier := 2, addr := baseT2 + 0x900000000 })] []
    s.doc 0 ≠ .stopped ∧ s.stilled = false ∧ s.oldestShare 0 = some (7, 0) ∧ s.move 7 = some x ∧
      shareAt (s.docentPieces x 0) 0 = some (0, 64, 0) ∧ 64 ≤ min (s.segment x) 64 := by decide
theorem wit_MoveWork_export : let x := copying { mv .exportStage with stage := baseT2 + 0x200000 }
    let s := mvs x [(3, c3 false noIdx)] []
    s.oldestShare 0 = some (7, 0) ∧ shareAt (s.docentPieces x 0) 0 = some (0, 64, 0) ∧ 64 ≤ s.segment x ∧
      s.srcByte x 0 = some (baseT2 + 0x800000000) ∧ s.bad (baseT2 + 0x800000000) = false ∧
      s.bad (baseT2 + 0x800000000 + 32) = false ∧ ((s.docentPieces x 0).map (fun q => q.2)).sum ≤ 0 + 64 := by decide
/-- All shares are over. -/
def copied (x : Move) (crc : Option Nat) : Move := { x with phase := .copying, size := 64, crcWas := crc }
theorem wit_MoveWork_notYet : (copying (mv .exportStage)).shares ≠ [] := by decide
theorem wit_MoveWork_done : let x := copied { mv .exportStage with stage := baseT2 + 0x200000 } none
    let s := mvs x [] []
    s.move 7 = some x ∧ x.phase = .copying ∧ x.shares = [] ∧ s.stilled = false ∧ x.fresh = false ∧ x.kind = .exportStage ∧
      x.crcWas = none := by decide
theorem wit_MoveWork_crc : let x := copied { mv .exportStage with stage := baseT2 + 0x200000 } (some 1)
    (1 : Nat) ≠ crc32c ((mvs x [] []).written x) := by decide

/-! ### Control die, census, log, upkeep, holds and checks -/

theorem wit_taken : State.reset.taken := by unfold State.taken; decide
theorem wit_MisalignedAccess : State.reset.taken ∧ (4 : Nat) % 8 ≠ 0 ∧ (4 : Nat) < endCS - baseCS ∧
    ([1, 2, 3] : List Byte).length ≠ 8 := by unfold State.taken; decide
/-- T2 serves. -/
def t2 (l : List Upd) : State := st ([.reg rT2C_STAT 0 (2 ^ 48)] ++ l)
theorem wit_ControlDieAccess_t2 : let s := t2 []
    s.taken ∧ ¬ (baseCS ≤ baseT2 ∧ baseT2 < endCS) ∧ s.nwSt = .active ∧ s.cdInT2 baseT2 4 = true := by
  unfold State.taken; decide
theorem wit_ControlDieAccess_outside : let s := t2 []
    s.taken ∧ ¬ (baseCS ≤ baseT3 ∧ baseT3 < endCS) ∧ (baseT3 < baseT2 ∨ baseT3 ≤ baseT3) ∧ s.cdInT2 baseT3 4 = false ∧
      s.cdInT2 (baseT2 - 1) 1 = false := by unfold State.taken; decide
theorem wit_ControlDieAccess_register : rFAB_ERR < endCS - baseCS ∧ rFAB_ERR % 8 = 0 ∧ (regRow rFAB_ERR).isSome = true ∧
    (0xFFFFFFFFFFFFFFFF : Word).toNat &&& (2 ^ 64 - 1 - regMask rFAB_ERR) ≠ 0 ∧ rINT_CTL ∈ plainRegs := by decide
theorem wit_ControlDieAccess_none : unassigned 0x170000 = true ∧ unassigned rFAB_ERR = false ∧ inTables winReq = true ∧
    inTables rFAB_ERR = false := by decide
theorem wit_ControlDieAccess_firstFault : let s := st [.reg rFAB_ERR 0 4]
    (s.reg rFAB_ERR).toNat &&& ((4 : Word).toNat &&& regMask rFAB_ERR) = (s.reg rFAB_ERR).toNat ∧
      (st [.reg rBOOT_LOCK 0 1]).flag rBOOT_LOCK 0 = true ∧ State.reset.flag rBOOT_LOCK 0 = false := by decide

/-- Census unit 63 is on, of an event class (DRAM samples) or a level class. -/
def unit63 (cls : Nat) (l : List Upd) : State := st ([.reg rMON_CTL 63 (2 ^ 63), .reg rMON_CFG 63 (place 63 60 cls)] ++ l)
theorem wit_CensusAndLog_event : let s := unit63 2 []
    s.flag rMON_CTL 63 63 = true ∧ s.monEvents 63 = true ∧ s.monTakes 63 5 = true ∧ (s.census 63).intake.length < 16 := by decide
theorem wit_CensusAndLog_full : let s := unit63 2 [.census 63 { intake := List.replicate 16 1 }]
    s.flag rMON_CTL 63 63 = true ∧ s.monEvents 63 = true ∧ ¬ (s.census 63).intake.length < 16 := by decide
theorem wit_CensusAndLog_off : State.reset.flag rMON_CTL 63 63 = false := by decide
theorem wit_CensusAndLog_level : let s := unit63 4 []
    s.flag rMON_CTL 63 63 = true ∧ s.monEvents 63 = false := by decide
theorem wit_CensusAndLog_enable : State.reset.taken ∧
    12 ≤ (st [.reg rMON_CFG 63 (place 63 60 12)]).monClass 63 ∧ (st [.reg rMON_EDGE (32 * 63 + 1) 5]).edges 63 ≠ [] ∧
    edgesRise ((st [.reg rMON_EDGE (32 * 63 + 1) 5]).edges 63) = false := by unfold State.taken; decide
theorem wit_CensusAndLog_drain : State.reset.logIntake = [] ∧ (st [.logIntake [{ seq := 3 }]]).logIntake = { seq := 3 } :: [] ∧
    seqAhead 3 0 < 4096 ∧ 4096 ≤ seqAhead 5000 0 := by decide
theorem wit_CensusAndLog_head : let s := st [.logWr 6]
    s.taken ∧ (5 : Word).toNat < 2 ^ 32 ∧ s.flag rLOG_CTL 62 = false ∧
      seqAhead 5 (s.fld rLOG_HEAD 31 0) ≤ seqAhead s.logWr (s.fld rLOG_HEAD 31 0) ∧
      ¬ seqAhead 7 (s.fld rLOG_HEAD 31 0) ≤ seqAhead s.logWr (s.fld rLOG_HEAD 31 0) ∧
      bits 31 0 (5 : Word).toNat ≠ s.fld rLOG_RD_SEL 31 0 := by unfold State.taken; decide
theorem wit_CensusAndLog_holdoff : State.reset.ibiWait = none ∧ (st [.ibiWait (some 2)]).ibiWait = some 2 := by decide

theorem wit_TierUpkeep_calibration : let s := st [.reg rT2C_STAT 0 (2 ^ 48), .reg rT3C_STAT 0 (2 ^ 63), .calMiss 7 7, .calMiss 31 8]
    7 < 8 ∧ s.t2On = true ∧ s.t3On = true ∧ s.calMiss 7 = 7 ∧ 8 ≤ s.calMiss (16 + 15) := by decide
theorem wit_TierUpkeep_t1 : let s := st []
    s.scrubs = true ∧ s.flag rT1C_SCRUB 16 = true ∧ s.region (baseT2 - 32) = .t1 ∧ s.anyBad (baseT2 - 32) 32 = false := by decide
theorem wit_TierUpkeep_t1Off : (st [.reg rT1C_SCRUB 0 256]).flag rT1C_SCRUB 16 = false := by decide
theorem wit_TierUpkeep_t2 : let s := t2 []
    s.scrubs = true ∧ s.flag rT2C_CTL 48 = true ∧ s.region (baseT2 + 0x800000000) = .t2 ∧ s.anyBad (baseT2 + 0x800000000) 64 = false ∧
      s.inObjects (baseT2 + 0x800000000) = false := by decide
theorem wit_TierUpkeep_objects : let s := t2 []
    s.region s.objBase = .t2 ∧ s.inObjects s.objBase = true ∧ s.objBase % 64 = 0 ∧ s.anyBad s.objBase 64 = false ∧
      s.haltCause = 0 := by decide
theorem wit_TierUpkeep_t3 : let s := st [.reg rT3C_STAT 0 (2 ^ 63 + place 58 48 64), .reg rT3C_CTL 0 2]
    s.scrubs = true ∧ s.flag rT3C_CTL 1 = true ∧ s.region baseT3 = .t3 ∧ s.anyBad baseT3 64 = false := by decide
theorem wit_TierUpkeep_ctl : State.reset.taken ∧ State.reset.allocs = [] ∧
    ctlFits ((0x461001000000000 : Word).toNat &&& regMask rT2C_CTL) = true ∧
    ctlFits ((0 : Word).toNat &&& regMask rT2C_CTL) = false := by unfold State.taken; decide

theorem wit_HoldsAndChecks_at : let s := st [.reg rINT_HOLD_CTL 0 (2 ^ 63), .reg rINT_HOLD_AT 0 7, .now 7]
    s.flag rINT_HOLD_CTL 63 = true ∧ (s.reg rINT_HOLD_AT).toNat ≤ s.now ∧ State.reset.flag rINT_HOLD_CTL 63 = false := by decide
theorem wit_HoldsAndChecks_request : let s := st [.bay 15 { st := .idle }]
    s.taken ∧ (s.chk 15).res ≠ .waiting ∧ (s.chk 15).res ≠ .testing ∧ (s.bay 15).st ≠ .off ∧ (State.reset.bay 15).st = .off := by
  unfold State.taken; decide
theorem wit_HoldsAndChecks_start : let s := st [.bay 15 { st := .faulted }, .chk 15 { res := .waiting }]
    (s.chk 15).res = .waiting ∧ (s.bay 15).st = .faulted ∧ (s.bay 15).act = .none ∧ (s.bay 15).load = none ∧
      s.slicedBays.testBit 15 = false := by decide
theorem wit_HoldsAndChecks_end : let s := st [.bay 15 { st := .testing }]
    (s.bay 15).st = .testing ∧ s.scanWant.contains 15 = false ∧ (State.reset.bay 15).st ≠ .testing := by decide

/-- A misaligned read of control space reads zeros and sets QUE_ERR.CS_SIZE (R286). -/
theorem test_misaligned : (after (.csBadAccess false 0x10004 8) (st [.cdRead [1]])).cdRead = List.replicate 8 0 := by decide

/-! ### Itinerary queues, docents, arbiters, snapshots -/

/-- Queue 63 of tenant 2 runs a list of two records at the start of T2's reserved region. -/
def iqL (x : Iq) (recs : List Byte) (l : List Upd) : State :=
  st (poke (baseT2 + 0x100000) recs ++ [.reg rDOC_IQ_CTL 63 (2 ^ 63 + place 53 48 2 + place 46 40 1),
    .reg rDOC_IQ_BASE 63 (place 63 48 2 + (baseT2 + 0x100000)), .iq 63 x] ++ l)
/-- A FETCH record from copy 3 to copy 4 with a trigger; one with reserved bytes set. -/
def recF (trig resv : Nat) : List Byte :=
  [1, BitVec.ofNat 8 trig, 0, 0, 3, 0, 0, 0, 4, 0, 0, 0] ++ leBytes 4 noIdx ++ List.replicate 14 0 ++ leBytes 2 resv
/-- Queue 63 of tenant 2 in command mode. -/
def iqC (x : Iq) (l : List Upd) : State :=
  st ([.reg rDOC_IQ_CTL 63 (2 ^ 63 + 2 ^ 60 + place 53 48 2 + place 46 40 1), .iq 63 x] ++ l)

theorem wit_ItineraryQueues_still : (State.reset.iq 63).st ≠ .running := by decide
theorem wit_ItineraryQueues_runs : let s := iqL { st := .running } (recF 0 0) []
    (s.iq 63).st = .running ∧ (s.iq 63).cancelling = false ∧ s.stilled = false ∧ s.holds (s.iqTenant 63) = false ∧
      s.iqListMode 63 = true ∧ (s.iq 63).next < s.iqCount 63 ∧ s.recordFits (s.iqStep 63 0) 0 = true ∧
      s.fired 63 (s.iqStep 63 0) = true ∧ (s.iq 63).fly.length < s.iqLimit 63 ∧ moveKindOf (s.iqStep 63 0).kind = some .fetch := by
  decide
theorem wit_ItineraryQueues_misfit : let s := iqL { st := .running } (recF 0 7) []
    (s.iq 63).st = .running ∧ s.iqListMode 63 = true ∧ (s.iq 63).next < s.iqCount 63 ∧
      s.recordFits (s.iqStep 63 0) 0 = false := by decide
theorem wit_ItineraryQueues_waits : let s := iqL { st := .running } (recF 3 0) []
    (s.iq 63).st = .running ∧ s.recordFits (s.iqStep 63 0) 0 = true ∧ s.fired 63 (s.iqStep 63 0) = false := by decide
theorem wit_ItineraryQueues_command : let c := cmdOf opcMOVE [(0x10, 1, 1)]
    let s := iqC { st := .running, cmds := [9] } [.cmd 9 (some c)]
    (s.iq 63).st = .running ∧ s.iqListMode 63 = false ∧ (s.iq 63).cmds = 9 :: [] ∧ (s.iq 63).fly.length < s.iqLimit 63 ∧
      s.cmd 9 = some c ∧ moveKindOf (leAt c.desc 0x10 1) = some .fetch := by decide
theorem wit_ItineraryQueues_noEnd : State.reset.move 7 = none := by decide
theorem wit_ItineraryQueues_fails :
    let x : Move := { iq := 63, phase := .done, status := Status.shapeInvalid.code }
    let s := iqL { st := .running, fly := [7] } (recF 0 0) [.move 7 (some x)]
    s.move 7 = some x ∧ s.halted = false ∧ x.phase = .done ∧ x.cmd = none ∧ x.snap = none ∧ s.iqListMode x.iq = true ∧
      (s.iq x.iq).st = .running ∧ x.status ≠ Status.ok.code ∧ (x.status ≠ Status.busy.code ∨ x.skipBusy = false) := by decide
theorem wit_ItineraryQueues_enable : let s := st [.tenant 2 { st := .enabled }]
    let v : Word := BitVec.ofNat 64 (2 ^ 63 + 2 ^ 60 + place 53 48 2)
    s.taken ∧ (s.iq 63).st = .off ∧ v.toNat.testBit 60 = true ∧ s.tenantOn (bits 53 48 v.toNat) = true ∧
      s.iqSettled 63 = true ∧ State.reset.tenantOn (State.reset.iqTenant 63) = false := by unfold State.taken; decide
theorem wit_ItineraryQueues_refused : let s := iqC { st := .running } []
    s.taken ∧ s.iqSettled 63 = false ∧ s.tenantOn (s.iqTenant 63) = false := by unfold State.taken; decide
theorem wit_ItineraryQueues_stop : let s := iqL {} (recF 0 0) []
    s.taken ∧ (s.iq 63).st = .off ∧ s.iqListMode 63 = true ∧ ((iqL { st := .stopped } (recF 0 0) []).iq 63).st = .stopped ∧
      ((iqL { st := .draining, fly := [7] } (recF 0 0) []).iq 63).st = .draining := by unfold State.taken; decide

theorem wit_DocentsAndArbiters_docent : State.reset.taken ∧ State.reset.doc 63 ≠ .draining ∧
    (st [.doc 63 .draining]).doc 63 = .draining := by unfold State.taken; decide
theorem wit_DocentsAndArbiters_present :
    (State.reset.arbiter 305).holder = none ∧ State.reset.arbClosed 305 = false ∧ arbHas 305 5 = true ∧
      State.reset.arbShut 305 5 = false ∧ (State.reset.arbReq (arbKey 305 5)).backing = false ∧
      (State.reset.arbiter 305).heirs = [] ∧ (5 : Fin 128).val < (63 : Fin 128).val ∧ arbHas 305 63 = true ∧
      State.reset.arbShut 305 63 = false ∧ (State.reset.arbReq (arbKey 305 63)).backing = false := by decide
theorem wit_DocentsAndArbiters_heir : let s := st [.arbiter 0 { heirs := [7] }]
    (s.arbiter 0).holder = none ∧ s.arbClosed 0 = false ∧ arbHas 0 5 = true ∧ s.arbShut 0 5 = false ∧
      (s.arbReq (arbKey 0 5)).backing = false ∧ (s.arbiter 0).heirs = 7 :: [] := by decide
theorem wit_DocentsAndArbiters_backoff :
    let s := st [.arbiter 0 { heirs := [7] }, .arbReq (arbKey 0 7) { losses := 1, backing := true }]
    (s.arbReq (arbKey 0 7)).backing = true ∧ (s.arbiter 0).holder = none ∧ s.arbClosed 0 = false ∧ arbHas 0 7 = true ∧
      s.arbShut 0 7 = false ∧ (s.arbiter 0).heirs.head? = some 7 ∧ (State.reset.arbReq (arbKey 0 7)).backing = false := by decide

/-- SNAPSHOT through queue 63. -/
def cSnap (flags : Nat) : Cmd := cmdOf opcSNAP [(0x10, 1, flags), (0x11, 1, 63)]
theorem wit_Snapshots_none : State.reset.cmd 9 = none ∧ (has (cmdOf opcRUN []) []).cmd 9 = some (cmdOf opcRUN []) ∧
    (cmdOf opcRUN []).op ≠ opcSNAP := by decide
theorem wit_Snapshots_queue : let s := has (cSnap 1) []
    s.cmd 9 = some (cSnap 1) ∧ (cSnap 1).op = opcSNAP ∧ (cSnap 1).pair.isSome = true ∧ s.stilled = false ∧
      (cSnap 1).snapOn = false ∧ s.fenceOpen (cSnap 1) = true ∧ s.holds 2 = false ∧ (snFLAGS (cSnap 1).desc).testBit 0 = true ∧
      s.iqCarries (snIQ (cSnap 1).desc % 64) 2 = false := by decide
theorem wit_Snapshots_copy :
    let s := iqC { st := .running } ([.cmd 9 (some (cSnap 1)), .allocs [{ copy := 3, pool := 17, count := 1 }]] ++
      objs [(3, c3 true 6), (6, c6)])
    (snFLAGS (cSnap 1).desc).testBit 0 = true ∧ s.fenceOpen (cSnap 1) = true ∧ s.stilled = false ∧
      s.iqCarries (snIQ (cSnap 1).desc % 64) 2 = true ∧ s.snapNext 2 = some 3 ∧ (s.iq 63).fly.length < s.iqLimit 63 := by decide
theorem wit_Snapshots_empty : (snFLAGS (cSnap 0).desc).testBit 0 = false ∧ (snFLAGS (cSnap 0).desc).testBit 1 = false := by decide

/-! ### Serving -/

/-- What service 5 of tenant 2 needs: loads 1 (prefill), 2 (decode) and 3 (head), pools in copies 3 and 4, parking in
copy 8; four batch slots, 64 candidates of 64. -/
def svcParts : List Upd :=
  [.tenant 2 { st := .enabled }, .srvSt .running,
    .reg rSRV_SVC_SHAPE 5 (place 63 60 1 + place 59 56 2 + place 55 52 3 + place 45 37 4 + place 36 25 64),
    .reg rSRV_SVC_POOLS 5 (place 63 48 1 + (baseT2 + 0x200000)), .reg rSRV_SVC_TOKENS 5 (place 63 32 63 + 64),
    .load 1 { st := .ready, tenant := 2, bays := 2, image := { kind := 1 } },
    .load 2 { st := .ready, tenant := 2, bays := 4, image := { kind := 2 } },
    .load 3 { st := .ready, tenant := 2, bays := 8, image := { kind := 3 } }] ++
  poke (baseT2 + 0x200000) (leBytes 4 3 ++ leBytes 4 4) ++ poke (baseT2 + 0x200040) (leBytes 4 8) ++
  objs [(3, { tier := 1, whole := true, writable := true, owner := 2, size := 2 ^ 20, bays := 2, ext := List.replicate 6 0 }),
    (4, { tier := 1, whole := true, writable := true, owner := 2, size := 2 ^ 20, bays := 4, ext := List.replicate 6 0 }),
    (8, { tier := 2, whole := true, writable := true, owner := 2, size := 2 ^ 20, addr := baseT2 + 0x800000000,
          ext := List.replicate 6 0 })]
/-- SRV_SVC_CFG of tenant 2, collection 7. -/
def cfg5 (stt : Nat) : Nat := place 63 61 stt + place 51 46 2 + 7
def svc (stt : Nat) (l : List Upd) : State := st (svcParts ++ [.reg rSRV_SVC_CFG 5 (cfg5 stt)] ++ l)

theorem wit_Services_ready : let s := st svcParts; let s1 := applyUpd (.reg rSRV_SVC_CFG 5 (bits 60 0 (cfg5 0))) s
    s.taken ∧ s.svcOn 5 = false ∧ s1.svcOk 5 = true ∧ State.reset.svcOk 5 = false := by unfold State.taken; decide
theorem wit_Services_refused : State.reset.svcOn 63 = false ∧
    (applyUpd (.reg rSRV_SVC_CFG 63 (bits 60 0 (cfg5 0))) State.reset).svcOk 63 = false ∧
    (applyUpd (.reg rSRV_SVC_CFG 63 (bits 60 0 (cfg5 0))) State.reset).standbyOk 63 = false := by decide
theorem wit_Services_stays : let s := svc 7 []
    s.taken ∧ s.svcOn 5 = true ∧ s.svcState 5 = svcREADY := by unfold State.taken; decide
theorem wit_Services_later : let s := svc 5 []
    s.svcOn 5 = true ∧ s.svcState 5 ≠ svcREADY ∧ s.svcOk 5 = true := by decide
theorem wit_Services_standby : let s := st (svcParts ++ [.reg rDOC_IQ_CTL 0 (place 53 48 2)])
    s.svcOn 5 = false ∧ (applyUpd (.reg rSRV_SVC_CFG 5 (bits 60 0 (cfg5 0))) s).standbyOk 5 = true := by decide
theorem wit_Services_block : State.reset.srvSt ≠ .draining ∧ (st [.srvSt .draining]).srvSt = .draining ∧
    (st [.srvSt .draining]).taken := by unfold State.taken; decide
theorem wit_Services_free : ((st [.req 16383 { st := .faulted }]).req (bits 13 0 (16383 : Word).toNat)).st = .faulted ∧
    (State.reset.req (bits 13 0 (16383 : Word).toNat)).st ≠ .done ∧
    (State.reset.req (bits 13 0 (16383 : Word).toNat)).st ≠ .cancelled ∧
    (State.reset.req (bits 13 0 (16383 : Word).toNat)).st ≠ .faulted := by decide
theorem wit_Services_deadlines : State.reset.flag rPWR_GUAR 63 = false ∧
    (st [.reg rPWR_GUAR 0 (2 ^ 63)]).flag rPWR_GUAR 63 = true := by decide
theorem wit_Services_params : isParamReg rSMP_SET_K = true ∧ isParamReg rSMP_SET_PEN = true ∧ isParamReg rSMP_EN = false ∧
    (∀ i ∈ State.reset.reqIds, (State.reset.req i).param ≠ State.reset.fld rSMP_SET_SEL 7 0) := by decide
theorem wit_Services_paramUsed : let s := st [.reg rSMP_SET_SEL 0 255, .req 7 { st := .decode, param := 255 }]
    ∃ i ∈ s.reqIds, (s.req i).param = s.fld rSMP_SET_SEL 7 0 := by decide
theorem wit_Services_sampler : State.reset.taken ∧ (State.reset.smp 3).st ≠ .draining ∧
    ((st [.smp 3 { st := .draining }]).smp 3).st = .draining := by unfold State.taken; decide

/-- A SERVE command: 128 bytes. -/
def serve (op : Nat) (fs : List (Nat × Nat × Nat)) : Cmd :=
  { op := opcSERVE, tenant := 2, pair := some 35,
    desc := ([(0x10, 1, op)] ++ fs).foldl
      (fun (d : List Byte) (f : Nat × Nat × Nat) => patch d f.1 (leBytes f.2.1 f.2.2)) (List.replicate 128 0) }
/-- SUBMIT to collection 7: one prompt token, one token, best effort, no prefix; lists in the reserved region. -/
def cSub (more : List (Nat × Nat × Nat)) : Cmd :=
  serve 1 ([(0x14, 4, 7), (0x18, 8, 2 ^ 64 - 1), (0x28, 6, baseT2 + 0x300000), (0x30, 4, 1), (0x34, 4, 1), (0x38, 4, noIdx),
    (0x40, 6, baseT2 + 0x310000), (0x48, 6, baseT2 + 0x320000), (0x50, 6, baseT2 + 0x330000)] ++ more)
def subs (c : Cmd) (l : List Upd) : State := svc 7 ([.cmd 9 (some c), .reg rSMP_SET_K 0 (2 ^ 31)] ++ l)
theorem wit_Submitting_none : State.reset.takesServe 9 1 = none := by decide
theorem wit_Submitting_service : let s := st [.srvSt .running, .cmd 9 (some (cSub []))]
    s.takesServe 9 1 = some (cSub []) ∧ s.serviceFor 2 (suCOLLECTION (cSub []).desc) = none := by decide
theorem wit_Submitting_prefix : let c := cSub [(0x38, 4, 5)]; let s := subs c []
    s.takesServe 9 1 = some c ∧ s.serviceFor 2 (suCOLLECTION c.desc) = some 5 ∧ idxOf (suPREFIX c.desc) ≠ none ∧
      (idxOf (suPREFIX c.desc)).bind s.pfxOf = none := by decide
theorem wit_Submitting_fields : let s := subs (cSub []) [.reg rSMP_SET_K 0 0]
    s.serviceFor 2 7 = some 5 ∧ idxOf (suPREFIX (cSub []).desc) = none ∧ s.submitOk (s.submitReq (cSub []) 9 5 none) = false := by
  decide
theorem wit_Submitting_window : let s := subs (cSub []) [.reg rSEC_WIN 2 (2 ^ 63)]
    s.submitOk (s.submitReq (cSub []) 9 5 none) = true ∧
      (s.submitRanges (s.submitReq (cSub []) 9 5 none)).all (fun (r : Nat × Nat) => s.inWindow 2 r.1 r.2) = false := by decide
theorem wit_Submitting_refuse :
    let s := subs (cSub []) [.reg rSRV_SVC_SHAPE 5 (place 36 25 64)]
    let x := s.submitReq (cSub []) 9 5 none
    s.submitOk x = true ∧ (s.submitRanges x).all (fun (r : Nat × Nat) => s.inWindow 2 r.1 r.2) = true ∧
      s.admission x s.freeEntry (s.totalBound 5 x.pb (s.stepTb 5 x.draft) (suG (cSub []).desc - 1) true) = .error 2 :=
  ⟨by decide, by decide, rfl⟩
theorem wit_Submitting_admit :
    let s := subs (cSub []) []
    let x := s.submitReq (cSub []) 9 5 none
    s.takesServe 9 1 = some (cSub []) ∧ s.submitOk x = true ∧
      (s.submitRanges x).all (fun (r : Nat × Nat) => s.inWindow 2 r.1 r.2) = true ∧
      s.admission x s.freeEntry (s.totalBound 5 x.pb (s.stepTb 5 x.draft) (suG (cSub []).desc - 1) true) = .ok (0, 1) :=
  ⟨by decide, by decide, by decide, rfl⟩

/-- Entry 16,383 of tenant 2, and a SERVE operation on it. -/
def onReq (op : Nat) (x : Req) (more : List (Nat × Nat × Nat)) (l : List Upd) : State :=
  svc 7 ([.cmd 9 (some (serve op ([(0x14, 4, 16383)] ++ more))), .req 16383 { x with tenant := 2, svc := 5 }] ++ l)
theorem wit_RequestControl_none : State.reset.takesServe 9 2 = none ∧ State.reset.takesServe 9 3 = none ∧
    State.reset.takesServe 9 4 = none ∧ State.reset.takesServe 9 5 = none := by decide
theorem wit_RequestControl_notOwn : ∀ op ∈ [2, 3, 4],
    ((onReq op {} [] []).takesServe 9 op).isSome = true ∧ (onReq op {} [] []).ownEntry (serve op [(0x14, 4, 16383)]) = none := by
  decide
theorem wit_RequestControl_own : ∀ op ∈ [2, 3, 4], let s := onReq op { st := .decode, ph := .idle } [] []
    s.takesServe 9 op = some (serve op [(0x14, 4, 16383)]) ∧ s.ownEntry (serve op [(0x14, 4, 16383)]) = some 16383 := by decide
theorem wit_RequestControl_live : ({ st := .decode, ph := .idle } : Req).live = true ∧
    ({ st := .decode, ph := .idle } : Req).inProgress = false ∧ ({ st := .decode, ph := .step } : Req).inProgress = true ∧
    ({ st := .done } : Req).live = false := by decide
theorem wit_RequestControl_park : let s := onReq 3 { st := .decode, ph := .idle, frames := [0, 1] } [] []
    (s.req 16383).live = true ∧ (s.req 16383).st ≠ .parked ∧ (s.req 16383).parkCmd = none ∧
      freeFrames (s.usedPark 5) 64 (s.poolFrames 5 parkEntry) 2 = some [64, 65] := by decide
theorem wit_RequestControl_parkFull : let s := onReq 3 { st := .decode, ph := .idle, frames := [0, 1] } [] [.reg rSRV_SVC_POOLS 5 0]
    freeFrames (s.usedPark 5) 64 (s.poolFrames 5 parkEntry) (s.req 16383).frames.length = none := by decide
def parked1 : Req := { st := .parked, limit := 2, pool := 1 }
theorem wit_RequestControl_resume : let s := onReq 4 parked1 [(0x18, 8, 2 ^ 64 - 1)] []
    let x := { s.req 16383 with deadline := 2 ^ 64 - 1 }
    x.st = .parked ∧ s.svcOn x.svc = true ∧ s.svcTenant x.svc = 2 ∧
      s.admission x (some 16383) (s.totalBound 5 (s.resumePb 5 0) (s.stepTb 5 0) 1 false) = .ok (16383, 1) :=
  ⟨by decide, by decide, by decide, rfl⟩
theorem wit_RequestControl_resumeRefused : let s := onReq 4 parked1 [(0x18, 8, 2 ^ 64 - 1)] [.reg rSRV_SVC_SHAPE 5 0]
    let x := { s.req 16383 with deadline := 2 ^ 64 - 1 }
    s.admission x (some 16383) (s.totalBound 5 (s.resumePb 5 0) (s.stepTb 5 0) 1 false) = .error 2 := rfl
/-- RELEASE of prefix 12,287, generation 1. -/
def rels (x : Pfx) : State := svc 7 [.cmd 9 (some (serve 5 [(0x38, 4, 2 ^ 14 + 12287)])), .pfx 12287 x]
theorem wit_RequestControl_release : let s := rels { st := .live, tenant := 2, gen := 1 }
    s.takesServe 9 5 = some (serve 5 [(0x38, 4, 2 ^ 14 + 12287)]) ∧ s.pfxOf (2 ^ 14 + 12287) = some 12287 ∧
      (s.pfx 12287).tenant = 2 ∧ (rels {}).pfxOf (2 ^ 14 + 12287) = none := by decide

theorem wit_RequestCourse_noPrefill : State.reset.serves 5 = false := by decide
/-- Request 7 waits for prefill, or is elsewhere in its course. -/
def course (x : Req) (l : List Upd) : State := svc 7 ([.req 7 { x with tenant := 2, svc := 5 }] ++ l)
theorem wit_RequestCourse_prefill : let s := course { st := .admitted, ph := .waiting, promptEnd := 65, pool := 1 } []
    s.serves 5 = true ∧ s.nextPrefill 5 = some 7 ∧
      minBy (fun (p : Nat × Nat) => p.2) ((s.preLoads 5).filter (fun (p : Nat × Nat) => s.loadFree p.2)) = some (0, 1) ∧
      freeFrames (s.usedFrames 5 0) 0 (s.poolFrames 5 0) (s.prefillFrames (s.req 7) 0) = some [0, 1] := by decide
theorem wit_RequestCourse_noRoom : let s := course { st := .admitted, ph := .waiting, promptEnd := 65, pool := 1 } [.reg rSRV_SVC_POOLS 5 0]
    s.nextPrefill 5 = some 7 ∧ freeFrames (s.usedFrames 5 0) 0 (s.poolFrames 5 0) (s.prefillFrames (s.req 7) 0) = none := by decide
/-- Load 1 runs request 7's prefill, which is done. -/
def preRun (x : Req) : State := course { x with st := .prefill, ph := .prefill }
  [.load 1 { st := .running, tenant := 2, bays := 2, cmd := some 9, started := true },
    .bay 1 { st := .allocated, load := some 1 }, .cmd 9 (some { op := opPREFILL, tenant := 2, reqs := [7], svc := 5 })]
theorem wit_RequestCourse_prefillEnd : let s := preRun { promptEnd := 3, limit := 5, loc := .prefill }
    ((s.load 1).started && s.loadDone 1) = true ∧ (s.load 1).cmd = some 9 ∧
      s.cmd 9 = some { op := opPREFILL, tenant := 2, reqs := [7], svc := 5 } ∧ (s.load 1).causes = 0 ∧
      (s.load 1).st = .running ∧ (s.load 1).torn = false ∧ (s.load 1).relForce = none ∧ s.scanWant = [] ∧
      (s.req 7).st = .prefill ∧ (s.req 7).ph = .prefill ∧ (s.req 7).cancel = false ∧ (s.req 7).limit ≠ (s.req 7).promptEnd ∧
      (s.req 7).loc = .prefill := by decide
theorem wit_RequestCourse_prefillEnds : ((preRun { cancel := true }).req 7).cancel = true ∧
    ((preRun { promptEnd := 3, limit := 3 }).req 7).limit = ((preRun { promptEnd := 3, limit := 3 }).req 7).promptEnd ∧
    ((preRun { promptEnd := 3, limit := 3 }).req 7).reg = false ∧ ((preRun { loc := .decode }).req 7).loc ≠ .prefill := by decide
theorem wit_RequestCourse_handover : let s := course { st := .prefill, ph := .handover, committed := 3 } []
    (s.req 7).ph = .handover ∧ s.stilled = false ∧ (State.reset.req 7).ph ≠ .handover := by decide
theorem wit_RequestCourse_step : let s := course { st := .decode, ph := .idle, pool := 1 } []
    s.decodes 2 = some (5, 1) ∧ s.stepReqs 5 1 = [7] ∧ s.srvStep 2 = none ∧ (s.load 2).repl = none ∧
      State.reset.decodes 2 = none ∧ (svc 7 []).decodes 2 = some (5, 1) ∧ (svc 7 []).stepReqs 5 1 = [] := by decide
theorem wit_RequestCourse_pages : let s := course { st := .decode, ph := .parking } []; let t := course { st := .admitted, ph := .fetching } []
    (s.req 7).ph = .parking ∧ s.stilled = false ∧ (t.req 7).ph = .fetching ∧ (t.req 7).cancel = false ∧ (t.req 7).parkCmd = none ∧
      (s.req 7).ph ≠ .fetching ∧ (t.req 7).ph ≠ .parking := by decide
theorem wit_RequestCourse_release : let s := course { st := .draining, endSt := .done, cmd := some 4, endStatus := Status.ok.code } []
    (s.req 7).st = .draining ∧ s.stillServed 7 = false ∧ (State.reset.req 7).st ≠ .draining ∧ (s.req 7).cmd = some 4 ∧
      (s.req 7).endSt = .done ∧ (s.req 7).finalStatus = Status.code .ok := by decide

/-- Request 7 awaits the record of position 3 of its decode step; eight candidates of a vocabulary of eight or sixteen. -/
def awaits (vocab setK : Nat) (x : Req) (l : List Upd) : State :=
  course { x with st := .decode, ph := .step, due := [3], committed := 3, promptEnd := 2, limit := 9, penList := baseT2 + 0x320000,
                  out := baseT2 + 0x330000, param := 1 }
    ([.reg rSRV_SVC_SHAPE 5 (place 59 56 2 + place 36 25 8), .reg rSRV_SVC_TOKENS 5 (place 63 32 63 + vocab),
      .reg rSMP_EN 0 1, .reg rSMP_SET_K 1 setK, .srvStep 2 (some { svc := 5, reqs := [7], cmd := some 9 }),
      .cmd 9 (some { op := opDECODE, tenant := 2, reqs := [7], svc := 5 })] ++ l)
/-- A record of eight candidates in order, all of value 1. -/
def rec8 : List Token :=
  [Tok.make (7 + place 63 32 3 + place 111 96 8) false kindData 0 0 false,
   Tok.make (((List.range 8).map (fun j => place (64 * j + 31) (64 * j) j + place (64 * j + 63) (64 * j + 32) f32One)).sum)
     true kindData 0 0 false]
theorem wit_CandidateRecords_none : State.reset.inStep 7 = false := by decide
theorem wit_CandidateRecords_wrong : let s := awaits 8 0 {} [.reg rSMP_SET_TEMP 1 0]
    s.freeSampler.isSome = true ∧ s.halted = false ∧ s.inStep 7 = true ∧ (s.req 7).due ≠ [] ∧ s.recordOk (s.req 7) [] = false ∧
      (s.req 7).live = true := by decide
theorem wit_CandidateRecords_short : let s := awaits 16 9 {} [.reg rSMP_SET_TEMP 1 (place 63 32 f32One + f32One)]
    crREQ (recHeader rec8) = 7 ∧ s.freeSampler.isSome = true ∧ s.halted = false ∧ s.inStep 7 = true ∧ (s.req 7).due ≠ [] ∧
      s.recordOk (s.req 7) rec8 = true ∧ s.sufficient (s.req 7) rec8 = false ∧ s.stepOfReq 7 = some 2 ∧
      s.srvStep 2 = some { svc := 5, reqs := [7], cmd := some 9 } := by decide
theorem wit_CandidateRecords_draw : let s := awaits 8 0 {} [.reg rSMP_SET_TEMP 1 0]
    s.recordOk (s.req 7) rec8 = true ∧ s.sufficient (s.req 7) rec8 = true ∧ s.stepOfReq 7 = some 2 ∧ (s.req 7).drawn = [] ∧
      (s.req 7).drafts = [] ∧ (s.drawFrom (s.req 7) rec8).1 ≠ s.svcEos 5 ∧ (s.req 7).committed + 1 ≠ (s.req 7).limit ∧
      (s.req 7).penLen ≤ 1024 ∧ (s.req 7).penList + 4096 ≤ (s.req 7).out + 16 * (1 + 3 - 2) := by decide

/-! ### Queues, tenants, slices -/

/-- Pair 1,023 of tenant 63, sixteen slots each way, and its first descriptor. -/
def pairParts (d : List Byte) : List Upd :=
  [.tenant 63 { st := .enabled }, .reg rQUE_PAIR_CFG 1023 (place 59 55 4 + place 54 50 4),
    .reg rQUE_SQ_BASE 1023 (baseT2 + 0x400000), .reg rQUE_CQ_BASE 1023 (baseT2 + 0x401000)] ++ poke (baseT2 + 0x400000) d
def visits (d : List Byte) (x : Pair) (l : List Upd) : State :=
  st (pairParts d ++ [.scanner .running, .pair 1023 x] ++ l)
theorem wit_QueuePairs_none : State.reset.scanner ≠ .running ∧ (State.reset.pair 1023).st ≠ .running := by decide
theorem wit_QueuePairs_takes : let s := visits [6, 0x80] { st := .running } []
    s.scanner = .running ∧ (s.pair 1023).st = .running ∧ s.stilled = false ∧ s.tenantOn (1023 / 16) = true ∧
      (s.intake 63).length < 16 ∧ ((s.pair 1023).cqTail + 2 ^ 32 - 0) % 2 ^ 32 + (s.pair 1023).held < s.cqSlots 1023 ∧
      s.le (s.progAddr 1023 + 8) 4 = 0 ∧ dFlags (s.sqSlot 1023) / 128 = phaseOf (s.pair 1023).sqHead (s.sqSlots 1023) := by decide
theorem wit_QueuePairs_noPhase : let s := visits [] { st := .running } []
    s.scanner = .running ∧ (s.pair 1023).st = .running ∧ s.stilled = false ∧
      ¬ dFlags (s.sqSlot 1023) / 128 = phaseOf (s.pair 1023).sqHead (s.sqSlots 1023) := by decide
theorem wit_QueuePairs_enable : let s := st (pairParts [])
    s.taken ∧ (s.pair 1023).st = .off ∧ s.pairOk 1023 = true ∧ State.reset.pairOk 1023 = false ∧
      (State.reset.pair 1023).st ≠ .running ∧ ((visits [] { st := .running } []).pair 1023).st = .running := by
  unfold State.taken; decide
theorem wit_QueuePairs_again : let s := visits [] { st := .draining, held := 1 } []
    (s.pair 1023).st = .draining ∧ s.pairOk 1023 = true := by decide
theorem wit_QueuePairs_scanner : State.reset.taken ∧ State.reset.scanner = .off ∧ State.reset.scanner ≠ .draining ∧
    (st [.scanner .draining]).scanner = .draining := by unfold State.taken; decide

/-- A descriptor in the intake of tenant 63. -/
def waitsD (d : List Byte) (l : List Upd) : State :=
  st (pairParts [] ++ [.scanner .running, .intake 63 [{ pair := 1023, desc := d }]] ++ l)
def d128 (fs : List (Nat × Nat × Nat)) : List Byte :=
  fs.foldl (fun (d : List Byte) (f : Nat × Nat × Nat) => patch d f.1 (leBytes f.2.1 f.2.2)) (List.replicate 128 0)
def dRun : List Byte := d128 [(0, 1, opcRUN), (0x18, 6, baseT2)]
theorem wit_Dispatching_none : State.reset.intake 63 = [] := by decide
theorem wit_Dispatching_stopped : let s := waitsD dRun [.scanner .off]
    s.intake 63 = { pair := 1023, desc := dRun } :: [] ∧ s.scanner = .off := by decide
/-- Nothing keeps the descriptor from being opened. -/
def opens (s : State) (d : List Byte) : Prop :=
  s.intake 63 = { pair := 1023, desc := d } :: [] ∧ s.stilled = false ∧ s.tenantOn 63 = true ∧ s.scanner ≠ .off ∧
    s.arbClosed 304 = false ∧ s.arbShut 304 63 = false ∧ s.fenced 63 1023 = false
theorem wit_Dispatching_bad : let d := d128 []; let s := waitsD d []
    opens s d ∧ s.descOk d = false := by unfold opens; decide
theorem wit_Dispatching_window : let s := waitsD dRun [.reg rSEC_WIN 63 (2 ^ 63)]
    opens s dRun ∧ s.descOk dRun = true ∧ (∃ r ∈ windowRanges dRun, s.inWindow 63 r.1 r.2 = false) := by unfold opens; decide
theorem wit_Dispatching_run : let s := waitsD dRun []
    opens s dRun ∧ s.descOk dRun = true ∧ (∀ r ∈ windowRanges dRun, s.inWindow 63 r.1 r.2 = true) ∧
      dOpcode dRun ≠ opcFENCE ∧ dOpcode dRun ≠ opcSNAP ∧ dOpcode dRun ≠ opcMOVE ∧ dOpcode dRun < opcUBLOCK := by
  unfold opens; decide
theorem wit_Dispatching_fence : let d := d128 [(0, 1, opcFENCE)]; let s := waitsD d []
    opens s d ∧ s.descOk d = true ∧ (∀ r ∈ windowRanges d, s.inWindow 63 r.1 r.2 = true) ∧ dOpcode d = opcFENCE := by
  unfold opens; decide
/-- MOVE through queue 63. -/
def dMove : List Byte := d128 [(0, 1, opcMOVE), (0x10, 1, 4), (0x11, 1, 63)]
theorem wit_Dispatching_move :
    let s := waitsD dMove [.reg rDOC_IQ_CTL 63 (2 ^ 60 + place 53 48 63), .iq 63 { st := .running }]
    opens s dMove ∧ s.descOk dMove = true ∧ (∀ r ∈ windowRanges dMove, s.inWindow 63 r.1 r.2 = true) ∧
      dOpcode dMove = opcMOVE ∧ s.iqAccepts 63 63 = true ∧ (waitsD dMove []).iqAccepts 63 63 = false := by unfold opens; decide
theorem wit_Dispatching_priv : let d := d128 [(0, 1, 0x12)]; let s := waitsD d []
    opens s d ∧ s.descOk d = true ∧ (∀ r ∈ windowRanges d, s.inWindow 63 r.1 r.2 = true) ∧ opcUBLOCK ≤ dOpcode d ∧
      s.flag rTEN_CTL 59 63 = false := by unfold opens; decide
def cFence : Cmd := cmdOf opcFENCE []
theorem wit_Dispatching_fences : State.reset.takes 9 opcFENCE = none ∧ (has cFence []).takes 9 opcFENCE = some cFence ∧
    State.reset.cmd 9 = none ∧ cFence.taken = false ∧ (has cFence []).cmd 9 = some cFence := by decide
theorem wit_Dispatching_complete : let c := { cFence with taken := true }
    (has c []).cmd 9 = some c ∧ c.op = opcFENCE ∧ (has c []).fenceOpen c = true := by decide
theorem wit_Dispatching_ucie : (st [.ucieUp 15]).ucieUp.testBit 3 = true ∧ State.reset.ucieUp.testBit 3 = false := by decide

theorem wit_Tenants : State.reset.taken ∧ (State.reset.tenant 63).st = .off ∧
    (2 ^ 63 : Word).toNat.testBit 63 = true ∧ (2 ^ 63 : Word).toNat.testBit 62 = false := by unfold State.taken; decide
theorem wit_Tenants_states : ∀ x ∈ [TenState.enabled, .draining, .resetting],
    ((st [.tenant 63 { st := x }]).tenant 63).st = x ∧ (st [.tenant 63 { st := x }]).updSt ≠ .pause := by decide

/-- Set 3 has bay 2, or is to have it. -/
def set3 (x : SliceSet) (l : List Upd) : State := st ([.reg rTEN_SLICE_CFG 3 (2 ^ 63 + 4), .slice 3 x] ++ l)
theorem wit_Slicing_keep : let s := set3 { st := .idle } []
    s.taken ∧ s.flag rTEN_SLICE_CFG 63 3 = true ∧ (2 ^ 63 : Word).toNat.testBit 63 = true ∧ (4 : Word).toNat.testBit 63 = false ∧
      (∀ h, h < 16 → (s.load h).sliced = false) := by unfold State.taken; decide
theorem wit_Slicing_enable : let s := st [.bay 2 { st := .idle }]
    s.flag rTEN_SLICE_CFG 63 3 = false ∧ s.sliceOk 4 = true ∧ State.reset.sliceOk 4 = false := by decide
/-- Tenant 2 is active with load 1 in bay 2; tenant 5's load 6 waits. -/
def sliced (x : SliceSet) (a : Load) (l : List Upd) : State :=
  set3 { x with tenant := 2 } ([.reg rTEN_CTL 2 (place 56 55 3 + 2 ^ 57), .reg rTEN_CTL 5 (place 56 55 3), .bay 2 { st := .allocated, load := some 1 },
    .load 1 { a with tenant := 2, sliced := true, bays := 4 },
    .load 6 { st := .ready, tenant := 5, sliced := true, waiting := [9] }] ++ l)
theorem wit_Slicing_end : let s := sliced { st := .active } { st := .ready } []
    (s.slice 3).st = .active ∧ (s.slice 3).pend = none ∧ s.stilled = false ∧ s.waiters 3 = 5 :: [] ∧
      (s.tenant 5).debt ≤ s.sliceNs 5 ∧ (State.reset.slice 3).st ≠ .active := by decide
theorem wit_Slicing_alone : let s := set3 { st := .active } []
    (s.slice 3).st = .active ∧ (s.slice 3).pend = none ∧ s.stilled = false ∧ s.waiters 3 = [] := by decide
theorem wit_Slicing_rests : let s := sliced { st := .active, pend := some 0, nextTen := 5 } { st := .ready } []
    (s.slice 3).pend = some 0 ∧ s.activeRests 3 = true := by decide
/-- Load 1 stands at its mark. -/
def marksL : Load := { st := .running, cmd := some 9, started := true, image := { marks := [List.replicate 16 0] } }
theorem wit_Slicing_noCopy : let s := sliced { st := .active, pend := some 0, nextTen := 5 } marksL []
    (s.slice 3).st = .active ∧ (s.slice 3).pend = some 0 ∧ s.stilled = false ∧ s.activeLoad 3 = some 1 ∧ (s.load 1).cmd = some 9 ∧
      s.flag rTEN_CTL 57 2 = true ∧ (s.load 1).started = true ∧ s.queuesEmpty 1 = true ∧
      s.marksAt 1 = some [(2, List.replicate 16 0)] ∧ s.saveCopy (s.load 1).tenant (s.sliceBays 3) = none := by decide
def saveObj : Obj := { copy3 with writable := true, owner := 2, ext := List.replicate 6 0 }
theorem wit_Slicing_saves : let s := sliced { st := .active, pend := some 0, nextTen := 5 } marksL ([.reg rTEN_SAVE 2 3] ++ objs [(3, saveObj)])
    s.saveCopy (s.load 1).tenant (s.sliceBays 3) = some (3, saveObj) ∧
      (∀ k ∈ bayScells 2, s.saveLen k (List.replicate 16 0) ≤ saveObj.shareOf k) := by decide
theorem wit_Slicing_switch : let s := sliced { st := .switching, nextTen := 5 } { st := .ready } []
    (s.slice 3).st = .switching ∧ s.stilled = false ∧ s.waitsFor 3 5 = true ∧ s.sliceFree 3 (s.activeLoad 3) = true ∧
      s.slicedLoad 5 = some 6 := by decide
theorem wit_Slicing_noSwitch : let s := sliced { st := .switching, nextTen := 5 } { st := .ready } [.bay 2 { st := .faulted }]
    s.sliceFree 3 (s.activeLoad 3) = false ∧ (State.reset.slice 3).st = .off := by decide
theorem wit_Slicing_remote : let s := st [.load 15 { st := .running, started := true, image := { recs := [[3] ++ List.replicate 15 0] } }]
    (s.load 15).started = true ∧ (remoteRecs (s.load 15).image.recs).any (fun r => !rmOut r) = true ∧ s.stilled = false ∧
      (State.reset.load 15).started = false := by decide
theorem wit_Slicing_scan : let s := st [.bay 15 { st := .idle }]
    s.taken ∧ s.scanBarred 15 = false ∧ s.scanReady 15 = true ∧ State.reset.scanReady 15 = false ∧ State.reset.scanLater 15 = false := by
  unfold State.taken; decide
theorem wit_Slicing_scanLater : let s := st [.bay 15 { st := .testing }]
    s.scanBarred 15 = false ∧ s.scanReady 15 = false ∧ s.scanLater 15 = true := by decide
theorem wit_Slicing_scanIn :
    let s := st [.bay 15 { st := .allocated, load := some 1 }, .load 1 { st := .ready, tenant := 2 }, .reg rTEN_CTL 2 (2 ^ 58), .scanBay (some 15)]
    s.scanBarred 15 = false ∧ (s.bay 15).st = .allocated ∧ s.scanReady 15 = true ∧ (s.bay 15).load = some 1 ∧
      s.flag rTEN_CTL 58 (s.load 1).tenant = true ∧ s.scanBay = some 15 := by decide
theorem wit_Slicing_scanEnd : let s := st [.bay 15 { st := .scanning }, .reg rFAB_BAY_ON 0 0x8000]
    (s.bay 15).st = .scanning ∧ s.bayOnBit 15 = true ∧ s.scanWant = [] ∧ (State.reset.bay 15).st ≠ .scanning := by decide

/-! ### Links -/

/-- Nothing waits in the link switch of a state made without queued flits. -/
theorem quiet (s : State) (h : s.lnk.queues = []) (h2 : s.localFlits = []) (h3 : s.localLost = []) : s.linkQuiet :=
  ⟨fun k => by unfold State.lnkQ; rw [h]; rfl, h2, h3⟩

/-- The flit with these 252 bytes and its CRC. -/
def flitW (g : List Byte) : Flit := flitOf (g ++ leBytes 4 (crc32 g))
/-- 252 bytes: fields given as offset, length, value. -/
def fb (fs : List (Nat × Nat × Nat)) : List Byte :=
  fs.foldl (fun (d : List Byte) (f : Nat × Nat × Nat) => patch d f.1 (leBytes f.2.1 f.2.2)) (List.replicate 252 0)
/-- Port 3 hears the flit with these fields, in the clear. -/
def hearsAt (s : State) (p : Nat) (g : List Byte) : Prop :=
  s.lnk.queues = [] ∧ s.localFlits = [] ∧ s.localLost = [] ∧ s.accepts p (flitW g) ∧ formatOk (flitBytes (flitW g)) = true ∧
    (s.authentic p (flitBytes (flitW g))).1 = some (flitBytes (flitW g))
theorem hearsAt_hears (s : State) (p : Nat) (g : List Byte) (h : hearsAt s p g) :
    s.hears p (flitW g) (flitBytes (flitW g)) := ⟨quiet s h.1 h.2.1 h.2.2.1, h.2.2.2.1, h.2.2.2.2.1, h.2.2.2.2.2⟩

/-- A lit port with receive entries for its partner. -/
def lit0 : Port := { st := .active, partner := [1, 1, 1, 1], credits := [1, 1, 1, 1], far := List.replicate 28 0 }
/-- Port 3 is a bridge. -/
def bridge (x : Port) (l : List Upd) : State :=
  st ([.live { ports := lset (List.replicate 32 (2 ^ 63)) 3 (2 ^ 62) }, .port 3 x] ++ l)

theorem wit_FlitChecks_dark : (State.reset.port 3).st = .off := by decide
theorem wit_FlitChecks_crc : let s := bridge lit0 []
    (s.port 3).st ≠ .off ∧ (s.port 3).st ≠ .training ∧ (s.port 3).st ≠ .failed ∧
      crc32 ((flitBytes 0).take 0xFC) ≠ leAt (flitBytes 0) 0xFC 4 ∧ sequenced (flitBytes 0) = false ∧
      crc32 ((flitBytes 1).take 0xFC) ≠ leAt (flitBytes 1) 0xFC 4 ∧ sequenced (flitBytes 1) = true ∧ (s.port 3).lastNak = none := by
  decide
theorem wit_FlitChecks_nakSent : let s := bridge { lit0 with lastNak := some 0 } []
    (s.port 3).lastNak = some 0 ∧ s.now < 0 + 1000 := by decide
theorem wit_FlitChecks_format : let s := bridge lit0 []; let f := flitW (fb [(0, 1, 5)])
    s.lnk.queues = [] ∧ s.accepts 3 f ∧ formatOk (flitBytes f) = false := by unfold State.accepts; decide
theorem wit_FlitChecks_auth : let s := bridge { lit0 with enc := true } []; let f := flitW (fb [(0, 1, 0x40)])
    s.lnk.queues = [] ∧ s.accepts 3 f ∧ formatOk (flitBytes f) = true ∧ (s.authentic 3 (flitBytes f)).1 = none := by
  unfold State.accepts; decide
/-- DATA with one token for load 15, stream 5, generation 0, index 0. -/
def gData : List Byte := fb [(0, 1, 1), (1, 1, 1), (0x10, 1, 15), (0x11, 1, 5)]
theorem wit_FlitChecks_noEntry : let s := bridge { lit0 with partner := [0, 0, 0, 0] } []
    hearsAt s 3 gData ∧ routed (flitBytes (flitW gData)) = true ∧ (s.port 3).waiting = [] ∧
      lget 0 (s.port 3).partner (flVC (flitBytes (flitW gData))) = 0 := by unfold hearsAt State.accepts; decide
theorem wit_FlitChecks_route : let g := fb [(0, 1, 1), (1, 1, 1), (0x08, 1, 9)]; let s := bridge lit0 []
    hearsAt s 3 g ∧ routed (flitBytes (flitW g)) = true ∧ 0 < lget 0 (s.port 3).partner (flVC (flitBytes (flitW g))) ∧
      s.routeOk 3 (flitBytes (flitW g)) = false := by unfold hearsAt State.accepts; decide
theorem wit_FlitChecks_stream : let s := bridge lit0 []; let f := flitBytes (flitW gData)
    hearsAt s 3 gData ∧ routed f = true ∧ 0 < lget 0 (s.port 3).partner (flVC f) ∧ s.routeOk 3 f = true ∧ s.live.role 3 = 1 ∧
      s.streamOk (s.peerFrom 3 f) f = false := by unfold hearsAt State.accepts; decide
theorem wit_FlitChecks_idle : let s := bridge lit0 []; let g := fb []
    hearsAt s 3 g ∧ flTYPE (flitBytes (flitW g)) = tyIDLE ∧ (s.port 3).waiting = [] := by unfold hearsAt State.accepts; decide

/-- A LINK message. -/
def gLink (sub : Nat) (fs : List (Nat × Nat × Nat)) : List Byte := fb ([(0, 1, tyLINK), (1, 1, sub)] ++ fs)
/-- What every clause of LinkMessages starts from: the message is heard. -/
def linkMsg (s : State) (sub : Nat) (fs : List (Nat × Nat × Nat)) : Prop :=
  hearsAt s 3 (gLink sub fs) ∧ flTYPE (flitBytes (flitW (gLink sub fs))) = tyLINK ∧
    flSUB (flitBytes (flitW (gLink sub fs))) = sub
theorem wit_LinkMessages_hello : let s := bridge { lit0 with st := .checking } []; let fs := [(0x0D, 1, 1), (0x0E, 1, 2), (0x0F, 1, 3)]
    let far := byteSlice (flitBytes (flitW (gLink subHELLO fs))) 0x08 28
    linkMsg s subHELLO fs ∧ (s.port 3).st = .checking ∧
      (applyUpd (.port 3 { { lit0 with st := .checking } with far := far }) s).helloFault 3 = 0 ∧ (s.port 3).encReq = false ∧
      (leAt far 0x15 1).testBit 0 = false := by unfold linkMsg hearsAt State.accepts; decide
theorem wit_LinkMessages_helloBad : let s := bridge { lit0 with st := .checking } []
    let far := byteSlice (flitBytes (flitW (gLink subHELLO []))) 0x08 28
    linkMsg s subHELLO [] ∧ (applyUpd (.port 3 { { lit0 with st := .checking } with far := far }) s).helloFault 3 ≠ 0 := by
  unfold linkMsg hearsAt State.accepts; decide
theorem wit_LinkMessages_running : let s := bridge lit0 []
    linkMsg s subHELLO [] ∧ (s.port 3).carries = true ∧ linkMsg s subRATE [(0x08, 1, 1)] ∧ (s.port 3).st = .active ∧
      leAt (flitBytes (flitW (gLink subRATE [(0x08, 1, 1)]))) 0x08 1 = 1 := by unfold linkMsg hearsAt State.accepts; decide
theorem wit_LinkMessages_nak : let s := bridge { lit0 with replay := [{ seq := 0 }], tx := 1 } []
    linkMsg s subNAK [] ∧ (s.port 3).waiting = [] ∧ (∀ r ∈ (s.port 3).replay, r.resent < 7) := by
  unfold linkMsg hearsAt State.accepts; decide
theorem wit_LinkMessages_nakStore : let s := st [.port 3 { lit0 with replay := [{ seq := 0 }], tx := 1 }]
    linkMsg s subNAK [(4, 2, 65535)] ∧ (s.port 3).waiting = [] ∧ ((s.port 3).ackd 65535).dropWhile (fun r => decide (r.seq ≠ 0)) ≠ [] ∧
      flACK (flitBytes (flitW (gLink subNAK [(4, 2, 65535)]))) = 65535 ∧ (∀ r ∈ (s.port 3).replay, r.resent < 7) ∧
      lostFlits { s.port 3 with replay := (s.port 3).ackd 65535 } = [] ∧ s.live.role 3 ≠ 1 := by
  unfold linkMsg hearsAt State.accepts; decide
theorem wit_LinkMessages_time : let s := bridge lit0 []
    linkMsg s subTIMEREQ [] ∧ s.updSt ≠ .pause ∧ (3 : Nat) < 24 ∧ linkMsg s subTIMERESP [] := by
  unfold linkMsg hearsAt State.accepts; decide
theorem wit_LinkMessages_timeHere : 24 ≤ (31 : Fin 32).val ∧ (st [.port 31 lit0]).lnk.queues = [] ∧
    (st [.port 31 lit0]).accepts 31 (flitW (gLink subTIMEREQ [])) := by unfold State.accepts; decide
theorem wit_LinkMessages_quar : let s := bridge lit0 []
    linkMsg s subQUAR [(0x08, 1, 8)] ∧ (s.port 3).st ≠ .quarantined := by unfold linkMsg hearsAt State.accepts; decide
/-- A KEX fragment's fields; this end answers, since its IDENT, zero, is not the lower. -/
def kexF (kind i n len cred : Nat) : List (Nat × Nat × Nat) :=
  [(0x08, 1, kind), (0x09, 1, i), (0x0A, 1, n), (0x0C, 4, cred), (0x14, 2, len)]
theorem wit_LinkMessages_kexBad : let s := bridge { lit0 with st := .checking } []
    linkMsg s subKEX (kexF 1 1 6 228 0) ∧ (s.port 3).far ≠ [] ∧ (s.port 3).st = .checking ∧ (s.port 3).kex.frag ≠ 1 := by
  unfold linkMsg hearsAt State.accepts; decide
theorem wit_LinkMessages_kexFirst : let s := bridge lit0 []
    linkMsg s subKEX (kexF 1 0 6 228 0) ∧ s.kexTurn 3 1 = true ∧ max 1 (cdiv (kexBytes 1) 228) = 6 ∧
      min 228 (kexBytes 1 - 228 * 0) = 228 ∧ (0 : Nat) < 6 ∧ (s.port 3).session = 0 := by
  unfold linkMsg hearsAt State.accepts; decide
theorem wit_LinkMessages_kexOffer :
    let s := bridge { lit0 with kex := { kind := 1, frag := 5 } } [.cred 1 { valid := true, id := 77 }]
    linkMsg s subKEX (kexF 1 5 6 44 77) ∧ s.kexTurn 3 1 = true ∧ (s.port 3).kex.frag = 5 ∧
      min 228 (kexBytes 1 - 228 * 5) = 44 ∧
      [0, 1].find? (fun i => (s.cred i).valid && decide ((s.cred i).id = 77)) = some 1 := by
  unfold linkMsg hearsAt State.accepts; decide
theorem wit_LinkMessages_kexConfirm : let s := bridge { lit0 with kex := { formed := true } } []
    linkMsg s subKEX (kexF 3 0 1 32 0) ∧ s.kexTurn 3 3 = true ∧ (s.port 3).kex.cred = 0 ∧
      min 228 (kexBytes 3 - 228 * 0) = 32 := by unfold linkMsg hearsAt State.accepts; decide

/-- A REMOTE record of stream 5 with peer, credits and gateway 0. -/
def rem (out : Nat) (peer : List Byte) (cr : Nat) : List Byte :=
  [3, 5, BitVec.ofNat 8 out] ++ peer ++ [1, 6] ++ leBytes 2 cr ++ List.replicate 5 0
def withRecs (rs : List (List Byte)) (c : Option Nat) : Upd := .load 15 { st := .ready, image := { recs := rs }, cmd := c }
/-- What every clause of the first part of RoutedFlits starts from. -/
def routedAt (s : State) (p : Nat) (g : List Byte) : Prop :=
  hearsAt s p g ∧ routed (flitBytes (flitW g)) = true ∧ 0 < lget 0 (s.port p).partner (flVC (flitBytes (flitW g))) ∧
    s.routeOk p (flitBytes (flitW g)) = true
theorem wit_RoutedFlits_data : let s := bridge lit0 [withRecs [rem 0 [0x83, 0, 0, 0] 8] none]; let f := flitBytes (flitW gData)
    routedAt s 3 gData ∧ s.live.role 3 = 1 ∧ s.streamOk (s.peerFrom 3 f) f = true ∧ flTYPE f = tyDATA := by
  unfold routedAt hearsAt State.accepts; decide
theorem wit_RoutedFlits_stored : let s := bridge lit0 [withRecs [rem 0 [0x83, 0, 0, 0] 8] none]; let f := flitBytes (flitW gData)
    (s.stream (streamKey (flLOAD f) (flSTREAM f))).cutHere = false ∧ (s.port 3).enc = false := by decide
theorem wit_RoutedFlits_credit :
    let g := fb [(0, 1, 2), (1, 1, 1), (0x30, 1, 15), (0x31, 1, 5), (0x32, 2, 3)]; let f := flitBytes (flitW g)
    let s := bridge lit0 [withRecs [rem 1 [0x83, 0, 0, 0] 8] none, .stream (streamKey 15 5) { spent := [4] }]
    routedAt s 3 g ∧ s.streamOk (s.peerFrom 3 f) f = true ∧ flTYPE f = tyCREDIT ∧ creditEntries f = [(15, 5, 3)] ∧
      s.outNumber 15 5 (s.peerFrom 3 f) = some 0 ∧ s.outRecs 15 5 = rem 1 [0x83, 0, 0, 0] 8 :: [] ∧
      s.slotsOf (edgeSite (rmGateway (rem 1 [0x83, 0, 0, 0] 8)) 5).1 = [] := by unfold routedAt hearsAt State.accepts; decide
/-- The torus: this module at x = 1 of eight; port 6 faces x = 0, port 0 faces x = 2. -/
def torus (l : List Upd) : State :=
  st ([.live { self := 2 ^ 24 + place 47 44 8 + place 51 48 1 + place 57 52 1 + place 63 58 1, ports := List.replicate 32 0 },
    .port 6 lit0, .port 0 lit0] ++ l)
/-- A NOTICE of kind `sub`, and DATA, from x = 0 to `x`. -/
def gNotice (sub x : Nat) : List Byte := fb [(0, 1, 4), (1, 1, sub), (0x08, 1, x), (0x10, 1, 15), (0x11, 1, 5), (0x12, 1, 1), (0x13, 1, 1)]
theorem wit_RoutedFlits_cut : let s := torus [withRecs [rem 0 [0, 0, 0, 0] 8] none]; let f := flitBytes (flitW (gNotice 2 1))
    routedAt s 6 (gNotice 2 1) ∧ flDEST f = s.live.me ∧ s.streamOk (s.peerFrom 6 f) f = true ∧ flTYPE f = tyNOTICE ∧ flSUB f = 2 := by
  unfold routedAt hearsAt State.accepts; decide
theorem wit_RoutedFlits_lost : let s := torus [withRecs [rem 0 [0, 0, 0, 0] 8] none]; let f := flitBytes (flitW (gNotice 1 1))
    routedAt s 6 (gNotice 1 1) ∧ flDEST f = s.live.me ∧ s.streamOk (s.peerFrom 6 f) f = true ∧ flTYPE f = tyNOTICE ∧ flSUB f ≠ 2 ∧
      (s.remoteStreams (flLOAD f)).contains (flSTREAM f) = true ∧ (s.load (flLOAD f)).cmd = none := by
  unfold routedAt hearsAt State.accepts; decide
theorem wit_RoutedFlits_lostRunning : let s := torus [withRecs [rem 0 [0, 0, 0, 0] 8] (some 9)]; let f := flitBytes (flitW (gNotice 1 1))
    routedAt s 6 (gNotice 1 1) ∧ s.streamOk (s.peerFrom 6 f) f = true ∧
      (s.remoteStreams (flLOAD f)).contains (flSTREAM f) = true ∧ (s.load (flLOAD f)).cmd ≠ none := by
  unfold routedAt hearsAt State.accepts; decide
theorem wit_RoutedFlits_on : let s := torus [.pausedBundles 1]; let f := flitBytes (flitW (gNotice 1 2))
    routedAt s 6 (gNotice 1 2) ∧ s.live.role 6 ≠ 1 ∧ flDEST f ≠ s.live.me ∧ s.admits (some 0) f = some (0, 0) ∧ facing (bundleOf 6) = 0 ∧
      s.stuck 0 := by unfold routedAt hearsAt State.accepts State.stuck; decide
theorem wit_RoutedFlits_noPath : let s := torus [.port 0 {}]; let f := flitBytes (flitW (gNotice 1 2))
    routedAt s 6 (gNotice 1 2) ∧ flDEST f ≠ s.live.me ∧ s.admits (some 0) f = none := by
  unfold routedAt hearsAt State.accepts; decide
/-- Stream 5 of load 15 has two bridge peers without credits; a token waits at the gateway. -/
def mcast : State :=
  st [withRecs [rem 1 [0x83, 0, 0, 0] 0, rem 1 [0x84, 0, 0, 0] 0] none,
    .slot ((edgeSite 0 5).1 * 32) (some { inp := 8, stream := 5, outs := 128, q := [tok5] })]
theorem wit_RoutedFlits_cutNone : State.reset.lnk.queues = [] ∧ State.reset.localFlits = [] ∧ State.reset.localLost = [] ∧
    State.reset.outNumber 15 5 (coordOf 0x84000000) = none := by decide
theorem wit_RoutedFlits_cutOne : let s := st [withRecs [rem 1 [0x84, 0, 0, 0] 0] none]
    s.outNumber 15 5 (coordOf 0x84000000) = some 0 ∧ (s.outRecs 15 5).length < 2 := by decide
theorem wit_RoutedFlits_mcast : let s := mcast; let x := s.stream (streamKey 15 5); let r := lget [] (s.outRecs 15 5) 1
    s.lnk.queues = [] ∧ s.outNumber 15 5 (coordOf 0x84000000) = some 1 ∧ 2 ≤ (s.outRecs 15 5).length ∧ x.cut.testBit 1 = false ∧
      x.hasCredit (1, r) = false ∧ s.gatewayWaits 15 5 = true ∧ bridgePeer r ≠ none ∧
      (∀ q ∈ s.slotsOf (edgeSite (rmGateway r) 5).1,
        (applyUpd (.stream (streamKey 15 5) { x with cut := x.cut ||| (1 <<< 1) }) s).slotReady (edgeSite (rmGateway r) 5).1 q.2 = false) := by
  decide

/-- Port 3 in a state, of a torus role or not. -/
def aPort (x : Port) (l : List Upd) : State := st ([.port 3 x] ++ l)
theorem quiet_aPort (x : Port) : (aPort x []).linkQuiet := quiet _ rfl rfl rfl
theorem wit_LinkTimers_dark : (State.reset.port 3).lit = false ∧ (State.reset.port 3).kex.on = false ∧
    State.reset.rekeyDue 3 = false ∧ (State.reset.port 3).st ≠ .training ∧ (State.reset.port 3).st ≠ .checking ∧
    (State.reset.port 3).st ≠ .quarantined ∧ (State.reset.port 3).st ≠ .lowRate := by decide
theorem wit_LinkTimers_lit : let s := aPort lit0 []
    s.linkQuiet ∧ (s.port 3).lit = true ∧ lostFlits (s.port 3) = [] ∧ s.live.role 3 ≠ 1 ∧ (s.port 3).st ≠ .draining ∧
      (s.port 3).replay = [] := ⟨quiet_aPort _, by decide⟩
theorem wit_LinkTimers_replay : let s := aPort { lit0 with replay := [{}] } []
    (s.port 3).replay ≠ [] ∧ (s.port 3).lit = true ∧ (∀ r ∈ (s.port 3).replay, r.resent < 7) := by decide
theorem wit_LinkTimers_rekey : let s := aPort { lit0 with enc := true, txPos := 2 ^ 40, far := List.replicate 28 1 } []
    s.rekeyDue 3 = true ∧ (s.port 3).carries = true ∧ (s.port 3).kex.on = false ∧ s.startsKex 3 = true := by decide
theorem wit_LinkTimers_rekeyAsk : let s := aPort { lit0 with enc := true, txPos := 2 ^ 40 } []
    s.rekeyDue 3 = true ∧ (s.port 3).carries = true ∧ (s.port 3).kex.on = false ∧ s.startsKex 3 = false ∧
      (s.port 3).waiting = [] ∧ (s.port 3).replay.length < replaySize := by decide
theorem wit_LinkTimers_kex : ((aPort { lit0 with st := .checking, kex := { on := true } } []).port 3).kex.on = true ∧
    ((aPort { lit0 with kex := { on := true } } []).port 3).st ≠ .checking ∧
    (aPort { lit0 with kex := { on := true } } []).rekeyDue 3 = false := by decide
theorem wit_LinkTimers_training : ((aPort { st := .training } []).port 3).st = .training ∧
    ((aPort { st := .draining } []).port 3).st = .draining ∧ ((aPort { st := .quarantined } []).port 3).st = .quarantined := by decide
theorem wit_LinkTimers_noPack : State.reset.linkQuiet ∧ (State.reset.stream (streamKey 15 5)).pack = [] ∧
    (State.reset.stream (streamKey 15 5)).owed = 0 := ⟨quiet _ rfl rfl rfl, by decide⟩
theorem wit_LinkTimers_data :
    let s := torus [.pausedBundles 1, withRecs [rem 1 [2, 0, 0, 0] 8] none, .stream (streamKey 15 5) { pack := [tok5], index := 1 }]
    let x := s.stream (streamKey 15 5); let r := rem 1 [2, 0, 0, 0] 8
    let f := dataFlitBytes s.live.me r x.gen (x.index - x.pack.length) x.pack
    s.linkQuiet ∧ x.pack ≠ [] ∧ x.cut = 0 ∧ s.outRecs 15 5 = [r] ∧ bridgePeer r = none ∧ flDEST f ≠ s.live.me ∧
      s.admits none f = some (0, 0) ∧ s.stuck 0 := ⟨quiet _ rfl rfl rfl, by unfold State.stuck; decide⟩
theorem wit_LinkTimers_credit :
    let s := torus [.pausedBundles 1, withRecs [rem 0 [2, 0, 0, 0] 8] none, .stream (streamKey 15 5) { owed := 3 }]
    let x := s.stream (streamKey 15 5); let r := rem 0 [2, 0, 0, 0] 8
    let f := patch (mkFlit tyCREDIT 1 (rmPeer r ++ coordBytes s.live.me)) 0x30
      (leBytes 1 (rmPeerLoad r) ++ leBytes 1 (rmPeerStream r) ++ leBytes 2 x.owed)
    s.linkQuiet ∧ x.owed ≠ 0 ∧ s.inRec 15 5 = some r ∧ bridgePeer r = none ∧ flDEST f ≠ s.live.me ∧
      s.admits none f = some (0, 0) ∧ s.stuck 0 := ⟨quiet _ rfl rfl rfl, by unfold State.stuck; decide⟩
theorem wit_LinkTimers_resume :
    let idle (s : State) (b : Nat) : Bool :=
      (s.activePorts b).all (fun p => ((s.port p).replay.filter (fun r => routed r.clear)).isEmpty)
    idle (torus [.pausedBundles 1]) 0 = true ∧
      idle (torus [.port 0 { lit0 with replay := [{ clear := [1] }] }]) 0 = false := by decide

theorem wit_PortsAndTables_enable : let s := st [.live { ports := List.replicate 32 0 }]
    s.taken ∧ s.linkQuiet ∧ (s.port 31).st = .off ∧ s.live.role 31 ≠ 2 :=
  ⟨by unfold State.taken; decide, quiet _ rfl rfl rfl, by decide⟩
theorem wit_PortsAndTables_states : ∀ x ∈ [PortState.draining, .failed, .quarantined], ((aPort { st := x } []).port 3).st = x ∧
    (aPort { st := x } []).updSt ≠ .pause ∧ (aPort { st := x } []).live.role 3 = 2 := by decide
theorem wit_PortsAndTables_holds : let s := aPort { lit0 with replay := [{}] } []
    (s.port 3).st ≠ .off ∧ (s.port 3).st ≠ .draining ∧ (s.port 3).replay ≠ [] := by decide
theorem wit_PortsAndTables_force : let s := aPort { st := .draining, replay := [{}] } []
    (s.port 3).st = .draining ∧ lostFlits (s.port 3) = [] ∧ s.live.role 3 ≠ 1 := by decide
theorem wit_PortsAndTables_low : let s := aPort lit0 []
    s.nwSt = .active ∧ (s.port 3).carries = true ∧ (s.port 3).st = .active ∧ (s.port 3).toldLow = false := by decide
theorem wit_PortsAndTables_commit : State.reset.taken ∧ State.reset.linkQuiet ∧ State.reset.shadowTop.ok = true :=
  ⟨by unfold State.taken; decide, quiet _ rfl rfl rfl, by decide⟩
theorem wit_PortsAndTables_ready :
    let s := st [.bootPhase .ready, .reg rTOP_PORT 31 0, .reg rLNK_PORT_CTL 31 (2 ^ 63)]
    s.shadowTop.ok = true ∧ s.bootPhase = .ready ∧ s.flag rLNK_PORT_CTL 63 31 = true ∧ (s.port 31).st = .off ∧
      s.shadowTop.role 31 ≠ 2 := by decide
theorem wit_PortsAndTables_noDetour :
    let s := st [.reg rTOP_SELF 0 (place 47 44 2 + place 51 48 1 + place 57 52 1 + place 63 58 1), .reg rTOP_CORDON 0 (2 ^ 63 + 2 ^ 24)]
    s.shadowTop.ok = true ∧ s.shadowTop.noDetour = true := by decide
theorem wit_PortsAndTables_refused : (st [.reg rTOP_SELF 0 0]).shadowTop.ok = false := by decide

theorem wit_ModuleTime_root : (st [.reg rTOP_CTL 0 (2 ^ 62)]).isRoot = true ∧ State.reset.isRoot = false := by decide
/-- This module at x = `x` of two, with ports 0 and 6 in service. -/
def pairOf (x : Nat) : State :=
  st [.live { self := x * 2 ^ 24 + place 47 44 2 + place 51 48 1 + place 57 52 1 + place 63 58 1, ports := List.replicate 32 0 },
    .port 0 lit0]
theorem wit_ModuleTime_parent : ∃ x, (pairOf x).isRoot = false ∧ (pairOf x).parentPort = some 0 ∧ (pairOf x).updSt ≠ .pause := by
  have key : ∀ x, ((pairOf x).live.toward (pairOf x).live.me [Config.timeRoot 0 % (pairOf x).live.size 0,
      Config.timeRoot 1 % (pairOf x).live.size 1, lget 0 (pairOf x).live.me 2, lget 0 (pairOf x).live.me 3]).bind
      (fun b => ((pairOf x).activePorts b).head?) = (pairOf x).parentPort := fun _ => rfl
  rcases Nat.mod_two_eq_zero_or_one (Config.timeRoot 0) with h | h
  · refine ⟨1, by decide, ?_, by decide⟩
    rw [← key, show (pairOf 1).live.size 0 = 2 by decide, show (pairOf 1).live.size 1 = 1 by decide, h, Nat.mod_one]
    decide
  · refine ⟨0, by decide, ?_, by decide⟩
    rw [← key, show (pairOf 0).live.size 0 = 2 by decide, show (pairOf 0).live.size 1 = 1 by decide, h, Nat.mod_one]
    decide
theorem wit_ModuleTime_alone : State.reset.isRoot = false ∧ State.reset.parentPort = none := by
  refine ⟨by decide, ?_⟩
  show (State.reset.live.toward State.reset.live.me [Config.timeRoot 0 % State.reset.live.size 0,
    Config.timeRoot 1 % State.reset.live.size 1, lget 0 State.reset.live.me 2, lget 0 State.reset.live.me 3]).bind _ = none
  rw [show State.reset.live.size 0 = 1 by decide, show State.reset.live.size 1 = 1 by decide, Nat.mod_one, Nat.mod_one]
  rfl
theorem wit_ModuleTime_pps : let s := st [.reg rTOP_CTL 0 (2 ^ 62 + 2 ^ 61), .now 5]
    (s.isRoot && s.flag rTOP_CTL 61) = true ∧ s.ppsAt = none ∧ s.timeLocked = false ∧ (s.reg rTOP_TIME_SET).toNat * 1000000000 < s.now ∧
      (State.reset.isRoot && State.reset.flag rTOP_CTL 61) = false := by decide
theorem wit_ModuleTime_ahead : let s := st [.reg rTOP_CTL 0 (2 ^ 62 + 2 ^ 61), .reg rTOP_TIME_SET 0 7]
    s.timeLocked = false ∧ s.now ≤ (s.reg rTOP_TIME_SET).toNat * 1000000000 := by decide
theorem wit_ModuleTime_locked : (st [.timeLocked true]).timeLocked = true ∧ (st [.ppsAt (some 0)]).ppsAt = some 0 ∧
    (st [.ppsAt (some 0)]).now < 0 + 900000000 := by decide

/-! ### Power, heat and night watch -/

theorem wit_CapAndBrake : State.reset.taken ∧ (3801 : BitVec 16).toNat > 3800 ∧ (1199 : BitVec 16).toNat < 1200 ∧
    (2401 : BitVec 16).toNat > 2400 ∧ (0 : BitVec 6).toNat < 1 ∧ (37 : BitVec 6).toNat > 36 := by unfold State.taken; decide
/-- At LEVEL_W 2,400 a brake code exists under every power model in the bounds of Table 11.2. -/
theorem wit_CapAndBrake_code : ∃ c, brakeCodeOf pFix pDoc pFab 2400 = some c := by
  have h0 : (0 : Nat) ∈ (List.range 37).filter (fun c => decide (pFix + pDoc + pFab c ≤ 2400)) := by
    rw [List.mem_filter]
    refine ⟨by decide, ?_⟩
    have h1 : pFix ≤ 950 := Nat.min_le_left _ _
    have h2 : pDoc ≤ 450 := Nat.min_le_left _ _
    have h3 : pFab 0 ≤ 200 := by unfold pFab; exact Nat.min_le_left _ _
    simpa using (by omega : pFix + pDoc + pFab 0 ≤ 2400)
  have hne := List.ne_nil_of_mem h0
  unfold brakeCodeOf
  exact ⟨_, List.getLast?_eq_some_getLast hne⟩
/-- At the upper bounds of Table 11.2 no code lies under 1,200 W. -/
theorem wit_CapAndBrake_pace : brakeCodeOf 950 450 pFabBound 1200 = none ∧ brakePaceOf 950 450 pFabBound 1200 = some 1 := by
  decide
theorem wit_CapAndBrake_guarantee : let s := st [.reg rPWR_GUAR 0 (place 5 0 36), .req 15 { st := .decode, deadline := 9 }]
    s.taken ∧ max 1 (min 36 (12 : BitVec 6).toNat) < s.fld rPWR_GUAR 5 0 ∧ 15 ∈ s.reqIds ∧ (s.req 15).hasDeadline = true ∧
      (s.req 15).live = true ∧ (s.req 15).st ≠ .parked := by unfold State.taken; decide
theorem wit_CapAndBrake_off : let s := State.reset
    s.flag rPWR_BRAKE 47 = false := by decide
theorem wit_CapAndBrake_on : let s := st [.reg rPWR_BRAKE 0 (2 ^ 47)]
    s.flag rPWR_BRAKE 47 = true ∧ s.flag rPWR_BRAKE 46 = false ∧ s.pinBrake = false := by decide
theorem wit_CapAndBrake_held : let s := st [.reg rPWR_BRAKE 0 (2 ^ 47 + 2 ^ 46), .pinBrake true]
    s.flag rPWR_BRAKE 47 = true ∧ s.flag rPWR_BRAKE 46 = true ∧ s.pinBrake = true := by decide

theorem wit_Heat_reading : let s := State.reset
    (94 : BitVec 8).toNat < 95 ∧ 92 < (94 : BitVec 8).toNat ∧ 95 ≤ (95 : BitVec 8).toNat ∧ (114 : BitVec 8).toNat < 115 ∧
      115 ≤ (115 : BitVec 8).toNat ∧ s.hotSince 673 = none ∧ (639 : Fin 674).val < 640 ∧ s.thermAt 639 = none ∧
      0 < (s.island 639).wantTherm := by decide
theorem wit_Heat_trip : let s := st [.hotSince 673 (some 5), .now 10005]
    s.hotSince 673 = some 5 ∧ 5 + 10000 ≤ s.now ∧ s.halted = false := by decide
theorem wit_Heat_due : let s := st [.thermAt 639 (some 5), .now 100005, .island 639 { State.reset.island 639 with wantTherm := 35 }]
    (∀ a, s.thermAt 639 = some a → a + 10000 ≤ s.now) ∧ (∀ a, s.thermAt 639 = some a → a + 100000 ≤ s.now) ∧
      0 < (s.island 639).wantTherm ∧ (s.island 639).wantTherm < 36 := by
  have h : (st [.thermAt 639 (some 5), .now 100005, .island 639 { State.reset.island 639 with wantTherm := 35 }]).thermAt 639 =
    some 5 := by decide
  have hn : (st [.thermAt 639 (some 5), .now 100005, .island 639 { State.reset.island 639 with wantTherm := 35 }]).now =
    100005 := by decide
  refine ⟨fun a ha => ?_, fun a ha => ?_, by decide, by decide⟩ <;> (rw [h] at ha; cases ha; rw [hn])
  · decide
theorem wit_Heat_alert : let s := st [.temp 639 (some 89)]
    s.hottest < 90 ∧ ∀ i, i < 640 → s.thermLimited i = false := by decide
theorem wit_Heat_alertHeld : 90 ≤ (st [.temp 639 (some 90)]).hottest ∧
    (let s := st [.island 639 { State.reset.island 639 with limTherm := 35 }]; s.thermLimited 639 = true) := by decide

theorem wit_NightWatch_enter : let s := State.reset
    s.taken ∧ s.nwSt = .active ∧ s.mayWatch = true := by unfold State.taken; decide
theorem wit_NightWatch_refused : let s := st [.bay 15 { st := .faulted }]
    s.taken ∧ s.nwSt = .active ∧ s.mayWatch = false := by unfold State.taken; decide
theorem wit_NightWatch_watch : let s := st [.nwSt .watch, .reg rPWR_NW 0 (2 ^ 15)]
    s.taken ∧ s.nwSt = .watch ∧ (s.fld rPWR_NW 15 0).testBit 15 = true ∧ s.halted = false ∧ (s.bay 15).st = .off := by
  unfold State.taken; decide
theorem wit_NightWatch_entering : let s := st [.nwSt .entering, .reg rPWR_NW 0 (2 ^ 62)]
    s.taken ∧ s.nwSt = .entering ∧ s.flag rPWR_NW 62 = true := by unfold State.taken; decide
theorem wit_NightWatch_leaving : let s := st [.nwSt .leaving]
    s.taken ∧ s.nwSt = .leaving ∧ s.heldRows = [] ∧ s.linkQuiet ∧ s.flag rPWR_NW 63 = false :=
  ⟨by unfold State.taken; decide, by decide, by decide, quiet _ (by decide) (by decide) (by decide), by decide⟩

/-- At a cap of 1,000 W: more than 5 % over lowers the ceiling by four codes, less by one, room raises it by one (R395). -/
theorem test_ceiling : ceilingStep (fun _ => 0) 8 1051 1000 20 = 16 ∧ ceilingStep (fun _ => 0) 8 1050 1000 20 = 19 ∧
    ceilingStep (fun c => 10 * c) 8 990 1000 20 = 21 ∧ ceilingStep (fun c => 10 * c) 8 991 1000 20 = 20 := by decide

/-! ### A signed manifest in flash -/

theorem shaRound_length (v : List (BitVec 32)) (k w : BitVec 32) (h : v.length = 8) : (shaRound v k w).length = 8 := by
  unfold shaRound; split <;> [rfl; exact h]
theorem shaRounds_length (ks : List (BitVec 32)) (t : Nat) (ws v : List (BitVec 32)) (h : v.length = 8) :
    (shaRounds ks t ws v).length = 8 := by
  induction ks generalizing t ws v with
  | nil => exact h
  | cons k ks ih => simp only [shaRounds]; split <;> exact ih _ _ _ (shaRound_length _ _ _ h)
theorem shaBlocks_length (n : Nat) (bs : List Byte) (h : List (BitVec 32)) (e : h.length = 8) :
    (shaBlocks n bs h).length = 8 := by
  induction n generalizing bs h with
  | zero => exact e
  | succ n ih =>
    refine ih _ _ ?_
    simp [shaRounds_length _ _ _ _ e, e]
theorem sha256_length (bs : List Byte) : (sha256 bs).length = 32 := by
  show (List.flatMap (fun w : BitVec 32 => beBytes 4 w.toNat) (shaBlocks ((shaPad bs).length / 64) (shaPad bs) shaInit)).length = 32
  have h := shaBlocks_length ((shaPad bs).length / 64) (shaPad bs) shaInit rfl
  generalize shaBlocks ((shaPad bs).length / 64) (shaPad bs) shaInit = l at h
  match l, h with
  | [_, _, _, _, _, _, _, _], _ => rfl

/-- A signature of one level, 8-bit chains and height 5 with every hash zero. -/
def wSig : List Byte := beBytes 4 0 ++ (beBytes 4 0 ++ beBytes 4 4 ++ List.replicate 1120 0 ++ beBytes 4 5 ++ List.replicate 160 0)
/-- The root that this signature gives a message. -/
def wRoot (msg : List Byte) : List Byte :=
  lmsClimb 5 32 (List.replicate 16 0) (List.replicate 160 0) (sha256 (List.replicate 16 0 ++ beBytes 4 32 ++ beBytes 2 0x8282 ++
    otsKey 8 34 0 (List.replicate 16 0) 0 (byteSlice (wSig.drop 4) 4 1124) msg))
/-- The public key under which the signature holds. -/
def wPub (msg : List Byte) : List Byte := beBytes 4 1 ++ beBytes 4 5 ++ beBytes 4 4 ++ List.replicate 16 0 ++ wRoot msg
/-- The signature block of a message (R449). -/
def wBlock (msg : List Byte) : List Byte :=
  leBytes 4 0x4753564C ++ leBytes 4 60 ++ leBytes 4 1296 ++ leBytes 4 0 ++ (wPub msg ++ wSig)

theorem lmsClimb_length (n r : Nat) (id path x : List Byte) (h : x.length = 32) : (lmsClimb n r id path x).length = 32 := by
  induction n generalizing r path x with
  | zero => exact h
  | succ n ih => simp only [lmsClimb]; exact ih _ _ _ (by split <;> exact sha256_length _)
theorem wRoot_length (msg : List Byte) : (wRoot msg).length = 32 := lmsClimb_length _ _ _ _ _ (sha256_length _)
theorem wPub_length (msg : List Byte) : (wPub msg).length = 60 := by
  unfold wPub; rw [List.length_append, wRoot_length]; rfl
theorem wSig_length : wSig.length = 1296 := by decide
theorem wBlock_length (msg : List Byte) : (wBlock msg).length = 1372 := by
  unfold wBlock; rw [List.length_append, List.length_append (as := wPub msg), wPub_length, wSig_length]; rfl

/-- A slice that lies behind a prefix. -/
theorem byteSlice_append (a b : List Byte) (k n : Nat) : byteSlice (a ++ b) (a.length + k) n = byteSlice b k n := by
  simp [byteSlice, List.drop_append, List.drop_of_length_le]
/-- A whole list as a slice. -/
theorem byteSlice_all (a : List Byte) (n : Nat) (h : a.length = n) : byteSlice a 0 n = a := by
  subst h; simp [byteSlice]
theorem byteSlice_head (a b : List Byte) (n : Nat) (h : a.length = n) : byteSlice (a ++ b) 0 n = a := by
  subst h; simp [byteSlice]

theorem wit_lms (msg : List Byte) : lmsOk ((wPub msg).drop 4) (wSig.drop 4) msg = true := by
  have hr := wRoot_length msg
  have h24 : byteSlice ((wPub msg).drop 4) 24 32 = wRoot msg := by
    show byteSlice ((beBytes 4 5 ++ beBytes 4 4 ++ List.replicate 16 0) ++ wRoot msg)
      ((beBytes 4 5 ++ beBytes 4 4 ++ List.replicate 16 (0 : Byte)).length + 0) 32 = _
    rw [byteSlice_append, byteSlice_all _ _ hr]
  have e0 : byteSlice ((wPub msg).drop 4) 0 4 = beBytes 4 5 := rfl
  have e4 : byteSlice ((wPub msg).drop 4) 4 4 = beBytes 4 4 := rfl
  have e8 : byteSlice ((wPub msg).drop 4) 8 16 = List.replicate 16 0 := rfl
  unfold lmsOk
  rw [h24, e0, e4, e8]
  have a : lmsHeight (beNat (beBytes 4 5)) = some 5 := by decide
  have b : otsParam (beNat (beBytes 4 4)) = some (8, 34, 0) := by decide
  rw [a, b]
  simp only [Bool.and_eq_true, decide_eq_true_eq]
  refine ⟨⟨⟨⟨by decide, by decide⟩, by decide⟩, by decide⟩, ?_⟩
  unfold wRoot
  have c : (wSig.drop 4).drop 1132 = List.replicate 160 0 := by decide
  have q : beNat (byteSlice (wSig.drop 4) 0 4) = 0 := by decide
  rw [q]
  show lmsClimb 5 32 _ ((wSig.drop 4).drop 1132) _ = _
  rw [c]; rfl

theorem wit_sig (msg : List Byte) : sigBlockOk (sha256 (wPub msg)) msg (wBlock msg) = true := by
  have hp : byteSlice (wBlock msg) 16 60 = wPub msg := by
    show byteSlice ((leBytes 4 0x4753564C ++ leBytes 4 60 ++ leBytes 4 1296 ++ leBytes 4 0) ++ (wPub msg ++ wSig)) (16 + 0) 60 = _
    exact (byteSlice_append _ _ 0 60).trans (byteSlice_head _ _ _ (wPub_length msg))
  have hs : byteSlice (wBlock msg) (16 + 60) 1296 = wSig := by
    have e := byteSlice_append (leBytes 4 0x4753564C ++ leBytes 4 60 ++ leBytes 4 1296 ++ leBytes 4 0) (wPub msg ++ wSig) 60 1296
    have f := byteSlice_append (wPub msg) wSig 0 1296
    rw [wPub_length] at f
    exact e.trans (f.trans (byteSlice_all _ _ wSig_length))
  have l0 : leAt (wBlock msg) 0 4 = 0x4753564C := by
    have e : byteSlice (wBlock msg) 0 4 = leBytes 4 0x4753564C := rfl
    unfold leAt; rw [e]; decide
  have l4 : leAt (wBlock msg) 4 4 = 60 := by
    have e : byteSlice (wBlock msg) 4 4 = leBytes 4 60 := rfl
    unfold leAt; rw [e]; decide
  have l8 : leAt (wBlock msg) 8 4 = 1296 := by
    have e : byteSlice (wBlock msg) 8 4 = leBytes 4 1296 := rfl
    unfold leAt; rw [e]; decide
  have l12 : leAt (wBlock msg) 12 4 = 0 := by
    have e : byteSlice (wBlock msg) 12 4 = leBytes 4 0 := rfl
    unfold leAt; rw [e]; decide
  unfold sigBlockOk
  rw [l0, l4, l8, l12]
  show (decide (0x4753564C = 0x4753564C) && decide ((0 : Nat) = 0) && decide (16 + 60 + 1296 ≤ (wBlock msg).length) &&
    decide (sha256 (byteSlice (wBlock msg) 16 60) = sha256 (wPub msg)) &&
    hssOk (byteSlice (wBlock msg) 16 60) (byteSlice (wBlock msg) (16 + 60) 1296) msg) = true
  rw [hp, hs, wBlock_length]
  simp only [decide_true, Bool.true_and, Bool.and_true, Nat.le_refl, Nat.reduceAdd]
  unfold hssOk
  have p1 : beNat (byteSlice (wPub msg) 0 4) = 1 := by
    have e : byteSlice (wPub msg) 0 4 = beBytes 4 1 := rfl
    rw [e]; decide
  have s1 : beNat (byteSlice wSig 0 4) = 0 := by decide
  rw [p1, wPub_length, s1]
  exact wit_lms msg

theorem slice_pre (a b : List Byte) (k n : Nat) (h : k + n ≤ a.length) : byteSlice (a ++ b) k n = byteSlice a k n := by
  have e : (List.drop k (a ++ b)).take n = (List.drop k a).take n := by
    rw [List.drop_append_of_le_length (by omega), List.take_append_of_le_length (by simp; omega)]
  simp only [byteSlice, e]
theorem leAt_pre (a b : List Byte) (k n : Nat) (h : k + n ≤ a.length) : leAt (a ++ b) k n = leAt a k n := by
  unfold leAt; rw [slice_pre a b k n h]

/-- SHA-256 of no bytes. -/
def noHash : List Byte := [0xe3, 0xb0, 0xc4, 0x42, 0x98, 0xfc, 0x1c, 0x14, 0x9a, 0xfb, 0xf4, 0xc8, 0x99, 0x6f, 0xb9, 0x24,
  0x27, 0xae, 0x41, 0xe4, 0x64, 0x9b, 0x93, 0x4c, 0xa4, 0x95, 0x99, 0x1b, 0x78, 0x52, 0xb8, 0x55]
theorem sha256_none : sha256 [] = noHash := by decide
/-- A manifest's bytes before its signature block: parts of no bytes. -/
def wMsg (ps : List Nat) : List Byte :=
  leBytes 4 0x4D55564C ++ leBytes 2 1 ++ leBytes 2 ps.length ++ leBytes 12 0 ++ leBytes 4 1372 ++ List.replicate 40 0
    ++ ps.flatMap (fun p => leBytes 16 p ++ noHash)
/-- The manifest. -/
def wMf (ps : List Nat) : List Byte := wMsg ps ++ wBlock (wMsg ps)

theorem mfParts_pre (a b : List Byte) (h : 0x40 ≤ a.length) : mfParts (a ++ b) = mfParts a :=
  leAt_pre a b 6 2 (by omega)
theorem mfHead_pre (a b : List Byte) (h : 0x40 ≤ a.length) : mfHead (a ++ b) = mfHead a := by
  unfold mfHead; rw [mfParts_pre a b h]
theorem mfSigBytes_pre (a b : List Byte) (h : 0x40 ≤ a.length) : mfSigBytes (a ++ b) = mfSigBytes a :=
  leAt_pre a b 0x14 4 (by omega)
theorem mfEntries_pre (a b : List Byte) (h : 0x40 ≤ a.length) (k : mfHead a = a.length) : mfEntries (a ++ b) = mfEntries a := by
  unfold mfEntries
  rw [mfParts_pre a b h]
  refine List.map_congr_left fun e he => slice_pre a b _ _ ?_
  have := List.mem_range.1 he
  unfold mfHead at k; omega
theorem mfFormat_pre (a b c : List Byte) (h : 0x40 ≤ a.length) (k : mfHead a = a.length) (l : b.length = c.length) :
    mfFormatOk (a ++ b) = mfFormatOk (a ++ c) := by
  unfold mfFormatOk
  simp only [mfEntries_pre a _ h k, mfHead_pre a _ h, mfSigBytes_pre a _ h, mfParts_pre a _ h, List.length_append, l,
    leAt_pre a _ _ _ (show 0 + 4 ≤ a.length by omega), leAt_pre a _ _ _ (show 4 + 2 ≤ a.length by omega),
    leAt_pre a _ _ _ (show 0x18 + 20 ≤ a.length by omega), leAt_pre a _ _ _ (show 0x2C + 20 ≤ a.length by omega)]

/-- Such a manifest passes every check where the vendor key is its signer's and every part has a place. -/
theorem wit_reason (s : State) (ps : List Nat) (base : Nat → Option Nat) (need : Nat → Bool)
    (hh : mfHead (wMsg ps) = (wMsg ps).length) (hs : mfSigBytes (wMsg ps) = 1372) (h64 : 0x40 ≤ (wMsg ps).length)
    (hf : mfFormatOk (wMsg ps ++ List.replicate 1372 0) = true)
    (hw : (decide (mfMask (wMsg ps) % 32 ≠ 0) && decide (mfMask (wMsg ps) % 32 ≠ 31)) = false)
    (he : ∀ r ∈ mfEntries (wMsg ps), enLength r = 0 ∧ enHash r = noHash ∧ (base (enPart r)).isSome = true)
    (hv : s.vendorHash = sha256 (wPub (wMsg ps))) : s.manifestReason (wMf ps) base need 0 = none := by
  have hb := wBlock_length (wMsg ps)
  unfold State.manifestReason wMf
  have e1 : mfFormatOk (wMsg ps ++ wBlock (wMsg ps)) = true := by
    rw [mfFormat_pre (wMsg ps) _ (List.replicate 1372 0) h64 hh (by rw [hb, List.length_replicate])]; exact hf
  have e2 : (wMsg ps ++ wBlock (wMsg ps)).take (mfHead (wMsg ps ++ wBlock (wMsg ps))) = wMsg ps := by
    rw [mfHead_pre _ _ h64, hh]; simp
  have e3 : byteSlice (wMsg ps ++ wBlock (wMsg ps)) (mfHead (wMsg ps ++ wBlock (wMsg ps)))
      (mfSigBytes (wMsg ps ++ wBlock (wMsg ps))) = wBlock (wMsg ps) := by
    rw [mfHead_pre _ _ h64, hh, mfSigBytes_pre _ _ h64, hs]
    exact (byteSlice_append (wMsg ps) _ 0 1372).trans (byteSlice_all _ _ hb)
  have e4 : (mfFirmware (wMsg ps ++ wBlock (wMsg ps)) && decide (mfMask (wMsg ps ++ wBlock (wMsg ps)) % 32 ≠ 31)) = false := by
    simp only [mfFirmware, mfMask, mfEntries_pre _ _ h64 hh] at hw ⊢; exact hw
  have e5 : (mfEntries (wMsg ps ++ wBlock (wMsg ps))).all (fun r => !need (enPart r) || s.entryOk base r) = true := by
    rw [mfEntries_pre _ _ h64 hh, List.all_eq_true]
    intro r hr
    obtain ⟨a, b, c⟩ := he r hr
    obtain ⟨x, hx⟩ := Option.isSome_iff_exists.1 c
    have : s.entryOk base r = true := by
      unfold State.entryOk
      rw [hx, a, b]
      show decide (sha256 [] = noHash) = true
      rw [sha256_none]; decide
    rw [this, Bool.or_true]
  rw [e1, e2, e3, hv, wit_sig, e4, e5]
  simp

/-- Bytes of the flash from an address on. -/
def flashTab : Nat → List Byte → Tab (Option Byte)
  | _, [] => []
  | a, b :: bs => (a, some b) :: flashTab (a + 1) bs
theorem flashTab_get (d : Nat → Option Byte) (t : Tab (Option Byte)) (a k : Nat) (l : List Byte) :
    tget d (flashTab a l ++ t) k = if a ≤ k ∧ k < a + l.length then l[k - a]? else tget d t k := by
  induction l generalizing a with
  | nil => simp [flashTab]
  | cons b l ih =>
    simp only [flashTab, List.cons_append, tget, ih, List.length_cons]
    by_cases e : a = k
    · subst e; simp
    · rw [if_neg e]
      by_cases h : a ≤ k ∧ k < a + (l.length + 1)
      · rw [if_pos h, if_pos (by omega), show k - a = (k - (a + 1)) + 1 by omega, List.getElem?_cons_succ]
      · rw [if_neg h, if_neg (by omega)]
/-- Flash bytes that hold a list. -/
theorem flashBytes_of (s : State) (a : Nat) (l : List Byte) (n : Nat) (hn : n ≤ l.length)
    (h : ∀ i, i < l.length → s.flashAt (a + i) = l[i]?) : s.flashBytes a n = l.take n := by
  refine List.ext_getElem (by simp [State.flashBytes, hn]) fun i hi hj => ?_
  have hl : i < l.length := by simp at hj; omega
  simp only [State.flashBytes, List.getElem_map, List.getElem_range, List.getElem_take, State.flash, h i hl]
  rw [List.getElem?_eq_getElem hl]; rfl

/-! ### Resets and starts -/

theorem wit_ResetsAndStarts_vin : (st [.bootPhase .off]).bootPhase = .off ∧ State.reset.bootPhase ≠ .off := by decide
theorem wit_ResetsAndStarts_soft : State.reset.taken ∧ bits 63 56 (0xA500000000000001 : Word).toNat = 0xA5 ∧
    (0xA500000000000001 : Word).toNat.testBit 0 = true ∧ bits 63 56 (0xA600000000000001 : Word).toNat ≠ 0xA5 ∧
    (0xA500000000000000 : Word).toNat.testBit 0 = false ∧
    (0xA600000000000001 : Word).toNat &&& (2 ^ 64 - 1 - regMask rBOOT_RESET) = 0 := by unfold State.taken; decide
theorem wit_ResetsAndStarts_refclk : let s := st [.bootPhase .ready]
    s.bootPhase = .ready ∧ s.halted = false ∧ State.reset.bootPhase ≠ .ready := by decide

/-- Everything is found good. -/
def allGood : StartObs :=
  { bootUs := 900, flashOk := true, jedec := 0x123456, identityOk := true, trims0Ok := false, trims1Ok := true, railsOk := true,
    refclk := true, reserveFails := 0, ucieUp := 15, ucieRep := 0, t2Up := 255, t2Rep := 0, t3Present := 0, t3Supported := true,
    t3Alike := true, t3FastEnough := true, t3All8800 := true, t3Trained := 0, t3Gib := 64 }
theorem wit_ResetsAndStarts_stops : State.reset.bootPhase = .dark ∧ allGood.flashOk = true ∧ allGood.identityOk = true ∧
    allGood.trims1Ok = true ∧ allGood.refclk = true ∧ allGood.railsOk = true ∧ (st [.bootPhase .ready]).bootPhase ≠ .dark ∧
    ({ allGood with refclk := false } : StartObs).refclk = false := by decide
theorem wit_ResetsAndStarts_waits : let s := st [.bootPhase .waitRefclk, .startObs (some allGood)]
    s.startObs = some allGood ∧ s.bootPhase = .waitRefclk := by decide

/-- A module with these bytes in its flash, whose attestation key has no index left. -/
def flashed (t : Tab (Option Byte)) (l : List Upd) : State :=
  { st ([.reg rSEC_IDX 0 (2 ^ 25)] ++ l) with boot := { (st l).boot with flash := t } }
/-- The firmware of five empty parts in slot A, signed by the vendor. -/
def firmware : Tab (Option Byte) :=
  flashTab 0x2074 (sha256 (wPub (wMsg [1, 2, 3, 4, 5]))) ++ (flashTab 0x2B00000 (wMf [1, 2, 3, 4, 5]) ++ [])

theorem wMf_length (ps : List Nat) : (wMf ps).length = (wMsg ps).length + 1372 := by
  unfold wMf; rw [List.length_append, wBlock_length]
theorem firmware_get (k : Nat) : tget (fun _ => none) firmware k =
    if 0x2074 ≤ k ∧ k < 0x2094 then (sha256 (wPub (wMsg [1, 2, 3, 4, 5])))[k - 0x2074]?
    else if 0x2B00000 ≤ k ∧ k < 0x2B0068C then (wMf [1, 2, 3, 4, 5])[k - 0x2B00000]? else none := by
  unfold firmware
  have hl : (wMf [1, 2, 3, 4, 5]).length = 1676 := by rw [wMf_length]; decide
  rw [flashTab_get, flashTab_get, sha256_length, hl]
  rfl

/-- A slot with this manifest starts. -/
theorem slotStarts_of (s : State) (h : ∀ k, s.flashAt k = tget (fun _ => none) firmware k) : s.slotStarts 0 0 = true := by
  have hl : (wMf [1, 2, 3, 4, 5]).length = 1676 := by rw [wMf_length]; decide
  have hv : s.vendorHash = sha256 (wPub (wMsg [1, 2, 3, 4, 5])) := by
    unfold State.vendorHash
    rw [flashBytes_of s 0x2074 (sha256 (wPub (wMsg [1, 2, 3, 4, 5]))) 32 (by rw [sha256_length]), List.take_of_length_le (by
      rw [sha256_length])]
    intro i hi
    rw [sha256_length] at hi
    rw [h, firmware_get, if_pos (by omega), Nat.add_sub_cancel_left]
  have hm (n : Nat) (hn : n ≤ 1676) : s.flashBytes (manifestAt 0) n = (wMf [1, 2, 3, 4, 5]).take n := by
    refine flashBytes_of s 0x2B00000 _ n (by omega) fun i hi => ?_
    rw [hl] at hi
    rw [h, firmware_get, if_neg (by omega), if_pos (by omega), Nat.add_sub_cancel_left]
  have hh : s.flashBytes (manifestAt 0) 0x40 = (wMsg [1, 2, 3, 4, 5]).take 0x40 := by
    rw [hm _ (by decide)]; unfold wMf; exact List.take_append_of_le_length (by decide)
  have hs : s.slotManifest 0 = wMf [1, 2, 3, 4, 5] := by
    unfold State.slotManifest
    rw [hh]
    have e : min 65536 (mfHead ((wMsg [1, 2, 3, 4, 5]).take 0x40) + mfSigBytes ((wMsg [1, 2, 3, 4, 5]).take 0x40)) = 1676 := by decide
    show s.flashBytes (manifestAt 0) (min 65536 (mfHead ((wMsg [1, 2, 3, 4, 5]).take 0x40) + mfSigBytes ((wMsg [1, 2, 3, 4, 5]).take 0x40))) = _
    rw [e, hm _ (by decide), List.take_of_length_le (by omega)]
  unfold State.slotStarts
  rw [hs]
  simp only [Bool.and_eq_true]
  constructor
  · unfold mfFirmware mfMask wMf
    rw [mfEntries_pre _ _ (by decide) (by decide)]; decide
  · rw [wit_reason s [1, 2, 3, 4, 5] _ _ (by decide) (by decide) (by decide) (by decide) (by decide) ?_ hv]; · rfl
    intro r hr
    exact (show ∀ r ∈ mfEntries (wMsg [1, 2, 3, 4, 5]), enLength r = 0 ∧ enHash r = noHash ∧ true = true by decide) r hr

/-- A place of the journal that nothing was written to. -/
theorem journal_blank (s : State) (i : Nat) (hi : i < 1024)
    (h : ∀ a, 0x40000 + 64 * i ≤ a → a < 0x40040 + 64 * i → s.flashAt a = none) : s.journalAt i = List.replicate 64 0xFF := by
  refine List.ext_getElem (by simp [State.journalAt, State.flashBytes]) fun j hj hk => ?_
  have : j < 64 := by simpa using hk
  simp only [State.journalAt, State.flashBytes, List.getElem_map, List.getElem_range, List.getElem_replicate, State.flash]
  rw [h _ (by omega) (by omega)]
  show shippedByte _ = _
  unfold shippedByte; rw [if_pos (by omega)]
theorem journalOf_blank : journalOf (List.replicate 64 0xFF) = none := by decide
/-- Nothing in the journal region. -/
theorem journal_none (s : State) (h : ∀ a, 0x40000 ≤ a → a < 0x50000 → s.flashAt a = none) :
    s.journalTorn = false ∧ s.journalLatest = none := by
  have hj : ∀ i, i < 1024 → s.journalAt i = List.replicate 64 0xFF := fun i hi =>
    journal_blank s i hi fun a h1 h2 => h a (by omega) (by omega)
  constructor
  · unfold State.journalTorn
    rw [List.any_eq_false]
    intro i hi
    rw [hj i (List.mem_range.1 hi)]; decide
  · unfold State.journalLatest
    rw [List.filterMap_eq_nil_iff.2 fun i hi => by rw [hj i (List.mem_range.1 hi), journalOf_blank]; rfl]
    rfl
/-- One record in the journal region, at its first place. -/
theorem journal_one (s : State) (b : List Byte) (j : Journal) (h0 : s.journalAt 0 = b) (hb : journalOf b = some j)
    (h : ∀ a, 0x40040 ≤ a → a < 0x50000 → s.flashAt a = none) :
    s.journalTorn = false ∧ s.journalLatest = some (0, j) := by
  have hj : ∀ i, i < 1023 → s.journalAt (i + 1) = List.replicate 64 0xFF := fun i hi =>
    journal_blank s (i + 1) (by omega) fun a h1 h2 => h a (by omega) (by omega)
  constructor
  · unfold State.journalTorn
    rw [List.any_eq_false]
    intro i hi
    cases i with
    | zero => rw [h0, hb]; simp
    | succ i => rw [hj i (by have := List.mem_range.1 hi; omega)]; decide
  · unfold State.journalLatest
    have hr : List.range 1024 = 0 :: (List.range 1023).map Nat.succ := List.range_succ_eq_map
    have ht : ((List.range 1023).map Nat.succ).filterMap (fun i => (journalOf (s.journalAt i)).map (fun j => (i, j))) = [] := by
      refine List.filterMap_eq_nil_iff.2 fun i hi => ?_
      obtain ⟨n, hn, rfl⟩ := List.mem_map.1 hi
      rw [hj n (List.mem_range.1 hn), journalOf_blank]; rfl
    rw [hr, List.filterMap_cons, h0, hb, ht]; rfl
/-- With the key used up nothing is reserved. -/
theorem reserve_none (s : State) (h : s.flag rSEC_IDX 25 = true) (k : s.flag rSEC_IDX 24 = false) : run (reserveAtStart 0) s = s := by
  unfold reserveAtStart
  have e : run startReserve s = s := by
    unfold startReserve
    rw [run_dyn, if_pos (Or.inl h)]; rfl
  rw [run_seqs_cons, e]
  simp [k]
theorem flashed_flag (t : Tab (Option Byte)) (l : List Upd) (i : Nat) :
    (flashed t l).flag rSEC_IDX i = (st ([.reg rSEC_IDX 0 (2 ^ 25)] ++ l)).flag rSEC_IDX i := rfl
theorem flashed_flashAt (t : Tab (Option Byte)) (l : List Upd) (k : Nat) :
    (flashed t l).flashAt k = tget (fun _ => none) t k := rfl
theorem flashed_journal (t : Tab (Option Byte)) (l : List Upd) : (flashed t l).journal = (st l).journal := rfl
/-- A start whose reservation does nothing: the journal and the flash stay. -/
theorem reserved_of (s : State) (h : s.flag rSEC_IDX 25 = true) (k : s.flag rSEC_IDX 24 = false) :
    s.reserved allGood = applyUpd (.ident s.identOf) s := by
  have e (x : Nat) : (applyUpd (.ident x) s).flag rSEC_IDX 25 = true ∧ (applyUpd (.ident x) s).flag rSEC_IDX 24 = false := ⟨h, k⟩
  have f : allGood.reserveFails = 0 := rfl
  rw [State.reserved, f, run_seq, run_dyn, run_upd]
  exact reserve_none _ (e _).1 (e _).2
theorem reserved_obs (s : State) (h : s.flag rSEC_IDX 25 = true) (k : s.flag rSEC_IDX 24 = false) :
    ((applyUpd (.startObs none) s).reserved allGood).journal = s.journal ∧
      ∀ a, ((applyUpd (.startObs none) s).reserved allGood).flashAt a = s.flashAt a := by
  have e : ∀ i, (applyUpd (.startObs none) s).flag rSEC_IDX i = s.flag rSEC_IDX i := fun i => rfl
  rw [reserved_of _ ((e 25).trans h) ((e 24).trans k)]
  generalize (applyUpd (.startObs none) s).identOf = x
  exact ⟨rfl, fun a => rfl⟩
/-- Slot A starts when REFCLK arrives. -/
theorem wit_ResetsAndStarts_arrives : ∃ s : State, s.startObs = some allGood ∧ s.bootPhase = .waitRefclk ∧
    ((applyUpd (.startObs none) s).reserved allGood).journal.choice = some 0 ∧
    ((applyUpd (.startObs none) s).reserved allGood).slotStarts 0
      ((applyUpd (.startObs none) s).reserved allGood).journal.minSvn = true := by
  obtain ⟨s, hs⟩ : ∃ s, s = flashed firmware [.bootPhase .waitRefclk, .startObs (some allGood)] := ⟨_, rfl⟩
  have h25 : s.flag rSEC_IDX 25 = true := by rw [hs, flashed_flag]; decide
  have h24 : s.flag rSEC_IDX 24 = false := by rw [hs, flashed_flag]; decide
  have hj : s.journal = {} := by rw [hs, flashed_journal]; decide
  have hf : ∀ k, s.flashAt k = tget (fun _ => none) firmware k := by intro k; rw [hs, flashed_flashAt]
  refine ⟨s, by rw [hs]; rfl, by rw [hs]; rfl, ?_⟩
  obtain ⟨h1, h2⟩ := reserved_obs s h25 h24
  rw [h1, hj]
  exact ⟨by decide, slotStarts_of _ fun k => (h2 k).trans (hf k)⟩
/-- No slot may start when REFCLK arrives. -/
theorem wit_ResetsAndStarts_none : ∃ s : State, s.startObs = some allGood ∧ s.bootPhase = .waitRefclk ∧
    ((applyUpd (.startObs none) s).reserved allGood).journal.choice = none := by
  obtain ⟨s, hs⟩ : ∃ s, s = flashed [] [.bootPhase .waitRefclk, .startObs (some allGood), .journal { stA := 5 }] := ⟨_, rfl⟩
  have h25 : s.flag rSEC_IDX 25 = true := by rw [hs, flashed_flag]; decide
  have h24 : s.flag rSEC_IDX 24 = false := by rw [hs, flashed_flag]; decide
  have hj : s.journal = { stA := 5 } := by rw [hs, flashed_journal]; decide
  refine ⟨s, by rw [hs]; rfl, by rw [hs]; rfl, ?_⟩
  rw [(reserved_obs s h25 h24).1, hj]; decide
/-- What a start does before it reads the journal. -/
def startHead (c : Nat) (obs : StartObs) : Act :=
  seqs [setFld rBOOT_STAT 55 52 c, .upd (.bootCause 2), setFld rBOOT_FLASH 63 40 obs.jedec.toNat,
    when' (!obs.trims0Ok) (.seq (setErr blkBOOT 0) (setFld rBOOT_STAT 44 44 1))]
def footHead : Foot := { flds := [.boot .bootCause], regs := [rBOOT_STAT, rBOOT_FLASH, rBOOT_ERR, rPWR_BRAKE] }
theorem within_startHead (c : Nat) (obs : StartObs) : (startHead c obs).Within footHead := by
  unfold startHead
  repeat' first | with_reducible apply Act.Within.nop | with_reducible apply w_setErr | with_reducible refine within_when' ?_ |
    with_reducible apply within_setFld | (with_reducible apply within_upd; exact ⟨_, rfl, by decide +kernel⟩) | decide +kernel |
    exact errOk_any (by decide +kernel) | with_reducible apply Act.Within.seq | with_reducible apply within_seqs_cons |
    with_reducible apply within_seqs_nil
/-- The flash, the journal and the key stay. -/
def Kept (s t : State) : Prop := (∀ a, t.flashAt a = s.flashAt a) ∧ t.journal = s.journal ∧ ∀ i, t.flag rSEC_IDX i = s.flag rSEC_IDX i
theorem Foot.Frame.kept {p : Foot} {s t : State} (f : p.Frame s t) (h : Fld.boot .flashAt ∉ p.flds ∧ Fld.boot .journal ∉ p.flds ∧
    rSEC_IDX ∉ p.regs) : Kept s t :=
  ⟨fun a => congrArg (fun x => tget (fun _ => none) x a) (f.2.2.1 _ h.1), f.2.2.1 _ h.2.1,
    fun i => f.flag _ i 0 (by decide) h.2.2⟩
theorem run_six (a b c d e f : Act) (s : State) : run (seqs [a, b, c, d, e, f]) s = run f (run e (run (seqs [a, b, c, d]) s)) := by
  simp only [run_seqs_cons, run_seqs_nil]
theorem journaled_eq (s : State) (obs : StartObs) :
    s.journaled obs = run computeBrake (run readJournal (run (startHead s.bootCause obs) s)) := by
  rw [State.journaled, run_six, startHead]
theorem journaled_ex (s : State) (obs : StartObs) :
    ∃ x, Kept s x ∧ s.journaled obs = run computeBrake (run readJournal x) ∧ Kept (run readJournal x) (s.journaled obs) := by
  refine ⟨run (startHead s.bootCause obs) s, Foot.Frame.kept ((within_startHead s.bootCause obs).frame s) (by decide),
    journaled_eq s obs, ?_⟩
  rw [journaled_eq s obs]
  exact Foot.Frame.kept (w_computeBrake.frame _) (by decide)
theorem journaled_of (s : State) (j : Option (Nat × Journal)) (k : Journal) (hk : k = match j with | some p => p.2 | none => {})
    (hj : ∀ t : State, (∀ a, t.flashAt a = s.flashAt a) → t.journalTorn = false ∧ t.journalLatest = j)
    (h3 : k.slot 0 ≠ stTRIAL ∧ k.slot 1 ≠ stTRIAL) :
    (s.journaled allGood).journal = k ∧ (∀ a, (s.journaled allGood).flashAt a = s.flashAt a) ∧
      ∀ i, (s.journaled allGood).flag rSEC_IDX i = s.flag rSEC_IDX i := by
  obtain ⟨x, a, -, b⟩ := journaled_ex s allGood
  obtain ⟨t, l⟩ := hj x a.1
  have c : ∃ n, run readJournal x = applyUpd (.jrnNext n) (applyUpd (.journal k) x) := by
    unfold readJournal
    rw [run_dyn, run_seqs_cons, t, run_when', if_neg (by decide), l, run_seqs_cons]
    have e : ∀ n, run (seqs [each [0, 1] (fun t => whenS (fun s => decide (s.journal.slot t = stTRIAL))
        (appendJournal (fun j => j.setSlot t stBAD)))]) (applyUpd (.jrnNext n) (applyUpd (.journal k) x)) =
        applyUpd (.jrnNext n) (applyUpd (.journal k) x) := by
      intro n
      have hs : (applyUpd (.jrnNext n) (applyUpd (.journal k) x)).journal = k := rfl
      simp [hs, h3]
    cases j with
    | some p => refine ⟨x.journalGoesOn (p.1 + 1), ?_⟩; dsimp only at hk ⊢; rw [← hk, run_seq, run_upd, run_upd]; exact e _
    | none => refine ⟨x.journalGoesOn 0, ?_⟩; dsimp only at hk ⊢; rw [← hk, run_seq, run_upd, run_upd]; exact e _
  obtain ⟨n, c⟩ := c
  rw [c] at b
  have d : (applyUpd (.jrnNext n) (applyUpd (.journal k) x)).journal = k ∧
    (∀ i, (applyUpd (.jrnNext n) (applyUpd (.journal k) x)).flashAt i = x.flashAt i) ∧
    ∀ i, (applyUpd (.jrnNext n) (applyUpd (.journal k) x)).flag rSEC_IDX i = x.flag rSEC_IDX i := ⟨rfl, fun _ => rfl, fun _ => rfl⟩
  exact ⟨b.2.1.trans d.1, fun i => ((b.1 i).trans (d.2.1 i)).trans (a.1 i), fun i => ((b.2.2 i).trans (d.2.2 i)).trans (a.2.2 i)⟩
theorem ident_keeps (s : State) (x : Nat) : (applyUpd (.ident x) s).journal = s.journal ∧
    ∀ a, (applyUpd (.ident x) s).flashAt a = s.flashAt a := ⟨rfl, fun _ => rfl⟩
/-- After steps 3 and 5, with the key used up. -/
theorem chosen_of (s : State) (h25 : s.flag rSEC_IDX 25 = true) (h24 : s.flag rSEC_IDX 24 = false) (j : Journal)
    (h : (s.journaled allGood).journal = j ∧ (∀ a, (s.journaled allGood).flashAt a = s.flashAt a) ∧
      ∀ i, (s.journaled allGood).flag rSEC_IDX i = s.flag rSEC_IDX i) :
    ((s.journaled allGood).reserved allGood).journal = j ∧
      ∀ a, ((s.journaled allGood).reserved allGood).flashAt a = s.flashAt a := by
  rw [reserved_of _ ((h.2.2 25).trans h25) ((h.2.2 24).trans h24)]
  exact ⟨(ident_keeps _ _).1.trans h.1, fun a => ((ident_keeps _ _).2 a).trans (h.2.1 a)⟩
/-- Slot A starts from reset. -/
theorem wit_ResetsAndStarts_start : ∃ s : State, s.bootPhase = .dark ∧
    ((s.journaled allGood).reserved allGood).journal.choice = some 0 ∧
    ((s.journaled allGood).reserved allGood).slotStarts 0 ((s.journaled allGood).reserved allGood).journal.minSvn = true := by
  obtain ⟨s, hs⟩ : ∃ s, s = flashed firmware [] := ⟨_, rfl⟩
  have h25 : s.flag rSEC_IDX 25 = true := by rw [hs, flashed_flag]; decide
  have h24 : s.flag rSEC_IDX 24 = false := by rw [hs, flashed_flag]; decide
  have hf : ∀ k, s.flashAt k = tget (fun _ => none) firmware k := by intro k; rw [hs, flashed_flashAt]
  have hn := journaled_of s none {} rfl (fun t ht => journal_none t fun a h1 h2 => by
    rw [ht, hf, firmware_get, if_neg (by omega), if_neg (by omega)]) (by decide)
  obtain ⟨e, f⟩ := chosen_of s h25 h24 _ hn
  refine ⟨s, by rw [hs]; rfl, ?_⟩
  rw [e]
  exact ⟨by decide, slotStarts_of _ fun k => (f k).trans (hf k)⟩
/-- The journal says that both slots are BAD: no slot may start. -/
theorem wit_ResetsAndStarts_startNone : ∃ s : State, s.bootPhase = .dark ∧
    ((s.journaled allGood).reserved allGood).journal.choice = none := by
  obtain ⟨s, hs⟩ : ∃ s, s = flashed (flashTab 0x40000 ({ stA := 5, stB := 5 } : Journal).bytes ++ []) [] := ⟨_, rfl⟩
  have h25 : s.flag rSEC_IDX 25 = true := by rw [hs, flashed_flag]; decide
  have h24 : s.flag rSEC_IDX 24 = false := by rw [hs, flashed_flag]; decide
  have hb : ({ stA := 5, stB := 5 } : Journal).bytes.length = 64 := by decide
  have hf : ∀ k, s.flashAt k = if 0x40000 ≤ k ∧ k < 0x40040 then ({ stA := 5, stB := 5 } : Journal).bytes[k - 0x40000]? else none := by
    intro k; rw [hs, flashed_flashAt, flashTab_get, hb]; rfl
  have hn := journaled_of s (some (0, { stA := 5, stB := 5 })) { stA := 5, stB := 5 } rfl (fun t ht => by
    have h0 : t.journalAt 0 = ({ stA := 5, stB := 5 } : Journal).bytes := by
      show t.flashBytes 0x40000 64 = _
      rw [flashBytes_of t 0x40000 ({ stA := 5, stB := 5 } : Journal).bytes 64 (by decide), List.take_of_length_le (by decide)]
      intro i hi
      rw [hb] at hi
      rw [ht, hf, if_pos (by omega), Nat.add_sub_cancel_left]
    exact journal_one t _ _ h0 (by decide) fun a h1 h2 => by rw [ht, hf, if_neg (by omega)]) (by decide)
  refine ⟨s, by rw [hs]; rfl, ?_⟩
  rw [(chosen_of s h25 h24 _ hn).1]; decide

/-! ### Updates -/

theorem wit_Updating_none : State.reset.takesUpd 9 opcUBLOCK = none ∧ State.reset.takesUpd 9 opcUMANIFEST = none ∧
    State.reset.takesUpd 9 opcUACTIVATE = none ∧ State.reset.takesUpd 9 opcUCONFIRM = none := by decide
/-- UPDATE_BLOCK of four zero bytes of a part. -/
def cBlock (part off len crc : Nat) : Cmd :=
  cmdOf opcUBLOCK [(0x10, 1, part), (0x14, 4, off), (0x18, 4, len), (0x1C, 4, crc), (0x20, 6, baseT2 + 0x300000)]
/-- What every clause about a command starts from. -/
def updAt (s : State) (op : Nat) (c : Cmd) : Prop := s.takesUpd 9 op = some c ∧ s.updForeign c = false
theorem wit_Updating_foreign : let s := has (cBlock 1 0 4 0) [.reg rUPD_STAT 0 (2 ^ 53 + place 59 54 3)]
    s.takesUpd 9 opcUBLOCK = some (cBlock 1 0 4 0) ∧ s.updForeign (cBlock 1 0 4 0) = true := by decide
theorem wit_Updating_trial : let s := has (cBlock 1 0 4 0) [.updSt .trial]
    updAt s opcUBLOCK (cBlock 1 0 4 0) ∧ s.updSt = .trial := by unfold updAt; decide
theorem wit_Updating_long : let c := cBlock 4 (2 ^ 21 - 3) 4 0; let s := has c []
    updAt s opcUBLOCK c ∧ s.updSt ≠ .trial ∧ (partArea (ubPART c.desc)).2 < ubOFFSET c.desc + ubLENGTH c.desc := by
  unfold updAt; decide
theorem wit_Updating_crc : let c := cBlock 4 (2 ^ 21 - 4) 4 0; let s := has c []
    updAt s opcUBLOCK c ∧ s.updSt ≠ .trial ∧ ubOFFSET c.desc + ubLENGTH c.desc ≤ (partArea (ubPART c.desc)).2 ∧
      crc32c (s.updSource c.desc) ≠ ubCRC c.desc := by unfold updAt; decide
theorem wit_Updating_pending : let c := cBlock 6 0 4 0x48674bc7; let s := has c [.journal { cfg := 6 }]
    updAt s opcUBLOCK c ∧ s.updSt ≠ .trial ∧ ubOFFSET c.desc + ubLENGTH c.desc ≤ (partArea (ubPART c.desc)).2 ∧
      crc32c (s.updSource c.desc) = ubCRC c.desc ∧ s.journal.partBase s.updTarget (ubPART c.desc) = none := by unfold updAt; decide
theorem wit_Updating_block : let c := cBlock 5 (2 ^ 23 - 4) 4 0x48674bc7; let s := has c []
    updAt s opcUBLOCK c ∧ s.updSt ≠ .trial ∧ ubOFFSET c.desc + ubLENGTH c.desc ≤ (partArea (ubPART c.desc)).2 ∧
      crc32c (s.updSource c.desc) = ubCRC c.desc ∧ s.journal.partBase s.updTarget (ubPART c.desc) = some 0x5300000 := by
  unfold updAt; decide

/-- UPDATE_MANIFEST of four zero bytes. -/
def cManifest (crc : Nat) : Cmd := cmdOf opcUMANIFEST [(0x18, 4, 4), (0x1C, 4, crc), (0x20, 6, baseT2 + 0x300000)]
theorem wit_Updating_manifestIdle : let c := cManifest 0; let s := has c []
    updAt s opcUMANIFEST c ∧ s.updSt ≠ .trial ∧ s.updSt = .idle := by unfold updAt; decide
theorem wit_Updating_manifestCrc : let c := cManifest 0; let s := has c [.updSt .staging]
    updAt s opcUMANIFEST c ∧ s.updSt ≠ .trial ∧ s.updSt ≠ .idle ∧ crc32c (s.updSource c.desc) ≠ ubCRC c.desc := by
  unfold updAt; decide
/-- The state in which the manifest is checked. -/
def staged (s : State) (m : List Byte) : State :=
  run (seqs [.upd (.updSt .staging), .upd (.updManifest 0), eraseSectors (manifestAt s.updTarget) m.length,
    programFlash (manifestAt s.updTarget) m]) s
/-- Four zero bytes are no manifest. -/
theorem wit_Updating_manifestBad : let c := cManifest 0x48674bc7; let s := has c [.updSt .staging]
    updAt s opcUMANIFEST c ∧ s.updSt ≠ .trial ∧ s.updSt ≠ .idle ∧ crc32c (s.updSource c.desc) = ubCRC c.desc := by
  unfold updAt; decide
theorem wit_Updating_manifestReason (s : State) (b : Nat → Option Nat) (n : Nat → Bool) (v : Nat) :
    s.manifestReason [0, 0, 0, 0] b n v = some 6 := by
  have h : mfFormatOk [0, 0, 0, 0] = false := by decide
  unfold State.manifestReason; rw [h]; rfl

theorem crc_lt (b : Byte) : b.toNat < 2 ^ 32 := Nat.lt_trans b.isLt (by decide)
theorem crcBits_lt (n c : Nat) (h : c < 2 ^ 32) : crcBits n c < 2 ^ 32 := by
  induction n generalizing c with
  | zero => exact h
  | succ n ih =>
    simp only [crcBits]
    refine ih _ ?_
    split
    · exact Nat.xor_lt_two_pow (by omega) (by decide)
    · omega
theorem crcRun_lt (bs : List Byte) (c : Nat) (h : c < 2 ^ 32) : crcRun c bs < 2 ^ 32 := by
  induction bs generalizing c with
  | nil => exact h
  | cons b bs ih => exact ih _ (crcBits_lt _ _ (Nat.xor_lt_two_pow h (crc_lt b)))
theorem crc32c_lt (bs : List Byte) : crc32c bs < 2 ^ 32 :=
  Nat.xor_lt_two_pow (crcRun_lt bs _ (by decide)) (by decide)
theorem leNat_leBytes (n v : Nat) (h : v < 256 ^ n) : leNat (leBytes n v) = v := by
  induction n generalizing v with
  | zero => simp at h; subst h; rfl
  | succ n ih =>
    have : v / 256 < 256 ^ n := Nat.div_lt_of_lt_mul (by rw [Nat.pow_succ] at h; omega)
    simp only [leBytes, leNat, ih _ this, BitVec.toNat_ofNat]; omega

/-- Bytes of memory that hold a list. -/
def memTab : Nat → List Byte → Tab Byte
  | _, [] => []
  | a, b :: bs => (a, b) :: memTab (a + 1) bs
theorem memTab_get (a i : Nat) (l : List Byte) (h : i < l.length) : tget memDefault (memTab a l) (a + i) = l[i] := by
  induction l generalizing a i with
  | nil => simp at h
  | cons b l ih =>
    cases i with
    | zero => simp [memTab, tget]
    | succ i =>
      simp only [memTab, tget, List.getElem_cons_succ]
      rw [if_neg (by omega), show a + (i + 1) = a + 1 + i by omega]
      exact ih _ _ (by simpa using h)

/-- Changes of other flash bytes leave a byte of the flash, and the journal. -/
theorem each_flash {α : Type} (l : List α) (g : α → Nat) (v : α → Option Byte) (k : Nat) (s : State) (h : ∀ x ∈ l, g x ≠ k) :
    (run (each l (fun x => .upd (.flashAt (g x) (v x)))) s).flashAt k = s.flashAt k ∧
      (run (each l (fun x => .upd (.flashAt (g x) (v x)))) s).journal = s.journal := by
  induction l generalizing s with
  | nil => exact ⟨rfl, rfl⟩
  | cons x l ih =>
    rw [run_each_cons, run_upd]
    obtain ⟨a, b⟩ := ih (applyUpd (.flashAt (g x) (v x)) s) (fun y hy => h y (List.mem_cons_of_mem _ hy))
    refine ⟨a.trans ?_, b.trans rfl⟩
    rw [applyUpd_flashAt, if_neg (fun e => h x (List.mem_cons_self) e.symm)]
theorem staged_keeps (s : State) (m : List Byte) (ht : s.updTarget = 1) (k : Nat) (hk : k < 0x5B00000) :
    (staged s m).flashAt k = s.flashAt k ∧ (staged s m).journal = s.journal := by
  have e0 : ∀ x : State, (applyUpd (.updManifest 0) (applyUpd (.updSt .staging) x)).flashAt k = x.flashAt k ∧
    (applyUpd (.updManifest 0) (applyUpd (.updSt .staging) x)).journal = x.journal := fun x => ⟨rfl, rfl⟩
  have e3 : ∀ (x : State) (n : Nat), (run (addFld rBOOT_FLASH 31 0 n) x).flashAt k = x.flashAt k ∧
    (run (addFld rBOOT_FLASH 31 0 n) x).journal = x.journal := fun x n => ⟨rfl, rfl⟩
  unfold staged eraseSectors eraseFlash programFlash putFlash
  rw [ht]
  simp only [run_seqs_cons, run_seqs_nil, run_seq, run_upd]
  generalize hx : applyUpd (.updManifest 0) (applyUpd (.updSt .staging) s) = x
  have e1 := each_flash (List.range (cdiv (manifestAt 1 + m.length) 4096 * 4096 - manifestAt 1 / 4096 * 4096))
    (fun i => manifestAt 1 / 4096 * 4096 + i) (fun _ => some 0xFF) k x (fun y _ => by
      have : manifestAt 1 / 4096 * 4096 = 0x5B00000 := by decide
      omega)
  generalize run (each (List.range (cdiv (manifestAt 1 + m.length) 4096 * 4096 - manifestAt 1 / 4096 * 4096))
    (fun i => .upd (.flashAt (manifestAt 1 / 4096 * 4096 + i) (some 0xFF)))) x = y at e1 ⊢
  have e2 := each_flash ((List.range m.length).zip m) (fun p => manifestAt 1 + p.1) (fun p => some p.2) k y (fun p _ => by
      have : manifestAt 1 = 0x5B00000 := by decide
      omega)
  generalize run (each ((List.range m.length).zip m) (fun p => .upd (.flashAt (manifestAt 1 + p.1) (some p.2)))) y = z at e2 ⊢
  have e4 := e3 z (cdiv (manifestAt 1 + m.length) 256 - manifestAt 1 / 256)
  have e5 := e0 s
  rw [hx] at e5
  exact ⟨e4.1.trans (e2.1.trans (e1.1.trans e5.1)), e4.2.trans (e2.2.trans (e1.2.trans e5.2))⟩

/-- A module with these bytes in flash and in memory. -/
def stocked (t : Tab (Option Byte)) (m : Tab Byte) (l : List Upd) : State := { flashed t l with mem := m }
theorem stocked_byte (t m l a) : (stocked t m l).byte a = tget memDefault m a := rfl
theorem stocked_flashAt (t m l k) : (stocked t m l).flashAt k = tget (fun _ => none) t k := rfl
theorem stocked_bad (t m l a) : (stocked t m l).bad a = (st ([.reg rSEC_IDX 0 (2 ^ 25)] ++ l)).bad a := rfl
theorem stocked_journal (t m l) : (stocked t m l).journal = (st l).journal := rfl
theorem stocked_updSt (t m l) : (stocked t m l).updSt = (st ([.reg rSEC_IDX 0 (2 ^ 25)] ++ l)).updSt := rfl
theorem stocked_updTarget (t m l) : (stocked t m l).updTarget = (st ([.reg rSEC_IDX 0 (2 ^ 25)] ++ l)).updTarget := rfl
theorem stocked_takesUpd (t m l k o) : (stocked t m l).takesUpd k o = (st ([.reg rSEC_IDX 0 (2 ^ 25)] ++ l)).takesUpd k o := rfl
theorem stocked_updForeign (t m l c) : (stocked t m l).updForeign c = (st ([.reg rSEC_IDX 0 (2 ^ 25)] ++ l)).updForeign c := rfl
/-- UPDATE_MANIFEST with this CRC. -/
def cLong (crc : List Byte) : Cmd :=
  { op := opcUMANIFEST, tenant := 2, pair := some 35
    desc := List.replicate 24 0 ++ leBytes 4 1484 ++ crc ++ leBytes 6 (baseT2 + 0x300000) }
theorem cLong_taken (crc : List Byte) (t m) : let s := stocked t m [.cmd 9 (some (cLong crc)), .updSt .staging]
    updAt s opcUMANIFEST (cLong crc) ∧ s.updSt = .staging ∧ s.updTarget = 1 ∧ s.journal = {} ∧ ∀ a, s.bad a = false :=
  have hr : (st ([.reg rSEC_IDX 0 (2 ^ 25)] ++ [.cmd 9 (some (cLong crc)), .updSt .staging])).regs =
    (st [.reg rSEC_IDX 0 (2 ^ 25)]).regs := rfl
  ⟨⟨by rw [stocked_takesUpd]; rfl, by
      rw [stocked_updForeign, State.updForeign, State.updOwned, State.flag, reg_of_regs hr]
      rw [show (BitVec.toNat ((st [.reg rSEC_IDX 0 (2 ^ 25)]).reg rUPD_STAT)).testBit 53 = false by decide]; rfl⟩,
    by rw [stocked_updSt]; rfl,
    by rw [stocked_updTarget, State.updTarget, State.runSlot, State.fld, reg_of_regs hr]; decide,
    by rw [stocked_journal]; rfl, fun a => by rw [stocked_bad]; rfl⟩
theorem cLong_fields (crc : List Byte) (h : crc.length = 4) : ubLENGTH (cLong crc).desc = 1484 ∧
    ubSRC (cLong crc).desc = baseT2 + 0x300000 ∧ ubCRC (cLong crc).desc = leNat crc := by
  match crc, h with
  | [a, b, c, d], _ =>
    have e1 : byteSlice (cLong [a, b, c, d]).desc 0x18 4 = leBytes 4 1484 := rfl
    have e2 : byteSlice (cLong [a, b, c, d]).desc 0x20 6 = leBytes 6 (baseT2 + 0x300000) := rfl
    have e3 : byteSlice (cLong [a, b, c, d]).desc 0x1C 4 = [a, b, c, d] := rfl
    refine ⟨?_, ?_, ?_⟩
    · unfold ubLENGTH leAt; rw [e1]; decide
    · unfold ubSRC leAt; rw [e2]; decide
    · unfold ubCRC leAt; rw [e3]
/-- A topology table of no bytes, signed by the vendor, is accepted. -/
theorem wit_Updating_manifest : ∃ (s : State) (c : Cmd), updAt s opcUMANIFEST c ∧ s.updSt ≠ .trial ∧ s.updSt ≠ .idle ∧
    crc32c (s.updSource c.desc) = ubCRC c.desc ∧
    (staged s (s.updSource c.desc)).manifestReason (s.updSource c.desc)
      ((staged s (s.updSource c.desc)).journal.partBase (staged s (s.updSource c.desc)).updTarget) (fun _ => true)
      (staged s (s.updSource c.desc)).journal.minSvn = none := by
  have hl : (wMf [7]).length = 1484 := by rw [wMf_length]; decide
  obtain ⟨m, hm⟩ : ∃ m, m = wMf [7] := ⟨_, rfl⟩
  obtain ⟨v, hv⟩ : ∃ v, v = sha256 (wPub (wMsg [7])) := ⟨_, rfl⟩
  have hvl : v.length = 32 := by rw [hv]; exact sha256_length _
  rw [← hm] at hl
  obtain ⟨c, hc⟩ : ∃ c, c = cLong (leBytes 4 (crc32c m)) := ⟨_, rfl⟩
  obtain ⟨s, hs⟩ : ∃ s, s = stocked (flashTab 0x2074 v ++ []) (memTab (baseT2 + 0x300000) m) [.cmd 9 (some c), .updSt .staging] :=
    ⟨_, rfl⟩
  obtain ⟨t1, t2, t3, t4, t5⟩ := cLong_taken (leBytes 4 (crc32c m)) (flashTab 0x2074 v ++ []) (memTab (baseT2 + 0x300000) m)
  rw [← hc, ← hs] at t1 t2 t3 t4 t5
  obtain ⟨d1, d2, d3⟩ := cLong_fields (leBytes 4 (crc32c m)) rfl
  rw [← hc] at d1 d2 d3
  rw [leNat_leBytes _ _ (crc32c_lt _)] at d3
  have hsrc : s.updSource c.desc = m := by
    refine List.ext_getElem (by simp [State.updSource, d1, hl]) fun i h1 h2 => ?_
    simp only [State.updSource, List.getElem_map, List.getElem_range, d2, t5]
    rw [if_neg (by decide), hs, stocked_byte]
    exact memTab_get _ _ _ h2
  refine ⟨s, c, t1, by rw [t2]; decide, by rw [t2]; decide, by rw [hsrc, d3], ?_⟩
  rw [hsrc]
  have hk := staged_keeps s m t3
  rw [(hk 0 (by decide)).2, t4, hm]
  refine wit_reason _ [7] _ _ (by decide) (by decide) (by decide) (by decide) (by decide) ?_ ?_
  · intro r hr
    have := (show ∀ r ∈ mfEntries (wMsg [7]), enLength r = 0 ∧ enHash r = noHash ∧ enPart r = 7 by decide) r hr
    refine ⟨this.1, this.2.1, ?_⟩
    rw [this.2.2]; rfl
  · unfold State.vendorHash
    rw [← hm, ← hv, flashBytes_of _ 0x2074 v 32 (by omega), List.take_of_length_le (by omega)]
    intro i hi
    rw [(hk _ (by omega)).1, hs, stocked_flashAt, flashTab_get, hvl, if_pos (by omega), Nat.add_sub_cancel_left]

def cActivate : Cmd := cmdOf opcUACTIVATE []
theorem wit_Updating_activateEarly : let s := has cActivate [.updSt .staging]
    updAt s opcUACTIVATE cActivate ∧ s.updSt ≠ .trial ∧ s.updSt ≠ .verified := by unfold updAt; decide
/-- Bytes of the flash. -/
def burn (a : Nat) (bs : List Byte) : List Upd := ((List.range bs.length).zip bs).map (fun p => .flashAt (a + p.1) (some p.2))
/-- One part of no bytes whose hash is not that of no bytes. -/
theorem wit_Updating_activateChanged :
    let s := has cActivate ([.updSt .verified] ++ burn 0x5B00006 [1, 0] ++ burn 0x5B00014 [0, 0, 0, 0] ++
      burn 0x5B00040 [5, 0, 0, 0, 0, 0, 0, 0] ++ burn 0x5B00050 (List.replicate 32 0))
    updAt s opcUACTIVATE cActivate ∧ s.updSt ≠ .trial ∧ s.updSt = .verified ∧ s.armOk = false := by unfold updAt; decide
theorem wit_Updating_activate :
    let s := has cActivate ([.updSt .verified] ++ burn 0x5B00006 [1, 0] ++ burn 0x5B00014 [0, 0, 0, 0] ++
      burn 0x5B00040 [5, 0, 0, 0, 0, 0, 0, 0] ++ burn 0x5B00050 noHash)
    updAt s opcUACTIVATE cActivate ∧ s.updSt ≠ .trial ∧ s.updSt = .verified ∧ s.armOk = true := by unfold updAt; decide
def cConfirm : Cmd := cmdOf opcUCONFIRM [(0x10, 1, 1)]
theorem wit_Updating_confirm : leAt cConfirm.desc 0x10 1 = 1 ∧ updAt (has cConfirm []) opcUCONFIRM cConfirm ∧
    (has cConfirm []).updSt ≠ .trial ∧ updAt (has cConfirm [.updSt .trial]) opcUCONFIRM cConfirm ∧
    (has cConfirm [.updSt .trial]).updSt = .trial := by unfold updAt; decide
theorem wit_Updating_go : let armed (n : Nat) (l : List Upd) : State := st ([.updSt .armed, .updManifest n] ++ l)
    State.reset.taken ∧ State.reset.updSt ≠ .armed ∧ (armed 96 []).taken ∧ (armed 96 []).updManifest % 32 = 0 ∧
      (armed 31 [.reg rARB_CLOSE 0 3]).taken ∧ (armed 31 []).updSt = .armed ∧
      (armed 31 [.reg rARB_CLOSE 0 3]).updManifest % 32 ≠ 0 ∧ (armed 31 [.reg rARB_CLOSE 0 3]).quiet = true ∧
      (armed 31 [.reg rARB_CLOSE 0 1]).quiet = false := by unfold State.taken; decide
theorem wit_Updating_abort : State.reset.taken ∧ State.reset.updSt ≠ .trial ∧ (st [.updSt .trial]).taken ∧
    (st [.updSt .trial]).updSt = .trial := by unfold State.taken; decide
theorem wit_Updating_parts : let s := st [.updSt .pause, .heldRows [.arbCloseWrite 3]]
    State.reset.heldRows = [] ∧ State.reset.updSt ≠ .pause ∧ (st [.updSt .pause]).heldRows = [] ∧
      (st [.updSt .pause]).updSt = .pause ∧ s.updSt = .pause ∧ s.heldRows = [.arbCloseWrite 3] := by decide

/-- A manifest that names parts 1 to 5 is a firmware manifest, one that names part 7 is not. -/
theorem test_mask : mfMask (wMsg [1, 2, 3, 4, 5]) = 31 ∧ mfMask (wMsg [7]) = 64 ∧ mfFormatOk (wMsg [2, 1] ++ List.replicate 1372 0) = false := by
  decide

/-! ### Security -/

/-- The buffer lies in the reserved region, T2 serves. -/
def buffer (l : List Upd) : State := st ([.reg rT2C_STAT 0 (2 ^ 48), .reg rSEC_ATT_ADDR 0 baseT2] ++ l)
theorem wit_SecurityEngine_busy : let s := st [.reg rSEC_ATT_CTL 0 (place 61 60 1)]
    s.taken ∧ s.fld rSEC_ATT_CTL 61 60 = attBUSY := by unfold State.taken; decide
theorem wit_SecurityEngine_unfit : let s := buffer [.reg rSEC_ATT_ADDR 0 (baseT2 + 63)]
    s.taken ∧ s.fld rSEC_ATT_CTL 61 60 ≠ attBUSY ∧ s.attQ = [] ∧ s.attAddrOk = false := by unfold State.taken; decide
theorem wit_SecurityEngine_last : let s := buffer [.reg rSEC_ATT_ADDR 0 (baseT2 + State.reset.fld rT2C_CTL 63 56 * sizeGiB - 8192)]
    s.taken ∧ s.fld rSEC_ATT_CTL 61 60 ≠ attBUSY ∧ s.attQ = [] ∧ s.attAddrOk = true := by unfold State.taken; decide
theorem wit_SecurityEngine_leaf : let s := buffer [.treeHeld true, .reg rSEC_IDX 0 (place 36 26 1023)]
    s.taken ∧ s.fld rSEC_ATT_CTL 61 60 ≠ attBUSY ∧ s.attQ = [] ∧ s.attAddrOk = true ∧ s.leafReady = true := by
  unfold State.taken; decide
theorem wit_SecurityEngine_noLeaf : let s := buffer [.treeHeld true, .reg rSEC_IDX 0 (place 36 26 1024)]
    s.taken ∧ s.fld rSEC_ATT_CTL 61 60 ≠ attBUSY ∧ s.attQ = [] ∧ s.attAddrOk = true ∧ s.leafReady = false ∧
      s.flag rSEC_IDX 25 = false := by unfold State.taken; decide
/-- No record in the index region. -/
theorem idx_none (s : State) (h : ∀ a, s.flashAt a = none) : s.idxLatest = none := by
  have e : ∀ k, k < 16 → s.flashLe (idxBase k) 4 = 0xFFFFFFFF := by
    intro k hk
    have b : s.flashBytes (idxBase k) 4 = List.replicate 4 0xFF := by
      refine List.ext_getElem (by simp [State.flashBytes]) fun j hj hj' => ?_
      have : j < 4 := by simpa using hj'
      have : idxBase k = 0x50000 + 0x1000 * k := rfl
      simp only [State.flashBytes, List.getElem_map, List.getElem_range, List.getElem_replicate, State.flash]
      rw [h]
      show shippedByte _ = _
      unfold shippedByte; rw [if_pos (by omega)]
    unfold State.flashLe; rw [b]; decide
  have r : s.idxRecords = [] := by
    unfold State.idxRecords
    refine List.filterMap_eq_nil_iff.2 fun k hk => ?_
    unfold State.idxRecord
    rw [e k (List.mem_range.1 hk)]
    simp
  unfold State.idxLatest; rw [r]; rfl
theorem wit_SecurityEngine_tree (l : List Upd) (h : ∀ a, (buffer l).flashAt a = none) : (buffer l).nextTree ≤ 32767 := by
  unfold State.nextTree; rw [idx_none _ h]; decide
theorem wit_SecurityEngine_reserve : ∃ (s : State) (k : Nat), s.flag rSEC_IDX 24 = true ∧ s.attQ = [] ∧ s.idxSector = some k ∧
    State.reset.flag rSEC_IDX 24 = false := by
  have hn := idx_none (st [.reg rSEC_IDX 0 (2 ^ 24)]) (fun a => rfl)
  have hs : (st [.reg rSEC_IDX 0 (2 ^ 24)]).idxSectors = List.range 16 := by unfold State.idxSectors; rw [hn]; decide
  have : ∃ k, (st [.reg rSEC_IDX 0 (2 ^ 24)]).idxSector = some k := by
    unfold State.idxSector
    rw [hs]
    cases (List.range 16).find? (st [.reg rSEC_IDX 0 (2 ^ 24)]).idxErased with
    | some k => exact ⟨k, rfl⟩
    | none => exact ⟨0, by decide⟩
  obtain ⟨k, hk⟩ := this
  exact ⟨st [.reg rSEC_IDX 0 (2 ^ 24)], k, by decide, by decide, hk, by decide⟩
theorem wit_SecurityEngine_usedUp : ∃ s : State, s.flag rSEC_IDX 24 = true ∧ s.attQ = [] ∧ s.idxSector = none := by
  have hn := idx_none (st [.reg rSEC_IDX 0 (2 ^ 24), .idxTried (List.range 16)]) (fun a => rfl)
  refine ⟨st [.reg rSEC_IDX 0 (2 ^ 24), .idxTried (List.range 16)], by decide, by decide, ?_⟩
  have hs : (st [.reg rSEC_IDX 0 (2 ^ 24), .idxTried (List.range 16)]).idxSectors = [] := by
    unfold State.idxSectors; rw [hn]; decide
  unfold State.idxSector; rw [hs]; rfl
theorem wit_SecurityEngine_window : let s := st [.reg rSEC_WIN_SEL 0 63, .tenant 63 { st := .enabled }]
    State.reset.taken ∧ (State.reset.tenant 63).st = .off ∧ s.taken ∧ s.fld rSEC_WIN_SEL 5 0 = 63 ∧ (s.tenant 63).st ≠ .off := by
  unfold State.taken; decide
theorem wit_SecurityEngine_cred : let v : Word := 0xA000000000000001; let full := List.replicate 4 (some 0)
    v.toNat.testBit 63 = true ∧ bits 61 61 v.toNat = 1 ∧ State.reset.taken ∧ (State.reset.cred 1).valid = false ∧
      (State.reset.cred 1).key.all Option.isSome = false ∧ ((st [.cred 1 { key := full }]).cred 1).key.all Option.isSome = true ∧
      ((st [.cred 1 { key := full, valid := true }]).cred 1).valid = true ∧ (0x2000000000000000 : Word).toNat.testBit 63 = false := by
  unfold State.taken; decide
/-- The fourth key word is followed by the first (R465). -/
theorem test_credKey : (after (.credKeyWrite 7) (st [.reg rSEC_CRED_CTL 0 (place 61 59 7)])).fld rSEC_CRED_CTL 60 59 = 0 := by decide

/-! ### The sideband -/

/-- Step 3 of the start is over. -/
def up (l : List Upd) : State := st ([.bootPhase .ready] ++ l)
theorem wit_SidebandGate_down : State.reset.sbUp = false ∧ (sbService (.getpdr 0)).isSome = true ∧ sbBus .rstdaa = true := by decide
theorem wit_SidebandGate_gate : (up [.updSt .pause]).sbUp = true ∧ (up [.updSt .pause]).sbServes .base = false ∧
    sbService .gettid = some .base ∧ (st [.bootPhase .stopped]).sbUp = true ∧
    (st [.bootPhase .stopped]).sbServes .full = false ∧ sbService .lvStatus = some .base := by decide
theorem wit_SidebandGate_up : (up []).sbUp = true ∧ (0xFF : Byte).toNat.testBit 0 = true ∧ (0xFE : Byte).toNat.testBit 0 = false ∧
    (up []).attends .base := ⟨by decide, by decide, by decide, by decide, by decide⟩
theorem wit_SensorsAndEffecters_up : (up []).attends .full ∧ (0x1002 : BitVec 16) ≠ 0x1001 ∧
    ((0x1003 : BitVec 16) = 0x1003 → EffState.reset = .reset) ∧ ((0x1003 : BitVec 16) = 0x1004 → EffState.reset ≠ .reset) :=
  ⟨⟨by decide, by decide⟩, by decide, fun _ => rfl, fun h => absurd h (by decide)⟩
/-- Each row of night watch answers a next state. -/
theorem wit_SensorsAndEffecters_watch : ∃ u, exec .nightWatchEnter (up []) = .next u := ⟨_, rfl⟩
theorem wit_SensorsAndEffecters_view : let s := up [.effecter 0x1001 (some { pending := 3800, writtenAt := 0, agreed := false })]
    let r := up [.effecter 0x1001 (some { pending := 5000, writtenAt := 0, agreed := true })]
    s.sbUp = true ∧ s.effecter 0x1001 = some { pending := 3800, writtenAt := 0, agreed := false } ∧ 3800 = s.effPresent 0x1001 ∧
      r.effecter 0x1001 = some { pending := 5000, writtenAt := 0, agreed := true } ∧ 5000 ≠ r.effPresent 0x1001 ∧
      State.reset.effecter 0x1004 = none := by decide
theorem wit_OemCommands : let s := up []
    s.attends .full ∧ (State.reset.attQ.any (fun r => r.sideband)) = false ∧
      (up [.attQ [{ identity := true, sideband := true, nonce := [] }]]).attQ.any (fun r => r.sideband) = true ∧
      (List.replicate 32 (0 : Byte)).length = 32 ∧ (up [.treeHeld true]).leafReady = true ∧ s.attQ = [] ∧ (4 : Nat) % 8 ≠ 0 ∧
      (regRow rINT_CTL).isSome = true ∧ (regRow 0x170000).isSome = false ∧ inTables 0x170000 = false ∧ inScan 0x170000 = false ∧
      s.flag rMON_MGMT 63 = false ∧ (up [.reg rMON_MGMT 0 (2 ^ 63)]).flag rMON_MGMT 63 = true ∧ rINT_CTL ∈ plainRegs :=
  ⟨⟨by decide, by decide⟩, by decide⟩
/-- The default device answers its cap effecter with the present and the pending value (R474, R475). -/
theorem test_capEffecter : (after (.getnumericeffectervalue 0x1001) (up [])).resp.vals.head? = some 3800 := by decide

/-! ### General -/

theorem wit_StepRunsFront : State.reset.pending = [] ∧ State.reset.sbUp = false ∧ (up []).pending = [] ∧ (up []).sbUp = true := by
  decide
theorem wit_PauseHolds : accessRow (.arbCloseWrite 3) = true ∧ (st [.updSt .pause]).updSt = .pause ∧ State.reset.updSt ≠ .pause ∧
    State.reset.heldRows = [] ∧ (st [.heldRows [.updGo, .updAbort]]).heldRows = .updGo :: [.updAbort] ∧
    (st [.heldRows [.updGo, .updAbort]]).heldRows.length = 2 := by decide
theorem wit_StepKeepsForm : State.reset.wf = true ∧ ∃ t, step State.reset = .next t := ⟨by decide, _, rfl⟩
/-- No register's reset value sets a reserved bit. -/
theorem rows_clean : ∀ b : Fin 23, ∀ r ∈ regBlock b.val,
    (BitVec.ofNat 64 r.reset).toNat &&& (0xFFFFFFFFFFFFFFFF - r.resv) = (BitVec.ofNat 64 r.reset).toNat := by decide
theorem row_clean (off : Nat) (r : RegRow) (e : regRow off = some r) :
    (BitVec.ofNat 64 r.reset).toNat &&& (0xFFFFFFFFFFFFFFFF - r.resv) = (BitVec.ofNat 64 r.reset).toNat := by
  unfold regRow at e
  have hm := List.mem_of_find?_eq_some e
  by_cases hb : off / 0x10000 < 23
  · exact rows_clean ⟨_, hb⟩ r hm
  · have : regBlock (off / 0x10000) = [] := by
      generalize off / 0x10000 = n at hb
      unfold regBlock; split <;> first | omega | rfl
    rw [this] at hm; exact absurd hm (by simp)
theorem reset_reg (off k : Nat) : State.reset.reg off k = regReset off := by
  have e : regKey off k % 0x1000000 = off % 0x1000000 := by unfold regKey; omega
  unfold State.reg
  rw [show State.reset.regs = [] from rfl, tget, regReset, regReset, e]
theorem wit_StepKeepsReserved : State.reset.clean := by
  intro off k h
  have m : off % 0x1000000 = off := Nat.mod_eq_of_lt h
  rw [reset_reg off k, regReset, m]
  unfold regMask
  cases e : regRow off with
  | none => simp only [BitVec.ofNat_eq_ofNat, BitVec.toNat_ofNat]; rfl
  | some r => simp only [row_clean off r e]
theorem wit_TargetHolds : writesTarget .brakeAssert State.reset = false ∧ State.reset.pending = [] ∧
    writesTarget .nightWatchLeft State.reset = false := by decide
theorem wit_MemoryFrames : (has (cmdOf opcSNAP []) []).cmd 9 = some (cmdOf opcSNAP []) ∧
    State.reset.attQ = [] := by decide
theorem wit_Frames : (plainFoot (.fence 9)).isSome = true ∧ (workFoot (.rekeyLimit 0)).isSome = true ∧ rINT_CTL ∈ plainRegs ∧
    (up []).attends .full ∧ (up []).flag rMON_MGMT 63 = false := ⟨by decide, by decide, by decide, ⟨by decide, by decide⟩, by decide⟩

end Sys2Proof.Tests
end

section
/-!
SUPPORT. Chapter 00: every command runs a script, what a step runs, reserved bits stay zero, what each command of
`plainFoot` leaves unchanged.
-/

namespace Sys2Proof.Machine

/-! ### Every command runs a script -/

/-- Every command is a script, the same in every state. -/
theorem exec_runs_script (i : Instr) : ∃ a : Act, ∀ s, exec i s = .next (run a s) := by
  cases i <;> exact ⟨_, fun _ => rfl⟩

/-- What every script brings about, every command brings about. -/
theorem gives_of_run {i : Instr} {s : State} {q : State → Prop} (h : ∀ a, q (run a s)) : Gives i s q := by
  obtain ⟨a, e⟩ := exec_runs_script i
  exact ⟨_, e s, h a⟩

/-- A step is a run of some script, on the state with the front command taken. -/
theorem step_runs_script (s : State) : ∃ a, step s = .next (run a { s with pending := s.pending.tail }) := by
  cases e : s.pending with
  | nil => exact ⟨idleTick, by simp only [step, e, List.tail_nil]; rw [← e]⟩
  | cons i rest =>
    obtain ⟨a, ha⟩ := exec_runs_script i
    exact ⟨a, by simp only [step, e, List.tail_cons, ha]⟩

/-- Settles O52: every command is a script, and no script touches the queue or the order number. -/
theorem queueKept : Obligations.QueueKept := by
  unfold Obligations.QueueKept
  intro i s
  exact gives_of_run fun a => ⟨run_pending a s, run_variant a s⟩

/-! ### Reserved bits (R13) -/

/-- Table 15.2 ends with block 22. -/
theorem regBlock_past (b : Nat) (h : 23 ≤ b) : regBlock b = [] := by
  obtain ⟨n, rfl⟩ := Nat.exists_eq_add_of_le' h
  rfl

/-- No offset past the table has a register. -/
theorem regMask_past (off : Nat) (h : 2 ^ 24 ≤ off) : regMask off = 0 := by
  have hb : regBlock (off / 0x10000) = [] := regBlock_past _ (by omega)
  simp only [regMask, regRow, hb, List.find?_nil]

/-- Table 15.3: no row's reset value sets a bit that the row reserves. -/
theorem regBlock_reset_clean : ∀ b : Fin 23, ∀ r ∈ regBlock b.val,
    (BitVec.ofNat 64 r.reset).toNat &&& (0xFFFFFFFFFFFFFFFF - r.resv) = (BitVec.ofNat 64 r.reset).toNat := by decide

theorem block_lt_of_mem {b : Nat} {r : RegRow} (h : r ∈ regBlock b) : b < 23 := by
  by_contra hb
  rw [regBlock_past b (by omega)] at h
  exact List.not_mem_nil h

theorem regRow_reset_clean {off : Nat} {r : RegRow} (e : regRow off = some r) :
    (BitVec.ofNat 64 r.reset).toNat &&& (0xFFFFFFFFFFFFFFFF - r.resv) = (BitVec.ofNat 64 r.reset).toNat := by
  unfold regRow at e
  have hm := List.mem_of_find?_eq_some e
  exact regBlock_reset_clean ⟨_, block_lt_of_mem hm⟩ r hm

/-- The reset value under a key has no reserved bit of its register set. -/
theorem regReset_clean (key : Nat) : (regReset key).toNat &&& regMask (key % 0x1000000) = (regReset key).toNat := by
  unfold regReset regMask
  cases e : regRow (key % 0x1000000) with
  | none => simp
  | some r => exact regRow_reset_clean e

theorem regKey_mod {off : Nat} (i : Nat) (h : off < 2 ^ 24) : regKey off i % 0x1000000 = off := by
  unfold regKey; omega

/-- A value cut to a mask stays within it when it is cut to 64 bits. -/
theorem ofNat_and_mask (v m : Nat) : (BitVec.ofNat 64 (v &&& m)).toNat &&& m = (BitVec.ofNat 64 (v &&& m)).toNat := by
  refine Nat.eq_of_testBit_eq fun j => ?_
  simp only [Nat.testBit_and, testBit_ofNat64]
  cases m.testBit j <;> simp

/-- Two entries with one key: of the same register, or the one that was named lies past the table. -/
theorem regKey_eq {off off' i j : Nat} (h' : off' < 2 ^ 24) (e : regKey off' j = regKey off i) :
    off = off' ∨ 2 ^ 24 ≤ off := by
  unfold regKey at e; omega

/-- A register entry is written without its reserved bits. -/
theorem clean_reg (off i v : Nat) {s : State} (h : s.clean) : (applyUpd (.reg off i v) s).clean := by
  intro off' j h'
  have hr : (applyUpd (.reg off i v) s).reg off' j =
      if regKey off' j = regKey off i then BitVec.ofNat 64 (v &&& regMask off) else s.reg off' j := tget_tset ..
  rw [hr]
  split
  · next e =>
    obtain rfl | hp := regKey_eq h' e
    · exact ofNat_and_mask v _
    · simp [regMask_past off hp]
  · exact h off' j h'

/-- The wipe puts every register at its reset value. -/
theorem clean_wipe (s : State) : (applyUpd .wipe s).clean := by
  intro off j h
  have hr : (applyUpd .wipe s).regs = [] := rfl
  have hc := regReset_clean (regKey off j)
  rw [regKey_mod j h] at hc
  simpa only [State.reg, hr, tget] using hc

/-- A state with the registers of a clean one is clean. -/
theorem clean_of_regs {s t : State} (e : t.regs = s.regs) (h : s.clean) : t.clean := fun off j ho => by
  rw [reg_of_regs e]; exact h off j ho

theorem clean_applyUpd (u : Upd) {s : State} (h : s.clean) : (applyUpd u s).clean := by
  by_cases hr : ∃ off i v, u = .reg off i v
  · obtain ⟨off, i, v, rfl⟩ := hr
    exact clean_reg off i v h
  · by_cases hw : u = .wipe
    · subst hw; exact clean_wipe s
    · exact clean_of_regs (applyUpd_regs u s hw fun off i v e => hr ⟨off, i, v, e⟩) h

/-- No script sets a reserved bit. -/
theorem clean_run (a : Act) {s : State} (h : s.clean) : (run a s).clean :=
  run_keeps (R := fun s t => s.clean → t.clean) (fun _ h => h) (fun _ _ _ h k => k ∘ h)
    (fun u _ => clean_applyUpd u) a s h

/-- Settles O55: a step runs a script, and every change of a script keeps reserved bits zero. -/
theorem stepKeepsReserved : Obligations.StepKeepsReserved := by
  unfold Obligations.StepKeepsReserved
  intro s t hs e
  obtain ⟨a, ha⟩ := step_runs_script s
  obtain rfl : run a { s with pending := s.pending.tail } = t := Host.Outcome.next.inj (ha.symm.trans e)
  exact clean_run a (clean_of_regs rfl hs)

/-! ### One step (R8, R361, R423) -/

/-- What one nanosecond adds to module time, in all its cases. -/
theorem timeTick_now (s : State) :
    (run timeTick s).now = s.now + (if 0 < s.timeBehind then (if s.timeFrac = 3 then 1 else 0)
      else if s.slewLeft = 0 ∨ s.slewFrac + 1 < slewPeriod then 1
      else if 0 < s.slewLeft then 2 else 0) := by
  simp only [timeTick, run_dyn]
  by_cases hb : 0 < s.timeBehind
  · by_cases hf : s.timeFrac = 3
    · simp [hb, hf]
    · simp only [hb, hf, if_true, if_false, run_seqs_cons, run_upd]; rfl
  · by_cases hz : s.slewLeft = 0
    · simp [hb, hz]
    · by_cases hp : s.slewFrac + 1 < slewPeriod
      · simp [hb, hz, hp]
      · by_cases hl : 0 < s.slewLeft
        · simp [hb, hz, hp, hl]
        · simp only [hb, hz, hp, hl, or_self, if_false, run_seq, run_upd]; rfl

/-- The rest of an idle step leaves module time. -/
theorem idleRest_now (s : State) : (run (seqs [engineTick, stallTick, settleHold, settleLocal]) s).now = s.now := by
  simp only [run_seqs_cons, run_seqs_nil]
  rw [keep_now w_settleLocal (by decide), keep_now w_settleHold (by decide), keep_now w_stallTick (by decide),
    keep_now w_engineTick (by decide)]

/-- Before step 3 of the start an idle step changes nothing. -/
theorem run_idleTick_dark {s : State} (h : s.sbUp = false) : run idleTick s = s := by
  simp [idleTick, h]

theorem run_idleTick_now {s : State} (h : s.sbUp = true) : (run idleTick s).now = (run timeTick s).now := by
  rw [idleTick, run_whenS, if_pos h, run_seqs_cons, idleRest_now]

/-- Settles O51: by the front of the queue, and for an empty one by whether the module's clocks run. -/
theorem stepRunsFront : Obligations.StepRunsFront := by
  unfold Obligations.StepRunsFront
  refine ⟨fun i rest s => rfl, fun s hp => ?_⟩
  have hs : step s = .next (run idleTick s) := by simp only [step, hp]
  refine ⟨fun hd => by rw [hs, run_idleTick_dark hd], fun hu => ?_⟩
  refine ⟨_, hs, by rw [run_pending, hp], run_variant _ s, ?_⟩
  rw [run_idleTick_now hu, timeTick_now]

/-! ### Frames

The footprints of `Laws` say what each shared operation may change. Each lemma here takes a row `some q` of `plainFoot`
and a script within `q`, or (`_le`) within a footprint that lies in `q`, and finds the script in `exec`. -/

/-- A command has a footprint when its script stays within it. -/
theorem foot_script {i : Instr} {a : Act} {p q : Foot} (h : some q = some p) (ha : a.Within q)
    (e : ∀ s, exec i s = .next (run a s) := by exact fun _ => rfl) : p.Of i := by
  cases h
  exact fun s => ⟨_, e s, ha.frame s⟩

theorem foot_script_le {i : Instr} {a : Act} {p q r : Foot} (h : some q = some p) (ha : a.Within r)
    (hr : r.le q = true := by decide +kernel)
    (e : ∀ s, exec i s = .next (run a s) := by exact fun _ => rfl) : p.Of i :=
  foot_script h (ha.mono hr) e

/-- A write of a field of a register takes effect or waits for the end of a pause (R439). -/
theorem foot_bitDo {i : Instr} {a : Act} {p q : Foot} (h : some q = some p) (ha : a.Within q)
    (hq : .upd .heldRows ∈ q.flds := by decide +kernel)
    (e : ∀ s, exec i s = .next (run (bitDo i a) s) := by exact fun _ => rfl) : p.Of i :=
  foot_script h (w_bitDo i hq ha) e

theorem foot_bitDo_le {i : Instr} {a : Act} {p q r : Foot} (h : some q = some p) (ha : a.Within r)
    (hr : r.le q = true := by decide +kernel) (hq : .upd .heldRows ∈ q.flds := by decide +kernel)
    (e : ∀ s, exec i s = .next (run (bitDo i a) s) := by exact fun _ => rfl) : p.Of i :=
  foot_bitDo h (ha.mono hr) hq e

/-- A write of a whole register may log reserved bits that are written 1, and takes effect or waits (R13, R439). -/
theorem foot_regDo {i : Instr} {off v : Nat} {f : Nat → Act} {p q : Foot} (h : some q = some p)
    (hf : ∀ x, (f x).Within q) (hq : .upd .heldRows ∈ q.flds := by decide +kernel)
    (hl : footLog.le q = true := by decide +kernel)
    (e : ∀ s, exec i s = .next (run (regDo i off v f) s) := by exact fun _ => rfl) : p.Of i :=
  foot_script h (w_regDo i off v hq hl hf) e

theorem foot_regDo_le {i : Instr} {off v : Nat} {f : Nat → Act} {p q r : Foot} (h : some q = some p)
    (hf : ∀ x, (f x).Within r) (hr : r.le q = true := by decide +kernel)
    (hq : .upd .heldRows ∈ q.flds := by decide +kernel) (hl : footLog.le q = true := by decide +kernel)
    (e : ∀ s, exec i s = .next (run (regDo i off v f) s) := by exact fun _ => rfl) : p.Of i :=
  foot_regDo h (fun x => (hf x).mono hr) hq hl e

/-- A sideband request is answered, if only that the module is not ready (R470). -/
theorem foot_request {i : Instr} {v : Service} {a : Act} {p q : Foot} (h : some q = some p) (ha : a.Within q)
    (hq : Foot.le { flds := [.out .resp], regs := [] } q = true := by decide +kernel)
    (e : ∀ s, exec i s = .next (run (request v a) s) := by exact fun _ => rfl) : p.Of i :=
  foot_script h (w_request hq ha) e

theorem foot_request_le {i : Instr} {v : Service} {a : Act} {p q r : Foot} (h : some q = some p) (ha : a.Within r)
    (hr : r.le q = true := by decide +kernel)
    (hq : Foot.le { flds := [.out .resp], regs := [] } q = true := by decide +kernel)
    (e : ∀ s, exec i s = .next (run (request v a) s) := by exact fun _ => rfl) : p.Of i :=
  foot_request h (ha.mono hr) hq e

theorem w_setMgmt {p : Foot} (hi lo x : Nat) (h : rMON_MGMT ∈ p.regs) : (setFld rMON_MGMT hi lo x).Within p :=
  within_setFld _ _ _ _ (by decide) h

/-- PWR_BRAKE.UV, the bit that shows a sag of VIN. -/
theorem w_setUv {p : Foot} (x : Nat) (h : rPWR_BRAKE ∈ p.regs) : (setFld rPWR_BRAKE 46 46 x).Within p :=
  within_setFld _ _ _ _ (by decide) h

/-- Settles O59: row by row of `plainFoot`, by the footprint of the operation that the command runs. -/
theorem frames : Obligations.Frames := by
  unfold Obligations.Frames
  intro i p h
  cases i with
  -- fabric (chapter 01)
  | islandClockChange _ _ => exact foot_script_le h (w_islandClockChangeA ..)
  | railSettled _ => exact foot_script_le h (w_railSettledA ..)
  | bayOn _ => exact foot_bitDo_le h (w_bayOnA ..)
  | bayOff _ => exact foot_bitDo_le h (w_bayOffA ..)
  | bayClkWrite hi _ =>
    cases hi
    · exact foot_regDo h fun _ => w_writeBayClk rFAB_BAY_CLK_LO _ (by decide) (by decide) (by decide)
    · exact foot_regDo h fun _ => w_writeBayClk rFAB_BAY_CLK_HI _ (by decide) (by decide) (by decide)
  -- arithmetic cells (chapter 02)
  | tile _ => exact foot_script_le h (w_tileA ..)
  | constStep _ => exact foot_script_le h (w_constA ..)
  | loopStep _ => exact foot_script_le h (w_loopA ..)
  | endStep _ => exact foot_script_le h (w_endA ..)
  | aclInj _ => exact foot_regDo_le h fun _ => w_writeAclInj ..
  -- store cells (chapter 03)
  | correctionWriteback _ _ => exact foot_script_le h (w_correctionWritebackA ..)
  | sramScrub _ _ _ => exact foot_script_le h (w_sramScrubA ..)
  | sclScrubWrite _ => exact foot_regDo h fun _ => w_writeScrub _ rSCL_SCRUB _ (by decide) (by decide) (by decide)
  | t1cScrubWrite _ => exact foot_regDo h fun _ => w_writeScrub _ rT1C_SCRUB _ (by decide) (by decide) (by decide)
  | sclInj _ => exact foot_regDo_le h fun _ => w_writeSclInj ..
  -- commands and exhibits (chapter 04)
  | run _ => exact foot_script_le h (w_runCmdA ..)
  | configTokenArrive _ => exact foot_script_le h (w_configTokenA ..)
  | switchSlow _ => exact foot_script_le h (w_switchSlowA ..)
  | splitWindow => exact foot_script_le h (w_splitWindowA ..)
  | exhSplitCtlWrite _ => exact foot_regDo_le h fun _ => w_writeSplitCtl ..
  | exhWdogWrite _ => exact foot_regDo_le h fun _ => w_writeWdog ..
  -- moves, windows, census and log (chapters 05, 14, 15)
  | moveComplete _ => exact foot_script_le h (w_moveDoneA ..)
  | csBadAccess _ _ _ => exact foot_bitDo_le h (w_csBadAccessA ..)
  | csUnassigned _ _ => exact foot_bitDo_le h (w_csUnassignedA ..)
  | windowWrite _ _ => exact foot_bitDo_le h (within_when' (w_tableWrite ..))
  | windowLatchRead _ _ => exact foot_bitDo_le h (w_windowLatchA ..)
  | censusEnable _ _ => exact foot_bitDo_le h (w_censusEn ..)
  | censusSnap _ => exact foot_bitDo_le h (w_censusSnapA ..)
  | censusClear _ => exact foot_bitDo_le h (w_censusClearA ..)
  | logHeadWrite _ => exact foot_regDo_le h fun _ => w_advanceHead ..
  | logRdSelWrite _ => exact foot_regDo_le h fun _ => w_writeRdSel ..
  -- tier upkeep (chapter 05)
  | refreshWindow _ _ => exact foot_script h .nop
  | calibrationWindow _ _ _ => exact foot_script_le h (w_calWindowA ..)
  | t1Scrub _ _ => exact foot_script_le h (w_t1ScrubA ..)
  | t2cCtlWrite _ => exact foot_regDo_le h fun _ => w_writeT2Ctl ..
  -- itinerary queues, docents and arbiters (chapter 06)
  | iqStepStart _ => exact foot_script_le h (w_iqStepA ..)
  | iqStepComplete _ => exact foot_script_le h (within_whenS (w_stepDone ..))
  | docentEnable _ => exact foot_bitDo_le h (w_docentOn ..)
  | docentDisable _ => exact foot_bitDo_le h (w_docentOff ..)
  | docSegWrite _ => exact foot_regDo_le h fun _ => w_writeDocSeg ..
  | iqDisable _ => exact foot_bitDo_le h (w_disableIq ..)
  | iqCancel _ => exact foot_bitDo_le h (w_cancelIq ..)
  | arbPresent _ _ => exact foot_script_le h (w_arbPresentA ..)
  | arbBackoffExpire _ _ => exact foot_script_le h (w_arbAgainA ..)
  | arbDrop _ => exact foot_script h (w_modArbiter _ _ (by decide))
  | arbCloseWrite _ => exact foot_regDo h fun _ => within_setReg (off := rARB_CLOSE) _ _ (by decide) (by decide)
  | arbCloseTenWrite _ => exact foot_regDo_le h fun _ => w_writeCloseTen ..
  | arbCntClrAll => exact foot_bitDo_le h (w_clearCounts ..)
  | arbCntClrSel => exact foot_bitDo_le h (w_clearSelected ..)
  -- serving (chapter 07)
  | svcEnableReady _ _ => exact foot_regDo_le h fun _ => w_writeSvcCfg ..
  | svcEnableStandby _ _ => exact foot_regDo_le h fun _ => w_writeSvcCfg ..
  | svcDisable _ => exact foot_bitDo_le h (within_whenS (w_svcOff ..))
  | cancel _ => exact foot_script_le h (w_cancelA ..)
  | park _ => exact foot_script_le h (w_parkA ..)
  | release _ => exact foot_script_le h (w_releaseA ..)
  | prefillStart _ => exact foot_script_le h (w_prefillStartA ..)
  | handoverComplete _ => exact foot_script_le h (w_handoverA ..)
  | decodeStepStart _ => exact foot_script_le h (w_decodeStepA ..)
  | parkComplete _ => exact foot_script_le h (w_parkDoneA ..)
  | resumeFetchComplete _ => exact foot_script_le h (w_fetchDoneA ..)
  | requestRelease _ => exact foot_script_le h (w_requestReleaseA ..)
  | srvReqFree _ => exact foot_regDo_le h fun _ => w_writeReqFree ..
  | srvEnable => exact foot_bitDo_le h (w_srvOn ..)
  | srvDisable => exact foot_bitDo_le h (w_srvOff ..)
  | samplerEnable _ => exact foot_bitDo_le h (w_samplerOn ..)
  | samplerDisable _ => exact foot_bitDo_le h (w_samplerOff ..)
  | paramSetWrite off _ =>
    refine foot_script h ?_
    split
    · next ho => exact w_regDo _ _ _ (by decide) (by decide) fun _ => (w_writeParamSet _ _ ho).mono (by decide)
    · exact .nop
  | dlOpenRestore =>
    exact foot_script h (within_whenS (within_setFld (off := rSRV_ADMIT_CTL) _ _ _ _ (by decide) (by decide)))
  -- queues and tenants (chapter 08)
  | scannerVisit _ => exact foot_script_le h (w_visitA ..)
  | fence _ => exact foot_script_le h (w_fenceA ..)
  | fenceComplete _ => exact foot_script_le h (w_fenceDoneA ..)
  | snapshot _ => exact foot_script_le h (w_snapshotA ..)
  | ucieModuleFail _ => exact foot_script_le h (w_ucieFailA ..)
  | queScannerEnable => exact foot_bitDo_le h (w_scannerOn ..)
  | queScannerDisable => exact foot_bitDo_le h (w_scannerOff ..)
  | pairEnable _ => exact foot_bitDo_le h (w_pairOn ..)
  | pairDisable _ => exact foot_bitDo_le h (w_pairOff ..)
  | tenantEnable _ => exact foot_bitDo_le h (w_tenantOnA ..)
  | tenantDisable _ => exact foot_bitDo_le h (w_tenantOffA ..)
  | sliceSetEnable _ _ => exact foot_regDo_le h fun _ => w_writeSliceCfg ..
  | sliceEnd _ => exact foot_script_le h (w_sliceEndA ..)
  | scanComplete _ _ => exact foot_script_le h (w_scanCompleteA ..)
  -- Efast links (chapter 09)
  | laneTrainingDone _ => exact foot_script_le h (within_whenS (w_checkPort ..))
  | helloTimer _ => exact foot_script_le h (within_whenS (w_sendHello ..))
  | keepaliveTimer _ => exact foot_script_le h (within_whenS (w_sendFree ..))
  | laneTrainingTimeout _ => exact foot_script_le h (w_trainFailA ..)
  | laneRetrainDone _ => exact foot_script h (w_modPort _ _ (by decide))
  | timeSyncTimer => exact foot_script_le h (w_timeSyncTimerA ..)
  | ppsEdge => exact foot_script_le h (w_ppsEdgeA ..)
  | ppsLost => exact foot_script_le h (w_ppsLostA ..)
  | lnkPolicyWrite _ => exact foot_regDo_le h fun _ => w_writePolicy ..
  -- holds and condition checks (chapter 10)
  | holdEnable _ => exact foot_bitDo_le h (w_writeHold ..)
  | holdAt => exact foot_script_le h (w_settleHold ..)
  | checkRequest _ => exact foot_bitDo_le h (w_checkRequestA ..)
  | checkStart _ => exact foot_script_le h (w_checkStartA ..)
  | checkTimeout _ => exact foot_script_le h (w_checkTimeoutA ..)
  -- power (chapter 11)
  | capTargetWrite _ => exact foot_bitDo_le h (w_writeTarget ..)
  | brakeLevelWrite _ => exact foot_bitDo_le h (w_writeLevel ..)
  | guaranteeCodeWrite _ => exact foot_bitDo_le h (w_writeGuarantee ..)
  | brakeAssert =>
    exact foot_script h (.seq (within_upd (u := .pinBrake true) ⟨_, rfl, by decide⟩) (w_brakeOn.mono (by decide)))
  | brakeRelease =>
    exact foot_script h (.seq (within_upd (u := .pinBrake false) ⟨_, rfl, by decide⟩) (w_brakeOff.mono (by decide)))
  | thermAlertRelease => exact foot_script h (within_whenS (within_upd (u := .thermAlert false) ⟨_, rfl, by decide⟩))
  | vinSag =>
    exact foot_script h (.seq (w_setUv _ (by decide)) (.seq (w_setErr blkPWR 4 (by decide))
      (.seq (w_vinLeft.mono (by decide)) (w_brakeOn.mono (by decide)))))
  | vinRecover => exact foot_script h (.seq (w_setUv _ (by decide)) (w_brakeOff.mono (by decide)))
  | nightWatchExit => exact foot_bitDo_le h (w_nwExitA ..)
  -- start and update (chapter 12)
  | refclkTimeout =>
    exact foot_script h (within_whenS (.seq (within_upd (u := .startObs none) ⟨_, rfl, by decide⟩)
      ((w_stopStart ..).mono (by decide))))
  | bootLockSet => exact foot_bitDo h (within_setFld (off := rBOOT_LOCK) _ _ _ _ (by decide) (by decide))
  | updAbort => exact foot_bitDo_le h (w_abortSession ..)
  -- security (chapter 13)
  | attestReport => exact foot_bitDo_le h (w_attGo ..)
  | attestIdentity => exact foot_bitDo_le h (w_attGo ..)
  | reservationComplete _ => exact foot_script_le h (w_reservationA ..)
  | secWinWrite _ => exact foot_regDo_le h fun _ => w_writeWin ..
  | credValidWrite _ => exact foot_regDo_le h fun _ => w_writeCredCtl ..
  | credKeyWrite _ => exact foot_regDo_le h fun _ => w_writeCredKey ..
  -- sideband (chapter 14)
  | mctpPacket _ _ => exact foot_script_le h (w_mctpPacketA ..)
  | entdaa _ => exact foot_script h (w_ccc (w_setMgmt _ _ _ (by decide)))
  | rstdaa => exact foot_script h (w_ccc (w_setMgmt _ _ _ (by decide)))
  | enec _ => exact foot_script h (w_ccc (within_when' (w_setMgmt _ _ _ (by decide))))
  | disec _ => exact foot_script h (w_ccc (within_when' (w_setMgmt _ _ _ (by decide))))
  | setmwl len => exact foot_script h (w_ccc (within_upd (u := .mwl len.toNat) ⟨_, rfl, by decide⟩))
  | setmrl len => exact foot_script h (w_ccc (within_upd (u := .mrl len.toNat) ⟨_, rfl, by decide⟩))
  | getmwl => exact foot_script_le h (w_ccc (.dyn fun _ => w_answer ..))
  | getmrl => exact foot_script_le h (w_ccc (.dyn fun _ => w_answer ..))
  | getpid => exact foot_script_le h (w_ccc (.dyn fun _ => w_answer ..))
  | getbcr => exact foot_script_le h (w_ccc (w_answer ..))
  | getdcr => exact foot_script_le h (w_ccc (w_answer ..))
  | getEndpointId => exact foot_request_le h (.dyn fun _ => w_answer ..)
  | getMctpVersionSupport _ => exact foot_request_le h (within_ite (w_answer ..) (w_answer ..))
  | getMessageTypeSupport => exact foot_request_le h (w_answer ..)
  | gettid => exact foot_request_le h (.dyn fun _ => w_answer ..)
  | getpldmversion _ => exact foot_request_le h (within_ite (w_answer ..) (w_answer ..))
  | getpldmtypes => exact foot_request_le h (w_answer ..)
  | getpldmcommands _ =>
    refine foot_request_le (r := ft_answer) h ?_
    split <;> exact w_answer ..
  | getpdrrepositoryinfo => exact foot_request_le h (.dyn fun _ => w_answer ..)
  | getpdr _ => exact foot_request_le h (.dyn fun _ => w_answer ..)
  | getsensorreading _ => exact foot_request_le h (w_readSensor ..)
  | getstatesensorreadings _ => exact foot_request_le h (w_readSensor ..)
  | getnumericeffectervalue _ => exact foot_request_le h (w_readEffecter ..)
  | getstateeffecterstates _ => exact foot_request_le h (w_readEffecter ..)
  | lvStatus => exact foot_request_le h (.dyn fun _ => w_answer ..)
  | lvLogRead _ _ => exact foot_request_le h (w_logReadA ..)
  | lvAttestRead _ _ => exact foot_request_le h (w_attestReadA ..)
  | getstatus => exact foot_script h (w_ccc (within_withFresh (by decide) fun _ => (w_answer ..).mono (by decide)))
  | setEndpointId _ => exact foot_request h (.seq (w_setMgmt _ _ _ (by decide)) (w_answerOk.mono (by decide)))
  | settid tid =>
    exact foot_request h (.seq (within_upd (u := .tid tid.toNat) ⟨_, rfl, by decide⟩) (w_answerOk.mono (by decide)))
  | setnumericeffectervalue _ _ => exact foot_request_le h (w_setNumericA ..)
  | lvLogAck _ => exact foot_request h (.seq ((w_advanceHead ..).mono (by decide)) (w_answerOk.mono (by decide)))
  | lvCensusRead _ _ _ => exact foot_request_le h (w_censusReadA ..)
  | lvAttest _ _ => exact foot_request_le h (w_lvAttestA ..)
  | lvCsRead _ => exact foot_request h (w_csRead _ _ (by decide) fun _ => (w_answer ..).mono (by decide))
  -- management view, census and log (chapter 14)
  | viewRefresh => exact foot_script_le h (w_viewRefreshA ..)
  | viewStale => exact foot_script h (within_upd (u := .viewStale true) ⟨_, rfl, by decide⟩)
  | effecterDisagree _ => exact foot_script_le h (w_effecterDisagreeA ..)
  | censusEvent _ _ _ => exact foot_script_le h (w_censusEventA ..)
  | censusSample _ _ => exact foot_script_le h (w_censusSampleA ..)
  | logDrain => exact foot_script_le h (w_logDrainA ..)
  | ibiHoldoffEnd => exact foot_script_le h (w_ibiHoldoffEndA ..)
  | nightWatchEntered => exact foot_script_le h (w_nwEnteredA ..)
  -- the other commands have no row
  | _ => cases h

end Sys2Proof.Machine
end

section
/-!
SUPPORT. Chapter 01: rules that the fabric's proofs share, of answers, scripts over lists, incidents, route slots and
forwarding.
-/

namespace Sys2Proof.Machine

/-! ### Shared rules: answers, lists of scripts, incidents -/

/-- A command whose meaning is a script gives what holds after the script. -/
theorem gives_of_exec {i : Instr} {s : State} {a : Act} {q : State → Prop} (h : exec i s = .next (run a s))
    (hq : q (run a s)) : Gives i s q := ⟨_, h, hq⟩

/-- What no script of a list changes, the list does not change. -/
theorem run_each_keep {α β : Type} (read : State → β) {f : α → Act} (h : ∀ x s, read (run (f x) s) = read s)
    (l : List α) (s : State) : read (run (each l f) s) = read s := by
  induction l generalizing s with
  | nil => rfl
  | cons x l ih => rw [run_each_cons, ih, h]

/-- The same idempotent change at each key of a list. -/
theorem run_each_idem {α : Type} (read : State → Nat → α) {f : Nat → Act} {g : α → α}
    (hf : ∀ k s j, read (run (f k) s) j = if j = k then g (read s j) else read s j) (hg : ∀ v, g (g v) = g v)
    (l : List Nat) (s : State) (j : Nat) :
    read (run (each l f) s) j = if j ∈ l then g (read s j) else read s j := by
  induction l generalizing s with
  | nil => rfl
  | cons k l ih =>
    rw [run_each_cons, ih, hf]
    by_cases hk : j = k <;> by_cases hl : j ∈ l <;> simp [hk, hl, hg]

/-- An unlisted key reads as its default. -/
theorem tget_of_notMem {α : Type} (d : Nat → α) {t : Tab α} {k : Nat} (h : k ∉ tkeys t) : tget d t k = d k := by
  induction t with
  | nil => rfl
  | cons p t ih =>
    simp only [tkeys, List.map_cons, List.mem_cons, not_or] at h
    rw [tget, if_neg (Ne.symm h.1)]
    exact ih h.2

/-- Nothing that waits for this module itself is touched by a script without the links' local lists. -/
theorem noLocal_run {p : Foot} {a : Act} (h : a.Within p) (hl : Fld.lnk .localLost ∉ p.flds)
    (hf : Fld.lnk .localFlits ∉ p.flds) {s : State} (hs : s.noLocal) : (run a s).noLocal :=
  ⟨(keep_localLost h hl s).trans hs.1, (keep_localFlits h hf s).trans hs.2⟩

/-- With nothing waiting, nothing is taken locally. -/
theorem run_settleLocal_of_noLocal {s : State} (h : s.noLocal) : run settleLocal s = s := by
  obtain ⟨hl, hf⟩ := h
  have hn : ∀ n, run (takeLocal n) s = s
    | 0 => rfl
    | n + 1 => by simp only [takeLocal, run_dyn, hl, hf, run_nop]
  exact hn 256

/-- What an incident changes after its ERR bit: its count, the log, the interrupt. -/
theorem w_incident_rest (x : Inc) :
    (seqs [addFld rINT_CNT (16 * x.cls.num + 15) (16 * x.cls.num) 1, logEntry x, raiseIbi x.cls.num]).Within footLog := by
  refine .seq (within_addFld _ _ _ _ (by decide) (by decide)) (.seq ?log ?ibi)
  case log =>
    refine .dyn fun _ => .seq (within_upd ⟨_, rfl, by decide⟩) (within_ite ?_ ?_) <;> exact within_upd ⟨_, rfl, by decide⟩
  case ibi => refine .dyn fun _ => within_ite (within_ite ?_ (.seq ?_ ?_)) .nop <;> exact within_upd ⟨_, rfl, by decide⟩

/-- An incident sets its ERR bit (R374). -/
theorem flag_incident_err (x : Inc) {r : Nat} (hr : errReg x.blk = some r) (hc : x.code ≠ 0xFF)
    (hv : covers r x.code x.code = true) (ho : r < 2 ^ 24) (hn : r ∉ footLog.regs) (s : State) :
    (run (incident x) s).flag r x.code = true := by
  have hset : (run (setErr x.blk x.code) s).flag r x.code = true := by
    simp only [setErr, if_neg hc, hr, flag_orReg r _ 0 _ s ho hv, Nat.one_shiftLeft, Nat.testBit_two_pow_self, Bool.or_true]
  exact (keep_flag (w_incident_rest x) r x.code 0 ho hn _).trans hset

/-! ### The route slots of a switch -/

theorem mem_slotsOf {s : State} {k i : Nat} {x : Slot} :
    (i, x) ∈ s.slotsOf k ↔ i < 32 ∧ s.slot (k * 32 + i) = some x := by
  simp only [State.slotsOf, List.mem_filterMap, List.mem_range, Option.map_eq_some_iff, Prod.mk.injEq]
  constructor
  · rintro ⟨j, hj, y, hy, rfl, rfl⟩; exact ⟨hj, hy⟩
  · rintro ⟨hi, hx⟩; exact ⟨i, hi, x, hx, rfl, rfl⟩

theorem slotsOf_congr {s t : State} (h : ∀ j, t.slot j = s.slot j) (k : Nat) : t.slotsOf k = s.slotsOf k := by
  simp only [State.slotsOf, h]

/-- A slot that changes its contents keeps its place among the slots of its switch. -/
theorem slotsOf_setSlot {s : State} {k i : Nat} {x : Slot} (h : s.slot (k * 32 + i) = some x) (y : Slot) :
    (applyUpd (.slot (k * 32 + i) (some y)) s).slotsOf k = (s.slotsOf k).map (fun p => if p.1 = i then (i, y) else p) := by
  simp only [State.slotsOf, List.map_filterMap]
  refine List.filterMap_congr fun j _ => ?_
  by_cases hj : j = i
  · subst hj; simp [h]
  · have hk : ¬ k * 32 + j = k * 32 + i := by omega
    cases hs : s.slot (k * 32 + j) <;> simp [hj, hs]

theorem slotFor_some {s : State} {k inp st i : Nat} {x : Slot} (h : s.slotFor k inp st = some (i, x)) :
    (i < 32 ∧ s.slot (k * 32 + i) = some x) ∧ x.inp = inp ∧ x.stream = st := by
  have hm := List.mem_of_find?_eq_some h
  have hp := List.find?_some h
  simp only [Bool.and_eq_true, decide_eq_true_eq] at hp
  exact ⟨mem_slotsOf.mp hm, hp⟩

theorem slotFor_congr {s t : State} (h : ∀ j, t.slot j = s.slot j) (k inp st : Nat) :
    t.slotFor k inp st = s.slotFor k inp st := by
  simp only [State.slotFor, slotsOf_congr h]

/-! ### Forwarding (R22, R31, R32) -/

/-- A slot that lacks a credit on an output is not ready. -/
theorem slotReady_of_noCredit {s : State} {k o : Nat} {x : Slot} (ho : o ∈ bitsOn 9 x.outs)
    (hn : o = 8 ∨ (neighbour k o).isSome) (hc : s.credit (k * 2048 + o * 64 + x.stream) = 0) :
    s.slotReady k x = false := by
  have hall : ((bitsOn 9 x.outs).all fun o =>
      if o = 8 ∨ (neighbour k o).isSome then decide (0 < s.credit (k * 2048 + o * 64 + x.stream))
      else s.gatewayReady k o x.stream) = false :=
    List.all_eq_false.mpr ⟨o, ho, by simp [hn, hc]⟩
  simp only [State.slotReady, hall, Bool.and_false]

/-- Where every slot lacks a credit, nothing moves. -/
theorem run_forward_of_blocked {s : State} {k : Nat} (h : s.slotsBlocked k) : run (forward k) s = s := by
  have hready : (s.slotsOf k).filter (fun (_, x) => s.slotReady k x) = [] := by
    refine List.filter_eq_nil_iff.mpr fun p hp => ?_
    obtain ⟨o, ho, hn, hc⟩ := h p hp
    simp [slotReady_of_noCredit ho hn hc]
  have hnext : s.nextSlot k = none := by simp only [State.nextSlot, hready, List.find?_nil, List.head?_nil]
  have hN : ∀ n, run (forwardN n k) s = s
    | 0 => rfl
    | n + 1 => by simp only [forwardN, run_dyn, hnext, run_nop]
  exact hN _

/-- Where no slot holds a token, nothing moves. -/
theorem run_forward_of_empty {s : State} {k : Nat} (h : s.slotsEmpty k) : run (forward k) s = s := by
  have hsum : ((s.slotsOf k).map (fun (_, x) => x.held)).sum = 0 := by
    refine List.sum_eq_zero fun n hn => ?_
    obtain ⟨p, hp, rfl⟩ := List.mem_map.mp hn
    exact h p hp
  simp only [forward, run_dyn, hsum, forwardN, run_nop]

/-- Blocked slots stay blocked while their routes and the credits stay. -/
theorem slotsBlocked_of_sameRoutes {s t : State} {k : Nat} (hc : ∀ j, t.credit j = s.credit j)
    (hp : ∀ p ∈ t.slotsOf k, ∃ q ∈ s.slotsOf k, p.2.outs = q.2.outs ∧ p.2.stream = q.2.stream)
    (h : s.slotsBlocked k) : t.slotsBlocked k := by
  intro p hm
  obtain ⟨q, hq, houts, hstream⟩ := hp p hm
  obtain ⟨o, ho, hn, h0⟩ := h q hq
  exact ⟨o, houts ▸ ho, hn, by rw [hc, hstream, h0]⟩

/-- No site is its own neighbour. -/
theorem neighbour_ne_self {k o y : Nat} (h : neighbour k o = some y) : y ≠ k := by
  simp only [neighbour] at h
  split_ifs at h
  all_goals
    simp only [Option.some.injEq, mkKey] at h
    simp only [keyDie, keyRow, keyCol] at *
    omega

theorem lt_eight_of_neighbour {k o y : Nat} (h : neighbour k o = some y) : o < 8 := by
  by_contra ho
  simp [neighbour, show ¬ o < 2 by omega, show ¬ o < 4 by omega, show ¬ o < 6 by omega, ho] at h

theorem opposite_lt {o : Nat} : opposite o < 8 := by
  simp only [opposite]; split <;> omega

/-- The only ready slot moves next. -/
theorem nextSlot_single {s : State} {k i : Nat} {x : Slot} (h : s.slotsOf k = [(i, x)]) (hr : s.slotReady k x = true) :
    s.nextSlot k = some (i, x) := by
  simp [State.nextSlot, h, hr]

/-- Switch `k` has one live slot, `x` at place `i`: it spills nothing, its input runs, and it names one output `o`, to the
neighbour `y`, with a credit at hand; its own credits go back on the count `c`. -/
structure State.OnlySlot (s : State) (k i o y c : Nat) (x : Slot) : Prop where
  slots : s.slotsOf k = [(i, x)]
  spilled : x.spilled = []
  runs : (s.site k).stopped.testBit x.inp = false
  outs : bitsOn 9 x.outs = [o]
  next : neighbour k o = some y
  credit : 0 < s.credit (k * 2048 + o * 64 + x.stream)
  sender : senderKey k x.inp x.stream = some c

/-- The only slot sends its one token: the token is on the neighbour's wire, the credit is spent, and one is on its way to
the slot's sender. -/
theorem run_forward_single {s : State} {k i o y c : Nat} {x : Slot} {u : Token} (h : s.OnlySlot k i o y c x)
    (hq : x.q = [u]) (hk : Tok.kind u ≠ kindMarker) :
    run (forward k) s = run (seqs [.upd (.slot (k * 32 + i) (some { x with q := [] })), modCreditFly c (fun n => n + 1),
      modCredit (k * 2048 + o * 64 + x.stream) (fun n => n - 1), modWire (y * 16 + opposite o) (fun w => w ++ [u]),
      .upd (.lastGrant (k * 16 + o) i)]) s := by
  obtain ⟨hs, hsp, hst, hout, hy, hcr, hc⟩ := h
  have ho : ¬ o = 8 := by have := lt_eight_of_neighbour hy; omega
  have hready : s.slotReady k x = true := by simp [State.slotReady, hq, hst, hout, hy, hcr]
  have hpop : x.pop = { x with q := [] } := by simp [Slot.pop, hsp, hq]
  have hone : forwardN ((s.slotsOf k).map (fun (_, x) => x.held)).sum k = forwardN 1 k := by
    simp [hs, Slot.held, hq, hsp]
  simp [forward, hone, forwardN, nextSlot_single hs hready, hq, forwardSlot, hpop, creditBack, hc, hout, sendOut, ho, hy, hk]

/-- The parts of the fabric after that one move. -/
theorem readers_forward_single {s : State} {k i o y c : Nat} {x : Slot} {u : Token} (h : s.OnlySlot k i o y c x)
    (hq : x.q = [u]) (hk : Tok.kind u ≠ kindMarker) :
    let t := run (forward k) s
    t.wire (y * 16 + opposite o) = s.wire (y * 16 + opposite o) ++ [u] ∧
      t.slot (k * 32 + i) = some { x with q := [] } ∧
      t.credit (k * 2048 + o * 64 + x.stream) = s.credit (k * 2048 + o * 64 + x.stream) - 1 ∧
      t.creditFly c = s.creditFly c + 1 ∧ (s.noLocal → t.noLocal) := by
  intro t
  have ht : t = _ := run_forward_single h hq hk
  refine ⟨?wire, ?slot, ?credit, ?fly, fun hl => ?loc⟩
  case loc => rw [ht]; exact hl
  all_goals
    rw [ht]
    simp [modCreditFly, modCredit, modWire, applyUpd, State.wire, State.slot, State.credit, State.creditFly, tget_tset]

end Sys2Proof.Machine
end

section
/-!
SUPPORT. Chapter 01: what TOKEN_HOP and CREDIT_RETURN run in each case; O1.
-/

namespace Sys2Proof.Machine

/-! ### TOKEN_HOP (R24, R49, R50) -/

theorem run_tokenHop_idle {site : Site} {inp : Fin 9} {s : State} (feed : Option Token) (noise : Token)
    (h : (s.bay (keyBay (siteKey site))).passes = false ∨ (s.site (siteKey site)).stopped.testBit inp.val = true) :
    run (tokenHopA site inp feed noise) s = s := by
  rcases h with h | h <;> simp [tokenHopA, h]

/-- The oldest token on the wire arrives, taken from it. -/
theorem run_tokenHop_wire {site : Site} {inp : Fin 9} {tok : Token} {rest : List Token} {s : State}
    (feed : Option Token) (noise : Token) (hp : (s.bay (keyBay (siteKey site))).passes = true)
    (hs : (s.site (siteKey site)).stopped.testBit inp.val = false)
    (hw : s.wire (siteKey site * 16 + inp.val) = tok :: rest) :
    run (tokenHopA site inp feed noise) s = run settleLocal
      (run (arrive (siteKey site) inp.val (tok.xor noise) (.upd (.wire (siteKey site * 16 + inp.val) rest))) s) := by
  simp [tokenHopA, hp, hs, State.inbound, hw]

theorem run_arrive_invalid {k inp : Nat} {u : Token} {take : Act} {s : State} (h : Tok.valid u = false) :
    run (arrive k inp u take) s = run take s := by
  simp [arrive, h]

theorem run_arrive_parity {k inp : Nat} {u : Token} {take : Act} {s : State} (hv : Tok.valid u = true)
    (h : Tok.parityOk u = false) : run (arrive k inp u take) s = run (switchFault k inp u fabSBPAR) (run take s) := by
  simp [arrive, hv, h]

theorem run_arrive_noSlot {k inp : Nat} {u : Token} {take : Act} {s : State} (hv : Tok.valid u = true)
    (hp : Tok.parityOk u = true) (hs : s.slotFor k inp (Tok.stream u) = none)
    (hn : s.slotStaged k inp (Tok.stream u) = false) :
    run (arrive k inp u take) s = run (switchFault k inp u fabNOSLOT) (run take s) := by
  simp [arrive, hv, hp, hs, hn]

theorem run_enqueue_own {k i : Nat} {x : Slot} {u : Token} {s : State} (hq : x.q.length < slotOwnDepth k x.inp)
    (hsp : x.spilled = []) :
    run (enqueue k i x u) s = applyUpd (.slot (k * 32 + i) (some { x with q := x.q ++ [u] })) s := by
  simp [enqueue, hq, hsp]

/-- A token whose slot has room in its own queue is taken, enters that queue, and what can move moves. -/
theorem run_arrive_slot {k inp i : Nat} {x : Slot} {u : Token} {take : Act} {s : State} (hv : Tok.valid u = true)
    (hp : Tok.parityOk u = true) (hs : s.slotFor k inp (Tok.stream u) = some (i, x))
    (hq : x.q.length < slotOwnDepth k x.inp) (hsp : x.spilled = []) :
    run (arrive k inp u take) s = run (forward k)
      (applyUpd (.slot (k * 32 + i) (some { x with q := x.q ++ [u] })) (run (baySees k u) (run take s))) := by
  have hroom : ¬ s.slotDepth k x ≤ x.held := by simp only [State.slotDepth, Slot.held, hsp, List.length_nil]; omega
  simp [arrive, hv, hp, hs, hroom, run_enqueue_own hq hsp]

/-! ### A fault at a switch with nothing running in the bay (R49, R53) -/

/-- A load without a command: a condition that would end its command is only noted. -/
theorem run_endWith_of_noCmd {h rank : Nat} {s : State} (hc : (s.load h).cmd = none) :
    run (endWith h rank) s = run (addCause h rank) s := by
  have hc' : ((run (addCause h rank) s).load h).cmd = none := by simp [addCause, modLoad, hc]
  simp [endWith, endLoad, endAs, hc']

/-- The bay of a fault that ends no command and starts no scan. -/
theorem run_faultBay_alone {b : Nat} {s : State} (hp : (s.bay b).passes = true) (ha : s.faultAlone b) :
    run (faultBay b) s = run (seqs [modBay b (fun x => { x with st := .faulted }),
      withSome (s.bay b).load (fun h => addCause h rankABORT)]) s := by
  obtain ⟨hscan, hcmd⟩ := ha
  have hst : (s.bay b).st = .allocated ∨ (s.bay b).st = .switching ∨ (s.bay b).st = .draining := by
    simp only [Bay.passes, Bool.and_eq_true, Bool.or_eq_true, decide_eq_true_eq, or_assoc] at hp
    exact hp.1
  have hauto : ∀ t : State, t.flag rINT_CTL 0 = false → run (autoscan b) t = t := fun t ht => by simp [autoscan, ht]
  set t := run (modBay b (fun x => { x with st := .faulted })) s with htdef
  have hend : run (withSome (s.bay b).load (fun h => endWith h rankABORT)) t =
      run (withSome (s.bay b).load (fun h => addCause h rankABORT)) t := by
    cases hl : (s.bay b).load with
    | none => rfl
    | some h => exact run_endWith_of_noCmd (hcmd h hl)
  have hflag : (run (withSome (s.bay b).load (fun h => addCause h rankABORT)) t).flag rINT_CTL 0 = false :=
    (keep_flag (within_withSome fun h _ => w_addCause h rankABORT) _ _ _ (by decide) (by decide) t).trans hscan
  simp only [faultBay, run_dyn, if_pos hst, run_seqs_cons, run_seqs_nil, ← htdef, hend, hauto _ hflag]

/-- What such a fault changes. -/
def ft_faultAlone : Foot := { flds := [.fab .bay, .exh .load], regs := [] }

theorem w_faultAlone (b : Nat) (l : Option Nat) :
    (seqs [modBay b (fun x => { x with st := .faulted }), withSome l (fun h => addCause h rankABORT)]).Within
      ft_faultAlone :=
  .seq (w_modBay _ _ (by decide)) (within_withSome fun h _ => (w_addCause h rankABORT).mono (by decide))

/-- A fault of a token that ends no command: the input stops and holds the token, the bay is FAULTED, the FAB_ERR bit is
set, and nothing else of the fabric changes. -/
theorem readers_switchFault_alone {k inp n : Nat} {u : Token} {s : State} (hp : (s.bay (keyBay k)).passes = true)
    (ha : s.faultAlone (keyBay k)) (hv : covers rFAB_ERR n n = true) (hn : n ≠ 0xFF) :
    let t := run (switchFault k inp u n) s
    (∀ j, t.wire j = s.wire j) ∧ (t.site k).stopped.testBit inp = true ∧ (t.site k).held = (s.site k).held ++ [(inp, u)] ∧
      (t.bay (keyBay k)).st = .faulted ∧ t.flag rFAB_ERR n = true ∧ (s.noLocal → t.noLocal) := by
  intro t
  set s₁ := run (modSite k (fun x => { x with stopped := x.stopped ||| (1 <<< inp), held := x.held ++ [(inp, u)] })) s
    with hs₁
  have w₁ := w_modSite (p := { flds := [.fab .site], regs := [] }) k
    (fun x => { x with stopped := x.stopped ||| (1 <<< inp), held := x.held ++ [(inp, u)] }) (by decide)
  have wf := w_fabFault k inp (Tok.stream u) n true
  set s₂ := run (fabFault k inp (Tok.stream u) n true) s₁ with hs₂
  have hbay : s₂.bay (keyBay k) = s.bay (keyBay k) := (keep_bay wf (by decide) s₁ _).trans (keep_bay w₁ (by decide) s _)
  have halone : s₂.faultAlone (keyBay k) := by
    refine ⟨?_, fun h hl => ?_⟩
    · exact (keep_flag wf _ _ _ (by decide) (by decide) s₁).trans ha.1
    · rw [keep_load wf (by decide) s₁ h, keep_load w₁ (by decide) s h]
      exact ha.2 h (hbay ▸ hl)
  have ht : t = run (seqs [modBay (keyBay k) (fun x => { x with st := .faulted }),
      withSome (s₂.bay (keyBay k)).load (fun h => addCause h rankABORT)]) s₂ :=
    run_faultBay_alone (hbay ▸ hp) halone
  have wt := w_faultAlone (keyBay k) (s₂.bay (keyBay k)).load
  have hsite : t.site k = s₁.site k := by rw [ht, keep_site wt (by decide), keep_site wf (by decide)]
  have hsite₁ : s₁.site k = { s.site k with
      stopped := (s.site k).stopped ||| (1 <<< inp), held := (s.site k).held ++ [(inp, u)] } := by simp [hs₁, modSite]
  refine ⟨fun j => ?wire, ?stopped, ?held, ?st, ?flag, fun hl => ?loc⟩
  case wire => rw [ht, keep_wire wt (by decide), keep_wire wf (by decide), keep_wire w₁ (by decide)]
  case stopped => rw [hsite, hsite₁]; simp [Nat.testBit_or, Nat.one_shiftLeft]
  case held => rw [hsite, hsite₁]
  case st =>
    rw [ht, run_seqs_cons, run_seqs_cons, run_seqs_nil,
      keep_bay (within_withSome fun h _ => w_addCause h rankABORT) (by decide)]
    simp [modBay]
  case flag =>
    rw [ht, keep_flag wt _ _ _ (by decide) (by decide)]
    exact flag_incident_err _ rfl hn hv (by decide) (by decide) _
  case loc =>
    rw [ht]
    exact noLocal_run wt (by decide) (by decide) (noLocal_run wf (by decide) (by decide)
      (noLocal_run w₁ (by decide) (by decide) hl))

/-- The part of TOKEN_HOP after the token has been taken by a stopping fault. -/
theorem gives_tokenHop_fault {site : Site} {inp : Fin 9} {feed : Option Token} {noise tok : Token} {rest : List Token}
    {s : State} {n : Nat} (hp : (s.bay (keyBay (siteKey site))).passes = true)
    (hs : (s.site (siteKey site)).stopped.testBit inp.val = false) (hl : s.noLocal)
    (hw : s.wire (siteKey site * 16 + inp.val) = tok :: rest) (ha : s.faultAlone (keyBay (siteKey site)))
    (hv : covers rFAB_ERR n n = true) (hn : n ≠ 0xFF)
    (harr : ∀ take, run (arrive (siteKey site) inp.val (tok.xor noise) take) s =
      run (switchFault (siteKey site) inp.val (tok.xor noise) n) (run take s)) :
    Gives (.tokenHop site inp feed noise) s fun t =>
      t.wire (siteKey site * 16 + inp.val) = rest ∧ (t.site (siteKey site)).stopped.testBit inp.val = true ∧
      (t.site (siteKey site)).held = (s.site (siteKey site)).held ++ [(inp.val, tok.xor noise)] ∧
      (t.bay (keyBay (siteKey site))).st = .faulted ∧ t.flag rFAB_ERR n = true := by
  obtain ⟨hwire, hstop, hheld, hbay, hflag, hloc⟩ := readers_switchFault_alone (k := siteKey site) (inp := inp.val)
    (u := tok.xor noise) (s := applyUpd (.wire (siteKey site * 16 + inp.val) rest) s) hp ha hv hn
  refine gives_of_exec (a := tokenHopA site inp feed noise) rfl ?_
  rw [run_tokenHop_wire feed noise hp hs hw, harr, run_upd, run_settleLocal_of_noLocal (hloc hl)]
  exact ⟨(hwire _).trans (by simp), hstop, hheld, hbay, hflag⟩

/-- A token that enters a slot's own queue at a switch where nothing can move stays there. -/
theorem readers_arrive_blocked {k inp i : Nat} {x : Slot} {u : Token} {s : State} (w : Nat) (rest : List Token)
    (hv : Tok.valid u = true) (hp : Tok.parityOk u = true) (hs : s.slotFor k inp (Tok.stream u) = some (i, x))
    (hq : x.q.length < slotOwnDepth k x.inp) (hsp : x.spilled = []) (hb : s.slotsBlocked k) :
    let t := run (arrive k inp u (.upd (.wire w rest))) s
    t.wire w = rest ∧ t.slot (k * 32 + i) = some { x with q := x.q ++ [u] } ∧ (s.noLocal → t.noLocal) := by
  intro t
  have wb := w_baySees k u
  set s₁ := run (baySees k u) (applyUpd (.wire w rest) s) with hs₁
  have hslot : ∀ j, s₁.slot j = s.slot j := keep_slot wb (by decide) _
  have hcredit : ∀ j, s₁.credit j = s.credit j := keep_credit wb (by decide) _
  obtain ⟨⟨-, hx⟩, -, -⟩ := slotFor_some hs
  set s₂ := applyUpd (.slot (k * 32 + i) (some { x with q := x.q ++ [u] })) s₁ with hs₂
  have hroutes : ∀ p ∈ s₂.slotsOf k, ∃ q ∈ s.slotsOf k, p.2.outs = q.2.outs ∧ p.2.stream = q.2.stream := by
    intro p hm
    rw [hs₂, slotsOf_setSlot ((hslot _).trans hx), slotsOf_congr hslot] at hm
    obtain ⟨q, hq', rfl⟩ := List.mem_map.mp hm
    refine ⟨q, hq', ?_⟩
    split
    · next hi =>
      have hqx : q.2 = x := by
        have := (mem_slotsOf.mp (show (q.1, q.2) ∈ s.slotsOf k from hq')).2
        rw [hi, hx] at this
        exact (Option.some.inj this).symm
      rw [hqx]; exact ⟨rfl, rfl⟩
    · exact ⟨rfl, rfl⟩
  have ht : t = s₂ := (run_arrive_slot hv hp hs hq hsp).trans
    (run_forward_of_blocked (slotsBlocked_of_sameRoutes hcredit hroutes hb))
  refine ⟨?_, ?_, fun hl => ?_⟩
  · rw [ht]; exact (keep_wire wb (by decide) _ _).trans (by simp)
  · rw [ht]; simp [hs₂]
  · rw [ht]; exact noLocal_run wb (by decide) (by decide) (s := applyUpd (.wire w rest) s) hl

/-- Settles O1: each outcome of TOKEN_HOP is what `arrive` does in that case, with nothing left to take locally. -/
theorem tokenHopArrival : Obligations.TokenHopArrival := by
  intro site inp feed noise tok rest s k u
  refine ⟨fun h => gives_of_exec (a := tokenHopA site inp feed noise) rfl (run_tokenHop_idle feed noise h),
    fun hp hs hl hw => ⟨fun hv => ?invalid, fun hv hpar ha => ?parity, fun hv hpar hn hst ha => ?noSlot,
      fun i x hv hpar hx hq hsp hb => ?slot⟩⟩
  case invalid =>
    refine gives_of_exec (a := tokenHopA site inp feed noise) rfl ?_
    rw [run_tokenHop_wire feed noise hp hs hw, run_arrive_invalid hv, run_upd,
      run_settleLocal_of_noLocal (s := applyUpd (.wire (k * 16 + inp.val) rest) s) hl]
    exact ⟨by simp, fun _ => rfl⟩
  case parity => exact gives_tokenHop_fault hp hs hl hw ha (by decide) (by decide) fun _ => run_arrive_parity hv hpar
  case noSlot =>
    exact gives_tokenHop_fault hp hs hl hw ha (by decide) (by decide) fun _ => run_arrive_noSlot hv hpar hn hst
  case slot =>
    obtain ⟨hwire, hslot, hloc⟩ := readers_arrive_blocked (k * 16 + inp.val) rest hv hpar hx hq hsp hb
    refine gives_of_exec (a := tokenHopA site inp feed noise) rfl ?_
    rw [run_tokenHop_wire feed noise hp hs hw, run_settleLocal_of_noLocal (hloc hl)]
    exact ⟨hwire, hslot⟩

/-! ### A token at a switch with one slot, and CREDIT_RETURN (R22, R31, R32) -/

theorem run_creditArrive_none {c : Nat} {s : State} (h : s.creditFly c = 0) : run (creditArrive c) s = s := by
  simp [creditArrive, h]

/-- At most one credit on its way reaches the sender. -/
theorem credit_creditArrive (c : Nat) (s : State) (j : Nat) :
    (run (creditArrive c) s).credit j = if j = c then s.credit c + min 1 (s.creditFly c) else s.credit j := by
  by_cases h : s.creditFly c = 0
  · rw [run_creditArrive_none h, h]; split <;> simp [*]
  · have h1 : min 1 (s.creditFly c) = 1 := by omega
    simp only [creditArrive, run_dyn, if_neg h, run_seq, modCreditFly, modCredit, run_upd, applyUpd_credit, h1]
    rfl

theorem creditFly_creditArrive (c : Nat) (s : State) (j : Nat) :
    (run (creditArrive c) s).creditFly j = if j = c then s.creditFly c - 1 else s.creditFly j := by
  by_cases h : s.creditFly c = 0
  · rw [run_creditArrive_none h, h]; split <;> simp [*]
  · simp only [creditArrive, run_dyn, if_neg h, run_seq, modCreditFly, modCredit, run_upd]
    exact applyUpd_creditFly s c _ j

theorem run_creditReturn_link {site : Site} {out : Fin 9} {stream : Fin 64} {s : State} (h : out.val ≠ 8) :
    run (creditReturnA site out stream) s = run settleLocal (run (forward (siteKey site))
      (run (creditArrive (siteKey site * 2048 + out.val * 64 + stream.val)) s)) := by
  simp [creditReturnA, h]

theorem run_creditReturn_cell {site : Site} {stream : Fin 64} {s : State} :
    run (creditReturnA site 8 stream) s = run settleLocal (run (forward (siteKey site)) (run (cellSend (siteKey site) stream.val)
      (run (creditArrive (siteKey site * 2048 + 9 * 64 + stream.val))
        (run (creditArrive (siteKey site * 2048 + 8 * 64 + stream.val)) s)))) := by
  simp [creditReturnA]

theorem slotsEmpty_of_slots {s t : State} (h : ∀ j, t.slot j = s.slot j) {k : Nat} (he : s.slotsEmpty k) :
    t.slotsEmpty k := by
  simpa only [State.slotsEmpty, slotsOf_congr h] using he

end Sys2Proof.Machine
end

section
/-!
SUPPORT. Chapter 01: a switch with one slot; O2.
-/

namespace Sys2Proof.Machine

/-- A token that arrives at a switch whose one slot is empty and has a credit goes straight on. -/
theorem readers_arrive_single {k inp i o y w c : Nat} {x : Slot} {u : Token} {rest : List Token} {s : State}
    (hv : Tok.valid u = true) (hpar : Tok.parityOk u = true) (hk : Tok.kind u ≠ kindMarker) (h : s.OnlySlot k i o y c x)
    (hinp : x.inp = inp) (hstream : x.stream = Tok.stream u) (hq : x.q = []) (hw : w ≠ y * 16 + opposite o) :
    let t := run (arrive k inp u (.upd (.wire w rest))) s
    t.wire (y * 16 + opposite o) = s.wire (y * 16 + opposite o) ++ [u] ∧ t.slot (k * 32 + i) = some x ∧
      t.credit (k * 2048 + o * 64 + x.stream) = s.credit (k * 2048 + o * 64 + x.stream) - 1 ∧
      t.creditFly c = s.creditFly c + 1 ∧ (s.noLocal → t.noLocal) := by
  intro t
  have hx : s.slot (k * 32 + i) = some x := (mem_slotsOf.mp (h.slots ▸ List.mem_singleton.mpr rfl)).2
  have hfor : s.slotFor k inp (Tok.stream u) = some (i, x) := by simp [State.slotFor, h.slots, hinp, hstream]
  have hdepth : x.q.length < slotOwnDepth k x.inp := by
    simp only [hq, List.length_nil, slotOwnDepth]; split <;> omega
  set s₁ := applyUpd (.wire w rest) s with hs₁
  have hsees : run (baySees k u) s₁ = s₁ := by simp [baySees, hk]
  set s₂ := applyUpd (.slot (k * 32 + i) (some { x with q := x.q ++ [u] })) s₁ with hs₂
  have hslots : s₂.slotsOf k = [(i, { x with q := x.q ++ [u] })] := by
    rw [hs₂, slotsOf_setSlot (s := s₁) (x := x) hx, slotsOf_congr (s := s) (t := s₁) (fun _ => rfl), h.slots]; simp
  have honly : s₂.OnlySlot k i o y c { x with q := x.q ++ [u] } :=
    ⟨hslots, h.spilled, h.runs, h.outs, h.next, h.credit, h.sender⟩
  have ht : t = run (forward k) s₂ := by
    rw [show t = _ from run_arrive_slot hv hpar hfor hdepth h.spilled, run_upd, hsees]
  obtain ⟨hwire, hslot, hcredit, hfly, hloc⟩ := readers_forward_single (u := u) honly (by simp [hq]) hk
  rw [← ht] at hwire hslot hcredit hfly hloc
  have hwire₂ : s₂.wire (y * 16 + opposite o) = s.wire (y * 16 + opposite o) :=
    (applyUpd_wire s w rest _).trans (if_neg (Ne.symm hw))
  refine ⟨hwire₂ ▸ hwire, hslot.trans ?_, hcredit, hfly, hloc⟩
  rw [← hq]

/-- Settles O2: a single slot sends its token as soon as its output has a credit. -/
theorem switchForwards : Obligations.SwitchForwards := by
  refine ⟨?hop, ?link, ?cell⟩
  case hop =>
    intro site inp feed noise tok rest s i o y x k u hp hst hl hw hv hpar hk hs hinp hstream hq hsp hout hy hcr c hc
    have hne : k * 16 + inp.val ≠ y * 16 + opposite o := by
      have h1 := neighbour_ne_self hy
      have h2 := opposite_lt (o := o)
      omega
    obtain ⟨hwire, hslot, hcredit, hfly, hloc⟩ :=
      readers_arrive_single (rest := rest) hv hpar hk
      ⟨hs, hsp, by rw [hinp]; exact hst, hout, hy, hcr, hc⟩ hinp hstream hq hne
    refine gives_of_exec (a := tokenHopA site inp feed noise) rfl ?_
    rw [run_tokenHop_wire feed noise hp hst hw, run_settleLocal_of_noLocal (hloc hl)]
    exact ⟨hwire, hslot, hcredit, hfly⟩
  case link =>
    intro site out stream s k c hout hl
    have wc := w_creditArrive c
    set s₁ := run (creditArrive c) s with hs₁
    have hslot : ∀ j, s₁.slot j = s.slot j := keep_slot wc (by decide) s
    have hl₁ : s₁.noLocal := noLocal_run wc (by decide) (by decide) hl
    have hrun : run (creditReturnA site out stream) s = run settleLocal (run (forward k) s₁) := run_creditReturn_link hout
    refine ⟨fun he h0 => ?none, fun he hfly => ?empty,
      fun i u y x hfly h0 hs hq hsp hst ho hy hk hstop hsend => ?queued⟩
    case none =>
      refine gives_of_exec (a := creditReturnA site out stream) rfl ?_
      rw [hrun, run_forward_of_empty (slotsEmpty_of_slots hslot he), run_settleLocal_of_noLocal hl₁]
      exact run_creditArrive_none h0
    case empty =>
      refine gives_of_exec (a := creditReturnA site out stream) rfl ?_
      rw [hrun, run_forward_of_empty (slotsEmpty_of_slots hslot he), run_settleLocal_of_noLocal hl₁]
      simp only [hs₁, credit_creditArrive, creditFly_creditArrive, if_true, true_and]
      exact ⟨by omega, fun j hj => if_neg hj⟩
    case queued =>
      obtain ⟨c', hc'⟩ := Option.isSome_iff_exists.mp hsend
      have hcr : s₁.credit c = 1 := by rw [hs₁, credit_creditArrive, if_pos rfl]; omega
      have honly : s₁.OnlySlot k i out.val y c' x :=
        ⟨(slotsOf_congr hslot k).trans hs, hsp, by rw [keep_site wc (by decide)]; exact hstop, ho, hy,
          by rw [hst]; exact Nat.lt_of_lt_of_eq Nat.one_pos hcr.symm, hc'⟩
      obtain ⟨hwire, hslot', hcredit, -, hloc⟩ := readers_forward_single honly hq hk
      refine gives_of_exec (a := creditReturnA site out stream) rfl ?_
      rw [hrun, run_settleLocal_of_noLocal (hloc hl₁)]
      rw [hst] at hcredit
      exact ⟨hcredit.trans (by rw [show s₁.credit _ = 1 from hcr]),
        hwire.trans (by rw [keep_wire wc (by decide)]), hslot'⟩
  case cell =>
    intro site stream s k c c' hl he hcout
    have hne : c ≠ c' := by omega
    have wc := w_creditArrive c
    have wc' := w_creditArrive c'
    set s₁ := run (creditArrive c) s with hs₁
    set s₂ := run (creditArrive c') s₁ with hs₂
    have hslot : ∀ j, s₂.slot j = s.slot j := fun j =>
      (keep_slot wc' (by decide) s₁ j).trans (keep_slot wc (by decide) s j)
    have hl₂ : s₂.noLocal := noLocal_run wc' (by decide) (by decide) (noLocal_run wc (by decide) (by decide) hl)
    have hcout₂ : s₂.cout (k * 64 + stream.val) = [] :=
      ((keep_cout wc' (by decide) s₁ _).trans (keep_cout wc (by decide) s _)).trans hcout
    have hsend : run (cellSend k stream.val) s₂ = s₂ := by
      simp only [cellSend, run_dyn, hcout₂, List.length_nil, cellSendN, run_nop]
    refine gives_of_exec (a := creditReturnA site 8 stream) rfl ?_
    rw [run_creditReturn_cell, ← hs₁, ← hs₂, hsend, run_forward_of_empty (slotsEmpty_of_slots hslot he), run_settleLocal_of_noLocal hl₂]
    simp [hs₁, hs₂, credit_creditArrive, creditFly_creditArrive, hne, hne.symm]

end Sys2Proof.Machine
end

section
/-!
SUPPORT. Chapter 01: bays, their power and their clearing; O4.
-/

namespace Sys2Proof.Machine

/-! ### Clearing a bay (R44, R45) -/

/-- What clearing a bay changes: its switches, cells and lines, and no register and no bay's state. -/
def ft_bayContents : Foot :=
  { flds := [.fab .slot, .fab .newSlot, .fab .site, .fab .credit, .fab .creditFly, .fab .wire, .fab .lastGrant, .cell .acell, .cell .acc,
      .cell .run16At, .cell .lane, .cell .laneBad, .cell .arrived, .cell .got, .cell .cout, .cell .scell, .cell .line, .exh .wdogWait],
    regs := [] }

theorem w_clearBay_contents (b : Nat) : (clearBay b).Within ft_bayContents := by
  unfold clearBay
  refine .dyn fun s => ?_
  repeat' refine within_seqs_cons (within_each _ fun _ => within_upd ⟨_, rfl, by decide⟩) ?_
  exact within_upd ⟨_, rfl, by decide⟩

theorem mem_keysIn {α : Type} {t : Tab α} {per j b : Nat} (ht : j ∈ tkeys t) (hb : keyBay (j / per) = b) :
    j ∈ keysIn t per [b] := by
  simp [keysIn, ht, hb]

/-- Keys of a table that lie in a bay and that a list of all of them resets to the default: the bay reads as default. -/
theorem tget_each_keysIn {α : Type} (d : α) (read : State → Nat → α) {f : Nat → Act} {t : Tab α} {per b j : Nat} {s : State}
    (hf : ∀ k s j, read (run (f k) s) j = if j = k then d else read s j) (ht : read s j = tget (fun _ => d) t j)
    (hb : keyBay (j / per) = b) : read (run (each (keysIn t per [b]) f) s) j = d := by
  rw [run_each_idem read (g := fun _ => d) hf (fun _ => rfl)]
  by_cases hj : j ∈ tkeys t
  · rw [if_pos (mem_keysIn hj hb)]
  · rw [ht, tget_of_notMem _ hj, ite_self]

theorem slot_each_keep {α : Type} {f : α → Act} {j : Nat} (h : ∀ x s, (run (f x) s).slot j = s.slot j) (l : List α)
    (s : State) : (run (each l f) s).slot j = s.slot j := run_each_keep (fun s => s.slot j) h l s

theorem line_each_keep {α : Type} {f : α → Act} {j : Nat} (h : ∀ x s, (run (f x) s).line j = s.line j) (l : List α)
    (s : State) : (run (each l f) s).line j = s.line j := run_each_keep (fun s => s.line j) h l s

/-- No route slot of a cleared bay is configured: the slots' table is cleared first, and the rest leaves it. -/
theorem slot_clearBay {b k i : Nat} (hk : keyBay k = b) (hi : i < 32) (s : State) :
    (run (clearBay b) s).slot (k * 32 + i) = none := by
  have hb : keyBay ((k * 32 + i) / 32) = b := by rw [show (k * 32 + i) / 32 = k by omega, hk]
  have hlast : ∀ s : State, (run (.upd (.wdogWait b 0)) s).slot (k * 32 + i) = s.slot (k * 32 + i) := fun _ => rfl
  simp only [clearBay, run_dyn, run_seqs_cons, run_seqs_nil, hlast]
  -- the sixteen other tables of the script
  iterate 16 rw [slot_each_keep (by exact fun _ _ => rfl)]
  exact tget_each_keysIn none State.slot (f := fun k => .upd (.slot k none)) (fun k s j => applyUpd_slot s k none j) rfl hb

/-- Every SRAM line of a cleared bay is zero: what is cleared before and after the lines leaves them. -/
theorem line_clearBay {b k l : Nat} (hk : keyBay k = b) (hl : l < 8192) (s : State) :
    (run (clearBay b) s).line (k * 8192 + l) = {} := by
  have hb : keyBay ((k * 8192 + l) / 8192) = b := by rw [show (k * 8192 + l) / 8192 = k by omega, hk]
  have hlast : ∀ s : State, (run (.upd (.wdogWait b 0)) s).line (k * 8192 + l) = s.line (k * 8192 + l) := fun _ => rfl
  simp only [clearBay, run_dyn, run_seqs_cons, run_seqs_nil, hlast]
  refine tget_each_keysIn ({} : Line) State.line (f := fun k => .upd (.line k {})) (fun k s j => applyUpd_line s k {} j) ?_ hb
  -- the sixteen other tables before the lines
  iterate 16 rw [line_each_keep (by exact fun _ _ => rfl)]
  rfl

/-- What comes after the clearing of a bay and touches no slot and no line leaves them clear. -/
theorem clear_after_clearBay {p : Foot} {rest : Act} (w : rest.Within p) (hs : Fld.fab .slot ∉ p.flds)
    (hl : Fld.cell .line ∉ p.flds) (b : Nat) (s : State) :
    let t := run rest (run (clearBay b) s)
    (∀ k i, keyBay k = b → i < 32 → t.slot (k * 32 + i) = none) ∧
      ∀ k l, keyBay k = b → l < 8192 → t.line (k * 8192 + l) = {} :=
  ⟨fun _ _ hk hi => (keep_slot w hs _ _).trans (slot_clearBay hk hi s),
    fun _ _ hk hl' => (keep_line w hl _ _).trans (line_clearBay hk hl' s)⟩

/-! ### The ON and FORCE bits (Table 1.8, R43) -/

theorem run_bitDo_taken {i : Instr} {a : Act} {s : State} (h : s.taken) : run (bitDo i a) s = run a s := by
  simp only [bitDo, run_dyn, if_neg h]

theorem bay_modBay (b : Nat) (f : Bay → Bay) (s : State) (j : Nat) :
    (run (modBay b f) s).bay j = if j = b then f (s.bay b) else s.bay j := applyUpd_bay s b _ j

theorem covers_bayBits : ∀ b : Fin 16, covers rFAB_BAY_ON b.val b.val = true ∧ covers rFAB_BAY_FORCE b.val b.val = true := by
  decide

/-- A bit of a register that is set to 1. -/
theorem flag_orReg_bit {off j : Nat} (h : off < 2 ^ 24) (hc : covers off j j = true) (s : State) :
    (run (orReg off (1 <<< j)) s).flag off j = true := by
  rw [flag_orReg off _ 0 j s h hc, Nat.one_shiftLeft, Nat.testBit_two_pow_self, Bool.or_true]

/-- A bit of a register that is set to 0. -/
theorem flag_setFld_bit {off j : Nat} (h : off < 2 ^ 24) (hc : covers off j j = true) (s : State) :
    (run (setFld off j j 0) s).flag off j = false := by
  rw [flag_setFld off j j 0 0 j s h (Nat.le_refl j) hc, if_pos ⟨Nat.le_refl j, Nat.le_refl j⟩, Nat.zero_testBit]

/-- A misuse that is only logged leaves the bays and FAB_BAY_ON. -/
theorem readers_incA_bayOn (s : State) (j : Nat) :
    (run (incA blkFAB 0xFF rFAB_BAY_ON) s).bay j = s.bay j ∧
      (run (incA blkFAB 0xFF rFAB_BAY_ON) s).flag rFAB_BAY_ON j = s.flag rFAB_BAY_ON j := by
  have w := w_incA (p := footLog) blkFAB 0xFF rFAB_BAY_ON (by decide) (errOk_none _ _)
  exact ⟨keep_bay w (by decide) s j, keep_flag w _ _ _ (by decide) (by decide) s⟩

theorem run_bayOffRow_busy {b : Nat} {s : State} (h : (s.bay b).act ≠ .none) : run (bayOffRow b) s = s := by
  simp [bayOffRow, h]

theorem bay_downBay (b : Nat) (s : State) (j : Nat) :
    (run (downBay b) s).bay j = if j = b then { s.bay b with load := none, act := .downing } else s.bay j := by
  rw [downBay, run_seq, keep_bay w_setFences (by decide), bay_modBay]

/-- An IDLE or FAULTED bay powers down. -/
theorem bay_bayOffRow_idle {b : Nat} {s : State} (ha : (s.bay b).act = .none)
    (hs : (s.bay b).st = .idle ∨ (s.bay b).st = .faulted) (j : Nat) :
    (run (bayOffRow b) s).bay j = if j = b then { s.bay b with load := none, act := .downing } else s.bay j := by
  have hrun : run (bayOffRow b) s = run (downBay b) s := by simp [bayOffRow, ha, hs]
  rw [hrun, bay_downBay]

/-- An ALLOCATED bay whose load runs a command drains. -/
theorem bay_bayOffRow_allocated {b : Nat} {s : State} (ha : (s.bay b).act = .none) (hs : (s.bay b).st = .allocated)
    (hc : ∀ h, (s.bay b).load = some h → (s.load h).cmd.isSome = true) (j : Nat) :
    (run (bayOffRow b) s).bay j = if j = b then { s.bay b with st := .draining } else s.bay j := by
  have hrun : run (bayOffRow b) s = applyUpd (.bay b { s.bay b with st := .draining }) s := by
    cases hl : (s.bay b).load with
    | none => simp [bayOffRow, ha, hs, hl]
    | some h =>
      have hcmd : (s.load h).cmd.isNone = false := by
        rw [← Option.not_isSome, hc h hl, Bool.not_true]
      simp [bayOffRow, ha, hs, hl, hcmd]
  rw [hrun, applyUpd_bay]

/-- A bay whose ON bit is written 1 (Table 1.8). -/
def Bay.turnOn (x : Bay) : Bay :=
  if x.st = .off then { x with st := .powering }
  else if x.st = .draining ∧ x.act = .none then { x with st := .allocated }
  else x

theorem run_bayOnA {b : Nat} {s : State} (hh : ¬ s.halted = true) :
    run (bayOnA b) s = run (modBay b Bay.turnOn) (run (orReg rFAB_BAY_ON (1 <<< b)) s) := by
  simp only [bayOnA, run_dyn, if_neg hh, run_seq]; rfl

theorem gives_bayOn (bay : Fin 16) (s : State) (ht : s.taken) : Gives (.bayOn bay) s fun t =>
    (∀ j, j ≠ bay.val → t.bay j = s.bay j) ∧
    if s.halted then t.bay bay.val = s.bay bay.val ∧ t.flag rFAB_BAY_ON bay.val = s.flag rFAB_BAY_ON bay.val
    else t.flag rFAB_BAY_ON bay.val = true ∧ t.bay bay.val =
      (if (s.bay bay.val).st = .off then { s.bay bay.val with st := .powering }
       else if (s.bay bay.val).st = .draining ∧ (s.bay bay.val).act = .none then { s.bay bay.val with st := .allocated }
       else s.bay bay.val) := by
  refine gives_of_exec (a := bitDo (.bayOn bay) (bayOnA bay.val)) rfl ?_
  rw [run_bitDo_taken ht]
  by_cases hh : s.halted = true
  · rw [if_pos hh, show run (bayOnA bay.val) s = run (incA blkFAB 0xFF rFAB_BAY_ON) s by simp [bayOnA, hh]]
    exact ⟨fun j _ => (readers_incA_bayOn s j).1, readers_incA_bayOn s bay.val⟩
  · have wor : (orReg rFAB_BAY_ON (1 <<< bay.val)).Within { flds := [], regs := [rFAB_BAY_ON] } :=
      within_orReg _ _ (by decide) (by decide)
    have hbay : ∀ j, (run (bayOnA bay.val) s).bay j = if j = bay.val then (s.bay bay.val).turnOn else s.bay j := fun j => by
      rw [run_bayOnA hh, bay_modBay, keep_bay wor (by decide), keep_bay wor (by decide)]
    rw [if_neg hh]
    refine ⟨fun j hj => (hbay j).trans (if_neg hj), ?_, (hbay bay.val).trans (if_pos rfl)⟩
    rw [run_bayOnA hh, keep_flag (w_modBay (p := ft_leaveBay) _ _ (by decide)) _ _ _ (by decide) (by decide),
      flag_orReg_bit (by decide) (covers_bayBits bay).1]

theorem gives_bayOff (bay : Fin 16) (s : State) (ht : s.taken) : Gives (.bayOff bay) s fun t =>
    if s.halted then (∀ j, t.bay j = s.bay j) ∧ t.flag rFAB_BAY_ON bay.val = s.flag rFAB_BAY_ON bay.val
    else t.flag rFAB_BAY_ON bay.val = false ∧
      ((s.bay bay.val).act ≠ .none → ∀ j, t.bay j = s.bay j) ∧
      ((s.bay bay.val).act = .none → (s.bay bay.val).st = .idle ∨ (s.bay bay.val).st = .faulted →
        t.bay bay.val = { s.bay bay.val with load := none, act := .downing } ∧ ∀ j, j ≠ bay.val → t.bay j = s.bay j) ∧
      ((s.bay bay.val).act = .none → (s.bay bay.val).st = .allocated →
        (∀ h, (s.bay bay.val).load = some h → (s.load h).cmd.isSome = true) →
        t.bay bay.val = { s.bay bay.val with st := .draining } ∧ ∀ j, j ≠ bay.val → t.bay j = s.bay j) := by
  refine gives_of_exec (a := bitDo (.bayOff bay) (bayOffA bay.val)) rfl ?_
  rw [run_bitDo_taken ht]
  by_cases hh : s.halted = true
  · rw [if_pos hh, show run (bayOffA bay.val) s = run (incA blkFAB 0xFF rFAB_BAY_ON) s by simp [bayOffA, hh]]
    exact ⟨fun j => (readers_incA_bayOn s j).1, (readers_incA_bayOn s bay.val).2⟩
  · set s₁ := run (setFld rFAB_BAY_ON bay.val bay.val 0) s with hs₁
    have wset : (setFld rFAB_BAY_ON bay.val bay.val 0).Within { flds := [], regs := [rFAB_BAY_ON] } :=
      within_setFld _ _ _ _ (by decide) (by decide)
    have hb : ∀ j, s₁.bay j = s.bay j := keep_bay wset (by decide) s
    have hrun : run (bayOffA bay.val) s = run (bayOffRow bay.val) s₁ := by
      simp only [bayOffA, run_dyn, if_neg hh, run_seq, hs₁]
    rw [if_neg hh, hrun]
    refine ⟨?on, fun ha j => ?busy, fun ha hst => ?idle, fun ha hst hc => ?allocated⟩
    case on =>
      exact (keep_flag (w_bayOffRow bay.val) _ _ _ (by decide) (by decide) _).trans
        (flag_setFld_bit (by decide) (covers_bayBits bay).1 s)
    case busy => rw [run_bayOffRow_busy (by rwa [hb]), hb]
    case idle =>
      have hall := bay_bayOffRow_idle (s := s₁) (b := bay.val) (by rwa [hb]) (by rwa [hb])
      simp only [hb] at hall
      exact ⟨(hall _).trans (if_pos rfl), fun j hj => (hall j).trans (if_neg hj)⟩
    case allocated =>
      have hall := bay_bayOffRow_allocated (s := s₁) (b := bay.val) (by rwa [hb]) (by rwa [hb]) (fun h hl => by
        rw [keep_load wset (by decide)]
        exact hc h (hb bay.val ▸ hl))
      simp only [hb] at hall
      exact ⟨(hall _).trans (if_pos rfl), fun j hj => (hall j).trans (if_neg hj)⟩

/-- FORCE of a bay that is not DRAINING is only logged. -/
theorem gives_bayForce_noOp (bay : Fin 16) (s : State) (ht : s.taken) (hd : (s.bay bay.val).st ≠ .draining) :
    Gives (.bayForce bay) s fun t => (∀ j, t.bay j = s.bay j) ∧ t.flag rFAB_ERR 4 = true := by
  have w := w_incA (p := footLog.add { flds := [], regs := [rFAB_ERR] }) blkFAB fabFORCENOP 0 (by decide) (by decide)
  refine gives_of_exec (a := bitDo (.bayForce bay) (bayForceA bay.val)) rfl ?_
  rw [run_bitDo_taken ht, show run (bayForceA bay.val) s = run (incA blkFAB fabFORCENOP) s by simp [bayForceA, hd]]
  exact ⟨keep_bay w (by decide) s, flag_incident_err _ rfl (by decide) (by decide) (by decide) (by decide) s⟩

/-- A DRAINING bay that leaves its load powers down. -/
theorem bay_leaveBay_draining {b : Nat} {s : State} (hd : (s.bay b).st = .draining) :
    (run (leaveBay b) s).bay b = { s.bay b with st := .draining, load := none, act := .downing } := by
  simp [leaveBay, bay_modBay, hd]

/-- FORCE of a DRAINING bay whose load has no command takes it from the load and powers it down. -/
theorem gives_bayForce_draining (bay : Fin 16) (s : State) (ht : s.taken) (hd : (s.bay bay.val).st = .draining)
    (hc : ∀ h, (s.bay bay.val).load = some h → (s.load h).cmd = none) :
    Gives (.bayForce bay) s fun t => t.flag rFAB_BAY_FORCE bay.val = true ∧ ((s.bay bay.val).load.isSome →
      t.bay bay.val = { s.bay bay.val with st := .draining, load := none, act := .downing }) := by
  set s₁ := run (orReg rFAB_BAY_FORCE (1 <<< bay.val)) s with hs₁
  have wor : (orReg rFAB_BAY_FORCE (1 <<< bay.val)).Within { flds := [], regs := [rFAB_BAY_FORCE] } :=
    within_orReg _ _ (by decide) (by decide)
  have hflag : s₁.flag rFAB_BAY_FORCE bay.val = true := flag_orReg_bit (by decide) (covers_bayBits bay).2 s
  refine gives_of_exec (a := bitDo (.bayForce bay) (bayForceA bay.val)) rfl ?_
  rw [run_bitDo_taken ht]
  cases hl : (s.bay bay.val).load with
  | none =>
    have hrun : run (bayForceA bay.val) s = s₁ := by simp [bayForceA, hd, hl, hs₁]
    rw [hrun]
    exact ⟨hflag, fun h => absurd h (by simp)⟩
  | some h =>
    have wcause := w_addCause h rankABORT
    set s₂ := run (addCause h rankABORT) s₁ with hs₂
    have hbay : s₂.bay bay.val = s.bay bay.val := (keep_bay wcause (by decide) s₁ _).trans (keep_bay wor (by decide) s _)
    have hend : run (endWith h rankABORT) s₁ = s₂ :=
      run_endWith_of_noCmd (by rw [keep_load wor (by decide)]; exact hc h hl)
    have hrun : run (bayForceA bay.val) s = run setFences (run (leaveBay bay.val) s₂) := by
      simp [bayForceA, hd, hl, ← hs₁, hend, hbay]
    rw [hrun]
    constructor
    · rw [keep_flag w_setFences _ _ _ (by decide) (by decide), keep_flag (w_leaveBay _) _ _ _ (by decide) (by decide),
        keep_flag wcause _ _ _ (by decide) (by decide), hflag]
    · intro _
      rw [keep_bay w_setFences (by decide), bay_leaveBay_draining (by rw [hbay]; exact hd), hbay]

/-! ### The ends of power-up, clearing and power-down (R43 to R45) -/

theorem gives_bayPowerUpDone (bay : Fin 16) (s : State) : Gives (.bayPowerUpDone bay) s fun t =>
    if (s.bay bay.val).st = .powering then
      (t.bay bay.val = if s.flag rFAB_BAY_ON bay.val then { st := .idle } else { st := .powering, act := .downing }) ∧
      (∀ j, j ≠ bay.val → t.bay j = s.bay j) ∧
      (∀ k i, keyBay k = bay.val → i < 32 → t.slot (k * 32 + i) = none) ∧
      (∀ k l, keyBay k = bay.val → l < 8192 → t.line (k * 8192 + l) = {})
    else t = s := by
  refine gives_of_exec (a := bayPowerUpDoneA bay.val) rfl ?_
  by_cases hp : (s.bay bay.val).st = .powering
  · have wi : (each (bayIslands bay.val) fun i => modIsland i fun x => { x with stall := 0 }).Within
        { flds := [.fab .island], regs := [] } := within_each _ fun _ => w_modIsland _ _ (by decide)
    have wrest : ∀ v : Bay, (seqs [each (bayIslands bay.val) fun i => modIsland i fun x => { x with stall := 0 },
        .upd (.bay bay.val v)]).Within { flds := [.fab .island, .fab .bay], regs := [] } :=
      fun v => .seq (wi.mono (by decide)) (within_upd ⟨_, rfl, by decide⟩)
    have hb : ∀ v j, (run (seqs [each (bayIslands bay.val) fun i => modIsland i fun x => { x with stall := 0 },
        .upd (.bay bay.val v)]) (run (clearBay bay.val) s)).bay j = if j = bay.val then v else s.bay j := fun v j => by
      rw [run_seqs_cons, run_seqs_cons, run_seqs_nil, run_upd, applyUpd_bay, keep_bay wi (by decide),
        keep_bay (w_clearBay_contents _) (by decide)]
    simp only [bayPowerUpDoneA, run_dyn, if_pos hp]
    refine ⟨(hb _ _).trans (if_pos rfl), fun j hj => (hb _ j).trans (if_neg hj), ?_⟩
    exact clear_after_clearBay (wrest _) (by decide) (by decide) bay.val s
  · simp only [bayPowerUpDoneA, run_dyn, if_neg hp, run_nop]

/-- An IDLE bay that acts on its ON bit. -/
theorem bay_actOnBit_idle {b : Nat} {s : State} (hb : s.bay b = { st := .idle }) (j : Nat) :
    (run (actOnBit b) s).bay j =
      if j = b then (if s.flag rFAB_BAY_ON b then { st := .idle } else { st := .idle, act := .downing }) else s.bay j := by
  simp only [actOnBit, run_whenS, State.bayOnBit]
  cases s.flag rFAB_BAY_ON b with
  | true => by_cases hj : j = b <;> simp [hj, hb]
  | false =>
    rw [Bool.not_false, if_pos rfl, bay_bayOffRow_idle (by rw [hb]) (Or.inl (by rw [hb])), hb]
    rfl

theorem gives_bayClearDone (bay : Fin 16) (s : State) (ha : (s.bay bay.val).act = .clearing) :
    Gives (.bayClearDone bay) s fun t =>
      (t.bay bay.val = if s.flag rFAB_BAY_ON bay.val then { st := .idle } else { st := .idle, act := .downing }) ∧
      (∀ j, j ≠ bay.val → t.bay j = s.bay j) ∧
      (∀ k i, keyBay k = bay.val → i < 32 → t.slot (k * 32 + i) = none) ∧
      (∀ k l, keyBay k = bay.val → l < 8192 → t.line (k * 8192 + l) = {}) := by
  have wc := w_clearBay_contents bay.val
  have wrel : (withSome (s.bay bay.val).load settleRelease).Within ft_settleRelease := within_withSome fun h _ => w_settleRelease h
  have wrest : (seqs [.upd (.bay bay.val { st := .idle }), setFences, actOnBit bay.val,
      withSome (s.bay bay.val).load settleRelease]).Within (ft_settleRelease.add ft_drainBays) :=
    .seq (within_upd ⟨_, rfl, by decide⟩) (.seq (w_setFences.mono (by decide)) (.seq ((w_actOnBit _).mono (by decide))
      (wrel.mono (by decide))))
  set s₁ := run setFences (applyUpd (.bay bay.val { st := .idle }) (run (clearBay bay.val) s)) with hs₁
  have hb₁ : ∀ j, s₁.bay j = if j = bay.val then { st := .idle } else s.bay j := fun j => by
    rw [hs₁, keep_bay w_setFences (by decide), applyUpd_bay, keep_bay wc (by decide)]
  have hon : s₁.flag rFAB_BAY_ON bay.val = s.flag rFAB_BAY_ON bay.val := by
    rw [hs₁, keep_flag w_setFences _ _ _ (by decide) (by decide)]
    exact keep_flag wc _ _ _ (by decide) (by decide) s
  have hbay : ∀ j, (run (withSome (s.bay bay.val).load settleRelease) (run (actOnBit bay.val) s₁)).bay j = if j = bay.val then
      (if s₁.flag rFAB_BAY_ON bay.val then { st := .idle } else { st := .idle, act := .downing }) else s₁.bay j := fun j =>
    (keep_bay wrel (by decide) _ j).trans (bay_actOnBit_idle ((hb₁ bay.val).trans (if_pos rfl)) j)
  refine gives_of_exec (a := bayClearDoneA bay.val) rfl ?_
  simp only [bayClearDoneA, run_dyn, if_pos ha]
  refine ⟨(hbay bay.val).trans ?_, fun j hj => (hbay j).trans ?_,
    clear_after_clearBay wrest (by decide) (by decide) bay.val s⟩
  · rw [if_pos rfl, hon]
  · rw [if_neg hj, hb₁, if_neg hj]

theorem gives_bayPowerDownDone (bay : Fin 16) (s : State) : Gives (.bayPowerDownDone bay) s fun t =>
    if (s.bay bay.val).act = .downing then
      t.bay bay.val = {} ∧ (∀ j, j ≠ bay.val → t.bay j = s.bay j) ∧ t.flag rFAB_BAY_FORCE bay.val = false ∧
      (∀ i ∈ bayIslands bay.val, (t.island i).clk = 0) ∧
      (∀ k i, keyBay k = bay.val → i < 32 → t.slot (k * 32 + i) = none) ∧
      (∀ k l, keyBay k = bay.val → l < 8192 → t.line (k * 8192 + l) = {})
    else t = s := by
  refine gives_of_exec (a := bayPowerDownDoneA bay.val) rfl ?_
  by_cases hd : (s.bay bay.val).act = .downing
  · have wset : (setFld rFAB_BAY_FORCE bay.val bay.val 0).Within { flds := [], regs := [rFAB_BAY_FORCE] } :=
      within_setFld _ _ _ _ (by decide) (by decide)
    have wi : (each (bayIslands bay.val) fun i => modIsland i fun x => { x with clk := 0 }).Within
        { flds := [.fab .island], regs := [] } := within_each _ fun _ => w_modIsland _ _ (by decide)
    have wrest : (seqs [.upd (.bay bay.val {}), setFld rFAB_BAY_FORCE bay.val bay.val 0,
        each (bayIslands bay.val) fun i => modIsland i fun x => { x with clk := 0 }]).Within
        { flds := [.fab .island, .fab .bay], regs := [rFAB_BAY_FORCE] } :=
      .seq (within_upd ⟨_, rfl, by decide⟩) (.seq (wset.mono (by decide)) (wi.mono (by decide)))
    simp only [bayPowerDownDoneA, run_dyn, if_pos hd]
    set s₁ := run (setFld rFAB_BAY_FORCE bay.val bay.val 0) (applyUpd (.bay bay.val {}) (run (clearBay bay.val) s)) with hs₁
    have hrun : run (bayGone bay.val) s =
        run (each (bayIslands bay.val) fun i => modIsland i fun x => { x with clk := 0 }) s₁ := by
      simp only [bayGone, run_seqs_cons, run_seqs_nil, run_upd, hs₁]
    have hb : ∀ j, (run (bayGone bay.val) s).bay j = if j = bay.val then {} else s.bay j := fun j => by
      rw [hrun, keep_bay wi (by decide), hs₁, keep_bay wset (by decide), applyUpd_bay,
        keep_bay (w_clearBay_contents _) (by decide)]
    have hclear := clear_after_clearBay wrest (by decide) (by decide) bay.val s
    simp only [run_seqs_cons, run_seqs_nil, run_upd, ← hs₁, ← hrun] at hclear
    refine ⟨(hb _).trans (if_pos rfl), fun j hj => (hb j).trans (if_neg hj), ?force, fun i hi => ?clk, hclear⟩
    case force =>
      rw [hrun, keep_flag wi _ _ _ (by decide) (by decide), hs₁, flag_setFld_bit (by decide) (covers_bayBits bay).2]
    case clk =>
      rw [hrun, run_each_idem State.island (f := fun i => modIsland i fun x => { x with clk := 0 })
        (g := fun x => { x with clk := 0 }) (fun k s j => ?_) (fun _ => rfl), if_pos hi]
      simp only [modIsland, run_dyn, run_upd, applyUpd_island]
      split
      · next h => rw [h]
      · rfl
  · simp only [bayPowerDownDoneA, run_dyn, if_neg hd, run_nop]

/-- Settles O4: one lemma for each event of Table 1.8. -/
theorem bayPower : Obligations.BayPower := by
  intro bay s b
  refine ⟨gives_bayOn bay s, gives_bayOff bay s, gives_bayForce_noOp bay s, gives_bayForce_draining bay s,
    gives_bayPowerUpDone bay s, gives_bayClearDone bay s, fun ha => ?_, gives_bayPowerDownDone bay s⟩
  refine gives_of_exec (a := bayClearDoneA bay.val) rfl ?_
  simp only [bayClearDoneA, run_dyn, if_neg (show ¬ (s.bay bay.val).act = .clearing from ha), run_nop]

end Sys2Proof.Machine
end

section
/-!
SUPPORT. Chapter 01: clocks, rails and the stall watchdog; O5.
-/

namespace Sys2Proof.Machine

/-! ### Clocks (R36, R37, R390) -/

/-- FAB_BAY_CLK_LO holds the codes of bays 0 to 7, FAB_BAY_CLK_HI those of bays 8 to 15. -/
theorem bayClk_eq (s : State) (b : Nat) :
    s.bayClk b = s.fld (bayClkReg (decide (8 ≤ b))) (8 * (b % 8) + 7) (8 * (b % 8)) := by
  by_cases h : b < 8
  · simp [State.bayClk, bayClkReg, h, show ¬ 8 ≤ b by omega]
  · simp [State.bayClk, bayClkReg, h, show 8 ≤ b by omega]

theorem gives_islandClockChange (isl : Fin 640) (droop : Option (Fin 37)) (s : State) :
    Gives (.islandClockChange isl droop) s fun t =>
    let x := s.island isl.val
    let d := match droop with
      | some v => v.val
      | none => 36
    (t.island isl.val).clk = (if (s.bay (islandBay isl.val)).st = .off then 0 else
      min (s.fld (bayClkReg (decide (8 ≤ islandBay isl.val))) (8 * (islandBay isl.val % 8) + 7) (8 * (islandBay isl.val % 8)))
        (min x.limCap (min x.limBrake (min x.limTherm d)))) ∧
    (t.island isl.val).limDroop = d ∧ ∀ j, j ≠ isl.val → t.island j = s.island j := by
  refine gives_of_exec (a := islandClockChangeA isl droop) rfl ?_
  simp only [islandClockChangeA, run_dyn, run_upd, applyUpd_island, if_true, Island.lowest, bayClk_eq]
  cases droop with
  | none => exact ⟨rfl, rfl, fun j hj => if_neg hj⟩
  | some v => exact ⟨rfl, rfl, fun j hj => if_neg hj⟩

/-- Byte fields put together, one above the other. -/
def bytesUp (f : Nat → Nat) (n : Nat) : Nat := (List.range n).foldl (fun a i => a + f i * 2 ^ (8 * i)) 0

theorem bytesUp_succ (f : Nat → Nat) (n : Nat) : bytesUp f (n + 1) = bytesUp f n + f n * 2 ^ (8 * n) := by
  simp only [bytesUp, List.range_succ, List.foldl_append, List.foldl_cons, List.foldl_nil]

theorem bytesUp_lt {f : Nat → Nat} (hf : ∀ i, f i < 256) (n : Nat) : bytesUp f n < 2 ^ (8 * n) := by
  induction n with
  | zero => exact Nat.one_pos
  | succ n ih =>
    have hp : 2 ^ (8 * (n + 1)) = 256 * 2 ^ (8 * n) := by rw [Nat.mul_add, Nat.pow_add, Nat.mul_comm]
    have hm : f n * 2 ^ (8 * n) ≤ 255 * 2 ^ (8 * n) := Nat.mul_le_mul_right _ (by have := hf n; omega)
    rw [bytesUp_succ, hp]; omega

/-- Each field reads as what was put there. -/
theorem bits_bytesUp {f : Nat → Nat} (hf : ∀ i, f i < 256) {b n : Nat} (h : b < n) :
    bits (8 * b + 7) (8 * b) (bytesUp f n) = f b := by
  have hw : 8 * b + 7 + 1 - 8 * b = 8 := by omega
  simp only [bits, hw, Nat.shiftRight_eq_div_pow]
  induction n with
  | zero => omega
  | succ n ih =>
    rw [bytesUp_succ]
    by_cases hb : b = n
    · subst hb
      rw [Nat.add_mul_div_right _ _ (by positivity), Nat.div_eq_of_lt (bytesUp_lt hf b), Nat.zero_add]
      exact Nat.mod_eq_of_lt (hf b)
    · have hp : f n * 2 ^ (8 * n) = f n * 2 ^ (8 * (n - b - 1)) * 2 ^ 8 * 2 ^ (8 * b) := by
        rw [Nat.mul_assoc, Nat.mul_assoc, ← Nat.pow_add, ← Nat.pow_add]; congr 2; omega
      rw [hp, Nat.add_mul_div_right _ _ (by positivity), Nat.add_mul_mod_self_right, ih (by omega)]

theorem bayClkReg_props : ∀ hi : Bool, bayClkReg hi < 2 ^ 24 ∧ bayClkReg hi ∉ footLog.regs ∧
    regMask (bayClkReg hi) = 2 ^ 64 - 1 ∧ ∀ b : Fin 8, covers (bayClkReg hi) (8 * b.val + 7) (8 * b.val) = true := by
  decide

/-- Each code of a written clock register is the code written, or 36 if that is more. -/
theorem fld_writeBayClk (hi : Bool) (v : Nat) (s : State) (b : Fin 8) :
    (run (writeBayClk (bayClkReg hi) v) s).fld (bayClkReg hi) (8 * b.val + 7) (8 * b.val) =
      min 36 (bits (8 * b.val + 7) (8 * b.val) v) := by
  obtain ⟨ho, hn, -, hcov⟩ := bayClkReg_props hi
  have wlog : (each (List.range 8) fun b =>
      when' (decide (36 < bits (8 * b + 7) (8 * b) v)) (incA blkFAB 0xFF (bayClkReg hi))).Within footLog :=
    within_each _ fun _ => within_when' (w_incA _ _ _ (by decide) (errOk_none _ _))
  rw [writeBayClk, run_seq, keep_fld wlog _ _ _ _ ho hn, fld_setReg _ _ _ _ _ _ ho (hcov b)]
  exact bits_bytesUp (f := fun i => min 36 (bits (8 * i + 7) (8 * i) v)) (fun i => by omega) b.isLt

theorem gives_bayClkWrite (hi : Bool) (v : Word) (s : State) (b : Fin 8) (ht : s.taken) :
    Gives (.bayClkWrite hi v) s fun t =>
      t.fld (bayClkReg hi) (8 * b.val + 7) (8 * b.val) = min 36 (bits (8 * b.val + 7) (8 * b.val) v.toNat) := by
  refine gives_of_exec (a := bitDo (.bayClkWrite hi v) (regNow (bayClkReg hi) v.toNat (writeBayClk (bayClkReg hi)))) rfl ?_
  obtain ⟨-, -, hmask, -⟩ := bayClkReg_props hi
  have hv : v.toNat &&& regMask (bayClkReg hi) = v.toNat := by
    rw [hmask, Nat.and_two_pow_sub_one_eq_mod, Nat.mod_eq_of_lt v.isLt]
  rw [run_bitDo_taken ht, regNow, run_seq, hv, fld_writeBayClk]

/-- RAIL_SETTLED sets the limits of the islands of one bay. -/
theorem gives_railSettled (bay : Fin 16) (s : State) : Gives (.railSettled bay) s fun t =>
    ∀ i, t.island i = if i ∈ bayIslands bay.val then
        { s.island i with
          limCap := s.fld rPWR_CAP 5 0
          limBrake := if s.flag rPWR_BRAKE 47 then s.fld rPWR_BRAKE 37 32 else 36
          limTherm := (s.island i).wantTherm }
      else s.island i := by
  refine gives_of_exec (a := railSettledA bay) rfl fun i => ?_
  simp only [railSettledA, run_dyn, run_seq]
  rw [keep_island w_settleForced (by decide)]
  refine run_each_idem State.island (g := fun x => { x with
      limCap := s.fld rPWR_CAP 5 0
      limBrake := if s.flag rPWR_BRAKE 47 then s.fld rPWR_BRAKE 37 32 else 36
      limTherm := x.wantTherm }) (fun k s j => ?_) (fun _ => rfl) _ s i
  simp only [modIsland, run_dyn, run_upd, applyUpd_island]
  split
  · next h => rw [h]
  · rfl

/-! ### The end of a command in its course (R164, R305, R373) -/

/-- A completion of a descriptor's command on a running module: the command is gone, the others stay. -/
theorem cmd_completeCode {id p status result detail : Nat} {c : Cmd} {s : State} (hc : s.cmd id = some c)
    (hp : c.pair = some p) (hh : s.halted = false) (j : Nat) :
    (run (completeCode id status result detail) s).cmd j = if j = id then none else s.cmd j := by
  have wb : ∀ a bs, (writeBytes a bs).Within { flds := [.mem], regs := [] } := within_writeBytes (by decide)
  have wl : ∀ a n v, (writeLe a n v).Within { flds := [.mem], regs := [] } := within_writeLe (by decide)
  have wm : ∀ f, (modPair p f).Within { flds := [.que .pair], regs := [] } := fun f => w_modPair p f (by decide)
  simp only [completeCode, run_dyn, hc, run_withSome_some, hh, Bool.false_eq_true, if_false, hp, run_seqs_cons, run_seqs_nil]
  rw [keep_cmd (w_settleTenant _) (by decide), keep_cmd (w_settlePair _) (by decide), run_upd, applyUpd_cmd,
    keep_cmd (wl _ _ _) (by decide), keep_cmd (wl _ _ _) (by decide), keep_cmd (wm _) (by decide), keep_cmd (wb _ _) (by decide)]

/-- A completion brings no command back. -/
theorem cmd_completeCode_none {j : Nat} {s : State} (id status result detail : Nat) (h : s.cmd j = none) :
    (run (completeCode id status result detail) s).cmd j = none := by
  cases hc : s.cmd id with
  | none => simpa [completeCode, hc] using h
  | some c =>
    cases hh : s.halted with
    | true => simpa [completeCode, hc, hh] using h
    | false =>
      cases hp : c.pair with
      | none => simp [completeCode, hc, hh, hp, h]
      | some p => rw [cmd_completeCode hc hp hh, h, ite_self]

/-- The end of a descriptor's command is its completion. -/
theorem run_finishCmd_pair {id h p : Nat} {c : Cmd} {st : Status} {s : State} (hc : s.cmd id = some c)
    (hp : c.pair = some p) :
    run (finishCmd id h st) s = run (complete id st (if c.op = opcEXLOAD ∧ st ≠ .ok then noIdx else h)) s := by
  simp only [finishCmd, run_dyn, hc, run_withSome_some, hp]

/-- The command boundary of a load that is not being released, with no scan waiting: its DRAINING bays leave it. -/
theorem run_boundary_drains {h : Nat} {s : State} (ht : (s.load h).torn = false) (hs : (s.load h).st ≠ .releasing)
    (hw : s.scanWant = []) : run (boundary h) s = run (drainBays h) s := by
  have hw' : (run (drainBays h) s).scanWant = [] := (keep_scanWant (w_drainBays h) (by decide) s).trans hw
  simp only [boundary, run_dyn, ht, Bool.false_eq_true, if_false, hs, run_seqs_cons, run_seqs_nil, hw', List.filter_nil,
    run_each_nil]

/-- A load whose command has ended. -/
def Load.ended (l : Load) : Load :=
  { l with cmd := none, started := false, causes := 0, ends := l.ends + 1, saved := none, relForce := none,
           st := if l.st = .running then (if l.repl.isSome then .replacing else .ready) else l.st }

theorem Load.ended_st_of_running {l : Load} (h : l.st = .running) : l.ended.st ≠ .releasing := by
  simp only [Load.ended, h, if_true]; split <;> simp

/-- What the end of a command does before the load forgets it: queues are cleared, streams start afresh. -/
theorem w_endAs_clears (h : Nat) (c d : Bool) :
    (seqs [when' c (clearLoadQueues h), when' d (streamReset h)]).Within (ft_clearLoadQueues.add ft_streamReset) :=
  .seq (within_when' ((w_clearLoadQueues h).mono (by decide))) (within_when' ((w_streamReset h).mono (by decide)))

/-- A running command of a descriptor that ends, its load not being released and no scan waiting: the load has no command,
and on a running module the command has completed. -/
theorem readers_endAs_running {h id p : Nat} {c : Cmd} {st : Status} {clears : Bool} {s : State}
    (hcmd : (s.load h).cmd = some id) (hc : s.cmd id = some c) (hp : c.pair = some p) (hrun : (s.load h).st = .running)
    (htorn : (s.load h).torn = false) (hscan : s.scanWant = []) :
    let t := run (endAs h st clears) s
    (t.load h).cmd = none ∧ (s.halted = false → t.cmd id = none) := by
  intro t
  have w₁ := w_endAs_clears h clears (decide (0x10 ≤ st.code))
  set s₁ := run (seqs [when' clears (clearLoadQueues h), when' (decide (0x10 ≤ st.code)) (streamReset h)]) s with hs₁
  have wl : (modLoad h Load.ended).Within ft_addCause := w_modLoad _ _ (by decide)
  set s₂ := run (modLoad h Load.ended) s₁ with hs₂
  have hload₂ : s₂.load h = (s.load h).ended := by
    rw [hs₂, modLoad, run_dyn, run_upd, applyUpd_load, if_pos rfl, keep_load w₁ (by decide)]
  have hcmd₂ : s₂.cmd id = some c := by rw [keep_cmd wl (by decide), keep_cmd w₁ (by decide), hc]
  set s₃ := run (finishCmd id h st) s₂ with hs₃
  have hs₃' := run_finishCmd_pair (h := h) (st := st) hcmd₂ hp
  have wc := w_complete id st (if c.op = opcEXLOAD ∧ st ≠ .ok then noIdx else h) 0
  have ww : (when' (decide (0x10 ≤ st.code)) (cancelLoadWork h)).Within ft_settleIq := within_when' (w_cancelLoadWork h)
  set s₄ := run (when' (decide (0x10 ≤ st.code)) (cancelLoadWork h)) s₃ with hs₄
  have wr : (withSome (s.load h).relForce fun id => complete id .ok h).Within ft_completeCode :=
    within_withSome fun id _ => w_complete id .ok h 0
  set s₅ := run (withSome (s.load h).relForce fun id => complete id .ok h) s₄ with hs₅
  have ht : t = run (boundary h) s₅ := by
    simp only [t, endAs, run_dyn, hcmd, run_withSome_some, run_seqs_cons, run_seqs_nil]; rfl
  have hload₅ : s₅.load h = (s.load h).ended := by
    rw [keep_load wr (by decide), keep_load ww (by decide), hs₃, hs₃', keep_load wc (by decide), hload₂]
  have hscan₅ : s₅.scanWant = [] := by
    rw [keep_scanWant wr (by decide), keep_scanWant ww (by decide), hs₃, hs₃', keep_scanWant wc (by decide),
      keep_scanWant wl (by decide), keep_scanWant w₁ (by decide), hscan]
  have htd : t = run (drainBays h) s₅ := ht.trans (run_boundary_drains (by rw [hload₅]; exact htorn)
    (by rw [hload₅]; exact Load.ended_st_of_running hrun) hscan₅)
  constructor
  · rw [htd, keep_load (w_drainBays h) (by decide), hload₅]; rfl
  · intro hh
    have hh₂ : s₂.halted = false := by
      rw [State.halted, keep_haltCause wl (by decide), keep_haltCause w₁ (by decide)]; exact hh
    have hcmd₃ : s₃.cmd id = none := by
      rw [hs₃, hs₃', complete, cmd_completeCode hcmd₂ hp hh₂, if_pos rfl]
    have hcmd₅ : s₅.cmd id = none := by
      rw [hs₅]
      cases (s.load h).relForce with
      | none => exact (keep_cmd ww (by decide) s₃ id).trans hcmd₃
      | some r => exact cmd_completeCode_none _ _ _ _ ((keep_cmd ww (by decide) s₃ id).trans hcmd₃)
    rw [htd, keep_cmd (w_drainBays h) (by decide), hcmd₅]

/-- Likewise of a condition that ends the command in its course. -/
theorem readers_endWith_running {h id p rank : Nat} {c : Cmd} {s : State} (hcmd : (s.load h).cmd = some id)
    (hc : s.cmd id = some c) (hp : c.pair = some p) (hrun : (s.load h).st = .running)
    (htorn : (s.load h).torn = false) (hscan : s.scanWant = []) :
    let t := run (endWith h rank) s
    (t.load h).cmd = none ∧ (s.halted = false → t.cmd id = none) := by
  have wa := w_addCause h rank
  have hload : (run (addCause h rank) s).load h = { s.load h with causes := (s.load h).causes ||| (1 <<< rank) } := by
    simp [addCause, modLoad, hcmd]
  obtain ⟨hnone, hdone⟩ := readers_endAs_running (s := run (addCause h rank) s) (h := h)
    (st := causeStatus ((run (addCause h rank) s).load h).causes) (clears := causeEnds ((run (addCause h rank) s).load h).causes)
    (by rw [hload]; exact hcmd) ((keep_cmd wa (by decide) s id).trans hc) hp (by rw [hload]; exact hrun)
    (by rw [hload]; exact htorn) ((keep_scanWant wa (by decide) s).trans hscan)
  refine ⟨hnone, fun hh => hdone ?_⟩
  rw [State.halted, keep_haltCause wa (by decide)]; exact hh

/-! ### The stall watchdog (R164) -/

theorem run_stallWatchdog_idle {h b : Nat} {s : State} (hs : (s.bay b).load ≠ some h ∨ (s.bay b).st = .scanning) :
    run (stallWatchdogA h b) s = s := by
  simp only [stallWatchdogA, run_dyn, if_pos hs, run_nop]

/-- In an ALLOCATED bay the watchdog logs its fault and ends the command of the load. -/
theorem run_stallWatchdog_cmd {h b id : Nat} {s : State} (hl : (s.bay b).load = some h) (hb : (s.bay b).st = .allocated)
    (hc : (s.load h).cmd = some id) : run (stallWatchdogA h b) s =
      run (endWith h rankSTALL) (run (wdogFault b h Status.stallWatchdog.code) s) := by
  simp [stallWatchdogA, hl, hb, hc]

/-- The watchdog sets EXH_ERR.STALL. -/
theorem flag_wdogFault (b h status : Nat) (s : State) : (run (wdogFault b h status) s).flag rEXH_ERR 2 = true := by
  have hc : (2 : Nat) ≠ 0xFF := by decide
  have hv : covers rEXH_ERR 2 2 = true := by decide
  exact flag_incident_err _ rfl hc hv (by decide) (by decide) _

/-- Settles O5: clause by clause; for the watchdog, by what the end of a running command does. -/
theorem clocksRailsAndStalls : Obligations.ClocksRailsAndStalls := by
  refine ⟨gives_islandClockChange, fun hi v s b ht => gives_bayClkWrite hi v s b ht, gives_railSettled,
    fun load bay s => ⟨fun hs => ?idle, fun id c p hl hb hcmd hc hp hrun htorn hscan => ?ends⟩⟩
  case idle => exact gives_of_exec (a := stallWatchdogA load.val bay.val) rfl (run_stallWatchdog_idle hs)
  case ends =>
    have w := w_wdogFault bay.val load.val Status.stallWatchdog.code
    set s₁ := run (wdogFault bay.val load.val Status.stallWatchdog.code) s with hs₁
    have hload : s₁.load load.val = s.load load.val := keep_load w (by decide) s _
    obtain ⟨hnone, hdone⟩ := readers_endWith_running (s := s₁) (rank := rankSTALL) (hload ▸ hcmd)
      ((keep_cmd w (by decide) s id).trans hc) hp (hload ▸ hrun) (hload ▸ htorn) ((keep_scanWant w (by decide) s).trans hscan)
    refine gives_of_exec (a := stallWatchdogA load.val bay.val) rfl ?_
    rw [run_stallWatchdog_cmd hl hb hcmd]
    refine ⟨(keep_flag (w_endWith _ _) _ _ _ (by decide) (by decide) s₁).trans (flag_wdogFault ..), hnone, fun hh => hdone ?_⟩
    rw [State.halted, keep_haltCause w (by decide)]; exact hh

end Sys2Proof.Machine
end

section
/-!
SUPPORT. Chapter 02: lists of distinct keys, the operand buffer, results that wait at a full port.
-/

namespace Sys2Proof.Machine

/-! ### Lists -/

theorem lget_eq_getElem? {α : Type} (d : α) (l : List α) (i : Nat) : lget d l i = l[i]?.getD d := by
  induction l generalizing i with
  | nil => rfl
  | cons x l ih =>
    cases i with
    | zero => rfl
    | succ i => exact ih i

theorem mem_dedup {α : Type} [DecidableEq α] {x : α} {l : List α} : x ∈ dedup l ↔ x ∈ l := by
  induction l with
  | nil => rfl
  | cons y l ih =>
    by_cases h : x = y
    · simp [dedup, h]
    · simp [dedup, h, ih]

theorem nodup_dedup {α : Type} [DecidableEq α] (l : List α) : (dedup l).Nodup := by
  induction l with
  | nil => exact List.nodup_nil
  | cons y l ih => exact List.nodup_cons.mpr ⟨by simp, ih.filter _⟩

/-- Changes at other keys leave an entry. -/
theorem run_each_other {α β : Type} (read : State → Nat → β) {f : α → Act} {key : α → Nat} {g : α → β → β}
    (hf : ∀ x s j, read (run (f x) s) j = if j = key x then g x (read s j) else read s j)
    {l : List α} {j : Nat} (hj : ∀ x ∈ l, j ≠ key x) (s : State) : read (run (each l f) s) j = read s j := by
  induction l generalizing s with
  | nil => rfl
  | cons x l ih =>
    rw [run_each_cons, ih (fun y hy => hj y (List.mem_cons_of_mem x hy)), hf, if_neg (hj x List.mem_cons_self)]

/-- Changes at distinct keys: each entry is changed once. -/
theorem run_each_nodup {α β : Type} (read : State → Nat → β) {f : α → Act} {key : α → Nat} {g : α → β → β}
    (hf : ∀ x s j, read (run (f x) s) j = if j = key x then g x (read s j) else read s j)
    {l : List α} (hl : (l.map key).Nodup) {x : α} (hx : x ∈ l) (s : State) :
    read (run (each l f) s) (key x) = g x (read s (key x)) := by
  induction l generalizing s with
  | nil => exact absurd hx List.not_mem_nil
  | cons y l ih =>
    obtain ⟨hy, hnd⟩ := List.nodup_cons.mp hl
    rw [run_each_cons]
    rcases List.mem_cons.mp hx with rfl | hxl
    · rw [run_each_other read hf (fun z hz e => hy (List.mem_map.mpr ⟨z, hz, e.symm⟩)), hf, if_pos rfl]
    · rw [ih hnd hxl, hf, if_neg fun e => hy (List.mem_map.mpr ⟨x, hxl, e⟩)]

/-! ### Operands and the program -/

theorem got_modGot (i : Nat) (f : List Token → List Token) (s : State) (j : Nat) :
    (run (modGot i f) s).got j = if j = i then f (s.got j) else s.got j := by
  simp only [modGot, run_dyn, run_upd, applyUpd_got]
  split
  · next h => rw [h]
  · rfl

theorem readCount_of_notMem {rs : Reads} {st : Nat} (h : ∀ r ∈ rs, r.1 ≠ st) : readCount rs st = 0 := by
  have hnone : rs.filter (fun r => decide (r.1 = st)) = [] := by simpa using h
  rw [readCount, hnone]; rfl

/-- The reads take the oldest tokens of each stream (R47). -/
theorem got_dropReads {k st : Nat} (rs : Reads) (h : st < 63) (s : State) :
    (run (dropReads k rs) s).got (k * 64 + st) = (s.got (k * 64 + st)).drop (readCount rs st) := by
  set l := dedup ((rs.map fun r => r.1).filter fun x => decide (x < 63)) with hl
  have hf : ∀ x s j, (run (modGot (k * 64 + x) fun q => q.drop (readCount rs x)) s).got j =
      if j = k * 64 + x then (s.got j).drop (readCount rs x) else s.got j := fun x s j => got_modGot _ _ s j
  by_cases hm : st ∈ l
  · exact run_each_nodup State.got hf ((nodup_dedup _).map fun x y e => by simpa using e) hm s
  · have hnot : ∀ r ∈ rs, r.1 ≠ st := fun r hr e => hm (by
      rw [hl, mem_dedup]
      simp only [List.mem_filter, List.mem_map, decide_eq_true_eq]
      exact ⟨⟨r, hr, e⟩, h⟩)
    rw [readCount_of_notMem hnot, List.drop_zero]
    exact run_each_other State.got hf (fun x hx e => hm (by rwa [show st = x by omega])) s

theorem acell_modAcell (k : Nat) (f : ACell → ACell) (s : State) : (run (modAcell k f) s).acell k = f (s.acell k) := by
  simp [modAcell]

/-- Where the program goes on depends on the loops alone. -/
theorem ACell.goto_pc_congr {a b : ACell} (h : a.loops = b.loops) (pc : Nat) : (a.goto pc).pc = (b.goto pc).pc := by
  show (loopBack (a.loops.length + 1) pc a.loops).1 = (loopBack (b.loops.length + 1) pc b.loops).1
  rw [h]

theorem ACell.next_congr {a b : ACell} (hp : a.pc = b.pc) (hl : a.loops = b.loops) : a.next = b.next := by
  rw [ACell.next, ACell.goto_pc_congr hl, hp, ACell.next]

theorem acell_nextStep_pc (k : Nat) (s : State) : ((run (nextStep k) s).acell k).pc = (s.acell k).next := by
  rw [nextStep, acell_modAcell]; rfl

/-- A step that may run is the present word. -/
theorem word_of_aRuns {s : State} {k op w : Nat} (h : s.aRuns k op = some w) : (s.acell k).word = some w ∧ opOf w = op := by
  simp only [State.aRuns] at h
  split at h
  · split at h
    · next hw =>
      split at h
      · next ho => cases h; exact ⟨hw, ho⟩
      · cases h
    · cases h
  · cases h

/-! ### Results at a full port (R31, R95) -/

theorem run_cellSendN_full {k st : Nat} {s : State} (h : s.portFull k st) (n : Nat) : run (cellSendN n k st) s = s := by
  cases n with
  | zero => rfl
  | succ n =>
    rw [cellSendN, run_dyn]
    split
    · rfl
    · rw [if_pos (show s.credit (k * 2048 + 9 * 64 + st) = 0 from h)]; rfl

/-- Without credit a token waits in the cell. -/
theorem run_cellPut_full {k st : Nat} {s : State} (h : s.portFull k st) (u : Token) :
    run (cellPut k st u) s = applyUpd (.cout (k * 64 + st) (s.cout (k * 64 + st) ++ [u])) s := by
  have hfull : (applyUpd (.cout (k * 64 + st) (s.cout (k * 64 + st) ++ [u])) s).portFull k st := h
  exact run_cellSendN_full hfull _

/-- All result tokens wait in the cell, in order; the cell itself is unchanged. -/
theorem readers_putToks_full {k st : Nat} (hst : st < 63) {s : State} (h : s.portFull k st) (ts : List (Nat × Bool)) :
    let t := run (putToks k st ts) s
    t.cout (k * 64 + st) = s.cout (k * 64 + st) ++ sentToks st (s.acell k).epoch ts ∧ t.acell k = s.acell k := by
  simp only [putToks, if_pos hst, sentToks]
  generalize (List.range ts.length).zip ts = l
  induction l generalizing s with
  | nil => simp
  | cons x l ih =>
    obtain ⟨i, p, q⟩ := x
    have hput := run_cellPut_full h (Tok.make p (decide (i + 1 = ts.length)) kindData st (s.acell k).epoch q)
    set s₁ := applyUpd (.cout (k * 64 + st)
      (s.cout (k * 64 + st) ++ [Tok.make p (decide (i + 1 = ts.length)) kindData st (s.acell k).epoch q])) s with hs₁
    have hcell : s₁.acell k = s.acell k := rfl
    have hcout : s₁.cout (k * 64 + st) =
      s.cout (k * 64 + st) ++ [Tok.make p (decide (i + 1 = ts.length)) kindData st (s.acell k).epoch q] := by simp [hs₁]
    have hfull : s₁.portFull k st := h
    obtain ⟨hc, ha⟩ := ih hfull
    rw [run_each_cons, run_dyn, hput]
    refine ⟨hc.trans ?_, ha.trans hcell⟩
    rw [hcout, hcell, List.append_assoc]; rfl

/-! ### Faults of the arithmetic units (R95, R97) -/

theorem flag_aclFault {k unit n : Nat} {inj : Bool} {st : Status} (hv : covers rACL_ERR n n = true) (hn : n ≠ 0xFF) (s : State) :
    (run (aclFault k unit n inj st) s).flag rACL_ERR n = true := by
  simp only [aclFault, run_dyn, run_seq]
  exact flag_incident_err _ rfl hn hv (by decide) (by decide) _

theorem flag_residueFault {k unit : Nat} {inj : Bool} (hv : covers rACL_ERR unit unit = true) (hn : unit ≠ 0xFF) (s : State) :
    (run (residueFault k unit inj) s).flag rACL_ERR unit = true := by
  rw [residueFault, run_seq, keep_flag (w_siteCause _ _) _ _ _ (by decide) (by decide), flag_aclFault hv hn]

/-- A step's check uses up the injection that is armed for its unit and leaves the rest of the cell. -/
theorem acell_stepFault (k unit : Nat) (mm : Bool) (s : State) : (run (stepFault k unit mm) s).acell k =
    { s.acell k with inj := if (s.acell k).inj = some unit then none else (s.acell k).inj } := by
  have hfound : ∀ s, (run (when' mm (residueFault k unit false)) s).acell k = s.acell k := fun s =>
    keep_acell (within_when' (w_residueFault k unit false)) (by decide) s k
  rw [stepFault, run_dyn, run_seq, hfound, run_when']
  by_cases h : (s.acell k).inj = some unit
  · rw [if_pos (decide_eq_true h), run_seq, acell_modAcell, keep_acell (w_residueFault k unit true) (by decide), if_pos h]
  · simp only [h, decide_false, Bool.false_eq_true, if_false]

theorem flag_stepFault {k unit : Nat} {mm : Bool} (hv : covers rACL_ERR unit unit = true) (hn : unit ≠ 0xFF) (h : mm = true)
    (s : State) : (run (stepFault k unit mm) s).flag rACL_ERR unit = true := by
  rw [stepFault, run_dyn, run_seq, h, run_when', if_pos rfl, flag_residueFault hv hn]

end Sys2Proof.Machine
end

section
/-!
SUPPORT. Chapter 02: vector, special-function and reduction steps; O7.
-/

namespace Sys2Proof.Machine

/-! ### The common part of a step that sends its result -/

/-- What a vector, special-function or reduction step does with the result of its tokens. -/
def sendStep (k unit : Nat) (mm : Bool) (rs : Reads) (sel : Nat) (out : List (Nat × Bool)) (nan : Nat) : Act :=
  seqs [dropReads k rs, stepFault k unit mm, putToks k sel out, countNanSat nan 0, nextStep k]

theorem readers_sendStep {k unit sel nan : Nat} {mm : Bool} {rs : Reads} {out : List (Nat × Bool)} {s : State}
    (hsel : sel < 63) (hfull : s.portFull k sel) (hv : covers rACL_ERR unit unit = true) (hn : unit ≠ 0xFF) :
    let t := run (sendStep k unit mm rs sel out nan) s
    t.cout (k * 64 + sel) = s.cout (k * 64 + sel) ++ sentToks sel (s.acell k).epoch out ∧
    (∀ st, st < 63 → t.got (k * 64 + st) = (s.got (k * 64 + st)).drop (readCount rs st)) ∧
    (t.acell k).pc = (s.acell k).next ∧ (mm = true → t.flag rACL_ERR unit = true) := by
  have wd := w_dropReads k rs
  have wf := w_stepFault k unit mm
  have wp := w_putToks k sel out
  have wc := w_countNanSat nan 0
  have wn := w_nextStep k
  simp only [sendStep, run_seqs_cons, run_seqs_nil]
  set s₁ := run (dropReads k rs) s
  set s₂ := run (stepFault k unit mm) s₁ with hs₂
  have hcell : s₂.acell k =
      { s.acell k with inj := if (s.acell k).inj = some unit then none else (s.acell k).inj } := by
    rw [hs₂, acell_stepFault, keep_acell wd (by decide)]
  have hfull₂ : s₂.portFull k sel := by
    rw [State.portFull, keep_credit wf (by decide), keep_credit wd (by decide)]; exact hfull
  obtain ⟨hcout, hcell₃⟩ := readers_putToks_full hsel hfull₂ out
  refine ⟨?sent, fun st hst => ?taken, ?next, fun hm => ?flag⟩
  case sent =>
    rw [keep_cout wn (by decide), keep_cout wc (by decide), hcout, hcell, keep_cout wf (by decide), keep_cout wd (by decide)]
  case taken =>
    rw [keep_got wn (by decide), keep_got wc (by decide), keep_got wp (by decide), keep_got wf (by decide),
      got_dropReads rs hst]
  case next =>
    rw [acell_nextStep_pc, keep_acell wc (by decide), hcell₃, hcell]
    exact ACell.next_congr rfl rfl
  case flag =>
    rw [keep_flag wn _ _ _ (by decide) (by decide), keep_flag wc _ _ _ (by decide) (by decide),
      keep_flag wp _ _ _ (by decide) (by decide), flag_stepFault hv hn hm]

/-! ### Steps that do nothing -/

theorem run_vecA_idle {k : Nat} {mm : Bool} {s : State}
    (h : s.aRuns k opVEC = none ∨ s.readsWhole k (s.acell k).reads = false) : run (vecA k mm) s = s := by
  rw [vecA, run_dyn]
  cases hw : s.aRuns k opVEC with
  | none => rfl
  | some w => simp [h.resolve_left (by simp [hw])]

theorem run_sfuA_idle {k : Nat} {mm : Bool} {s : State}
    (h : s.aRuns k opSFU = none ∨ s.readsWhole k (s.acell k).reads = false) : run (sfuA k mm) s = s := by
  rw [sfuA, run_dyn]
  cases hw : s.aRuns k opSFU with
  | none => rfl
  | some w => simp [h.resolve_left (by simp [hw])]

theorem run_reduceA_idle {k : Nat} {mm : Bool} {s : State}
    (h : s.aRuns k opREDUCE = none ∨ s.readsWhole k (s.acell k).reads = false) : run (reduceA k mm) s = s := by
  rw [reduceA, run_dyn]
  cases hw : s.aRuns k opREDUCE with
  | none => rfl
  | some w => simp [h.resolve_left (by simp [hw])]

/-! ### What the steps read -/

theorem reads_vec {a : ACell} {w : Nat} (hw : a.word = some w) (ho : opOf w = opVEC) (hu : vecUses (veFn w) = [0, 1]) :
    a.reads = [(veX w, veN w), (veY w, veN w)] := by
  simp [ACell.reads, hw, ho, hu, opVEC, opTILE, lget]

theorem reads_sfu {a : ACell} {w : Nat} (hw : a.word = some w) (ho : opOf w = opSFU) : a.reads = [(sfX w, sfN w)] := by
  simp [ACell.reads, hw, ho, opVEC, opTILE, opSFU]

theorem reads_reduce {a : ACell} {w : Nat} (hw : a.word = some w) (ho : opOf w = opREDUCE) :
    a.reads = [(reX w, reN w)] := by
  simp [ACell.reads, hw, ho, opVEC, opTILE, opSFU, opCONV, opREDUCE]

/-- A single read of a stream takes its oldest tokens. -/
theorem readAll_single {s : State} {k sel n : Nat} (h : sel < 63) :
    s.readAll k [(sel, n)] [] = [(List.range n).map (s.bufTok k sel)] := by
  simp [State.readAll, h, readCount]

theorem readCount_single (sel n : Nat) : readCount [(sel, n)] sel = n := by simp [readCount]

theorem readCount_pair {x y : Nat} (n : Nat) (h : x ≠ y) :
    readCount [(x, n), (y, n)] x = n ∧ readCount [(x, n), (y, n)] y = n := by
  simp [readCount, h, h.symm]

/-! ### Results -/

/-- Result token `i` of a lane function of two streams (R86, R513). -/
def State.laneTok (s : State) (k w : Nat) (bad : Bool) (i : Nat) : Nat × Bool :=
  (fmtPack fFP32 ((List.range 16).map fun l => vecLane (veFn w) (fmtElem fFP32 (s.bufTok k (veX w) i).1 l)
      (lget 0 (fmtUnpack fFP32 (s.bufTok k (veY w) i).1) l) (lget 0 (fmtUnpack fFP32 0) l)),
    (s.bufTok k (veX w) i).2 || (s.bufTok k (veY w) i).2 || bad)

theorem laneTok_or (s : State) (k w : Nat) (b c : Bool) (i : Nat) : s.laneTok k w (b || c) i =
    (fmtPack fFP32 ((List.range 16).map fun l => vecLane (veFn w) (fmtElem fFP32 (s.bufTok k (veX w) i).1 l)
        (lget 0 (fmtUnpack fFP32 (s.bufTok k (veY w) i).1) l) (lget 0 (fmtUnpack fFP32 0) l)),
      (s.bufTok k (veX w) i).2 || (s.bufTok k (veY w) i).2 || b || c) := by
  rw [State.laneTok, ← Bool.or_assoc]

theorem poisonAll_laneTok (s : State) (k w n : Nat) (bad : Bool) :
    poisonAll bad ((List.range n).map (s.laneTok k w false)) = (List.range n).map (s.laneTok k w bad) := by
  simp only [poisonAll, List.map_map, Function.comp_def, State.laneTok, Bool.or_false]
  rfl

/-- Operands on distinct streams take each stream's tokens in turn. -/
theorem vecTok_pair {s : State} {k x y : Nat} (hx : x < 63) (hy : y < 63) (hxy : x ≠ y) (i : Nat) :
    s.vecTok k [x, y] 0 i = s.bufTok k x i ∧ s.vecTok k [x, y] 1 i = s.bufTok k y i := by
  simp [State.vecTok, lget, hx, hy, hxy, hxy.symm]

theorem vecOut_pair {s : State} {k w : Nat} (hx : veX w < 63) (hy : veY w < 63) (hxy : veX w ≠ veY w)
    (hu : vecUses (veFn w) = [0, 1]) (h10 : veFn w ≠ 10) (i : Nat) :
    s.vecOut k w [veX w, veY w] i = [s.laneTok k w false i] := by
  have h11 : veFn w ≠ 11 := fun e => by simp [e, vecUses] at hu
  obtain ⟨e0, e1⟩ := vecTok_pair (s := s) (k := k) hx hy hxy i
  have hus : ∀ f : Nat → Nat × Bool, (List.range [veX w, veY w].length).map f = [f 0, f 1] := fun _ => rfl
  simp only [State.vecOut, State.laneTok, hus, e0, e1, if_neg h10, if_neg h11, lget, List.any_cons, List.any_nil, Bool.or_false]

theorem run_vecA {k w : Nat} {mm : Bool} {s : State} (hw : s.aRuns k opVEC = some w)
    (hr : s.readsWhole k (s.acell k).reads = true) (hx : veX w < 63) (hy : veY w < 63) (hxy : veX w ≠ veY w)
    (hu : vecUses (veFn w) = [0, 1]) (h10 : veFn w ≠ 10) :
    let out := (List.range (veN w)).map (s.laneTok k w (mm || decide ((s.acell k).inj = some 4)))
    run (vecA k mm) s = run (sendStep k 4 mm [(veX w, veN w), (veY w, veN w)] (veOut w) out (nanCount fFP32 out)) s := by
  obtain ⟨hword, hop⟩ := word_of_aRuns hw
  rw [reads_vec hword hop hu] at hr
  have hout : (List.range (veN w)).flatMap (s.vecOut k w [veX w, veY w]) =
      (List.range (veN w)).map (s.laneTok k w false) := by
    rw [funext (vecOut_pair hx hy hxy hu h10), ← List.flatMap_pure_eq_map]; rfl
  simp only [vecA, run_dyn, hw, run_withSome_some, reads_vec hword hop hu, hr, if_true, List.map_cons, List.map_nil, hout,
    sendStep, poisonAll_laneTok, State.stepBad]

theorem run_sfuA {k w : Nat} {mm : Bool} {s : State} (hw : s.aRuns k opSFU = some w)
    (hr : s.readsWhole k (s.acell k).reads = true) (hx : sfX w < 63) :
    let out := (List.range (sfN w)).map fun i =>
      (fmtPack fFP32 ((fmtUnpack fFP32 (s.bufTok k (sfX w) i).1).map (sfuEval (sfFn w))),
        (s.bufTok k (sfX w) i).2 || (mm || decide ((s.acell k).inj = some 5)))
    run (sfuA k mm) s = run (sendStep k 5 mm [(sfX w, sfN w)] (sfOut w) out (nanCount fFP32 out)) s := by
  obtain ⟨hword, hop⟩ := word_of_aRuns hw
  rw [reads_sfu hword hop] at hr
  simp only [sfuA, run_dyn, hw, run_withSome_some, reads_sfu hword hop, hr, if_true, readAll_single hx, lget, sendStep,
    poisonAll, List.map_map, State.stepBad, Function.comp_def]

theorem run_reduceA {k w : Nat} {mm : Bool} {s : State} (hw : s.aRuns k opREDUCE = some w)
    (hr : s.readsWhole k (s.acell k).reads = true) (hx : reX w < 63) (hf : reFn w = 0) (hn : reN w = 1) :
    let p := s.bufTok k (reX w) 0
    let v := reduceTree f32Add 4 (fmtUnpack fFP32 p.1)
    run (reduceA k mm) s = run (sendStep k 4 mm [(reX w, 1)] (reOut w)
      [(fmtPack fFP32 [v], (mm || decide ((s.acell k).inj = some 4)) || p.2)] (b2n (decide (v = canonNan fFP32)))) s := by
  obtain ⟨hword, hop⟩ := word_of_aRuns hw
  rw [reads_reduce hword hop, hn] at hr
  have hone : (List.range 1).map (s.bufTok k (reX w)) = [s.bufTok k (reX w) 0] := rfl
  have hrun : ∀ p : Nat × Bool, reduceRun 0 [p] = some (reduceTree f32Add 4 (fmtUnpack fFP32 p.1)) := fun _ => rfl
  simp only [reduceA, run_dyn, hw, run_withSome_some, reads_reduce hword hop, hn, hr, if_true, readAll_single hx, hone, lget,
    hf, hrun, sendStep, State.stepBad, List.any_cons, List.any_nil, Bool.or_false, run_seqs_cons, run_seqs_nil, run_seq]

/-! ### O7 -/

/-- Settles O7: each step that is whole drops its reads, checks, and sends its result to a port where it waits. -/
theorem vectorSteps : Obligations.VectorSteps := by
  unfold Obligations.VectorSteps
  intro site mm s k a
  refine ⟨fun h => gives_of_exec (a := vecA k mm) rfl (run_vecA_idle h),
    fun h => gives_of_exec (a := sfuA k mm) rfl (run_sfuA_idle h),
    fun h => gives_of_exec (a := reduceA k mm) rfl (run_reduceA_idle h),
    fun w hw hr hx hy hxy hu h10 ho hfull => ?vec, fun w hw hr hx ho hfull => ?sfu,
    fun w hw hr hx ho hf hn hfull => ?reduce⟩
  case vec =>
    refine gives_of_exec (a := vecA k mm) rfl ?_
    rw [run_vecA hw hr hx hy hxy hu h10, funext (laneTok_or s k w mm _)]
    obtain ⟨hsent, hgot, hpc, hflag⟩ := readers_sendStep (unit := 4) ho hfull (by decide) (by decide)
    obtain ⟨hcx, hcy⟩ := readCount_pair (veN w) hxy
    exact ⟨hsent, (hgot _ hx).trans (by rw [hcx]), (hgot _ hy).trans (by rw [hcy]), hpc, hflag⟩
  case sfu =>
    refine gives_of_exec (a := sfuA k mm) rfl ?_
    rw [run_sfuA hw hr hx]
    obtain ⟨hsent, hgot, hpc, hflag⟩ := readers_sendStep (unit := 5) ho hfull (by decide) (by decide)
    exact ⟨hsent, (hgot _ hx).trans (by rw [readCount_single]), hpc, hflag⟩
  case reduce =>
    refine gives_of_exec (a := reduceA k mm) rfl ?_
    rw [run_reduceA hw hr hx hf hn]
    obtain ⟨hsent, hgot, hpc, -⟩ := readers_sendStep (unit := 4) ho hfull (by decide) (by decide)
    exact ⟨hsent, (hgot _ hx).trans (by rw [readCount_single]), hpc⟩

end Sys2Proof.Machine
end

section
/-!
SUPPORT. Chapter 02: tile steps; O6.
-/

namespace Sys2Proof.Machine

/-! ### The entries of a tile -/

theorem mem_range_zip {α : Type} {l : List α} {i : Nat} {x : α} :
    (i, x) ∈ (List.range l.length).zip l ↔ l[i]? = some x := by
  rw [List.mem_iff_getElem?]
  simp only [List.getElem?_zip_eq_some]
  constructor
  · rintro ⟨j, hj, hx⟩
    obtain ⟨-, rfl⟩ := List.getElem?_eq_some_iff.mp hj
    rwa [List.getElem_range]
  · intro h
    obtain ⟨hi, -⟩ := List.getElem?_eq_some_iff.mp h
    exact ⟨i, List.getElem?_range hi, h⟩

/-- Every row with every column, with their places: what `macTile` goes through. -/
def tilePairs (ra rb : List (List Nat)) : List (Nat × Nat × List Nat × List Nat) :=
  ((List.range ra.length).zip ra).flatMap fun (i, x) => ((List.range rb.length).zip rb).map fun (j, y) => (i, j, x, y)

theorem mem_tilePairs {ra rb : List (List Nat)} {i j : Nat} {x y : List Nat} (hx : ra[i]? = some x) (hy : rb[j]? = some y) :
    (i, j, x, y) ∈ tilePairs ra rb :=
  List.mem_flatMap.mpr ⟨(i, x), mem_range_zip.mpr hx, List.mem_map.mpr ⟨(j, y), mem_range_zip.mpr hy, rfl⟩⟩

theorem flatMap_range_rows (m n : Nat) :
    ((List.range m).flatMap fun i => (List.range n).map fun j => i * n + j) = List.range (m * n) := by
  induction m with
  | zero => simp
  | succ m ih => rw [List.range_succ, List.flatMap_append, ih, Nat.succ_mul, List.range_add]; simp

/-- Row by row the entries come in order, so each once. -/
theorem tilePairs_entries (ra rb : List (List Nat)) :
    ((tilePairs ra rb).map fun p => p.1 * rb.length + p.2.1) = List.range (ra.length * rb.length) := by
  have hfst : ∀ l : List (List Nat), ((List.range l.length).zip l).map Prod.fst = List.range l.length := fun l =>
    List.map_fst_zip (by simp)
  rw [← flatMap_range_rows, ← hfst ra, List.flatMap_map, tilePairs, List.map_flatMap]
  refine List.flatMap_congr fun p _ => ?_
  calc _ = (((List.range rb.length).zip rb).map Prod.fst).map fun j => p.1 * rb.length + j := by
        rw [List.map_map, List.map_map]; rfl
    _ = _ := by rw [hfst]

theorem accKey_inj {k b : Nat} : Function.Injective (accKey k b) := fun x y h => by simpa [accKey] using h

theorem acc_modAcc (i : Nat) (f : Acc → Acc) (s : State) (j : Nat) :
    (run (modAcc i f) s).acc j = if j = i then f (s.acc j) else s.acc j := by
  simp only [modAcc, run_dyn, run_upd, applyUpd_acc]
  split
  · next h => rw [h]
  · rfl

/-- Each entry of the bank in use gets the products of its row and its column (R66 to R72). -/
theorem acc_macTile {k : Nat} {c : TileCfg} {a b : Side} {s : State} (h16 : fmtIs16 c.fa = false) {i j : Nat}
    (hi : i < a.rows.length) (hj : j < b.rows.length) :
    (run (macTile k c a b) s).acc (accKey k (s.acell k).bank (i * b.rows.length + j)) =
      dotAcc c (s.acc (accKey k (s.acell k).bank (i * b.rows.length + j)))
        (lget [] a.rows i) (lget [] b.rows j) (lget [] a.xs i) (lget [] b.xs j) := by
  have hnd : ((tilePairs a.rows b.rows).map fun p => accKey k (s.acell k).bank (p.1 * b.rows.length + p.2.1)).Nodup := by
    have := (tilePairs_entries a.rows b.rows ▸ List.nodup_range).map (accKey_inj (k := k) (b := (s.acell k).bank))
    rwa [List.map_map] at this
  have hm := mem_tilePairs (List.getElem?_eq_getElem hi) (List.getElem?_eq_getElem hj)
  have hrow : ∀ (l : List (List Nat)) n (h : n < l.length), lget [] l n = l[n] := fun l n h => by
    rw [lget_eq_getElem?, List.getElem?_eq_getElem h, Option.getD_some]
  rw [hrow _ _ hi, hrow _ _ hj]
  simp only [macTile, run_dyn, h16, Bool.false_eq_true, if_false]
  exact run_each_nodup State.acc (f := fun p => modAcc (accKey k (s.acell k).bank (p.1 * b.rows.length + p.2.1)) fun x =>
      dotAcc c x p.2.2.1 p.2.2.2 (lget [] a.xs p.1) (lget [] b.xs p.2.1))
    (g := fun p x => dotAcc c x p.2.2.1 p.2.2.2 (lget [] a.xs p.1) (lget [] b.xs p.2.1))
    (fun p s j => acc_modAcc _ _ s j) hnd hm s

theorem length_chop {α : Type} (w n : Nat) (l : List α) : (chop w n l).length = n := by
  induction n generalizing l with
  | zero => rfl
  | succ n ih => rw [chop, List.length_cons, ih]

theorem length_sideOf_rows (f sm rows k : Nat) (scales elems : List (Nat × Bool)) :
    (sideOf f sm rows k scales elems).rows.length = rows := by
  rw [sideOf, List.length_map, length_chop]

/-! ### The chain -/

/-- A chain that is not open starts: its entries are cleared. -/
def startChain (k bank n : Nat) (fresh : Bool) : Act :=
  when' fresh (.seq (closeChain k) (each ((List.range n).map (accKey k bank)) fun key =>
    .seq (.upd (.acc key {})) (.upd (.run16At key 0))))

/-- A chain that starts from no PARTIAL input, as `tileWhole` writes it. -/
theorem run_startChain_noInput {α : Type} (k bank n : Nat) (fresh : Bool) (f : α → Act) (s : State) :
    run (when' fresh (seqs [closeChain k, each ((List.range n).map (accKey k bank)) fun key =>
      .seq (.upd (.acc key {})) (.upd (.run16At key 0)), each [] f])) s = run (startChain k bank n fresh) s := by
  cases fresh <;> rfl

def ft_startChain : Foot := { flds := [.cell .acell, .cell .acc, .cell .run16At], regs := [] }

theorem w_startChain (k bank n : Nat) (fresh : Bool) : (startChain k bank n fresh).Within ft_startChain :=
  within_when' (.seq ((w_closeChain k).mono (by decide))
    (within_each _ fun _ => .seq (within_upd ⟨_, rfl, by decide⟩) (within_upd ⟨_, rfl, by decide⟩)))

theorem acc_startChain {k bank n e : Nat} {fresh : Bool} {s : State} (he : e < n) :
    (run (startChain k bank n fresh) s).acc (accKey k bank e) = if fresh then {} else s.acc (accKey k bank e) := by
  rw [startChain, run_when']
  cases fresh with
  | false => rfl
  | true =>
    have hf : ∀ i s j, (run (.seq (.upd (.acc i {})) (.upd (.run16At i 0))) s).acc j = if j = i then {} else s.acc j :=
      fun i s j => applyUpd_acc s i {} j
    rw [if_pos rfl, if_pos rfl, run_seq, run_each_idem State.acc (g := fun _ => {}) hf (fun _ => rfl),
      if_pos (List.mem_map_of_mem (List.mem_range.mpr he))]

/-- The cell whose chain starts. -/
def ACell.started (a : ACell) (fresh : Bool) : ACell :=
  if fresh then
    { a with chainOpen := false, chainLen := 0, chainTiles := 0, chainBad := false, poison := [], heldOps := [], piece := 0 }
  else a

theorem acell_startChain (k bank n : Nat) (fresh : Bool) (s : State) :
    (run (startChain k bank n fresh) s).acell k = (s.acell k).started fresh := by
  rw [startChain, run_when']
  cases fresh with
  | false => rfl
  | true =>
    have hkeep : ∀ l s, (run (each l fun key => .seq (.upd (.acc key {})) (.upd (.run16At key 0))) s).acell k = s.acell k :=
      fun l s => run_each_keep (fun s => s.acell k) (by exact fun _ _ => rfl) l s
    rw [if_pos rfl, run_seq, hkeep, closeChain, acell_modAcell]; rfl

theorem ACell.started_inj (a : ACell) (fresh : Bool) : (a.started fresh).inj = a.inj := by cases fresh <;> rfl
theorem ACell.started_bank (a : ACell) (fresh : Bool) : (a.started fresh).bank = a.bank := by cases fresh <;> rfl
theorem ACell.started_loops (a : ACell) (fresh : Bool) : (a.started fresh).loops = a.loops := by cases fresh <;> rfl
theorem ACell.started_chainLen (a : ACell) :
    (a.started !a.chainOpen).chainLen = if a.chainOpen then a.chainLen else 0 := by
  cases h : a.chainOpen <;> simp [ACell.started]

/-- A K-tile joins the chain: its depth, and the entries that are poisoned. -/
def ACell.longer (a : ACell) (kk : Nat) (bad : List Nat) : ACell :=
  { a with chainOpen := true, chainLen := a.chainLen + kk, chainTiles := a.chainTiles + 1, poison := dedup (a.poison ++ bad) }

/-- With no injection armed and no mismatch found, the check leaves the cell. -/
theorem run_checkUnits_none {k : Nat} {units : List Nat} {s : State} (h : (s.acell k).inj = none) :
    run (checkUnits k units none) s = s := by
  simp [checkUnits, h]

theorem acell_tileDone (k : Nat) (s : State) : (run (tileDone k) s).acell k =
    ({ s.acell k with tile := none, tiles := (s.acell k).tiles + 1 } : ACell).goto ((s.acell k).pc + 1) := by
  rw [tileDone, run_seq, nextStep, acell_modAcell, acell_modAcell]

/-! ### TILE -/

theorem run_tileA_none {k : Nat} {s : State} (h : s.aRuns k opTILE = none) : run (tileA k) s = s := by
  rw [tileA, run_dyn, h, run_withSome_none]

theorem run_tileA_issue {k w : Nat} {s : State} (h : s.aRuns k opTILE = some w) (ht : (s.acell k).tile = none)
    (ha : (s.acell k).acfg.isSome = true) : run (tileA k) s = run (modAcell k fun a => { a with tile := some w }) s := by
  simp [tileA, h, ht, ha]

theorem run_tileA_noAcfg {k w : Nat} {s : State} (h : s.aRuns k opTILE = some w) (ht : (s.acell k).tile = none)
    (ha : (s.acell k).acfg = none) : run (tileA k) s = run (nextStep k) s := by
  simp [tileA, h, ht, ha]

/-! ### TILE_START -/

theorem run_tileStartA_none {k : Nat} {mm : Option AclUnit} {s : State} (h : s.aRuns k opTILE = none) :
    run (tileStartA k mm) s = s := by
  rw [tileStartA, run_dyn, h, run_withSome_none]

theorem run_tileStartA_waits {k w cw : Nat} {mm : Option AclUnit} {s : State} (h : s.aRuns k opTILE = some w)
    (hc : (s.acell k).acfg = some cw)
    (hn : (s.acell k).tile = none ∨ s.readsWhole k (tileReads (tileCfg cw) (s.acell k) w) = false) :
    run (tileStartA k mm) s = s := by
  rcases hn with hn | hn <;> simp [tileStartA, h, hc, hn]

theorem run_tileStartA_whole {k w cw : Nat} {s : State} (h : s.aRuns k opTILE = some w)
    (hc : (s.acell k).acfg = some cw) (ht : (s.acell k).tile.isSome = true)
    (hr : s.readsWhole k (tileReads (tileCfg cw) (s.acell k) w) = true) (hq : (tileCfg cw).quart = false) :
    run (tileStartA k none) s = run (tileWhole k w (tileCfg cw) none) s := by
  simp [tileStartA, h, hc, ht, hr, hq]

/-- A K-tile that would carry the chain beyond its declared length does nothing else (R70, R126). -/
theorem run_tileWhole_overflow {k w : Nat} {c : TileCfg} {s : State} (hp : tiPin w = selNone)
    (h : c.chain < (if (s.acell k).chainOpen then (s.acell k).chainLen else 0) + c.kk) :
    run (tileWhole k w c none) s = run (chainOverflow k) s := by
  have h' : c.chain < (if (s.acell k).chainOpen = false then 0 else (s.acell k).chainLen) + c.kk := by
    cases ho : (s.acell k).chainOpen <;> simpa [ho] using h
  simp [tileWhole, hp, h']

theorem flag_chainOverflow (k : Nat) (s : State) : (run (chainOverflow k) s).flag rACL_ERR 9 = true := by
  have w : (withSome (s.siteLoad k) fun h => endWith h rankOVERFLOW).Within footLoad :=
    within_withSome fun h _ => w_endWith h rankOVERFLOW
  rw [chainOverflow, run_dyn, run_seq, keep_flag w _ _ _ (by decide) (by decide), flag_aclFault (by decide) (by decide)]

/-- What a K-tile without PARTIAL input and without output runs. -/
theorem run_tileWhole_add {k w : Nat} {c : TileCfg} {s : State} (hp : tiPin w = selNone) (ho : tiOut w = selNone)
    (hi : (s.acell k).inj = none)
    (h : (if (s.acell k).chainOpen then (s.acell k).chainLen else 0) + c.kk ≤ c.chain) :
    let rs := tileReads c (s.acell k) w
    let ts := s.readAll k rs []
    let sa := sideOf c.fa c.smA c.m c.kk (lget [] ts 0) (lget [] ts 2)
    let sb := sideOf c.fb c.smB c.n c.kk (lget [] ts 1) (lget [] ts 3)
    run (tileWhole k w c none) s = run (seqs [dropReads k rs, startChain k (s.acell k).bank (c.m * c.n) !(s.acell k).chainOpen,
      macTile k c sa sb, modAcell k fun x => x.longer c.kk (badEntries sa sb), tileDone k]) s := by
  intro rs ts sa sb
  have hchain : ¬ c.chain < (if (s.acell k).chainOpen = false then 0 else (s.acell k).chainLen) + c.kk := by
    cases hc : (s.acell k).chainOpen <;> simpa [hc] using h
  set s₃ := run (macTile k c sa sb) (run (startChain k (s.acell k).bank (c.m * c.n) !(s.acell k).chainOpen) (run (dropReads k rs) s))
    with hs₃
  have hcheck : run (checkUnits k (tileUnits c (s.acell k) false) none) s₃ = s₃ := run_checkUnits_none (by
    rw [hs₃, keep_acell (w_macTile k c sa sb) (by decide), acell_startChain, keep_acell (w_dropReads k rs) (by decide),
      ACell.started_inj, hi])
  simp only [tileWhole, run_dyn, hp, ho, ne_eq, not_true_eq_false, decide_false, Bool.false_or, Bool.false_eq_true, if_false,
    Bool.not_eq_true', hchain, List.length_nil, List.range_zero, List.zip_nil_left, List.filterMap_nil, List.append_nil,
    Bool.false_and, run_seqs_cons, run_startChain_noInput]
  exact congrArg (fun t => run (tileDone k) (run (modAcell k fun x => x.longer c.kk (badEntries sa sb)) t)) hcheck

/-- The parts of the state after that K-tile. -/
theorem readers_addTile {k : Nat} {c : TileCfg} {rs : Reads} {sa sb : Side} {bad : List Nat} {s : State}
    (hm : sa.rows.length = c.m) (hn : sb.rows.length = c.n) (h16 : fmtIs16 c.fa = false) :
    let t := run (seqs [dropReads k rs, startChain k (s.acell k).bank (c.m * c.n) !(s.acell k).chainOpen,
      macTile k c sa sb, modAcell k fun x => x.longer c.kk bad, tileDone k]) s
    (∀ i j, i < c.m → j < c.n → t.acc (accKey k (s.acell k).bank (i * c.n + j)) =
      dotAcc c (if (s.acell k).chainOpen then s.acc (accKey k (s.acell k).bank (i * c.n + j)) else {})
        (lget [] sa.rows i) (lget [] sb.rows j) (lget [] sa.xs i) (lget [] sb.xs j)) ∧
    (∀ st, st < 63 → t.got (k * 64 + st) = (s.got (k * 64 + st)).drop (readCount rs st)) ∧
    t.acell k = ({ ((s.acell k).started !(s.acell k).chainOpen).longer c.kk bad with
      tile := none, tiles := (s.acell k).tiles + 1 } : ACell).goto ((s.acell k).pc + 1) := by
  have wd := w_dropReads k rs
  have ws := w_startChain k (s.acell k).bank (c.m * c.n) !(s.acell k).chainOpen
  have wm := w_macTile k c sa sb
  have wl : (modAcell k fun x => x.longer c.kk bad).Within ft_nextStep := w_modAcell _ _ (by decide)
  have wt := w_tileDone k
  simp only [run_seqs_cons, run_seqs_nil]
  set s₁ := run (dropReads k rs) s with hs₁
  set s₂ := run (startChain k (s.acell k).bank (c.m * c.n) !(s.acell k).chainOpen) s₁ with hs₂
  have hcell : s₂.acell k = (s.acell k).started !(s.acell k).chainOpen := by
    rw [hs₂, acell_startChain, hs₁, keep_acell wd (by decide)]
  have hbank : (s₂.acell k).bank = (s.acell k).bank := by rw [hcell, ACell.started_bank]
  refine ⟨fun i j hi hj => ?acc, fun st hst => ?got, ?cell⟩
  case acc =>
    have he : i * c.n + j < c.m * c.n := calc
      i * c.n + j < i * c.n + c.n := Nat.add_lt_add_left hj _
      _ = (i + 1) * c.n := (Nat.succ_mul i c.n).symm
      _ ≤ c.m * c.n := Nat.mul_le_mul_right _ hi
    have hadd := acc_macTile (s := s₂) (k := k) (c := c) (a := sa) (b := sb) h16 (hm ▸ hi) (hn ▸ hj)
    rw [hbank, hn] at hadd
    rw [keep_acc wt (by decide), keep_acc wl (by decide), hadd, hs₂, acc_startChain he, hs₁, keep_acc wd (by decide)]
    cases (s.acell k).chainOpen <;> rfl
  case got =>
    rw [keep_got wt (by decide), keep_got wl (by decide), keep_got wm (by decide), hs₂, keep_got ws (by decide), hs₁,
      got_dropReads rs hst]
  case cell =>
    rw [acell_tileDone, acell_modAcell, keep_acell wm (by decide), hcell]
    cases (s.acell k).chainOpen <;> rfl

/-- Settles O6: TILE by whether an ACFG is in force; TILE_START by what the K-tile runs. -/
theorem tileKLoop : Obligations.TileKLoop := by
  unfold Obligations.TileKLoop
  intro site s k a
  refine ⟨fun h => ⟨gives_of_exec (a := tileA k) rfl (run_tileA_none h),
    fun mm => gives_of_exec (a := tileStartA k mm) rfl (run_tileStartA_none h)⟩, fun w hw => ⟨fun ht ha => ?issue,
    fun ht ha => ?noAcfg, fun cw hc => ?start⟩⟩
  case issue =>
    refine gives_of_exec (a := tileA k) rfl ?_
    rw [run_tileA_issue hw ht ha, acell_modAcell]
    exact ⟨rfl, rfl⟩
  case noAcfg =>
    refine gives_of_exec (a := tileA k) rfl ?_
    rw [run_tileA_noAcfg hw ht ha]
    exact ⟨by rw [nextStep, acell_modAcell]; exact ht, acell_nextStep_pc k s⟩
  case start =>
    intro c
    refine ⟨fun hn mm => gives_of_exec (a := tileStartA k mm) rfl (run_tileStartA_waits hw hc hn), fun ht hr hq hp => ?_⟩
    intro len ts sa sb
    refine ⟨fun hlen => ?overflow, fun hlen ho h16 hi => ?add⟩
    case overflow =>
      refine gives_of_exec (a := tileStartA k none) rfl ?_
      rw [run_tileStartA_whole hw hc ht hr hq, run_tileWhole_overflow hp hlen]
      exact flag_chainOverflow k s
    case add =>
      refine gives_of_exec (a := tileStartA k none) rfl ?_
      rw [run_tileStartA_whole hw hc ht hr hq, run_tileWhole_add hp ho hi hlen]
      obtain ⟨hacc, hgot, hcell⟩ := readers_addTile (k := k) (rs := tileReads c a w) (bad := badEntries sa sb) (s := s)
        (length_sideOf_rows ..) (length_sideOf_rows ..) h16
      refine ⟨hacc, hgot, ?_⟩
      rw [hcell]
      exact ⟨rfl, congrArg (· + c.kk) (ACell.started_chainLen a), rfl, rfl,
        ACell.goto_pc_congr (ACell.started_loops a _) _, ACell.started_bank a _⟩

end Sys2Proof.Machine
end

section
/-!
SUPPORT. Chapter 03: SRAM lines, their faults and their upkeep; O12.
-/

namespace Sys2Proof.Machine

/-! ### Faults of an S-cell (R127, R129) -/

theorem flag_sclFault {k agent kind space addr status : Nat} {cls : FClass} {injected : Bool}
    (hv : covers rSCL_ERR (kind + 1) (kind + 1) = true) (hn : kind + 1 ≠ 0xFF) (s : State) :
    (run (sclFault k agent kind space addr cls injected status) s).flag rSCL_ERR (kind + 1) = true := by
  simp only [sclFault, run_dyn, run_seqs_cons, run_seqs_nil]
  exact flag_incident_err _ rfl hn hv (by decide) (by decide) _

/-- A use beyond a declared resource sets its SCL_ERR bit, whatever the end of the command brings. -/
theorem flag_sclOverflow {k agent kind space addr : Nat} (hv : covers rSCL_ERR (kind + 1) (kind + 1) = true)
    (hn : kind + 1 ≠ 0xFF) (s : State) :
    (run (sclOverflow k agent kind space addr) s).flag rSCL_ERR (kind + 1) = true := by
  have w : (withSome (s.siteLoad k) fun h => endWith h rankOVERFLOW).Within footLoad :=
    within_withSome fun h _ => w_endWith h rankOVERFLOW
  rw [sclOverflow, run_dyn, run_seq, keep_flag w _ _ _ (by decide) (by decide), flag_sclFault hv hn]

/-- A corrected line counts (R100). -/
theorem fld_lineCorrected (k : Nat) (injected : Bool) (s : State) :
    (run (lineCorrected k injected) s).fld rSCL_CE_CNT 31 0 = sat 32 (s.fld rSCL_CE_CNT 31 0 + 1) := by
  have w := w_incident (p := footLog.add { flds := [], regs := [rSCL_ERR] })
    { cls := .A, blk := blkSCL, code := 0, tenant := s.siteTenant k, locus := keyLocus k, injected := injected }
    (by decide) (show errOk _ blkSCL 0 = true by decide)
  rw [lineCorrected, run_dyn, run_seq, keep_fld w _ _ _ _ (by decide) (by decide), fld_addFld _ _ _ _ _ _ (by decide) (by decide)]

/-! ### Storing a line (R100, R101, R104) -/

theorem scell_modScell (k : Nat) (f : SCell → SCell) (s : State) : (run (modScell k f) s).scell k = f (s.scell k) := by
  simp [modScell]

theorem line_storeLine (k l : Nat) (x : Line) (s : State) (j : Nat) :
    (run (storeLine k l x) s).line j = if j = k * 8192 + l then x else s.line j := by
  rw [storeLine, run_seq, keep_line (w_modScell (p := ft_walkOn) k _ (by decide)) (by decide), run_upd, applyUpd_line]

/-- A stored line has no write-back to wait for. -/
theorem scell_storeLine (k l : Nat) (x : Line) (s : State) : (run (storeLine k l x) s).scell k =
    { s.scell k with writeBack := (s.scell k).writeBack.filter fun y => decide (y ≠ l) } := by
  rw [storeLine, run_seq, scell_modScell]; rfl

/-- What an error that is found in a line changes: registers, the load's causes and the log. -/
def ft_lineFound : Foot :=
  { flds := [.exh .load, .log .logWr, .log .logLost, .log .logIntake, .log .ibiHold, .log .ibiWait, .out .ibis],
    regs := [rINT_CNT, rSCL_CE_CNT, rSCL_ERR, rSCL_ERR_ADDR, rSCL_ERR_SITE] }

/-- A write of a line stores some line, after what its errors bring about, or leaves the state: a part of a poisoned line. -/
theorem run_writeLine_cases (k agent l payload : Nat) (bad : Bool) (mask : Nat) (found : Found) (s : State) :
    run (writeLine k agent l payload bad mask found) s = s ∨
      ∃ a y, a.Within ft_lineFound ∧ run (writeLine k agent l payload bad mask found) s = run (storeLine k l y) (run a s) := by
  simp only [writeLine, run_dyn]
  split
  · exact .inr ⟨.nop, _, .nop, rfl⟩
  · split
    · exact .inr ⟨.nop, _, .nop, rfl⟩
    · split
      · exact .inl rfl
      · split
        · exact .inr ⟨.nop, _, .nop, rfl⟩
        · exact .inr ⟨_, _, (w_lineCorrected ..).mono (by decide), rfl⟩
        · exact .inr ⟨_, _, (w_lineBad ..).mono (by decide), rfl⟩

/-- A write of a line leaves every other line. -/
theorem line_writeLine_other {k agent l payload mask j : Nat} {bad : Bool} {found : Found} {s : State}
    (hj : j ≠ k * 8192 + l) : (run (writeLine k agent l payload bad mask found) s).line j = s.line j := by
  obtain h | ⟨a, y, w, h⟩ := run_writeLine_cases k agent l payload bad mask found s
  · rw [h]
  · rw [h, line_storeLine, if_neg hj, keep_line w (by decide)]

/-- A write of a line leaves the cell's generators. -/
theorem gens_writeLine (k agent l payload : Nat) (bad : Bool) (mask : Nat) (found : Found) (s : State) :
    ((run (writeLine k agent l payload bad mask found) s).scell k).gens = (s.scell k).gens := by
  obtain h | ⟨a, y, w, h⟩ := run_writeLine_cases k agent l payload bad mask found s
  · rw [h]
  · rw [h, scell_storeLine, keep_scell w (by decide)]

theorem line_writeLine_bad (k agent l payload mask : Nat) (found : Found) (s : State) :
    (run (writeLine k agent l payload true mask found) s).line (k * 8192 + l) = { poison := true } := by
  rw [writeLine, run_dyn, if_pos rfl, line_storeLine, if_pos rfl]

theorem line_writeLine_whole (k agent l payload : Nat) (found : Found) (s : State) :
    (run (writeLine k agent l payload false allBits found) s).line (k * 8192 + l) = { data := BitVec.ofNat 512 payload } := by
  rw [writeLine, run_dyn, if_neg Bool.false_ne_true, if_pos rfl, line_storeLine, if_pos rfl]

/-- A part of a poisoned line is not written: the line stays poisoned. -/
theorem line_writeLine_poisoned {k agent l payload mask : Nat} {found : Found} {s : State} (hm : mask ≠ allBits)
    (hp : (s.line (k * 8192 + l)).poison = true) (j : Nat) :
    (run (writeLine k agent l payload false mask found) s).line j = s.line j := by
  simp [writeLine, hm, hp]

/-- A part of a line without error: the masked bits are the payload's. -/
theorem line_writeLine_part {k agent l payload mask : Nat} {s : State} (hm : mask ≠ allBits)
    (hp : (s.line (k * 8192 + l)).poison = false) (hi : (s.line (k * 8192 + l)).inj = 0) :
    (run (writeLine k agent l payload false mask .clean) s).line (k * 8192 + l) =
      { data := BitVec.ofNat 512 (((s.line (k * 8192 + l)).data.toNat &&& (allBits - mask)) ||| (payload &&& mask)) } := by
  have hfinds : ∀ y : Line, y.inj = 0 → y.finds .clean = .clean := fun y hy => by simp [Line.finds, hy]
  simp only [writeLine, run_dyn, if_neg hm, hp, Bool.false_eq_true, if_false, ite_self, hi]
  rw [hfinds _ (by split <;> simp [hi])]
  exact (line_storeLine ..).trans (if_pos rfl)

/-! ### Upkeep (R100, R102, R103, R130) -/

/-- CORRECTION_WRITEBACK. -/
theorem gives_correctionWriteback (site : Site) (line : Fin 6144) (s : State) :
    Gives (.correctionWriteback site line) s fun t =>
      if (s.scell (siteKey site)).writeBack.contains line.val then
        t.line (siteKey site * 8192 + line.val) = { s.line (siteKey site * 8192 + line.val) with inj := 0 } ∧
        (t.scell (siteKey site)).writeBack.contains line.val = false ∧
        ∀ j, j ≠ siteKey site * 8192 + line.val → t.line j = s.line j
      else t = s := by
  refine gives_of_exec (a := correctionWritebackA (siteKey site) line.val) rfl ?_
  rw [correctionWritebackA, run_dyn, run_ite]
  split
  · refine ⟨(line_storeLine ..).trans (if_pos rfl), ?_, fun j hj => (line_storeLine ..).trans (if_neg hj)⟩
    simp [scell_storeLine]
  · rfl

/-- A corrected line waits for its write-back. -/
def waitBack (k l : Nat) : Act :=
  modScell k fun c => { c with writeBack := (c.writeBack.filter fun y => decide (y ≠ l)) ++ [l] }

/-- What the scrub does with the line it reads. -/
def scrubLine (k l : Nat) (x : Line) (found : Found) : Act :=
  if x.poison then .nop
  else match x.finds found with
    | .clean => .nop
    | .corrected => .seq (lineCorrected k (decide (0 < x.inj))) (waitBack k l)
    | .uncorrectable =>
      .seq (sclFault k 3 sclSCRUBUE 0 l .A (decide (0 < x.inj)) 0xFF) (storeLine k l { poison := true })

/-- SRAM_SCRUB goes to the next row and treats the line of the present one. -/
theorem run_sramScrubA (k bank : Nat) (found : Found) (s : State) :
    let row := lget 0 (s.scell k).scrubRow bank
    let l := 16 * row + bank
    run (sramScrubA k bank found) s =
      if s.flag rSCL_SCRUB 16 = true ∧ keyIsA k = false ∧ (s.bay (keyBay k)).powered = true ∧
          (s.bay (keyBay k)).st ≠ .scanning then
        run (scrubLine k l (s.line (k * 8192 + l)) found)
          (run (modScell k fun c => { c with scrubRow := lset c.scrubRow bank ((row + 1) % 384) }) s)
      else s := by
  intro row l
  simp only [sramScrubA, run_dyn, run_ite, Bool.and_eq_true, Bool.not_eq_true', decide_eq_true_eq, and_assoc]
  rfl

/-- Whatever the scrub finds, the rows stay. -/
theorem scrubRow_scrubLine (k l : Nat) (x : Line) (found : Found) (s : State) :
    ((run (scrubLine k l x found) s).scell k).scrubRow = (s.scell k).scrubRow := by
  unfold scrubLine
  split
  · rfl
  · split
    · rfl
    · rw [run_seq, waitBack, scell_modScell, keep_scell (w_lineCorrected ..) (by decide)]
    · rw [run_seq, scell_storeLine, keep_scell (w_sclFault ..) (by decide)]

theorem readers_scrubLine_corrected {k l : Nat} {x : Line} {found : Found} {s : State} (hp : x.poison = false)
    (hf : x.finds found = .corrected) :
    let t := run (scrubLine k l x found) s
    t.fld rSCL_CE_CNT 31 0 = sat 32 (s.fld rSCL_CE_CNT 31 0 + 1) ∧ (t.scell k).writeBack.contains l = true ∧
      ∀ j, t.line j = s.line j := by
  have ww : (waitBack k l).Within ft_walkOn := w_modScell _ _ (by decide)
  have hrun : run (scrubLine k l x found) s = run (waitBack k l) (run (lineCorrected k (decide (0 < x.inj))) s) := by
    simp [scrubLine, hp, hf]
  rw [hrun]
  refine ⟨?_, ?_, fun j => ?_⟩
  · rw [keep_fld ww _ _ _ _ (by decide) (by decide), fld_lineCorrected]
  · simp [waitBack, scell_modScell]
  · rw [keep_line ww (by decide), keep_line (w_lineCorrected ..) (by decide)]

theorem readers_scrubLine_bad {k l : Nat} {x : Line} {found : Found} {s : State} (hp : x.poison = false)
    (hf : x.finds found = .uncorrectable) :
    let t := run (scrubLine k l x found) s
    t.line (k * 8192 + l) = { poison := true } ∧ t.flag rSCL_ERR 2 = true := by
  have hrun : run (scrubLine k l x found) s = run (storeLine k l { poison := true })
      (run (sclFault k 3 sclSCRUBUE 0 l .A (decide (0 < x.inj)) 0xFF) s) := by
    simp [scrubLine, hp, hf]
  rw [hrun]
  exact ⟨(line_storeLine ..).trans (if_pos rfl), (keep_flag (w_storeLine ..) _ _ _ (by decide) (by decide) _).trans
    (flag_sclFault (by decide) (by decide) s)⟩

/-- SRAM_SCRUB. -/
theorem gives_sramScrub (site : Site) (bank : Fin 16) (found : Found) (s : State) :
    let k := siteKey site
    let row := lget 0 (s.scell k).scrubRow bank.val
    let l := 16 * row + bank.val
    let x := s.line (k * 8192 + l)
    Gives (.sramScrub site bank found) s fun t =>
      if s.flag rSCL_SCRUB 16 = true ∧ keyIsA k = false ∧ (s.bay (keyBay k)).powered = true ∧
          (s.bay (keyBay k)).st ≠ .scanning then
        (t.scell k).scrubRow = lset (s.scell k).scrubRow bank.val ((row + 1) % 384) ∧
        (x.poison = false → x.finds found = .corrected →
          t.fld rSCL_CE_CNT 31 0 = sat 32 (s.fld rSCL_CE_CNT 31 0 + 1) ∧ (t.scell k).writeBack.contains l = true ∧
          t.line (k * 8192 + l) = x) ∧
        (x.poison = false → x.finds found = .uncorrectable →
          t.line (k * 8192 + l) = { poison := true } ∧ t.flag rSCL_ERR 2 = true)
      else t = s := by
  intro k row l x
  refine gives_of_exec (a := sramScrubA k bank.val found) rfl ?_
  rw [run_sramScrubA]
  split
  · have ww : (modScell k fun c => { c with scrubRow := lset c.scrubRow bank.val ((row + 1) % 384) }).Within ft_walkOn :=
      w_modScell _ _ (by decide)
    refine ⟨?_, fun hp hf => ?_, fun hp hf => readers_scrubLine_bad hp hf⟩
    · rw [scrubRow_scrubLine, scell_modScell]
    · obtain ⟨hcnt, hwait, hline⟩ := readers_scrubLine_corrected (k := k) (l := l) hp hf
      exact ⟨hcnt.trans (by rw [keep_fld ww _ _ _ _ (by decide) (by decide)]), hwait,
        (hline _).trans (keep_line ww (by decide) s _)⟩
  · rfl

/-- An INTERVAL below 256 is taken as 256; ENABLE stands above it. -/
theorem bits_scrubWord (v : Nat) : let w := place 16 16 (bits 16 16 v) + max 256 (bits 15 0 v)
    bits 15 0 w = max 256 (bits 15 0 v) ∧ bits 16 16 w = bits 16 16 v := by
  have h0 : bits 15 0 v < 2 ^ 16 := Nat.mod_lt _ (by decide)
  have h1 : bits 16 16 v < 2 ^ 1 := Nat.mod_lt _ (by decide)
  simp only [place, bits, Nat.shiftLeft_eq, Nat.shiftRight_eq_div_pow] at *
  omega

/-- A bit is the field of its own. -/
theorem flag_eq_fld (s : State) (off i : Nat) : s.flag off i = decide (s.fld off i i = 1) := by
  have h : i + 1 - i = 1 := by omega
  simp only [State.flag, State.fld, bits, h, Nat.pow_one, Nat.testBit_eq_decide_div_mod_eq, Nat.shiftRight_eq_div_pow]

theorem bits_and_mask {hi lo m : Nat} (h : bits hi lo m = 2 ^ (hi + 1 - lo) - 1) (v : Nat) :
    bits hi lo (v &&& m) = bits hi lo v := by
  refine Nat.eq_of_testBit_eq fun j => ?_
  have hm := congrArg (fun n => n.testBit j) h
  simp only [testBit_bits, Nat.testBit_two_pow_sub_one, Nat.testBit_and] at hm ⊢
  cases hj : decide (j < hi + 1 - lo) <;> simp_all

/-- SCL_SCRUB_WRITE. -/
theorem gives_sclScrubWrite (v : Word) (s : State) (ht : s.taken) : Gives (.sclScrubWrite v) s fun t =>
    t.fld rSCL_SCRUB 15 0 = max 256 (bits 15 0 v.toNat) ∧ t.flag rSCL_SCRUB 16 = v.toNat.testBit 16 := by
  refine gives_of_exec (a := regDo (.sclScrubWrite v) rSCL_SCRUB v.toNat (writeScrub blkSCL rSCL_SCRUB)) rfl ?_
  have wlog : ∀ u, (when' (decide (bits 15 0 u < 256)) (incA blkSCL 0xFF rSCL_SCRUB)).Within footLog := fun u =>
    within_when' (w_incA _ _ _ (by decide) (errOk_none _ _))
  obtain ⟨hlow, htop⟩ := bits_scrubWord (v.toNat &&& regMask rSCL_SCRUB)
  have hfld : ∀ hi lo s, covers rSCL_SCRUB hi lo = true →
      (run (writeScrub blkSCL rSCL_SCRUB (v.toNat &&& regMask rSCL_SCRUB)) s).fld rSCL_SCRUB hi lo =
        bits hi lo (place 16 16 (bits 16 16 (v.toNat &&& regMask rSCL_SCRUB)) +
          max 256 (bits 15 0 (v.toNat &&& regMask rSCL_SCRUB))) := fun hi lo s hc => by
    rw [writeScrub, run_seq, keep_fld (wlog _) _ _ _ _ (by decide) (by decide), fld_setReg _ _ _ _ _ _ (by decide) hc]
  rw [regDo, run_bitDo_taken ht, regNow, run_seq, flag_eq_fld, hfld _ _ _ (by decide), hfld _ _ _ (by decide), hlow, htop,
    bits_and_mask (by decide), bits_and_mask (by decide)]
  exact ⟨rfl, by simp [bits, Nat.testBit_eq_decide_div_mod_eq, Nat.shiftRight_eq_div_pow]⟩

/-- A write to SCL_INJ that names a line of an S-cell in an ALLOCATED bay flips its bits; any other leaves all lines. -/
theorem line_writeSclInj (u : Nat) (s : State) :
    let k := mkKey (bits 23 23 u) (bits 22 17 u) (bits 16 11 u)
    let key := k * 8192 + bits 36 24 u
    let t := run (writeSclInj u) s
    if u.testBit 63 = true ∧ bits 22 17 u ≤ 39 ∧ bits 16 11 u ≤ 31 ∧ keyIsA k = false ∧ bits 36 24 u ≤ 6143 ∧
        (s.line key).poison = false ∧ (s.bay (keyBay k)).st = .allocated then
      t.line key = { s.line key with inj := min 2 ((s.line key).inj + (if u.testBit 62 = true then 2 else 1)) } ∧
      ∀ j, j ≠ key → t.line j = s.line j
    else ∀ j, t.line j = s.line j := by
  intro k key t
  have ht : t = run (writeSclInj u) s := rfl
  have wlog : (incA blkSCL 0xFF rSCL_INJ).Within footLog := w_incA _ _ _ (by decide) (errOk_none _ _)
  rw [writeSclInj, run_dyn] at ht
  split
  · next h =>
    obtain ⟨harm, hrow, hcol, hs, hl, hp, hb⟩ := h
    have hok : ¬ (39 < bits 22 17 u ∨ 31 < bits 16 11 u ∨ keyIsA k = true ∨ 6143 < bits 36 24 u ∨
        (s.line key).poison = true ∨ (s.bay (keyBay k)).st ≠ .allocated) := by
      simp only [not_or, not_lt, hrow, hcol, hs, hl, hp, hb]; simp
    rw [harm, Bool.not_true, if_neg Bool.false_ne_true, if_neg hok, run_upd] at ht
    exact ⟨by rw [ht, applyUpd_line, if_pos rfl], fun j hj => by rw [ht, applyUpd_line, if_neg hj]⟩
  · next h =>
    intro j
    cases harm : u.testBit 63 with
    | false =>
      rw [harm, Bool.not_false, if_pos rfl] at ht
      rw [ht]; rfl
    | true =>
      have hbad : 39 < bits 22 17 u ∨ 31 < bits 16 11 u ∨ keyIsA k = true ∨ 6143 < bits 36 24 u ∨
          (s.line key).poison = true ∨ (s.bay (keyBay k)).st ≠ .allocated := by
        simpa only [harm, true_and, not_and_or, not_le, Bool.not_eq_false] using h
      rw [harm, Bool.not_true, if_neg Bool.false_ne_true, if_pos hbad] at ht
      rw [ht]; exact keep_line wlog (by decide) s j

/-- Settles O12: each command by what it stores, and by the registers it writes. -/
theorem sramUpkeep : Obligations.SramUpkeep := by
  unfold Obligations.SramUpkeep
  refine ⟨gives_correctionWriteback, gives_sramScrub, gives_sclScrubWrite, fun v s ht => ?_⟩
  intro u k key
  refine gives_of_exec (a := regDo (.sclInj v) rSCL_INJ v.toNat writeSclInj) rfl ?_
  rw [regDo, run_bitDo_taken ht, regNow, run_seq]
  have wlog : (when' (decide (v.toNat &&& (2 ^ 64 - 1 - regMask rSCL_INJ) ≠ 0))
      (incA (rSCL_INJ / 0x10000) 0xFF rSCL_INJ)).Within footLog :=
    within_when' (w_incA _ _ _ (by decide) (errOk_none _ _))
  have h := line_writeSclInj u (run (when' (decide (v.toNat &&& (2 ^ 64 - 1 - regMask rSCL_INJ) ≠ 0))
    (incA (rSCL_INJ / 0x10000) 0xFF rSCL_INJ)) s)
  simpa only [keep_line wlog (by decide), keep_bay wlog (by decide)] using h

end Sys2Proof.Machine
end

section
/-!
SUPPORT. Chapter 03: generators at a point of their walk, and the fabric walks; O9 and O10.
-/

namespace Sys2Proof.Machine

/-! ### A generator's context -/

theorem lget_lset_same {α : Type} (d : α) {l : List α} {i : Nat} (h : i < l.length) (v : α) : lget d (lset l i v) i = v := by
  induction l generalizing i with
  | nil => exact absurd h (Nat.not_lt_zero i)
  | cons x l ih =>
    cases i with
    | zero => rfl
    | succ i => exact ih (Nat.lt_of_succ_lt_succ h)

/-- In state `s`, `x` is the context of generator `g` of site `k`, which stands at the point of `x`. -/
structure GenCtx.AtPoint (x : GenCtx) (s : State) (k g : Nat) : Prop where
  site : x.k = k
  gen : x.g = g
  present : g < (s.scell k).gens.length
  idx : (lget {} (s.scell k).gens g).idx = x.idx

theorem GenCtx.AtPoint.congr {x : GenCtx} {s t : State} {k g : Nat} (h : x.AtPoint s k g)
    (e : (t.scell k).gens = (s.scell k).gens) : x.AtPoint t k g := ⟨h.site, h.gen, e ▸ h.present, e ▸ h.idx⟩

/-- What a generator that may run has: a program's point, and for FAB_RD an empty output. -/
theorem of_genReady {s : State} {k g mode : Nat} {x : GenCtx} (h : s.genReady k g mode = some x) :
    x.AtPoint s k g ∧ (mode = modeFABRD → s.cout (k * 64 + agStream x.p) = []) := by
  simp only [State.genReady] at h
  split at h
  · next p load hprog hload =>
    split at h
    · split at h
      · next hc =>
        have hg : g < (s.scell k).gens.length := by
          by_contra hn
          have hd : lget ({} : Gen) (s.scell k).gens g = {} := by
            rw [lget_eq_getElem?, List.getElem?_eq_none (by omega), Option.getD_none]
          rw [hd] at hprog
          cases hprog
        simp only [Bool.and_eq_true, decide_eq_true_eq] at hc
        obtain ⟨-, hout⟩ := hc
        cases h
        exact ⟨⟨rfl, rfl, hg, rfl⟩, fun hm => hout.resolve_right fun hn => hn hm⟩
      · cases h
    · cases h
  · cases h

/-- The walk goes on to the next point. -/
theorem idx_on {x : GenCtx} {s : State} {k g : Nat} (h : x.AtPoint s k g) :
    (lget {} ((run x.on s).scell k).gens g).idx = x.nextIdx := by
  obtain ⟨rfl, rfl, hg, hidx⟩ := h
  rw [GenCtx.on, walkOn, scell_modScell]
  simp only
  rw [lget_lset_same _ hg, GenCtx.nextIdx, hidx]
  cases advance x.counts x.idx 0 <;> dsimp only <;> split <;> rfl

/-- Within its plan the event takes place (R126). -/
theorem planned_of_within {x : GenCtx} (a : Act) (h : overPlan x.p x.idx = none) : x.planned a = a := by
  simp only [GenCtx.planned, h]

/-- Beyond its plan the event is a fault (R126, R127). -/
theorem flag_planned_over {x : GenCtx} {l : Nat} (a : Act) (h : overPlan x.p x.idx = some l) (s : State) :
    (run (x.planned a) s).flag rSCL_ERR 6 = true := by
  simp only [GenCtx.planned, h]
  exact flag_sclOverflow (kind := 5) (by decide) (by decide) s

/-! ### FAB_RD -/

theorem run_fabRdA_none {k g : Nat} {found : Found} {s : State} (h : s.genReady k g modeFABRD = none) :
    run (fabRdA k g found) s = s := by
  rw [fabRdA, run_dyn, h, run_withSome_none]

theorem flag_fabRdA_over {k g l : Nat} {found : Found} {s : State} {x : GenCtx}
    (h : s.genReady k g modeFABRD = some x) (ho : overPlan x.p x.idx = some l) :
    (run (fabRdA k g found) s).flag rSCL_ERR 6 = true := by
  rw [fabRdA, run_dyn, h, run_withSome_some]
  exact flag_planned_over _ ho s

/-- FAB_RD at a point of the element pass: what it runs. -/
theorem run_fabRdA_elems {k g : Nat} {found : Found} {s : State} {x : GenCtx} (h : s.genReady k g modeFABRD = some x)
    (ho : overPlan x.p x.idx = none) (hs : x.scale = none) :
    let m := validMask (agFmt x.p) (s.walkValid k x.p x.idx)
    let last := unitLast x.counts x.p x.idx
    run (fabRdA k g found) s =
      if m = 0 then run (.seq (x.send 0 last false) x.on) s
      else if x.inSlot x.line = false then run (x.overSram x.line.toNat) s
      else run (readLine k g x.line.toNat found fun d q => .seq (x.send (d &&& m) last q) x.on) s := by
  simp only [fabRdA, run_dyn, h, run_withSome_some, planned_of_within _ ho, hs, run_ite, Bool.not_eq_true']

theorem run_readLine_poison {k agent l : Nat} {found : Found} {f : Nat → Bool → Act} {s : State}
    (h : (s.line (k * 8192 + l)).poison = true) : run (readLine k agent l found f) s = run (f 0 true) s := by
  simp [readLine, h]

theorem run_readLine_clean {k agent l : Nat} {found : Found} {f : Nat → Bool → Act} {s : State}
    (hp : (s.line (k * 8192 + l)).poison = false) (hf : (s.line (k * 8192 + l)).finds found = .clean) :
    run (readLine k agent l found f) s = run (f (s.line (k * 8192 + l)).data.toNat false) s := by
  simp [readLine, hp, hf]

/-- A generator without credit sends its token to wait, and its walk goes on. -/
theorem readers_sendOn {x : GenCtx} {s : State} {k g : Nat} (hx : x.AtPoint s k g) (hfull : s.portFull k (agStream x.p))
    (hout : s.cout (k * 64 + agStream x.p) = []) (payload : Nat) (last bad : Bool) :
    let t := run (.seq (x.send payload last bad) x.on) s
    t.cout (k * 64 + agStream x.p) = [Tok.make payload last kindData (agStream x.p) (s.scell k).epoch bad] ∧
      (lget {} (t.scell k).gens g).idx = x.nextIdx ∧ ∀ j, t.line j = s.line j := by
  have hsend : run (x.send payload last bad) s = applyUpd (.cout (k * 64 + agStream x.p)
      [Tok.make payload last kindData (agStream x.p) (s.scell k).epoch bad]) s := by
    rw [GenCtx.send, run_dyn, hx.site, run_cellPut_full hfull, hout, List.nil_append]
  simp only [run_seq, hsend]
  refine ⟨?_, idx_on (hx.congr rfl), fun j => keep_line (w_GenCtx_on x) (by decide) _ j⟩
  rw [keep_cout (w_GenCtx_on x) (by decide), applyUpd_cout, if_pos rfl]

/-! ### FAB_WR -/

theorem run_fabWrA_none {k g : Nat} {found : Found} {s : State} (h : s.genReady k g modeFABWR = none) :
    run (fabWrA k g found) s = s := by
  rw [fabWrA, run_dyn, h, run_withSome_none]

theorem run_fabWrA_noToken {k g : Nat} {found : Found} {s : State} {x : GenCtx} (h : s.genReady k g modeFABWR = some x)
    (ht : s.got (k * 64 + agStream x.p) = []) : run (fabWrA k g found) s = s := by
  simp [fabWrA, h, ht]

theorem flag_fabWrA_over {k g l : Nat} {found : Found} {s : State} {x : GenCtx}
    (h : s.genReady k g modeFABWR = some x) (ho : overPlan x.p x.idx = some l)
    (ht : s.got (k * 64 + agStream x.p) ≠ []) : (run (fabWrA k g found) s).flag rSCL_ERR 6 = true := by
  obtain ⟨tok, rest, e⟩ := List.exists_cons_of_ne_nil ht
  simp only [fabWrA, run_dyn, h, run_withSome_some, e]
  exact flag_planned_over _ ho s

/-- FAB_WR at a point of the element pass, inside the slot or without valid elements: the token is taken, its valid bits
are written, the walk goes on. -/
theorem run_fabWrA_elems {k g : Nat} {found : Found} {s : State} {x : GenCtx} {tok : Token} {rest : List Token}
    (h : s.genReady k g modeFABWR = some x) (ho : overPlan x.p x.idx = none) (hs : x.scale = none)
    (ht : s.got (k * 64 + agStream x.p) = tok :: rest) :
    let m := validMask (agFmt x.p) (s.walkValid k x.p x.idx)
    (m = 0 ∨ x.inSlot x.line = true) → run (fabWrA k g found) s =
      run x.on (run (when' (decide (m ≠ 0)) (writeLine k g x.line.toNat tok.payload.toNat (Tok.poison tok) m found))
        (applyUpd (.got (k * 64 + agStream x.p) rest) s)) := by
  intro m hin
  have hok : ¬ (m ≠ 0 ∧ (!x.inSlot x.line) = true) := fun ⟨hm, hn⟩ => by
    rw [hin.resolve_left hm] at hn; exact Bool.false_ne_true hn
  simp only [fabWrA, run_dyn, h, run_withSome_some, ht, planned_of_within _ ho, hs]
  rw [if_neg hok]
  simp only [run_seqs_cons, run_seqs_nil, run_upd]
  rfl

/-- What every token of FAB_WR brings beside its line: it is taken, and the walk goes on. -/
theorem readers_writeOn {x : GenCtx} {s : State} {k g : Nat} (hx : x.AtPoint s k g) (i : Nat) (rest : List Token)
    (l payload m : Nat) (bad : Bool) (found : Found) :
    let u := run (when' (decide (m ≠ 0)) (writeLine k g l payload bad m found)) (applyUpd (.got i rest) s)
    let t := run x.on u
    t.got i = rest ∧ (lget {} (t.scell k).gens g).idx = x.nextIdx ∧ ∀ j, t.line j = u.line j := by
  intro u t
  have wm : (when' (decide (m ≠ 0)) (writeLine k g l payload bad m found)).Within ft_writeLine :=
    within_when' (w_writeLine ..)
  have hgens : (u.scell k).gens = (s.scell k).gens := by
    simp only [u, run_when']
    split
    · exact gens_writeLine ..
    · rfl
  refine ⟨?_, idx_on (hx.congr hgens), fun j => keep_line (w_GenCtx_on x) (by decide) _ j⟩
  rw [keep_got (w_GenCtx_on x) (by decide), keep_got wm (by decide), applyUpd_got, if_pos rfl]

/-! ### T1_RD and T1_WR without a point inside the plan -/

theorem run_t1RdA_none {k g : Nat} {found : Found} {s : State} (h : s.genReady k g modeT1RD = none) :
    run (t1RdA k g found) s = s := by
  rw [t1RdA, run_dyn, h, run_withSome_none]

theorem run_t1WrA_none {k g : Nat} {found : Found} {s : State} (h : s.genReady k g modeT1WR = none) :
    run (t1WrA k g found) s = s := by
  rw [t1WrA, run_dyn, h, run_withSome_none]

theorem flag_t1RdA_over {k g l : Nat} {found : Found} {s : State} {x : GenCtx}
    (h : s.genReady k g modeT1RD = some x) (ho : overPlan x.p x.idx = some l) :
    (run (t1RdA k g found) s).flag rSCL_ERR 6 = true := by
  rw [t1RdA, run_dyn, h, run_withSome_some]
  exact flag_planned_over _ ho s

theorem flag_t1WrA_over {k g l : Nat} {found : Found} {s : State} {x : GenCtx}
    (h : s.genReady k g modeT1WR = some x) (ho : overPlan x.p x.idx = some l) :
    (run (t1WrA k g found) s).flag rSCL_ERR 6 = true := by
  rw [t1WrA, run_dyn, h, run_withSome_some]
  exact flag_planned_over _ ho s

/-! ### O9 and O10 -/

/-- Settles O9: nothing where the generator may not run, a fault where its plan or its slot ends. -/
theorem generatorsIdle : Obligations.GeneratorsIdle := by
  unfold Obligations.GeneratorsIdle
  intro site gen found s k
  refine ⟨fun h => gives_of_exec (a := fabRdA k gen.val found) rfl (run_fabRdA_none h),
    fun h => gives_of_exec (a := fabWrA k gen.val found) rfl (run_fabWrA_none h),
    fun h => gives_of_exec (a := t1RdA k gen.val found) rfl (run_t1RdA_none h),
    fun h => gives_of_exec (a := t1WrA k gen.val found) rfl (run_t1WrA_none h),
    fun x l ho => ⟨fun h => gives_of_exec (a := fabRdA k gen.val found) rfl (flag_fabRdA_over h ho), fun h => ?fabWr,
      fun h => gives_of_exec (a := t1RdA k gen.val found) rfl (flag_t1RdA_over h ho),
      fun h => gives_of_exec (a := t1WrA k gen.val found) rfl (flag_t1WrA_over h ho)⟩,
    fun x h ho hs hm hin => ?outside⟩
  case fabWr =>
    refine gives_of_exec (a := fabWrA k gen.val found) rfl ?_
    split
    · next ht => exact run_fabWrA_noToken h ht
    · next ht => exact flag_fabWrA_over h ho ht
  case outside =>
    refine gives_of_exec (a := fabRdA k gen.val found) rfl ?_
    rw [run_fabRdA_elems h ho hs, if_neg hm, if_pos hin]
    exact flag_sclOverflow (kind := 3) (by decide) (by decide) s

/-- Settles O10: FAB_RD by what its line holds; FAB_WR by what its token and its valid bits are. -/
theorem fabricWalks : Obligations.FabricWalks := by
  unfold Obligations.FabricWalks
  intro site gen found s x k ho hs m st last key
  refine ⟨fun h hfull => ?read, fun tok rest h ht => ?write⟩
  case read =>
    obtain ⟨hx, hout⟩ := of_genReady h
    have hsent := readers_sendOn hx hfull (hout rfl)
    have hrun := run_fabRdA_elems (found := found) h ho hs
    refine ⟨fun hm => ?invalid, fun hm hin hp hf => ?clean, fun hm hin hp => ?poisoned⟩
    all_goals
      refine gives_of_exec (a := fabRdA k gen.val found) rfl ?_
      rw [hrun]
    case invalid =>
      rw [if_pos hm]
      obtain ⟨hcout, hidx, -⟩ := hsent 0 last false
      exact ⟨hcout, hidx⟩
    case clean =>
      rw [if_neg hm, if_neg (by simp [hin]), run_readLine_clean hp hf]
      obtain ⟨hcout, hidx, hline⟩ := hsent ((s.line key).data.toNat &&& m) last false
      exact ⟨hcout, hidx, hline key⟩
    case poisoned =>
      rw [if_neg hm, if_neg (by simp [hin]), run_readLine_poison hp, Nat.zero_and]
      exact (hsent 0 last true).1
  case write =>
    obtain ⟨hx, -⟩ := of_genReady h
    obtain ⟨hgot, hidx, hline⟩ :=
      readers_writeOn hx (k * 64 + st) rest x.line.toNat tok.payload.toNat m (Tok.poison tok) found
    have hrun := run_fabWrA_elems (found := found) h ho hs ht
    refine ⟨fun hm => ?none, fun hm hin => ?valid⟩
    case none =>
      refine gives_of_exec (a := fabWrA k gen.val found) rfl ?_
      rw [hrun (.inl hm)]
      refine ⟨hgot, fun j => (hline j).trans ?_, hidx⟩
      rw [run_when', if_neg (by simp [hm])]; rfl
    case valid =>
      refine gives_of_exec (a := fabWrA k gen.val found) rfl ?_
      rw [hrun (.inr hin)]
      have hwrite : ∀ a t, run (when' (decide (m ≠ 0)) a) t = run a t := fun a t => by
        rw [run_when', if_pos (decide_eq_true hm)]
      replace hline := fun j => (hline j).trans (congrArg (State.line · j) (hwrite _ _))
      refine ⟨hgot, hidx, fun j hj => (hline j).trans (line_writeLine_other hj), fun hb => ?_, fun hb hw => ?_,
        fun hb hw hp => ?_, fun hb hw hp hi hf => ?_⟩
      all_goals
        refine (hline key).trans ?_
        rw [hb]
      · exact line_writeLine_bad ..
      · rw [hw, line_writeLine_whole, BitVec.ofNat_toNat, BitVec.setWidth_eq]
      · exact line_writeLine_poisoned (s := applyUpd (.got (k * 64 + st) rest) s) hw hp key
      · rw [hf]; exact line_writeLine_part (s := applyUpd (.got (k * 64 + st) rest) s) hw hp hi

end Sys2Proof.Machine
end

section
/-!
SUPPORT. Chapter 03: the walks between T1 and the S-cells' lines; O11.
-/

namespace Sys2Proof.Machine

/-! ### Beats of 32 bytes -/

/-- The addresses and validities of `n` consecutive valid bytes from `b`. -/
def validRun (b n : Nat) : List (Int × Bool) := (List.range n).map fun i => (((b + i : Nat) : Int), true)

theorem filter_validRun (b n : Nat) : (validRun b n).filter (fun p => p.2) = validRun b n :=
  List.filter_eq_self.mpr (by simp [validRun])

/-- The first address of the beat of a byte. -/
theorem beat_natCast (a : Nat) : ((a : Nat) : Int) / 32 * 32 = ((a / 32 * 32 : Nat) : Int) := by omega

theorem mem_validBeats_run {b n : Nat} {a : Int} :
    a ∈ validBeats (validRun b n) ↔ ∃ i, i < n ∧ a = (((b + i) / 32 * 32 : Nat) : Int) := by
  rw [validBeats, filter_validRun]
  simp only [beatsOf, mem_dedup, validRun, List.map_map, List.mem_map, List.mem_range, Function.comp_apply, beat_natCast]
  exact ⟨fun ⟨i, hi, e⟩ => ⟨i, hi, e.symm⟩, fun ⟨i, hi, e⟩ => ⟨i, hi, e.symm⟩⟩

theorem bad_beat (s : State) (a : Nat) : s.bad (a / 32 * 32) = s.bad a := by
  rw [State.bad, State.bad, Nat.mul_div_cancel _ (by decide)]

/-- A beat of the run carries poison exactly when one of its bytes does. -/
theorem any_bad_validBeats (s : State) (b n : Nat) :
    (validBeats (validRun b n)).any (fun a => s.bad a.toNat) = true ↔ ∃ i, i < n ∧ s.bad (b + i) = true := by
  simp only [List.any_eq_true, mem_validBeats_run]
  constructor
  · rintro ⟨a, ⟨i, hi, rfl⟩, hb⟩
    exact ⟨i, hi, by rwa [Int.toNat_natCast, bad_beat] at hb⟩
  · rintro ⟨i, hi, hb⟩
    exact ⟨_, ⟨i, hi, rfl⟩, by rwa [Int.toNat_natCast, bad_beat]⟩

/-! ### T1_RD -/

/-- T1_RD of a token with valid elements, inside slot and share, whose beats are read without a new error. -/
theorem run_t1RdA_inside {k g : Nat} {s : State} {x : GenCtx} (h : s.genReady k g modeT1RD = some x)
    (ho : overPlan x.p x.idx = none) (hm : (s.t1Work x).2.1 ≠ 0) (hin : x.inSlot (s.t1Work x).2.2 = true)
    (hov : overShare (s.shareOf x) (validBeats (s.t1Work x).1) = none) :
    let w := s.t1Work x
    run (t1RdA k g .clean) s = run x.onward (run (storeLine k w.2.2.toNat
      (if (validBeats w.1).any (fun a => s.bad a.toNat) then { poison := true }
       else { data := BitVec.ofNat 512 (leNat (w.1.map fun p => if p.2 then s.byte p.1.toNat else 0) &&& w.2.1) })) s) := by
  intro w
  have hfresh : ∀ c : Bool, (if c then Found.clean else Found.clean) = .clean := fun c => ite_self _
  simp only [t1RdA, run_dyn, h, run_withSome_some, planned_of_within _ ho, if_neg hm, hin, hov, hfresh]
  simp only [Bool.not_true, Bool.false_eq_true, if_false, run_seqs_cons, run_seqs_nil, run_when', reduceCtorEq, decide_false,
    Bool.or_false]
  split <;> rfl

/-- Storing a line and going on changes that line alone, and no byte of memory. -/
theorem readers_storeOnward (x : GenCtx) (k l : Nat) (y : Line) (s : State) :
    let t := run x.onward (run (storeLine k l y) s)
    t.line (k * 8192 + l) = y ∧ (∀ j, j ≠ k * 8192 + l → t.line j = s.line j) ∧ ∀ a, t.byte a = s.byte a := by
  have wo := w_GenCtx_onward x
  refine ⟨?_, fun j hj => ?_, fun a => ?_⟩
  · rw [keep_line wo (by decide), line_storeLine, if_pos rfl]
  · rw [keep_line wo (by decide), line_storeLine, if_neg hj]
  · rw [keep_byte wo (by decide), keep_byte (w_storeLine ..) (by decide)]

/-! ### Poison of a beat -/

theorem bad_markBad (a n : Nat) (v : Bool) (s : State) (j : Nat) : (run (markBad a n v) s).bad j =
    if a / 32 ≤ j / 32 ∧ j / 32 < (a + n + 31) / 32 then v else s.bad j := by
  have hf : ∀ k s q, (run (.upd (.bad k v)) s).bad (32 * q) = if q = k then v else s.bad (32 * q) := fun k s q => by
    rw [run_upd, applyUpd_bad, Nat.mul_div_cancel_left _ (by decide)]
  have hall := run_each_idem (fun s q => s.bad (32 * q)) (f := fun k => .upd (.bad k v)) (g := fun _ => v) hf (fun _ => rfl)
    ((List.range ((a + n + 31) / 32 - a / 32)).map fun i => a / 32 + i) s (j / 32)
  have hmem : j / 32 ∈ ((List.range ((a + n + 31) / 32 - a / 32)).map fun i => a / 32 + i) ↔
      a / 32 ≤ j / 32 ∧ j / 32 < (a + n + 31) / 32 := by
    simp only [List.mem_map, List.mem_range]
    exact ⟨fun ⟨i, hi, e⟩ => by omega, fun h => ⟨j / 32 - a / 32, by omega, by omega⟩⟩
  simp only [hmem, Nat.mul_comm 32, bad_beat] at hall
  exact hall

/-! ### The two beats of a whole token -/

/-- Byte `i` of a line. -/
def lineByte (d i : Nat) : Nat := bits (8 * i + 7) (8 * i) d

theorem lineByte_allBits {i : Nat} (h : i < 64) : lineByte allBits i = 255 := by
  have h255 : 255 = 2 ^ 8 - 1 := rfl
  refine Nat.eq_of_testBit_eq fun j => ?_
  rw [lineByte, testBit_bits, allBits, Nat.testBit_two_pow_sub_one, h255, Nat.testBit_two_pow_sub_one]
  by_cases hj : j < 8
  · simp [show j < 8 * i + 7 + 1 - 8 * i by omega, show 8 * i + j < 512 by omega, hj]
  · simp [show ¬ j < 8 * i + 7 + 1 - 8 * i by omega, hj]

theorem range_beat : ∀ q : Fin 2, (List.range 64).filter (fun i => decide (i / 32 = q.val)) =
    (List.range 32).map (fun i => 32 * q.val + i) := by decide

/-- Of 64 consecutive bytes from a whole beat on, those of beat `q`. -/
theorem filter_beat {α : Type} {b : Nat} (hb : b % 32 = 0) (q : Fin 2) (f : Nat → α) {addr : α → Int}
    (ha : ∀ i, addr (f i) = ((b + i : Nat) : Int)) :
    ((List.range 64).map f).filter (fun p => decide (addr p / 32 * 32 = ((b + 32 * q.val : Nat) : Int))) =
      (List.range 32).map fun i => f (32 * q.val + i) := by
  have hp : ∀ i ∈ List.range 64, ((fun p => decide (addr p / 32 * 32 = ((b + 32 * q.val : Nat) : Int))) ∘ f) i =
      decide (i / 32 = q.val) := fun i _ => by
    simp only [Function.comp_apply, ha, beat_natCast, Int.natCast_inj, decide_eq_decide]
    omega
  rw [List.filter_map, List.filter_congr hp, range_beat, List.map_map]
  rfl

theorem dedup_map {α β : Type} [DecidableEq α] [DecidableEq β] {f : α → β} (hf : Function.Injective f) (l : List α) :
    dedup (l.map f) = (dedup l).map f := by
  induction l with
  | nil => rfl
  | cons x l ih =>
    have hp : ∀ y ∈ dedup l, ((fun z => decide (z ≠ f x)) ∘ f) y = decide (y ≠ x) := fun y _ => by
      simp [hf.eq_iff]
    simp only [List.map_cons, dedup, ih, List.filter_map, List.filter_congr hp]

/-- 64 bytes from a whole beat on are two whole beats. -/
theorem validBeats_whole {b : Nat} (hb : b % 32 = 0) :
    validBeats (validRun b 64) = [((b : Nat) : Int), ((b + 32 : Nat) : Int)] := by
  have haddr : ((validRun b 64).map fun p => p.1).map (fun a => a / 32 * 32) =
      ((List.range 64).map fun i => i / 32).map fun q => ((b + 32 * q : Nat) : Int) := by
    simp only [validRun, List.map_map]
    refine List.map_congr_left fun i _ => ?_
    simp only [Function.comp_apply, beat_natCast, Int.natCast_inj]
    omega
  have hbeats : dedup ((List.range 64).map fun i => i / 32) = [0, 1] := by decide
  rw [validBeats, filter_validRun, beatsOf, haddr, dedup_map (fun p q e => by simpa using e), hbeats]
  rfl

theorem zip_validRun (b n : Nat) : (List.range (validRun b n).length).zip (validRun b n) =
    (List.range n).map fun i => (i, ((b + i : Nat) : Int), true) := by
  rw [validRun, List.length_map, List.length_range]
  have h := List.zip_map' (f := id) (g := fun i => (((b + i : Nat) : Int), true)) (l := List.range n)
  rwa [List.map_id] at h

/-- The bytes that T1_WR writes of a whole line: address, byte, mask. -/
def wholeBytes (b d : Nat) : List (Int × Nat × Nat) :=
  (List.range 64).map fun i => (((b + i : Nat) : Int), lineByte d i, 255)

theorem wholeBytes_eq (b d : Nat) : ((List.range 64).map fun i => (i, ((b + i : Nat) : Int), true)).map
    (fun p => (p.2.1, bits (8 * p.1 + 7) (8 * p.1) d, bits (8 * p.1 + 7) (8 * p.1) allBits)) = wholeBytes b d := by
  rw [wholeBytes, List.map_map]
  refine List.map_congr_left fun i hi => ?_
  exact congrArg (fun m => (((b + i : Nat) : Int), lineByte d i, m)) (lineByte_allBits (List.mem_range.mp hi))

/-! ### T1_WR -/

/-- The beats of a poisoned line: marked, their bytes zero. -/
def badBeat (a : Int) : Act :=
  .seq (markBad a.toNat 32 true) (each (List.range 32) fun i => .upd (.byte (a.toNat + i) 0))

/-- What T1_WR writes of a line that is read as `d`, poisoned or not, into two whole beats of a copy. -/
def writeWhole (x : GenCtx) (k copy b d : Nat) (bad : Bool) : Act :=
  seqs [
    dirtyCopy copy,
    if bad then seqs [siteCause k rankPOISON, each [((b : Nat) : Int), ((b + 32 : Nat) : Int)] badBeat,
      modObj copy fun o => { o with poisoned := true }]
    else each [((b : Nat) : Int), ((b + 32 : Nat) : Int)] fun a => writeBeat k copy a (wholeBytes b d) .clean,
    x.onward]

/-- T1_WR of a whole line to whole beats inside slot and share of a bound copy: no beat is read, the line is. -/
theorem run_t1WrA_whole {k g b copy : Nat} {o : Obj} {s : State} {x : GenCtx} (h : s.genReady k g modeT1WR = some x)
    (ho : overPlan x.p x.idx = none) (hb : b % 32 = 0) (hw : (s.t1Work x).1 = validRun b 64)
    (hm : (s.t1Work x).2.1 = allBits) (hne : (s.t1Work x).2.1 ≠ 0) (hin : x.inSlot (s.t1Work x).2.2 = true)
    (hov : overShare (s.shareOf x) (validBeats (s.t1Work x).1) = none) (hbound : s.bound x = some (copy, o)) :
    run (t1WrA k g .clean) s =
      run (readLine k g (s.t1Work x).2.2.toNat .clean (writeWhole x k copy b)) s := by
  rw [hw, validBeats_whole hb] at hov
  rw [hm] at hne
  simp only [t1WrA, run_dyn, h, run_withSome_some, planned_of_within _ ho, hw, hm, if_neg hne, hin, zip_validRun,
    validBeats_whole hb, hov, hbound, Bool.not_true, Bool.false_eq_true, if_false, ite_self, wholeBytes_eq]
  rfl

/-- Store one byte under its mask. -/
def putByte (p : Int × Nat × Nat) : Act :=
  .dyn fun s => .upd (.byte p.1.toNat (mixByte (s.byte p.1.toNat) (BitVec.ofNat 8 p.2.1) p.2.2))

theorem byte_putByte (p : Int × Nat × Nat) (s : State) (j : Nat) : (run (putByte p) s).byte j =
    if j = p.1.toNat then mixByte (s.byte j) (BitVec.ofNat 8 p.2.1) p.2.2 else s.byte j := by
  rw [putByte, run_dyn, run_upd, applyUpd_byte]
  split
  · next h => rw [h]
  · rfl

theorem byte_each_putByte {l : List (Int × Nat × Nat)} (hl : (l.map fun p => p.1.toNat).Nodup) {p : Int × Nat × Nat}
    (hp : p ∈ l) (s : State) : (run (each l putByte) s).byte p.1.toNat =
      mixByte (s.byte p.1.toNat) (BitVec.ofNat 8 p.2.1) p.2.2 :=
  run_each_nodup State.byte (g := fun p old => mixByte old (BitVec.ofNat 8 p.2.1) p.2.2) byte_putByte hl hp s

theorem byte_each_putByte_other {l : List (Int × Nat × Nat)} {j : Nat} (h : ∀ p ∈ l, j ≠ p.1.toNat) (s : State) :
    (run (each l putByte) s).byte j = s.byte j :=
  run_each_other State.byte (g := fun p old => mixByte old (BitVec.ofNat 8 p.2.1) p.2.2) byte_putByte h s

theorem mixByte_whole (old : Byte) (v : Nat) : mixByte old (BitVec.ofNat 8 v) 255 = BitVec.ofNat 8 v := by
  have hand : (BitVec.ofNat 8 v).toNat &&& 255 = (BitVec.ofNat 8 v).toNat := by
    rw [show 255 = 2 ^ 8 - 1 from rfl, Nat.and_two_pow_sub_one_eq_mod, Nat.mod_eq_of_lt (BitVec.isLt _)]
  rw [mixByte, hand, Nat.sub_self, Nat.and_zero, Nat.zero_or, BitVec.ofNat_toNat, BitVec.setWidth_eq]

/-- The bytes of beat `q` of a whole line. -/
def beatBytes (b d q : Nat) : List (Int × Nat × Nat) :=
  (List.range 32).map fun i => (((b + (32 * q + i) : Nat) : Int), lineByte d (32 * q + i), 255)

/-- A whole beat is written at once: its poison goes, its bytes are stored (R109, R178). -/
theorem run_writeBeat_whole {k copy b d : Nat} {found : Found} (hb : b % 32 = 0) (q : Fin 2) (s : State) :
    run (writeBeat k copy ((b + 32 * q.val : Nat) : Int) (wholeBytes b d) found) s =
      run (each (beatBytes b d q.val) putByte) (run (markBad (b + 32 * q.val) 32 false) s) := by
  have hmine : (wholeBytes b d).filter (fun p => decide (p.1 / 32 * 32 = ((b + 32 * q.val : Nat) : Int))) =
      beatBytes b d q.val :=
    filter_beat hb q (fun i => (((b + i : Nat) : Int), lineByte d i, 255)) (addr := fun p => p.1) fun _ => rfl
  have hfull : (beatBytes b d q.val).filter (fun p => decide (p.2.2 = 255)) = beatBytes b d q.val :=
    List.filter_eq_self.mpr (by simp [beatBytes])
  have hput : (beatBytes b d q.val).filter (fun p => decide (p.2.2 ≠ 0)) = beatBytes b d q.val :=
    List.filter_eq_self.mpr (by simp [beatBytes])
  have hlen : (beatBytes b d q.val).length = 32 := by rw [beatBytes, List.length_map, List.length_range]
  simp only [writeBeat, run_dyn, hmine, hfull, hput, hlen, decide_true, if_true, run_seq, Int.toNat_natCast]
  rfl

/-- Writing beat `q` of a whole line stores its bytes without poison and leaves those of the other beat. -/
theorem readers_writeBeat {k copy b d : Nat} {found : Found} (hb : b % 32 = 0) (q : Fin 2) (s : State) :
    let t := run (writeBeat k copy ((b + 32 * q.val : Nat) : Int) (wholeBytes b d) found) s
    (∀ i, t.byte (b + i) = if i / 32 = q.val then BitVec.ofNat 8 (lineByte d i) else s.byte (b + i)) ∧
      ∀ i, t.bad (b + i) = if i / 32 = q.val then false else s.bad (b + i) := by
  intro t
  have ht : t = _ := run_writeBeat_whole hb q s
  have wput : (each (beatBytes b d q.val) putByte).Within ft_setObj :=
    within_each _ fun _ => .dyn fun _ => within_upd ⟨_, rfl, by decide⟩
  refine ⟨fun i => ?_, fun i => ?_⟩
  · rw [ht, ← keep_byte (w_markBad (b + 32 * q.val) 32 false) (by decide) s]
    split
    · next hi =>
      have hmem : (((b + i : Nat) : Int), lineByte d i, 255) ∈ beatBytes b d q.val :=
        List.mem_map.mpr ⟨i % 32, List.mem_range.mpr (Nat.mod_lt _ (by decide)), by rw [show 32 * q.val + i % 32 = i by omega]⟩
      have hnd : ((beatBytes b d q.val).map fun p => p.1.toNat).Nodup := by
        rw [beatBytes, List.map_map]
        exact List.nodup_range.map fun x y e => by
          simp only [Function.comp_apply, Int.toNat_natCast] at e
          omega
      exact (byte_each_putByte hnd hmem _).trans (mixByte_whole ..)
    · next hi =>
      refine byte_each_putByte_other (fun p hp => ?_) _
      obtain ⟨r, hr, rfl⟩ := List.mem_map.mp hp
      have := List.mem_range.mp hr
      simp only [Int.toNat_natCast]
      omega
  · have hbeat : ((b + 32 * q.val) / 32 ≤ (b + i) / 32 ∧ (b + i) / 32 < (b + 32 * q.val + 32 + 31) / 32) ↔ i / 32 = q.val := by
      omega
    rw [ht, keep_bad wput (by decide), bad_markBad]
    simp only [hbeat]

/-- A whole line is stored, without poison. -/
theorem readers_writeWhole {x : GenCtx} {k copy b d : Nat} (hb : b % 32 = 0) (s : State) :
    let t := run (writeWhole x k copy b d false) s
    ∀ i, i < 64 → t.byte (b + i) = BitVec.ofNat 8 (lineByte d i) ∧ t.bad (b + i) = false := by
  intro t i hi
  have wo := w_GenCtx_onward x
  simp only [t, writeWhole, Bool.false_eq_true, if_false, run_seqs_cons, run_seqs_nil, run_each_cons, run_each_nil,
    keep_byte wo (by decide), keep_bad wo (by decide)]
  obtain ⟨hbyte₀, hbad₀⟩ := readers_writeBeat (k := k) (copy := copy) (d := d) (found := .clean) hb 0 (run (dirtyCopy copy) s)
  obtain ⟨hbyte₁, hbad₁⟩ := readers_writeBeat (k := k) (copy := copy) (d := d) (found := .clean) hb 1
    (run (writeBeat k copy ((b : Nat) : Int) (wholeBytes b d) .clean) (run (dirtyCopy copy) s))
  refine ⟨(hbyte₁ i).trans ?_, (hbad₁ i).trans ?_⟩
  · split
    · rfl
    · exact (hbyte₀ i).trans (if_pos (show i / 32 = 0 by omega))
  · split
    · rfl
    · exact (hbad₀ i).trans (if_pos (show i / 32 = 0 by omega))

theorem bad_badBeat {b : Nat} (hb : b % 32 = 0) (s : State) (j : Nat) :
    (run (badBeat ((b : Nat) : Int)) s).bad j = if j / 32 = b / 32 then true else s.bad j := by
  have wput : (each (List.range 32) fun i => .upd (.byte ((b : Int).toNat + i) 0)).Within ft_setObj :=
    within_each _ fun _ => within_upd ⟨_, rfl, by decide⟩
  have hbeat : (b / 32 ≤ j / 32 ∧ j / 32 < (b + 32 + 31) / 32) ↔ j / 32 = b / 32 := by omega
  rw [badBeat, run_seq, keep_bad wput (by decide), Int.toNat_natCast, bad_markBad]
  simp only [hbeat]

/-- A poisoned line poisons both beats. -/
theorem bad_writeWhole_poisoned {x : GenCtx} {k copy b d : Nat} (hb : b % 32 = 0) (s : State) {i : Nat} (hi : i < 64) :
    (run (writeWhole x k copy b d true) s).bad (b + i) = true := by
  simp only [writeWhole, if_true, run_seqs_cons, run_seqs_nil, run_each_cons, run_each_nil,
    keep_bad (w_GenCtx_onward x) (by decide), keep_bad (w_modObj copy _) (by decide),
    bad_badBeat hb, bad_badBeat (show (b + 32) % 32 = 0 by omega)]
  rw [show (b + i) / 32 = if i < 32 then b / 32 else (b + 32) / 32 by split <;> omega]
  split <;> simp

/-- Settles O11: T1_RD stores one line; T1_WR reads one and writes two whole beats. -/
theorem t1Walks : Obligations.T1Walks := by
  unfold Obligations.T1Walks
  intro site gen s x b n k ho hn w key hw hm hin hov
  refine ⟨fun h hb => ?read, fun h hb => ?readPoisoned, fun h hbound hb hn64 hall => ?write⟩
  case read =>
    have hclean : (validBeats w.1).any (fun a => s.bad a.toNat) = false := by
      rw [hw, ← Bool.not_eq_true]
      exact fun hbad => by
        obtain ⟨i, hi, e⟩ := (any_bad_validBeats s b n).mp hbad
        rw [hb i hi] at e; cases e
    have hbytes : (w.1.map fun p => if p.2 then s.byte p.1.toNat else 0) = (List.range n).map fun i => s.byte (b + i) := by
      rw [hw, List.map_map]; rfl
    refine gives_of_exec (a := t1RdA k gen.val .clean) rfl ?_
    rw [run_t1RdA_inside h ho hm hin hov, if_neg (by rw [hclean]; exact Bool.false_ne_true), hbytes]
    exact readers_storeOnward ..
  case readPoisoned =>
    have hbad : (validBeats w.1).any (fun a => s.bad a.toNat) = true := by
      rw [hw]; exact (any_bad_validBeats s b n).mpr hb
    refine gives_of_exec (a := t1RdA k gen.val .clean) rfl ?_
    rw [run_t1RdA_inside h ho hm hin hov, if_pos hbad]
    exact (readers_storeOnward ..).1
  case write =>
    obtain ⟨⟨copy, o⟩, hcopy⟩ := Option.isSome_iff_exists.mp hbound
    subst hn64
    have hrun := run_t1WrA_whole h ho hb hw hall hm hin hov hcopy
    refine ⟨fun hp hf => ?clean, fun hp => ?poisoned⟩
    all_goals
      refine gives_of_exec (a := t1WrA k gen.val .clean) rfl ?_
      rw [hrun]
    case clean => rw [run_readLine_clean hp hf]; exact readers_writeWhole hb s
    case poisoned => rw [run_readLine_poison hp]; exact fun i hi => bad_writeWhole_poisoned hb s hi

end Sys2Proof.Machine
end

section
/-!
SUPPORT. Chapters 02 and 04: constants, loops, the end of a program, conversions and armed injections; O8.
-/

namespace Sys2Proof.Machine

/-! ### CONST, LOOP and END -/

theorem run_constA_none {k : Nat} {s : State} (h : s.aRuns k opCONST = none) : run (constA k) s = s := by
  rw [constA, run_dyn, h, run_withSome_none]

theorem acell_constA {k w : Nat} {s : State} (h : s.aRuns k opCONST = some w) : (run (constA k) s).acell k =
    ({ s.acell k with consts := lset (s.acell k).consts (coReg w) (coVal w) } : ACell).goto ((s.acell k).pc + 1) := by
  rw [constA, run_dyn, h, run_withSome_some, run_seq, nextStep, acell_modAcell, acell_modAcell]

theorem run_loopA_none {k : Nat} {s : State} (h : s.aRuns k opLOOP = none) : run (loopA k) s = s := by
  rw [loopA, run_dyn, h, run_withSome_none]

theorem acell_loopA {k w : Nat} {s : State} (h : s.aRuns k opLOOP = some w) : (run (loopA k) s).acell k =
    if s.loopCount k w = 0 ∨ loLen w = 0 then (s.acell k).goto ((s.acell k).pc + 1 + loLen w)
    else { s.acell k with
      pc := (s.acell k).pc + 1
      loops := { lo := (s.acell k).pc + 1, hi := (s.acell k).pc + 1 + loLen w, left := s.loopCount k w,
                 rule := loRule w } :: (s.acell k).loops } := by
  rw [loopA, run_dyn, h, run_withSome_some, acell_modAcell]

theorem readers_endA (k : Nat) (s : State) : let a := s.acell k
    ((run (endA k) s).acell k).ended = (a.ended || decide (a.steps.length ≤ a.pc)) ∧
      ((run (endA k) s).acell k).pc = a.pc := by
  intro a
  rw [endA, acell_modAcell, show s.acell k = a from rfl]
  cases he : a.ended with
  | true => simp [he]
  | false => by_cases hp : a.steps.length ≤ a.pc <;> simp [he, hp]

/-! ### CONV -/

theorem run_convA_idle {k : Nat} {s : State} (h : s.aRuns k opCONV = none ∨ s.readsWhole k (s.acell k).reads = false) :
    run (convA k) s = s := by
  rw [convA, run_dyn]
  cases hw : s.aRuns k opCONV with
  | none => rfl
  | some w => simp [h.resolve_left (by simp [hw])]

theorem reads_conv {a : ACell} {w : Nat} (hw : a.word = some w) (ho : opOf w = opCONV) : a.reads = [(cvX w, cvN w)] := by
  simp [ACell.reads, hw, ho, opVEC, opTILE, opSFU, opCONV]

/-- The rounding mode of an A-cell's ACFG, 0 without one (R144). -/
def ACell.roundMode (a : ACell) : Nat :=
  match a.acfg with
  | some c => acRound c
  | none => 0

/-- A format that is neither MX nor an integer rounds each value for itself (R83). -/
def fpToks (f mode : Nat) (vals : List (Nat × Bool)) : List (Nat × Bool) :=
  toToks f (vals.map fun p => (fpEncode f mode (f32 p.1), p.2))

theorem convOut_fp {f : Nat} (hmx : fmtIsMx f = false) (hint : fmtIsInt f = false) (mode r : Nat)
    (vals : List (Nat × Bool)) (valid : List Bool) :
    ∃ nan, convOut f mode r vals valid = (fpToks f mode vals, nan, 0) := by
  simp only [convOut, hmx, hint, Bool.false_eq_true, if_false]
  exact ⟨_, rfl⟩

/-- What a whole conversion runs. -/
theorem run_convA {k w : Nat} {s : State} (hw : s.aRuns k opCONV = some w)
    (hr : s.readsWhole k (s.acell k).reads = true) :
    let rs := (s.acell k).reads
    let vals := elemsOf fFP32 (lget [] (s.readAll k rs []) 0)
    let o := convOut (cvFmt w) (s.acell k).roundMode (lget 0 (s.acell k).consts (cvC w)) vals (s.convValid k vals.length)
    run (convA k) s = run (if cvFmt w = fINT32 ∨ fPARTIAL ≤ cvFmt w then .seq (dropReads k rs) (nextStep k)
      else seqs [dropReads k rs, stepFault k 4 false, putToks k (cvOut w) (poisonAll (s.stepBad k 4 false) o.1),
        countNanSat o.2.1 o.2.2, nextStep k]) s := by
  simp only [convA, run_dyn, hw, run_withSome_some, hr, if_true]
  rfl

/-- A conversion to such a format sends its result as the other steps of the vector unit do. -/
theorem run_convA_fp {k w : Nat} {s : State} (hw : s.aRuns k opCONV = some w)
    (hr : s.readsWhole k (s.acell k).reads = true) (hx : cvX w < 63) (hi : cvFmt w ≠ fINT32) (hp : cvFmt w < fPARTIAL)
    (hmx : fmtIsMx (cvFmt w) = false) (hint : fmtIsInt (cvFmt w) = false) :
    let vals := elemsOf fFP32 ((List.range (cvN w)).map (s.bufTok k (cvX w)))
    let out := fpToks (cvFmt w) (s.acell k).roundMode vals
    ∃ nan, run (convA k) s = run (sendStep k 4 false [(cvX w, cvN w)] (cvOut w)
      (poisonAll (decide ((s.acell k).inj = some 4)) out) nan) s := by
  intro vals out
  obtain ⟨hword, hop⟩ := word_of_aRuns hw
  obtain ⟨nan, hout⟩ := convOut_fp hmx hint (s.acell k).roundMode (lget 0 (s.acell k).consts (cvC w)) vals
    (s.convValid k vals.length)
  refine ⟨nan, ?_⟩
  have hnone : ¬ (cvFmt w = fINT32 ∨ fPARTIAL ≤ cvFmt w) := by omega
  rw [run_convA hw hr]
  simp only [reads_conv hword hop, readAll_single hx, lget, hout, hnone, if_false, sendStep, State.stepBad, Bool.false_or,
    vals, out]

/-! ### ACL_INJ -/

theorem injOk_congr {s t : State} (h : ∀ b, t.bay b = s.bay b) (v : Nat) : t.injOk v = s.injOk v := by
  simp only [State.injOk, h]

/-- A write to ACL_INJ that arms the unit of an existing A-cell in an ALLOCATED bay; any other arms none. -/
theorem inj_writeAclInj (u : Nat) (s : State) (j : Nat) : ((run (writeAclInj u) s).acell j).inj =
    if u.testBit 63 = true ∧ s.injOk u = true ∧ j = mkKey (bits 23 23 u) (bits 22 17 u) (bits 16 11 u)
    then some (bits 10 7 u) else (s.acell j).inj := by
  have wlog : (incA blkACL 0xFF rACL_INJ).Within footLog := w_incA _ _ _ (by decide) (errOk_none _ _)
  rw [writeAclInj, run_dyn]
  cases harm : u.testBit 63 with
  | false => simp
  | true =>
    by_cases hok : s.injOk u = true
    · by_cases hj : j = mkKey (bits 23 23 u) (bits 22 17 u) (bits 16 11 u) <;> simp [hok, hj, modAcell]
    · simp only [hok, Bool.not_true, Bool.false_eq_true, if_false, false_and, and_false, keep_acell wlog (by decide)]

/-- Settles O8: each step by what it leaves in its cell; CONV by what it sends to a port where it waits. -/
theorem cellProgram : Obligations.CellProgram := by
  unfold Obligations.CellProgram
  refine ⟨fun site s => ⟨fun h => gives_of_exec (a := constA (siteKey site)) rfl (run_constA_none h),
    fun h => gives_of_exec (a := loopA (siteKey site)) rfl (run_loopA_none h), fun w hw => ?const, fun w hw => ?loop,
    gives_of_exec (a := endA (siteKey site)) rfl (readers_endA _ s),
    fun h => gives_of_exec (a := convA (siteKey site)) rfl (run_convA_idle h),
    fun w hw hr hx ho hfull hi hp hmx hint => ?conv⟩, fun v s ht => ?inj⟩
  case const =>
    refine gives_of_exec (a := constA (siteKey site)) rfl ?_
    rw [acell_constA hw]
    exact ⟨rfl, ACell.goto_pc_congr rfl _⟩
  case loop =>
    refine gives_of_exec (a := loopA (siteKey site)) rfl ?_
    rw [acell_loopA hw]
    split
    · rfl
    · exact ⟨rfl, rfl⟩
  case conv =>
    obtain ⟨nan, hrun⟩ := run_convA_fp hw hr hx hi hp hmx hint
    refine gives_of_exec (a := convA (siteKey site)) rfl ?_
    rw [hrun]
    obtain ⟨hsent, hgot, hpc, -⟩ := readers_sendStep (unit := 4) ho hfull (by decide) (by decide)
    exact ⟨hsent, (hgot _ hx).trans (by rw [readCount_single]), hpc⟩
  case inj =>
    refine gives_of_exec (a := regDo (.aclInj v) rACL_INJ v.toNat writeAclInj) rfl fun j => ?_
    have wlog : (when' (decide (v.toNat &&& (2 ^ 64 - 1 - regMask rACL_INJ) ≠ 0))
        (incA (rACL_INJ / 0x10000) 0xFF rACL_INJ)).Within footLog :=
      within_when' (w_incA _ _ _ (by decide) (errOk_none _ _))
    rw [regDo, run_bitDo_taken ht, regNow, run_seq, inj_writeAclInj, injOk_congr (keep_bay wlog (by decide) s),
      keep_acell wlog (by decide)]

end Sys2Proof.Machine
end

section
/-!
SUPPORT. Chapter 08: a command's completion as memory shows it, and what may come before it and after it.
-/

namespace Sys2Proof.Machine

/-! ### Bytes after a write -/

theorem length_leBytes (n v : Nat) : (leBytes n v).length = n := by
  induction n generalizing v with
  | zero => rfl
  | succ n ih => rw [leBytes, List.length_cons, ih]

theorem byte_writeBytes_other {bs : List Byte} {a j : Nat} (h : j < a ∨ a + bs.length ≤ j) (s : State) :
    (run (writeBytes a bs) s).byte j = s.byte j := by
  induction bs generalizing a s with
  | nil => rfl
  | cons b bs ih =>
    rw [List.length_cons] at h
    rw [writeBytes, run_seq, ih (by omega), run_upd, applyUpd_byte, if_neg (by omega)]

theorem bytes_succ (s : State) (a n : Nat) : s.bytes a (n + 1) = s.byte a :: s.bytes (a + 1) n := by
  have hnext : ∀ i, a + (i + 1) = a + 1 + i := fun i => by omega
  rw [State.bytes, List.range_succ_eq_map, List.map_cons, List.map_map]
  exact congrArg _ (List.map_congr_left fun i _ => congrArg s.byte (hnext i))

theorem bytes_writeBytes (a : Nat) (bs : List Byte) (s : State) : (run (writeBytes a bs) s).bytes a bs.length = bs := by
  induction bs generalizing a s with
  | nil => rfl
  | cons b bs ih =>
    have hb : (run (writeBytes (a + 1) bs) (applyUpd (.byte a b) s)).byte a = b := by
      rw [byte_writeBytes_other (by omega), applyUpd_byte, if_pos rfl]
    rw [writeBytes, run_seq, List.length_cons, bytes_succ, run_upd, hb, ih]

theorem bytes_congr {s t : State} {a n : Nat} (h : ∀ j, a ≤ j → j < a + n → t.byte j = s.byte j) :
    t.bytes a n = s.bytes a n :=
  List.map_congr_left fun i hi => h _ (by omega) (by have := List.mem_range.mp hi; omega)

theorem bytes_writeLe_other {a n v b m : Nat} (h : b + m ≤ a ∨ a + n ≤ b) (s : State) :
    (run (writeLe a n v) s).bytes b m = s.bytes b m :=
  bytes_congr fun j _ _ => byte_writeBytes_other (by rw [length_leBytes]; omega) s

theorem keep_bytes {p : Foot} {a : Act} (h : a.Within p) (hn : Fld.mem ∉ p.flds) (s : State) (b n : Nat) :
    (run a s).bytes b n = s.bytes b n :=
  bytes_congr fun j _ _ => keep_byte h hn s j

/-! ### The completion of a command (R289, R290, R305) -/

theorem length_completionBytes (c : Cmd) (phase now status result detail : Nat) :
    (completionBytes c phase now status result detail).length = 32 := by
  simp only [completionBytes, List.length_append, length_leBytes]

/-- A completion answers its command. -/
theorem answered_complete (id : Nat) (st : Status) (result detail : Nat) (s : State) :
    s.answered (run (complete id st result detail) s) id st result detail := by
  intro c p hc hp hr hh n a
  refine ⟨(cmd_completeCode hc hp hh id).trans (if_pos rfl), fun hd => ?_⟩
  have wp : ∀ f, (modPair p f).Within { flds := [.que .pair], regs := [] } := fun f => w_modPair p f (by decide)
  have wc : (Act.upd (.cmd id none)).Within { flds := [.que .cmd], regs := [] } := within_upd ⟨_, rfl, by decide⟩
  have hlen := length_completionBytes c (phaseOf n (s.cqSlots p)) s.now st.code result detail
  simp only [complete, completeCode, run_dyn, hc, run_withSome_some, hh, Bool.false_eq_true, if_false, hp, hr,
    run_seqs_cons, run_seqs_nil]
  rw [keep_bytes (w_settleTenant _) (by decide), keep_bytes (w_settlePair _) (by decide), keep_bytes wc (by decide),
    bytes_writeLe_other (by omega), bytes_writeLe_other (by omega), keep_bytes (wp _) (by decide)]
  exact hlen ▸ bytes_writeBytes a _ s

/-- What comes before a completion and touches nothing that it shows leaves the answer. -/
theorem answered_before {p : Foot} {a : Act} (w : a.Within p) {s t : State} {id result detail : Nat} {st : Status}
    (h : (run a s).answered t id st result detail)
    (hf : ∀ f ∈ [Fld.now, .que .cmd, .que .pair, .int .haltCause], f ∉ p.flds := by decide)
    (hg : ∀ r ∈ [rQUE_CQ_BASE, rQUE_PAIR_CFG, rQUE_CTL], r ∉ p.regs := by decide) :
    s.answered t id st result detail := by
  simp only [List.forall_mem_cons, List.not_mem_nil, false_implies, implies_true, and_true] at hf hg
  obtain ⟨hnow, hcmd, hpair, hhalt⟩ := hf
  obtain ⟨hbase, hcfg, hctl⟩ := hg
  simpa only [State.answered, State.halted, State.cqSlots, State.progAddr, keep_now w hnow, keep_cmd w hcmd,
    keep_pair w hpair, keep_haltCause w hhalt, keep_fld w _ _ _ _ (by decide) hbase, keep_fld w _ _ _ _ (by decide) hcfg,
    keep_fld w _ _ _ _ (by decide) hctl] using h

/-- What comes after a completion and touches neither memory nor the commands leaves the answer. -/
theorem answered_after {p : Foot} {a : Act} (w : a.Within p) {s t : State} {id result detail : Nat} {st : Status}
    (h : s.answered t id st result detail) (hm : Fld.mem ∉ p.flds := by decide)
    (hc : Fld.que .cmd ∉ p.flds := by decide) : s.answered (run a t) id st result detail := by
  simpa only [State.answered, keep_cmd w hc, keep_bytes w hm] using h

end Sys2Proof.Machine
end

section
/-!
SUPPORT. Chapters 04 and 08: commands that their units take, RUN and COMMAND_COMPLETE; O13.
-/

namespace Sys2Proof.Machine

/-! ### A dispatched command that its unit takes -/

theorem cmd_of_takes {s : State} {id op : Nat} {c : Cmd} (h : s.takes id op = some c) : s.cmd id = some c := by
  simp only [State.takes] at h
  split at h
  · next d hd => rw [hd]; exact (Option.ite_none_right_eq_some.mp h).2
  · cases h

theorem load_modLoad (h : Nat) (f : Load → Load) (s : State) (j : Nat) :
    (run (modLoad h f) s).load j = if j = h then f (s.load h) else s.load j := applyUpd_load s h _ j

theorem cmd_takeCmd (id : Nat) (s : State) (j : Nat) : (run (takeCmd id) s).cmd j =
    if j = id then (s.cmd id).map (fun c => { c with taken := true }) else s.cmd j := applyUpd_cmd s id _ j

theorem took_takeCmd {s : State} {id : Nat} {c : Cmd} (h : s.cmd id = some c) : (run (takeCmd id) s).took id c := by
  rw [State.took, cmd_takeCmd, if_pos rfl, h, Option.map_some]

/-- What leaves the commands leaves a command taken. -/
theorem took_after {p : Foot} {a : Act} (w : a.Within p) {s : State} {id : Nat} {c : Cmd} (h : s.took id c)
    (hc : Fld.que .cmd ∉ p.flds := by decide) : (run a s).took id c :=
  (keep_cmd w hc s id).trans h

/-! ### RUN -/

theorem run_runCmdA_none {id : Nat} {s : State} (h : s.takes id opcRUN = none) : run (runCmdA id) s = s := by
  rw [runCmdA, run_dyn, h, run_withSome_none]

theorem run_runCmdA {id : Nat} {c : Cmd} {s : State} (h : s.takes id opcRUN = some c) :
    let n := leAt c.desc 0x10 1 % 16
    run (runCmdA id) s = run (if (s.load n).st = .free ∨ (s.load n).tenant ≠ c.tenant then complete id .shapeInvalid n
      else if s.inService n then complete id .busy n
      else .seq (takeCmd id) (modLoad n fun l => { l with waiting := l.waiting ++ [id] })) s := by
  rw [runCmdA, run_dyn, h, run_withSome_some]

/-- A RUN that is taken waits at the end of the list of its load. -/
theorem readers_takeRun {id h : Nat} {c : Cmd} {s : State} (hc : s.cmd id = some c) :
    let t := run (.seq (takeCmd id) (modLoad h fun l => { l with waiting := l.waiting ++ [id] })) s
    t.took id c ∧ (t.load h).waiting = (s.load h).waiting ++ [id] ∧ ∀ j, j ≠ h → t.load j = s.load j := by
  have wl : (modLoad h fun l => { l with waiting := l.waiting ++ [id] }).Within ft_addCause := w_modLoad _ _ (by decide)
  refine ⟨took_after wl (took_takeCmd hc), ?_, fun j hj => ?_⟩
  · rw [run_seq, load_modLoad, if_pos rfl]; rfl
  · rw [run_seq, load_modLoad, if_neg hj]; rfl

/-! ### The end of a command whose cells are done -/

theorem run_completeA_idle {h : Nat} {pre : Bool} {s : State}
    (hn : ((s.load h).started && s.loadDone h) = false ∨ decide (s.loadOp h = some opPREFILL) = !pre) :
    run (completeA h pre) s = s := by
  rw [completeA, run_dyn, if_neg, run_nop]
  rcases hn with hn | hn <;> simp [hn]

/-- A running command without a condition ends OK: its load is ended, it completes, its DRAINING bays leave. -/
theorem run_completeA_ok {h id p : Nat} {c : Cmd} {s : State} (hdone : ((s.load h).started && s.loadDone h) = true)
    (hop : s.loadOp h ≠ some opPREFILL) (hcmd : (s.load h).cmd = some id) (hc : s.cmd id = some c) (hp : c.pair = some p)
    (hcause : (s.load h).causes = 0) (hrun : (s.load h).st = .running) (htorn : (s.load h).torn = false)
    (hforce : (s.load h).relForce = none) (hscan : s.scanWant = []) :
    run (completeA h false) s = run (drainBays h) (run (complete id .ok h) (run (modLoad h Load.ended) s)) := by
  have wl : (modLoad h Load.ended).Within ft_addCause := w_modLoad _ _ (by decide)
  have wc := w_complete id .ok h 0
  set s₁ := run (modLoad h Load.ended) s with hs₁
  have hload : s₁.load h = (s.load h).ended := (load_modLoad ..).trans (if_pos rfl)
  have hfin : run (finishCmd id h .ok) s₁ = run (complete id .ok h) s₁ := by
    rw [run_finishCmd_pair ((keep_cmd wl (by decide) s id).trans hc) hp, if_neg fun e => e.2 rfl]
  have hend : run (completeA h false) s = run (boundary h) (run (complete id .ok h) s₁) := by
    have hgo : ((s.load h).started && s.loadDone h && (decide (s.loadOp h = some opPREFILL) == false)) = true := by
      simp [hdone, hop]
    have hok : causeStatus 0 = .ok := rfl
    have hends : causeEnds 0 = false := rfl
    have hcode : decide (0x10 ≤ Status.ok.code) = false := rfl
    simp only [completeA, run_dyn, if_pos hgo, endLoad, endAs, hcmd, run_withSome_some, hcause, hok, hends, hcode, hforce,
      run_seqs_cons, run_seqs_nil, run_when', Bool.false_eq_true, if_false, run_withSome_none]
    rw [← hfin]; rfl
  rw [hend]
  refine run_boundary_drains ?_ ?_ ?_
  · rw [keep_load wc (by decide), hload]; exact htorn
  · rw [keep_load wc (by decide), hload]; exact Load.ended_st_of_running hrun
  · rw [keep_scanWant wc (by decide), keep_scanWant wl (by decide), hscan]

/-- Settles O13: RUN by what it finds of its load; COMMAND_COMPLETE by the end of the command. -/
theorem runAndComplete : Obligations.RunAndComplete := by
  unfold Obligations.RunAndComplete
  refine ⟨fun cmd s => ⟨fun h => gives_of_exec (a := runCmdA cmd) rfl (run_runCmdA_none h), fun c hc => ?run⟩,
    fun load s => ⟨fun hn => ?idle, fun hn => ?prefillIdle,
      fun id c p hdone hop hcmd hc hp hcause hrun htorn hforce hscan => ?done⟩⟩
  case run =>
    refine gives_of_exec (a := runCmdA cmd) rfl ?_
    rw [run_runCmdA hc]
    split
    · exact answered_complete _ _ _ _ _
    · split
      · exact answered_complete _ _ _ _ _
      · exact readers_takeRun (cmd_of_takes hc)
  case idle =>
    exact gives_of_exec (a := completeA load.val false) rfl (run_completeA_idle (hn.imp_right fun h => by simp [h]))
  case prefillIdle =>
    exact gives_of_exec (a := completeA load.val true) rfl (run_completeA_idle (hn.imp_right fun h => by simp [h]))
  case done =>
    have wl : (modLoad load.val Load.ended).Within ft_addCause := w_modLoad _ _ (by decide)
    refine gives_of_exec (a := completeA load.val false) rfl ?_
    rw [run_completeA_ok hdone hop hcmd hc hp hcause hrun htorn hforce hscan]
    refine ⟨answered_after (w_drainBays _) (answered_before wl (answered_complete _ _ _ _ _)), ?_⟩
    rw [keep_load (w_drainBays _) (by decide), keep_load (w_complete ..) (by decide), load_modLoad, if_pos rfl]
    exact ⟨rfl, rfl, rfl, fun hr => by simp [Load.ended, hrun, hr]⟩

end Sys2Proof.Machine
end

section
/-!
SUPPORT. Chapter 04: the three forms of EXHIBIT_LOAD; O15.
-/

namespace Sys2Proof.Machine

/-! ### The image of an EXHIBIT_LOAD (R148) -/

theorem run_withImage_noCopy {id : Nat} {c : Cmd} {s : State} (h : s.copyAt (leAt c.desc 0x10 6) = none)
    (f : Nat → Nat → Image → Act) : run (withImage id c f) s = run (complete id .shapeInvalid noIdx) s := by
  simp only [withImage, run_dyn, h]

/-- A verified image that is at hand is used. -/
theorem run_withImage_found {id copy e : Nat} {c : Cmd} {s : State} (h : s.findsImage c copy e)
    (f : Nat → Nat → Image → Act) : run (withImage id c f) s = run (f copy e (s.imgEntry e).image) s := by
  obtain ⟨hcopy, ⟨o, ho, hwhole, howner⟩, he⟩ := h
  simp only [withImage, run_dyn, hcopy, ho, run_withSome_some, hwhole, howner, he, Bool.not_true, ne_eq,
    not_true_eq_false, decide_false, Bool.or_self, Bool.false_eq_true, if_false]

/-! ### Without REPLACE or SLICED (R147, R149) -/

/-- What EXHIBIT_LOAD runs with a handle and a place. -/
def placeLoad (id copy e h b tenant : Nat) (im : Image) : Act :=
  seqs [takeCmd id, keepImage e im, pinCopy copy,
    .upd (.load h { st := .loading, tenant := tenant, bays := bayRun b im.nBays, entry := e, image := im,
                    loadCmd := some id }),
    takeBays h b im.nBays, sendTokens b im.tokens]

/-- What EXHIBIT_LOAD does with its image. -/
def State.placeImage (s : State) (id : Nat) (c : Cmd) (copy e : Nat) (im : Image) : Act :=
  match s.freeHandle, s.placement im (leAt c.desc 0x16 2) with
  | some h, some b =>
    if s.pinFull copy || !s.storeFits im then complete id .busy noIdx else placeLoad id copy e h b c.tenant im
  | _, _ => complete id .busy noIdx

theorem run_exhibitLoadA_none {id : Nat} {s : State} (h : s.takes id opcEXLOAD = none) : run (exhibitLoadA id) s = s := by
  rw [exhibitLoadA, run_dyn, h, run_withSome_none]

theorem run_exhibitLoadA_idle {id : Nat} {c : Cmd} {s : State} (hc : s.takes id opcEXLOAD = some c)
    (h : c.isReplace = true ∨ c.isSliced = true ∨ s.holds c.tenant = true ∨ s.stilled = true) :
    run (exhibitLoadA id) s = s := by
  simp only [Cmd.isReplace, Cmd.isSliced] at h
  rw [exhibitLoadA, run_dyn, hc, run_withSome_some, if_pos (by simpa only [Bool.or_eq_true, or_assoc] using h), run_nop]

section
variable {id copy e : Nat} {c : Cmd} {s : State} (hc : s.takes id opcEXLOAD = some c) (hrep : c.isReplace = false)
  (hsl : c.isSliced = false) (hold : s.holds c.tenant = false) (hstill : s.stilled = false)
include hc hrep hsl hold hstill

theorem run_exhibitLoadA : run (exhibitLoadA id) s = run (withImage id c (s.placeImage id c)) s := by
  simp only [Cmd.isReplace, Cmd.isSliced] at hrep hsl
  rw [exhibitLoadA, run_dyn, hc, run_withSome_some, if_neg (by simp [hrep, hsl, hold, hstill])]
  rfl

theorem run_exhibitLoadA_noCopy (h : s.copyAt (leAt c.desc 0x10 6) = none) :
    run (exhibitLoadA id) s = run (complete id .shapeInvalid noIdx) s := by
  rw [run_exhibitLoadA hc hrep hsl hold hstill, run_withImage_noCopy h]

theorem run_exhibitLoadA_noPlace (hi : s.findsImage c copy e)
    (h : s.freeHandle = none ∨ s.placement (s.imgEntry e).image (leAt c.desc 0x16 2) = none) :
    run (exhibitLoadA id) s = run (complete id .busy noIdx) s := by
  rw [run_exhibitLoadA hc hrep hsl hold hstill, run_withImage_found hi, State.placeImage]
  rcases h with h | h
  · simp only [h]
  · cases s.freeHandle <;> simp only [h]

theorem run_exhibitLoadA_places {h b : Nat} (hi : s.findsImage c copy e) (hh : s.freeHandle = some h)
    (hb : s.placement (s.imgEntry e).image (leAt c.desc 0x16 2) = some b) (hpin : s.pinFull copy = false)
    (hfit : s.storeFits (s.imgEntry e).image = true) :
    run (exhibitLoadA id) s = run (placeLoad id copy e h b c.tenant (s.imgEntry e).image) s := by
  rw [run_exhibitLoadA hc hrep hsl hold hstill, run_withImage_found hi, State.placeImage]
  simp only [hh, hb, hpin, hfit, Bool.not_true, Bool.or_self, Bool.false_eq_true, if_false]

end

/-- The bays of a load that takes them: ALLOCATED, in epoch 0 (R149). -/
theorem bay_takeBays {h b n i : Nat} (hi : i < n) (s : State) :
    (run (takeBays h b n) s).bay (b + i) = { st := .allocated, load := some h, epoch := 0 } := by
  have hnd : ((List.range n).map fun i => b + i).Nodup := List.nodup_range.map fun _ _ e => Nat.add_left_cancel e
  rw [takeBays, run_seq, keep_bay w_setFences (by decide)]
  exact run_each_nodup State.bay (f := fun i => .upd (.bay (b + i) { st := .allocated, load := some h, epoch := 0 }))
    (g := fun _ _ => { st := .allocated, load := some h, epoch := 0 }) (fun i s j => applyUpd_bay s (b + i) _ j) hnd
    (List.mem_range.mpr hi) s

theorem readers_placeLoad {id copy e h b tenant : Nat} {im : Image} {c : Cmd} {s : State} (hc : s.cmd id = some c) :
    let t := run (placeLoad id copy e h b tenant im) s
    t.took id c ∧
    t.load h = { st := .loading, tenant := tenant, bays := bayRun b im.nBays, entry := e, image := im,
                 loadCmd := some id } ∧
    ∀ i, i < im.nBays → t.bay (b + i) = { st := .allocated, load := some h, epoch := 0 } := by
  have wl : ∀ x, (Act.upd (.load h x)).Within ft_addCause := fun x => within_upd ⟨_, rfl, by decide⟩
  simp only [placeLoad, run_seqs_cons, run_seqs_nil]
  refine ⟨?_, ?_, fun i hi => ?_⟩
  · exact took_after (w_sendTokens ..) (took_after (w_takeBays ..) (took_after (wl _) (took_after (w_pinCopy _)
      (took_after (w_keepImage ..) (took_takeCmd hc)))))
  · rw [keep_load (w_sendTokens ..) (by decide), keep_load (w_takeBays ..) (by decide), run_upd, applyUpd_load, if_pos rfl]
  · rw [keep_bay (w_sendTokens ..) (by decide), bay_takeBays hi]

/-! ### With REPLACE (R152, R153) -/

theorem run_exhibitLoadReplaceA_none {id : Nat} {s : State} (h : s.takes id opcEXLOAD = none) :
    run (exhibitLoadReplaceA id) s = s := by
  rw [exhibitLoadReplaceA, run_dyn, h, run_withSome_none]

theorem run_exhibitLoadReplaceA_idle {id : Nat} {c : Cmd} {s : State} (hc : s.takes id opcEXLOAD = some c)
    (h : c.isReplace = false ∨ s.holds c.tenant = true ∨ s.stilled = true) : run (exhibitLoadReplaceA id) s = s := by
  simp only [Cmd.isReplace] at h
  simp only [exhibitLoadReplaceA, run_dyn, hc, run_withSome_some]
  rcases h with h | h | h <;> simp only [h, Bool.not_false, Bool.true_or, Bool.or_true, if_true, run_nop]

/-- The image `im` of command `c` may replace the exhibit of the load (R152). -/
structure Load.Replaceable (ld : Load) (c : Cmd) (im : Image) : Prop where
  st : ld.st = .ready ∨ ld.st = .running
  tenant : ld.tenant = c.tenant
  unsliced : ld.sliced = false
  count : popCount 16 ld.bays = im.nBays
  first : (firstBays im.nBays im.seam (im.place % 4)).contains (lowBay ld.bays) = true
  mask : leAt c.desc 0x16 2 = 0 ∨ leAt c.desc 0x16 2 = ld.bays
  noRemote : remoteRecs im.recs = []
  noRemoteNow : remoteRecs ld.image.recs = []

section
variable {id : Nat} {c : Cmd} {s : State} (hc : s.takes id opcEXLOAD = some c) (hrep : c.isReplace = true)
  (hold : s.holds c.tenant = false) (hstill : s.stilled = false) (hnone : (s.load (leAt c.desc 0x18 1 % 16)).repl = none)
include hc hrep hold hstill hnone

theorem run_exhibitLoadReplaceA_free (hfree : (s.load (leAt c.desc 0x18 1 % 16)).st = .free) :
    run (exhibitLoadReplaceA id) s = run (complete id .shapeInvalid noIdx) s := by
  simp only [Cmd.isReplace] at hrep
  simp only [exhibitLoadReplaceA, run_dyn, hc, run_withSome_some, hrep, hold, hstill, hnone, Option.isSome_none,
    Bool.not_true, Bool.or_self, Bool.false_eq_true, if_false, hfree, if_true]

theorem run_exhibitLoadReplaceA_stages {copy e : Nat} (hsl : c.isSliced = false) (hi : s.findsImage c copy e)
    (hfit : (s.load (leAt c.desc 0x18 1 % 16)).Replaceable c (s.imgEntry e).image) (hpin : s.pinFull copy = false) :
    run (exhibitLoadReplaceA id) s =
      run (.seq (takeCmd id) (stageRepl (leAt c.desc 0x18 1 % 16) copy e (s.imgEntry e).image (some id))) s := by
  simp only [Cmd.isReplace, Cmd.isSliced] at hrep hsl
  obtain ⟨hst, hten, hnsl, hcount, hfirst, hmask, hrem, hremOld⟩ := hfit
  set ld := s.load (leAt c.desc 0x18 1 % 16) with hld
  have hmask' : (decide (leAt c.desc 0x16 2 ≠ 0) && decide (leAt c.desc 0x16 2 ≠ ld.bays)) = false := by
    rcases hmask with h | h <;> simp [h]
  have hstate : ld.st ≠ .free ∧ ld.st ≠ .releasing ∧ ld.st ≠ .loading := by
    rcases hst with h | h <;> simp [h]
  obtain ⟨hfree, hrel, hload⟩ := hstate
  simp only [exhibitLoadReplaceA, run_dyn, hc, run_withSome_some, hrep, hold, hstill, ← hld, hnone, Option.isSome_none,
    Bool.not_true, Bool.or_self, Bool.false_eq_true, if_false, hfree, hrel, run_withImage_found hi, hten, hnsl, hsl, hload,
    hcount, hfirst, hmask', hrem, hremOld, hpin, ne_eq, not_true_eq_false, decide_false]

end

theorem readers_stageRepl {id h copy e : Nat} {im : Image} {c : Cmd} {s : State} (hc : s.cmd id = some c) :
    let t := run (.seq (takeCmd id) (stageRepl h copy e im (some id))) s
    t.took id c ∧ t.load h = { s.load h with
      repl := some { cmd := some id, entry := e, image := im, phase := .staging }
      waiting := (s.load h).waiting ++ [id]
      st := if (s.load h).st = .ready then .replacing else (s.load h).st } := by
  refine ⟨took_after (w_stageRepl ..) (took_takeCmd hc), ?_⟩
  simp only [run_seq, stageRepl, run_dyn, run_seqs_cons, run_seqs_nil]
  rw [keep_load (w_sendTokens ..) (by decide), load_modLoad, if_pos rfl, keep_load (w_pinCopy _) (by decide),
    keep_load (w_keepImage ..) (by decide), keep_load (w_takeCmd _) (by decide)]
  rfl

/-! ### With SLICED (R314) -/

/-- What EXHIBIT_LOAD with SLICED runs with a handle. -/
def sliceLoad (id copy e h tenant : Nat) (im : Image) : Act :=
  seqs [keepImage e im, pinCopy copy,
    .upd (.load h { st := .ready, tenant := tenant, entry := e, image := im, sliced := true }), complete id .ok h]

theorem run_exhibitLoadSlicedA_none {id : Nat} {s : State} (h : s.takes id opcEXLOAD = none) :
    run (exhibitLoadSlicedA id) s = s := by
  rw [exhibitLoadSlicedA, run_dyn, h, run_withSome_none]

theorem run_exhibitLoadSlicedA_idle {id : Nat} {c : Cmd} {s : State} (hc : s.takes id opcEXLOAD = some c)
    (h : c.isReplace = true ∨ c.isSliced = false ∨ s.holds c.tenant = true ∨ s.stilled = true) :
    run (exhibitLoadSlicedA id) s = s := by
  simp only [Cmd.isReplace, Cmd.isSliced] at h
  rw [exhibitLoadSlicedA, run_dyn, hc, run_withSome_some,
    if_pos (by simpa only [Bool.or_eq_true, Bool.not_eq_true', or_assoc] using h), run_nop]

/-- The tenant's slice set fits the image `im`, its copy and the stores have room, and the tenant has no sliced load yet
(R314, R315, R337). -/
structure State.SliceFits (s : State) (tenant copy : Nat) (im : Image) : Prop where
  count : popCount 16 (s.fld rTEN_SLICE_CFG 15 0 (s.setOf tenant)) = im.nBays
  first : (firstBays im.nBays im.seam (im.place % 4)).contains (lowBay (s.fld rTEN_SLICE_CFG 15 0 (s.setOf tenant))) = true
  pin : s.pinFull copy = false
  store : s.storeFits im = true
  only : ∀ j, j < 16 → (s.load j).st = .free ∨ (s.load j).sliced = false ∨ (s.load j).tenant ≠ tenant

theorem run_exhibitLoadSlicedA {id copy e h : Nat} {c : Cmd} {s : State} (hc : s.takes id opcEXLOAD = some c)
    (hrep : c.isReplace = false) (hsl : c.isSliced = true) (hold : s.holds c.tenant = false) (hstill : s.stilled = false)
    (hi : s.findsImage c copy e) (hh : s.freeHandle = some h) (hfits : s.SliceFits c.tenant copy (s.imgEntry e).image) :
    run (exhibitLoadSlicedA id) s = run (sliceLoad id copy e h c.tenant (s.imgEntry e).image) s := by
  simp only [Cmd.isReplace, Cmd.isSliced] at hrep hsl
  obtain ⟨hcount, hfirst, hpin, hstore, honly⟩ := hfits
  have hnone : ((List.range 16).any fun j => decide ((s.load j).st ≠ .free) && (s.load j).sliced &&
      decide ((s.load j).tenant = c.tenant)) = false := by
    refine List.any_eq_false.mpr fun j hj => ?_
    rcases honly j (List.mem_range.mp hj) with h | h | h <;> simp [h]
  simp only [exhibitLoadSlicedA, run_dyn, hc, run_withSome_some, hrep, hsl, hold, hstill, Bool.not_true, Bool.or_self,
    Bool.false_eq_true, if_false, run_withImage_found hi, hcount, hfirst, ne_eq, not_true_eq_false, decide_false, hh, hpin,
    hstore, hnone, sliceLoad]

/-- The load is READY without bays, and its command completes. -/
theorem readers_sliceLoad (id copy e h tenant : Nat) (im : Image) (s : State) :
    let t := run (sliceLoad id copy e h tenant im) s
    t.load h = { st := .ready, tenant := tenant, entry := e, image := im, sliced := true } ∧
    (∀ b, t.bay b = s.bay b) ∧ s.answered t id .ok h 0 := by
  have wl : ∀ x, (Act.upd (.load h x)).Within ft_addCause := fun x => within_upd ⟨_, rfl, by decide⟩
  have wc := w_complete id .ok h 0
  simp only [sliceLoad, run_seqs_cons, run_seqs_nil]
  refine ⟨?_, fun b => ?_, ?_⟩
  · rw [keep_load wc (by decide), run_upd, applyUpd_load, if_pos rfl]
  · rw [keep_bay wc (by decide), keep_bay (wl _) (by decide), keep_bay (w_pinCopy _) (by decide),
      keep_bay (w_keepImage ..) (by decide)]
  · exact answered_before (w_keepImage ..) (answered_before (w_pinCopy _) (answered_before (wl _)
      (answered_complete _ _ _ _ _)))

/-- Settles O15: each form by what it runs once its image is found. -/
theorem exhibitLoads : Obligations.ExhibitLoads := by
  unfold Obligations.ExhibitLoads
  intro cmd s
  have plain : ∀ {q : State → Prop}, q (run (exhibitLoadA cmd) s) → Gives (.exhibitLoad cmd) s q :=
    gives_of_exec (a := exhibitLoadA cmd) rfl
  have replace : ∀ {q : State → Prop}, q (run (exhibitLoadReplaceA cmd) s) → Gives (.exhibitLoadReplace cmd) s q :=
    gives_of_exec (a := exhibitLoadReplaceA cmd) rfl
  have sliced : ∀ {q : State → Prop}, q (run (exhibitLoadSlicedA cmd) s) → Gives (.exhibitLoadSliced cmd) s q :=
    gives_of_exec (a := exhibitLoadSlicedA cmd) rfl
  refine ⟨fun h => ⟨plain (run_exhibitLoadA_none h), replace (run_exhibitLoadReplaceA_none h),
    sliced (run_exhibitLoadSlicedA_none h)⟩, fun c hc => ⟨fun h => plain (run_exhibitLoadA_idle hc h),
    fun h => replace (run_exhibitLoadReplaceA_idle hc h), fun h => sliced (run_exhibitLoadSlicedA_idle hc h),
    fun hold hstill => ⟨fun hrep hsl h => plain ?noCopy, fun hrep hnone hfree => replace ?freeHandle,
      fun copy e hi => ⟨fun hrep hsl => ⟨fun h => plain ?noPlace, fun h b hh hb hpin hfit => plain ?places⟩,
        fun hrep hsl hnone hst hten hnsl hcount hfirst hmask hrem hremOld hpin => replace ?stages,
        fun hrep hsl h hh hcount hfirst hpin hfit hone => sliced ?slices⟩⟩⟩⟩
  case noCopy =>
    rw [run_exhibitLoadA_noCopy hc hrep hsl hold hstill h]
    exact answered_complete _ _ _ _ _
  case freeHandle =>
    rw [run_exhibitLoadReplaceA_free hc hrep hold hstill hnone hfree]
    exact answered_complete _ _ _ _ _
  case noPlace =>
    rw [run_exhibitLoadA_noPlace hc hrep hsl hold hstill hi h]
    exact answered_complete _ _ _ _ _
  case places =>
    rw [run_exhibitLoadA_places hc hrep hsl hold hstill hi hh hb hpin hfit]
    exact readers_placeLoad (cmd_of_takes hc)
  case stages =>
    rw [run_exhibitLoadReplaceA_stages hc hrep hold hstill hnone hsl hi
      ⟨hst, hten, hnsl, hcount, hfirst, hmask, hrem, hremOld⟩ hpin]
    obtain ⟨htook, hload⟩ := readers_stageRepl (h := leAt c.desc 0x18 1 % 16) (copy := copy) (e := e)
      (im := (s.imgEntry e).image) (cmd_of_takes hc)
    rw [hload]
    exact ⟨htook, rfl, rfl, rfl⟩
  case slices =>
    rw [run_exhibitLoadSlicedA hc hrep hsl hold hstill hi hh ⟨hcount, hfirst, hpin, hfit, hone⟩]
    exact readers_sliceLoad ..

end Sys2Proof.Machine
end

section
/-!
SUPPORT. Chapter 04: tokens on the configuration path, and links that only gain tokens.
-/

namespace Sys2Proof.Machine

/-! ### The configuration path (R154) -/

theorem pathBefore_ne_self {k y : Nat} (h : pathBefore k = some y) : y ≠ k := by
  simp only [pathBefore] at h
  split_ifs at h
  all_goals
    simp only [Option.some.injEq, mkKey] at h
    simp only [keyDie, keyRow, keyCol] at *
    omega

/-- The head of a path at its entry lies on the entry's wire. -/
theorem pathHead_entry {s : State} {k : Nat} {tok : Token} {take : Act} (hb : pathBefore k = none)
    (h : s.pathHead k = some (tok, take)) :
    ∃ rest, s.wire (k * 16 + 15) = tok :: rest ∧ take = .upd (.wire (k * 16 + 15) rest) := by
  cases hw : s.wire (k * 16 + 15) with
  | nil => simp [State.pathHead, hb, hw] at h
  | cons t rest =>
    simp only [State.pathHead, hb, hw, Option.some.injEq, Prod.mk.injEq] at h
    exact ⟨rest, by rw [h.1], h.2.symm⟩

/-- Elsewhere it lies in the queue of the site before. -/
theorem pathHead_inner {s : State} {k y : Nat} {tok : Token} {take : Act} (hb : pathBefore k = some y)
    (h : s.pathHead k = some (tok, take)) :
    ∃ rest, (s.site y).cfgQ = tok :: rest ∧ take = modSite y fun x => { x with cfgQ := rest } := by
  cases hq : (s.site y).cfgQ with
  | nil => simp [State.pathHead, hb, hq] at h
  | cons t rest =>
    simp only [State.pathHead, hb, hq, Option.some.injEq, Prod.mk.injEq] at h
    exact ⟨rest, by rw [h.1], h.2.symm⟩

theorem site_modSite (k : Nat) (f : SiteSt → SiteSt) (s : State) (j : Nat) :
    (run (modSite k f) s).site j = if j = k then f (s.site k) else s.site j := applyUpd_site s k _ j

/-- The token is taken from the path and changes the site; nothing else of the two. -/
theorem readers_takeHead {k : Nat} {s : State} {tok : Token} {take : Act} (h : s.pathHead k = some (tok, take))
    (f : SiteSt → SiteSt) :
    let t := run (.seq take (modSite k f)) s
    t.site k = f (s.site k) ∧ (∀ y, pathBefore k = some y → (t.site y).cfgQ = (s.site y).cfgQ.tail) ∧
      (pathBefore k = none → t.wire (k * 16 + 15) = (s.wire (k * 16 + 15)).tail) := by
  have wm : (modSite k f).Within ft_State_pathHead := w_modSite _ _ (by decide)
  simp only [run_seq]
  cases hb : pathBefore k with
  | none =>
    obtain ⟨rest, hw, rfl⟩ := pathHead_entry hb h
    refine ⟨by rw [site_modSite, if_pos rfl]; rfl, by simp, fun _ => ?_⟩
    exact (applyUpd_wire s (k * 16 + 15) rest _).trans (by rw [if_pos rfl, hw, List.tail_cons])
  | some y =>
    obtain ⟨rest, hq, rfl⟩ := pathHead_inner hb h
    have hne := pathBefore_ne_self hb
    refine ⟨by rw [site_modSite, if_pos rfl, site_modSite, if_neg hne.symm], fun y' hy => ?_, by simp⟩
    obtain rfl := Option.some.inj hy
    rw [site_modSite, if_neg hne, site_modSite, if_pos rfl, hq, List.tail_cons]

theorem run_configTokenA_none {k : Nat} {s : State} (h : s.pathHead k = none) : run (configTokenA k) s = s := by
  rw [configTokenA, run_dyn, h, run_withSome_none]

/-- The site that a configuration token names (R139). -/
def cfgKey (tok : Token) : Nat :=
  mkKey (cfgDie tok.payload.toNat) (cfgRow tok.payload.toNat) (cfgCol tok.payload.toNat)

theorem run_configTokenA {k : Nat} {s : State} {tok : Token} {take : Act} (h : s.pathHead k = some (tok, take)) :
    run (configTokenA k) s = run (
      if cfgKey tok = k then .seq take (modSite k fun x => { x with staged := x.staged ++ [tok] })
      else if (s.site k).cfgQ.length < 8 then .seq take (modSite k fun x => { x with cfgQ := x.cfgQ ++ [tok] })
      else .nop) s := by
  rw [configTokenA, run_dyn, h, run_withSome_some]; rfl

/-- CONFIG_TOKEN_ARRIVE of a token that the path offers. -/
theorem gives_configTokenArrive {site : Site} {s : State} {tok : Token} {take : Act}
    (h : s.pathHead (siteKey site) = some (tok, take)) : let k := siteKey site
    Gives (.configTokenArrive site) s fun t =>
      (cfgKey tok = k → (t.site k).staged = (s.site k).staged ++ [tok]) ∧
      (¬ cfgKey tok = k → (s.site k).cfgQ.length < 8 → (t.site k).cfgQ = (s.site k).cfgQ ++ [tok]) ∧
      (cfgKey tok = k ∨ (s.site k).cfgQ.length < 8 →
        (∀ y, pathBefore k = some y → (t.site y).cfgQ = (s.site y).cfgQ.tail) ∧
        (pathBefore k = none → t.wire (k * 16 + 15) = (s.wire (k * 16 + 15)).tail)) ∧
      (¬ cfgKey tok = k → 8 ≤ (s.site k).cfgQ.length → t = s) := by
  intro k
  refine gives_of_exec (a := configTokenA k) rfl ?_
  rw [run_configTokenA h]
  by_cases hm : cfgKey tok = k
  · obtain ⟨hsite, hpath⟩ := readers_takeHead h fun x => { x with staged := x.staged ++ [tok] }
    rw [if_pos hm]
    exact ⟨fun _ => by rw [hsite], fun hn => absurd hm hn, fun _ => hpath, fun hn => absurd hm hn⟩
  · rw [if_neg hm]
    by_cases hl : (s.site k).cfgQ.length < 8
    · obtain ⟨hsite, hpath⟩ := readers_takeHead h fun x => { x with cfgQ := x.cfgQ ++ [tok] }
      rw [if_pos hl]
      exact ⟨fun hn => absurd hn hm, fun _ _ => by rw [hsite], fun _ => hpath, fun _ hge => absurd hl (by omega)⟩
    · rw [if_neg hl, run_nop]
      exact ⟨fun hn => absurd hn hm, fun _ hlt => absurd hlt hl, fun hor => absurd hor (not_or.mpr ⟨hm, hl⟩), fun _ _ => rfl⟩

/-! ### Links that only gain tokens -/

/-- Every link holds what it held, and perhaps more behind it. -/
def State.wiresGrow (s t : State) : Prop := ∀ j, s.wire j <+: t.wire j

theorem wiresGrow_refl (s : State) : s.wiresGrow s := fun _ => ⟨[], List.append_nil _⟩

theorem State.wiresGrow.trans {s t u : State} (h : s.wiresGrow t) (k : t.wiresGrow u) : s.wiresGrow u :=
  fun j => (h j).trans (k j)

theorem wiresGrow_keep {p : Foot} {a : Act} (w : a.Within p) (s : State) (hn : Fld.fab .wire ∉ p.flds := by decide) :
    s.wiresGrow (run a s) := fun j => ⟨[], by rw [List.append_nil, keep_wire w hn]⟩

theorem wire_modWire (k : Nat) (f : List Token → List Token) (s : State) (j : Nat) :
    (run (modWire k f) s).wire j = if j = k then f (s.wire k) else s.wire j := applyUpd_wire s k _ j

theorem wiresGrow_modWire (k : Nat) (u : Token) (s : State) : s.wiresGrow (run (modWire k fun w => w ++ [u]) s) := by
  intro j
  rw [wire_modWire]
  split
  · next h => rw [h]; exact ⟨[u], rfl⟩
  · exact ⟨[], List.append_nil _⟩

theorem wiresGrow_each {α : Type} {f : α → Act} (hf : ∀ x s, State.wiresGrow s (run (f x) s)) (l : List α) (s : State) :
    s.wiresGrow (run (each l f) s) := by
  induction l generalizing s with
  | nil => exact wiresGrow_refl s
  | cons x l ih => rw [run_each_cons]; exact (hf x s).trans (ih _)

theorem wiresGrow_when' {c : Bool} {a : Act} {s : State} (h : s.wiresGrow (run a s)) :
    s.wiresGrow (run (when' c a) s) := by
  cases c
  · exact wiresGrow_refl s
  · exact h

theorem wiresGrow_ite {c : Prop} [Decidable c] {a b : Act} {s : State} (ha : s.wiresGrow (run a s))
    (hb : s.wiresGrow (run b s)) : s.wiresGrow (run (if c then a else b) s) := by
  split <;> assumption

theorem wiresGrow_cellSendN (n k st : Nat) (s : State) : s.wiresGrow (run (cellSendN n k st) s) := by
  induction n generalizing s with
  | zero => exact wiresGrow_refl s
  | succ n ih =>
    have wc : ∀ x, (Act.upd (.cout (k * 64 + st) x)).Within { flds := [.cell .cout], regs := [] } :=
      fun _ => within_upd ⟨_, rfl, by decide⟩
    have wm : ∀ f, (modCredit (k * 2048 + 9 * 64 + st) f).Within { flds := [.fab .credit], regs := [] } :=
      fun f => w_modCredit _ f (by decide)
    rw [cellSendN, run_dyn]
    split
    · exact wiresGrow_refl s
    · refine wiresGrow_ite (wiresGrow_refl s) ?_
      simp only [run_seqs_cons, run_seqs_nil]
      exact (((wiresGrow_keep (wc _) s).trans (wiresGrow_keep (wm _) _)).trans (wiresGrow_modWire _ _ _)).trans (ih _)

theorem wiresGrow_cellPut (k st : Nat) (u : Token) (s : State) : s.wiresGrow (run (cellPut k st u) s) := by
  have wc : (modCout (k * 64 + st) fun q => q ++ [u]).Within { flds := [.cell .cout], regs := [] } :=
    w_modCout _ _ (by decide)
  exact (wiresGrow_keep wc s).trans (wiresGrow_cellSendN _ _ _ _)

theorem run_each_append {α : Type} (f : α → Act) (l₁ l₂ : List α) (s : State) :
    run (each (l₁ ++ l₂) f) s = run (each l₂ f) (run (each l₁ f) s) := by
  induction l₁ generalizing s with
  | nil => rfl
  | cons x l ih => rw [List.cons_append, run_each_cons, run_each_cons, ih]

/-- A token that one script of a list puts on a link lies there after the whole list, when links only gain tokens; `P`
is what the scripts before it keep. -/
theorem mem_wire_each {α : Type} {f : α → Act} {P : State → Prop} (hg : ∀ x s, State.wiresGrow s (run (f x) s))
    (hP : ∀ x s, P s → P (run (f x) s)) {l : List α} {x : α} (hx : x ∈ l) {u : Token} {j : Nat}
    (hu : ∀ s, P s → u ∈ (run (f x) s).wire j) {s : State} (hs : P s) : u ∈ (run (each l f) s).wire j := by
  obtain ⟨l₁, l₂, rfl⟩ := List.append_of_mem hx
  have hbefore : ∀ (l : List α) s, P s → P (run (each l f) s) := by
    intro l
    induction l with
    | nil => exact fun _ h => h
    | cons y l ih => exact fun s h => by rw [run_each_cons]; exact ih _ (hP y s h)
  rw [run_each_append, run_each_cons]
  exact (wiresGrow_each hg l₂ _ j).subset (hu _ (hbefore l₁ s hs))

end Sys2Proof.Machine
end

section
/-!
SUPPORT. Chapter 04: the switch to a new configuration, from its closing to its markers at the cells; O16.
-/

namespace Sys2Proof.Machine

/-! ### LOAD_CONFIGURED (R149) -/

theorem run_loadConfiguredA_idle {h : Nat} {s : State} (hn : (s.load h).st ≠ .loading ∨ s.inTransit h = true) :
    run (loadConfiguredA h) s = s := by
  rw [loadConfiguredA, run_dyn, if_neg, run_nop]
  rcases hn with hn | hn <;> simp [hn]

theorem run_loadConfiguredA {h id : Nat} {s : State} (hst : (s.load h).st = .loading) (hway : s.inTransit h = false)
    (hcmd : (s.load h).loadCmd = some id) (hrel : (s.load h).relCmd = none) :
    run (loadConfiguredA h) s = run (complete id .ok h)
      (run (modLoad h fun l => { l with st := .ready, loadCmd := none }) (run (installLoad h 0) s)) := by
  simp [loadConfiguredA, hst, hway, hcmd, hrel]

/-- The load is READY and its command completes. -/
theorem readers_configured (h id : Nat) (s : State) :
    let t := run (complete id .ok h) (run (modLoad h fun l => { l with st := .ready, loadCmd := none })
      (run (installLoad h 0) s))
    (t.load h).st = .ready ∧ (t.load h).loadCmd = none ∧ s.answered t id .ok h 0 := by
  have wl : (modLoad h fun l => { l with st := .ready, loadCmd := none }).Within ft_addCause := w_modLoad _ _ (by decide)
  intro t
  have hload : t.load h = { s.load h with st := .ready, loadCmd := none } := by
    rw [keep_load (w_complete ..) (by decide), load_modLoad, if_pos rfl, keep_load (w_installLoad ..) (by decide)]
  rw [hload]
  exact ⟨rfl, rfl, answered_before (w_installLoad ..) (answered_before wl (answered_complete _ _ _ _ _))⟩

/-! ### REPLACE_CLOSE (R155) -/

/-- A site is to switch, and its staged slots wait for the old ones. -/
def stageSite (k : Nat) : Act :=
  .dyn fun s => .seq (modSite k fun x => { x with switching := true })
    (each (blockSlots (s.site k).staged (((s.bay (keyBay k)).epoch + 1) % 16)) fun p =>
      .upd (.newSlot (slotKey k p.1 p.2.epoch) (some p.2)))

/-- The sources of a site send their markers: an S-cell, and the feed of each edge input. -/
def markSources (k : Nat) : Act :=
  .dyn fun s => .seq
    (when' (!keyIsA k) (each (s.cellOutputs k) fun st => cellPut k st (marker st (s.bay (keyBay k)).epoch)))
    (each (s.edgeFeeds k) fun p => modWire (k * 16 + p.1) fun w => w ++ [marker p.2 (s.bay (keyBay k)).epoch])

theorem run_replaceCloseA_none {h : Nat} {s : State} (hn : (s.load h).repl = none) : run (replaceCloseA h) s = s := by
  rw [replaceCloseA, run_dyn, hn, run_withSome_none]

theorem run_replaceCloseA {h : Nat} {r : Repl} {s : State} (hr : (s.load h).repl = some r) (hph : r.phase = .staging)
    (hcmd : (s.load h).cmd = none) (hway : s.inTransit h = false) (hwhole : s.loadWhole h = true)
    (hstill : s.stilled = false) (hturn : r.cmd = none ∨ (s.load h).waiting.head? = r.cmd) :
    run (replaceCloseA h) s = run (seqs [
      modLoad h fun l => { l with repl := some { r with phase := .closing } },
      each (s.loadSites h) stageSite, each (s.loadSites h) markSources,
      each (s.loadSites h) fun k => .seq (settleSlots k) (switchCell k)]) s := by
  have hgo : (decide (r.phase = .staging) && (s.load h).cmd.isNone && !s.inTransit h && s.loadWhole h && !s.stilled
      && (r.cmd.isNone || decide ((s.load h).waiting.head? = r.cmd))) = true := by
    rcases hturn with h | h <;> simp [hph, hcmd, hway, hwhole, hstill, h]
  rw [replaceCloseA, run_dyn, hr, run_withSome_some, if_pos hgo]
  rfl

/-- What `stageSite` changes, and what `markSources` does. -/
def ft_stageSite : Foot := { flds := [.fab .site, .fab .newSlot], regs := [] }

theorem w_stageSite (k : Nat) : (stageSite k).Within ft_stageSite :=
  .dyn fun _ => .seq (w_modSite _ _ (by decide)) (within_each _ fun _ => within_upd ⟨_, rfl, by decide⟩)

theorem w_markSources (k : Nat) : (markSources k).Within ft_cellSendN :=
  .dyn fun _ => .seq (within_when' (within_each _ fun _ => w_cellPut ..))
    (within_each _ fun _ => w_modWire _ _ (by decide))

theorem wiresGrow_markSources (k : Nat) (s : State) : s.wiresGrow (run (markSources k) s) := by
  rw [markSources, run_dyn, run_seq]
  exact (wiresGrow_when' (wiresGrow_each (fun _ _ => wiresGrow_cellPut _ _ _ _) _ _)).trans
    (wiresGrow_each (fun _ _ => wiresGrow_modWire _ _ _) _ _)

theorem wiresGrow_switchCell (k : Nat) (s : State) : s.wiresGrow (run (switchCell k) s) := by
  rw [switchCell, run_dyn]
  refine wiresGrow_ite ?_ (wiresGrow_refl s)
  simp only [run_seqs_cons, run_seqs_nil]
  exact ((wiresGrow_when' (wiresGrow_each (fun _ _ => wiresGrow_cellPut _ _ _ _) _ _)).trans
    (wiresGrow_keep (w_installCell ..) _)).trans (wiresGrow_keep (w_settleSite _) _)

/-- The feed of an edge input puts the marker of the bay's epoch on its link. -/
theorem mem_markSources {k : Nat} {q : Nat × Nat} {s : State} (hq : q ∈ s.edgeFeeds k) :
    marker q.2 (s.bay (keyBay k)).epoch ∈ (run (markSources k) s).wire (k * 16 + q.1) := by
  rw [markSources, run_dyn, run_seq]
  refine mem_wire_each (P := fun _ => True) (fun _ _ => wiresGrow_modWire _ _ _) (fun _ _ h => h) hq (fun t _ => ?_) trivial
  rw [wire_modWire, if_pos rfl]
  exact List.mem_append_right _ (List.mem_singleton.mpr rfl)

theorem edgeFeeds_congr {s t : State} (h : ∀ j, t.slot j = s.slot j) (k : Nat) : t.edgeFeeds k = s.edgeFeeds k := by
  simp only [State.edgeFeeds, slotsOf_congr h]

/-- After the closing every edge feed's marker lies on its link: no other site's markers change the slots or the epoch,
and the switches that follow take nothing from a link. -/
theorem mem_closed {h k : Nat} {q : Nat × Nat} {f : Load → Load} {s : State} (hk : k ∈ s.loadSites h)
    (hq : q ∈ s.edgeFeeds k) :
    marker q.2 (s.bay (keyBay k)).epoch ∈ (run (seqs [modLoad h f, each (s.loadSites h) stageSite,
      each (s.loadSites h) markSources, each (s.loadSites h) fun k => .seq (settleSlots k) (switchCell k)]) s).wire
        (k * 16 + q.1) := by
  have wl : (modLoad h f).Within ft_addCause := w_modLoad _ _ (by decide)
  have ws : (each (s.loadSites h) stageSite).Within ft_stageSite := within_each _ w_stageSite
  simp only [run_seqs_cons, run_seqs_nil]
  set s₂ := run (each (s.loadSites h) stageSite) (run (modLoad h f) s) with hs₂
  have hslot : ∀ j, s₂.slot j = s.slot j := fun j => (keep_slot ws (by decide) _ j).trans (keep_slot wl (by decide) s j)
  have hbay : ∀ b, s₂.bay b = s.bay b := fun b => (keep_bay ws (by decide) _ b).trans (keep_bay wl (by decide) s b)
  have hgrow : ∀ k s, State.wiresGrow s (run (.seq (settleSlots k) (switchCell k)) s) := fun k s => by
    rw [run_seq]
    exact (wiresGrow_keep (w_settleSlots k) s).trans (wiresGrow_switchCell k _)
  have hlast := wiresGrow_each hgrow (s.loadSites h) (run (each (s.loadSites h) markSources) s₂) (k * 16 + q.1)
  refine hlast.subset (mem_wire_each (P := fun t => (∀ j, t.slot j = s.slot j) ∧ ∀ b, t.bay b = s.bay b)
    wiresGrow_markSources (fun y t ht => ?_) hk (fun t ht => ?_) ⟨hslot, hbay⟩)
  · exact ⟨fun j => (keep_slot (w_markSources y) (by decide) t j).trans (ht.1 j),
      fun b => (keep_bay (w_markSources y) (by decide) t b).trans (ht.2 b)⟩
  · obtain ⟨htslot, htbay⟩ := ht
    rw [← htbay]
    exact mem_markSources (by rwa [edgeFeeds_congr htslot])

/-! ### EPOCH_MARKER at a cell (R157) -/

theorem run_epochMarkerA_cell (site : Site) (stream : Fin 64) (s : State) :
    run (epochMarkerA site 8 stream) s = run (markerAtCell (siteKey site) stream.val) s := rfl

theorem run_markerAtCell_none {k st : Nat} {s : State} (h : s.arrived (k * 64 + st) = []) :
    run (markerAtCell k st) s = s := by
  simp only [markerAtCell, run_dyn, h, run_nop]

/-- An A-cell takes a marker of its epoch. -/
theorem run_markerAtCell {k st : Nat} {tok : Token} {rest : List Token} {s : State}
    (h : s.arrived (k * 64 + st) = tok :: rest) (hk : Tok.kind tok = kindMarker)
    (hp : (s.bay (keyBay k)).passes = true) (ha : keyIsA k = true) (hs : (s.acell k).stopped = false)
    (he : Tok.epoch tok = (s.acell k).epoch) (hb : bits 3 0 tok.payload.toNat = (s.acell k).epoch) :
    run (markerAtCell k st) s = run (switchCell k)
      (run (modAcell k fun a => { a with marked := a.marked ||| (1 <<< st) }) (run (popPort k st rest) s)) := by
  simp [markerAtCell, h, hk, hp, ha, hs, he, hb, State.cellEpoch]

/-- The state after the marker has been taken and noted. -/
theorem readers_noteMarker (k st : Nat) (rest : List Token) (s : State) :
    let t := run (modAcell k fun a => { a with marked := a.marked ||| (1 <<< st) }) (run (popPort k st rest) s)
    t.arrived (k * 64 + st) = rest ∧ t.acell k = { s.acell k with marked := (s.acell k).marked ||| (1 <<< st) } ∧
      t.site k = s.site k ∧ ∀ b, t.bay b = s.bay b := by
  have wm : (modAcell k fun a => { a with marked := a.marked ||| (1 <<< st) }).Within ft_nextStep :=
    w_modAcell _ _ (by decide)
  have wp := w_popPort k st rest
  refine ⟨?_, ?_, ?_, fun b => ?_⟩
  · rw [keep_arrived wm (by decide), popPort, run_seq, keep_arrived (p := { flds := [.fab .creditFly], regs := [] })
      (w_modCreditFly _ _ (by decide)) (by decide), run_upd, applyUpd_arrived, if_pos rfl]
  · rw [acell_modAcell, keep_acell wp (by decide)]
  · rw [keep_site wm (by decide), keep_site wp (by decide)]
  · rw [keep_bay wm (by decide), keep_bay wp (by decide)]

theorem testBit_or_shift (m st i : Nat) : (m ||| (1 <<< st)).testBit i = (m.testBit i || decide (st = i)) := by
  rw [Nat.testBit_or, Nat.one_shiftLeft, Nat.testBit_two_pow]

theorem cellInputs_congr {s t : State} {k : Nat} (ha : keyIsA k = true) (h : (t.acell k).steps = (s.acell k).steps) :
    t.cellInputs k = s.cellInputs k := by
  simp only [State.cellInputs, ha, if_true, h]

/-- A cell with an input still to be marked does not switch. -/
theorem run_switchCell_waits {k st : Nat} {s : State} (ha : keyIsA k = true) (hst : st ∈ s.cellInputs k)
    (hm : (s.acell k).marked.testBit st = false) : run (switchCell k) s = s := by
  have hall : ((s.cellInputs k).all fun i => (s.acell k).marked.testBit i) = false :=
    List.all_eq_false.mpr ⟨st, hst, by simp [hm]⟩
  simp only [switchCell, run_dyn, ha, if_true, hall, Bool.and_false, Bool.false_eq_true, if_false, run_nop]

/-- The A-cell that takes the block `b` of configuration tokens into use at epoch `e`. -/
theorem acell_installCell {k e : Nat} {s : State} (ha : keyIsA k = true) : (run (installCell k e) s).acell k =
    { (s.acell k).idle with
      acfg := (sectionOf (s.site k).staged secACFG).head?, steps := blockSteps (s.site k).staged, pc := 0, epoch := e,
      marked := 0 } := by
  have wm : ∀ f, (modSite k f).Within ft_settleSite := fun f => w_modSite _ f (by decide)
  simp only [installCell, run_dyn, run_seq, ha, if_true]
  rw [acell_modAcell, keep_acell (wm _) (by decide)]

/-- A cell whose inputs are all marked, in a site that is to switch, installs its staged block. -/
theorem acell_switchCell {k : Nat} {s : State} (ha : keyIsA k = true) (hsw : (s.site k).switching = true)
    (he : (s.bay (keyBay k)).epoch = (s.acell k).epoch)
    (hall : ∀ st ∈ s.cellInputs k, (s.acell k).marked.testBit st = true) : let a := (run (switchCell k) s).acell k
    a.epoch = ((s.acell k).epoch + 1) % 16 ∧ a.steps = blockSteps (s.site k).staged ∧ a.pc = 0 := by
  have hgo : ((s.site k).switching && decide ((s.acell k).epoch = (s.bay (keyBay k)).epoch) &&
      (s.cellInputs k).all fun st => (s.acell k).marked.testBit st) = true := by
    simp [hsw, he, List.all_eq_true.mpr hall]
  have wp : (each (s.cellOutputs k) fun st => cellPut k st (marker st (s.acell k).epoch)).Within ft_cellSendN :=
    within_each _ fun _ => w_cellPut ..
  simp only [switchCell, run_dyn, State.cellEpoch, ha, if_true, if_pos hgo, run_seqs_cons, run_seqs_nil, run_when']
  rw [keep_acell (w_settleSite k) (by decide), acell_installCell ha, keep_acell wp (by decide), keep_site wp (by decide)]
  exact ⟨rfl, rfl, rfl⟩

/-! ### SWITCH_SLOW (R159) -/

theorem gives_switchSlow (bay : Fin 16) (s : State) : Gives (.switchSlow bay) s fun t =>
    if (s.bay bay.val).st = .switching then t.flag rEXH_ERR 3 = true ∧ ∀ j, t.bay j = s.bay j else t = s := by
  refine gives_of_exec (a := switchSlowA bay.val) rfl ?_
  rw [switchSlowA, run_whenS]
  by_cases h : (s.bay bay.val).st = .switching
  · have w : ∀ x : Inc, x.blk = blkEXH → (incident x).Within (footLog.add { flds := [], regs := [rEXH_ERR] }) :=
      fun x hx => w_incident x (by decide) (hx ▸ errOk_any (by decide))
    rw [if_pos (decide_eq_true h), if_pos h, run_dyn]
    have hc : (3 : Nat) ≠ 0xFF := by decide
    have hv : covers rEXH_ERR 3 3 = true := by decide
    exact ⟨flag_incident_err _ rfl hc hv (by decide) (by decide) s, keep_bay (w _ rfl) (by decide) s⟩
  · rw [if_neg h, if_neg (by simpa using h)]

/-- Settles O16: the path and the load by what they run; the markers, since links only gain tokens while a load closes;
a cell by the marks that it holds after the marker. -/
theorem configurationPath : Obligations.ConfigurationPath := by
  unfold Obligations.ConfigurationPath
  refine ⟨fun site s => ⟨fun h => gives_of_exec (a := configTokenA (siteKey site)) rfl (run_configTokenA_none h),
      fun tok take h => ?path⟩,
    fun load s => ⟨fun h => gives_of_exec (a := loadConfiguredA load.val) rfl (run_loadConfiguredA_idle h),
      fun id hst hway hcmd hrel => ?configured⟩,
    fun load s => ⟨fun h => gives_of_exec (a := replaceCloseA load.val) rfl (run_replaceCloseA_none h),
      fun r hr hph hcmd hway hwhole hstill hturn => ?closes⟩,
    fun site stream s => ⟨fun h => gives_of_exec (a := epochMarkerA site 8 stream) rfl (run_markerAtCell_none h),
      fun tok rest harr hk hp ha hstop he hb => ?marker⟩, gives_switchSlow⟩
  case path =>
    obtain ⟨t, hexec, hmine, hother, hpath, hfull⟩ := gives_configTokenArrive h
    refine ⟨t, hexec, hmine, hother, fun hor => ?_, hfull⟩
    obtain ⟨hinner, hentry⟩ := hpath hor
    split
    · next y hy => exact hinner y hy
    · next hy => exact hentry hy
  case configured =>
    refine gives_of_exec (a := loadConfiguredA load.val) rfl ?_
    rw [run_loadConfiguredA hst hway hcmd hrel]
    exact readers_configured ..
  case closes =>
    refine gives_of_exec (a := replaceCloseA load.val) rfl ?_
    rw [run_replaceCloseA hr hph hcmd hway hwhole hstill hturn]
    exact fun k hkey q hq => mem_closed hkey hq
  case marker =>
    obtain ⟨hrest, hcell, hsite, hbay⟩ := readers_noteMarker (siteKey site) stream.val rest s
    have hrun := run_markerAtCell harr hk hp ha hstop he hb
    set s₁ := run (modAcell (siteKey site) fun a => { a with marked := a.marked ||| (1 <<< stream.val) })
      (run (popPort (siteKey site) stream.val rest) s) with hs₁
    have hin : s₁.cellInputs (siteKey site) = s.cellInputs (siteKey site) := cellInputs_congr ha (by rw [hcell])
    refine ⟨fun ⟨st, hst, hne, hm⟩ => ?waits, fun hsw heb hall => ?switches⟩
    case waits =>
      refine gives_of_exec (a := epochMarkerA site 8 stream) rfl ?_
      rw [run_epochMarkerA_cell, hrun, run_switchCell_waits ha (hin ▸ hst) (by
        rw [hcell, testBit_or_shift, hm, Bool.false_or]; exact decide_eq_false hne.symm), hcell]
      exact ⟨hrest, by rw [testBit_or_shift, decide_eq_true rfl, Bool.or_true], rfl⟩
    case switches =>
      refine gives_of_exec (a := epochMarkerA site 8 stream) rfl ?_
      have hcells := acell_switchCell (s := s₁) ha (hsite ▸ hsw) (by rw [hbay, hcell, heb]) fun st hst => by
        rw [hcell, testBit_or_shift, Bool.or_eq_true, decide_eq_true_eq]
        exact (hall st (hin ▸ hst)).symm.imp_right Eq.symm
      rw [hcell, hsite] at hcells
      rw [run_epochMarkerA_cell, hrun]
      exact ⟨(keep_arrived (w_switchCell _) (by decide) s₁ _).trans hrest, hcells⟩

end Sys2Proof.Machine
end

section
/-!
SUPPORT. Chapters 05 and 12: every change of the state keeps its tables in canonical form; O54.
-/

namespace Sys2Proof.Machine

/-! ### Canonical form (R191, R422) -/

/-- The wipe leaves one table listed, the flash, and empties the others. -/
theorem wf_wipe {s : State} (h : s.boot.wf = true) : (applyUpd .wipe s).wf = true := by
  have he : ({} : State).wf = true := rfl
  simp only [State.wf, Bool.and_eq_true] at he ⊢
  obtain ⟨⟨⟨before, -⟩, hlnk⟩, hsec⟩ := he
  exact ⟨⟨⟨before, h⟩, hlnk⟩, hsec⟩

/-- A primitive change writes one table or none, and a write keeps the table's form; the wipe empties the tables. -/
theorem wf_applyUpd (u : Upd) {s : State} (h : s.wf = true) : (applyUpd u s).wf = true := by
  simp only [State.wf, Memory.wf, Fab.wf, Cells.wf, Exh.wf, Mov.wf, Arbs.wf, Srv.wf, Que.wf, Tens.wf, Integ.wf, Log.wf,
    Mon.wf, Out.wf, Pwr.wf, Boot.wf, Lnk.wf, Sec.wf, Bool.and_eq_true] at h
  cases u with
  | wipe => exact wf_wipe (by simp only [Boot.wf, h])
  | _ => simp only [applyUpd, State.wf, Memory.wf, Fab.wf, Cells.wf, Exh.wf, Mov.wf, Arbs.wf, Srv.wf, Que.wf, Tens.wf,
      Integ.wf, Log.wf, Mon.wf, Out.wf, Pwr.wf, Boot.wf, Lnk.wf, Sec.wf, Bool.and_eq_true, twf_tset, h, and_self]

/-- No script brings a table out of its form. -/
theorem wf_run (a : Act) {s : State} (h : s.wf = true) : (run a s).wf = true :=
  run_keeps (R := fun s t => s.wf = true → t.wf = true) (fun _ h => h) (fun _ _ _ h k => k ∘ h)
    (fun u _ => wf_applyUpd u) a s h

/-- Settles O54: a step runs a script, and every change of a script writes its table in canonical form. -/
theorem stepKeepsForm : Obligations.StepKeepsForm := by
  unfold Obligations.StepKeepsForm
  intro s t hs e
  obtain ⟨a, ha⟩ := step_runs_script s
  obtain rfl : run a { s with pending := s.pending.tail } = t := Host.Outcome.next.inj (ha.symm.trans e)
  exact wf_run a hs

end Sys2Proof.Machine
end

section
/-!
SUPPORT. Chapter 05: copies, pools and docents under a script; a move's end, its division, its placement, a freed copy.
-/

namespace Sys2Proof.Machine

/-! ### What a script leaves of copies, pools and docents -/

theorem keep_objAddr {p : Foot} {a : Act} (w : a.Within p) (s : State) (i : Nat) (hr : rT2C_CTL ∉ p.regs := by decide) :
    (run a s).objAddr i = s.objAddr i := by
  simp only [State.objAddr, State.objBase, keep_fld w _ _ _ _ (by decide) hr]

theorem keep_objCount {p : Foot} {a : Act} (w : a.Within p) (s : State) (hr : rT2C_CTL ∉ p.regs := by decide) :
    (run a s).objCount = s.objCount := by
  simp only [State.objCount, keep_fld w _ _ _ _ (by decide) hr]

/-- A script that touches neither memory nor T2C_CTL leaves every descriptor. -/
theorem keep_obj {p : Foot} {a : Act} (w : a.Within p) (s : State) (i : Nat) (hm : Fld.mem ∉ p.flds := by decide)
    (hr : rT2C_CTL ∉ p.regs := by decide) : (run a s).obj i = s.obj i := by
  unfold State.obj
  rw [keep_objCount w s hr, keep_objAddr w s i hr, keep_bytes w hm]

theorem keep_rivals {p : Foot} {a : Act} (w : a.Within p) (s : State) (pool bays rowLo rowHi : Nat)
    (ha : Fld.mov .allocs ∉ p.flds := by decide) :
    (run a s).rivals pool bays rowLo rowHi = s.rivals pool bays rowLo rowHi := by
  simp only [State.rivals, keep_allocs w ha]

theorem keep_rsvEnd {p : Foot} {a : Act} (w : a.Within p) (s : State) (hr : rT2C_CTL ∉ p.regs := by decide) :
    (run a s).rsvEnd = s.rsvEnd := by
  simp only [State.rsvEnd, keep_fld w _ _ _ _ (by decide) hr]

theorem run_t2Size (a : Act) (s : State) : (run a s).t2Size = s.t2Size := by
  unfold State.t2Size State.stackGib
  rw [run_variant]

theorem keep_t3Size {p : Foot} {a : Act} (w : a.Within p) (s : State) (hr : rT3C_STAT ∉ p.regs := by decide) :
    (run a s).t3Size = s.t3Size := by
  unfold State.t3Size State.t3On
  rw [keep_fld w _ _ _ _ (by decide) hr, keep_flag w _ _ _ (by decide) hr]

theorem keep_poolUnits {p : Foot} {a : Act} (w : a.Within p) (s : State) (pool : Nat) (h2 : rT2C_CTL ∉ p.regs := by decide)
    (h3 : rT3C_STAT ∉ p.regs := by decide) : (run a s).poolUnits pool = s.poolUnits pool := by
  unfold State.poolUnits
  rw [keep_rsvEnd w s h2, run_t2Size, keep_t3Size w s h3]

theorem keep_docMask {p : Foot} {a : Act} (w : a.Within p) (s : State) (hd : Fld.mov .doc ∉ p.flds := by decide) :
    (run a s).docMask = s.docMask := by
  simp only [State.docMask, keep_doc w hd]

/-! ### Moves and their ends -/

theorem move_modMv (m : Nat) (f : Move → Move) (s : State) (j : Nat) :
    (run (modMv m f) s).move j = if j = m then (s.move m).map f else s.move j := applyUpd_move s m _ j

theorem move_modMv_self {m : Nat} {x : Move} {s : State} (h : s.move m = some x) (f : Move → Move) :
    (run (modMv m f) s).move m = some (f x) := by
  rw [move_modMv, if_pos rfl, h, Option.map_some]

/-- A move that has ended with a status code. -/
def Move.ended (x : Move) (code : Nat) : Move := { x with phase := .done, status := code, shares := [] }

theorem run_endMove {m : Nat} {x : Move} {s : State} (h : s.move m = some x) (code : Nat) :
    run (endMove m code) s = run (markMoving [x.src, x.dst, x.lower]) (run (modMv m fun x => x.ended code) s) := by
  simp only [endMove, run_dyn, h, run_withSome_some, run_seq]
  rfl

theorem move_endMove {m : Nat} {x : Move} {s : State} (h : s.move m = some x) (code : Nat) :
    (run (endMove m code) s).move m = some (x.ended code) := by
  rw [run_endMove h, keep_move (w_markMoving _) (by decide), move_modMv_self h]

theorem moveOver_endMove {m : Nat} {x : Move} {s : State} (h : s.move m = some x) (st : Status) :
    (run (endMove m st.code) s).moveOver m st := ⟨_, move_endMove h _, rfl, rfl, rfl⟩

/-! ### Division among docents (R214, R229) -/

/-- The docents of a move: those of its T1 side, else those of its queue that are enabled. -/
def State.docsFor (s : State) (x : Move) : Nat :=
  match s.t1Side x with
  | some o => o.docents
  | none => x.docs &&& s.docMask

/-- A move whose docents are not all enabled is held; any other is cut into shares. -/
theorem move_divideMove {m : Nat} {x : Move} {s : State} (h : s.move m = some x) :
    if s.docsFor x = 0 ∨ s.docsFor x &&& s.docMask ≠ s.docsFor x then
      (run (divideMove m) s).move m = some { x with phase := .held }
    else ∃ shares, (run (divideMove m) s).move m =
      some { x with phase := .copying, docs := s.docsFor x, shares := shares } := by
  have hrun : run (divideMove m) s =
      if s.docsFor x = 0 ∨ s.docsFor x &&& s.docMask ≠ s.docsFor x then
        run (when' (decide (x.phase ≠ .held)) (setErr blkDOC 2)) (run (modMv m fun x => { x with phase := .held }) s)
      else run (.dyn fun s => withSome (s.move m) fun x => modMv m fun y =>
          { y with shares := ((List.range 64).filter (fun d =>
              (s.pieces x).any (fun p => decide (p.1 = d)))).map (fun d => (d, 0)) })
        (run (modMv m fun y => { y with phase := .copying, docs := s.docsFor x }) s) := by
    simp only [divideMove, run_dyn, h, run_withSome_some, run_ite, run_seq]
    rfl
  rw [hrun]
  split
  · have w : (when' (decide (x.phase ≠ .held)) (setErr blkDOC 2)).Within { flds := [], regs := [rDOC_ERR] } :=
      within_when' (w_setErr _ _ (by decide))
    rw [keep_move w (by decide), move_modMv_self h]
  · rw [run_dyn, move_modMv_self h, run_withSome_some, move_modMv_self (move_modMv_self h _)]
    exact ⟨_, rfl⟩

/-! ### Placement (R206, R208) -/

/-- The run of units that copy `d` with descriptor `o` takes from unit `u` of its pool in a tier. -/
def Obj.allocAt (o : Obj) (d tier u : Nat) : Alloc :=
  { copy := d, pool := o.poolOf tier, start := u, count := o.unitsOf tier
    bays := if o.poolOf tier = 0 then o.bays else 0, rowLo := o.rowLo, rowHi := o.rowHi }

/-- The lowest free run for a copy with descriptor `o` in a tier. -/
def State.runFor (s : State) (o : Obj) (tier : Nat) : Option Nat :=
  lowestRun (s.rivals (o.poolOf tier) (if o.poolOf tier = 0 then o.bays else 0) o.rowLo o.rowHi)
    (s.poolUnits (o.poolOf tier)) (o.unitsOf tier)

/-- The descriptor of a copy placed at unit `u` of its pool in a tier, still to be filled. -/
def State.placedObj (s : State) (o : Obj) (tier u : Nat) : Obj :=
  { o with
    addr := s.unitAddr (o.poolOf tier) u, tier := tier, whole := false, moving := true, dirty := false
    poisoned := false, crcv := false, pin := 0, age := 0, crc := 0 }

/-- A free run at the first try: it is recorded, the descriptor is written, and the placement goes on. -/
theorem run_placeCopy_found {d tier tenant n u : Nat} {got full : Act} {skip : List Nat} {o : Obj} {s : State}
    (ho : s.obj d = some o) (hu : s.runFor o tier = some u) :
    run (placeCopy d tier tenant got full (n + 1) skip) s =
      run got (run (setObj d (s.placedObj o tier u)) (applyUpd (.allocs (s.allocs ++ [o.allocAt d tier u])) s)) := by
  unfold State.runFor at hu
  simp only [placeCopy, run_dyn, ho, run_withSome_some, hu, run_seqs_cons, run_seqs_nil, run_upd]
  rfl

/-! ### A freed copy (R194) -/

theorem length_objBytes (o : Obj) : (objBytes o).length = 64 := by
  simp only [objBytes, List.length_append, length_leBytes, List.length_flatMap]
  rfl

theorem bytes_setObj (i : Nat) (o : Obj) (s : State) : (run (setObj i o) s).bytes (s.objAddr i) 64 = objBytes o := by
  have h := bytes_writeBytes (s.objAddr i) (objBytes o) s
  rw [length_objBytes] at h
  rw [setObj, run_dyn, h]

/-- A free descriptor as memory shows it has TIER 0. -/
theorem tier_objOf_freeObj (o : Obj) : (objOf (objBytes (freeObj o))).tier = 0 := by
  have hst : ∀ v w, leAt (leBytes 6 v ++ (leBytes 1 0 ++ w)) 6 1 = 0 := fun v w => rfl
  simp only [objOf, objBytes, freeObj, List.append_assoc, b2n, Bool.false_eq_true, if_false, Nat.mul_zero, Nat.add_zero, hst]

/-- What a freed copy leaves: its descriptor free, and no run of units in its name. -/
theorem readers_freeCopy {i : Nat} {o : Obj} {s : State} (ho : s.obj i = some o) :
    (run (freeCopy i) s).bytes (s.objAddr i) 64 = objBytes (freeObj o) ∧
      (run (freeCopy i) s).allocs = s.allocs.filter (fun a => decide (a.copy ≠ i)) := by
  have wimg : (when' (decide (o.tier = 1) && decide (o.bays = 0)) (each (List.range 32) fun e =>
      whenS (fun s => (s.imgEntry e).valid && decide ((s.imgEntry e).image.addr = o.addr)) (.upd (.imgEntry e {})))).Within
      { flds := [.exh .imgEntry], regs := [] } :=
    within_when' (within_each _ fun _ => within_whenS (within_upd ⟨_, rfl, by decide⟩))
  have wall : (Act.upd (.allocs (s.allocs.filter fun a => decide (a.copy ≠ i)))).Within
      { flds := [.mov .allocs], regs := [] } := within_upd ⟨_, rfl, by decide⟩
  simp only [freeCopy, run_dyn, ho, run_withSome_some, run_seqs_cons, run_seqs_nil]
  rw [keep_bytes wimg (by decide), keep_allocs wimg (by decide), keep_bytes wall (by decide), bytes_setObj]
  exact ⟨rfl, rfl⟩

theorem lt_objCount_of_obj {i : Nat} {o : Obj} {s : State} (ho : s.obj i = some o) : i < s.objCount := by
  by_contra h
  simp only [State.obj, if_neg h, reduceCtorEq] at ho

theorem obj_freeCopy {i : Nat} {o : Obj} {s : State} (ho : s.obj i = some o) :
    (run (freeCopy i) s).obj i = some (objOf (objBytes (freeObj o))) := by
  unfold State.obj
  rw [keep_objCount (w_freeCopy i), keep_objAddr (w_freeCopy i), (readers_freeCopy ho).1, if_pos (lt_objCount_of_obj ho)]

end Sys2Proof.Machine
end

section
/-!
SUPPORT. Chapter 05: the start of a move, from its check to its copy, its shares or its end; O18.
-/

namespace Sys2Proof.Machine

/-! ### Scripts that find nothing to do -/

/-- A list of scripts of which none changes the state changes nothing. -/
theorem run_each_id {α : Type} {l : List α} {f : α → Act} {s : State} (h : ∀ x ∈ l, run (f x) s = s) :
    run (each l f) s = s := by
  induction l with
  | nil => rfl
  | cons x l ih => rw [run_each_cons, h x List.mem_cons_self, ih fun y hy => h y (List.mem_cons_of_mem x hy)]

/-- No mark is kept on free descriptors. -/
theorem run_markMoving_free {is : List (Option Nat)} {s : State}
    (h : ∀ i o, some i ∈ is → s.obj i = some o → o.tier = 0) : run (markMoving is) s = s := by
  refine run_each_id fun c hc => ?_
  cases c with
  | none => rfl
  | some i =>
    simp only [run_withSome_some, run_dyn]
    cases ho : s.obj i with
    | none => rfl
    | some o => simp only [h i o hc ho, true_or, if_true, run_nop]

/-- Nothing fails with a copy that no started move has as its source. -/
theorem run_failDependents_none {n i : Nat} {s : State}
    (h : ∀ k ∈ s.moveIds, ∀ x, s.move k = some x → ¬ (x.src = some i ∧ (x.phase = .copying ∨ x.phase = .held))) :
    run (failDependents n i) s = s := by
  cases n with
  | zero => rfl
  | succ n =>
    simp only [failDependents, run_dyn]
    refine run_each_id fun k hk => ?_
    cases hx : s.move k with
    | none => simp only [run_dyn, hx, run_withSome_none]
    | some x => simp only [run_dyn, hx, run_withSome_some, if_neg (h k hk x hx), run_nop]

/-- A write at the only key of a table that is no default leaves it the only key. -/
theorem tkeys_tset_single {α : Type} [DecidableEq α] {d : Nat → α} {t : Tab α} {k : Nat} {v : α} (ht : tkeys t = [k])
    (hv : v ≠ d k) : tkeys (tset d t k v) = [k] := by
  obtain ⟨w, rfl⟩ : ∃ w, t = [(k, w)] := by
    obtain ⟨p, rfl, hp⟩ := List.map_eq_singleton_iff.mp ht
    exact ⟨p.2, by rw [← hp]⟩
  simp [tset, tdel, tkeys, hv]

theorem keep_moveIds {p : Foot} {a : Act} (w : a.Within p) (hn : Fld.mov .move ∉ p.flds) (s : State) :
    (run a s).moveIds = s.moveIds := congrArg tkeys ((w.frame s).2.2.1 _ hn)

theorem moveIds_modMv_single {m : Nat} {x : Move} {s : State} (hx : s.move m = some x) (hm : s.moveIds = [m])
    (f : Move → Move) : (run (modMv m f) s).moveIds = [m] := by
  have hmv : (run (modMv m f) s).mov.moves = tset (fun _ => none) s.mov.moves m (some (f x)) := by
    simp only [modMv, modMove, run_dyn, run_upd, hx, Option.map_some]
    rfl
  rw [State.moveIds, hmv]
  exact tkeys_tset_single hm (by simp)

/-! ### The start of a move (R200 to R209) -/

/-- What the check of a move leads to. -/
def checkedMove (m : Nat) (x : Move) : MoveCheck → Act
  | .shape => endMove m Status.shapeInvalid.code
  | .window => .seq (windowFault x.tenant) (endMove m Status.shapeInvalid.code)
  | .busy => endMove m Status.busy.code
  | .go tier lower size => goMove m x tier lower size

theorem run_moveStart_none {kind : MoveKind} {m : Nat} {s : State} (h : s.move m = none) :
    run (moveStart kind m) s = s := by
  simp only [moveStart, run_dyn, h, run_withSome_none]

theorem run_moveStart_idle {kind : MoveKind} {m : Nat} {x : Move} {s : State} (hx : s.move m = some x)
    (h : x.kind ≠ kind ∨ x.phase ≠ .new ∨ s.stilled = true ∨ s.sourceComing m x = true) :
    run (moveStart kind m) s = s := by
  simp only [moveStart, run_dyn, hx, run_withSome_some, if_pos h, run_nop]

theorem run_moveStart {m : Nat} {x : Move} {s : State} (hx : s.move m = some x) (hp : x.phase = .new)
    (hs : s.stilled = false) (hc : s.sourceComing m x = false) :
    run (moveStart x.kind m) s = run (checkedMove m x (s.moveCheck x)) s := by
  have hn : ¬ (x.kind ≠ x.kind ∨ x.phase ≠ .new ∨ s.stilled = true ∨ s.sourceComing m x = true) := by
    simp [hp, hs, hc]
  simp only [moveStart, run_dyn, hx, run_withSome_some, if_neg hn]
  cases s.moveCheck x <;> rfl

theorem exec_moveRow (kind : MoveKind) (m : Nat) (s : State) :
    exec (moveRow kind m) s = .next (run (moveStart kind m) s) := by cases kind <;> rfl

/-- A move's figures once its check has passed. -/
def State.planned (s : State) (x : Move) (lower : Option Nat) (size : Nat) (y : Move) : Move :=
  { y with size := size, lower := lower, crcWas := (x.src.bind s.obj).bind fun o => if o.crcv then some o.crc else none }

/-- What a new copy of a move brings, once it is placed. -/
def placedMove (m d : Nat) (x : Move) : Act :=
  seqs [
    modMv m (fun x => { x with made := true }),
    when' (decide (x.kind = .fetch)) (modObj d (fun o => { o with lower := x.src.getD noIdx })),
    divideMove m,
    markMoving [x.src, some d]]

theorem run_goMove_dst {m d tier size : Nat} {x : Move} {lower : Option Nat} {s : State} (hk : x.kind.hasDst = true)
    (hd : x.dst = some d) : run (goMove m x tier lower size) s =
      run (placeCopy d tier x.tenant (placedMove m d x) (endMove m Status.busy.code) (s.allocs.length + 1) [])
        (run (modMv m (s.planned x lower size)) s) := by
  simp only [goMove, run_dyn, run_seq, hk, if_true, hd]
  rfl

theorem run_goMove_carry {m tier size : Nat} {x : Move} {lower : Option Nat} {s : State} (hk : x.kind.hasDst = false)
    (hz : size ≠ 0) : run (goMove m x tier lower size) s =
      run (markMoving [x.src, lower]) (run (divideMove m) (run (modMv m (s.planned x lower size)) s)) := by
  simp only [goMove, run_dyn, run_seq, hk, Bool.false_eq_true, if_false, if_neg hz]
  rfl

theorem run_goMove_writeback_clean {m tier : Nat} {x : Move} {lower : Option Nat} {s : State} (hk : x.kind = .writeback) :
    run (goMove m x tier lower 0) s = run (endMove m Status.ok.code) (run (modMv m (s.planned x lower 0)) s) := by
  simp only [goMove, run_dyn, run_seq, hk, MoveKind.hasDst, Bool.false_eq_true, if_false, if_true, run_when', reduceCtorEq,
    decide_false]
  rfl

theorem run_goMove_drop_clean {m tier : Nat} {x : Move} {lower : Option Nat} {s : State} (hk : x.kind = .drop) :
    run (goMove m x tier lower 0) s = run (endMove m Status.ok.code)
      (run (withSome x.src fun i => .seq (freeCopy i) (failDependents (s.moveIds.length + 1) i))
        (run (modMv m (s.planned x lower 0)) s)) := by
  simp only [goMove, run_dyn, run_seq, hk, MoveKind.hasDst, Bool.false_eq_true, if_false, if_true, run_when', decide_true]
  rfl

/-! ### How each check ends -/

/-- A move that is to be checked: it is new, and neither a stilled module nor an earlier move holds it. -/
structure State.checks (s : State) (m : Nat) (x : Move) : Prop where
  isMove : s.move m = some x
  isNew : x.phase = .new
  running : s.stilled = false
  noneComing : s.sourceComing m x = false

theorem gives_checked {kind : MoveKind} {m : Nat} {x : Move} {s : State} {q : State → Prop} (h : s.checks m x)
    (hk : x.kind = kind) {c : MoveCheck} (hc : s.moveCheck x = c) (hq : q (run (checkedMove m x c) s)) :
    Gives (moveRow kind m) s q := by
  subst hk hc
  exact gives_of_exec (exec_moveRow _ m s) (run_moveStart h.isMove h.isNew h.running h.noneComing ▸ hq)

theorem w_planned (m : Nat) (x : Move) (lower : Option Nat) (size : Nat) (s : State) :
    (modMv m (s.planned x lower size)).Within ft_modMv := w_modMv m _

theorem move_planned {m : Nat} {x : Move} {s : State} (h : s.move m = some x) (lower : Option Nat) (size : Nat) :
    (run (modMv m (s.planned x lower size)) s).move m = some (s.planned x lower size x) := move_modMv_self h _

/-- A window fault comes with its incident. -/
theorem readers_window {m : Nat} {x : Move} {s : State} (hx : s.move m = some x) :
    let t := run (checkedMove m x .window) s
    t.moveOver m .shapeInvalid ∧ t.flag rSEC_ERR 3 = true := by
  have hx' : (run (windowFault x.tenant) s).move m = some x := (keep_move (w_windowFault _) (by decide) s m).trans hx
  refine ⟨moveOver_endMove hx' .shapeInvalid, ?_⟩
  have hf : (run (windowFault x.tenant) s).flag rSEC_ERR 3 = true :=
    flag_incident_err { cls := .B, blk := blkSEC, code := 3, status := Status.shapeInvalid.code, tenant := some x.tenant }
      rfl (show 3 ≠ 0xFF by decide) (show covers rSEC_ERR 3 3 = true by decide) (by decide) (by decide) s
  exact (keep_flag (w_endMove m _) rSEC_ERR 3 0 (by decide) (by decide) _).trans hf

/-- Once its copy is placed, a move is divided or held, and no other unit is taken. -/
theorem readers_placedMove {m d : Nat} {x y : Move} {s : State} (hm : s.move m = some y) :
    (run (placedMove m d x) s).allocs = s.allocs ∧ ∃ z, (run (placedMove m d x) s).move m = some z ∧ z.made = true ∧
      z.size = y.size ∧ (z.phase = .copying ∨ z.phase = .held) := by
  have wl : (when' (decide (x.kind = .fetch)) (modObj d fun o => { o with lower := x.src.getD noIdx })).Within ft_setObj :=
    within_when' (w_modObj d _)
  simp only [placedMove, run_seqs_cons, run_seqs_nil]
  rw [keep_allocs (w_markMoving _) (by decide), keep_allocs (w_divideMove m) (by decide), keep_allocs wl (by decide),
    keep_allocs (w_modMv m _) (by decide), keep_move (w_markMoving _) (by decide)]
  have hdiv := move_divideMove ((keep_move wl (by decide) _ m).trans (move_modMv_self hm fun x => { x with made := true }))
  refine ⟨rfl, ?_⟩
  split at hdiv
  · exact ⟨_, hdiv, rfl, rfl, .inr rfl⟩
  · obtain ⟨shares, hdiv⟩ := hdiv
    exact ⟨_, hdiv, rfl, rfl, .inl rfl⟩

/-- A new copy takes the lowest free run, and its move is divided or held. -/
theorem readers_goMove_place {m tier size d u : Nat} {x : Move} {lower : Option Nat} {o : Obj} {s : State}
    (hx : s.move m = some x) (hk : x.kind.hasDst = true) (hd : x.dst = some d) (ho : s.obj d = some o)
    (hu : s.runFor o tier = some u) : let t := run (goMove m x tier lower size) s
    t.allocs = s.allocs ++ [o.allocAt d tier u] ∧
      ∃ y, t.move m = some y ∧ y.made = true ∧ y.size = size ∧ (y.phase = .copying ∨ y.phase = .held) := by
  set s₁ := run (modMv m (s.planned x lower size)) s with hs₁
  have wp := w_planned m x lower size s
  have ho₁ : s₁.obj d = some o := (keep_obj wp s d).trans ho
  have hu₁ : s₁.runFor o tier = some u := by
    rw [State.runFor, keep_rivals wp, keep_poolUnits wp]; exact hu
  have ha₁ : s₁.allocs = s.allocs := keep_allocs wp (by decide) s
  rw [run_goMove_dst hk hd, run_placeCopy_found ho₁ hu₁, ha₁]
  set s₂ := run (setObj d (s₁.placedObj o tier u)) (applyUpd (.allocs (s.allocs ++ [o.allocAt d tier u])) s₁) with hs₂
  have hm₂ : s₂.move m = some (s.planned x lower size x) :=
    (keep_move (w_setObj d _) (by decide) _ m).trans (move_planned hx lower size)
  have ha₂ : s₂.allocs = s.allocs ++ [o.allocAt d tier u] := keep_allocs (w_setObj d _) (by decide) _
  obtain ⟨hallocs, hmove⟩ := readers_placedMove (d := d) (x := x) hm₂
  exact ⟨hallocs.trans ha₂, hmove⟩

/-- Bytes to carry and no T1 side: the move is dealt over the enabled docents of its queue. -/
theorem readers_goMove_carry {m tier size i : Nat} {x : Move} {lower : Option Nat} {o : Obj} {s : State}
    (hx : s.move m = some x) (hk : x.kind.hasDst = false) (hz : size ≠ 0) (hi : x.src = some i) (ho : s.obj i = some o)
    (ht : o.tier ≠ 1) (hmade : x.made = false) (hdocs : x.docs &&& s.docMask ≠ 0) :
    ∃ y, (run (goMove m x tier lower size) s).move m = some y ∧ y.phase = .copying ∧ y.size = size ∧ y.lower = lower ∧
      y.docs = x.docs &&& s.docMask := by
  set s₁ := run (modMv m (s.planned x lower size)) s with hs₁
  have wp := w_planned m x lower size s
  have hside : s₁.t1Side (s.planned x lower size x) = none := by
    simp only [State.t1Side, State.planned, hmade, Bool.false_eq_true, if_false, hi, Option.bind_some, keep_obj wp, ho,
      if_neg ht, Option.none_or, hs₁]
  have hfor : s₁.docsFor (s.planned x lower size x) = x.docs &&& s.docMask := by
    rw [State.docsFor, hside, keep_docMask wp]
    rfl
  have hdiv := move_divideMove (move_planned hx lower size)
  rw [hfor, keep_docMask wp, Nat.and_assoc, Nat.and_self, if_neg (by simp [hdocs])] at hdiv
  obtain ⟨shares, hdiv⟩ := hdiv
  rw [run_goMove_carry hk hz, keep_move (w_markMoving _) (by decide)]
  exact ⟨_, hdiv, rfl, rfl, rfl, rfl⟩

/-- A drop of a clean copy that is the only move in flight. -/
theorem readers_goMove_drop {m i : Nat} {x : Move} {o : Obj} {s : State} (hx : s.move m = some x) (hk : x.kind = .drop)
    (hnew : x.phase = .new) (hd : x.dst = none) (hi : x.src = some i) (ho : s.obj i = some o) (honly : s.moveIds = [m]) :
    let t := run (goMove m x 0 none 0) s
    t.moveOver m .ok ∧ t.allocs = s.allocs.filter (fun a => decide (a.copy ≠ i)) ∧
      t.bytes (s.objAddr i) 64 = objBytes (freeObj o) := by
  set s₁ := run (modMv m (s.planned x none 0)) s with hs₁
  have wp := w_planned m x none 0 s
  have ho₁ : s₁.obj i = some o := (keep_obj wp s i).trans ho
  set s₂ := run (freeCopy i) s₁ with hs₂
  have hm₂ : s₂.move m = some (s.planned x none 0 x) :=
    (keep_move (w_freeCopy i) (by decide) _ m).trans (move_planned hx none 0)
  have hids : s₂.moveIds = [m] := (keep_moveIds (w_freeCopy i) (by decide) _).trans (moveIds_modMv_single hx honly _)
  have hfail : run (failDependents (s.moveIds.length + 1) i) s₂ = s₂ := run_failDependents_none fun k hk y hy => by
    obtain rfl : k = m := by rwa [hids, List.mem_singleton] at hk
    obtain rfl := Option.some.inj (hm₂.symm.trans hy)
    simp [State.planned, hnew]
  have hend : run (endMove m Status.ok.code) s₂ = run (modMv m fun x => x.ended Status.ok.code) s₂ := by
    refine (run_endMove hm₂ _).trans (run_markMoving_free fun j p hj hp => ?_)
    obtain rfl : j = i := by simpa [State.planned, hi, hd] using hj
    rw [keep_obj (w_modMv m _), obj_freeCopy ho₁] at hp
    exact Option.some.inj hp ▸ tier_objOf_freeObj o
  obtain ⟨hbytes, hallocs⟩ := readers_freeCopy ho₁
  rw [run_goMove_drop_clean hk, hi, run_withSome_some, run_seq, hfail]
  refine ⟨moveOver_endMove hm₂ .ok, ?_, ?_⟩
  · rw [keep_allocs (w_endMove m _) (by decide), hallocs, keep_allocs wp (by decide)]
  · rw [hend, keep_bytes (w_modMv m _) (by decide), ← keep_objAddr wp, hbytes]

/-- A check that passes finds no destination on a kind that has none. -/
theorem dst_none_of_go {x : Move} {s : State} {tier size : Nat} {lower : Option Nat} (h : s.moveCheck x = .go tier lower size)
    (hk : x.kind.hasDst = false) : x.dst = none := by
  by_contra hd
  have hshape : s.moveCheck x = .shape := by
    unfold State.moveCheck
    rw [if_pos (by simp [hk, Option.isSome_iff_ne_none, hd])]
  exact absurd (hshape.symm.trans h) (by simp)

/-- Settles O18: by the check's answer, and for a move that may go on by what it carries. -/
theorem moveStarts : Obligations.MoveStarts := by
  unfold Obligations.MoveStarts
  intro kind m s
  refine ⟨fun h => gives_of_exec (exec_moveRow kind m s) (run_moveStart_none h), fun x hx =>
    ⟨fun h => gives_of_exec (exec_moveRow kind m s) (run_moveStart_idle hx h), fun hk hp hs hc => ?_⟩⟩
  have hready : s.checks m x := ⟨hx, hp, hs, hc⟩
  refine ⟨fun h => ?shape, fun h => ?window, fun h => ?busy, fun tier size d o u h hkind hd ho hu => ?place,
    fun tier lower size i o h hz hkind hi ho ht hmade hdocs => ?carry, fun tier lower hkind h => ?clean,
    fun i o hkind h hi ho honly => ?drop⟩
  case shape => exact gives_checked hready hk h (moveOver_endMove hx .shapeInvalid)
  case window => exact gives_checked hready hk h (readers_window hx)
  case busy => exact gives_checked hready hk h (moveOver_endMove hx .busy)
  case place =>
    have hdst : x.kind.hasDst = true := by rcases hkind with h | h | h <;> rw [hk, h] <;> rfl
    exact gives_checked hready hk h (readers_goMove_place hx hdst hd ho hu)
  case carry =>
    have hdst : x.kind.hasDst = false := by rcases hkind with h | h <;> rw [hk, h] <;> rfl
    exact gives_checked hready hk h (readers_goMove_carry hx hdst (Nat.ne_of_gt hz) hi ho ht hmade hdocs)
  case clean =>
    refine gives_checked hready hk h ?_
    rw [checkedMove, run_goMove_writeback_clean (hk.trans hkind)]
    exact ⟨moveOver_endMove (move_planned hx lower 0) .ok, (keep_allocs (w_endMove m _) (by decide) _).trans
      (keep_allocs (w_planned m x lower 0 s) (by decide) s)⟩
  case drop =>
    have hdrop : x.kind = .drop := hk.trans hkind
    exact gives_checked hready hk h
      (readers_goMove_drop hx hdrop hp (dst_none_of_go h (by rw [hdrop]; rfl)) hi ho honly)

end Sys2Proof.Machine
end

section
/-!
SUPPORT. Chapters 05 and 06: the bytes that a docent carries, and the end of a finished move; O19.
-/

namespace Sys2Proof.Machine

/-! ### Rules for lists of scripts and for bytes -/

/-- What each script of a list keeps, the list keeps. -/
theorem run_each_invariant {α : Type} {P : State → Prop} {f : α → Act} (h : ∀ x s, P s → P (run (f x) s))
    (l : List α) {s : State} (hs : P s) : P (run (each l f) s) := by
  induction l generalizing s with
  | nil => exact hs
  | cons x l ih => rw [run_each_cons]; exact ih (h x s hs)

theorem w_writeBytes (a : Nat) (bs : List Byte) : (writeBytes a bs).Within ft_setObj := within_writeBytes (by decide) a bs

/-- A byte inside a write. -/
theorem byte_writeBytes_at {a i : Nat} {bs : List Byte} (hi : i < bs.length) (s : State) :
    (run (writeBytes a bs) s).byte (a + i) = bs.getD i 0 := by
  have h := congrArg (fun l => l.getD i 0) (bytes_writeBytes a bs s)
  simpa [State.bytes, List.getD, hi] using h

theorem byte_writeBytes_zero {a n j : Nat} {s : State} (h : s.byte j = 0) :
    (run (writeBytes a (List.replicate n 0)) s).byte j = 0 := by
  by_cases hj : a ≤ j ∧ j < a + n
  · obtain ⟨i, rfl⟩ := Nat.exists_eq_add_of_le hj.1
    rw [byte_writeBytes_at (by rw [List.length_replicate]; omega), List.getD_replicate _ (by omega)]
  · rw [byte_writeBytes_other (by rw [List.length_replicate]; omega), h]

/-! ### One 64 B unit of a move (R228) -/

/-- ALLOC has no source: the unit is cleared. -/
theorem run_carryUnit_alloc {m off : Nat} {f : Found} {x : Move} {s : State} (hx : s.move m = some x) (hk : x.kind = .alloc) :
    run (carryUnit m off f) s =
      run (markBad (s.dstByte x off) 64 false) (run (writeBytes (s.dstByte x off) (List.replicate 64 0)) s) := by
  have hsrc : s.srcByte x off = none := by rw [State.srcByte, hk]
  simp only [carryUnit, run_dyn, hx, run_withSome_some, hsrc, run_seq]

/-- A unit in which nothing is wrong is copied as it stands. -/
theorem run_carryUnit_clean {m off p : Nat} {x : Move} {s : State} (hx : s.move m = some x) (hp : s.srcByte x off = some p)
    (hb : s.bad p = false) (hb' : s.bad (p + 32) = false) : run (carryUnit m off .clean) s =
      run (seqs [.upd (.bad (s.dstByte x off / 32) false), .upd (.bad (s.dstByte x off / 32 + 1) false)])
        (run (writeBytes (s.dstByte x off) (s.bytes p 32 ++ s.bytes (p + 32) 32)) s) := by
  simp only [carryUnit, run_dyn, hx, run_withSome_some, hp, hb, hb', State.readClean, run_seqs_cons, run_seqs_nil, run_when',
    reduceCtorEq, decide_false, Bool.or_false, Bool.false_and, Bool.false_eq_true, if_false]

/-! ### DOCENT_SHARE (R215, R227) -/

/-- The `n` units of 64 B from offset `off` of a move, of which the source tier's code reports nothing. -/
def carryUnits (m off n : Nat) : Act := each (List.range n) fun k => carryUnit m (off + 64 * k) .clean

/-- Move `y` after docent `d` has carried its share to byte `done` of `total`. -/
def Move.carried (y : Move) (d done total : Nat) : Move :=
  { y with shares := if total ≤ done then y.shares.filter (fun p => decide (p.1 ≠ d))
      else y.shares.map (fun p => if p.1 = d then (d, done) else p) }

/-- What follows the bytes of a segment of `n` bytes: the charge, the queue's count, the share, the docent. -/
def settleShare (m d tier n done total : Nat) (x : Move) : Act :=
  seqs [chargeBytes x.tenant tier n, modIq x.iq (fun q => { q with bytes := sat 64 (q.bytes + n) }),
    modMv m (fun y => y.carried d done total), settleDocent d]

theorem run_docentShareA_idle {d : Nat} {found : List (Nat × Found)} {s : State}
    (h : s.doc d = .stopped ∨ s.stilled = true ∨ s.oldestShare d = none) : run (docentShareA d found) s = s := by
  rcases h with h | h | h
  · simp only [docentShareA, run_dyn, if_pos (Or.inl h), run_nop]
  · simp only [docentShareA, run_dyn, if_pos (Or.inr h), run_nop]
  · simp only [docentShareA, run_dyn, run_ite, h, run_withSome_none, run_nop, ite_self]

theorem run_docentShareA {d m n : Nat} {x : Move} {pos : Nat × Nat × Nat} {s : State} (hd : s.doc d ≠ .stopped)
    (hs : s.stilled = false) (ho : s.oldestShare d = some (m, n)) (hx : s.move m = some x)
    (hpos : shareAt (s.docentPieces x d) n = some pos) : let len := min (s.segment x) (pos.2.1 - pos.2.2)
    run (docentShareA d []) s = run (settleShare m d (s.chargeTier x) len (n + len)
        ((s.docentPieces x d).map fun p => p.2).sum x) (run (carryUnits m (pos.1 + pos.2.2) (len / 64)) s) := by
  have hn : ¬ (s.doc d = .stopped ∨ s.stilled = true) := by simp [hd, hs]
  simp only [docentShareA, run_dyn, if_neg hn, ho, run_withSome_some, hx, hpos, run_seqs_cons, run_seqs_nil, settleShare]
  rfl

/-- The settling of a share touches no byte of memory. -/
def ft_settleShare : Foot :=
  { flds := [.mov .iq, .mov .move, .mov .doc], regs := [rTEN_ACC_T1, rTEN_ACC_T2, rTEN_ACC_T3] }

theorem w_settleShare (m d tier n done total : Nat) (x : Move) : (settleShare m d tier n done total x).Within ft_settleShare :=
  .seq ((w_chargeBytes _ _ _).mono (by decide)) (.seq (w_modIq _ _ (by decide))
    (.seq ((w_modMv _ _).mono (by decide)) ((w_settleDocent _).mono (by decide))))

/-- A segment of ALLOC clears its first unit, whatever else it clears. -/
theorem byte_carryUnits_alloc {m off n i : Nat} {x : Move} {s : State} (hx : s.move m = some x) (hk : x.kind = .alloc)
    (hn : 0 < n) (hi : i < 64) : (run (carryUnits m off n) s).byte (s.dstByte x off + i) = 0 := by
  obtain ⟨k, rfl⟩ := Nat.exists_eq_add_of_le' hn
  have hunit : ∀ off' t, t.move m = some x → run (carryUnit m off' .clean) t =
      run (markBad (t.dstByte x off') 64 false) (run (writeBytes (t.dstByte x off') (List.replicate 64 0)) t) :=
    fun _ _ ht => run_carryUnit_alloc ht hk
  have hmove : ∀ off' t, t.move m = some x → (run (carryUnit m off' .clean) t).move m = some x := fun off' t ht => by
    rw [hunit off' t ht, keep_move (w_markBad _ _ _) (by decide), keep_move (w_writeBytes _ _) (by decide), ht]
  rw [carryUnits, List.range_succ_eq_map, run_each_cons]
  refine (run_each_invariant (P := fun t => t.move m = some x ∧ t.byte (s.dstByte x off + i) = 0)
    (fun k t ht => ⟨hmove _ t ht.1, ?_⟩) _ ⟨hmove _ s hx, ?_⟩).2
  · rw [hunit _ t ht.1, keep_byte (w_markBad _ _ _) (by decide), byte_writeBytes_zero ht.2]
  · rw [hunit _ s hx, keep_byte (w_markBad _ _ _) (by decide), Nat.mul_zero, Nat.add_zero,
      byte_writeBytes_at (by rwa [List.length_replicate]), List.getD_replicate _ hi]

/-- The last segment of a docent's share leaves it no share of the move. -/
theorem readers_settleShare_last {m d n done total : Nat} {x y : Move} {s : State} (hy : s.move m = some y)
    (ht : total ≤ done) : let t := run (settleShare m d 2 n done total x) s
    t.fld rTEN_ACC_T2 63 0 x.tenant = sat 64 (s.fld rTEN_ACC_T2 63 0 x.tenant + n) ∧
      ∃ z, t.move m = some z ∧ ∀ q ∈ z.shares, q.1 ≠ d := by
  have wiq : (modIq x.iq fun q => { q with bytes := sat 64 (q.bytes + n) }).Within { flds := [.mov .iq], regs := [] } :=
    w_modIq _ _ (by decide)
  simp only [settleShare, run_seqs_cons, run_seqs_nil]
  rw [keep_fld (w_settleDocent d) _ _ _ _ (by decide) (by decide), keep_fld (w_modMv m _) _ _ _ _ (by decide) (by decide),
    keep_fld wiq _ _ _ _ (by decide) (by decide), keep_move (w_settleDocent d) (by decide)]
  have hmove := (keep_move wiq (by decide) _ m).trans ((keep_move (w_chargeBytes x.tenant 2 n) (by decide) s m).trans hy)
  refine ⟨fld_addFld rTEN_ACC_T2 63 0 n x.tenant s (by decide) (by decide), y.carried d done total,
    move_modMv_self hmove _, fun q hq => ?_⟩
  rw [Move.carried, if_pos ht] at hq
  exact of_decide_eq_true (List.mem_filter.mp hq).2

/-- A whole unit of EXPORT. -/
theorem readers_carryUnits_export {m off p : Nat} {x : Move} {s : State} (hx : s.move m = some x) (hk : x.kind = .exportStage)
    (hp : s.srcByte x off = some p) (hb : s.bad p = false) (hb' : s.bad (p + 32) = false) :
    let t := run (carryUnits m off 1) s
    (∀ i, i < 64 → t.byte (x.stage + off + i) = (s.bytes p 32 ++ s.bytes (p + 32) 32).getD i 0) ∧ t.move m = some x ∧
      ∀ h l i, t.fld rTEN_ACC_T2 h l i = s.fld rTEN_ACC_T2 h l i := by
  have hdst : s.dstByte x off = x.stage + off := by rw [State.dstByte, hk]
  have wbad : (seqs [.upd (.bad (s.dstByte x off / 32) false), .upd (.bad (s.dstByte x off / 32 + 1) false)]).Within
      { flds := [.poison], regs := [] } := .seq (within_upd ⟨_, rfl, by decide⟩) (within_upd ⟨_, rfl, by decide⟩)
  have hrun : run (carryUnits m off 1) s = run (carryUnit m off .clean) s := rfl
  rw [hrun, run_carryUnit_clean hx hp hb hb']
  refine ⟨fun i hi => ?_, ?_, fun h l i => ?_⟩
  · rw [keep_byte wbad (by decide), ← hdst, byte_writeBytes_at (by simpa [State.bytes] using hi)]
  · rw [keep_move wbad (by decide), keep_move (w_writeBytes _ _) (by decide), hx]
  · rw [keep_fld wbad _ _ _ _ (by decide) (by decide), keep_fld (w_writeBytes _ _) _ _ _ _ (by decide) (by decide)]

theorem gives_docentShare {docent : Fin 64} {found : List (Nat × Found)} {s : State} {q : State → Prop}
    (h : q (run (docentShareA docent.val found) s)) : Gives (.docentShare docent found) s q := ⟨_, rfl, h⟩

/-! ### MOVE_COMPLETE (R199, R205, R369) -/

theorem gives_moveComplete {m : Nat} {s : State} {q : State → Prop} (h : q (run (moveDoneA m) s)) :
    Gives (.moveComplete m) s q := ⟨_, rfl, h⟩

theorem run_moveDoneA_none {m : Nat} {s : State} (h : s.move m = none) : run (moveDoneA m) s = s := by
  simp only [moveDoneA, run_dyn, h, run_withSome_none]

theorem run_moveDoneA_idle {m : Nat} {x : Move} {s : State} (hx : s.move m = some x)
    (h : x.phase ≠ .copying ∨ x.shares ≠ [] ∨ s.stilled = true) : run (moveDoneA m) s = s := by
  simp only [moveDoneA, run_dyn, hx, run_withSome_some, if_pos h, run_nop]

theorem run_moveDoneA_export {m : Nat} {x : Move} {s : State} (hx : s.move m = some x)
    (h : ¬ (x.phase ≠ .copying ∨ x.shares ≠ [] ∨ s.stilled = true)) (hf : x.fresh = false) (hk : x.kind = .exportStage)
    (hcrc : x.crcWas = none ∨ x.crcWas = some (crc32c (s.written x))) :
    run (moveDoneA m) s = run (endMove m Status.ok.code) s := by
  rcases hcrc with hc | hc <;>
    simp only [moveDoneA, run_dyn, hx, run_withSome_some, if_neg h, hf, hk, hc, run_seqs_cons, run_seqs_nil,
      run_when', Bool.not_false, Bool.and_false, Bool.false_and, ne_eq, not_true, decide_false,
      Bool.false_eq_true, if_false, reduceCtorEq, run_nop]

theorem run_moveDoneA_mismatch {m c : Nat} {x : Move} {s : State} (hx : s.move m = some x)
    (h : ¬ (x.phase ≠ .copying ∨ x.shares ≠ [] ∨ s.stilled = true)) (hf : x.fresh = false) (hc : x.crcWas = some c)
    (hne : c ≠ crc32c (s.written x)) : run (moveDoneA m) s =
      run (failMove m Status.eccUncorrectable.code) (run (crcFault x.kind x.tenant (x.src.getD noIdx)) s) := by
  simp only [moveDoneA, run_dyn, hx, run_withSome_some, if_neg h, hf, hc, Bool.not_false, Bool.true_and, decide_eq_true hne,
    if_true, run_seq]

theorem flag_crcFault (kind : MoveKind) (tenant src : Nat) (s : State) :
    (run (crcFault kind tenant src) s).flag rINT_ERR 0 = true :=
  flag_incident_err { cls := .B, blk := blkINT, code := 0, status := Status.eccUncorrectable.code, tenant := some tenant }
    rfl (show 0 ≠ 0xFF by decide) (show covers rINT_ERR 0 0 = true by decide) (by decide) (by decide) _

/-- A move that is over stays as it is while another ends. -/
theorem move_endMove_other {m k : Nat} (h : m ≠ k) (code : Nat) (s : State) :
    (run (endMove k code) s).move m = s.move m := by
  cases hx : s.move k with
  | none => simp only [endMove, run_dyn, hx, run_withSome_none]
  | some x => rw [run_endMove hx, keep_move (w_markMoving _) (by decide), move_modMv, if_neg h]

theorem w_freeDst (c : Option Nat) : (withSome c freeCopy).Within ft_freeCopy := within_withSome fun i _ => w_freeCopy i

/-- Only moves that are not over fail with a copy. -/
theorem move_failDependents_done {m n i : Nat} {y : Move} {s : State} (hy : s.move m = some y) (hd : y.phase = .done) :
    (run (failDependents n i) s).move m = some y := by
  induction n generalizing i s with
  | zero => exact hy
  | succ n ih =>
    simp only [failDependents, run_dyn]
    refine run_each_invariant (P := fun t => t.move m = some y) (fun k t ht => ?_) _ hy
    rw [run_dyn]
    cases hx : t.move k with
    | none => exact ht
    | some x =>
      rw [run_withSome_some, run_ite]
      split
      · next hc =>
        have hne : m ≠ k := by
          rintro rfl
          obtain rfl := Option.some.inj (ht.symm.trans hx)
          simp [hd] at hc
        simp only [run_seqs_cons, run_seqs_nil]
        generalize (if x.made then x.dst else none) = c
        have hend : (run (endMove k Status.shapeInvalid.code) (run (withSome c freeCopy) t)).move m = some y := by
          rw [move_endMove_other hne, keep_move (w_freeDst c) (by decide), ht]
        cases c with
        | none => exact hend
        | some d => exact ih hend
      · exact ht

/-- A move that fails is over with its status. -/
theorem moveOver_failMove {m : Nat} {x : Move} {s : State} (hx : s.move m = some x) (st : Status) :
    (run (failMove m st.code) s).moveOver m st := by
  refine ⟨x.ended st.code, ?_, rfl, rfl, rfl⟩
  simp only [failMove, run_dyn, hx, run_withSome_some, run_seqs_cons, run_seqs_nil]
  generalize (if x.made then x.dst else none) = c
  have hend := move_endMove ((keep_move (w_freeDst c) (by decide) s m).trans hx) st.code
  cases c with
  | none => exact hend
  | some d => exact move_failDependents_done hend rfl

/-- Settles O19: by what a share finds, and for a finished move by whether its CRC agrees. -/
theorem moveWork : Obligations.MoveWork := by
  unfold Obligations.MoveWork
  refine ⟨fun docent found s => ⟨fun h => gives_docentShare (run_docentShareA_idle h), fun m n x pos hd hs ho hx hpos =>
    ⟨fun hk hlen => gives_docentShare fun i hi => ?alloc, fun p hk hleft hseg hp hb hb' hlast => gives_docentShare ?carries⟩⟩,
    fun m s => ⟨fun h => gives_moveComplete (run_moveDoneA_none h), fun x hx =>
      ⟨fun h => gives_moveComplete (run_moveDoneA_idle hx h), fun hp hsh hs hf =>
        ⟨fun hk hcrc => gives_moveComplete ?ok, fun c hc hne => gives_moveComplete ?mismatch⟩⟩⟩⟩
  case alloc =>
    rw [run_docentShareA hd hs ho hx hpos, keep_byte (w_settleShare _ _ _ _ _ _ _) (by decide)]
    exact byte_carryUnits_alloc hx hk (Nat.div_pos hlen (by decide)) hi
  case carries =>
    have htier : s.chargeTier x = 2 := by rw [State.chargeTier, if_pos hk]
    rw [run_docentShareA hd hs ho hx hpos, htier, hleft, Nat.min_eq_right hseg, Nat.div_self (by decide)]
    obtain ⟨hbytes, hmove, hacc⟩ := readers_carryUnits_export hx hk hp hb hb'
    obtain ⟨hcharge, hshares⟩ := readers_settleShare_last (d := docent.val) (n := 64) (x := x) hmove hlast
    refine ⟨fun i hi => (keep_byte (w_settleShare _ _ _ _ _ _ _) (by decide) _ _).trans (hbytes i hi), ?_, hshares⟩
    rw [hcharge, hacc]
  case ok =>
    rw [run_moveDoneA_export hx (by simp [hp, hsh, hs]) hf hk hcrc]
    exact ⟨moveOver_endMove hx .ok, keep_allocs (w_endMove m _) (by decide) s⟩
  case mismatch =>
    rw [run_moveDoneA_mismatch hx (by simp [hp, hsh, hs]) hf hc hne]
    refine ⟨moveOver_failMove ((keep_move (w_crcFault _ _ _) (by decide) s m).trans hx) .eccUncorrectable, ?_⟩
    exact (keep_flag (w_failMove m _) rINT_ERR 0 0 (by decide) (by decide) _).trans (flag_crcFault _ _ _ s)

end Sys2Proof.Machine
end

section
/-!
SUPPORT. Chapters 05 and 10: calibration, patrol scrub, the halt that a broken object table brings, T1C_SCRUB and T2C_CTL; O23.
-/

namespace Sys2Proof.Machine

/-! ### The registers of a tier (R177, R182, R187) -/

/-- A tier's count of corrected errors. -/
def tierCount : Tier → Nat
  | .t1 => rT1C_CE_CNT | .t2 => rT2C_CE_CNT | .t3 => rT3C_CE_CNT

/-- A tier's error register. -/
def tierErr : Tier → Nat
  | .t1 => rT1C_ERR | .t2 => rT2C_ERR | .t3 => rT3C_ERR

/-- A tier's block number. -/
def tierBlk : Tier → Nat
  | .t1 => blkT1C | .t2 => blkT2C | .t3 => blkT3C

theorem errReg_tierBlk (t : Tier) : errReg (tierBlk t) = some (tierErr t) := by cases t <;> rfl

/-- The error bits that patrol scrub sets stand in every tier's error register, and no incident's log entry writes it. -/
theorem tierErr_props (t : Tier) : covers (tierErr t) 0 0 = true ∧ covers (tierErr t) 2 2 = true ∧ tierErr t < 2 ^ 24 ∧
    tierErr t ∉ footLog.regs := by cases t <;> decide

theorem tierCount_props (t : Tier) : covers (tierCount t) 31 0 = true ∧ tierCount t < 2 ^ 24 ∧
    tierCount t ∉ (footLog.add { flds := [], regs := [tierErr t] }).regs := by cases t <;> decide

theorem w_tierIncident (t : Tier) (x : Inc) (h : x.blk = tierBlk t) :
    (incident x).Within (footLog.add { flds := [], regs := [tierErr t] }) := by
  refine w_incident x (by cases t <;> decide) ?_
  rw [h]
  exact errOk_any (by cases t <;> decide)

/-! ### Calibration windows (R189) -/

/-- A finished window: the count starts again, and a unit that was late shows `v`. -/
theorem readers_calFinished {k r b v : Nat} {s : State} (hr : r < 2 ^ 24) (hc : covers r b b = true) :
    let t := run (.seq (when' (decide (8 ≤ s.calMiss k)) (setFld r b b v)) (.upd (.calMiss k 0))) s
    t.calMiss k = 0 ∧ (8 ≤ s.calMiss k → t.flag r b = v.testBit 0) := by
  have wcal : (Act.upd (.calMiss k 0)).Within { flds := [.mov .calMiss], regs := [] } := within_upd ⟨_, rfl, by decide⟩
  rw [run_seq]
  refine ⟨(applyUpd_calMiss _ k 0 k).trans (if_pos rfl), fun h => ?_⟩
  rw [keep_flag wcal _ _ _ hr (by simp), run_when', if_pos (decide_eq_true h), flag_setFld _ _ _ _ _ _ _ hr (Nat.le_refl b) hc,
    if_pos ⟨Nat.le_refl b, Nat.le_refl b⟩, Nat.sub_self]

/-- The class A incident of a unit of a tier that shows late calibration. -/
def calLate (t : Tier) (unit : Nat) : Inc := { cls := .A, blk := tierBlk t, code := 4, locus := unit }

/-- An unfinished window: one more is counted, and the eighth shows `v` with its incident. -/
theorem readers_calMissed {t : Tier} {unit k r b v : Nat} {s : State} (hr : r < 2 ^ 24) (hc : covers r b b = true)
    (hn : r ∉ (footLog.add { flds := [], regs := [tierErr t] }).regs) (ht : covers (tierErr t) 4 4 = true) :
    let u := run (seqs [modCalMiss k (fun n => min 8 (n + 1)),
      when' (decide (s.calMiss k = 7)) (.seq (setFld r b b v) (incident (calLate t unit)))]) s
    u.calMiss k = min 8 (s.calMiss k + 1) ∧
      (s.calMiss k = 7 → u.flag r b = v.testBit 0 ∧ u.flag (tierErr t) 4 = true) := by
  obtain ⟨-, -, herr, hlog⟩ := tierErr_props t
  have wx := w_tierIncident t (calLate t unit) rfl
  have wset : (setFld r b b v).Within { flds := [], regs := [r] } := within_setFld _ _ _ _ hr (by simp)
  simp only [run_seqs_cons, run_seqs_nil]
  refine ⟨?_, fun h => ?_⟩
  · have hcount : (run (modCalMiss k fun n => min 8 (n + 1)) s).calMiss k = min 8 (s.calMiss k + 1) :=
      (applyUpd_calMiss s k _ k).trans (if_pos rfl)
    rw [run_when']
    split
    · have hcal : Fld.mov .calMiss ∉ footLog.flds ++ [] := by decide
      rw [run_seq, keep_calMiss wx hcal, keep_calMiss wset (by simp), hcount]
    · exact hcount
  · rw [run_when', if_pos (decide_eq_true h), run_seq]
    refine ⟨?_, flag_incident_err (calLate t unit) (errReg_tierBlk t) (show 4 ≠ 0xFF by decide) ht herr hlog _⟩
    rw [keep_flag wx _ _ _ hr hn, flag_setFld _ _ _ _ _ _ _ hr (Nat.le_refl b) hc,
      if_pos ⟨Nat.le_refl b, Nat.le_refl b⟩, Nat.sub_self]

theorem covers_t2Late : ∀ b : Fin 8, covers rT2C_STAT (32 + b.val) (32 + b.val) = true := by decide

theorem covers_t3Inside : ∀ b : Fin 16, covers rT3C_STAT b.val b.val = true := by decide

theorem readers_calWindow_t2 {unit : Nat} (finished : Bool) {s : State} (hu : unit < 8) (hon : s.t2On = true) :
    let t := run (calWindowA .t2 unit finished) s
    if finished then t.calMiss unit = 0 ∧ (8 ≤ s.calMiss unit → t.flag rT2C_STAT (32 + unit) = false)
    else t.calMiss unit = min 8 (s.calMiss unit + 1) ∧
      (s.calMiss unit = 7 → t.flag rT2C_STAT (32 + unit) = true ∧ t.flag rT2C_ERR 4 = true) := by
  have hc := covers_t2Late ⟨unit, hu⟩
  simp only [calWindowA, calKey, if_pos hu, run_dyn, run_withSome_some, hon, Bool.not_true, Bool.false_eq_true, if_false]
  cases finished
  · exact readers_calMissed (t := .t2) (by decide) hc (by decide) (by decide)
  · exact readers_calFinished (by decide) hc

theorem readers_calWindow_t3 {unit : Nat} (finished : Bool) {s : State} (hu : unit < 16) (hon : s.t3On = true) :
    let t := run (calWindowA .t3 unit finished) s
    if finished then t.calMiss (16 + unit) = 0 ∧ (8 ≤ s.calMiss (16 + unit) → t.flag rT3C_STAT unit = true)
    else t.calMiss (16 + unit) = min 8 (s.calMiss (16 + unit) + 1) ∧
      (s.calMiss (16 + unit) = 7 → t.flag rT3C_STAT unit = false ∧ t.flag rT3C_ERR 4 = true) := by
  have hc := covers_t3Inside ⟨unit, hu⟩
  simp only [calWindowA, calKey, run_dyn, run_withSome_some, hon, Bool.not_true, Bool.false_eq_true, if_false]
  cases finished
  · exact readers_calMissed (t := .t3) (by decide) hc (by decide) (by decide)
  · exact readers_calFinished (by decide) hc

/-! ### Patrol scrub (R177, R178, R182, R187) -/

/-- A corrected error is counted and logged (R177). -/
theorem readers_tierCorrected (t : Tier) (a : Nat) (s : State) : let u := run (tierCorrected t a) s
    u.fld (tierCount t) 31 0 = sat 32 (s.fld (tierCount t) 31 0 + 1) ∧ u.flag (tierErr t) 0 = true ∧
      ∀ j, u.bad j = s.bad j := by
  obtain ⟨hbit, -, herr, hlog⟩ := tierErr_props t
  obtain ⟨hcov, hcnt, hfree⟩ := tierCount_props t
  have hrun : run (tierCorrected t a) s =
      run (incident { cls := .A, blk := tierBlk t, code := 0, locus := tierLocus t a }) (run (addFld (tierCount t) 31 0 1) s) := by
    cases t <;> rfl
  have wx := w_tierIncident t { cls := .A, blk := tierBlk t, code := 0, locus := tierLocus t a } rfl
  refine ⟨?_, ?_, fun j => keep_bad (w_tierCorrected t a) (by decide) s j⟩ <;> rw [hrun]
  · rw [keep_fld wx _ _ _ _ hcnt hfree, fld_addFld _ _ _ _ _ _ hcnt hcov]
  · exact flag_incident_err _ (errReg_tierBlk t) (show 0 ≠ 0xFF by decide) hbit herr hlog _

/-- An uncorrectable error that scrub finds sets its bit of the tier's error register (R178). -/
theorem flag_tierUncorrectable_scrub (t : Tier) (agent a : Nat) (s : State) :
    (run (tierUncorrectable t agent a true) s).flag (tierErr t) 2 = true := by
  obtain ⟨-, hbit, herr, hlog⟩ := tierErr_props t
  have hrun : run (tierUncorrectable t agent a true) s =
      run (incident { cls := .A, blk := tierBlk t, code := 2, locus := tierLocus t a }) (run (tierRecord t agent a true) s) := by
    cases t <;> rfl
  rw [hrun]
  exact flag_incident_err { cls := .A, blk := tierBlk t, code := 2, locus := tierLocus t a } (errReg_tierBlk t)
    (show 2 ≠ 0xFF by decide) hbit herr hlog _

theorem run_scrubRead_carried {t : Tier} {agent a n : Nat} {found : Found} {s : State} (h : s.anyBad a n = true) :
    run (scrubRead t agent a n found) s = s := by
  simp only [scrubRead, run_dyn, if_pos h, run_nop]

/-- A scrub read by what the tier's code finds where no poison is carried. -/
theorem readers_scrubRead {t : Tier} {agent a n : Nat} {found : Found} {s : State} (h : s.anyBad a n = false) :
    let u := run (scrubRead t agent a n found) s
    (found = .clean → u = s) ∧
    (found = .corrected → u.fld (tierCount t) 31 0 = sat 32 (s.fld (tierCount t) 31 0 + 1) ∧ u.flag (tierErr t) 0 = true ∧
      ∀ j, u.bad j = s.bad j) ∧
    (found = .uncorrectable → (∀ j, a / 32 ≤ j / 32 → j / 32 < (a + n + 31) / 32 → u.bad j = true) ∧
      u.flag (tierErr t) 2 = true) := by
  obtain ⟨-, -, herr, -⟩ := tierErr_props t
  simp only [scrubRead, run_dyn, h, Bool.false_eq_true, if_false]
  refine ⟨?_, ?_, ?_⟩
  · rintro rfl; rfl
  · rintro rfl; exact readers_tierCorrected t a s
  · rintro rfl
    rw [run_seq]
    refine ⟨fun j hlo hhi => by rw [bad_markBad, if_pos ⟨hlo, hhi⟩], ?_⟩
    rw [keep_flag (w_markBad a n true) _ _ _ herr (by simp [ft_markBad]), flag_tierUncorrectable_scrub]

theorem gives_t1Scrub (addr : Nat) (found : Found) (s : State) : let a := addr / 32 * 32
    Gives (.t1Scrub addr found) s fun t =>
      if s.scrubs = true ∧ s.flag rT1C_SCRUB 16 = true ∧ s.region a = .t1 ∧ s.anyBad a 32 = false then
        (found = .clean → t = s) ∧
        (found = .corrected → t.fld rT1C_CE_CNT 31 0 = sat 32 (s.fld rT1C_CE_CNT 31 0 + 1) ∧ t.flag rT1C_ERR 0 = true ∧
          t.bad a = s.bad a) ∧
        (found = .uncorrectable → t.bad a = true ∧ t.flag rT1C_ERR 2 = true)
      else t = s := by
  intro a
  refine gives_of_exec (a := t1ScrubA addr found) rfl ?_
  by_cases hon : (s.scrubs && s.flag rT1C_SCRUB 16 && decide (s.region a = .t1)) = true
  · have hrun : run (t1ScrubA addr found) s = run (scrubRead .t1 agT1Scrub a 32 found) s := by
      simp only [t1ScrubA, run_dyn, a, if_pos hon]
    simp only [Bool.and_eq_true, decide_eq_true_eq] at hon
    obtain ⟨⟨hs, hen⟩, hreg⟩ := hon
    rw [hrun]
    cases hb : s.anyBad a 32 with
    | true => rw [if_neg (by simp), run_scrubRead_carried hb]
    | false =>
      rw [if_pos ⟨hs, hen, hreg, rfl⟩]
      obtain ⟨hclean, hcorr, hunc⟩ := readers_scrubRead (t := .t1) (agent := agT1Scrub) (found := found) hb
      refine ⟨hclean, fun h => ?_, fun h => ⟨(hunc h).1 a (Nat.le_refl _) (by omega), (hunc h).2⟩⟩
      obtain ⟨hcnt, herr, hbad⟩ := hcorr h
      exact ⟨hcnt, herr, hbad a⟩
  · have hrun : run (t1ScrubA addr found) s = s := by
      simp only [t1ScrubA, run_dyn, a, if_neg hon, run_nop]
    rw [hrun, if_neg]
    rintro ⟨h1, h2, h3, -⟩
    exact hon (by simp [h1, h2, h3])

/-- Patrol scrub of 64 B of T2 or T3. -/
theorem readers_scrubRead64 {t : Tier} {addr agent : Nat} {found : Found} {s : State}
    (h : s.anyBad (addr / 64 * 64) 64 = false) : let a := addr / 64 * 64; let u := run (scrubRead t agent a 64 found) s
    (found = .clean → u = s) ∧ (found = .corrected → u.fld (tierCount t) 31 0 = sat 32 (s.fld (tierCount t) 31 0 + 1)) ∧
      (found = .uncorrectable → u.bad a = true ∧ u.bad (a + 32) = true ∧ u.flag (tierErr t) 2 = true) := by
  obtain ⟨hclean, hcorr, hunc⟩ := readers_scrubRead (t := t) (agent := agent) (found := found) h
  exact ⟨hclean, fun e => (hcorr e).1, fun e =>
    ⟨(hunc e).1 _ (by omega) (by omega), (hunc e).1 _ (by omega) (by omega), (hunc e).2⟩⟩

/-- Scrub reads T2 where it runs, outside the object table and in it where nothing new is wrong. -/
theorem run_tierScrubA_t2 {addr : Nat} {found : Found} {s : State} (hs : s.scrubs = true) (hen : s.flag rT2C_CTL 48 = true)
    (hr : s.region (addr / 64 * 64) = .t2) : run (tierScrubA .t2 addr found) s =
      if (s.inObjects (addr / 64 * 64) && decide (found = .uncorrectable) && !s.anyBad (addr / 64 * 64) 64) = true then
        run (objectsFault agScrub (addr / 64 * 64)) s
      else run (scrubRead .t2 agScrub (addr / 64 * 64) 64 found) s := by
  simp only [tierScrubA, run_dyn, hs, hen, hr, decide_true, Bool.and_self, if_true, run_ite]

theorem run_tierScrubA_t3 {addr : Nat} {found : Found} {s : State} (hs : s.scrubs = true) (hen : s.flag rT3C_CTL 1 = true)
    (hr : s.region (addr / 64 * 64) = .t3) : run (tierScrubA .t3 addr found) s =
      run (scrubRead .t3 agScrub (addr / 64 * 64) 64 found) s := by
  simp only [tierScrubA, run_dyn, hs, hen, hr, decide_true, Bool.and_self, if_true]

/-! ### A halt (R376, R377) -/

theorem bay_bayGone (b : Nat) (s : State) (j : Nat) : (run (bayGone b) s).bay j = if j = b then {} else s.bay j := by
  have wset : (setFld rFAB_BAY_FORCE b b 0).Within { flds := [], regs := [rFAB_BAY_FORCE] } :=
    within_setFld _ _ _ _ (by decide) (by decide)
  have wisl : (each (bayIslands b) fun i => modIsland i fun x => { x with clk := 0 }).Within
      { flds := [.fab .island], regs := [] } := within_each _ fun _ => w_modIsland _ _ (by decide)
  simp only [bayGone, run_seqs_cons, run_seqs_nil, run_upd]
  rw [keep_bay wisl (by decide), keep_bay wset (by decide), applyUpd_bay, keep_bay (w_clearBay_contents b) (by decide)]

/-- What a halt changes besides its cause. -/
def ft_haltRest : Foot := { ft_haltModule with flds := ft_haltModule.flds.filter (fun f => decide (f ≠ .int .haltCause)) }

/-- What a halt does between noting its cause and turning the bays off. -/
def haltFirst : Act := seqs [setErr blkINT 2, haltNotices, setReg rFAB_BAY_ON 0]

/-- What a halt does once the bays are off, with the moves `ms` in flight. -/
def haltLast (ms : List Nat) : Act :=
  seqs [setFences, each (List.range 16) (fun h => modLoad h (fun l => { l with cmd := none, started := false, causes := 0 })),
    each ms (fun m => modMv m (fun x => { x with shares := [] })), pump]

/-- No bay's state is among what follows the bays. -/
def ft_haltLast : Foot :=
  { flds := [.exh .load, .mov .move, .fresh, .out .sentFlits, .lnk .port, .lnk .lnkQ, .lnk .localLost]
    regs := [rFAB_BAY_FENCE, rLNK_ERR, rLNK_NOTICE_CNT] }

theorem w_haltFirst : haltFirst.Within ft_haltRest :=
  .seq (w_setErr _ _ (by decide)) (.seq (w_haltNotices.mono (by decide))
    (within_setReg _ _ (by decide) (by decide)))

theorem w_haltLast (ms : List Nat) : (haltLast ms).Within ft_haltLast :=
  .seq (w_setFences.mono (by decide)) (.seq (within_each _ fun _ => w_modLoad _ _ (by decide))
    (.seq (within_each _ fun _ => (w_modMv _ _).mono (by decide)) (w_pump.mono (by decide))))

theorem readers_haltModule {cause : Nat} {s : State} (h : s.haltCause = 0) : let t := run (haltModule cause) s
    t.haltCause = cause ∧ ∀ b, b < 16 → t.bay b = {} := by
  have hn : ¬ s.halted = true := by simp [State.halted, h]
  have wgone : (each (List.range 16) bayGone).Within footBay := within_each _ w_bayGone
  have hrun : run (haltModule cause) s =
      run (haltLast s.moveIds) (run (each (List.range 16) bayGone) (run haltFirst (applyUpd (.haltCause cause) s))) := by
    simp only [haltModule, run_dyn, if_neg hn, run_seqs_cons, run_seqs_nil, run_upd, haltFirst, haltLast]
  rw [hrun]
  refine ⟨?_, fun b hb => ?_⟩
  · rw [keep_haltCause (w_haltLast _) (by decide), keep_haltCause wgone (by decide), keep_haltCause w_haltFirst (by decide),
      applyUpd_haltCause]
  · rw [keep_bay (w_haltLast _) (by decide),
      run_each_idem State.bay (f := bayGone) (g := fun _ => {}) bay_bayGone (fun _ => rfl), if_pos (List.mem_range.mpr hb)]

/-- What an error in the object table brings before the halt. -/
def objectsFound (a : Nat) : Act :=
  seqs [tierRecord .t2 agScrub a true, incident { cls := .C, blk := blkT2C, code := 2, locus := tierLocus .t2 a },
    markBad a 64 true]

/-- An error in the object table halts the module and stays carried poison (R376). -/
theorem readers_objectsFault {a : Nat} {s : State} (h : s.haltCause = 0) : let t := run (objectsFault agScrub a) s
    t.haltCause = haltOBJECTS ∧ t.bad a = true ∧ ∀ b, b < 16 → t.bay b = {} := by
  have wx := w_tierIncident .t2 { cls := .C, blk := blkT2C, code := 2, locus := tierLocus .t2 a } rfl
  have hrun : run (objectsFault agScrub a) s = run (haltModule haltOBJECTS) (run (objectsFound a) s) := rfl
  have hcause : (run (objectsFound a) s).haltCause = 0 := by
    simp only [objectsFound, run_seqs_cons, run_seqs_nil]
    rw [keep_haltCause (w_markBad a 64 true) (by decide), keep_haltCause wx (by decide),
      keep_haltCause (w_tierRecord _ _ _ _) (by decide), h]
  have hbad : (run (objectsFound a) s).bad a = true := by
    simp only [objectsFound, run_seqs_cons, run_seqs_nil]
    rw [bad_markBad, if_pos (by omega)]
  obtain ⟨hnew, hbays⟩ := readers_haltModule (cause := haltOBJECTS) hcause
  rw [hrun]
  exact ⟨hnew, (keep_bad (w_haltModule _) (by decide) _ a).trans hbad, hbays⟩

/-! ### T1C_SCRUB and T2C_CTL (R177, R210) -/

/-- What a write with reserved bits set logs first touches no control register of the tiers (R13). -/
def reservedLogged (off v : Nat) : Act :=
  when' (decide (v &&& (2 ^ 64 - 1 - regMask off) ≠ 0)) (incA (off / 0x10000) 0xFF off)

theorem w_reservedLogged (off v : Nat) : (reservedLogged off v).Within footLog :=
  within_when' (w_incA _ _ _ (by decide) (errOk_none _ _))

theorem run_regDo_taken {i : Instr} {off v : Nat} {f : Nat → Act} {s : State} (h : s.taken) :
    run (regDo i off v f) s = run (f (v &&& regMask off)) (run (reservedLogged off v) s) := run_bitDo_taken h

/-- A bit is the field of its own. -/
theorem decide_bits_one (v i : Nat) : decide (bits i i v = 1) = v.testBit i := by
  have h : i + 1 - i = 1 := by omega
  simp only [bits, h, Nat.pow_one, Nat.testBit_eq_decide_div_mod_eq, Nat.shiftRight_eq_div_pow]

/-- A patrol-scrub register takes an INTERVAL below 256 as 256, and ENABLE as written. -/
theorem readers_writeScrub {blk off v : Nat} {s : State} (ho : off < 2 ^ 24) (hn : off ∉ footLog.regs)
    (hlow : covers off 15 0 = true) (htop : covers off 16 16 = true) : let t := run (writeScrub blk off v) s
    t.fld off 15 0 = max 256 (bits 15 0 v) ∧ t.flag off 16 = v.testBit 16 := by
  have wlog : (when' (decide (bits 15 0 v < 256)) (incA blk 0xFF off)).Within footLog :=
    within_when' (w_incA _ _ _ (by decide) (errOk_none _ _))
  obtain ⟨hint, hen⟩ := bits_scrubWord v
  simp only [writeScrub, run_seq, flag_eq_fld, keep_fld wlog _ _ _ _ ho hn, fld_setReg _ _ _ _ _ _ ho hlow,
    fld_setReg _ _ _ _ _ _ ho htop, hint, hen, decide_bits_one, and_self]

theorem covers_mask {off hi lo : Nat} (h : covers off hi lo = true) (v : Nat) :
    bits hi lo (v &&& regMask off) = bits hi lo v := by
  simp only [covers, Bool.and_eq_true, decide_eq_true_eq] at h
  exact bits_and_mask h.2 v

theorem testBit_mask {off j : Nat} (h : covers off j j = true) (v : Nat) : (v &&& regMask off).testBit j = v.testBit j := by
  rw [Nat.testBit_and, (covers_bit h (Nat.le_refl j) (Nat.le_refl j)).1, Bool.and_true]

/-- A field apart from the one that is replaced. -/
theorem bits_setBits_other {hi lo hi' lo' : Nat} (v x : Nat) (h : lo ≤ hi) (hd : hi < lo' ∨ hi' < lo) :
    bits hi' lo' (setBits hi lo v x) = bits hi' lo' v := by
  refine Nat.eq_of_testBit_eq fun j => ?_
  simp only [testBit_bits, testBit_setBits _ _ _ _ _ h]
  by_cases hj : j < hi' + 1 - lo'
  · rw [if_neg (by omega)]
  · simp [hj]

/-- A field that is put back from an old value reads as it did there, as does each field inside it. -/
theorem bits_setBits_back {hi lo hi' lo' : Nat} (v old : Nat) (h : lo ≤ lo') (h' : lo' ≤ hi') (hh : hi' ≤ hi) :
    bits hi' lo' (setBits hi lo v (bits hi lo old)) = bits hi' lo' old := by
  refine Nat.eq_of_testBit_eq fun j => ?_
  simp only [testBit_bits, testBit_setBits _ _ _ _ _ (show lo ≤ hi by omega)]
  by_cases hj : j < hi' + 1 - lo'
  · rw [if_pos (by omega), show lo + (lo' + j - lo) = lo' + j by omega]
    simp [show lo' + j - lo < hi + 1 - lo by omega]
  · simp [hj]

/-- The value that a write of `v` to T2C_CTL stores: `old`'s region and table unless they may change, and its RATE when
BOOT_LOCK is set. -/
def t2CtlWord (old v : Nat) (free locked : Bool) : Nat :=
  let w := if free then v else setBits 63 52 (setBits 47 20 v (bits 47 20 old)) (bits 63 52 old)
  if locked then setBits 49 49 w (bits 49 49 old) else w

/-- The region, the table and SCRUB in that value. -/
theorem bits_t2CtlWord (old v : Nat) (free locked : Bool) :
    bits 63 56 (t2CtlWord old v free locked) = bits 63 56 (if free then v else old) ∧
      bits 47 20 (t2CtlWord old v free locked) = bits 47 20 (if free then v else old) ∧
      bits 48 48 (t2CtlWord old v free locked) = bits 48 48 v := by
  have hlock : ∀ w hi lo, 49 < lo ∨ hi < 49 →
      bits hi lo (if locked then setBits 49 49 w (bits 49 49 old) else w) = bits hi lo w := fun w hi lo h => by
    split
    · exact bits_setBits_other _ _ (by decide) h
    · rfl
  simp only [t2CtlWord]
  rw [hlock _ 63 56 (by decide), hlock _ 47 20 (by decide), hlock _ 48 48 (by decide)]
  cases free with
  | true => simp only [if_true, and_self]
  | false =>
    simp only [Bool.false_eq_true, if_false]
    refine ⟨bits_setBits_back _ _ (by decide) (by decide) (by decide), ?_, ?_⟩
    · rw [bits_setBits_other _ _ (by decide) (by decide), bits_setBits_back _ _ (by decide) (by decide) (by decide)]
    · rw [bits_setBits_other _ _ (by decide) (by decide), bits_setBits_other _ _ (by decide) (by decide)]

/-- A write to T2C_CTL takes the region and the table only while nothing is allocated and the table fits (R210). -/
theorem fld_writeT2Ctl (v : Nat) (s : State) : let t := run (writeT2Ctl v) s; let free := decide (s.allocs = []) && ctlFits v
    t.fld rT2C_CTL 63 56 = bits 63 56 (if free then v else (s.reg rT2C_CTL).toNat) ∧
      t.fld rT2C_CTL 47 20 = bits 47 20 (if free then v else (s.reg rT2C_CTL).toNat) ∧
      t.fld rT2C_CTL 48 48 = bits 48 48 v := by
  intro t free
  have wlog : ∀ c, (when' c (incA blkT2C 0xFF rT2C_CTL)).Within footLog := fun c =>
    within_when' (w_incA _ _ _ (by decide) (errOk_none _ _))
  obtain ⟨c, hrun⟩ : ∃ c, t = run (when' c (incA blkT2C 0xFF rT2C_CTL))
      (run (setReg rT2C_CTL (t2CtlWord (s.reg rT2C_CTL).toNat v free (s.flag rBOOT_LOCK 0))) s) := ⟨_, rfl⟩
  have hfld : ∀ hi lo, covers rT2C_CTL hi lo = true →
      t.fld rT2C_CTL hi lo = bits hi lo (t2CtlWord (s.reg rT2C_CTL).toNat v free (s.flag rBOOT_LOCK 0)) := fun hi lo hc => by
    rw [hrun, keep_fld (wlog c) _ _ _ _ (by decide) (by decide), fld_setReg _ _ _ _ _ _ (by decide) hc]
  rw [hfld 63 56 (by decide), hfld 47 20 (by decide), hfld 48 48 (by decide)]
  exact bits_t2CtlWord _ v free _

theorem gives_t2cCtlWrite (v : Word) (s : State) (ht : s.taken) : Gives (.t2cCtlWrite v) s fun t =>
    let u := v.toNat &&& regMask rT2C_CTL
    t.flag rT2C_CTL 48 = v.toNat.testBit 48 ∧
    (if s.allocs = [] ∧ ctlFits u = true then
      t.fld rT2C_CTL 63 56 = bits 63 56 v.toNat ∧ t.fld rT2C_CTL 47 20 = bits 47 20 v.toNat
     else t.fld rT2C_CTL 63 56 = s.fld rT2C_CTL 63 56 ∧ t.fld rT2C_CTL 47 20 = s.fld rT2C_CTL 47 20) := by
  refine gives_of_exec (a := regDo (.t2cCtlWrite v) rT2C_CTL v.toNat writeT2Ctl) rfl ?_
  have wres := w_reservedLogged rT2C_CTL v.toNat
  rw [run_regDo_taken ht]
  set s₁ := run (reservedLogged rT2C_CTL v.toNat) s with hs₁
  have ha : s₁.allocs = s.allocs := keep_allocs wres (by decide) s
  have hf : ∀ hi lo, bits hi lo (s₁.reg rT2C_CTL).toNat = s.fld rT2C_CTL hi lo := fun hi lo =>
    keep_fld wres rT2C_CTL hi lo 0 (by decide) (by decide) s
  obtain ⟨hrsv, htab, hscrub⟩ := fld_writeT2Ctl (v.toNat &&& regMask rT2C_CTL) s₁
  rw [ha] at hrsv htab
  refine ⟨?_, ?_⟩
  · rw [flag_eq_fld, hscrub, covers_mask (by decide), decide_bits_one]
  · by_cases hfree : s.allocs = [] ∧ ctlFits (v.toNat &&& regMask rT2C_CTL) = true
    · rw [if_pos hfree, hrsv, htab, if_pos (by simp [hfree.1, hfree.2]), covers_mask (by decide), covers_mask (by decide)]
      exact ⟨rfl, rfl⟩
    · rw [if_neg hfree, hrsv, htab, if_neg (by simpa using hfree), hf, hf]
      exact ⟨rfl, rfl⟩

theorem gives_t1cScrubWrite (v : Word) (s : State) (ht : s.taken) : Gives (.t1cScrubWrite v) s fun t =>
    t.fld rT1C_SCRUB 15 0 = max 256 (bits 15 0 v.toNat) ∧ t.flag rT1C_SCRUB 16 = v.toNat.testBit 16 := by
  refine gives_of_exec (a := regDo (.t1cScrubWrite v) rT1C_SCRUB v.toNat (writeScrub blkT1C rT1C_SCRUB)) rfl ?_
  have h := readers_writeScrub (blk := blkT1C) (v := v.toNat &&& regMask rT1C_SCRUB)
    (s := run (reservedLogged rT1C_SCRUB v.toNat) s) (off := rT1C_SCRUB) (by decide) (by decide) (by decide) (by decide)
  rw [covers_mask (by decide), testBit_mask (by decide)] at h
  rw [run_regDo_taken ht]
  exact h

theorem gives_tierScrub {tier : Tier} {addr : Nat} {found : Found} {s : State} {q : State → Prop}
    (h : q (run (tierScrubA tier addr found) s)) : Gives (.tierScrub tier addr found) s q := ⟨_, rfl, h⟩

theorem gives_calibrationWindow {tier : Tier} {unit : Fin 16} {finished : Bool} {s : State} {q : State → Prop}
    (h : q (run (calWindowA tier unit.val finished) s)) : Gives (.calibrationWindow tier unit finished) s q := ⟨_, rfl, h⟩

/-- Settles O23: each kind of upkeep by what its script finds. -/
theorem tierUpkeep : Obligations.TierUpkeep := by
  unfold Obligations.TierUpkeep
  refine ⟨fun tier unit s => ⟨s, rfl, rfl⟩, fun unit finished s => ⟨gives_calibrationWindow rfl, fun hu hon => ?cal2,
    fun hon => ?cal3⟩, gives_t1Scrub, fun addr found s => ⟨gives_tierScrub rfl, fun hs hen hr hb => ⟨fun ho => ?t2, ?objects⟩,
    fun hs hen hr hb => ?t3⟩, gives_t1cScrubWrite, gives_t2cCtlWrite⟩
  case cal2 => exact gives_calibrationWindow (readers_calWindow_t2 finished hu hon)
  case cal3 => exact gives_calibrationWindow (readers_calWindow_t3 finished unit.isLt hon)
  case t2 =>
    refine gives_tierScrub ?_
    rw [run_tierScrubA_t2 hs hen hr, if_neg (by simp [ho])]
    exact readers_scrubRead64 hb
  case objects =>
    rintro ho rfl hh
    refine gives_tierScrub ?_
    rw [run_tierScrubA_t2 hs hen hr, if_pos (by simp [ho, hb])]
    exact readers_objectsFault hh
  case t3 =>
    refine gives_tierScrub ?_
    rw [run_tierScrubA_t3 hs hen hr]
    exact readers_scrubRead64 hb

end Sys2Proof.Machine
end

section
/-!
SUPPORT. Chapters 06 and 14: what an incident logs and which ERR bits it leaves; docents, DOC_SEG, the end of a step, FORCE.
-/

namespace Sys2Proof.Machine

/-! ### Incidents: what the log shows of them, and ERR bits that stay (R374, R481, R482) -/

/-- An ERR register is a register of the table, and is not INT_CNT. -/
theorem errReg_props {blk r : Nat} (h : errReg blk = some r) : r < 2 ^ 24 ∧ r ≠ rINT_CNT := by
  unfold errReg at h
  split at h <;> cases h <;> decide

/-- The ERR register of a block, as a footprint. -/
def footErr (blk : Nat) : Foot := { flds := [], regs := (errReg blk).toList }

theorem w_setErr_foot (blk code : Nat) : (setErr blk code).Within (footErr blk) := by
  refine w_setErr blk code (errOk_any ?_)
  cases h : errReg blk with
  | none => rfl
  | some r => simpa [footErr, h] using (errReg_props h).1

theorem footErr_intCnt (blk : Nat) : rINT_CNT ∉ (footErr blk).regs := by
  cases h : errReg blk with
  | none => simp [footErr, h]
  | some r => simpa [footErr, h] using (errReg_props h).2.symm

theorem w_raiseIbi (c : Nat) : (raiseIbi c).Within { flds := [.log .ibiHold, .log .ibiWait, .out .ibis], regs := [] } := by
  refine .dyn fun _ => within_ite (within_ite ?_ (.seq ?_ ?_)) .nop <;> exact within_upd ⟨_, rfl, by decide⟩

theorem w_logEntry (x : Inc) : (logEntry x).Within { flds := [.log .logWr, .log .logIntake, .log .logLost], regs := [] } := by
  refine .dyn fun _ => .seq (within_upd ⟨_, rfl, by decide⟩) (within_ite ?_ ?_) <;> exact within_upd ⟨_, rfl, by decide⟩

/-- The entry of an incident in the log's intake, or its loss (R482). -/
theorem readers_logEntry (x : Inc) (s : State) : let t := run (logEntry x) s
    t.logWr = (s.logWr + 1) % 2 ^ 32 ∧
      if s.logIntake.length < 256 then t.logIntake = s.logIntake ++ [incidentEntry x s]
      else t.logLost = sat 16 (s.logLost + 1) := by
  intro t
  by_cases h : s.logIntake.length < 256
  · simp only [t, logEntry, run_dyn, run_seq, if_pos h, run_upd]
    exact ⟨rfl, rfl⟩
  · simp only [t, logEntry, run_dyn, run_seq, if_neg h, run_upd]
    exact ⟨rfl, rfl⟩

theorem covers_intCnt : ∀ c : FClass, covers rINT_CNT (16 * c.num + 15) (16 * c.num) = true
  | .A => by decide
  | .B => by decide
  | .C => by decide
  | .D => by decide

/-- Every incident is logged and counted. -/
theorem logged_incident (x : Inc) (s : State) : s.logged (run (incident x) s) x := by
  set s₁ := run (setErr x.blk x.code) s with hs₁
  set s₂ := run (addFld rINT_CNT (16 * x.cls.num + 15) (16 * x.cls.num) 1) s₁ with hs₂
  have we := w_setErr_foot x.blk x.code
  have wa : (addFld rINT_CNT (16 * x.cls.num + 15) (16 * x.cls.num) 1).Within { flds := [], regs := [rINT_CNT] } :=
    within_addFld _ _ _ _ (by decide) (by decide)
  have wi := w_raiseIbi x.cls.num
  have hrun : run (incident x) s = run (raiseIbi x.cls.num) (run (logEntry x) s₂) := rfl
  have hwr : s₂.logWr = s.logWr := (keep_logWr wa (by decide) s₁).trans (keep_logWr we List.not_mem_nil s)
  have hin : s₂.logIntake = s.logIntake := (keep_logIntake wa (by decide) s₁).trans (keep_logIntake we List.not_mem_nil s)
  have hlost : s₂.logLost = s.logLost := (keep_logLost wa (by decide) s₁).trans (keep_logLost we List.not_mem_nil s)
  have hnow : s₂.now = s.now := (keep_now wa (by decide) s₁).trans (keep_now we List.not_mem_nil s)
  obtain ⟨hnext, hentry⟩ := readers_logEntry x s₂
  rw [hwr] at hnext
  rw [hin, hlost] at hentry
  refine ⟨?seq, ?intake, ?count⟩
  case seq => rw [hrun, keep_logWr wi (by decide), hnext]
  case intake =>
    rw [hrun, keep_logIntake wi (by decide), keep_logLost wi (by decide)]
    split
    · next h =>
      rw [if_pos h] at hentry
      exact ⟨_, hentry, hnow, hwr, rfl, rfl, rfl, fun hc => if_pos hc⟩
    · next h => rwa [if_neg h] at hentry
  case count =>
    rw [hrun, keep_fld wi _ _ _ _ (by decide) List.not_mem_nil, keep_fld (w_logEntry x) _ _ _ _ (by decide) List.not_mem_nil,
      fld_addFld _ _ _ _ _ _ (by decide) (covers_intCnt x.cls), keep_fld we _ _ _ _ (by decide) (footErr_intCnt _)]
    congr 1
    omega

/-- An ERR bit that is set stays set when its block reports another incident. -/
theorem flag_incident_keeps {x : Inc} {r j : Nat} {s : State} (hr : errReg x.blk = some r) (hv : covers r j j = true)
    (hn : r ∉ footLog.regs) (h : s.flag r j = true) : (run (incident x) s).flag r j = true := by
  have ho := (errReg_props hr).1
  have hset : (run (setErr x.blk x.code) s).flag r j = true := by
    unfold setErr
    split
    · exact h
    · rw [hr, flag_orReg r _ 0 _ s ho hv, h, Bool.true_or]
  exact (keep_flag (w_incident_rest x) r j 0 ho hn _).trans hset

/-- A flag after its own bit has been written. -/
theorem flag_setFld_own {off j i x : Nat} (h : off < 2 ^ 24) (hc : covers off j j = true) (s : State) :
    (run (setFld off j j x i) s).flag off j i = x.testBit 0 := by
  rw [flag_setFld off j j x i j s h (Nat.le_refl j) hc, if_pos ⟨Nat.le_refl j, Nat.le_refl j⟩, Nat.sub_self]

/-- What an incident of block DOC changes. -/
def ft_docIncident : Foot := { footLog with regs := [rINT_CNT, rDOC_ERR] }

theorem w_docIncident {x : Inc} (h : x.blk = blkDOC) : (incident x).Within ft_docIncident :=
  w_incident x (by decide) (errOk_any (by rw [h]; decide))

/-! ### Docents (R229, R237) -/

theorem covers_docEn : ∀ d : Fin 64, covers rDOC_EN d.val d.val = true := by decide

theorem gives_docentEnable (docent : Fin 64) (s : State) (ht : s.taken) : Gives (.docentEnable docent) s fun t =>
    t.flag rDOC_EN docent.val = true ∧ t.doc docent.val = .enabled := by
  refine gives_of_exec (a := bitDo (.docentEnable docent) (docentOn docent.val)) rfl ?_
  have wdoc : (Act.upd (.doc docent.val .enabled)).Within { flds := [.mov .doc], regs := [] } :=
    within_upd ⟨_, rfl, by decide⟩
  rw [run_bitDo_taken ht, docentOn, run_seqs_cons, run_seqs_cons, run_seqs_cons, run_seqs_nil,
    keep_doc w_releaseHeld (by decide), keep_flag w_releaseHeld _ _ _ (by decide) (by decide),
    keep_flag wdoc _ _ _ (by decide) (by decide), flag_setFld_own (by decide) (covers_docEn docent), run_upd, applyUpd_doc,
    if_pos rfl]
  exact ⟨by decide, rfl⟩

theorem gives_docentDisable (docent : Fin 64) (s : State) (ht : s.taken) : Gives (.docentDisable docent) s fun t =>
    t.flag rDOC_EN docent.val = false ∧ t.doc docent.val =
      if s.doc docent.val = .enabled then (if s.docBusy docent.val then .draining else .stopped) else s.doc docent.val := by
  refine gives_of_exec (a := bitDo (.docentDisable docent) (docentOff docent.val)) rfl ?_
  set s₁ := run (setFld rDOC_EN docent.val docent.val 0) s with hs₁
  have hflag : s₁.flag rDOC_EN docent.val = false := flag_setFld_bit (by decide) (covers_docEn docent) s
  have hdoc : s₁.doc docent.val = s.doc docent.val := rfl
  have hbusy : s₁.docBusy docent.val = s.docBusy docent.val := rfl
  rw [run_bitDo_taken ht, docentOff, run_seq, run_dyn, ← hs₁, hdoc, hbusy]
  split
  · exact ⟨hflag, by rw [run_upd, applyUpd_doc, if_pos rfl]⟩
  · exact ⟨hflag, hdoc⟩

/-- Both lengths of DOC_SEG lie in 4 to 1,024. -/
theorem fld_writeDocSeg (v : Nat) (s : State) : let t := run (writeDocSeg v) s
    t.fld rDOC_SEG 31 16 = max 4 (min 1024 (bits 31 16 v)) ∧ t.fld rDOC_SEG 15 0 = max 4 (min 1024 (bits 15 0 v)) := by
  have wlog : ∀ c, (when' c (incA blkDOC 1 rDOC_SEG)).Within ft_docIncident := fun _ => within_when' (w_docIncident rfl)
  have hhi : max 4 (min 1024 (bits 31 16 v)) < 2 ^ 16 := by omega
  have hlo : max 4 (min 1024 (bits 15 0 v)) < 2 ^ 16 := by omega
  simp only [writeDocSeg, run_seq]
  rw [keep_fld (wlog _) _ _ _ _ (by decide) (by decide), keep_fld (wlog _) _ _ _ _ (by decide) (by decide),
    fld_setReg _ _ _ _ _ _ (by decide) (by decide), fld_setReg _ _ _ _ _ _ (by decide) (by decide)]
  generalize max 4 (min 1024 (bits 31 16 v)) = x at *
  generalize max 4 (min 1024 (bits 15 0 v)) = y at *
  simp only [bits, place, Nat.shiftLeft_eq, Nat.shiftRight_eq_div_pow]
  omega

theorem gives_docSegWrite (v : Word) (s : State) (ht : s.taken) : Gives (.docSegWrite v) s fun t =>
    t.fld rDOC_SEG 31 16 = max 4 (min 1024 (bits 31 16 v.toNat)) ∧
      t.fld rDOC_SEG 15 0 = max 4 (min 1024 (bits 15 0 v.toNat)) := by
  refine gives_of_exec (a := regDo (.docSegWrite v) rDOC_SEG v.toNat writeDocSeg) rfl ?_
  rw [run_regDo_taken ht, ← covers_mask (off := rDOC_SEG) (hi := 31) (lo := 16) (by decide),
    ← covers_mask (off := rDOC_SEG) (hi := 15) (lo := 0) (by decide)]
  exact fld_writeDocSeg _ _

/-! ### A step that completes (R220, R222, R230) -/

/-- What a finished move leaves first: its number is free, and its queue notes how its step ended. -/
def stepNoted (m : Nat) (x : Move) (lm : Bool) : Act :=
  seqs [.upd (.move m none), modIq x.iq fun y => { y with
    fly := y.fly.filter (fun k => decide (k ≠ m))
    lastStatus := if y.st = .stopped then y.lastStatus else x.status
    lastStep := if y.st = .stopped then y.lastStep else x.step
    stepsDone := if lm then y.stepsDone ++ [x.step] else y.stepsDone }]

/-- The end of a move stops its queue: a failure of a RUNNING list's step. -/
def State.stepStops (s : State) (x : Move) : Bool :=
  s.iqListMode x.iq && (decide (x.status ≠ Status.ok.code) && !(decide (x.status = Status.busy.code) && x.skipBusy))
    && decide ((s.iq x.iq).st = .running)

/-- What a finished move brings last: the completion of its command, and what its queue and its tenant have reached. -/
def stepLast (x : Move) : Act :=
  seqs [withSome x.cmd (fun id => completeCode id x.status x.result 0), withSome x.snap (fun id => snapMoved id x),
    settleIq x.iq, settleTenant x.tenant]

theorem run_stepDone {m : Nat} {x : Move} {s : State} (hx : s.move m = some x) (hp : x.phase = .done) :
    run (stepDone m) s = run (stepLast x) (run (when' (s.stepStops x) (stopIq x.iq x.step x.status))
      (run (stepNoted m x (s.iqListMode x.iq)) s)) := by
  simp only [stepDone, run_dyn, hx, run_withSome_some, hp, ne_eq, not_true_eq_false, if_false, run_seqs_cons, run_seqs_nil]
  rfl

theorem run_stepDone_idle {m : Nat} {s : State} (h : ∀ x, s.move m = some x → x.phase ≠ .done) :
    run (stepDone m) s = s := by
  cases hx : s.move m with
  | none => simp only [stepDone, run_dyn, hx, run_withSome_none]
  | some x => simp only [stepDone, run_dyn, hx, run_withSome_some, if_pos (h x hx), run_nop]

theorem w_stepNoted (m : Nat) (x : Move) (lm : Bool) : (stepNoted m x lm).Within
    { flds := [.mov .iq, .mov .move], regs := [] } :=
  .seq (within_upd ⟨_, rfl, by decide⟩) (w_modIq _ _ (by decide))

/-- The last part completes commands and settles the queue and the tenant. -/
theorem w_stepLast (x : Move) : (stepLast x).Within ft_completeCode :=
  .seq (within_withSome fun _ _ => w_completeCode ..) (.seq (within_withSome fun _ _ => w_snapMoved ..)
    (.seq ((w_settleIq _).mono (by decide)) ((w_settleTenant _).mono (by decide))))

/-- A queue's failure is shown by DOC_ERR bit 4. -/
theorem flag_stopIq (q step status : Nat) (s : State) : (run (stopIq q step status) s).flag rDOC_ERR 4 = true :=
  flag_incident_err _ rfl (show (4 : Nat) ≠ 0xFF by decide) (show covers rDOC_ERR 4 4 = true by decide) (by decide) (by decide) _

theorem flag_stopIq_keeps {q step status j : Nat} {s : State} (hv : covers rDOC_ERR j j = true)
    (h : s.flag rDOC_ERR j = true) : (run (stopIq q step status) s).flag rDOC_ERR j = true :=
  flag_incident_keeps (s := run (modIq q _) s) rfl hv (by decide) h

/-! ### FORCE (R229, R230) -/

/-- The end of a step keeps DOC_ERR bits. -/
theorem flag_stepDone_keeps {m j : Nat} {s : State} (hv : covers rDOC_ERR j j = true) (h : s.flag rDOC_ERR j = true) :
    (run (stepDone m) s).flag rDOC_ERR j = true := by
  by_cases hd : ∃ x, s.move m = some x ∧ x.phase = .done
  · obtain ⟨x, hx, hp⟩ := hd
    have h₁ : (run (stepNoted m x (s.iqListMode x.iq)) s).flag rDOC_ERR j = true :=
      (keep_flag (w_stepNoted ..) _ _ _ (by decide) List.not_mem_nil s).trans h
    rw [run_stepDone hx hp, keep_flag (w_stepLast x) _ _ _ (by decide) (by decide), run_when']
    split
    · exact flag_stopIq_keeps hv h₁
    · exact h₁
  · rw [run_stepDone_idle fun x hx hp => hd ⟨x, hx, hp⟩, h]

/-- The abort of moves keeps DOC_ERR bits. -/
theorem flag_abortMoves_keeps {ms : List Nat} {j : Nat} {s : State} (hv : covers rDOC_ERR j j = true)
    (h : s.flag rDOC_ERR j = true) : (run (abortMoves ms) s).flag rDOC_ERR j = true := by
  unfold abortMoves
  generalize ms.reverse = l
  induction l generalizing s with
  | nil => exact h
  | cons m l ih =>
    rw [run_each_cons]
    refine ih (flag_stepDone_keeps hv ?_)
    exact (keep_flag (within_whenS (w_failMove m _)) _ _ _ (by decide) List.not_mem_nil s).trans h

/-- FORCE of what is DRAINING: DOC_ERR bit 3, then the moves are aborted and docents may stop. -/
theorem flag_forced (ms : List Nat) (s : State) :
    (run (seqs [setErr blkDOC 3, abortMoves ms, each (List.range 64) settleDocent]) s).flag rDOC_ERR 3 = true := by
  rw [run_seqs_cons, run_seqs_cons, run_seqs_cons, run_seqs_nil,
    keep_flag (within_each _ w_settleDocent) _ _ _ (by decide) List.not_mem_nil]
  exact flag_abortMoves_keeps (by decide) (flag_orReg_bit (by decide) (by decide) s)

theorem gives_docentForce_noOp (docent : Fin 64) (s : State) (ht : s.taken) (hd : s.doc docent.val ≠ .draining) :
    Gives (.docentForce docent) s fun t => (∀ j, t.doc j = s.doc j) ∧ t.flag rDOC_ERR 0 = true := by
  refine gives_of_exec (a := bitDo (.docentForce docent) (docentForceA docent.val)) rfl ?_
  have w : (incA blkDOC 0 rDOC_FORCE).Within ft_docIncident := w_docIncident rfl
  rw [run_bitDo_taken ht, docentForceA, run_dyn, if_neg hd]
  exact ⟨keep_doc w (by decide) s, flag_incident_err _ rfl (by decide) (by decide) (by decide) (by decide) s⟩

theorem gives_docentForce_draining (docent : Fin 64) (s : State) (ht : s.taken) (hd : s.doc docent.val = .draining) :
    Gives (.docentForce docent) s fun t => t.flag rDOC_ERR 3 = true := by
  refine gives_of_exec (a := bitDo (.docentForce docent) (docentForceA docent.val)) rfl ?_
  rw [run_bitDo_taken ht, docentForceA, run_dyn, if_pos hd]
  exact flag_forced _ s

end Sys2Proof.Machine
end

section
/-!
SUPPORT. Chapter 06: arbiters, their requesters and their counters; O26.
-/

namespace Sys2Proof.Machine

/-! ### Requesters that present (R234, R235) -/

/-- The requesters of a list that present at an arbiter, in number order. -/
def State.presenting (s : State) (a : Nat) (reqs : List Nat) : List Nat :=
  (List.range 128).filter fun r => reqs.contains r && arbHas a r && !(s.arbReq (arbKey a r)).backing
    && decide ((s.arbiter a).holder ≠ some r)

theorem run_arbPresentA (a : Nat) (reqs : List Nat) (s : State) : run (arbPresentA a reqs) s =
    run (each ((s.presenting a reqs).filter fun r => decide (s.arbWinner a (s.presenting a reqs) ≠ some r)) (arbLose a))
      (run (withSome (s.arbWinner a (s.presenting a reqs)) (arbGrant a)) s) := rfl

/-- At a free arbiter the requesters of a rising list that are its own and do not back off present. -/
theorem presenting_all {a : Nat} {l : List Nat} {s : State} (hh : (s.arbiter a).holder = none) (hl : l.Pairwise (· < ·))
    (h : ∀ r ∈ l, r < 128 ∧ arbHas a r = true ∧ (s.arbReq (arbKey a r)).backing = false) : s.presenting a l = l := by
  refine ((List.pairwise_lt_range (n := 128)).filter _).eq_of_mem_iff hl fun r => ?_
  simp only [List.mem_filter, List.mem_range, List.contains_eq_mem, hh, Bool.and_eq_true, decide_eq_true_eq, Bool.not_eq_true']
  constructor
  · rintro ⟨-, ⟨⟨hr, -⟩, -⟩, -⟩; exact hr
  · intro hr
    obtain ⟨hlt, hhas, hback⟩ := h r hr
    exact ⟨hlt, ⟨⟨hr, hhas⟩, hback⟩, by simp⟩

/-! ### The winner (R234, R240, R241) -/

/-- Without heirs the lowest open requester wins. -/
theorem arbWinner_lowest {a r : Nat} {rs : List Nat} {s : State} (hh : (s.arbiter a).holder = none)
    (hc : s.arbClosed a = false) (he : (s.arbiter a).heirs = []) (hr : s.arbShut a r = false) :
    s.arbWinner a (r :: rs) = some r := by
  simp [State.arbWinner, hh, hc, he, hr]

/-- The first heir wins where it presents. -/
theorem arbWinner_heir {a r : Nat} {rs rest : List Nat} {s : State} (hh : (s.arbiter a).holder = none)
    (hc : s.arbClosed a = false) (he : (s.arbiter a).heirs = r :: rest) (hm : r ∈ rs) (hr : s.arbShut a r = false) :
    s.arbWinner a rs = some r := by
  simp [State.arbWinner, hh, hc, he, hr, hm]

/-- Where the first heir does not present, no one wins. -/
theorem arbWinner_none {a h : Nat} {rs rest : List Nat} {s : State} (he : (s.arbiter a).heirs = h :: rest) (hm : h ∉ rs) :
    s.arbWinner a rs = none := by
  simp [State.arbWinner, he, hm]

/-! ### A grant and a loss (R234, R235, R239) -/

theorem arbiter_modArbiter (a : Nat) (f : Arb → Arb) (s : State) (j : Nat) :
    (run (modArbiter a f) s).arbiter j = if j = a then f (s.arbiter a) else s.arbiter j := applyUpd_arbiter s a _ j

theorem arbReq_modArbReq (k : Nat) (f : ArbReq → ArbReq) (s : State) (j : Nat) :
    (run (modArbReq k f) s).arbReq j = if j = k then f (s.arbReq k) else s.arbReq j := applyUpd_arbReq s k _ j

theorem arbKey_inj {a r r' : Nat} : arbKey a r = arbKey a r' ↔ r = r' := by unfold arbKey; omega

/-- The counters that a grant at a system-class arbiter advances, for a wait of `w` cycles. -/
def countGrant (k w m : Nat) : Act :=
  seqs [addFld rARB_GRANTS 47 0 1 k, addFld rARB_WAIT 63 0 w k, setFld rARB_WAIT_MAX 31 0 m k]

theorem w_countGrant (k w m : Nat) : (countGrant k w m).Within
    { flds := [], regs := [rARB_GRANTS, rARB_WAIT, rARB_WAIT_MAX] } :=
  .seq (within_addFld _ _ _ _ (by decide) (by decide)) (.seq (within_addFld _ _ _ _ (by decide) (by decide))
    (within_setFld _ _ _ _ (by decide) (by decide)))

theorem fld_countGrant (k w m : Nat) (s : State) : (run (countGrant k w m) s).fld rARB_GRANTS 47 0 k =
    sat 48 (s.fld rARB_GRANTS 47 0 k + 1) := by
  have wrest : (seqs [addFld rARB_WAIT 63 0 w k, setFld rARB_WAIT_MAX 31 0 m k]).Within
      { flds := [], regs := [rARB_WAIT, rARB_WAIT_MAX] } :=
    .seq (within_addFld _ _ _ _ (by decide) (by decide)) (within_setFld _ _ _ _ (by decide) (by decide))
  rw [countGrant, run_seqs_cons, keep_fld wrest _ _ _ _ (by decide) (by decide), fld_addFld _ _ _ _ _ _ (by decide) (by decide)]

/-- An arbiter whose port requester `r` has been granted. -/
def Arb.granted (x : Arb) (r : Nat) : Arb := { holder := some r, heirs := x.heirs.filter fun h => decide (h ≠ r) }

/-- An arbiter with requester `r` among its heirs. -/
def Arb.withHeir (x : Arb) (r : Nat) : Arb := if x.heirs.contains r then x else { x with heirs := x.heirs ++ [r] }

/-- A requester that has lost at module cycle `c`. -/
def ArbReq.lost (q : ArbReq) (c : Nat) : ArbReq :=
  { losses := q.losses + 1, backing := true, since := some (q.since.getD c) }

theorem Arb.holder_withHeir (x : Arb) (r : Nat) : (x.withHeir r).holder = x.holder := by
  unfold Arb.withHeir; split <;> rfl

theorem Arb.mem_heirs_withHeir (x : Arb) (r : Nat) : r ∈ (x.withHeir r).heirs := by
  unfold Arb.withHeir
  split
  · next h => exact List.contains_iff_mem.mp h
  · exact List.mem_append_right _ (List.mem_singleton_self r)

/-- A granted requester holds the port, has left the heirs, and starts anew; a system-class grant is counted. -/
theorem readers_arbGrant (a r : Nat) (s : State) : let t := run (arbGrant a r) s
    t.arbiter a = (s.arbiter a).granted r ∧
      (∀ j, t.arbReq j = if j = arbKey a r then {} else s.arbReq j) ∧
      (arbUser a = false → t.fld rARB_GRANTS 47 0 (arbKey a r) = sat 48 (s.fld rARB_GRANTS 47 0 (arbKey a r) + 1)) := by
  intro t
  set s₁ := applyUpd (.arbReq (arbKey a r) {}) (run (modArbiter a fun x => x.granted r) s) with hs₁
  obtain ⟨w, m, ht⟩ : ∃ w m, t = run (when' (!arbUser a) (countGrant (arbKey a r) w m)) s₁ := ⟨_, _, rfl⟩
  have wc := within_when' (c := !arbUser a) (w_countGrant (arbKey a r) w m)
  refine ⟨?port, fun j => ?reqs, fun hu => ?count⟩
  case port =>
    rw [ht, keep_arbiter wc List.not_mem_nil]
    exact (arbiter_modArbiter a (fun x => x.granted r) s a).trans (if_pos rfl)
  case reqs =>
    rw [ht, keep_arbReq wc List.not_mem_nil]
    exact applyUpd_arbReq ..
  case count =>
    rw [ht, run_when', if_pos (by rw [hu]; rfl), fld_countGrant]
    rfl

/-- A requester that loses backs off, and an open one is an heir. -/
theorem readers_arbLose {a r : Nat} {s : State} (hs : s.arbShut a r = false) : let t := run (arbLose a r) s
    t.arbiter a = (s.arbiter a).withHeir r ∧ t.arbReq (arbKey a r) = (s.arbReq (arbKey a r)).lost s.cycle := by
  intro t
  have wa : (modArbiter a fun x => x.withHeir r).Within { flds := [.arb .arbiter], regs := [] } :=
    w_modArbiter _ _ (by decide)
  have wq : (modArbReq (arbKey a r) fun q => q.lost s.cycle).Within { flds := [.arb .arbReq], regs := [] } :=
    w_modArbReq _ _ (by decide)
  have ht : t = run (modArbiter a fun x => x.withHeir r) (run (modArbReq (arbKey a r) fun q => q.lost s.cycle) s) := by
    simp only [t, arbLose, run_dyn, run_seq, hs, Bool.not_false, run_when', if_true]
    rfl
  rw [ht, keep_arbReq wa (by decide), arbiter_modArbiter, if_pos rfl, keep_arbiter wq (by decide), arbReq_modArbReq,
    if_pos rfl]
  exact ⟨rfl, rfl⟩

theorem arbShut_arbGrant (a r b i : Nat) (s : State) : (run (arbGrant a r) s).arbShut b i = s.arbShut b i := by
  unfold State.arbShut
  rw [keep_flag (w_arbGrant a r) rARB_CLOSE_TEN _ _ (by decide) (by decide)]

/-- One requester that wins. -/
theorem run_arbPresentA_wins {a r : Nat} {s : State} (hp : s.presenting a [r] = [r]) (hw : s.arbWinner a [r] = some r) :
    run (arbPresentA a [r]) s = run (arbGrant a r) s := by
  rw [run_arbPresentA, hp, hw]
  simp

/-- One requester that loses. -/
theorem run_arbPresentA_loses {a r : Nat} {s : State} (hp : s.presenting a [r] = [r]) (hw : s.arbWinner a [r] = none) :
    run (arbPresentA a [r]) s = run (arbLose a r) s := by
  rw [run_arbPresentA, hp, hw]
  simp

/-- Two requesters of which the first wins. -/
theorem run_arbPresentA_two {a r r' : Nat} {s : State} (hp : s.presenting a [r, r'] = [r, r'])
    (hw : s.arbWinner a [r, r'] = some r) (hr : r ≠ r') :
    run (arbPresentA a [r, r']) s = run (arbLose a r') (run (arbGrant a r) s) := by
  rw [run_arbPresentA, hp, hw]
  simp [hr]

/-! ### ARB_PRESENT, ARB_BACKOFF_EXPIRE, ARB_DROP (R234 to R236) -/

theorem gives_arbPresent {arb : Fin 306} {reqs : List (Fin 128)} {s : State} {q : State → Prop}
    (h : q (run (arbPresentA arb.val (reqs.map Fin.val)) s)) : Gives (.arbPresent arb reqs) s q := ⟨_, rfl, h⟩

/-- Requester `r` is open at the free, open arbiter `a`, which has it, and does not back off. -/
structure State.MayPresent (s : State) (a r : Nat) : Prop where
  lt : r < 128
  free : (s.arbiter a).holder = none
  openPort : s.arbClosed a = false
  has : arbHas a r = true
  openReq : s.arbShut a r = false
  ready : (s.arbReq (arbKey a r)).backing = false

theorem State.MayPresent.presenting {s : State} {a r : Nat} (h : s.MayPresent a r) : s.presenting a [r] = [r] :=
  presenting_all h.free (List.pairwise_singleton _ _) fun x hx => by
    rw [List.mem_singleton.mp hx]; exact ⟨h.lt, h.has, h.ready⟩

/-- Alone at an arbiter without heirs, a requester is granted. -/
theorem readers_arbPresentA_grant {s : State} {a r : Nat} (h : s.MayPresent a r) (he : (s.arbiter a).heirs = []) :
    let t := run (arbPresentA a [r]) s
    t.arbiter a = { holder := some r, heirs := [] } ∧ t.arbReq (arbKey a r) = {} ∧
      (arbUser a = false → t.fld rARB_GRANTS 47 0 (arbKey a r) = sat 48 (s.fld rARB_GRANTS 47 0 (arbKey a r) + 1)) := by
  intro t
  obtain ⟨hport, hreq, hcount⟩ := readers_arbGrant a r s
  rw [show t = _ from run_arbPresentA_wins h.presenting (arbWinner_lowest h.free h.openPort he h.openReq)]
  exact ⟨by rw [hport, Arb.granted, he]; rfl, by rw [hreq, if_pos rfl], hcount⟩

/-- Of two at an arbiter without heirs the lower is granted; the other loses and is the next heir. -/
theorem readers_arbPresentA_two {s : State} {a r r' : Nat} (h : s.MayPresent a r) (h' : s.MayPresent a r') (hr : r < r')
    (he : (s.arbiter a).heirs = []) : let t := run (arbPresentA a [r, r']) s
    t.arbiter a = { holder := some r, heirs := [r'] } ∧
      t.arbReq (arbKey a r') = (s.arbReq (arbKey a r')).lost (run (arbGrant a r) s).cycle := by
  intro t
  have hp : s.presenting a [r, r'] = [r, r'] := presenting_all h.free (by simpa using hr) fun x hx => by
    rcases List.mem_pair.mp hx with rfl | rfl
    · exact ⟨h.lt, h.has, h.ready⟩
    · exact ⟨h'.lt, h'.has, h'.ready⟩
  obtain ⟨hport, hreq, -⟩ := readers_arbGrant a r s
  obtain ⟨hheir, hlost⟩ := readers_arbLose (a := a) (r := r') (s := run (arbGrant a r) s)
    (by rw [arbShut_arbGrant, h'.openReq])
  rw [show t = _ from run_arbPresentA_two hp (arbWinner_lowest h.free h.openPort he h.openReq) (Nat.ne_of_lt hr), hheir,
    hlost, hport, hreq, if_neg (by rw [arbKey_inj]; omega)]
  exact ⟨by simp [Arb.granted, Arb.withHeir, he], rfl⟩

/-- While another is the first heir, a requester loses at a free port. -/
theorem readers_arbPresentA_behindHeir {s : State} {a r h : Nat} {rest : List Nat} (hm : s.MayPresent a r)
    (he : (s.arbiter a).heirs = h :: rest) (hr : h ≠ r) : let t := run (arbPresentA a [r]) s
    (t.arbiter a).holder = none ∧ r ∈ (t.arbiter a).heirs ∧ (t.arbReq (arbKey a r)).backing = true := by
  intro t
  obtain ⟨hheir, hlost⟩ := readers_arbLose hm.openReq
  rw [show t = _ from run_arbPresentA_loses hm.presenting (arbWinner_none he (by simpa using hr)), hheir, hlost,
    Arb.holder_withHeir, hm.free]
  exact ⟨rfl, Arb.mem_heirs_withHeir _ _, rfl⟩

theorem run_arbAgainA_idle {a r : Nat} {s : State} (h : (s.arbReq (arbKey a r)).backing = false) :
    run (arbAgainA a r) s = s := by
  rw [arbAgainA, run_whenS, h, if_neg Bool.false_ne_true]

/-- The first heir that presents again at a free port is granted. -/
theorem readers_arbAgainA_heir {a r : Nat} {s : State} (hlt : r < 128) (hb : (s.arbReq (arbKey a r)).backing = true)
    (hh : (s.arbiter a).holder = none) (hc : s.arbClosed a = false) (hhas : arbHas a r = true)
    (hs : s.arbShut a r = false) (he : (s.arbiter a).heirs.head? = some r) : let t := run (arbAgainA a r) s
    (t.arbiter a).holder = some r ∧ r ∉ (t.arbiter a).heirs ∧ t.arbReq (arbKey a r) = {} := by
  intro t
  set s₁ := run (modArbReq (arbKey a r) fun q => { q with backing := false }) s with hs₁
  have hrun : t = run (arbPresentA a [r]) s₁ := by
    simp only [t, arbAgainA, run_whenS, hb, if_true, run_seq, hs₁]
  have hm : s₁.MayPresent a r := ⟨hlt, hh, hc, hhas, hs, by rw [hs₁, arbReq_modArbReq, if_pos rfl]⟩
  obtain ⟨rest, he'⟩ := List.head?_eq_some_iff.mp he
  obtain ⟨hport, hreq, -⟩ := readers_arbGrant a r s₁
  rw [hrun, run_arbPresentA_wins hm.presenting (arbWinner_heir hh hc he' (List.mem_singleton_self r) hs), hport, hreq,
    if_pos rfl]
  exact ⟨rfl, by simp [Arb.granted], rfl⟩

theorem gives_arbDrop (arb : Fin 306) (s : State) : Gives (.arbDrop arb) s fun t =>
    t.arbiter arb.val = { s.arbiter arb.val with holder := none } ∧
      ∀ j, j ≠ arb.val → t.arbiter j = s.arbiter j := by
  refine gives_of_exec (a := modArbiter arb.val fun x => { x with holder := none }) rfl ?_
  exact ⟨by rw [arbiter_modArbiter, if_pos rfl], fun j hj => by rw [arbiter_modArbiter, if_neg hj]⟩

/-! ### ARB_CLOSE and ARB_CLOSE_TEN (R240, R241) -/

theorem gives_arbCloseWrite (v : Word) (s : State) (ht : s.taken) : Gives (.arbCloseWrite v) s fun t =>
    t.fld rARB_CLOSE 1 0 = bits 1 0 v.toNat := by
  refine gives_of_exec (a := regDo (.arbCloseWrite v) rARB_CLOSE v.toNat fun w => setReg rARB_CLOSE (w % 4)) rfl ?_
  have h4 : ∀ w, bits 1 0 (w % 4) = bits 1 0 w := fun w => by simp [bits]
  rw [run_regDo_taken ht, fld_setReg _ _ _ _ _ _ (by decide) (by decide), h4, covers_mask (by decide)]

/-- Every bit of ARB_CLOSE_TEN may be written. -/
theorem and_mask_closeTen (v : Word) : v.toNat &&& regMask rARB_CLOSE_TEN = v.toNat := by
  have hm : regMask rARB_CLOSE_TEN = 2 ^ 64 - 1 := by decide
  rw [hm, Nat.and_two_pow_sub_one_of_lt_two_pow v.isLt]

/-- An arbiter's heirs without the tenants that `v` closes. -/
def Arb.closeHeirs (v : Nat) (x : Arb) : Arb := { x with heirs := x.heirs.filter fun r => !v.testBit r }

theorem Arb.closeHeirs_idem (v : Nat) (x : Arb) : (x.closeHeirs v).closeHeirs v = x.closeHeirs v := by
  simp [Arb.closeHeirs]

/-- Closing tenants takes them from both heir lists. -/
theorem readers_writeCloseTen (v : Nat) (s : State) : let t := run (writeCloseTen v) s
    t.reg rARB_CLOSE_TEN 0 = BitVec.ofNat 64 (v &&& regMask rARB_CLOSE_TEN) ∧
      ∀ a, (a = 304 ∨ a = 305) → t.arbiter a = (s.arbiter a).closeHeirs v := by
  intro t
  have wa : (each [304, 305] fun a => modArbiter a (Arb.closeHeirs v)).Within { flds := [.arb .arbiter], regs := [] } :=
    within_each _ fun _ => w_modArbiter _ _ (by decide)
  have ht : t = run (each [304, 305] fun a => modArbiter a (Arb.closeHeirs v)) (run (setReg rARB_CLOSE_TEN v) s) := rfl
  have hmod : ∀ k s j, (run (modArbiter k (Arb.closeHeirs v)) s).arbiter j =
      if j = k then (s.arbiter j).closeHeirs v else s.arbiter j := fun k s j => by
    rw [arbiter_modArbiter]
    split
    · next h => rw [h]
    · rfl
  refine ⟨?_, fun a ha => ?_⟩
  · rw [ht, (wa.frame _).2.2.2 _ _ (by decide) List.not_mem_nil, setReg_reg _ _ _ _ (by decide)]
  · rw [ht, run_each_idem State.arbiter hmod (Arb.closeHeirs_idem v), if_pos (by simpa using ha)]
    rfl

theorem gives_arbCloseTenWrite (v : Word) (s : State) (ht : s.taken) : Gives (.arbCloseTenWrite v) s fun t =>
    t.reg rARB_CLOSE_TEN 0 = v ∧
      ∀ a r, (a = 304 ∨ a = 305) → v.toNat.testBit r = true → r ∉ (t.arbiter a).heirs := by
  refine gives_of_exec (a := regDo (.arbCloseTenWrite v) rARB_CLOSE_TEN v.toNat writeCloseTen) rfl ?_
  obtain ⟨hreg, hheirs⟩ := readers_writeCloseTen v.toNat (run (reservedLogged rARB_CLOSE_TEN v.toNat) s)
  rw [run_regDo_taken ht, and_mask_closeTen]
  refine ⟨?_, fun a r ha hr => ?_⟩
  · rw [hreg, and_mask_closeTen, BitVec.ofNat_toNat, BitVec.setWidth_eq]
  · rw [hheirs a ha]
    simp [Arb.closeHeirs, hr]

/-! ### The counters (R239) -/

theorem reg_setReg {off off' : Nat} (h : off < 2 ^ 24) (h' : off' < 2 ^ 24) (k j : Nat) (s : State) :
    (run (setReg off 0 k) s).reg off' j = if off' = off ∧ j = k then 0 else s.reg off' j := by
  rw [setReg, run_upd, applyUpd_reg_reg _ _ _ _ _ _ h h', Nat.zero_and]
  rfl

/-- The offsets of an arbiter's three counters. -/
def arbCounters : List Nat := [rARB_GRANTS, rARB_WAIT, rARB_WAIT_MAX]

/-- Clearing the counters of one requester clears all three, and leaves those of every other. -/
theorem reg_clearCount {off : Nat} (h : off ∈ arbCounters) (k : Nat) (s : State) (j : Nat) :
    (run (clearCount k) s).reg off j = if j = k then 0 else s.reg off j := by
  simp only [arbCounters, List.mem_cons, List.not_mem_nil, or_false] at h
  rw [clearCount, run_seqs_cons, run_seqs_cons, run_seqs_cons, run_seqs_nil]
  rcases h with rfl | rfl | rfl
  all_goals
    rw [reg_setReg (by decide) (by decide), reg_setReg (by decide) (by decide), reg_setReg (by decide) (by decide)]
    simp

theorem arbCounter_lt {off : Nat} (h : off ∈ arbCounters) : off < 2 ^ 24 := by
  simp only [arbCounters, List.mem_cons, List.not_mem_nil, or_false] at h
  rcases h with rfl | rfl | rfl <;> decide

theorem regRow_arbCounter : ∀ off ∈ arbCounters, (regRow off).map (fun r => r.reset) = some 0 := by decide

theorem regReset_of_row {key : Nat} {r : RegRow} (h : regRow (key % 0x1000000) = some r) :
    regReset key = BitVec.ofNat 64 r.reset := by
  simp only [regReset, h]

/-- The counters read 0 at reset. -/
theorem reset_arbCounter {off : Nat} (h : off ∈ arbCounters) (k : Nat) : regReset (regKey off k) = 0 := by
  obtain ⟨r, hr, h0⟩ := Option.map_eq_some_iff.mp (regRow_arbCounter off h)
  rw [regReset_of_row (r := r) (by rw [regKey_mod k (arbCounter_lt h), hr]), h0]
  rfl

/-- The entry of a counter that is listed has a key that the clearing of all counters finds. -/
theorem arbCounter_listed {off k : Nat} {t : Tab Word} (h : off ∈ arbCounters) (hk : regKey off k ∈ tkeys t) :
    k ∈ ((tkeys t).filter fun k => decide (k % 2 ^ 24 = rARB_GRANTS) || decide (k % 2 ^ 24 = rARB_WAIT)
      || decide (k % 2 ^ 24 = rARB_WAIT_MAX)).map fun k => k / 2 ^ 24 := by
  have ho := arbCounter_lt h
  refine List.mem_map.mpr ⟨regKey off k, List.mem_filter.mpr ⟨hk, ?_⟩, by unfold regKey; omega⟩
  rw [show regKey off k % 2 ^ 24 = off from regKey_mod k ho]
  simpa [arbCounters, or_assoc] using h

theorem reg_clearCounts {off : Nat} (h : off ∈ arbCounters) (s : State) (k : Nat) :
    (run clearCounts s).reg off k = 0 := by
  rw [clearCounts, run_dyn, run_each_idem (fun s j => s.reg off j) (g := fun _ => 0)
    (fun k s j => reg_clearCount h k s j) (fun _ => rfl)]
  split
  · rfl
  · next hn =>
    refine Eq.trans ?_ (reset_arbCounter h k)
    exact tget_of_notMem _ fun hk => hn (arbCounter_listed h hk)

theorem gives_arbCntClrAll (s : State) (ht : s.taken) : Gives .arbCntClrAll s fun t =>
    ∀ k, (t.reg rARB_GRANTS k).toNat = 0 ∧ (t.reg rARB_WAIT k).toNat = 0 ∧ (t.reg rARB_WAIT_MAX k).toNat = 0 := by
  refine gives_of_exec (a := bitDo .arbCntClrAll clearCounts) rfl fun k => ?_
  rw [run_bitDo_taken ht, reg_clearCounts (by decide), reg_clearCounts (by decide), reg_clearCounts (by decide)]
  exact ⟨rfl, rfl, rfl⟩

theorem gives_arbCntClrSel (s : State) (ht : s.taken) : Gives .arbCntClrSel s fun t =>
    let k := arbKey (s.fld rARB_SEL 24 16) (s.fld rARB_SEL 6 0)
    (t.reg rARB_GRANTS k).toNat = 0 ∧ (t.reg rARB_WAIT k).toNat = 0 ∧ (t.reg rARB_WAIT_MAX k).toNat = 0 ∧
      ∀ j, j ≠ k → t.reg rARB_GRANTS j = s.reg rARB_GRANTS j := by
  refine gives_of_exec (a := bitDo .arbCntClrSel clearSelected) rfl ?_
  rw [run_bitDo_taken ht, clearSelected, run_dyn]
  refine ⟨?_, ?_, ?_, fun j hj => by rw [reg_clearCount (by decide), if_neg hj]⟩
  all_goals
    rw [reg_clearCount (by decide), if_pos rfl]
    rfl

/-- Settles O26: docents by their enables, arbiters by who presents and who is the first heir. -/
theorem docentsAndArbiters : Obligations.DocentsAndArbiters := by
  unfold Obligations.DocentsAndArbiters
  refine ⟨fun docent s ht => ⟨gives_docentEnable docent s ht, gives_docentDisable docent s ht,
      gives_docentForce_noOp docent s ht, gives_docentForce_draining docent s ht⟩, gives_docSegWrite,
    fun arb r s hh hc hhas hs hb => ?present, fun arb r s => ⟨fun hb => ?idle, fun hb hh hc hhas hs he => ?again,
      gives_arbDrop arb s⟩, fun v s ht => ⟨gives_arbCloseWrite v s ht, gives_arbCloseTenWrite v s ht⟩,
    fun s ht => ⟨gives_arbCntClrAll s ht, gives_arbCntClrSel s ht⟩⟩
  case present =>
    have hm : s.MayPresent arb.val r.val := ⟨r.isLt, hh, hc, hhas, hs, hb⟩
    refine ⟨fun he => gives_arbPresent (readers_arbPresentA_grant hm he), fun he r' hr hhas' hs' hb' => ?_,
      fun h rest he hr => gives_arbPresent (readers_arbPresentA_behindHeir hm he hr)⟩
    obtain ⟨hport, hlost⟩ := readers_arbPresentA_two hm ⟨r'.isLt, hh, hc, hhas', hs', hb'⟩ hr he
    exact gives_arbPresent ⟨hport, congrArg ArbReq.backing hlost, congrArg ArbReq.losses hlost⟩
  case idle => exact gives_of_exec (a := arbAgainA arb.val r.val) rfl (run_arbAgainA_idle hb)
  case again =>
    exact gives_of_exec (a := arbAgainA arb.val r.val) rfl (readers_arbAgainA_heir r.isLt hb hh hc hhas hs he)

end Sys2Proof.Machine
end

section
/-!
SUPPORT. Chapter 06: itinerary queues, their steps and their control; O25.
-/

namespace Sys2Proof.Machine

/-! ### Starting steps (R217 to R219, R222) -/

theorem iq_modIq (q : Nat) (f : Iq → Iq) (s : State) (j : Nat) :
    (run (modIq q f) s).iq j = if j = q then f (s.iq q) else s.iq j := applyUpd_iq s q _ j

/-- Queue `q` may start a step: it is RUNNING, not being cancelled and not held, in a module that is not stilled. -/
structure State.IqStarts (s : State) (q : Nat) : Prop where
  running : (s.iq q).st = .running
  uncancelled : (s.iq q).cancelling = false
  unstilled : s.stilled = false
  unheld : s.holds (s.iqTenant q) = false

theorem run_iqStepA_idle {q : Nat} {s : State} (h : (s.iq q).st ≠ .running ∨ (s.iq q).cancelling = true ∨
    s.stilled = true ∨ s.holds (s.iqTenant q) = true) : run (iqStepA q) s = s := by
  rw [iqStepA, run_dyn, if_pos h, run_nop]

theorem run_iqStepA {q : Nat} {s : State} (h : s.IqStarts q) :
    run (iqStepA q) s = if s.iqListMode q = true then run (listStep q) s else run (commandStep q) s := by
  obtain ⟨hr, hc, hs, hh⟩ := h
  rw [iqStepA, run_dyn, if_neg (by simp [hr, hc, hs, hh]), run_ite]

/-- A queue that a failure has stopped shows its step and status. -/
theorem iq_stopIq (q step status : Nat) (s : State) : (run (stopIq q step status) s).iq q =
    { s.iq q with st := .stopped, lastStatus := status, lastStep := step } := by
  rw [stopIq, run_dyn, run_seq, keep_iq (w_docIncident rfl) (by decide), iq_modIq, if_pos rfl]

/-- A record that does not fit: the queue goes past it and stops. -/
theorem run_listStep_misfit {q : Nat} {s : State} (hn : (s.iq q).next < s.iqCount q)
    (hf : s.recordFits (s.iqStep q (s.iq q).next) (s.iq q).next = false) : run (listStep q) s =
      run (stopIq q (s.iq q).next Status.shapeInvalid.code)
        (run (modIq q fun x => { x with stepsDone := x.stepsDone ++ [(s.iq q).next] }) (run (passStep q (s.iq q).next) s)) := by
  rw [listStep, run_dyn]
  simp only [if_neg (Nat.not_le.mpr hn), hf, Bool.not_false, if_true, run_seqs_cons, run_seqs_nil]

/-- The move that step `r`, of place `i` in the list of queue `q`, starts. -/
def State.stepMove (s : State) (q i : Nat) (r : Step) (k : MoveKind) : Move :=
  { kind := k, src := idxOf r.src, dst := idxOf r.dst, stage := r.stage, tenant := s.iqTenant q, step := i
    skipBusy := r.flags.testBit 0 }

theorem run_listStep_starts {q : Nat} {k : MoveKind} {s : State} (hn : (s.iq q).next < s.iqCount q)
    (hf : s.recordFits (s.iqStep q (s.iq q).next) (s.iq q).next = true)
    (ht : s.fired q (s.iqStep q (s.iq q).next) = true) (hl : (s.iq q).fly.length < s.iqLimit q)
    (hk : moveKindOf (s.iqStep q (s.iq q).next).kind = some k) : run (listStep q) s =
      run (launch q (s.stepMove q (s.iq q).next (s.iqStep q (s.iq q).next) k)) (run (passStep q (s.iq q).next) s) := by
  rw [listStep, run_dyn]
  simp only [if_neg (Nat.not_le.mpr hn), hf, Bool.not_true, Bool.false_eq_true, if_false, ht, hl, decide_true, Bool.and_self,
    if_true, run_seq, hk, run_withSome_some]
  rfl

/-- A step whose trigger has not fired, or that the limit keeps back, waits. -/
theorem run_listStep_waits {q : Nat} {s : State} (hn : (s.iq q).next < s.iqCount q)
    (hf : s.recordFits (s.iqStep q (s.iq q).next) (s.iq q).next = true)
    (h : s.fired q (s.iqStep q (s.iq q).next) = false ∨ s.iqLimit q ≤ (s.iq q).fly.length) : run (listStep q) s = s := by
  have hno : ¬ (s.fired q (s.iqStep q (s.iq q).next) && decide ((s.iq q).fly.length < s.iqLimit q)) = true := by
    rcases h with h | h
    · simp [h]
    · simp [Nat.not_lt.mpr h]
  rw [listStep, run_dyn]
  simp only [if_neg (Nat.not_le.mpr hn), hf, Bool.not_true, Bool.false_eq_true, if_false, if_neg hno, run_nop]

/-- A move put in flight takes the next number. -/
theorem readers_launch (q : Nat) (x : Move) (s : State) : let t := run (launch q x) s
    t.iq q = { s.iq q with fly := (s.iq q).fly ++ [s.nextMove] } ∧ t.nextMove = s.nextMove + 1 ∧
      t.move s.nextMove = some { x with iq := q, docs := (s.reg rDOC_IQ_DOCS q).toNat } := by
  intro t
  have wq : (modIq q fun y => { y with fly := y.fly ++ [s.nextMove] }).Within { flds := [.mov .iq], regs := [] } :=
    w_modIq _ _ (by decide)
  simp only [t, launch, run_dyn, run_seqs_cons, run_seqs_nil, run_upd]
  rw [iq_modIq, if_pos rfl, keep_nextMove wq (by decide), keep_move wq (by decide)]
  exact ⟨rfl, rfl, (applyUpd_move s _ _ _).trans (if_pos rfl)⟩

/-- The move that MOVE command `id`, taken from queue `q`, starts. -/
def State.cmdMove (s : State) (q id : Nat) (c : Cmd) (k : MoveKind) : Move :=
  { kind := k, src := idxOf (leAt c.desc 0x14 4), dst := idxOf (leAt c.desc 0x18 4), stage := leAt c.desc 0x20 6
    tenant := s.iqTenant q, cmd := some id }

theorem run_commandStep_starts {q id : Nat} {rest : List Nat} {c : Cmd} {k : MoveKind} {s : State}
    (hq : (s.iq q).cmds = id :: rest) (hl : (s.iq q).fly.length < s.iqLimit q) (hc : s.cmd id = some c)
    (hk : moveKindOf (leAt c.desc 0x10 1) = some k) : run (commandStep q) s =
      run (launch q (s.cmdMove q id c k)) (run (modIq q fun x => { x with cmds := rest }) s) := by
  rw [commandStep, run_dyn]
  simp only [hq, if_neg (Nat.not_le.mpr hl), run_seq, hc, run_withSome_some, hk]
  rfl

theorem gives_iqStepStart {iq : Fin 64} {s : State} {q : State → Prop} (h : q (run (iqStepA iq.val) s)) :
    Gives (.iqStepStart iq) s q := ⟨_, rfl, h⟩

theorem readers_iqStepA_misfit {q : Nat} {s : State} (h : s.IqStarts q) (hm : s.iqListMode q = true)
    (hn : (s.iq q).next < s.iqCount q) (hf : s.recordFits (s.iqStep q (s.iq q).next) (s.iq q).next = false) :
    let t := run (iqStepA q) s
    (t.iq q).st = .stopped ∧ (t.iq q).lastStep = (s.iq q).next ∧ (t.iq q).lastStatus = Status.shapeInvalid.code ∧
      t.flag rDOC_ERR 4 = true := by
  intro t
  rw [show t = _ from run_iqStepA h, if_pos hm, run_listStep_misfit hn hf, iq_stopIq]
  exact ⟨rfl, rfl, rfl, flag_stopIq _ _ _ _⟩

theorem readers_iqStepA_starts {q : Nat} {k : MoveKind} {s : State} (h : s.IqStarts q) (hm : s.iqListMode q = true)
    (hn : (s.iq q).next < s.iqCount q) (hf : s.recordFits (s.iqStep q (s.iq q).next) (s.iq q).next = true)
    (ht : s.fired q (s.iqStep q (s.iq q).next) = true) (hl : (s.iq q).fly.length < s.iqLimit q)
    (hk : moveKindOf (s.iqStep q (s.iq q).next).kind = some k) : let t := run (iqStepA q) s
    (t.iq q).next = (s.iq q).next + 1 ∧ (t.iq q).fly = (s.iq q).fly ++ [s.nextMove] ∧ t.nextMove = s.nextMove + 1 ∧
      t.move s.nextMove = some { s.stepMove q (s.iq q).next (s.iqStep q (s.iq q).next) k with
        iq := q, docs := (s.reg rDOC_IQ_DOCS q).toNat } := by
  intro t
  have hpass : (run (passStep q (s.iq q).next) s).iq q =
      { s.iq q with next := (s.iq q).next + 1, endsSeen := (List.range 16).map fun h => (s.load h).ends } := by
    rw [passStep, run_dyn, iq_modIq, if_pos rfl]
  have hnum : (run (passStep q (s.iq q).next) s).nextMove = s.nextMove := keep_nextMove (w_passStep ..) (by decide) s
  obtain ⟨hiq, hnext, hmove⟩ := readers_launch q (s.stepMove q (s.iq q).next (s.iqStep q (s.iq q).next) k)
    (run (passStep q (s.iq q).next) s)
  rw [hnum] at hiq hnext hmove
  rw [show t = _ from run_iqStepA h, if_pos hm, run_listStep_starts hn hf ht hl hk, hiq, hnext, hmove, hpass]
  exact ⟨rfl, rfl, rfl, rfl⟩

theorem readers_iqStepA_command {q id : Nat} {rest : List Nat} {c : Cmd} {k : MoveKind} {s : State} (h : s.IqStarts q)
    (hm : s.iqListMode q = false) (hq : (s.iq q).cmds = id :: rest) (hl : (s.iq q).fly.length < s.iqLimit q)
    (hc : s.cmd id = some c) (hk : moveKindOf (leAt c.desc 0x10 1) = some k) : let t := run (iqStepA q) s
    (t.iq q).cmds = rest ∧ (t.iq q).fly = (s.iq q).fly ++ [s.nextMove] ∧
      t.move s.nextMove = some { s.cmdMove q id c k with iq := q, docs := (s.reg rDOC_IQ_DOCS q).toNat } := by
  intro t
  have hnum : (run (modIq q fun x => { x with cmds := rest }) s).nextMove = s.nextMove := rfl
  obtain ⟨hiq, -, hmove⟩ := readers_launch q (s.cmdMove q id c k) (run (modIq q fun x => { x with cmds := rest }) s)
  rw [hnum] at hiq hmove
  rw [show t = _ from run_iqStepA h, if_neg (by rw [hm]; exact Bool.false_ne_true), run_commandStep_starts hq hl hc hk, hiq,
    hmove, iq_modIq, if_pos rfl]
  exact ⟨rfl, rfl, rfl⟩

/-! ### Completing steps (R220, R222) -/

/-- What a queue shows of its last step. -/
def State.lastOf (s : State) (q : Nat) : Nat × Nat := ((s.iq q).lastStatus, (s.iq q).lastStep)

theorem lastOf_modIq {k q : Nat} {f : Iq → Iq} (h : ∀ x, (f x).lastStatus = x.lastStatus ∧ (f x).lastStep = x.lastStep)
    (s : State) : (run (modIq k f) s).lastOf q = s.lastOf q := by
  unfold State.lastOf
  rw [iq_modIq]
  split
  · next e => rw [e, (h _).1, (h _).2]
  · rfl

theorem lastOf_keep {p : Foot} {a : Act} (w : a.Within p) (hn : Fld.mov .iq ∉ p.flds) (s : State) (q : Nat) :
    (run a s).lastOf q = s.lastOf q := by
  unfold State.lastOf
  rw [keep_iq w hn]

/-- The end of a tenant's reset turns its queues off, and leaves what they show of their last step. -/
theorem lastOf_endReset (t q : Nat) (s : State) : (run (endReset t) s).lastOf q = s.lastOf q := by
  have wpairs : (each (tenantPairs t) fun p => .seq (.upd (.pair p {})) (setFld rQUE_PAIR_CFG 63 63 0 p)).Within
      { flds := [.que .pair], regs := [rQUE_PAIR_CFG] } :=
    within_each _ fun _ => .seq (within_upd ⟨_, rfl, by decide⟩) (within_setFld _ _ _ _ (by decide) (by decide))
  have wlast : (seqs [modTenant t fun x => { x with st := .off }, setFld rTEN_CTL 63 63 0 t, setFld rTEN_RESET t t 0]).Within
      { flds := [.ten .tenant], regs := [rTEN_CTL, rTEN_RESET] } :=
    .seq (w_modTenant _ _ (by decide)) (.seq (within_setFld _ _ _ _ (by decide) (by decide))
      (within_setFld _ _ _ _ (by decide) (by decide)))
  have hoff : ∀ (k : Nat) (s : State), (run (.seq (modIq k fun x => { x with st := .off, cancelling := false })
      (setFld rDOC_IQ_CTL 63 61 0 k)) s).lastOf q = s.lastOf q := fun k s => by
    have wset : (setFld rDOC_IQ_CTL 63 61 0 k).Within { flds := [], regs := [rDOC_IQ_CTL] } :=
      within_setFld _ _ _ _ (by decide) (by decide)
    rw [run_seq, lastOf_keep wset List.not_mem_nil]
    refine lastOf_modIq (fun x => ?_) s
    exact ⟨rfl, rfl⟩
  rw [endReset, run_dyn, run_seqs_cons, run_seqs_cons, lastOf_keep wlast (by decide),
    run_each_keep (fun s => s.lastOf q) hoff, lastOf_keep wpairs (by decide)]

theorem lastOf_settleTenant (t q : Nat) (s : State) : (run (settleTenant t) s).lastOf q = s.lastOf q := by
  have woff : (Act.seq (modTenant t fun x => { x with st := .off }) (setFld rTEN_CTL 63 63 0 t)).Within
      { flds := [.ten .tenant], regs := [rTEN_CTL] } :=
    .seq (w_modTenant _ _ (by decide)) (within_setFld _ _ _ _ (by decide) (by decide))
  rw [settleTenant, run_dyn]
  split
  · exact lastOf_keep woff (by decide) s q
  · split
    · exact lastOf_endReset t q s
    · rfl

/-- A stopped queue has nothing more to reach. -/
theorem run_settleIq_stopped {q : Nat} {s : State} (h : (s.iq q).st = .stopped) : run (settleIq q) s = s := by
  simp [settleIq, h]

theorem gives_iqStepComplete_idle {m : Nat} {s : State}
    (h : s.move m = none ∨ s.halted = true ∨ ∃ x, s.move m = some x ∧ x.phase ≠ .done) :
    Gives (.iqStepComplete m) s fun t => t = s := by
  refine gives_of_exec (a := whenS (fun s => !s.halted) (stepDone m)) rfl ?_
  rw [run_whenS]
  rcases h with h | h | ⟨x, hx, hp⟩
  · rw [run_stepDone_idle fun x hx => absurd (h.symm.trans hx) (Option.some_ne_none x).symm, ite_self]
  · rw [if_neg (by simp [h])]
  · rw [run_stepDone_idle fun y hy => Option.some.inj (hx.symm.trans hy) ▸ hp, ite_self]

theorem gives_iqStepComplete {m : Nat} {s : State} {q : State → Prop} (hh : s.halted = false) (h : q (run (stepDone m) s)) :
    Gives (.iqStepComplete m) s q := by
  refine gives_of_exec (a := whenS (fun s => !s.halted) (stepDone m)) rfl ?_
  rwa [run_whenS, if_pos (by rw [hh]; rfl)]

/-- The number of a finished move is free. -/
theorem move_stepDone {m : Nat} {x : Move} {s : State} (hx : s.move m = some x) (hp : x.phase = .done) :
    (run (stepDone m) s).move m = none := by
  rw [run_stepDone hx hp, keep_move (w_stepLast x) (by decide),
    keep_move (within_when' (w_stopIq _ _ _)) (by decide), stepNoted, run_seqs_cons, run_seqs_cons, run_seqs_nil,
    keep_move (w_modIq (p := { flds := [.mov .iq], regs := [] }) _ _ (by decide)) (by decide), run_upd, applyUpd_move,
    if_pos rfl]

/-- A step of a RUNNING list that fails stops its queue, which shows its status and its place. -/
theorem readers_stepDone_fails {m : Nat} {x : Move} {s : State} (hx : s.move m = some x) (hp : x.phase = .done)
    (hc : x.cmd = none) (hs : x.snap = none) (hf : s.stepStops x = true) : let t := run (stepDone m) s
    t.lastOf x.iq = (x.status, x.step) ∧ t.flag rDOC_ERR 4 = true := by
  intro t
  set s₁ := run (stopIq x.iq x.step x.status) (run (stepNoted m x (s.iqListMode x.iq)) s) with hs₁
  have hiq := iq_stopIq x.iq x.step x.status (run (stepNoted m x (s.iqListMode x.iq)) s)
  have hlast : run (stepLast x) s₁ = run (settleTenant x.tenant) s₁ := by
    simp only [stepLast, hc, hs, run_seqs_cons, run_seqs_nil, run_withSome_none]
    rw [run_settleIq_stopped (by rw [hiq])]
  have ht : t = run (settleTenant x.tenant) s₁ := by
    rw [← hlast, show t = _ from run_stepDone hx hp, run_when', if_pos hf]
  rw [ht, lastOf_settleTenant, keep_flag (w_settleTenant _) _ _ _ (by decide) (by decide), State.lastOf, hiq]
  exact ⟨rfl, flag_stopIq _ _ _ _⟩

/-! ### IQ_ENABLE (R216, R221, R230) -/

/-- A write with EN = 1 and neither FORCE nor CANCEL takes the settings of a settled queue and enables it. -/
theorem run_writeIqCtl_enable {q v : Nat} (s : State) : run (writeIqCtl q (setBits 63 61 v 4)) s =
    run (enableIq q) (run (whenS (fun s => s.iqSettled q) (takeIqSettings q (setBits 63 61 v 4))) s) := by
  have hbit : ∀ j, 61 ≤ j → j ≤ 63 → (setBits 63 61 v 4).testBit j = (4 : Nat).testBit (j - 61) := fun j h h' => by
    rw [testBit_setBits _ _ _ _ _ (by decide), if_pos ⟨h, h'⟩]
  have h63 : (setBits 63 61 v 4).testBit 63 = true := hbit 63 (by decide) (by decide)
  have h62 : (setBits 63 61 v 4).testBit 62 = false := hbit 62 (by decide) (by decide)
  have h61 : (setBits 63 61 v 4).testBit 61 = false := hbit 61 (by decide) (by decide)
  simp only [writeIqCtl, h61, h62, h63, Bool.or_self, Bool.false_eq_true, if_false, if_true, run_seqs_cons, run_seqs_nil]

theorem gives_iqEnable_refused (iq : Fin 64) (v : Word) (s : State) (ht : s.taken) (hs : s.iqSettled iq.val = false)
    (hn : s.tenantOn (s.iqTenant iq.val) = false) : Gives (.iqEnable iq v) s fun t =>
    t.iq iq.val = s.iq iq.val ∧ t.flag rDOC_ERR 5 = true := by
  refine gives_of_exec (a := regDo (.iqEnable iq v) rDOC_IQ_CTL v.toNat fun w => writeIqCtl iq.val (setBits 63 61 w 4)) rfl ?_
  have wres := w_reservedLogged rDOC_IQ_CTL v.toNat
  rw [run_regDo_taken ht, run_writeIqCtl_enable]
  set s₁ := run (reservedLogged rDOC_IQ_CTL v.toNat) s with hs₁
  have hiq : s₁.iq iq.val = s.iq iq.val := keep_iq wres (by decide) s _
  have hset : s₁.iqSettled iq.val = false := by rw [← hs, State.iqSettled, State.iqSettled, hiq]
  have hten : s₁.iqTenant iq.val = s.iqTenant iq.val := keep_fld wres _ _ _ _ (by decide) (by decide) s
  have hon : s₁.tenantOn (s₁.iqTenant iq.val) = false := by
    rw [← hn, hten, State.tenantOn, State.tenantOn, keep_tenant wres (by decide)]
  rw [run_whenS, hset, if_neg Bool.false_ne_true, enableIq, run_dyn, if_pos (by rw [hon]; rfl),
    keep_iq (w_docIncident rfl) (by decide), hiq]
  exact ⟨rfl, flag_incident_err _ rfl (show (5 : Nat) ≠ 0xFF by decide) (show covers rDOC_ERR 5 5 = true by decide)
    (by decide) (by decide) _⟩

/-- The settings of a queue: MODE, TENANT and LIMIT (R216). -/
def setIqSettings (q v : Nat) : Act :=
  seqs [setFld rDOC_IQ_CTL 60 60 (bits 60 60 v) q, setFld rDOC_IQ_CTL 53 48 (bits 53 48 v) q,
    setFld rDOC_IQ_CTL 46 40 (max 1 (min 64 (bits 46 40 v))) q]

theorem w_setIqSettings (q v : Nat) : (setIqSettings q v).Within { flds := [], regs := [rDOC_IQ_CTL] } :=
  .seq (within_setFld _ _ _ _ (by decide) (by decide)) (.seq (within_setFld _ _ _ _ (by decide) (by decide))
    (within_setFld _ _ _ _ (by decide) (by decide)))

theorem readers_setIqSettings (q v : Nat) (s : State) : let t := run (setIqSettings q v) s
    t.flag rDOC_IQ_CTL 60 q = v.testBit 60 ∧ t.fld rDOC_IQ_CTL 53 48 q = bits 53 48 v ∧
      t.fld rDOC_IQ_CTL 46 40 q = max 1 (min 64 (bits 46 40 v)) := by
  intro t
  simp only [t, setIqSettings, run_seqs_cons, run_seqs_nil]
  refine ⟨?mode, ?tenant, ?limit⟩
  case mode =>
    rw [flag_setFld _ _ _ _ _ _ _ (by decide) (by decide) (by decide), if_neg (by decide),
      flag_setFld _ _ _ _ _ _ _ (by decide) (by decide) (by decide), if_neg (by decide),
      flag_setFld_own (by decide) (by decide), testBit_bits]
    rfl
  case tenant =>
    rw [fld_setFld_other _ _ _ _ _ _ _ _ (by decide) (by decide) (by decide) (by decide),
      fld_setFld _ _ _ _ _ _ (by decide) (by decide)]
    exact Nat.mod_eq_of_lt (Nat.mod_lt _ (by decide))
  case limit =>
    rw [fld_setFld _ _ _ _ _ _ (by decide) (by decide)]
    exact Nat.mod_eq_of_lt (by omega)

/-- MODE, TENANT and LIMIT of a queue after its settings are taken; its state stays. -/
theorem readers_takeIqSettings (q v : Nat) (s : State) : let t := run (takeIqSettings q v) s
    (t.iq q).st = (s.iq q).st ∧ t.flag rDOC_IQ_CTL 60 q = v.testBit 60 ∧ t.fld rDOC_IQ_CTL 53 48 q = bits 53 48 v ∧
      t.fld rDOC_IQ_CTL 46 40 q = max 1 (min 64 (bits 46 40 v)) := by
  intro t
  obtain ⟨c, d, ht⟩ : ∃ c d, t = run (when' d (incA blkDOC 1 rDOC_IQ_CTL))
      (run (setIqSettings q v) (run (when' c (freshList q)) s)) := ⟨_, _, rfl⟩
  have wlog : (when' d (incA blkDOC 1 rDOC_IQ_CTL)).Within ft_docIncident := within_when' (w_docIncident rfl)
  have hfresh : ((run (when' c (freshList q)) s).iq q).st = (s.iq q).st := by
    rw [run_when']
    split
    · rw [freshList, iq_modIq, if_pos rfl]
    · rfl
  rw [ht, keep_iq wlog (by decide), keep_iq (w_setIqSettings q v) List.not_mem_nil, hfresh,
    keep_flag wlog _ _ _ (by decide) (by decide), keep_fld wlog _ _ _ _ (by decide) (by decide),
    keep_fld wlog _ _ _ _ (by decide) (by decide)]
  exact ⟨rfl, readers_setIqSettings q v _⟩

/-- EN = 1 at an OFF command-mode queue of an enabled tenant: it runs, and its settings stay. -/
theorem readers_enableIq_command {q : Nat} {s : State} (ho : (s.iq q).st = .off) (hm : s.flag rDOC_IQ_CTL 60 q = true)
    (hn : s.tenantOn (s.iqTenant q) = true) : let t := run (enableIq q) s
    (t.iq q).st = .running ∧ (t.iq q).cancelling = false ∧ t.flag rDOC_IQ_CTL 63 q = true ∧
      t.fld rDOC_IQ_CTL 53 48 q = s.fld rDOC_IQ_CTL 53 48 q ∧ t.fld rDOC_IQ_CTL 46 40 q = s.fld rDOC_IQ_CTL 46 40 q := by
  intro t
  set s₁ := run (setFld rDOC_IQ_CTL 63 63 1 q) s with hs₁
  set s₂ := run (modIq q fun x => { x with bytes := 0 }) s₁ with hs₂
  set s₃ := run (modIq q fun x => { x with st := .running, cancelling := false }) s₂ with hs₃
  have hmode : s₃.iqListMode q = false := by
    have h₁ : s₁.flag rDOC_IQ_CTL 60 q = true := by
      rw [hs₁, flag_setFld _ _ _ _ _ _ _ (by decide) (by decide) (by decide), if_neg (by decide), hm]
    exact congrArg (fun b => !b) h₁
  have ht : t = s₃ := by
    simp only [t, enableIq, run_dyn, hn, ho, Bool.not_true, Bool.false_eq_true, if_false, run_seq, beginIq, ← hs₁, ← hs₂, ← hs₃,
      hmode, run_nop]
  have hiq : s₃.iq q = { s₂.iq q with st := .running, cancelling := false } := by rw [hs₃, iq_modIq, if_pos rfl]
  have hfld : ∀ hi lo, covers rDOC_IQ_CTL hi lo = true → hi < 63 → s₃.fld rDOC_IQ_CTL hi lo q = s.fld rDOC_IQ_CTL hi lo q :=
    fun hi lo hc h => fld_setFld_other _ _ _ _ _ _ _ s (by decide) (by decide) hc (Or.inr h)
  have hen : s₃.flag rDOC_IQ_CTL 63 q = true :=
    (flag_setFld_own (off := rDOC_IQ_CTL) (j := 63) (i := q) (x := 1) (by decide) (by decide) s).trans (by decide)
  rw [ht, hiq]
  exact ⟨rfl, rfl, hen, hfld 53 48 (by decide) (by decide), hfld 46 40 (by decide) (by decide)⟩

theorem gives_iqEnable_command (iq : Fin 64) (v : Word) (s : State) (ht : s.taken) (ho : (s.iq iq.val).st = .off)
    (hm : v.toNat.testBit 60 = true) (hn : s.tenantOn (bits 53 48 v.toNat) = true) : Gives (.iqEnable iq v) s fun t =>
    (t.iq iq.val).st = .running ∧ (t.iq iq.val).cancelling = false ∧ t.flag rDOC_IQ_CTL 63 iq.val = true ∧
      t.fld rDOC_IQ_CTL 53 48 iq.val = bits 53 48 v.toNat ∧
      t.fld rDOC_IQ_CTL 46 40 iq.val = max 1 (min 64 (bits 46 40 v.toNat)) := by
  refine gives_of_exec (a := regDo (.iqEnable iq v) rDOC_IQ_CTL v.toNat fun w => writeIqCtl iq.val (setBits 63 61 w 4)) rfl ?_
  have wres := w_reservedLogged rDOC_IQ_CTL v.toNat
  rw [run_regDo_taken ht, run_writeIqCtl_enable]
  set u := setBits 63 61 (v.toNat &&& regMask rDOC_IQ_CTL) 4 with hu
  have hmode : u.testBit 60 = true := by
    rw [hu, testBit_setBits _ _ _ _ _ (by decide), if_neg (by decide), testBit_mask (by decide), hm]
  have hfld : ∀ hi lo, covers rDOC_IQ_CTL hi lo = true → hi < 61 → bits hi lo u = bits hi lo v.toNat := fun hi lo hc h => by
    rw [hu, bits_setBits_other _ _ (by decide) (Or.inr h), covers_mask hc]
  set s₁ := run (reservedLogged rDOC_IQ_CTL v.toNat) s with hs₁
  have hst : (s₁.iq iq.val).st = .off := by rw [hs₁, keep_iq wres (by decide), ho]
  have hset : s₁.iqSettled iq.val = true := by simp [State.iqSettled, hst]
  rw [run_whenS, if_pos hset]
  obtain ⟨hst', hmode', hten, hlim⟩ := readers_takeIqSettings iq.val u s₁
  set s₂ := run (takeIqSettings iq.val u) s₁ with hs₂
  have hon : s₂.tenantOn (s₂.iqTenant iq.val) = true := by
    rw [← hn, State.iqTenant, hten, hfld 53 48 (by decide) (by decide), State.tenantOn, State.tenantOn, hs₂,
      keep_tenant (w_takeIqSettings _ _) (by decide), hs₁, keep_tenant wres (by decide)]
  obtain ⟨hrun, hcan, hen, hten', hlim'⟩ := readers_enableIq_command (hst'.trans hst) (hmode'.trans hmode) hon
  exact ⟨hrun, hcan, hen, by rw [hten', hten, hfld 53 48 (by decide) (by decide)],
    by rw [hlim', hlim, hfld 46 40 (by decide) (by decide)]⟩

/-! ### IQ_DISABLE, IQ_CANCEL, IQ_FORCE (R225, R230, R324) -/

theorem gives_iqDisable (iq : Fin 64) (s : State) (ht : s.taken) : Gives (.iqDisable iq) s fun t =>
    t.flag rDOC_IQ_CTL 63 iq.val = false ∧ (t.iq iq.val).st =
      if (s.iq iq.val).st = .running ∧ (s.iq iq.val).fly ≠ [] then .draining
      else if (s.iq iq.val).st = .draining then .draining else .off := by
  refine gives_of_exec (a := bitDo (.iqDisable iq) (disableIq iq.val)) rfl ?_
  set s₁ := run (setFld rDOC_IQ_CTL 63 63 0 iq.val) s with hs₁
  have hflag : s₁.flag rDOC_IQ_CTL 63 iq.val = false :=
    (flag_setFld_own (off := rDOC_IQ_CTL) (j := 63) (x := 0) (by decide) (by decide) s).trans (by decide)
  have hiq : s₁.iq iq.val = s.iq iq.val := rfl
  rw [run_bitDo_taken ht, disableIq, run_seq, run_dyn, ← hs₁]
  simp only [hiq, run_ite, run_nop]
  split
  · exact ⟨hflag, by rw [iq_modIq, if_pos rfl]⟩
  · split
    · next hd => exact ⟨hflag, hd⟩
    · exact ⟨hflag, by rw [iq_modIq, if_pos rfl]⟩

theorem gives_iqCancel {iq : Fin 64} {s : State} {q : State → Prop} (ht : s.taken) (h : q (run (cancelIq iq.val) s)) :
    Gives (.iqCancel iq) s q := by
  refine gives_of_exec (a := bitDo (.iqCancel iq) (cancelIq iq.val)) rfl ?_
  rwa [run_bitDo_taken ht]

theorem w_clearCancel (q : Nat) : (setFld rDOC_IQ_CTL 62 62 0 q).Within { flds := [], regs := [rDOC_IQ_CTL] } :=
  within_setFld _ _ _ _ (by decide) (by decide)

/-- A list that is OFF is DONE at once, with every step passed. -/
theorem readers_cancelIq_off {q : Nat} {s : State} (ho : (s.iq q).st = .off) (hm : s.iqListMode q = true) :
    let t := run (cancelIq q) s
    (t.iq q).st = .done ∧ (t.iq q).next = max (s.iq q).next (s.iqCount q) := by
  intro t
  simp only [t, cancelIq, run_dyn, ho, hm, and_self, if_true, run_seq]
  rw [keep_iq (w_clearCancel q) List.not_mem_nil, iq_modIq, if_pos rfl]
  exact ⟨rfl, rfl⟩

/-- A list that has ended has nothing to cancel. -/
theorem iq_cancelIq_ended {q : Nat} {s : State} (h : (s.iq q).st = .done ∨ (s.iq q).st = .stopped) :
    (run (cancelIq q) s).iq q = s.iq q := by
  have hrun : run (cancelIq q) s = run (setFld rDOC_IQ_CTL 62 62 0 q) s := by
    rcases h with h | h <;> simp [cancelIq, h]
  rw [hrun, keep_iq (w_clearCancel q) List.not_mem_nil]

theorem gives_iqForce_noOp (iq : Fin 64) (s : State) (ht : s.taken) (hd : (s.iq iq.val).st ≠ .draining) :
    Gives (.iqForce iq) s fun t => (∀ j, t.iq j = s.iq j) ∧ s.logged t { cls := .A, blk := blkDOC, off := rDOC_IQ_CTL } := by
  refine gives_of_exec (a := bitDo (.iqForce iq) (forceIq iq.val)) rfl ?_
  rw [run_bitDo_taken ht, forceIq, run_dyn, if_neg hd]
  exact ⟨keep_iq (w_docIncident rfl) (by decide) s, logged_incident _ s⟩

theorem gives_iqForce_draining (iq : Fin 64) (s : State) (ht : s.taken) (hd : (s.iq iq.val).st = .draining) :
    Gives (.iqForce iq) s fun t => t.flag rDOC_ERR 3 = true := by
  refine gives_of_exec (a := bitDo (.iqForce iq) (forceIq iq.val)) rfl ?_
  rw [run_bitDo_taken ht, forceIq, run_dyn, if_pos hd]
  exact flag_forced _ s

/-- Settles O25: the start of a step by the queue's mode and its next record, the end of a step by whether it failed, and
each control by the queue's state. -/
theorem itineraryQueues : Obligations.ItineraryQueues := by
  unfold Obligations.ItineraryQueues
  refine ⟨fun iq s => ⟨fun h => gives_iqStepStart (run_iqStepA_idle h), fun hr hc hs hh => ?start⟩,
    fun m s => ⟨gives_iqStepComplete_idle, fun x hx hh hp => ⟨gives_iqStepComplete hh (move_stepDone hx hp), ?fails⟩⟩,
    fun iq v s ht => ⟨gives_iqEnable_refused iq v s ht, gives_iqEnable_command iq v s ht⟩,
    fun iq s ht => ⟨gives_iqDisable iq s ht, fun ho hm => gives_iqCancel ht (readers_cancelIq_off ho hm),
      fun h => gives_iqCancel ht (iq_cancelIq_ended h), gives_iqForce_noOp iq s ht, gives_iqForce_draining iq s ht⟩⟩
  case start =>
    have h : s.IqStarts iq.val := ⟨hr, hc, hs, hh⟩
    refine ⟨fun hm hn hf => gives_iqStepStart (readers_iqStepA_misfit h hm hn hf),
      fun k hm hn hf ht hl hk => ?_, fun hm hn hf hw => gives_iqStepStart ?_, fun id rest c k hm hq hl hc' hk => ?_⟩
    · obtain ⟨hnext, hfly, hnum, hmove⟩ := readers_iqStepA_starts h hm hn hf ht hl hk
      refine gives_iqStepStart ⟨hnext, hfly, hnum, _, hmove, ?_⟩
      simp only [State.stepMove, and_self]
    · rw [run_iqStepA h, if_pos hm, run_listStep_waits hn hf hw]
    · obtain ⟨hcmds, hfly, hmove⟩ := readers_iqStepA_command h hm hq hl hc' hk
      exact gives_iqStepStart ⟨hcmds, hfly, _, hmove, rfl, rfl, rfl⟩
  case fails =>
    intro hc hs hm hr hok hbusy
    have hf : s.stepStops x = true := by
      rcases hbusy with hb | hb <;> simp [State.stepStops, hm, hr, hok, hb]
    obtain ⟨hlast, herr⟩ := readers_stepDone_fails hx hp hc hs hf
    exact gives_iqStepComplete hh ⟨congrArg Prod.fst hlast, congrArg Prod.snd hlast, herr⟩

end Sys2Proof.Machine
end

section
/-!
SUPPORT. Chapter 07: rules that the serving block's proofs share; SUBMIT; O29.
-/

-- One declaration after another: side by side they take more memory than the check allows the whole text.
set_option Elab.async false

namespace Sys2Proof.Machine

/-! ### Entries after a change, commands that the serving block takes, refusals (R248, R258, R280) -/

theorem req_modReq (i : Nat) (f : Req → Req) (s : State) (j : Nat) :
    (run (modReq i f) s).req j = if j = i then f (s.req i) else s.req j := applyUpd_req s i _ j

theorem w_modReq_only (i : Nat) (f : Req → Req) : (modReq i f).Within ft_enterStep := w_modReq i f (by decide)

theorem cmd_of_takesServe {s : State} {id op : Nat} {c : Cmd} (h : s.takesServe id op = some c) : s.cmd id = some c := by
  obtain ⟨d, hd, hif⟩ := Option.bind_eq_some_iff.mp h
  obtain ⟨-, hdc⟩ := Option.ite_none_right_eq_some.mp hif
  exact cmd_of_takes (hd.trans hdc)

/-- The reason of a refusal stays in SRV_ADMIT_STAT while the refusals are counted. -/
theorem fld_admitReason (reason : Nat) (declined : Bool) (s : State) :
    (run (admitReason reason declined) s).fld rSRV_ADMIT_STAT 63 56 = reason % 256 := by
  have hset : (run (setFld rSRV_ADMIT_STAT 63 56 reason) s).fld rSRV_ADMIT_STAT 63 56 = reason % 256 :=
    fld_setFld _ _ _ _ _ _ (by decide) (by decide)
  rw [admitReason, run_seq, run_when']
  split
  · rw [addFld, run_dyn, fld_setFld_other _ _ _ _ _ _ _ _ (by decide) (by decide) (by decide) (by decide), hset]
  · exact hset

/-- A refusal shows its reason, answers its command with it, and leaves the request table. -/
theorem readers_refuseAdmit (id result reason : Nat) (s : State) : let t := run (refuseAdmit id result reason) s
    t.fld rSRV_ADMIT_STAT 63 56 = reason % 256 ∧ s.answered t id (refusalStatus reason) result reason ∧
      ∀ j, t.req j = s.req j := by
  intro t
  have wr := w_admitReason reason (decide (refusalStatus reason = .declined))
  have wc := w_complete id (refusalStatus reason) result reason
  refine ⟨?_, answered_before wr (answered_complete _ _ _ _ _), fun j => keep_req (w_refuseAdmit ..) (by decide) s j⟩
  exact (keep_fld wc _ _ _ _ (by decide) (by decide) _).trans (fld_admitReason ..)

/-! ### SUBMIT (R258) -/

/-- The PREFIX entry that a SUBMIT names, if it names one, is its tenant's and its service's (check 1 of R258). -/
def State.prefixFits (s : State) (c : Cmd) (v : Nat) : Prop :=
  idxOf (suPREFIX c.desc) = none ∨ ∃ q, (idxOf (suPREFIX c.desc)).bind s.pfxOf = some q ∧ (s.pfx q).tenant = c.tenant ∧
    (s.pfx q).svc = v

/-- The request that a SUBMIT of command `c` describes. -/
def State.submitted (s : State) (c : Cmd) (id v : Nat) : Req :=
  s.submitReq c id v ((idxOf (suPREFIX c.desc)).bind s.pfxOf)

/-- Admission of a submitted request `x` of service `v` (checks 2 to 4 of R258). -/
def State.submitAdmission (s : State) (c : Cmd) (v : Nat) (x : Req) : Except Nat (Nat × Nat) :=
  s.admission x s.freeEntry (s.totalBound v x.pb (s.stepTb v x.draft) (suG c.desc - 1) true)

/-- What a SUBMIT does once check 1 has passed. -/
def State.submitChecked (s : State) (c : Cmd) (id v : Nat) : Act :=
  if (s.submitRanges (s.submitted c id v)).any (fun (p : Nat × Nat) => !s.inWindow c.tenant p.1 p.2) then
    .seq (windowFault c.tenant) (refuseAdmit id noIdx 6)
  else .seq (.upd (.fresh (s.fresh + 4)))
    (match s.submitAdmission c v (s.submitted c id v) with
      | .error e => refuseAdmit id noIdx e
      | .ok (i, r) => admitReq id i r (s.submitted c id v))

theorem run_submitA_none {id : Nat} {s : State} (h : s.takesServe id 1 = none) : run (submitA id) s = s := by
  rw [submitA, run_dyn, h, run_withSome_none]

theorem run_submitA_noService {id : Nat} {c : Cmd} {s : State} (h : s.takesServe id 1 = some c)
    (hv : s.serviceFor c.tenant (suCOLLECTION c.desc) = none) : run (submitA id) s = run (refuseAdmit id noIdx 6) s := by
  simp only [submitA, run_dyn, h, run_withSome_some, hv]

section

variable {id v : Nat} {c : Cmd} {s : State} (hc : s.takesServe id 1 = some c)
  (hv : s.serviceFor c.tenant (suCOLLECTION c.desc) = some v)

include hc hv

/-- A SUBMIT that fails check 1 is refused. -/
theorem run_submitA_unfit (hn : ¬ s.prefixFits c v ∨ s.submitOk (s.submitted c id v) = false) :
    run (submitA id) s = run (refuseAdmit id noIdx 6) s := by
  simp only [submitA, run_dyn, hc, run_withSome_some, hv]
  refine congrArg (fun a => run a s) (if_pos ?_)
  rcases hn with hf | ho
  · rw [State.prefixFits, not_or] at hf
    obtain ⟨hi, hq⟩ := hf
    cases hi' : idxOf (suPREFIX c.desc) with
    | none => exact absurd hi' hi
    | some i =>
      rw [hi'] at hq
      cases hp : s.pfxOf i with
      | none => simp [hp]
      | some q =>
        have hne : ¬ ((s.pfx q).tenant = c.tenant ∧ (s.pfx q).svc = v) := fun h => hq ⟨q, hp, h⟩
        simp [hp, not_and_or.mp hne]
  · rw [State.submitted] at ho
    rw [ho, Bool.not_false, Bool.or_true]

/-- A SUBMIT that passes check 1 goes on to the others. -/
theorem run_submitA_checked (hf : s.prefixFits c v) (ho : s.submitOk (s.submitted c id v) = true) :
    run (submitA id) s = run (s.submitChecked c id v) s := by
  simp only [submitA, run_dyn, hc, run_withSome_some, hv]
  refine congrArg (fun a => run a s) (if_neg ?_)
  rw [State.submitted] at ho
  rw [ho, Bool.not_true, Bool.or_false, Bool.not_eq_true', Bool.not_eq_false]
  rcases hf with hi | ⟨q, hq, ht, hs⟩
  · rw [hi]
  · cases hi : idxOf (suPREFIX c.desc) with
    | none => rfl
    | some i => rw [hi] at hq; simp [hq, ht, hs]

end

/-- Every range of a submitted request lies in its tenant's window (R462). -/
def State.submitInside (s : State) (c : Cmd) (id v : Nat) : Bool :=
  (s.submitRanges (s.submitted c id v)).all (fun (r : Nat × Nat) => s.inWindow c.tenant r.1 r.2)

theorem submitChecked_eq (s : State) (c : Cmd) (id v : Nat) : s.submitChecked c id v =
    if s.submitInside c id v = true then .seq (.upd (.fresh (s.fresh + 4)))
      (match s.submitAdmission c v (s.submitted c id v) with
        | .error e => refuseAdmit id noIdx e
        | .ok (i, r) => admitReq id i r (s.submitted c id v))
    else .seq (windowFault c.tenant) (refuseAdmit id noIdx 6) := by
  have hany : (s.submitRanges (s.submitted c id v)).any (fun (p : Nat × Nat) => !s.inWindow c.tenant p.1 p.2) =
      !s.submitInside c id v := List.not_all_eq_any_not.symm
  cases hi : s.submitInside c id v <;> simp [State.submitChecked, hany, hi]

/-- A range outside the window is reported, and the SUBMIT is refused. -/
theorem readers_submit_outside (id t : Nat) (s : State) :
    let u := run (.seq (windowFault t) (refuseAdmit id noIdx 6)) s
    u.flag rSEC_ERR 3 = true ∧ s.answered u id .shapeInvalid noIdx 6 ∧ ∀ j, u.req j = s.req j := by
  intro u
  obtain ⟨-, hans, hreq⟩ := readers_refuseAdmit id noIdx 6 (run (windowFault t) s)
  have hflag : (run (windowFault t) s).flag rSEC_ERR 3 = true :=
    flag_incident_err _ rfl (show (3 : Nat) ≠ 0xFF by decide) (show covers rSEC_ERR 3 3 = true by decide) (by decide)
      (by decide) s
  have hu : u = run (refuseAdmit id noIdx 6) (run (windowFault t) s) := rfl
  rw [hu]
  refine ⟨?_, answered_before (w_windowFault t) hans, fun j => ?_⟩
  · rw [keep_flag (w_refuseAdmit ..) _ _ _ (by decide) (by decide), hflag]
  · rw [hreq, keep_req (w_windowFault t) (by decide)]

theorem keep_poolObj {p : Foot} {a : Act} (w : a.Within p) (s : State) (v r : Nat) (hm : Fld.mem ∉ p.flds := by decide)
    (hr : ∀ off ∈ [rT2C_CTL, rSRV_SVC_POOLS], off ∉ p.regs := by decide) : (run a s).poolObj v r = s.poolObj v r := by
  simp only [List.forall_mem_cons, List.not_mem_nil, false_implies, implies_true, and_true] at hr
  obtain ⟨hobj, hpool⟩ := hr
  have hcopy : (run a s).poolCopy v r = s.poolCopy v r := by
    simp only [State.poolCopy, State.le, keep_fld w _ _ _ _ (by decide) hpool, keep_bytes w hm]
  unfold State.poolObj
  rw [hcopy]
  exact congrArg _ (funext fun i => keep_obj w s i hm hobj)

theorem keep_poolFrames {p : Foot} {a : Act} (w : a.Within p) (s : State) (v r : Nat) (hm : Fld.mem ∉ p.flds := by decide)
    (hr : ∀ off ∈ [rT2C_CTL, rSRV_SVC_POOLS] , off ∉ p.regs := by decide) (hc : rSRV_SVC_CFG ∉ p.regs := by decide) :
    (run a s).poolFrames v r = s.poolFrames v r := by
  have hpool : rSRV_SVC_POOLS ∉ p.regs := hr _ (by decide)
  have hbytes : (run a s).frameBytes v = s.frameBytes v := by
    simp only [State.frameBytes, State.svcPage, keep_fld w _ _ _ _ (by decide) hpool, keep_flag w _ _ _ (by decide) hc]
  simp only [State.poolFrames, keep_poolObj w s v r hm hr, hbytes]

/-- The record of an admitted request in entry `i` with pool `r`: the lowest free slot and frames. -/
def State.placed (s : State) (x : Req) (r : Nat) : Req :=
  { x with pool := r, slot := s.freeSlot x.svc r, frames :=
      (freeFrames (s.usedFrames x.svc r) 0 (s.poolFrames x.svc r) (s.reqPages x - s.pfxPages x)).getD [] }

/-- The output header of an admitted request: entry, first position, time (R264). -/
def outHeader (i promptEnd now : Nat) : List Byte := leBytes 4 i ++ leBytes 4 promptEnd ++ leBytes 8 now

theorem length_outHeader (i promptEnd now : Nat) : (outHeader i promptEnd now).length = 16 := by
  simp only [outHeader, List.length_append, length_leBytes]

/-- An admitted request stands in its entry, its command is decided, its header is written. -/
theorem readers_admitReq {id i r : Nat} {x : Req} {c : Cmd} {s : State} (hc : s.cmd id = some c) :
    let t := run (admitReq id i r x) s
    t.req i = s.placed x r ∧ (∀ j, j ≠ i → t.req j = s.req j) ∧ t.reqStamp = s.reqStamp + 1 ∧
      t.cmd id = some { c with taken := true, decided := true } ∧
      t.bytes x.out 16 = outHeader i x.promptEnd s.now := by
  intro t
  set f : Option Cmd → Option Cmd := fun c => c.map fun c => { c with taken := true, decided := true } with hf
  set s₁ := run (.upd (.reqStamp (s.reqStamp + 1))) (run (.upd (.req i (s.placed x r))) s) with hs₁
  set s₂ := run (withSome x.pfx fun p => modPfx p fun y => { y with refs := y.refs + 1 }) s₁ with hs₂
  set s₃ := run (writeBytes x.out (outHeader i x.promptEnd s.now)) s₂ with hs₃
  have ht : t = run (startStaging x.svc) (run (modCmd id f) s₃) := by
    simp only [t, admitReq, run_dyn, run_seqs_cons, run_seqs_nil]; rfl
  have wst := w_startStaging x.svc
  have wcmd : (modCmd id f).Within { flds := [.que .cmd], regs := [] } := w_modCmd id f (by decide)
  have wout := w_writeBytes x.out (outHeader i x.promptEnd s.now)
  have wpfx : (withSome x.pfx fun p => modPfx p fun y => { y with refs := y.refs + 1 }).Within ft_leavePfx :=
    within_withSome fun p _ => w_modPfx p _ (by decide)
  have hreq : ∀ j, t.req j = s₁.req j := fun j => by
    rw [ht, keep_req wst (by decide), keep_req wcmd (by decide), keep_req wout (by decide), keep_req wpfx (by decide)]
  have hcmd : s₃.cmd id = some c := by
    rw [hs₃, keep_cmd wout (by decide), hs₂, keep_cmd wpfx (by decide)]; exact hc
  refine ⟨?entry, fun j hj => ?others, ?stamp, ?command, ?header⟩
  case entry => rw [hreq]; exact (applyUpd_req ..).trans (if_pos rfl)
  case others => rw [hreq]; exact (applyUpd_req ..).trans (if_neg hj)
  case stamp =>
    rw [ht, keep_reqStamp wst (by decide), keep_reqStamp wcmd (by decide), keep_reqStamp wout (by decide),
      keep_reqStamp wpfx (by decide)]
    rfl
  case command =>
    rw [ht, keep_cmd wst (by decide), modCmd, run_dyn, run_upd, applyUpd_cmd, if_pos rfl, hcmd]
    rfl
  case header =>
    have hout := bytes_writeBytes x.out (outHeader i x.promptEnd s.now) s₂
    rw [length_outHeader] at hout
    rw [ht, keep_bytes wst (by decide), keep_bytes wcmd (by decide)]
    exact hout

theorem cmd_fresh {id k n : Nat} {c : Cmd} {s : State} (hc : s.takesServe id k = some c) :
    (applyUpd (.fresh n) s).cmd id = some c := cmd_of_takesServe hc

/-- The random values that a SUBMIT takes do not choose its place. -/
theorem placed_fresh (n : Nat) (s : State) (x : Req) (r : Nat) : (applyUpd (.fresh n) s).placed x r = s.placed x r := by
  have hslot : (applyUpd (.fresh n) s).freeSlot x.svc r = s.freeSlot x.svc r := rfl
  have hused : (applyUpd (.fresh n) s).usedFrames x.svc r = s.usedFrames x.svc r := rfl
  have htotal : (applyUpd (.fresh n) s).poolFrames x.svc r = s.poolFrames x.svc r :=
    keep_poolFrames (a := .upd (.fresh n)) (p := { flds := [.fresh], regs := [] }) (within_upd ⟨_, rfl, by decide⟩) s _ _
  have hpages : (applyUpd (.fresh n) s).reqPages x = s.reqPages x := rfl
  have hpfx : (applyUpd (.fresh n) s).pfxPages x = s.pfxPages x := rfl
  rw [State.placed, hslot, hused, htotal, hpages, hpfx, State.placed]

/-- Settles O29: by the checks of a SUBMIT in their order. -/
theorem submitting : Obligations.Submitting := by
  unfold Obligations.Submitting
  intro cmd s
  refine ⟨fun h => gives_of_exec (a := submitA cmd) rfl (run_submitA_none h),
    fun c hc => ⟨fun hv => ?noService, fun v hv => ⟨fun hn => ?unfit, fun hf ho => ⟨fun hi => ?outside,
      fun e hi ha => ?refused, fun i r hi ha => ?admitted⟩⟩⟩⟩
  case noService =>
    refine gives_of_exec (a := submitA cmd) rfl ?_
    obtain ⟨hreason, hans, -⟩ := readers_refuseAdmit cmd noIdx 6 s
    rw [run_submitA_noService hc hv]
    exact ⟨hreason, hans⟩
  case unfit =>
    refine gives_of_exec (a := submitA cmd) rfl ?_
    rw [run_submitA_unfit hc hv hn]
    exact readers_refuseAdmit cmd noIdx 6 s
  case outside =>
    refine gives_of_exec (a := submitA cmd) rfl ?_
    have hi' : s.submitInside c cmd v = false := hi
    rw [run_submitA_checked hc hv hf ho, submitChecked_eq, hi', if_neg Bool.false_ne_true]
    exact readers_submit_outside cmd c.tenant s
  case refused =>
    refine gives_of_exec (a := submitA cmd) rfl ?_
    have hi' : s.submitInside c cmd v = true := hi
    have ha' : s.submitAdmission c v (s.submitted c cmd v) = .error e := ha
    have wf : (Act.upd (.fresh (s.fresh + 4))).Within { flds := [.fresh], regs := [] } := within_upd ⟨_, rfl, by decide⟩
    obtain ⟨hreason, hans, hreq⟩ := readers_refuseAdmit cmd noIdx e (run (.upd (.fresh (s.fresh + 4))) s)
    rw [run_submitA_checked hc hv hf ho, submitChecked_eq, if_pos hi', ha']
    exact ⟨hreason, answered_before wf hans, hreq⟩
  case admitted =>
    refine gives_of_exec (a := submitA cmd) rfl ?_
    have hi' : s.submitInside c cmd v = true := hi
    have ha' : s.submitAdmission c v (s.submitted c cmd v) = .ok (i, r) := ha
    rw [run_submitA_checked hc hv hf ho, submitChecked_eq, if_pos hi', ha', run_seq, run_upd]
    have hadm := readers_admitReq (i := i) (r := r) (x := s.submitted c cmd v)
      (cmd_fresh (n := s.fresh + 4) hc)
    rw [placed_fresh] at hadm
    exact hadm

end Sys2Proof.Machine
end

section
/-!
SUPPORT. Chapter 07: the end of a request and its parking; CANCEL, PARK, RESUME, RELEASE; O30.
-/

-- One declaration after another: side by side they take more memory than the check allows the whole text.
set_option Elab.async false

namespace Sys2Proof.Machine

/-! ### The end of a request (R248, R277) -/

/-- A request whose end is decided. -/
def Req.drained (x : Req) (es : ReqState) (status : Nat) : Req :=
  { x with
    st := .draining, endSt := es, endStatus := status, ph := .none, cancel := false, cancels := [], parkCmd := none,
    prov := 0, drafts := [], due := [], drawn := [], wide := false }

theorem run_drainReq_ended {i : Nat} {es : ReqState} {status : Nat} {s : State} (h : (s.req i).live = false) :
    run (drainReq i es status) s = s := by
  rw [drainReq, run_dyn, if_neg (by rw [h]; exact Bool.false_ne_true), run_nop]

/-- The status with which the CANCELs of a request complete. -/
def cancelStatus (status : Nat) : Status := if decide (status = Status.okCancelLate.code) then .okCancelLate else .ok

/-- A live request is drained, then its CANCELs and a PARK that waits complete. -/
theorem run_drainReq {i : Nat} {es : ReqState} {status : Nat} {s : State} (h : (s.req i).live = true) :
    run (drainReq i es status) s =
      run (withSome (s.req i).parkCmd fun id => complete id .busy i)
        (run (each (s.req i).cancels fun id => complete id (cancelStatus status) i)
          (run (modReq i fun x => x.drained es status) s)) := by
  simp only [drainReq, run_dyn, if_pos h, run_seqs_cons, run_seqs_nil]
  rfl

theorem req_drainReq {i : Nat} {es : ReqState} {status : Nat} {s : State} (h : (s.req i).live = true) (j : Nat) :
    (run (drainReq i es status) s).req j = if j = i then (s.req i).drained es status else s.req j := by
  have wpark : (withSome (s.req i).parkCmd fun id => complete id .busy i).Within ft_completeCode :=
    within_withSome fun id _ => w_complete id .busy i 0
  have wcancel : (each (s.req i).cancels fun id => complete id (cancelStatus status) i).Within ft_completeCode :=
    within_each _ fun id => w_complete id (cancelStatus status) i 0
  rw [run_drainReq h, keep_req wpark (by decide), keep_req wcancel (by decide), req_modReq]

/-- No other request changes when one is drained. -/
theorem req_drainReq_other {i j : Nat} {es : ReqState} {status : Nat} (h : j ≠ i) (s : State) :
    (run (drainReq i es status) s).req j = s.req j := by
  cases hl : (s.req i).live with
  | false => rw [run_drainReq_ended hl]
  | true => rw [req_drainReq hl, if_neg h]

/-! ### Frames of the park copy (R250, R254) -/

theorem mem_reqIds {s : State} {i : Nat} : i ∈ s.reqIds ↔ (s.req i).st ≠ .free := by
  rw [State.reqIds, List.mem_filter, decide_eq_true_eq, and_iff_right_iff_imp]
  intro h
  by_contra hk
  exact h (congrArg Req.st (tget_of_notMem (fun _ => ({} : Req)) hk))

/-- The choice of frames depends on which frames are used, not on how they are listed. -/
theorem freeFrames_congr {l₁ l₂ : List Nat} (h : ∀ f, f ∈ l₁ ↔ f ∈ l₂) (lo total n : Nat) :
    freeFrames l₁ lo total n = freeFrames l₂ lo total n := by
  simp only [freeFrames, List.contains_eq_mem, h]

theorem mem_usedPark {s : State} {v f : Nat} : f ∈ s.usedPark v ↔
    (∃ i, (s.req i).st ≠ .free ∧ (s.req i).svc = v ∧ f ∈ (s.req i).parkFrames) ∨
      f ∈ (s.pfxIds.filter (fun p => decide ((s.pfx p).svc = v))).flatMap (fun p => (s.pfx p).frames) := by
  simp only [State.usedPark, List.mem_append, List.mem_flatMap, List.mem_filter, mem_reqIds, decide_eq_true_eq, and_assoc]

/-- A request that notes a PARK uses the same park frames as before. -/
theorem mem_usedPark_modReq {i v : Nat} {f : Req → Req} {s : State}
    (hf : ∀ x, (f x).st = x.st ∧ (f x).svc = x.svc ∧ (f x).parkFrames = x.parkFrames) (k : Nat) :
    k ∈ (run (modReq i f) s).usedPark v ↔ k ∈ s.usedPark v := by
  have hreq : ∀ j, ((run (modReq i f) s).req j).st = (s.req j).st ∧ ((run (modReq i f) s).req j).svc = (s.req j).svc ∧
      ((run (modReq i f) s).req j).parkFrames = (s.req j).parkFrames := fun j => by
    rw [req_modReq]
    split
    · next h => subst h; exact hf _
    · exact ⟨rfl, rfl, rfl⟩
  have hpfx : ∀ p, (run (modReq i f) s).pfx p = s.pfx p := keep_pfx (w_modReq_only i f) (by decide) s
  have hids : (run (modReq i f) s).pfxIds = s.pfxIds := rfl
  simp only [mem_usedPark, hreq, hpfx, hids]

/-! ### CANCEL (R277, R278) -/

theorem answered_takeCmd {s t : State} {id k result detail : Nat} {st : Status}
    (h : (run (takeCmd id) s).answered t k st result detail) : s.answered t k st result detail := by
  intro c p hc hp hr hh
  by_cases hk : k = id
  · have hc' : (run (takeCmd id) s).cmd k = some { c with taken := true } := by
      subst hk; rw [cmd_takeCmd, if_pos rfl, hc, Option.map_some]
    exact h { c with taken := true } p hc' hp hr hh
  · exact h c p ((cmd_takeCmd ..).trans ((if_neg hk).trans hc)) hp hr hh

/-- A request with a CANCEL that waits. -/
def Req.cancelling (x : Req) (id : Nat) : Req := { x with cancel := true, cancels := x.cancels ++ [id] }

theorem run_cancelA_none {id : Nat} {s : State} (h : s.takesServe id 2 = none) : run (cancelA id) s = s := by
  rw [cancelA, run_dyn, h, run_withSome_none]

section

variable {id i : Nat} {c : Cmd} {s : State} (hc : s.takesServe id 2 = some c)

include hc

theorem run_cancelA_noEntry (ho : s.ownEntry c = none) :
    run (cancelA id) s = run (complete id .shapeInvalid (suENTRY c.desc)) s := by
  simp only [cancelA, run_dyn, hc, run_withSome_some, ho]

theorem run_cancelA_late (ho : s.ownEntry c = some i) (hl : (s.req i).live = false) :
    run (cancelA id) s = run (complete id .okCancelLate i) s := by
  simp only [cancelA, run_dyn, hc, run_withSome_some, ho, hl, Bool.not_false, if_true]

theorem run_cancelA (ho : s.ownEntry c = some i) (hl : (s.req i).live = true) : run (cancelA id) s =
    run (when' (!(s.req i).inProgress) (drainReq i .cancelled Status.cancelled.code))
      (run (modReq i fun x => x.cancelling id) (run (takeCmd id) s)) := by
  simp only [cancelA, run_dyn, hc, run_withSome_some, ho, hl, Bool.not_true, Bool.false_eq_true, if_false, run_seqs_cons,
    run_seqs_nil]
  rfl

/-- A CANCEL of a request with a command in progress waits for it. -/
theorem readers_cancelA_waits (ho : s.ownEntry c = some i) (hl : (s.req i).live = true)
    (hp : (s.req i).inProgress = true) : let t := run (cancelA id) s
    t.took id c ∧ t.req i = (s.req i).cancelling id := by
  intro t
  have ht : t = run (modReq i fun x => x.cancelling id) (run (takeCmd id) s) := by
    rw [show t = _ from run_cancelA hc ho hl, hp]; rfl
  rw [ht, req_modReq, if_pos rfl, keep_req (w_takeCmd id) (by decide)]
  exact ⟨took_after (w_modReq_only i _) (took_takeCmd (cmd_of_takesServe hc)), rfl⟩

/-- A CANCEL of a request with nothing in progress ends it at once, and is answered. -/
theorem readers_cancelA_ends (ho : s.ownEntry c = some i) (hl : (s.req i).live = true)
    (hp : (s.req i).inProgress = false) : let t := run (cancelA id) s
    (t.req i).st = .draining ∧ (t.req i).endSt = .cancelled ∧ (t.req i).endStatus = Status.cancelled.code ∧
      ((s.req i).cancels = [] → (s.req i).parkCmd = none → s.answered t id .ok i 0) := by
  intro t
  set s₁ := run (modReq i fun x => x.cancelling id) (run (takeCmd id) s) with hs₁
  have ht : t = run (drainReq i .cancelled Status.cancelled.code) s₁ := by
    rw [show t = _ from run_cancelA hc ho hl, hp]; rfl
  have hreq : s₁.req i = (s.req i).cancelling id := by
    rw [hs₁, req_modReq, if_pos rfl, keep_req (w_takeCmd id) (by decide)]
  have hlive : (s₁.req i).live = true := hreq ▸ hl
  have hend : t.req i = (s₁.req i).drained .cancelled Status.cancelled.code := by rw [ht, req_drainReq hlive, if_pos rfl]
  rw [hend]
  refine ⟨rfl, rfl, rfl, fun hcs hpk =>
    answered_takeCmd (s := s) (id := id) (answered_before (w_modReq_only i fun x => x.cancelling id) ?_)⟩
  have hcancels : (s₁.req i).cancels = [id] := by rw [hreq, Req.cancelling, hcs]; rfl
  have hpark : (s₁.req i).parkCmd = none := hreq ▸ hpk
  rw [ht, run_drainReq hlive, hcancels, hpark, run_withSome_none, run_each_cons, run_each_nil]
  exact answered_before (w_modReq_only i _) (answered_complete _ _ _ _ _)

end

/-! ### PARK (R254) -/

/-- A request begins to park where its service has park frames enough. -/
theorem run_beginPark_some {i id : Nat} {s : State} {fs : List Nat}
    (h : freeFrames (s.usedPark (s.req i).svc) 64 (s.poolFrames (s.req i).svc parkEntry) (s.req i).frames.length = some fs) :
    run (beginPark i id) s = run (modReq i fun x => { x with ph := .parking, parkFrames := fs }) s := by
  simp only [beginPark, run_dyn, h]

theorem run_beginPark_none {i id : Nat} {s : State}
    (h : freeFrames (s.usedPark (s.req i).svc) 64 (s.poolFrames (s.req i).svc parkEntry) (s.req i).frames.length = none) :
    run (beginPark i id) s = run (complete id .busy i) (run (modReq i fun x => { x with parkCmd := none }) s) := by
  simp only [beginPark, run_dyn, h, run_seq]

theorem run_parkA_none {id : Nat} {s : State} (h : s.takesServe id 3 = none) : run (parkA id) s = s := by
  rw [parkA, run_dyn, h, run_withSome_none]

section

variable {id i : Nat} {c : Cmd} {s : State} (hc : s.takesServe id 3 = some c)

include hc

theorem run_parkA_noEntry (ho : s.ownEntry c = none) :
    run (parkA id) s = run (complete id .shapeInvalid (suENTRY c.desc)) s := by
  simp only [parkA, run_dyn, hc, run_withSome_some, ho]

variable (ho : s.ownEntry c = some i)

include ho

theorem run_parkA_unfit (h : (s.req i).live = false ∨ (s.req i).st = .parked) :
    run (parkA id) s = run (complete id .shapeInvalid i) s := by
  simp only [parkA, run_dyn, hc, run_withSome_some, ho]
  refine congrArg (fun a => run a s) (if_pos ?_)
  rcases h with h | h <;> simp [h]

variable (hl : (s.req i).live = true) (hn : (s.req i).st ≠ .parked)

include hl hn

theorem run_parkA_busy (hp : (s.req i).parkCmd.isSome = true) : run (parkA id) s = run (complete id .busy i) s := by
  simp only [parkA, run_dyn, hc, run_withSome_some, ho, hl, hn, hp, Bool.not_true, Bool.false_or, decide_false,
    Bool.false_eq_true, if_false, if_true]

variable (hp : (s.req i).parkCmd = none)

include hp

theorem run_parkA : run (parkA id) s = run (when' (decide ((s.req i).ph = .idle)) (beginPark i id))
    (run (modReq i fun x => { x with parkCmd := some id }) (run (takeCmd id) s)) := by
  simp only [parkA, run_dyn, hc, run_withSome_some, ho, hl, hn, hp, Option.isSome_none, Bool.not_true, Bool.false_or,
    decide_false, Bool.false_eq_true, if_false, run_seqs_cons, run_seqs_nil]

/-- A PARK of a request that is not at a boundary waits. -/
theorem readers_parkA_waits (hi : (s.req i).ph ≠ .idle) : let t := run (parkA id) s
    t.took id c ∧ t.req i = { s.req i with parkCmd := some id } := by
  intro t
  have ht : t = run (modReq i fun x => { x with parkCmd := some id }) (run (takeCmd id) s) := by
    rw [show t = _ from run_parkA hc ho hl hn hp, decide_eq_false hi]; rfl
  rw [ht, req_modReq, if_pos rfl, keep_req (w_takeCmd id) (by decide)]
  exact ⟨took_after (w_modReq_only i _) (took_takeCmd (cmd_of_takesServe hc)), rfl⟩

/-- At a boundary a PARK begins at once, with the park frames that were free. -/
theorem run_parkA_boundary (hi : (s.req i).ph = .idle) : run (parkA id) s =
    run (beginPark i id) (run (modReq i fun x => { x with parkCmd := some id }) (run (takeCmd id) s)) := by
  rw [run_parkA hc ho hl hn hp, decide_eq_true hi]
  rfl

omit hc ho hl hn hp in
theorem freeFrames_parkCmd (v n : Nat) {s₁ : State}
    (h : s₁ = run (modReq i fun x => { x with parkCmd := some id }) (run (takeCmd id) s)) :
    freeFrames (s₁.usedPark v) 64 (s₁.poolFrames v parkEntry) n =
      freeFrames (s.usedPark v) 64 (s.poolFrames v parkEntry) n := by
  have hused : ∀ k, k ∈ s₁.usedPark v ↔ k ∈ s.usedPark v := fun k => by
    rw [h, mem_usedPark_modReq (f := fun x => { x with parkCmd := some id }) fun _ => ⟨rfl, rfl, rfl⟩]
    rfl
  have htotal : s₁.poolFrames v parkEntry = s.poolFrames v parkEntry := by
    rw [h, keep_poolFrames (w_modReq_only i fun x => { x with parkCmd := some id }), keep_poolFrames (w_takeCmd id)]
  rw [htotal]
  exact freeFrames_congr hused _ _ _

omit hc ho hl hn hp in
theorem req_parkCmd : (run (modReq i fun x => { x with parkCmd := some id }) (run (takeCmd id) s)).req i =
    { s.req i with parkCmd := some id } := by
  rw [req_modReq, if_pos rfl, keep_req (w_takeCmd id) (by decide)]

theorem readers_parkA_frames {fs : List Nat} (hi : (s.req i).ph = .idle)
    (hf : freeFrames (s.usedPark (s.req i).svc) 64 (s.poolFrames (s.req i).svc parkEntry) (s.req i).frames.length = some fs) :
    (run (parkA id) s).req i = { s.req i with parkCmd := some id, ph := .parking, parkFrames := fs } := by
  rw [run_parkA_boundary hc ho hl hn hp hi, run_beginPark_some (by rw [req_parkCmd, freeFrames_parkCmd _ _ rfl]; exact hf),
    req_modReq, if_pos rfl, req_parkCmd]

theorem readers_parkA_noFrames (hi : (s.req i).ph = .idle)
    (hf : freeFrames (s.usedPark (s.req i).svc) 64 (s.poolFrames (s.req i).svc parkEntry) (s.req i).frames.length = none) :
    let t := run (parkA id) s
    t.req i = s.req i ∧ s.answered t id .busy i 0 := by
  intro t
  have ht : t = _ := (run_parkA_boundary hc ho hl hn hp hi).trans
    (run_beginPark_none (by rw [req_parkCmd, freeFrames_parkCmd _ _ rfl]; exact hf))
  rw [ht]
  refine ⟨?entry, answered_takeCmd (s := s) (id := id) (answered_before (w_modReq_only i _)
    (answered_before (w_modReq_only i _) (answered_complete _ _ _ _ _)))⟩
  rw [keep_req (w_complete ..) (by decide), req_modReq, if_pos rfl, req_parkCmd]
  exact congrArg (fun k => { s.req i with parkCmd := k }) hp.symm

end

/-! ### RESUME (R254, R258 to R260) -/

theorem run_resumeA_none {id : Nat} {s : State} (h : s.takesServe id 4 = none) : run (resumeA id) s = s := by
  rw [resumeA, run_dyn, h, run_withSome_none]

/-- Request `i` as a RESUME of command `c` presents it to admission. -/
def State.resumed (s : State) (c : Cmd) (i : Nat) : Req := { s.req i with deadline := suDEADLINE c.desc }

/-- The answer of admission to a RESUME of request `x` in entry `i` (R259). -/
def State.resumeAdmission (s : State) (i : Nat) (x : Req) : Except Nat (Nat × Nat) :=
  s.admission x (some i) (s.totalBound x.svc (s.resumePb x.svc x.committed) (s.stepTb x.svc x.draft)
    (x.limit - x.committed - 1) false)

/-- A resumed request in pool `r`, its pages to be fetched. -/
def State.fetching (s : State) (x : Req) (r : Nat) : Req :=
  { x with
    st := .admitted, ph := .fetching, pool := r, slot := s.freeSlot x.svc r,
    frames := (freeFrames (s.usedFrames x.svc r) 0 (s.poolFrames x.svc r) x.parkFrames.length).getD []
    pb := s.resumePb x.svc x.committed }

section

variable {id i : Nat} {c : Cmd} {s : State} (hc : s.takesServe id 4 = some c)

include hc

theorem run_resumeA_noEntry (ho : s.ownEntry c = none) :
    run (resumeA id) s = run (refuseAdmit id (suENTRY c.desc) 6) s := by
  simp only [resumeA, run_dyn, hc, run_withSome_some, ho]

variable (ho : s.ownEntry c = some i)

include ho

theorem run_resumeA_unfit (h : (s.req i).st ≠ .parked ∨ s.svcOn (s.req i).svc = false ∨
    s.svcTenant (s.req i).svc ≠ c.tenant) : run (resumeA id) s = run (refuseAdmit id i 6) s := by
  simp only [resumeA, run_dyn, hc, run_withSome_some, ho]
  exact congrArg (fun a => run a s) (if_pos (by simpa using h))

variable (hs : (s.req i).st = .parked) (hv : s.svcOn (s.req i).svc = true) (ht : s.svcTenant (s.req i).svc = c.tenant)

include hs hv ht

theorem run_resumeA : run (resumeA id) s = run (match s.resumeAdmission i (s.resumed c i) with
      | .error e => refuseAdmit id i e
      | .ok (_, r) => seqs [.upd (.req i (s.fetching (s.resumed c i) r)), startStaging (s.req i).svc, complete id .ok i])
    (applyUpd (.fresh (s.fresh + 4)) s) := by
  simp only [resumeA, run_dyn, hc, run_withSome_some, ho]
  exact congrArg (fun a => run a s) (if_neg (by simp [hs, hv, ht]))

theorem readers_resumeA_refused {e : Nat} (ha : s.resumeAdmission i (s.resumed c i) = .error e) :
    let t := run (resumeA id) s
    s.answered t id (refusalStatus e) i e ∧ ∀ j, t.req j = s.req j := by
  intro t
  have wf : (Act.upd (.fresh (s.fresh + 4))).Within { flds := [.fresh], regs := [] } := within_upd ⟨_, rfl, by decide⟩
  obtain ⟨-, hans, hreq⟩ := readers_refuseAdmit id i e (applyUpd (.fresh (s.fresh + 4)) s)
  rw [show t = _ from run_resumeA hc ho hs hv ht, ha]
  exact ⟨answered_before wf hans, hreq⟩

theorem readers_resumeA_admitted {k r : Nat} (ha : s.resumeAdmission i (s.resumed c i) = .ok (k, r)) :
    let t := run (resumeA id) s
    s.answered t id .ok i 0 ∧ t.req i = s.fetching (s.resumed c i) r := by
  intro t
  have wf : (Act.upd (.fresh (s.fresh + 4))).Within { flds := [.fresh], regs := [] } := within_upd ⟨_, rfl, by decide⟩
  have wr : (Act.upd (.req i (s.fetching (s.resumed c i) r))).Within ft_enterStep := within_upd ⟨_, rfl, by decide⟩
  have wst := w_startStaging (s.req i).svc
  rw [show t = _ from run_resumeA hc ho hs hv ht, ha]
  simp only [run_seqs_cons, run_seqs_nil]
  refine ⟨answered_before wf (answered_before wr (answered_before wst (answered_complete _ _ _ _ _))), ?_⟩
  rw [keep_req (w_complete ..) (by decide), keep_req wst (by decide)]
  exact (applyUpd_req ..).trans (if_pos rfl)

end

/-! ### RELEASE (R257) -/

theorem pfx_modPfx (p : Nat) (f : Pfx → Pfx) (s : State) (j : Nat) :
    (run (modPfx p f) s).pfx j = if j = p then f (s.pfx p) else s.pfx j := applyUpd_pfx s p _ j

/-- A RELEASING PREFIX entry is FREE, its generation one higher, once it has no user. -/
theorem pfx_settlePfx {p : Nat} {s : State} (h : (s.pfx p).st = .releasing) : (run (settlePfx p) s).pfx p =
    if (s.pfx p).refs = 0 then { gen := ((s.pfx p).gen + 1) % 2 ^ 18 } else s.pfx p := by
  rw [settlePfx, run_dyn]
  by_cases hz : (s.pfx p).refs = 0
  · rw [if_pos ⟨h, hz⟩, if_pos hz, run_upd, applyUpd_pfx, if_pos rfl]
  · rw [if_neg fun hr => hz hr.2, if_neg hz, run_nop]

theorem run_releaseA_none {id : Nat} {s : State} (h : s.takesServe id 5 = none) : run (releaseA id) s = s := by
  rw [releaseA, run_dyn, h, run_withSome_none]

theorem run_releaseA_unfit {id : Nat} {c : Cmd} {s : State} (hc : s.takesServe id 5 = some c)
    (h : s.pfxOf (suPREFIX c.desc) = none ∨
      ∃ p, s.pfxOf (suPREFIX c.desc) = some p ∧ (s.pfx p).tenant ≠ c.tenant) :
    run (releaseA id) s = run (complete id .shapeInvalid (suPREFIX c.desc)) s := by
  rcases h with h | ⟨p, hp, ht⟩
  · simp only [releaseA, run_dyn, hc, run_withSome_some, h]
  · simp only [releaseA, run_dyn, hc, run_withSome_some, hp, if_neg ht]

/-- A PREFIX entry that its tenant releases is RELEASING while it is used. -/
theorem readers_releaseA {id p : Nat} {c : Cmd} {s : State} (hc : s.takesServe id 5 = some c)
    (hp : s.pfxOf (suPREFIX c.desc) = some p) (ht : (s.pfx p).tenant = c.tenant) : let t := run (releaseA id) s
    s.answered t id .ok (suPREFIX c.desc) 0 ∧ t.pfx p =
      if (s.pfx p).refs = 0 then { gen := ((s.pfx p).gen + 1) % 2 ^ 18 } else { s.pfx p with st := .releasing } := by
  intro t
  have wm : (modPfx p fun y => { y with st := .releasing }).Within ft_leavePfx := w_modPfx _ _ (by decide)
  set s₁ := run (modPfx p fun y => { y with st := .releasing }) s with hs₁
  have hpfx : s₁.pfx p = { s.pfx p with st := .releasing } := (pfx_modPfx ..).trans (if_pos rfl)
  have ht : t = run (complete id .ok (suPREFIX c.desc)) (run (settlePfx p) s₁) := by
    simp only [t, releaseA, run_dyn, hc, run_withSome_some, hp, if_pos ht, run_seqs_cons, run_seqs_nil, ← hs₁]
  rw [ht, keep_pfx (w_complete ..) (by decide), pfx_settlePfx (by rw [hpfx]), hpfx]
  exact ⟨answered_before wm (answered_before (w_settlePfx p) (answered_complete _ _ _ _ _)), rfl⟩

/-- Settles O30: each control by what it finds of its request or PREFIX entry. -/
theorem requestControl : Obligations.RequestControl := by
  unfold Obligations.RequestControl
  intro cmd s
  refine ⟨fun h => gives_of_exec (a := cancelA cmd) rfl (run_cancelA_none h),
    fun h => gives_of_exec (a := parkA cmd) rfl (run_parkA_none h),
    fun h => gives_of_exec (a := resumeA cmd) rfl (run_resumeA_none h),
    fun h => gives_of_exec (a := releaseA cmd) rfl (run_releaseA_none h), fun c hc => ?cancel, fun c hc => ?park,
    fun c hc => ?resume, fun c hc => ?release⟩
  case cancel =>
    refine ⟨fun ho => gives_of_exec (a := cancelA cmd) rfl ?_, fun i ho =>
      ⟨fun hl => gives_of_exec (a := cancelA cmd) rfl ?_,
        fun hl hp => gives_of_exec (a := cancelA cmd) rfl (readers_cancelA_waits hc ho hl hp),
        fun hl hp => gives_of_exec (a := cancelA cmd) rfl (readers_cancelA_ends hc ho hl hp)⟩⟩
    · rw [run_cancelA_noEntry hc ho]
      exact answered_complete _ _ _ _ _
    · rw [run_cancelA_late hc ho hl]
      exact ⟨answered_complete _ _ _ _ _, keep_req (w_complete ..) (by decide) s⟩
  case park =>
    refine ⟨fun ho => gives_of_exec (a := parkA cmd) rfl ?_, fun i ho =>
      ⟨fun h => gives_of_exec (a := parkA cmd) rfl ?_, fun hl hn =>
        ⟨fun hp => gives_of_exec (a := parkA cmd) rfl ?_,
          fun hp hi => gives_of_exec (a := parkA cmd) rfl (readers_parkA_waits hc ho hl hn hp hi),
          fun fs hp hi hf => gives_of_exec (a := parkA cmd) rfl ?_,
          fun hp hi hf => gives_of_exec (a := parkA cmd) rfl ?_⟩⟩⟩
    · rw [run_parkA_noEntry hc ho]
      exact answered_complete _ _ _ _ _
    · rw [run_parkA_unfit hc ho h]
      exact answered_complete _ _ _ _ _
    · rw [run_parkA_busy hc ho hl hn hp]
      exact ⟨answered_complete _ _ _ _ _, keep_req (w_complete ..) (by decide) s⟩
    · rw [readers_parkA_frames hc ho hl hn hp hi hf]
    · exact readers_parkA_noFrames hc ho hl hn hp hi hf
  case resume =>
    refine ⟨fun ho => gives_of_exec (a := resumeA cmd) rfl ?_, fun i ho =>
      ⟨fun h => gives_of_exec (a := resumeA cmd) rfl ?_, fun hs hv ht =>
        ⟨fun e ha => gives_of_exec (a := resumeA cmd) rfl (readers_resumeA_refused hc ho hs hv ht ha),
          fun k r ha => gives_of_exec (a := resumeA cmd) rfl ?_⟩⟩⟩
    · obtain ⟨hreason, hans, -⟩ := readers_refuseAdmit cmd (suENTRY c.desc) 6 s
      rw [run_resumeA_noEntry hc ho]
      exact ⟨hreason, hans⟩
    · rw [run_resumeA_unfit hc ho h]
      exact (readers_refuseAdmit cmd i 6 s).2
    · obtain ⟨hans, hreq⟩ := readers_resumeA_admitted hc ho hs hv ht ha
      rw [hreq]
      exact ⟨hans, rfl, rfl, rfl, rfl, rfl⟩
  case release =>
    refine ⟨fun h => gives_of_exec (a := releaseA cmd) rfl ?_,
      fun p hp ht => gives_of_exec (a := releaseA cmd) rfl (readers_releaseA hc hp ht)⟩
    rw [run_releaseA_unfit hc h]
    exact ⟨answered_complete _ _ _ _ _, keep_pfx (w_complete ..) (by decide) s⟩

end Sys2Proof.Machine
end

section
/-!
SUPPORT. Chapter 07: the serving block's commands, the first draw, the course of a request from PREFILL_START to
REQUEST_RELEASE; O31.
-/

-- One declaration after another: side by side they take more memory than the check allows the whole text.
set_option Elab.async false

namespace Sys2Proof.Machine

/-! ### Commands of the serving block (R263) -/

/-- The command that the serving block gives a load for requests `rs`. -/
def State.serveCmd (s : State) (op v key : Nat) (rs : List Nat) : Cmd :=
  { op := op, tenant := s.svcTenant v, pair := none, time := s.now, taken := true, reqs := rs, svc := v, step := key }

theorem run_issueServe (op h v key : Nat) (rs : List Nat) (s : State) : run (issueServe op h v key rs) s =
    run (modStep key fun t => { t with cmd := some s.nextCmd })
      (run (modLoad h fun l => { l with waiting := l.waiting ++ [s.nextCmd] })
        (applyUpd (.nextCmd (s.nextCmd + 1)) (applyUpd (.cmd s.nextCmd (some (s.serveCmd op v key rs))) s))) := rfl

section

variable (op h v key : Nat) (rs : List Nat) (s : State) (j : Nat)

theorem cmd_issueServe : (run (issueServe op h v key rs) s).cmd j =
    if j = s.nextCmd then some (s.serveCmd op v key rs) else s.cmd j := by
  rw [run_issueServe, keep_cmd (w_modStep ..) (by decide)]
  exact (keep_cmd (p := { flds := [.exh .load], regs := [] }) (w_modLoad h _ (by decide)) (by decide) _ j).trans
    (applyUpd_cmd s s.nextCmd _ j)

theorem load_issueServe : (run (issueServe op h v key rs) s).load j =
    if j = h then { s.load h with waiting := (s.load h).waiting ++ [s.nextCmd] } else s.load j := by
  rw [run_issueServe, keep_load (w_modStep ..) (by decide)]
  exact load_modLoad h _ _ j

theorem srvStep_issueServe : (run (issueServe op h v key rs) s).srvStep j =
    if j = key then (s.srvStep key).map (fun t => { t with cmd := some s.nextCmd }) else s.srvStep j := by
  have hkeep : ∀ f m, (run (modLoad h f) (applyUpd (.nextCmd (s.nextCmd + 1))
      (applyUpd (.cmd s.nextCmd (some (s.serveCmd op v key rs))) s))).srvStep m = s.srvStep m := fun f =>
    keep_srvStep (p := { flds := [.exh .load], regs := [] }) (w_modLoad h f (by decide)) (by decide) _
  rw [run_issueServe, modStep, modSrvStep, run_dyn, run_upd, applyUpd_srvStep, hkeep, hkeep]

end

/-! ### The first draw (R248, R252) -/

/-- A request whose head command has been given. -/
def Req.drawing (x : Req) : Req :=
  { x with ph := .draw, due := [x.committed], drawn := [], drafts := [], decided := false, wide := false }

/-- The step of the first draw of request `i`. -/
def State.drawStep (s : State) (i : Nat) : SrvStep :=
  { svc := (s.req i).svc, reqs := [i], ph := .head, cmd := some s.nextCmd }

section

variable (i : Nat) (s : State) (j : Nat)

theorem run_startDraw : run (startDraw i) s =
    run (issueServe opHEAD (s.svcHead (s.req i).svc) (s.req i).svc (drawKey i) [i])
      (run (modReq i Req.drawing)
        (applyUpd (.srvStep (drawKey i) (some { svc := (s.req i).svc, reqs := [i], ph := .head })) s)) := rfl

theorem req_startDraw : (run (startDraw i) s).req j = if j = i then (s.req i).drawing else s.req j := by
  rw [run_startDraw, keep_req (w_issueServe ..) (by decide)]
  exact req_modReq i _ _ j

theorem load_startDraw : (run (startDraw i) s).load j = if j = s.svcHead (s.req i).svc then
      { s.load j with waiting := (s.load j).waiting ++ [s.nextCmd] } else s.load j := by
  rw [run_startDraw, load_issueServe]
  split
  · next h => rw [h]; rfl
  · rfl

theorem cmd_startDraw : (run (startDraw i) s).cmd s.nextCmd =
    some (s.serveCmd opHEAD (s.req i).svc (drawKey i) [i]) := by
  rw [run_startDraw, cmd_issueServe, keep_nextCmd (w_modReq_only i _) (by decide)]
  exact if_pos rfl

theorem srvStep_startDraw : (run (startDraw i) s).srvStep (drawKey i) = some (s.drawStep i) := by
  rw [run_startDraw, srvStep_issueServe, if_pos rfl, keep_srvStep (w_modReq_only i _) (by decide), applyUpd_srvStep,
    if_pos rfl]
  rfl

end

/-! ### The page list of a request (R250) -/

def Req.withPages (x : Req) (n : Nat) : Req := { x with pages := n }

/-- The number of pages of request `i`. -/
def State.pageCount (s : State) (i : Nat) : Nat := (s.pageEntries (s.req i)).length

theorem req_writePageList (i : Nat) (s : State) (j : Nat) :
    (run (writePageList i) s).req j = if j = i then (s.req i).withPages (s.pageCount i) else s.req j := by
  simp only [writePageList, run_dyn, run_seq]
  rw [keep_req (w_writeBytes _ _) (by decide), req_modReq]
  rfl

/-- A request that changes and whose page list is written changes in its count of pages besides. -/
theorem req_modReq_pages (i : Nat) (f : Req → Req) (s : State) :
    (run (writePageList i) (run (modReq i f) s)).req i = (f (s.req i)).withPages ((run (modReq i f) s).pageCount i) := by
  rw [req_writePageList, if_pos rfl, req_modReq, if_pos rfl]

/-! ### PREFILL_START (R251, R260) -/

theorem mem_of_minBy {α : Type} {key : α → Nat} {l : List α} {x : α} (h : minBy key l = some x) : x ∈ l := by
  induction l generalizing x with
  | nil => simp [minBy] at h
  | cons y l ih =>
    unfold minBy at h
    split at h
    · simp_all
    · next z hz =>
      split at h
      · exact Option.some.inj h ▸ List.mem_cons_of_mem y (ih hz)
      · exact Option.some.inj h ▸ List.mem_cons_self

/-- The place that PREFILL_START takes: a pool and a load of the service that is free. -/
def State.prefillPlace (s : State) (v : Nat) : Option (Nat × Nat) :=
  minBy (fun p => p.2) ((s.preLoads v).filter (fun p => s.loadFree p.2))

theorem waiting_of_prefillPlace {s : State} {v r h : Nat} (hp : s.prefillPlace v = some (r, h)) :
    (s.load h).waiting = [] := by
  have hfree := (List.mem_filter.1 (mem_of_minBy hp)).2
  simp only [State.loadFree, Bool.and_eq_true, decide_eq_true_eq] at hfree
  exact hfree.1.2

theorem run_prefillStartA_idle {v : Nat} {s : State}
    (h : s.serves v = false ∨ s.nextPrefill v = none ∨ s.prefillPlace v = none) : run (prefillStartA v) s = s := by
  simp only [State.prefillPlace] at h
  simp only [prefillStartA, run_dyn]
  split
  · next hs =>
    split
    · next hi hp => simp [hs, hi, hp] at h
    · rfl
  · rfl

theorem run_prefillStartA {v i r h : Nat} {s : State} (hs : s.serves v = true) (hi : s.nextPrefill v = some i)
    (hp : s.prefillPlace v = some (r, h)) : run (prefillStartA v) s =
      if (freeFrames (s.usedFrames v r) 0 (s.poolFrames v r) (s.prefillFrames (s.req i) r)).isSome then
        run (startPrefill i h r) s else s := by
  simp only [State.prefillPlace] at hp
  simp only [prefillStartA, run_dyn, hs, if_true, hi, hp]
  split <;> rfl

/-- Request `x` on load `h`, its prefill pages in pool `r`. -/
def State.prefilling (s : State) (h r n : Nat) (x : Req) : Req :=
  { x with
    st := .prefill, ph := .prefill, preLoad := h, prePool := r
    loc := if x.pool = r then .decode else .prefill
    preFrames := if x.pool = r then []
      else (freeFrames (s.usedFrames x.svc r) 0 (s.poolFrames x.svc r) n).getD [] }

theorem readers_startPrefill {i h r : Nat} {s : State} (hw : (s.load h).waiting = []) :
    let t := run (startPrefill i h r) s
    (t.req i).st = .prefill ∧ (t.req i).ph = .prefill ∧ (t.req i).preLoad = h ∧ (t.req i).prePool = r ∧
      (t.load h).waiting = [s.nextCmd] ∧
      ∃ c, t.cmd s.nextCmd = some c ∧ c.op = opPREFILL ∧ c.reqs = [i] ∧ c.svc = (s.req i).svc ∧ c.pair = none := by
  intro t
  have w₁ : (withSome (s.req i).pfx fun p => acquirePfx p r).Within ft_acquirePfx :=
    within_withSome fun p _ => w_acquirePfx p r
  set s₁ := run (withSome (s.req i).pfx fun p => acquirePfx p r) s with hs₁
  set n := cdiv (s.req i).promptEnd (s.svcPage (s.req i).svc) - s.pfxPages (s.req i)
  have w₂ := w_modReq_only i (s₁.prefilling h r n)
  set s₂ := run (modReq i (s₁.prefilling h r n)) s₁ with hs₂
  have w₃ := w_copyPartial i r
  have w₄ := w_writePageList i
  set s₄ := run (writePageList i) (run (copyPartial i r) s₂) with hs₄
  have ht : t = run (issueServe opPREFILL h (s.req i).svc (drawKey i) [i]) s₄ := rfl
  have hreq : t.req i = (s₂.req i).withPages ((run (copyPartial i r) s₂).pageCount i) := by
    rw [ht, keep_req (w_issueServe ..) (by decide), hs₄, req_writePageList, if_pos rfl, keep_req w₃ (by decide)]
  have hreq₂ : s₂.req i = s₁.prefilling h r n (s₁.req i) := (req_modReq ..).trans (if_pos rfl)
  have hnext : s₄.nextCmd = s.nextCmd := by
    rw [keep_nextCmd w₄ (by decide), keep_nextCmd w₃ (by decide), keep_nextCmd w₂ (by decide), keep_nextCmd w₁ (by decide)]
  have hload : s₄.load h = s.load h := by
    rw [keep_load w₄ (by decide), keep_load w₃ (by decide), keep_load w₂ (by decide), keep_load w₁ (by decide)]
  rw [hreq, hreq₂, ht, load_issueServe, if_pos rfl, hload, hw, hnext]
  exact ⟨rfl, rfl, rfl, rfl, rfl, _, (cmd_issueServe ..).trans (if_pos hnext.symm), rfl, rfl, rfl, rfl⟩

/-! ### PREFILL_END (R252, R255, R277) -/

/-- A request whose prompt is committed. -/
def Req.prefilled (x : Req) : Req := { x with committed := x.promptEnd }

/-- How request `i`, found as `x`, goes on after its prefill. -/
def afterPrefill (i : Nat) (x : Req) : Act :=
  if x.cancel then drainReq i .cancelled Status.cancelled.code
  else if x.limit = x.promptEnd then if x.reg then registerPfx i else drainReq i .done Status.ok.code
  else if x.loc = .prefill then modReq i (fun x => { x with ph := .handover })
  else startDraw i

theorem run_prefillDone (i : Nat) (s : State) : run (prefillDone i) s =
    run (afterPrefill i (s.req i)) (run (modReq i Req.prefilled) s) := by
  have hreq : (run (modReq i Req.prefilled) s).req i = (s.req i).prefilled := (req_modReq ..).trans (if_pos rfl)
  rw [prefillDone, run_seq, run_dyn]
  have h := congrArg (fun x => run (afterPrefill i x) (run (modReq i Req.prefilled) s)) hreq
  exact h

/-- No load stops running when the prefill of a request is done. -/
theorem load_prefillDone (i : Nat) (s : State) (h : Nat) :
    ((run (prefillDone i) s).load h).torn = (s.load h).torn ∧ ((run (prefillDone i) s).load h).st = (s.load h).st := by
  have hmod : ∀ f s, (run (modReq i f) s).load h = s.load h := fun f s => keep_load (w_modReq_only i f) (by decide) s h
  rw [run_prefillDone, afterPrefill]
  split
  · rw [keep_load (w_drainReq ..) (by decide), hmod]; exact ⟨rfl, rfl⟩
  · split
    · split
      · rw [keep_load (w_registerPfx i) (by decide), hmod]; exact ⟨rfl, rfl⟩
      · rw [keep_load (w_drainReq ..) (by decide), hmod]; exact ⟨rfl, rfl⟩
    · split
      · rw [hmod, hmod]; exact ⟨rfl, rfl⟩
      · rw [load_startDraw]; split <;> rw [hmod] <;> exact ⟨rfl, rfl⟩

section

variable {i : Nat} {s : State}

theorem req_prefillDone_cancel (hl : (s.req i).live = true) (hc : (s.req i).cancel = true) :
    (run (prefillDone i) s).req i = (s.req i).prefilled.drained .cancelled Status.cancelled.code := by
  have hreq : (run (modReq i Req.prefilled) s).req i = (s.req i).prefilled := (req_modReq ..).trans (if_pos rfl)
  rw [run_prefillDone, afterPrefill, if_pos hc, req_drainReq (hreq ▸ hl), if_pos rfl, hreq]

theorem req_prefillDone_ends (hv : (s.req i).live = true) (hc : (s.req i).cancel = false)
    (hl : (s.req i).limit = (s.req i).promptEnd) (hr : (s.req i).reg = false) :
    (run (prefillDone i) s).req i = (s.req i).prefilled.drained .done Status.ok.code := by
  have hreq : (run (modReq i Req.prefilled) s).req i = (s.req i).prefilled := (req_modReq ..).trans (if_pos rfl)
  rw [run_prefillDone, afterPrefill, if_neg (by simp [hc]), if_pos hl, if_neg (by simp [hr]), req_drainReq (hreq ▸ hv),
    if_pos rfl, hreq]

variable (hc : (s.req i).cancel = false) (hl : (s.req i).limit ≠ (s.req i).promptEnd)

include hc hl

theorem run_prefillDone_handover (hp : (s.req i).loc = .prefill) : run (prefillDone i) s =
    run (modReq i fun x => { x with ph := .handover }) (run (modReq i Req.prefilled) s) := by
  rw [run_prefillDone, afterPrefill, if_neg (by simp [hc]), if_neg hl, if_pos hp]

theorem run_prefillDone_draw (hp : (s.req i).loc ≠ .prefill) :
    run (prefillDone i) s = run (startDraw i) (run (modReq i Req.prefilled) s) := by
  rw [run_prefillDone, afterPrefill, if_neg (by simp [hc]), if_neg hl, if_neg hp]

end

theorem run_finishCmd_serve {id h : Nat} {c : Cmd} {st : Status} {s : State} (hc : s.cmd id = some c)
    (hp : c.pair = none) : run (finishCmd id h st) s = run (serveEnd id st) s := by
  simp only [finishCmd, run_dyn, hc, run_withSome_some, hp]

/-- A prefill command that ended well: the prefill of its request is done. -/
theorem run_serveEnd_prefill {id i : Nat} {c : Cmd} {s : State} (hc : s.cmd id = some c) (hop : c.op = opPREFILL)
    (hreqs : c.reqs = [i]) (hph : (s.req i).ph = .prefill) :
    run (serveEnd id .ok) s = run settleSrv (run (prefillDone i) (applyUpd (.cmd id none) s)) := by
  simp only [serveEnd, run_dyn, hc, run_withSome_some, hop, if_true, hreqs, run_seqs_cons, run_seqs_nil,
    List.filter_cons, List.filter_nil, hph, decide_true, ne_eq, not_true_eq_false, decide_false, run_when',
    Bool.false_eq_true, if_false, run_each_cons, run_each_nil, run_upd]

/-- A request whose prompt is committed and whose pages are in place starts its first draw. -/
theorem readers_prefillDone_draw {i : Nat} {s : State} (hc : (s.req i).cancel = false)
    (hl : (s.req i).limit ≠ (s.req i).promptEnd) (hp : (s.req i).loc ≠ .prefill) : let t := run (prefillDone i) s
    t.req i = (s.req i).prefilled.drawing ∧ t.srvStep (drawKey i) = some (s.drawStep i) := by
  intro t
  set s₁ := run (modReq i Req.prefilled) s with hs₁
  have hreq : s₁.req i = (s.req i).prefilled := (req_modReq ..).trans (if_pos rfl)
  have hnext : s₁.nextCmd = s.nextCmd := keep_nextCmd (w_modReq_only i _) (by decide) s
  rw [show t = _ from run_prefillDone_draw hc hl hp, req_startDraw, if_pos rfl, srvStep_startDraw, State.drawStep, hreq,
    hnext]
  exact ⟨rfl, rfl⟩

/-- What a command that PREFILL_END ends leaves to its request's prefill. -/
def State.afterCmd (s : State) (h id : Nat) : State := applyUpd (.cmd id none) (run (modLoad h Load.ended) s)

section

variable {h id i : Nat} {c : Cmd} {s : State} (hdone : ((s.load h).started && s.loadDone h) = true)
  (hcmd : (s.load h).cmd = some id) (hc : s.cmd id = some c) (hop : c.op = opPREFILL) (hp : c.pair = none)
  (hreqs : c.reqs = [i]) (hcause : (s.load h).causes = 0) (hrun : (s.load h).st = .running)
  (htorn : (s.load h).torn = false) (hforce : (s.load h).relForce = none) (hscan : s.scanWant = [])
  (hph : (s.req i).ph = .prefill)

include hdone hcmd hc hop hp hreqs hcause hrun htorn hforce hscan hph

/-- PREFILL_END of a command without a condition: its request's prefill is done, then the load's DRAINING bays leave. -/
theorem run_completeA_prefill : run (completeA h true) s =
    run (drainBays h) (run settleSrv (run (prefillDone i) (s.afterCmd h id))) := by
  set s₁ := run (modLoad h Load.ended) s with hs₁
  have hcmd₁ : s₁.cmd id = some c := hc
  have hph₁ : (s₁.req i).ph = .prefill := hph
  have hgo : ((s.load h).started && s.loadDone h && (decide (s.loadOp h = some opPREFILL) == true)) = true := by
    simp [hdone, State.loadOp, hcmd, hc, hop]
  have hok : causeStatus 0 = .ok := rfl
  have hends : causeEnds 0 = false := rfl
  have hcode : decide (0x10 ≤ Status.ok.code) = false := rfl
  have hfin : run (finishCmd id h .ok) s₁ = run settleSrv (run (prefillDone i) (s.afterCmd h id)) := by
    rw [run_finishCmd_serve hcmd₁ hp, run_serveEnd_prefill hcmd₁ hop hreqs hph₁]
    rfl
  have hend : run (completeA h true) s = run (boundary h) (run (finishCmd id h .ok) s₁) := by
    simp only [completeA, run_dyn, if_pos hgo, endLoad, endAs, hcmd, run_withSome_some, hcause, hok, hends, hcode, hforce,
      run_seqs_cons, run_seqs_nil, run_when', Bool.false_eq_true, if_false, run_withSome_none]
    rfl
  have hload : (s.afterCmd h id).load h = (s.load h).ended := (load_modLoad ..).trans (if_pos rfl)
  obtain ⟨htorn', hst'⟩ := load_prefillDone i (s.afterCmd h id) h
  rw [hend, hfin]
  refine run_boundary_drains ?_ ?_ ?_
  · rw [keep_load w_settleSrv (by decide), htorn', hload]; exact htorn
  · rw [keep_load w_settleSrv (by decide), hst', hload]; exact Load.ended_st_of_running hrun
  · rw [keep_scanWant w_settleSrv (by decide), keep_scanWant (w_prefillDone i) (by decide)]; exact hscan

/-- What PREFILL_END leaves in requests, commands and steps is what the request's prefill leaves there. -/
theorem readers_completeA_prefill : let t := run (completeA h true) s
    let u := run (prefillDone i) (s.afterCmd h id)
    (∀ j, t.req j = u.req j) ∧ (∀ j, t.cmd j = u.cmd j) ∧ ∀ j, t.srvStep j = u.srvStep j := by
  intro t u
  have ht : t = run (drainBays h) (run settleSrv u) :=
    run_completeA_prefill hdone hcmd hc hop hp hreqs hcause hrun htorn hforce hscan hph
  refine ⟨fun j => ?_, fun j => ?_, fun j => ?_⟩
  · rw [ht, keep_req (w_drainBays h) (by decide), keep_req w_settleSrv (by decide)]
  · rw [ht, keep_cmd (w_drainBays h) (by decide), keep_cmd w_settleSrv (by decide)]
  · rw [ht, keep_srvStep (w_drainBays h) (by decide), keep_srvStep w_settleSrv (by decide)]

end

/-! ### HANDOVER_COMPLETE (R252) -/

theorem run_handoverA_idle {i : Nat} {s : State} (h : (s.req i).ph ≠ .handover ∨ s.stilled = true) :
    run (handoverA i) s = s := by
  rw [handoverA, run_dyn, if_neg, run_nop]
  rintro ⟨hp, hs⟩
  rcases h with h | h
  · exact h hp
  · simp [h] at hs

/-- A request whose pages have moved to its decode pool. -/
def Req.handed (x : Req) : Req := { x with loc := .decode, preFrames := [] }

/-- What HANDOVER_COMPLETE does before the first draw. -/
def handPages (i : Nat) (x : Req) : Act :=
  seqs [handOver i, withSome x.pfx fun p => .seq (acquirePfx p x.pool) (leavePfx p x.prePool)]

theorem w_handPages (i : Nat) (x : Req) : (handPages i x).Within ft_acquirePfx :=
  .seq ((w_handOver i).mono (by decide)) (within_withSome fun p _ =>
    .seq (w_acquirePfx p x.pool) ((w_leavePfx p x.prePool).mono (by decide)))

theorem run_handoverA {i : Nat} {s : State} (hp : (s.req i).ph = .handover) (hs : s.stilled = false) :
    run (handoverA i) s = run (startDraw i) (run (writePageList i)
      (run (modReq i Req.handed) (run (handPages i (s.req i)) s))) := by
  rw [handoverA, run_dyn, if_pos ⟨hp, by rw [hs]; rfl⟩]
  rfl

theorem readers_handoverA {i : Nat} {s : State} (hp : (s.req i).ph = .handover) (hs : s.stilled = false) :
    let x := s.req i
    let t := run (handoverA i) s
    (t.req i).loc = .decode ∧ (t.req i).preFrames = [] ∧ (t.req i).ph = .draw ∧ (t.req i).due = [x.committed] ∧
      t.srvStep (drawKey i) = some { svc := x.svc, reqs := [i], ph := .head, cmd := some s.nextCmd } ∧
      (t.load (s.svcHead x.svc)).waiting = (s.load (s.svcHead x.svc)).waiting ++ [s.nextCmd] ∧
      ∃ c, t.cmd s.nextCmd = some c ∧ c.op = opHEAD ∧ c.reqs = [i] := by
  intro x t
  have w₁ := w_handPages i x
  have w₂ := w_modReq_only i Req.handed
  have w₃ := w_writePageList i
  set s₁ := run (handPages i x) s with hs₁
  set s₂ := run (modReq i Req.handed) s₁ with hs₂
  set s₃ := run (writePageList i) s₂ with hs₃
  have ht : t = run (startDraw i) s₃ := run_handoverA hp hs
  have hreq : s₃.req i = x.handed.withPages (s₂.pageCount i) := by
    rw [hs₃, hs₂, req_modReq_pages, keep_req w₁ (by decide)]
  have hnext : s₃.nextCmd = s.nextCmd := by
    rw [keep_nextCmd w₃ (by decide), keep_nextCmd w₂ (by decide), keep_nextCmd w₁ (by decide)]
  have hload : ∀ h, s₃.load h = s.load h := fun h => by
    rw [keep_load w₃ (by decide), keep_load w₂ (by decide), keep_load w₁ (by decide)]
  have hhead : s₃.svcHead (s₃.req i).svc = s.svcHead x.svc := by
    rw [hreq]
    simp only [State.svcHead]
    rw [keep_fld w₃ _ _ _ _ (by decide) (by decide), keep_fld w₂ _ _ _ _ (by decide) (by decide),
      keep_fld w₁ _ _ _ _ (by decide) (by decide)]
    rfl
  have hdraw : t.req i = (s₃.req i).drawing := by rw [ht, req_startDraw, if_pos rfl]
  rw [hdraw, hreq, ht, srvStep_startDraw, load_startDraw, if_pos hhead.symm, hload, State.drawStep, hnext, hreq]
  have hcmd := cmd_startDraw i s₃
  rw [hnext] at hcmd
  refine ⟨rfl, rfl, rfl, rfl, rfl, rfl, ?_⟩
  exact ⟨_, hcmd, rfl, rfl⟩

/-! ### DECODE_STEP_START (R263, R274) -/

theorem run_decodeStepA_none {h : Nat} {s : State} (hd : s.decodes h = none) : run (decodeStepA h) s = s := by
  rw [decodeStepA, run_dyn, hd, run_withSome_none]

/-- A request that has entered a step with its drafts. -/
def Req.stepping (x : Req) : Req :=
  let d := min x.draft (min x.proposed.length (x.limit - x.committed - 1))
  { x with
    ph := .step, st := if d = 0 then .decode else .verify, drafts := x.proposed.take d, prov := d,
    due := (List.range (d + 1)).map (fun j => x.committed + j), drawn := [], decided := false, wide := false }

theorem req_enterStep (k : Nat) (s : State) (j : Nat) :
    (run (enterStep k) s).req j = if j = k then (s.req j).stepping else s.req j := by
  refine (req_modReq k _ s j).trans ?_
  split
  · next h => rw [h]; rfl
  · rfl

theorem req_each_enterStep (rs : List Nat) (s : State) (j : Nat) :
    (run (each rs enterStep) s).req j = if j ∈ rs then (s.req j).stepping else s.req j :=
  run_each_idem State.req (g := Req.stepping)
    req_enterStep (fun _ => rfl) rs s j

section

variable {h v r : Nat} {s : State} (hd : s.decodes h = some (v, r))

include hd

theorem run_decodeStepA_idle (hn : s.stepReqs v r = [] ∨ s.srvStep h ≠ none ∨ (s.load h).repl ≠ none) :
    run (decodeStepA h) s = s := by
  rw [decodeStepA, run_dyn, hd, run_withSome_some]
  refine congrArg (fun a => run a s) (if_neg ?_)
  rintro ⟨hrs, hstep, hrepl⟩
  rcases hn with hn | hn | hn
  · exact hrs hn
  · exact hn hstep
  · exact hn (Option.isNone_iff_eq_none.1 hrepl)

variable (hrs : s.stepReqs v r ≠ []) (hstep : s.srvStep h = none) (hrepl : (s.load h).repl = none)

include hrs hstep hrepl

theorem run_decodeStepA : run (decodeStepA h) s = run (issueServe opDECODE h v h (s.stepReqs v r))
    (run (each (s.stepReqs v r) enterStep) (applyUpd (.srvStep h (some { svc := v, reqs := s.stepReqs v r })) s)) := by
  rw [decodeStepA, run_dyn, hd, run_withSome_some]
  dsimp only
  rw [if_pos ⟨hrs, hstep, by rw [hrepl]; rfl⟩, run_seqs_cons, run_seqs_cons, run_seqs_cons, run_seqs_nil, run_upd]

theorem readers_decodeStepA : let t := run (decodeStepA h) s
    t.srvStep h = some { svc := v, reqs := s.stepReqs v r, ph := .decode, cmd := some s.nextCmd } ∧
      (t.load h).waiting = (s.load h).waiting ++ [s.nextCmd] ∧
      (∃ c, t.cmd s.nextCmd = some c ∧ c.op = opDECODE ∧ c.reqs = s.stepReqs v r) ∧
      ∀ i ∈ s.stepReqs v r, t.req i = (s.req i).stepping := by
  intro t
  set s₁ := applyUpd (.srvStep h (some { svc := v, reqs := s.stepReqs v r })) s with hs₁
  have we : (each (s.stepReqs v r) enterStep).Within ft_enterStep := within_each _ w_enterStep
  set s₂ := run (each (s.stepReqs v r) enterStep) s₁ with hs₂
  have ht : t = run (issueServe opDECODE h v h (s.stepReqs v r)) s₂ := run_decodeStepA hd hrs hstep hrepl
  have hnext : s₂.nextCmd = s.nextCmd := keep_nextCmd we (by decide) s₁
  refine ⟨?_, ?_, ⟨s₂.serveCmd opDECODE v h (s.stepReqs v r), ?_, rfl, rfl⟩, fun i hi => ?_⟩
  · rw [ht, srvStep_issueServe, if_pos rfl, keep_srvStep we (by decide), hs₁, applyUpd_srvStep, if_pos rfl, hnext]
    rfl
  · rw [ht, load_issueServe, if_pos rfl, keep_load we (by decide), hnext]
    rfl
  · rw [ht, cmd_issueServe, if_pos hnext.symm]
  · rw [ht, keep_req (w_issueServe ..) (by decide), hs₂, req_each_enterStep, if_pos hi]
    rfl

end

/-! ### PARK_COMPLETE and RESUME_FETCH_COMPLETE (R254) -/

/-- A request that is parked. -/
def Req.parked (x : Req) : Req :=
  { x with st := .parked, ph := .none, loc := .park, slot := none, frames := [], parkCmd := none }

theorem run_parkDoneA_idle {i : Nat} {s : State} (h : (s.req i).ph ≠ .parking ∨ s.stilled = true) :
    run (parkDoneA i) s = s := by
  rw [parkDoneA, run_dyn, if_neg, run_nop]
  rintro ⟨hp, hs⟩
  rcases h with h | h
  · exact h hp
  · simp [h] at hs

theorem run_parkDoneA {i : Nat} {s : State} (hp : (s.req i).ph = .parking) (hs : s.stilled = false) :
    let x := s.req i
    run (parkDoneA i) s = run (withSome x.parkCmd fun id => complete id .ok i) (run (writePageList i)
      (run (modReq i Req.parked) (run (withSome x.pfx fun p => leavePfx p x.pool)
        (run (copyFrames x.svc x.pool parkEntry (x.frames.zip x.parkFrames)) s)))) := by
  rw [parkDoneA, run_dyn, if_pos ⟨hp, by rw [hs]; rfl⟩]
  rfl

theorem readers_parkDoneA {i : Nat} {s : State} (hp : (s.req i).ph = .parking) (hs : s.stilled = false) :
    let t := run (parkDoneA i) s
    (∃ n, t.req i = (s.req i).parked.withPages n) ∧
      ∀ id, (s.req i).parkCmd = some id → s.answered t id .ok i 0 := by
  intro t
  have w₁ := w_copyFrames (s.req i).svc (s.req i).pool parkEntry ((s.req i).frames.zip (s.req i).parkFrames)
  have w₂ : (withSome (s.req i).pfx fun p => leavePfx p (s.req i).pool).Within ft_leavePfx :=
    within_withSome fun p _ => w_leavePfx p _
  have w₃ := w_modReq_only i Req.parked
  have w₄ := w_writePageList i
  have w₅ : (withSome (s.req i).parkCmd fun id => complete id .ok i).Within ft_completeCode :=
    within_withSome fun id _ => w_complete id .ok i 0
  have ht : t = _ := run_parkDoneA hp hs
  constructor
  · set s₂ := run (withSome (s.req i).pfx fun p => leavePfx p (s.req i).pool)
      (run (copyFrames (s.req i).svc (s.req i).pool parkEntry ((s.req i).frames.zip (s.req i).parkFrames)) s) with hs₂
    have hreq := req_modReq_pages i Req.parked s₂
    rw [hs₂, keep_req w₂ (by decide), keep_req w₁ (by decide)] at hreq
    exact ⟨_, by rw [ht, keep_req w₅ (by decide), hreq]⟩
  · intro id hid
    rw [ht, hid, run_withSome_some]
    exact answered_before w₁ (answered_before w₂ (answered_before w₃ (answered_before w₄ (answered_complete _ _ _ _ _))))

theorem run_fetchDoneA_idle {i : Nat} {s : State} (h : (s.req i).ph ≠ .fetching ∨ s.stilled = true) :
    run (fetchDoneA i) s = s := by
  rw [fetchDoneA, run_dyn, if_neg, run_nop]
  rintro ⟨hp, hs⟩
  rcases h with h | h
  · exact h hp
  · simp [h] at hs

/-- At a boundary without a CANCEL or a PARK a request goes on. -/
theorem run_reqBoundary_none {i : Nat} {s : State} (hc : (s.req i).cancel = false) (hp : (s.req i).parkCmd = none) :
    run (reqBoundary i) s = s := by
  simp only [reqBoundary, run_dyn, hc, hp, Bool.false_eq_true, if_false, run_withSome_none]

/-- A parked request whose pages have been fetched. -/
def Req.fetched (x : Req) : Req := { x with st := .decode, ph := .idle, loc := .decode, parkFrames := [] }

theorem run_fetchDoneA {i : Nat} {s : State} (hp : (s.req i).ph = .fetching) (hs : s.stilled = false) :
    let x := s.req i
    run (fetchDoneA i) s = run (reqBoundary i) (run (writePageList i) (run (modReq i Req.fetched)
      (run (copyFrames x.svc parkEntry x.pool (x.parkFrames.zip x.frames))
        (run (withSome x.pfx fun p => acquirePfx p x.pool) s)))) := by
  rw [fetchDoneA, run_dyn, if_pos ⟨hp, by rw [hs]; rfl⟩]
  simp only [run_seqs_cons, run_seqs_nil]
  rfl

theorem req_fetchDoneA {i : Nat} {s : State} (hp : (s.req i).ph = .fetching) (hs : s.stilled = false)
    (hc : (s.req i).cancel = false) (hk : (s.req i).parkCmd = none) :
    ∃ n, (run (fetchDoneA i) s).req i = (s.req i).fetched.withPages n := by
  have w₁ : (withSome (s.req i).pfx fun p => acquirePfx p (s.req i).pool).Within ft_acquirePfx :=
    within_withSome fun p _ => w_acquirePfx p _
  have w₂ := w_copyFrames (s.req i).svc parkEntry (s.req i).pool ((s.req i).parkFrames.zip (s.req i).frames)
  set s₂ := run (copyFrames (s.req i).svc parkEntry (s.req i).pool ((s.req i).parkFrames.zip (s.req i).frames))
    (run (withSome (s.req i).pfx fun p => acquirePfx p (s.req i).pool) s) with hs₂
  have hreq₂ : s₂.req i = s.req i := by rw [hs₂, keep_req w₂ (by decide), keep_req w₁ (by decide)]
  have hreq := req_modReq_pages i Req.fetched s₂
  rw [hreq₂] at hreq
  rw [run_fetchDoneA hp hs, run_reqBoundary_none (by rw [hreq]; exact hc) (by rw [hreq]; exact hk)]
  exact ⟨_, hreq⟩

/-! ### REQUEST_RELEASE (R248, R256, R262) -/

/-- A request that holds nothing. -/
def Req.emptied (x : Req) : Req :=
  { x with slot := none, frames := [], preFrames := [], parkFrames := [], loc := .none, pfx := none }

/-- A request found as `x` gives its PREFIX entry back. -/
def givePfx (x : Req) : Act :=
  withSome x.pfx fun p => seqs [
    (match x.loc with
      | .prefill => leavePfx p x.prePool
      | .decode => leavePfx p x.pool
      | _ => .nop),
    modPfx p (fun y => { y with refs := y.refs - 1 }),
    settlePfx p]

theorem w_givePfx (x : Req) : (givePfx x).Within ft_leavePfx := by
  refine within_withSome fun p _ => .seq ?_ (.seq (w_modPfx p _ (by decide)) (w_settlePfx p))
  split
  · exact w_leavePfx ..
  · exact w_leavePfx ..
  · exact .nop

theorem run_freeReqHoldings (i : Nat) (s : State) :
    run (freeReqHoldings i) s = run (modReq i Req.emptied) (run (givePfx (s.req i)) s) := rfl

theorem req_freeReqHoldings (i : Nat) (s : State) (j : Nat) :
    (run (freeReqHoldings i) s).req j = if j = i then (s.req i).emptied else s.req j := by
  rw [run_freeReqHoldings, req_modReq, keep_req (w_givePfx _) (by decide), keep_req (w_givePfx _) (by decide)]

theorem run_requestReleaseA_idle {i : Nat} {s : State} (h : (s.req i).st ≠ .draining ∨ s.stillServed i = true) :
    run (requestReleaseA i) s = s := by
  rw [requestReleaseA, run_dyn, if_neg, run_nop]
  rintro ⟨hp, hs⟩
  rcases h with h | h
  · exact h hp
  · simp [h] at hs

theorem run_requestReleaseA {i : Nat} {s : State} (hd : (s.req i).st = .draining) (hs : s.stillServed i = false) :
    let x := s.req i
    run (requestReleaseA i) s = run (withSome x.cmd fun id => completeCode id x.finalStatus i x.detail)
      (run (when' (decide (x.endSt ≠ .done)) (cancelRequestWork i))
        (run (modReq i fun x => { x with st := x.endSt, cmd := none }) (run (freeReqHoldings i) s))) := by
  rw [requestReleaseA, run_dyn, if_pos ⟨hd, by rw [hs]; rfl⟩]
  rfl

theorem readers_requestReleaseA {i : Nat} {s : State} (hd : (s.req i).st = .draining) (hs : s.stillServed i = false) :
    let x := s.req i
    let t := run (requestReleaseA i) s
    t.req i = { x.emptied with st := x.endSt, cmd := none } ∧
      ∀ id st, x.cmd = some id → x.endSt = .done → x.finalStatus = Status.code st → s.answered t id st i x.detail := by
  intro x t
  have w₁ := w_freeReqHoldings i
  have w₂ := w_modReq_only i fun x => { x with st := x.endSt, cmd := none }
  have w₃ : (when' (decide (x.endSt ≠ .done)) (cancelRequestWork i)).Within ft_settleIq :=
    within_when' (w_cancelRequestWork i)
  have w₄ : (withSome x.cmd fun id => completeCode id x.finalStatus i x.detail).Within ft_completeCode :=
    within_withSome fun id _ => w_completeCode ..
  have ht : t = _ := run_requestReleaseA hd hs
  constructor
  · rw [ht, keep_req w₄ (by decide), keep_req w₃ (by decide), req_modReq, if_pos rfl, req_freeReqHoldings, if_pos rfl]
    rfl
  · intro id st hid hdone hst
    rw [ht, hid, run_withSome_some, hdone, hst]
    exact answered_before w₁ (answered_before w₂ (answered_complete id st i x.detail _))

/-- Settles O31: each part of the course of a request by the state in which it finds it. -/
theorem requestCourse : Obligations.RequestCourse := by
  unfold Obligations.RequestCourse
  refine ⟨fun svc s => ⟨fun h => gives_of_exec (a := prefillStartA svc.val) rfl (run_prefillStartA_idle h),
      fun i r h hs hi hp => ⟨fun hf => ?noRoom, fun hf => ?starts⟩⟩,
    fun load s id i c hdone hcmd hc hop hp hreqs hcause hrun htorn hforce hscan hst hph => ?prefillEnd,
    fun req s => ⟨fun h => gives_of_exec (a := handoverA req.val) rfl (run_handoverA_idle h),
      fun hp hs => gives_of_exec (a := handoverA req.val) rfl (readers_handoverA hp hs)⟩,
    fun load s => ⟨fun h => gives_of_exec (a := decodeStepA load.val) rfl (run_decodeStepA_none h), fun v r hd =>
      ⟨fun h => gives_of_exec (a := decodeStepA load.val) rfl (run_decodeStepA_idle hd h), fun hrs hstep hrepl => ?step⟩⟩,
    fun req s => ⟨fun h => gives_of_exec (a := parkDoneA req.val) rfl (run_parkDoneA_idle h), fun hp hs => ?parked,
      fun h => gives_of_exec (a := fetchDoneA req.val) rfl (run_fetchDoneA_idle h), fun hp hs hc hk => ?fetched,
      fun h => gives_of_exec (a := requestReleaseA req.val) rfl (run_requestReleaseA_idle h), fun hd hs => ?released⟩⟩
  case noRoom =>
    exact gives_of_exec (a := prefillStartA svc.val) rfl ((run_prefillStartA hs hi hp).trans (if_neg (by simp [hf])))
  case starts =>
    refine gives_of_exec (a := prefillStartA svc.val) rfl ?_
    rw [run_prefillStartA hs hi hp, if_pos hf]
    exact readers_startPrefill (waiting_of_prefillPlace hp)
  case prefillEnd =>
    obtain ⟨hreq, hcmds, hsteps⟩ :=
      readers_completeA_prefill hdone hcmd hc hop hp hreqs hcause hrun htorn hforce hscan hph
    have hlive : (s.req i).live = true := by simp [Req.live, hst]
    have hnone : (s.afterCmd load.val id).cmd id = none := (applyUpd_cmd ..).trans (if_pos rfl)
    refine ⟨fun hx => gives_of_exec (a := completeA load.val true) rfl ?_,
      fun hx hl hr => gives_of_exec (a := completeA load.val true) rfl ?_,
      fun hx hl hloc => gives_of_exec (a := completeA load.val true) rfl ?_,
      fun hx hl hloc => gives_of_exec (a := completeA load.val true) rfl ?_⟩
    · rw [hreq, req_prefillDone_cancel (s := s.afterCmd load.val id) hlive hx]
      exact ⟨rfl, rfl⟩
    · rw [hreq, req_prefillDone_ends (s := s.afterCmd load.val id) hlive hx hl hr]
      exact ⟨rfl, rfl, rfl⟩
    · have wm := fun f => w_modReq_only i f
      rw [hreq, hcmds, run_prefillDone_handover (s := s.afterCmd load.val id) hx hl hloc, req_modReq, if_pos rfl,
        req_modReq, if_pos rfl, keep_cmd (wm _) (by decide), keep_cmd (wm _) (by decide), hnone]
      exact ⟨rfl, rfl, rfl⟩
    · obtain ⟨hdraw, hstep⟩ := readers_prefillDone_draw (s := s.afterCmd load.val id) hx hl hloc
      rw [hreq, hsteps, hdraw, hstep]
      exact ⟨rfl, rfl, rfl, rfl⟩
  case step =>
    obtain ⟨hsrv, hload, hcmd, hreq⟩ := readers_decodeStepA hd hrs hstep hrepl
    refine gives_of_exec (a := decodeStepA load.val) rfl ⟨hsrv, hload, hcmd, fun i hi => ?_⟩
    rw [hreq i hi]
    exact ⟨rfl, rfl, rfl, rfl, rfl⟩
  case parked =>
    obtain ⟨⟨n, hreq⟩, hans⟩ := readers_parkDoneA hp hs
    refine gives_of_exec (a := parkDoneA req.val) rfl ?_
    rw [hreq]
    exact ⟨rfl, rfl, rfl, rfl, hans⟩
  case fetched =>
    obtain ⟨n, hreq⟩ := req_fetchDoneA hp hs hc hk
    refine gives_of_exec (a := fetchDoneA req.val) rfl ?_
    rw [hreq]
    exact ⟨rfl, rfl, rfl, rfl⟩
  case released =>
    obtain ⟨hreq, hans⟩ := readers_requestReleaseA hd hs
    refine gives_of_exec (a := requestReleaseA req.val) rfl ?_
    rw [hreq]
    exact ⟨rfl, rfl, rfl, rfl, hans⟩

end Sys2Proof.Machine
end

section
/-!
SUPPORT. Chapter 07: what a step does to its requests, the evaluation of a candidate record, the commit of a token; O32.
-/

-- One declaration after another: side by side they take more memory than the check allows the whole text.
set_option Elab.async false

namespace Sys2Proof.Machine

/-! ### What a script does to requests -/

/-- A script changes no request outside `l`, and commits no token. -/
def Act.OnReqs (l : List Nat) (a : Act) : Prop :=
  ∀ s j, ((run a s).req j).committed = (s.req j).committed ∧ (j ∉ l → (run a s).req j = s.req j)

namespace Act.OnReqs

variable {l : List Nat} {a b : Act}

theorem of_within {p : Foot} (w : a.Within p) (h : Fld.srv .req ∉ p.flds := by decide) : a.OnReqs l := fun s j => by
  rw [keep_req w h]; exact ⟨rfl, fun _ => rfl⟩

theorem seq (ha : a.OnReqs l) (hb : b.OnReqs l) : (Act.seq a b).OnReqs l := fun s j => by
  obtain ⟨hac, hak⟩ := ha s j
  obtain ⟨hbc, hbk⟩ := hb (run a s) j
  exact ⟨hbc.trans hac, fun h => (hbk h).trans (hak h)⟩

theorem dyn {f : State → Act} (h : ∀ s, (f s).OnReqs l) : (Act.dyn f).OnReqs l := fun s => h s s

theorem withSome {α : Type} {o : Option α} {f : α → Act} (h : ∀ x, (f x).OnReqs l) : (withSome o f).OnReqs l := by
  cases o with
  | none => exact of_within .nop (p := { flds := [], regs := [] })
  | some x => exact h x

theorem each {rs : List Nat} {f : Nat → Act} (h : ∀ k ∈ rs, (f k).OnReqs l) : (each rs f).OnReqs l := by
  induction rs with
  | nil => exact of_within .nop (p := { flds := [], regs := [] })
  | cons k rs ih =>
    intro s j
    rw [run_each_cons]
    exact seq (h k List.mem_cons_self) (ih fun m hm => h m (List.mem_cons_of_mem k hm)) s j

theorem modReq {k : Nat} {f : Req → Req} (hk : k ∈ l) (hf : ∀ x, (f x).committed = x.committed) :
    (modReq k f).OnReqs l := fun s j => by
  rw [req_modReq]
  refine ⟨?_, fun hj => if_neg (ne_of_mem_of_not_mem hk hj).symm⟩
  split
  · next h => rw [hf, h]
  · rfl

theorem drainReq {k : Nat} (es : ReqState) (status : Nat) (hk : k ∈ l) : (drainReq k es status).OnReqs l := fun s j => by
  cases hl : (s.req k).live with
  | false => rw [run_drainReq_ended hl]; exact ⟨rfl, fun _ => rfl⟩
  | true =>
    rw [req_drainReq hl]
    refine ⟨?_, fun hj => if_neg (ne_of_mem_of_not_mem hk hj).symm⟩
    split
    · next h => rw [h]; rfl
    · rfl

theorem beginPark {k : Nat} (id : Nat) (hk : k ∈ l) : (beginPark k id).OnReqs l := dyn fun s => by
  dsimp only
  split
  · exact modReq hk fun _ => rfl
  · exact seq (modReq hk fun _ => rfl) (of_within (w_complete id .busy k 0))

theorem reqBoundary {k : Nat} (hk : k ∈ l) : (reqBoundary k).OnReqs l := dyn fun s => by
  dsimp only
  split
  · exact drainReq _ _ hk
  · exact withSome fun id => beginPark id hk

end Act.OnReqs

/-- The end of a step changes only the requests that are in it. -/
theorem onReqs_endStep {key : Nat} {st : SrvStep} {s : State} (h : s.srvStep key = some st) (j : Nat) :
    ((run (endStep key) s).req j).committed = (s.req j).committed ∧
      (s.inStep j = false → (run (endStep key) s).req j = s.req j) := by
  have ws : (Act.upd (.srvStep key none)).Within ft_modStep := within_upd ⟨_, rfl, by decide⟩
  obtain ⟨hc, hk⟩ := Act.OnReqs.seq (l := st.reqs.filter s.inStep) (.of_within ws)
    (.seq (.each fun k hk => .seq (.modReq (f := fun x => { x with
      ph := .idle, st := .decode, due := [], drawn := [], drafts := [], prov := 0, decided := false, wide := false }) hk
      fun _ => rfl) (.reqBoundary hk)) (.of_within w_settleSrv)) s j
  rw [endStep, run_dyn, h, run_withSome_some]
  exact ⟨hc, fun hn => hk fun hm => by simp [hn] at hm⟩

/-- Going on with a step changes only the requests that are in it, and commits nothing. -/
theorem onReqs_advanceStep (key : Nat) (s : State) (j : Nat) :
    ((run (advanceStep key) s).req j).committed = (s.req j).committed ∧
      (s.inStep j = false → (run (advanceStep key) s).req j = s.req j) := by
  rw [advanceStep, run_dyn]
  cases hst : s.srvStep key with
  | none => exact ⟨rfl, fun _ => rfl⟩
  | some st =>
    rw [run_withSome_some]
    dsimp only
    split
    · exact ⟨rfl, fun _ => rfl⟩
    · split
      · have w₁ := w_modStep key fun t => { t with ph := .wide }
        obtain ⟨hc, hk⟩ := Act.OnReqs.seq (l := (st.reqs.filter s.inStep).filter fun i => (s.req i).wide) (.of_within w₁)
          (.seq (.each fun k hk => .modReq (f := fun x => { x with
            wide := false, drawn := [], due := (List.range (x.drafts.length + 1)).map (fun j => x.committed + j) }) hk
            fun _ => rfl) (.of_within (w_issueServe opWIDE (s.svcHead st.svc) st.svc key
              ((st.reqs.filter s.inStep).filter fun i => (s.req i).wide)))) s j
        exact ⟨hc, fun hn => hk fun hm => by simp [hn] at hm⟩
      · exact onReqs_endStep hst j

/-- A step whose command runs goes on later. -/
theorem run_advanceStep_running {key id : Nat} {st : SrvStep} {s : State} (h : s.srvStep key = some st)
    (hc : st.cmd = some id) : run (advanceStep key) s = s := by
  simp only [advanceStep, run_dyn, h, run_withSome_some, hc, Option.isSome_some, Bool.true_or, if_true, run_nop]

/-! ### The evaluation of a record (R266, R269, R368) -/

/-- The incident of a record that fails its checks. -/
def recordFault (x : Req) : Inc :=
  { cls := .B, blk := blkSMP, code := 2, status := Status.poisoned.code, tenant := some x.tenant }

/-- The incident of a sampler's lane fault. -/
def laneFaultInc (x : Req) : Inc :=
  { cls := .B, blk := blkINT, code := 1, status := Status.residueMismatch.code, tenant := some x.tenant }

/-- What an incident of the samplers or of their lanes may change. -/
def ft_recordInc : Foot := { flds := footLog.flds, regs := footLog.regs ++ [rSMP_ERR, rINT_ERR] }

theorem w_recordFault (x : Req) : (incident (recordFault x)).Within ft_recordInc :=
  w_incident _ (by decide) (errOk_any (blk := blkSMP) (by decide))

theorem w_laneFaultInc (x : Req) : (incident (laneFaultInc x)).Within ft_recordInc :=
  w_incident _ (by decide) (errOk_any (blk := blkINT) (by decide))

/-- A request whose records come again, widened. -/
def Req.widening (x : Req) : Req := { x with wide := true, drawn := [], due := [] }

section

variable {i : Nat} {rec : List Token} {lf : Bool} {s : State}

theorem run_evaluateRecord_bad (h : s.recordOk (s.req i) rec = false) : run (evaluateRecord i rec lf) s =
    run (drainReq i .faulted Status.poisoned.code) (run (incident (recordFault (s.req i))) s) := by
  simp only [evaluateRecord, run_dyn, h, Bool.not_false, if_true, run_seq]
  rfl

theorem run_evaluateRecord_short (h : s.recordOk (s.req i) rec = true) (hs : s.sufficient (s.req i) rec = false) :
    run (evaluateRecord i rec lf) s = run (modReq i Req.widening) (run (addFld rSMP_STAT 63 32 1) s) := by
  simp only [evaluateRecord, run_dyn, h, hs, Bool.not_false, Bool.not_true, Bool.false_eq_true, if_false, if_true, run_seq]
  rfl

variable (h : s.recordOk (s.req i) rec = true) (hs : s.sufficient (s.req i) rec = true)

include h hs

theorem run_evaluateRecord_laneFault : run (evaluateRecord i rec true) s =
    run (drainReq i .faulted Status.residueMismatch.code) (run (incident (laneFaultInc (s.req i))) s) := by
  simp only [evaluateRecord, run_dyn, h, hs, Bool.not_true, Bool.false_eq_true, if_false, if_true, run_seq]
  rfl

theorem run_evaluateRecord_draws :
    run (evaluateRecord i rec false) s = run (takeDraw i (s.drawFrom (s.req i) rec) rec) s := by
  simp only [evaluateRecord, run_dyn, h, hs, Bool.not_true, Bool.false_eq_true, if_false]

end

/-! ### CANDIDATE_RECORD -/

/-- The command of the step that serves request `i` is in progress. -/
def State.stepRuns (s : State) (i : Nat) : Prop :=
  ∃ key st id, s.stepOfReq i = some key ∧ s.srvStep key = some st ∧ st.cmd = some id

theorem run_candidateA_idle {rec : List Token} {lf : Bool} {s : State}
    (h : s.freeSampler = none ∨ s.halted = true ∨ s.inStep (crREQ (recHeader rec)) = false ∨
      (s.req (crREQ (recHeader rec))).due = []) : run (candidateA rec lf) s = s := by
  rw [candidateA, run_dyn]
  refine congrArg (fun a => run a s) (if_neg ?_)
  rcases h with h | h | h | h <;> simp [h]

section

variable {i : Nat} {rec : List Token} {lf : Bool} {s : State} (hi : i = crREQ (recHeader rec))
  (hf : s.freeSampler.isSome = true) (hh : s.halted = false) (hstep : s.inStep i = true) (hdue : (s.req i).due ≠ [])

include hi hf hh hstep hdue

theorem run_candidateA : run (candidateA rec lf) s =
    run (withSome (s.stepOfReq i) advanceStep) (run (evaluateRecord i rec lf) s) := by
  subst hi
  rw [candidateA, run_dyn]
  exact congrArg (fun a => run a s) (if_pos (by simp [hf, hh, hstep, hdue]))

theorem run_candidateA_running (hr : s.stepRuns i) : run (candidateA rec lf) s = run (evaluateRecord i rec lf) s := by
  obtain ⟨key, st, id, hkey, hst, hcmd⟩ := hr
  rw [run_candidateA hi hf hh hstep hdue, hkey, run_withSome_some]
  exact run_advanceStep_running ((keep_srvStep (w_evaluateRecord i rec lf) (by decide) s key).trans hst) hcmd

/-- The step that a record lets go on commits nothing, and leaves a request that is no longer in it. -/
theorem req_candidateA : ((run (candidateA rec lf) s).req i).committed = ((run (evaluateRecord i rec lf) s).req i).committed ∧
    ((run (evaluateRecord i rec lf) s).inStep i = false →
      (run (candidateA rec lf) s).req i = (run (evaluateRecord i rec lf) s).req i) := by
  rw [run_candidateA hi hf hh hstep hdue]
  cases s.stepOfReq i with
  | none => exact ⟨rfl, fun _ => rfl⟩
  | some key => exact onReqs_advanceStep key _ i

/-- What the step that goes on does not write is as the evaluation of the record left it. -/
theorem reg_candidateA (off : Nat) (ho : off < 2 ^ 24) (hn : off ∉ ft_advanceStep.regs) (hi' lo k : Nat) :
    (run (candidateA rec lf) s).fld off hi' lo k = (run (evaluateRecord i rec lf) s).fld off hi' lo k := by
  rw [run_candidateA hi hf hh hstep hdue]
  exact keep_fld (within_withSome fun key _ => w_advanceStep key) off hi' lo k ho hn _

/-- A record that faults its request ends it, whatever becomes of the step. -/
theorem req_candidateA_fault {p : Foot} {x : Inc} {status : Nat} (hl : (s.req i).live = true) (w : (incident x).Within p)
    (hp : Fld.srv .req ∉ p.flds)
    (he : run (evaluateRecord i rec lf) s = run (drainReq i .faulted status) (run (incident x) s)) :
    (run (candidateA rec lf) s).req i = (s.req i).drained .faulted status := by
  have hreq : ∀ j, (run (incident x) s).req j = s.req j := keep_req w hp s
  have hend : (run (evaluateRecord i rec lf) s).req i = (s.req i).drained .faulted status := by
    rw [he, req_drainReq (by rw [hreq]; exact hl), if_pos rfl, hreq]
  rw [(req_candidateA hi hf hh hstep hdue).2 (by rw [State.inStep, hend]; rfl), hend]

theorem readers_candidateA_bad (hl : (s.req i).live = true) (h : s.recordOk (s.req i) rec = false) :
    let t := run (candidateA rec lf) s
    t.flag rSMP_ERR 2 = true ∧ t.req i = (s.req i).drained .faulted Status.poisoned.code := by
  intro t
  have he := run_evaluateRecord_bad (lf := lf) h
  have herr : (run (incident (recordFault (s.req i))) s).flag rSMP_ERR 2 = true :=
    flag_incident_err _ rfl (show (2 : Nat) ≠ 0xFF by decide) (show covers rSMP_ERR 2 2 = true by decide) (by decide)
      (by decide) s
  refine ⟨?_, req_candidateA_fault hi hf hh hstep hdue hl (w_recordFault _) (by decide) he⟩
  rw [show t = _ from run_candidateA hi hf hh hstep hdue,
    keep_flag (within_withSome fun key _ => w_advanceStep key) rSMP_ERR 2 0 (by decide) (by decide), he,
    keep_flag (w_drainReq ..) rSMP_ERR 2 0 (by decide) (by decide), herr]

theorem req_candidateA_laneFault (hl : (s.req i).live = true) (h : s.recordOk (s.req i) rec = true)
    (hs : s.sufficient (s.req i) rec = true) :
    (run (candidateA rec true) s).req i = (s.req i).drained .faulted Status.residueMismatch.code :=
  req_candidateA_fault hi hf hh hstep hdue hl (w_laneFaultInc _) (by decide)
    (run_evaluateRecord_laneFault h hs)

/-- A record that is not sufficient is counted; the request awaits the widened command, once the step's ends. -/
theorem readers_candidateA_short (h : s.recordOk (s.req i) rec = true) (hs : s.sufficient (s.req i) rec = false) :
    let t := run (candidateA rec lf) s
    t.fld rSMP_STAT 63 32 = sat 32 (s.fld rSMP_STAT 63 32 + 1) ∧ (t.req i).committed = (s.req i).committed ∧
      (s.stepRuns i → t.req i = (s.req i).widening) := by
  intro t
  have he := run_evaluateRecord_short (lf := lf) h hs
  have wm := w_modReq_only i Req.widening
  have wa : (addFld rSMP_STAT 63 32 1).Within { flds := [], regs := [rSMP_STAT] } :=
    within_addFld _ _ _ _ (by decide) (by decide)
  have hreq : (run (evaluateRecord i rec lf) s).req i = (s.req i).widening := by
    rw [he, req_modReq, if_pos rfl, keep_req wa (by decide)]
  refine ⟨?_, ?_, fun hr => ?_⟩
  · rw [reg_candidateA hi hf hh hstep hdue _ (by decide) (by decide), he,
      keep_fld wm rSMP_STAT 63 32 0 (by decide) (by decide), fld_addFld _ _ _ _ _ _ (by decide) (by decide)]
  · rw [(req_candidateA hi hf hh hstep hdue).1, hreq]
    rfl
  · rw [show t = _ from run_candidateA_running hi hf hh hstep hdue hr, hreq]

end

/-! ### The commit of a token (R264, R272, R275) -/

theorem length_insertBy {α : Type} (key : α → Nat) (x : α) (l : List α) : (insertBy key x l).length = l.length + 1 := by
  induction l with
  | nil => rfl
  | cons y l ih =>
    unfold insertBy
    split
    · rfl
    · rw [List.length_cons, ih, List.length_cons]

/-- A penalty list holds at most 1024 entries. -/
theorem length_penAdd {l : List (Nat × Nat)} (h : l.length ≤ 1024) (tok : Nat) : (penAdd l tok).1.length ≤ 1024 := by
  unfold penAdd
  split
  · rwa [List.length_map]
  · split
    · rw [length_insertBy]; omega
    · exact h

/-- The penalty list of request `x` after a token, and whether it was full for it. -/
def State.penAfter (s : State) (x : Req) (tok : Nat) : List (Nat × Nat) × Bool :=
  penAddAll (s.penEntries x.penList x.penLen) [tok]

/-- A penalty list as it lies in memory. -/
def penBytes (l : List (Nat × Nat)) : List Byte := l.flatMap fun e => leBytes 4 (e.1 * 256 + e.2)

theorem length_penBytes (l : List (Nat × Nat)) : (penBytes l).length = 4 * l.length := by
  induction l with
  | nil => rfl
  | cons e l ih =>
    rw [penBytes, List.flatMap_cons, List.length_append, length_leBytes, List.length_cons]
    rw [penBytes] at ih
    omega

theorem length_penBytes_penAfter {s : State} {x : Req} (h : x.penLen ≤ 1024) (tok : Nat) :
    (penBytes (s.penAfter x tok).1).length ≤ 4096 := by
  have hlen : (s.penEntries x.penList x.penLen).length ≤ 1024 := by
    rw [State.penEntries, List.length_map, List.length_range]; exact h
  have := length_penAdd hlen tok
  rw [length_penBytes]
  exact Nat.mul_le_mul_left 4 this

/-- A request that has committed `n` positions, its step decided. -/
def Req.committing (x : Req) (n : Nat) (pen : List (Nat × Nat) × Bool) (drafts : List Nat) : Req :=
  { x with
    committed := n, prov := 0, due := [], drawn := [], decided := true, proposed := drafts, penLen := pen.1.length,
    penFull := x.penFull || pen.2 }

/-- Where the token record of the next position of request `x` lies. -/
def Req.recordAt (x : Req) : Nat := x.out + 16 * (1 + x.committed - x.promptEnd)

section

variable {i : Nat} {d : Nat × Nat} {drafts : List Nat} {s : State} (he : d.1 ≠ s.svcEos (s.req i).svc)
  (hl : (s.req i).committed + 1 ≠ (s.req i).limit) (hdr : (s.req i).drafts = [])

include he hl hdr

/-- A step of one token that ends neither at LIMIT nor with EOS. -/
theorem run_commitTokens_one : run (commitTokens i [d] drafts) s =
    run (modReq i fun x => x.committing ((s.req i).committed + 1) (s.penAfter (s.req i) d.1) drafts)
      (run (writeBytes (s.req i).penList (penBytes (s.penAfter (s.req i) d.1).1))
        (run (writeBytes (s.req i).recordAt
          (tokenRecord (s.req i).committed d.1 d.2 (recordFlags false false false (s.req i).widened))) s)) := by
  have hr : (List.range 1).zip [d] = [(0, d)] := rfl
  simp only [commitTokens, run_dyn, run_seqs_cons, run_seqs_nil, hr, run_each_cons, run_each_nil, List.length_singleton, he,
    hl, hdr, decide_false, List.any_cons, List.any_nil, Bool.or_self, Bool.false_and, run_when', Bool.false_eq_true,
    if_false, Nat.add_zero, List.getElem?_nil, reduceCtorEq]
  rfl

theorem req_commitTokens_one : (run (commitTokens i [d] drafts) s).req i =
    (s.req i).committing ((s.req i).committed + 1) (s.penAfter (s.req i) d.1) drafts := by
  rw [run_commitTokens_one he hl hdr, req_modReq, if_pos rfl, keep_req (w_writeBytes _ _) (by decide),
    keep_req (w_writeBytes _ _) (by decide)]

/-- The token record stays where the penalty list, which is written after it, lies elsewhere. -/
theorem record_commitTokens_one (hp : (s.req i).penLen ≤ 1024)
    (ha : (s.req i).recordAt + 16 ≤ (s.req i).penList ∨ (s.req i).penList + 4096 ≤ (s.req i).recordAt) :
    (run (commitTokens i [d] drafts) s).bytes (s.req i).recordAt 16 =
      tokenRecord (s.req i).committed d.1 d.2 (recordFlags false false false (s.req i).widened) := by
  set bs := tokenRecord (s.req i).committed d.1 d.2 (recordFlags false false false (s.req i).widened) with hbs
  have hlen : bs.length = 16 := by simp [hbs, tokenRecord, length_leBytes]
  have hpen := length_penBytes_penAfter (s := s) hp d.1
  have hrec := bytes_writeBytes (s.req i).recordAt bs s
  rw [hlen] at hrec
  rw [run_commitTokens_one he hl hdr, keep_bytes (w_modReq_only i _) (by decide), ← hrec]
  exact bytes_congr fun j _ _ => byte_writeBytes_other (by omega) _

end

/-- A draw of a request without drafts is committed. -/
theorem run_takeDraw_commits {i : Nat} {d : Nat × Nat} {rec : List Token} {s : State} (hdr : (s.req i).drafts = [])
    (hdn : (s.req i).drawn = []) : run (takeDraw i d rec) s = run (commitTokens i [d] (recDrafts rec))
      (run (modReq i fun x => { x with widened := crPENALISED (recHeader rec) }) s) := by
  simp only [takeDraw, run_dyn, hdr, hdn, List.getElem?_nil, reduceCtorEq, decide_false, Bool.false_and, Bool.false_eq_true,
    if_false, run_seq, List.nil_append]

section

variable {i : Nat} {rec : List Token} {s : State} (hi : i = crREQ (recHeader rec))
  (hf : s.freeSampler.isSome = true) (hh : s.halted = false) (hstep : s.inStep i = true) (hdue : (s.req i).due ≠ [])
  (hok : s.recordOk (s.req i) rec = true) (hs : s.sufficient (s.req i) rec = true) (hr : s.stepRuns i)
  (hdn : (s.req i).drawn = []) (hdr : (s.req i).drafts = [])
  (he : (s.drawFrom (s.req i) rec).1 ≠ s.svcEos (s.req i).svc) (hl : (s.req i).committed + 1 ≠ (s.req i).limit)

include hi hf hh hstep hdue hok hs hr hdn hdr he hl

/-- A record at a step of one token commits the token that it draws. -/
theorem readers_candidateA_draws : let t := run (candidateA rec false) s
    let x := s.req i
    let d := s.drawFrom x rec
    (t.req i).committed = x.committed + 1 ∧ (t.req i).proposed = recDrafts rec ∧ (t.req i).due = [] ∧
      (x.penLen ≤ 1024 → (x.recordAt + 16 ≤ x.penList ∨ x.penList + 4096 ≤ x.recordAt) → t.bytes x.recordAt 16 =
        tokenRecord x.committed d.1 d.2 (recordFlags false false false (crPENALISED (recHeader rec)))) := by
  intro t x d
  set s₁ := run (modReq i fun x => { x with widened := crPENALISED (recHeader rec) }) s with hs₁
  have hreq : s₁.req i = { x with widened := crPENALISED (recHeader rec) } := (req_modReq ..).trans (if_pos rfl)
  have he₁ : d.1 ≠ s₁.svcEos (s₁.req i).svc := by rw [hreq]; exact he
  have hl₁ : (s₁.req i).committed + 1 ≠ (s₁.req i).limit := by rw [hreq]; exact hl
  have hdr₁ : (s₁.req i).drafts = [] := by rw [hreq]; exact hdr
  have ht : t = run (commitTokens i [d] (recDrafts rec)) s₁ := by
    rw [show t = _ from run_candidateA_running hi hf hh hstep hdue hr, run_evaluateRecord_draws hok hs,
      run_takeDraw_commits hdr hdn]
  have hreq' := req_commitTokens_one (drafts := recDrafts rec) he₁ hl₁ hdr₁
  have hrec := record_commitTokens_one (drafts := recDrafts rec) he₁ hl₁ hdr₁
  rw [hreq] at hreq' hrec
  rw [ht, hreq']
  exact ⟨rfl, rfl, rfl, hrec⟩

end

/-- Settles O32: a record by the checks that it meets. -/
theorem candidateRecords : Obligations.CandidateRecords := by
  unfold Obligations.CandidateRecords
  intro rec lf s i x runs
  refine ⟨fun h => gives_of_exec (a := candidateA rec lf) rfl (run_candidateA_idle h),
    fun hf hh hstep hdue => ⟨fun h hl => ?bad, fun h hs => ?short, fun h hs => ⟨fun hlf hl => ?fault,
      fun hlf hr hdn hdr he hlim => ?draws⟩⟩⟩
  case bad =>
    obtain ⟨herr, hreq⟩ := readers_candidateA_bad (lf := lf) rfl hf hh hstep hdue hl h
    refine gives_of_exec (a := candidateA rec lf) rfl ⟨herr, ?_⟩
    rw [hreq]
    exact ⟨rfl, rfl, rfl⟩
  case short =>
    obtain ⟨hstat, hcom, hwide⟩ := readers_candidateA_short (lf := lf) rfl hf hh hstep hdue h hs
    exact gives_of_exec (a := candidateA rec lf) rfl ⟨hstat, hcom, fun hr => by rw [hwide hr]; exact ⟨rfl, rfl⟩⟩
  case fault =>
    subst hlf
    refine gives_of_exec (a := candidateA rec true) rfl ?_
    rw [req_candidateA_laneFault rfl hf hh hstep hdue hl h hs]
    exact ⟨rfl, rfl, rfl⟩
  case draws =>
    subst hlf
    exact gives_of_exec (a := candidateA rec false) rfl
      (readers_candidateA_draws rfl hf hh hstep hdue h hs hr hdn hdr he hlim)

end Sys2Proof.Machine
end

section
/-!
SUPPORT. Chapter 07: a service that becomes READY, and the reserved bits of its configuration; O28.
-/

-- One declaration after another: side by side they take more memory than the check allows the whole text.
set_option Elab.async false

namespace Sys2Proof.Machine

/-! ### A service that is on becomes READY (R244) -/

/-- SRV_SVC_CFG of a service that becomes READY: its state is written, and with it every reserved bit is zero (R13). -/
theorem reg_svcReady {k : Nat} {s : State} (h : s.svcOk k = true) : (run (svcReady k) s).reg rSRV_SVC_CFG k =
    BitVec.ofNat 64 (setBits 63 61 (s.reg rSRV_SVC_CFG k).toNat (4 + svcREADY) &&& regMask rSRV_SVC_CFG) := by
  set s₁ := run (setFld rSRV_SVC_CFG 63 61 (4 + svcREADY) k) s with hs₁
  have wu : ∀ cs, (Act.upd (.svcPins k cs)).Within { flds := [.srv .svcPins], regs := [] } := fun _ =>
    within_upd ⟨_, rfl, by decide⟩
  have wpins : ∀ cs, (seqs [.upd (.svcPins k cs), each cs pinCopy]).Within
      (ft_setObj.add { flds := [.srv .svcPins], regs := [] }) := fun cs =>
    .seq ((wu cs).mono (by decide)) ((within_each cs w_pinCopy).mono (by decide))
  have hrun : run (svcReady k) s = run (seqs [.upd (.svcPins k (s.svcCopies k)), each (s.svcCopies k) pinCopy]) s₁ := by
    rw [svcReady, run_dyn, if_pos h]
    rfl
  have hkeep := ((wpins (s.svcCopies k)).frame s₁).2.2.2 rSRV_SVC_CFG k (by decide) (by decide)
  have hset : s₁.reg rSRV_SVC_CFG k = BitVec.ofNat 64
      (setBits 63 61 (s.reg rSRV_SVC_CFG k).toNat (4 + svcREADY) &&& regMask rSRV_SVC_CFG) := by
    rw [hs₁, setFld, run_dyn, run_upd, applyUpd_reg_reg _ _ _ _ _ _ (by decide) (by decide), if_pos ⟨rfl, rfl⟩]
  rw [hrun, hkeep, hset]

/-- READY written to a service that is on, not yet READY and fit. -/
theorem run_writeSvcCfg_ready {k w : Nat} {s : State} (hw : w.testBit 63 = true) (hst : bits 62 61 w = svcREADY)
    (hon : s.svcOn k = true) (hn : s.svcState k ≠ svcREADY) : run (writeSvcCfg k w) s = run (svcReady k) s := by
  simp only [writeSvcCfg, run_dyn, hw, hst, hon, hn, Bool.not_true, Bool.false_eq_true, if_false, if_true]

/-! ### A configuration with a reserved bit -/

/-- What service 0 of tenant 0 needs, split over a group of no bays: load 0 for its heads, copy 0 for parking. -/
def fitParts : Act :=
  seqs [
    setObj 0 { tier := 2, whole := true, writable := true },
    .upd (.tenant 0 { st := .enabled }),
    .upd (.load 0 { st := .ready, image := { kind := 3 } }),
    setReg rSRV_SVC_SHAPE (place 36 25 64),
    setReg rSRV_SVC_TOKENS 64,
    setReg rEXH_SPLIT_CTL (2 ^ 63)]

/-- SRV_SVC_CFG of that service on STANDBY, with reserved bit 40 set. -/
def markedCfg : Word := BitVec.ofNat 64 (place 63 61 (4 + svcSTANDBY) + 2 ^ 59 + 2 ^ 40)

/-- That service in a state that is not `State.clean`. -/
def markedState : State :=
  let s := run fitParts State.reset
  { s with regs := tset regReset s.regs (regKey rSRV_SVC_CFG 0) markedCfg }

theorem reg_markedState : markedState.reg rSRV_SVC_CFG 0 = markedCfg :=
  (tget_tset regReset _ _ _ _).trans (if_pos rfl)

theorem markedState_fit : markedState.svcOn 0 = true ∧ markedState.svcState 0 ≠ svcREADY ∧ markedState.svcOk 0 = true := by
  decide

theorem markedState_taken : markedState.taken := by unfold State.taken; decide

/-- What SVC_ENABLE_READY leaves of that configuration. -/
theorem run_svcEnableReady_marked :
    exec (.svcEnableReady 0 0) markedState = .next (run (svcReady 0) markedState) := by
  obtain ⟨hon, hn, -⟩ := markedState_fit
  have hres : run (reservedLogged rSRV_SVC_CFG 0) markedState = markedState := by
    rw [reservedLogged, Nat.zero_and, run_when']
    rfl
  have hrun := run_regDo_taken (i := .svcEnableReady 0 0) (off := rSRV_SVC_CFG) (v := 0)
    (f := fun w => writeSvcCfg 0 (setBits 63 61 w (4 + svcREADY))) markedState_taken
  rw [hres, Nat.zero_and, run_writeSvcCfg_ready (by decide) (by decide) hon hn] at hrun
  exact congrArg Host.Outcome.next hrun

/-- Refutes O28: SRV_SVC_CFG of a service on STANDBY holds a reserved bit, which SVC_ENABLE_READY clears, so that bits
60:0 are not the ones before. The statement speaks of every state; this one no run reaches, since it is not
`State.clean`. -/
theorem not_services : ¬ Obligations.Services := by
  unfold Obligations.Services
  intro h
  obtain ⟨hon, hn, hok⟩ := markedState_fit
  obtain ⟨t, ht, -, hkept⟩ := (h.1 0 0 markedState markedState_taken).2.2.2.1 hon hn hok
  obtain rfl : run (svcReady 0) markedState = t := Host.Outcome.next.inj (run_svcEnableReady_marked.symm.trans ht)
  change bits 60 0 ((run (svcReady 0) markedState).reg rSRV_SVC_CFG 0).toNat =
    bits 60 0 (markedState.reg rSRV_SVC_CFG 0).toNat at hkept
  rw [reg_svcReady hok, reg_markedState] at hkept
  exact absurd hkept (by decide)

end Sys2Proof.Machine
end

section
/-!
SUPPORT. Chapter 09: the bytes of a flit, and what a port that sends changes.
-/

-- One declaration after another: side by side they take more memory than the check allows the whole text.
set_option Elab.async false

namespace Sys2Proof.Machine

/-! ### Slices and patches of bytes -/

theorem length_byteSlice (bs : List Byte) (off n : Nat) : (byteSlice bs off n).length = n := by
  simp only [byteSlice, List.length_append, List.length_replicate, List.length_take, List.length_drop]
  omega

/-- A byte of a slice. -/
theorem getD_byteSlice (bs : List Byte) (off n i : Nat) :
    (byteSlice bs off n).getD i 0 = if i < n then bs.getD (off + i) 0 else 0 := by
  simp only [byteSlice, List.getD_eq_getElem?_getD, List.getElem?_append, List.getElem?_take, List.getElem?_drop,
    List.getElem?_replicate, List.length_take, List.length_drop]
  by_cases hi : i < n <;> by_cases hl : off + i < bs.length
  · simp [hi, show i < min n (bs.length - off) by omega]
  · simp [hi, show ¬ i < min n (bs.length - off) by omega, List.getElem?_eq_none (Nat.le_of_not_lt hl)]
    split <;> rfl
  · simp [hi, show ¬ i < min n (bs.length - off) by omega, show ¬ i - min n (bs.length - off) < n - min n (bs.length - off) by omega]
  · simp [hi, show ¬ i < min n (bs.length - off) by omega, show ¬ i - min n (bs.length - off) < n - min n (bs.length - off) by omega]

/-- Lists of one length whose bytes agree are equal. -/
theorem bytes_ext {a b : List Byte} (hl : a.length = b.length) (h : ∀ i, i < a.length → a.getD i 0 = b.getD i 0) : a = b := by
  refine List.ext_getElem hl fun i ha hb => ?_
  simpa [List.getD_eq_getElem?_getD, ha, hb] using h i ha

/-- Slices of lists that agree on the bytes they take are equal. -/
theorem byteSlice_congr {a b : List Byte} {o o' n : Nat} (h : ∀ i, i < n → a.getD (o + i) 0 = b.getD (o' + i) 0) :
    byteSlice a o n = byteSlice b o' n := by
  refine bytes_ext (by rw [length_byteSlice, length_byteSlice]) fun i hi => ?_
  rw [length_byteSlice] at hi
  rw [getD_byteSlice, getD_byteSlice, if_pos hi, if_pos hi, h i hi]

theorem leAt_congr {a b : List Byte} {o o' n : Nat} (h : ∀ i, i < n → a.getD (o + i) 0 = b.getD (o' + i) 0) :
    leAt a o n = leAt b o' n := by rw [leAt, leAt, byteSlice_congr h]

/-- A whole list is a slice of it. -/
theorem byteSlice_self {bs : List Byte} {n : Nat} (h : bs.length = n) : byteSlice bs 0 n = bs := by
  subst h
  simp [byteSlice]

theorem leAt_one (bs : List Byte) (o : Nat) : leAt bs o 1 = (bs.getD o 0).toNat := by
  have h : byteSlice bs o 1 = [bs.getD o 0] := by
    refine bytes_ext (length_byteSlice _ _ _) fun i hi => ?_
    rw [length_byteSlice] at hi
    obtain rfl : i = 0 := by omega
    rw [getD_byteSlice, if_pos hi]
    rfl
  rw [leAt, h, leNat, leNat, Nat.mul_zero, Nat.add_zero]

theorem leNat_of_leBytes {n v : Nat} (h : v < 256 ^ n) : leNat (leBytes n v) = v := by
  induction n generalizing v with
  | zero => simp only [Nat.pow_zero, Nat.lt_one_iff] at h; rw [h]; rfl
  | succ n ih =>
    rw [leBytes, leNat, ih (by rw [Nat.pow_succ] at h; omega), BitVec.toNat_ofNat]
    omega

/-- A byte after a patch. -/
theorem getD_patch {bs : List Byte} {off : Nat} (h : off ≤ bs.length) (x : List Byte) (i : Nat) :
    (patch bs off x).getD i 0 = if off ≤ i ∧ i < off + x.length then x.getD (i - off) 0 else bs.getD i 0 := by
  have htake : (bs.take off).length = off := List.length_take_of_le h
  simp only [patch, List.append_assoc, List.getD_eq_getElem?_getD, List.getElem?_append, htake]
  by_cases h1 : i < off
  · rw [if_pos h1, if_neg (by omega), List.getElem?_take, if_pos h1]
  · rw [if_neg h1]
    by_cases h2 : i - off < x.length
    · rw [if_pos h2, if_pos ⟨by omega, by omega⟩]
    · rw [if_neg h2, if_neg (by omega), List.getElem?_drop]
      congr 2
      omega

/-- A patch leaves a byte that lies outside it. -/
theorem getD_patch_other {bs x : List Byte} {off i : Nat} (h : off ≤ bs.length) (hd : i < off ∨ off + x.length ≤ i) :
    (patch bs off x).getD i 0 = bs.getD i 0 := by
  rw [getD_patch h, if_neg (by omega)]

theorem length_patch {bs x : List Byte} {off : Nat} (h : off + x.length ≤ bs.length) :
    (patch bs off x).length = bs.length := by
  simp only [patch, List.length_append, List.length_take, List.length_drop]
  omega

/-! ### The header fields of a flit (R329) -/

/-- TYPE, VC, ENC and SUB are read from the first two bytes. -/
theorem header_congr {f g : List Byte} (h0 : f.getD 0 0 = g.getD 0 0) (h1 : f.getD 1 0 = g.getD 1 0) :
    flTYPE f = flTYPE g ∧ flVC f = flVC g ∧ flSUB f = flSUB g := by
  simp only [flTYPE, flVC, flSUB, leAt_one, h0, h1, and_self]

theorem length_flitBytes (f : Flit) : (flitBytes f).length = 256 := length_leBytes 256 f.toNat

theorem length_mkFlit (ty sub : Nat) (body : List Byte) : (mkFlit ty sub body).length = 256 := length_byteSlice _ _ _

/-- The first two bytes of a flit that this module makes. -/
theorem getD_mkFlit_head (ty sub : Nat) (body : List Byte) :
    (mkFlit ty sub body).getD 0 0 = BitVec.ofNat 8 ty ∧ (mkFlit ty sub body).getD 1 0 = BitVec.ofNat 8 sub := by
  simp only [mkFlit, getD_byteSlice]
  exact ⟨rfl, rfl⟩

/-- The body of a flit that this module makes. -/
theorem getD_mkFlit_body (ty sub : Nat) (body : List Byte) {i : Nat} (h : 8 ≤ i) (hi : i < 256) :
    (mkFlit ty sub body).getD i 0 = body.getD (i - 8) 0 := by
  simp only [mkFlit, getD_byteSlice, if_pos hi, Nat.zero_add]
  have hl : (leBytes 1 ty ++ leBytes 1 sub ++ List.replicate 6 (0 : Byte)).length = 8 := by
    simp only [List.length_append, length_leBytes, List.length_replicate]
  rw [List.getD_eq_getElem?_getD, List.getElem?_append, hl, if_neg (by omega), ← List.getD_eq_getElem?_getD]

theorem header_mkFlit (ty sub : Nat) (body : List Byte) (ht : ty < 16) (hs : sub < 256) :
    flTYPE (mkFlit ty sub body) = ty ∧ flSUB (mkFlit ty sub body) = sub := by
  obtain ⟨h0, h1⟩ := getD_mkFlit_head ty sub body
  simp only [flTYPE, flSUB, leAt_one, h0, h1, BitVec.toNat_ofNat, bits, Nat.shiftRight_zero]
  omega

/-! ### What a port puts on the fibre (R330 to R332) -/

/-- The bytes of a flit as port `x` sends them, without the CRC: ACK and HCRED are made new. -/
def Port.onWire (x : Port) (f : List Byte) : List Byte :=
  let vc := ((List.range 4).find? (fun v => decide (0 < lget 0 x.freed v))).getD 0
  patch (byteSlice f 0 0xFC) 4 (leBytes 2 ((x.rx + 65535) % 65536)
    ++ leBytes 2 (vc * 2 ^ 14 + min (2 ^ 14 - 1) (lget 0 x.freed vc)))

theorem getD_onWire (x : Port) (f : List Byte) {i : Nat} (h : i < 4 ∨ 8 ≤ i) (hi : i < 0xFC) :
    (x.onWire f).getD i 0 = f.getD i 0 := by
  rw [Port.onWire, getD_patch_other (by rw [length_byteSlice]; omega)
    (by simp only [List.length_append, length_leBytes]; omega), getD_byteSlice, if_pos hi, Nat.zero_add]

theorem sentFlits_emit (p : Nat) (f : List Byte) (s : State) : (run (emit p f) s).sentFlits p =
    s.sentFlits p ++ [flitOf ((s.port p).onWire f ++ leBytes 4 (crc32 ((s.port p).onWire f)))] := by
  simp only [emit, run_dyn, run_seq, run_upd, modSentFlits, applyUpd_sentFlits, if_pos]
  rfl

/-- A flit that is sent is one more on its port. -/
theorem sentFlits_emit_grows (p : Nat) (f : List Byte) (s : State) :
    ∃ h, (run (emit p f) s).sentFlits p = s.sentFlits p ++ [h] := ⟨_, sentFlits_emit p f s⟩

/-- An unsequenced LINK flit as its partner reads it. -/
theorem sentFlits_sendFree_link (p sub : Nat) (body : List Byte) (s : State) (hs : sub < 256) :
    ∃ h, (run (sendFree p (mkFlit tyLINK sub body)) s).sentFlits p = s.sentFlits p ++ [flitOf (h ++ leBytes 4 (crc32 h))] ∧
      flTYPE h = tyLINK ∧ flSUB h = sub ∧ ∀ n, n ≤ 0xF4 → byteSlice h 8 n = byteSlice body 0 n := by
  set f := mkFlit tyLINK sub body with hf
  obtain ⟨ht, hsub⟩ := header_mkFlit tyLINK sub body (by decide) hs
  obtain ⟨hty, -, hsb⟩ := header_congr (getD_onWire (s.port p) f (i := 0) (by omega) (by omega))
    (getD_onWire (s.port p) f (i := 1) (by omega) (by omega))
  refine ⟨_, sentFlits_emit p f s, hty.trans ht, hsb.trans hsub, fun n hn => byteSlice_congr fun i hi => ?_⟩
  rw [getD_onWire _ _ (by omega) (by omega), hf, getD_mkFlit_body _ _ _ (by omega) (by omega)]
  congr 1
  omega

end Sys2Proof.Machine
end

section
/-!
SUPPORT. Chapter 09: module time and TIME_PPS; O42.
-/

set_option Elab.async false

namespace Sys2Proof.Machine

/-! ### A step of module time (R361) -/

/-- A value not below module time is taken at once. -/
theorem run_stepTime_up {n : Nat} {s : State} (h : s.now ≤ n) : run (stepTime (n : Int)) s =
    run (seqs [.upd (.now n), .upd (.timeBehind 0), .upd (.slewLeft 0), .upd (.slewFrac 0)]) s := by
  rw [stepTime, run_dyn, if_pos (by omega), Int.toNat_natCast]

/-- Module time slows down toward a value below it. -/
theorem run_stepTime_down {n : Nat} {s : State} (h : n < s.now) : run (stepTime (n : Int)) s =
    run (seqs [.upd (.timeBehind (4 * (s.now - n))), .upd (.timeLocked false), .upd (.slewLeft 0)]) s := by
  have hq : (4 * ((s.now : Int) - (n : Int))).toNat = 4 * (s.now - n) := by omega
  rw [stepTime, run_dyn, if_neg (by omega), hq]

/-! ### TIME_PPS (R361, R502) -/

/-- The second that TOP_TIME_SET names, in nanoseconds. -/
def State.ppsTarget (s : State) : Nat := (s.reg rTOP_TIME_SET).toNat * 1000000000

/-- This module steers module time by TIME_PPS. -/
def State.ppsSteers (s : State) : Bool := s.isRoot && s.flag rTOP_CTL 61

/-- The last edge lies within 0.9 s. -/
def State.ppsEarly (s : State) : Prop := ∃ n, s.ppsAt = some n ∧ s.now < n + 900000000

theorem run_ppsEdgeA_early {s : State} (h : s.ppsEarly) : run ppsEdgeA s = s := by
  obtain ⟨n, hn, hlt⟩ := h
  simp only [ppsEdgeA, run_dyn, hn, decide_eq_true hlt, if_true, run_nop]

/-- What an edge does at the root that follows it: module time goes to `n`, and TOP_TIME_SET counts on. -/
def ppsSteer (n : Nat) (s : State) : Act :=
  seqs [
    (if s.timeLocked then .upd (.slewLeft ((n : Int) - (s.now : Int)))
     else .seq (stepTime n) (whenS (fun t => decide (t.timeBehind = 0)) (.upd (.timeLocked true)))),
    setReg rTOP_TIME_SET ((s.reg rTOP_TIME_SET).toNat + 1)]

/-- An edge that is not early is noted, once a root that follows it has steered. -/
theorem run_ppsEdgeA {s : State} (h : ¬ s.ppsEarly) : run ppsEdgeA s =
    run (.dyn fun t => .upd (.ppsAt (some t.now))) (if s.ppsSteers then run (ppsSteer s.ppsTarget s) s else s) := by
  have hrun : run (.seq (if s.ppsSteers then ppsSteer s.ppsTarget s else .nop) (.dyn fun t => .upd (.ppsAt (some t.now)))) s =
      run (.dyn fun t => .upd (.ppsAt (some t.now))) (if s.ppsSteers then run (ppsSteer s.ppsTarget s) s else s) := by
    rw [run_seq, run_ite, run_nop]
  rw [← hrun]
  cases hp : s.ppsAt with
  | none =>
    simp only [ppsEdgeA, run_dyn, hp, Bool.false_eq_true, if_false]
    rfl
  | some n =>
    have hlate : ¬ s.now < n + 900000000 := fun hlt => h ⟨n, hp, hlt⟩
    simp only [ppsEdgeA, run_dyn, hp, decide_eq_false hlate, Bool.false_eq_true, if_false]
    rfl

theorem mask_timeSet (v : Nat) : v &&& regMask rTOP_TIME_SET = v % 2 ^ 64 := by
  rw [show regMask rTOP_TIME_SET = 2 ^ 64 - 1 by decide, Nat.and_two_pow_sub_one_eq_mod]

/-- TOP_TIME_SET counts on, over all its bits. -/
theorem timeSet_ppsSteer (n : Nat) (s : State) :
    ((run (ppsSteer n s) s).reg rTOP_TIME_SET).toNat = ((s.reg rTOP_TIME_SET).toNat + 1) % 2 ^ 64 := by
  rw [ppsSteer, run_seqs_cons, run_seqs_cons, run_seqs_nil, setReg_reg _ _ _ _ (by decide), mask_timeSet,
    BitVec.toNat_ofNat, Nat.mod_mod]

/-- A locked root only slews. -/
theorem readers_ppsSteer_locked (n : Nat) {s : State} (h : s.timeLocked = true) : let t := run (ppsSteer n s) s
    t.now = s.now ∧ t.slewLeft = (n : Int) - (s.now : Int) := by
  simp only [ppsSteer, h, if_true]
  exact ⟨rfl, rfl⟩

/-- An unlocked root steps up to the second named, and is locked. -/
theorem readers_ppsSteer_up {n : Nat} {s : State} (h : s.timeLocked = false) (hle : s.now ≤ n) :
    let t := run (ppsSteer n s) s
    t.now = n ∧ t.timeLocked = true ∧ t.timeBehind = 0 := by
  simp only [ppsSteer, h, Bool.false_eq_true, if_false, run_seqs_cons, run_seqs_nil, run_seq, run_stepTime_up hle, run_whenS]
  exact ⟨rfl, rfl, rfl⟩

/-- An unlocked root that is ahead of that second slows down, and is not locked. -/
theorem readers_ppsSteer_down {n : Nat} {s : State} (h : s.timeLocked = false) (hlt : n < s.now) :
    let t := run (ppsSteer n s) s
    t.now = s.now ∧ t.timeBehind = 4 * (s.now - n) ∧ t.timeLocked = false := by
  simp only [ppsSteer, h, Bool.false_eq_true, if_false, run_seqs_cons, run_seqs_nil, run_seq, run_stepTime_down hlt, run_whenS]
  have hb : (applyUpd (.slewLeft 0) (applyUpd (.timeLocked false)
      (applyUpd (.timeBehind (4 * (s.now - n))) s))).timeBehind = 4 * (s.now - n) := rfl
  rw [run_upd, run_upd, run_upd, hb, if_neg (by simp only [decide_eq_true_eq]; omega)]
  exact ⟨rfl, rfl, rfl⟩

theorem gives_ppsEdge {s : State} {q : State → Prop} (h : q (run ppsEdgeA s)) : Gives .ppsEdge s q := ⟨_, rfl, h⟩

theorem gives_timeSyncTimer {s : State} {q : State → Prop} (h : q (run timeSyncTimerA s)) : Gives .timeSyncTimer s q :=
  ⟨_, rfl, h⟩

/-- A lost TIME_PPS at the root that follows it. -/
theorem readers_ppsLostA {s : State} (h : s.ppsSteers = true) : let t := run ppsLostA s
    t.flag rTOP_ERR 3 = true ∧ t.ppsAt = none ∧ t.timeLocked = false := by
  have hset : (run (setErr blkTOP 3) s).flag rTOP_ERR 3 = true :=
    flag_orReg_bit (off := rTOP_ERR) (by decide) (by decide) s
  have h' : (s.isRoot && s.flag rTOP_CTL 61) = true := h
  simp only [ppsLostA, run_dyn, h', if_true]
  exact ⟨hset, rfl, rfl⟩

/-! ### The parent (R361 point 1) -/

/-- A module with a parent asks it. -/
theorem readers_timeSyncTimerA_parent {p : Nat} {s : State} (hr : s.isRoot = false) (hp : s.parentPort = some p) :
    let t := run timeSyncTimerA s
    t.timeParent = p ∧ t.holdover = false ∧ (s.updSt ≠ .pause →
      ∃ h, t.sentFlits p = s.sentFlits p ++ [flitOf (h ++ leBytes 4 (crc32 h))] ∧
        flTYPE h = tyLINK ∧ flSUB h = subTIMEREQ ∧ byteSlice h 0x08 8 = leBytes 8 s.stamp) := by
  set s₁ := applyUpd (.holdover false) (applyUpd (.timeParent p) s) with hs₁
  have wsend : (when' (decide (s.updSt ≠ .pause)) (sendFree p (mkFlit tyLINK subTIMEREQ (leBytes 8 s.stamp)))).Within ft_emit :=
    within_when' (w_sendFree _ _)
  have hrun : run timeSyncTimerA s =
      run (when' (decide (s.updSt ≠ .pause)) (sendFree p (mkFlit tyLINK subTIMEREQ (leBytes 8 s.stamp)))) s₁ := by
    simp only [timeSyncTimerA, run_dyn, hr, Bool.false_eq_true, if_false, hp]
    rfl
  rw [hrun]
  refine ⟨keep_timeParent wsend (by decide) s₁, keep_holdover wsend (by decide) s₁, fun hu => ?_⟩
  rw [run_when', if_pos (decide_eq_true hu)]
  obtain ⟨h, hsent, hty, hsub, hbody⟩ := sentFlits_sendFree_link p subTIMEREQ (leBytes 8 s.stamp) s₁ (by decide)
  exact ⟨h, hsent, hty, hsub, (hbody 8 (by decide)).trans (byteSlice_self (length_leBytes 8 _))⟩

/-- Settles O42: TIME_SYNC_TIMER by the parent, an edge by whether it is early and what the root does with it. -/
theorem moduleTime : Obligations.ModuleTime := by
  unfold Obligations.ModuleTime
  intro s steers target early
  refine ⟨fun hr => gives_timeSyncTimer ?root, fun p hr hp => gives_timeSyncTimer (readers_timeSyncTimerA_parent hr hp),
    fun hr hp => gives_timeSyncTimer ?alone, fun he => gives_ppsEdge (run_ppsEdgeA_early he), fun he hs => gives_ppsEdge ?plain,
    fun he hs hl => gives_ppsEdge ?slew, fun he hs hl hle => gives_ppsEdge ?up, fun he hs hl hlt => gives_ppsEdge ?down,
    fun hs => gives_of_exec (a := ppsLostA) rfl (readers_ppsLostA hs), fun hs => gives_of_exec (a := ppsLostA) rfl ?off⟩
  case root =>
    simp only [timeSyncTimerA, run_dyn, hr, if_true]
    rfl
  case alone =>
    simp only [timeSyncTimerA, run_dyn, hr, Bool.false_eq_true, if_false, hp]
    exact ⟨rfl, rfl⟩
  case plain =>
    rw [run_ppsEdgeA he, if_neg (show ¬ s.ppsSteers = true from Bool.eq_false_iff.mp hs)]
    exact ⟨rfl, rfl, rfl⟩
  case slew =>
    obtain ⟨hnow, hslew⟩ := readers_ppsSteer_locked s.ppsTarget hl
    rw [run_ppsEdgeA he, if_pos (show s.ppsSteers = true from hs)]
    exact ⟨congrArg some hnow, hslew, timeSet_ppsSteer s.ppsTarget s⟩
  case up =>
    obtain ⟨hnow, hlock, hbehind⟩ := readers_ppsSteer_up (n := s.ppsTarget) hl hle
    rw [run_ppsEdgeA he, if_pos (show s.ppsSteers = true from hs)]
    exact ⟨hnow, congrArg some hnow, hlock, hbehind⟩
  case down =>
    rw [run_ppsEdgeA he, if_pos (show s.ppsSteers = true from hs)]
    exact readers_ppsSteer_down (n := s.ppsTarget) hl hlt
  case off =>
    have h' : (s.isRoot && s.flag rTOP_CTL 61) = false := hs
    simp only [ppsLostA, run_dyn, h', Bool.false_eq_true, if_false, run_nop]

end Sys2Proof.Machine
end

section
/-!
SUPPORT. Chapter 09: what scripts preserve; bits of LNK_ERR that stay once they are set.
-/

set_option Elab.async false

namespace Sys2Proof.Machine

/-! ### A property of the state that a script preserves -/

/-- What holds before the script holds after it. -/
structure Act.Preserves (P : State → Prop) (a : Act) : Prop where
  keeps : ∀ s, P s → P (run a s)

section
variable {P : State → Prop} {a b : Act}

theorem Act.Preserves.nop : Act.nop.Preserves P := ⟨fun _ h => h⟩
theorem Act.Preserves.seq (ha : a.Preserves P) (hb : b.Preserves P) : (Act.seq a b).Preserves P :=
  ⟨fun s h => hb.keeps _ (ha.keeps s h)⟩
theorem Act.Preserves.dyn {f : State → Act} (h : ∀ s, (f s).Preserves P) : (Act.dyn f).Preserves P :=
  ⟨fun s hs => (h s).keeps s hs⟩
theorem preserves_seqs_cons {l : List Act} (ha : a.Preserves P) (hl : (seqs l).Preserves P) : (seqs (a :: l)).Preserves P :=
  ⟨fun s h => by rw [run_seqs_cons]; exact hl.keeps _ (ha.keeps s h)⟩
theorem preserves_each {α : Type} (l : List α) {f : α → Act} (h : ∀ x, (f x).Preserves P) : (each l f).Preserves P :=
  ⟨fun _ hs => run_each_invariant (fun x => (h x).keeps) l hs⟩
theorem preserves_ite {c : Prop} [Decidable c] (ha : a.Preserves P) (hb : b.Preserves P) :
    (if c then a else b).Preserves P := by split <;> assumption
theorem preserves_when' {c : Bool} (ha : a.Preserves P) : (when' c a).Preserves P := preserves_ite ha .nop
theorem preserves_whenS {c : State → Bool} (ha : a.Preserves P) : (whenS c a).Preserves P := .dyn fun _ => preserves_ite ha .nop
theorem preserves_withSome {α : Type} {x : Option α} {f : α → Act} (h : ∀ y, (f y).Preserves P) :
    (withSome x f).Preserves P := by
  cases x with
  | none => exact .nop
  | some y => exact h y
end

/-! ### LNK_ERR (R343, R350, R351, R357) -/

/-- Bit `j` of LNK_ERR is set. -/
def lnkErr (j : Fin 8) (s : State) : Prop := s.flag rLNK_ERR j = true

theorem covers_lnkErr : ∀ j : Fin 8, covers rLNK_ERR j j = true := by decide

section
variable {j : Fin 8}

/-- A script that does not write LNK_ERR. -/
theorem lnkErr_of_within {p : Foot} {a : Act} (w : a.Within p) (hn : rLNK_ERR ∉ p.regs) : a.Preserves (lnkErr j) :=
  ⟨fun s h => (keep_flag w rLNK_ERR j 0 (by decide) hn s).trans h⟩

/-- Incidents of the link switch add to LNK_ERR. -/
theorem lnkErr_incident {x : Inc} (h : x.blk = blkLNK) : (incident x).Preserves (lnkErr j) :=
  ⟨fun _ hs => flag_incident_keeps (by rw [h]; rfl) (covers_lnkErr j) (by decide) hs⟩

/-- An incident of the link switch shows its own bit. -/
theorem lnkErr_incident_own {x : Inc} (h : x.blk = blkLNK) (hc : x.code = j) (s : State) : lnkErr j (run (incident x) s) := by
  have hv : covers rLNK_ERR x.code x.code = true := by rw [hc]; exact covers_lnkErr j
  have := flag_incident_err x (r := rLNK_ERR) (by rw [h]; rfl) (by omega) hv (by decide) (by decide) s
  rwa [hc] at this

theorem lnkErr_setErr (code : Nat) : (setErr blkLNK code).Preserves (lnkErr j) := by
  refine ⟨fun s h => ?_⟩
  simp only [setErr]
  split
  · exact h
  · exact (flag_orReg rLNK_ERR _ 0 j s (by decide) (covers_lnkErr j)).trans (by rw [show s.flag rLNK_ERR j = true from h]; rfl)

theorem lnkErr_setErr_own (s : State) : lnkErr j (run (setErr blkLNK j) s) := by
  have hj : ¬ (j : Nat) = 0xFF := by omega
  simp only [setErr, if_neg hj]
  exact flag_orReg_bit (off := rLNK_ERR) (by decide) (covers_lnkErr j) s

theorem lnkErr_addFld {off : Nat} (hi lo n i : Nat) (ho : off < 2 ^ 24) (hn : off ≠ rLNK_ERR) :
    (addFld off hi lo n i).Preserves (lnkErr j) :=
  lnkErr_of_within (p := { flds := [], regs := [off] }) (within_addFld _ _ _ _ ho (by simp)) (by simpa using hn.symm)

theorem lnkErr_countNOPATH : countNOPATH.Preserves (lnkErr j) :=
  .seq (lnkErr_setErr 6) (lnkErr_addFld _ _ _ _ (by decide) (by decide))

/-- A flit without a path shows in bit 6. -/
theorem lnkErr_countNOPATH_own (s : State) : lnkErr 6 (run countNOPATH s) :=
  (lnkErr_addFld _ _ _ _ (by decide) (by decide)).keeps _ (lnkErr_setErr_own (j := 6) s)

theorem lnkErr_withFresh {f : Nat → Act} (h : ∀ n, (f n).Preserves (lnkErr j)) : (withFresh f).Preserves (lnkErr j) :=
  .dyn fun _ => .seq ⟨fun _ hs => hs⟩ (h _)

/-! ### Notices, queues and gateways keep LNK_ERR's bits -/

theorem lnkErr_sendLost (dest : List Nat) (load st reason gen : Nat) :
    (sendLost dest load st reason gen).Preserves (lnkErr j) := by
  refine .dyn fun s => preserves_ite ⟨fun _ hs => hs⟩ ?_
  split
  · exact .seq (lnkErr_of_within w_countLOST (by decide)) (lnkErr_of_within (w_putQueue ..) (by decide))
  · exact lnkErr_countNOPATH

theorem lnkErr_tellSource (f : List Byte) (reason : Nat) (q : Nat × Nat × Option Nat) :
    (tellSource f reason q).Preserves (lnkErr j) :=
  .dyn fun _ => preserves_ite (lnkErr_of_within (w_takeLost ..) (by decide))
    (lnkErr_withFresh fun _ => lnkErr_withFresh fun _ => lnkErr_withFresh fun _ => lnkErr_sendLost ..)

theorem lnkErr_tellSources (f : List Byte) : (each (dedup (flitStreams f)) (fun q => tellSource f 2 q)).Preserves (lnkErr j) :=
  preserves_each _ fun _ => lnkErr_tellSource ..

theorem lnkErr_dropNoPath (f : List Byte) : (dropNoPath f).Preserves (lnkErr j) :=
  .seq lnkErr_countNOPATH (lnkErr_tellSources f)

theorem lnkErr_queueStep {k : Nat} {s : State} {a : Act} (h : queueStep k s = some a) : a.Preserves (lnkErr j) := by
  have hout : ∀ k rest e, (Act.seq (.upd (.lnkQ k rest)) (freeEntry e)).Preserves (lnkErr j) := fun _ _ e =>
    .seq ⟨fun _ hs => hs⟩ (lnkErr_of_within (w_freeEntry e) (by decide))
  have hsend : ∀ p x b, s.sendsOn p x = some b → b.Preserves (lnkErr j) := fun p x b hb =>
    lnkErr_of_within (w_State_sendsOn s p x b hb) (by decide)
  unfold queueStep at h
  split at h
  · cases h
  · dsimp only at h
    split_ifs at h
    · obtain ⟨b, hb, rfl⟩ := Option.map_eq_some_iff.mp h
      exact .seq (hout ..) (hsend _ _ _ hb)
    · obtain rfl := Option.some.inj h
      exact preserves_seqs_cons (hout ..) (preserves_seqs_cons lnkErr_countNOPATH
        (preserves_each _ fun _ => lnkErr_of_within (w_takeLost ..) (by decide)))
    · obtain rfl := Option.some.inj h
      exact .seq (hout ..) (lnkErr_dropNoPath _)
    · obtain ⟨b, hb, rfl⟩ := Option.map_eq_some_iff.mp h
      obtain ⟨q, -, hq⟩ := Option.bind_eq_some_iff.mp hb
      exact .seq (hout ..) (hsend _ _ _ hq)

theorem lnkErr_pumpN : ∀ n, (pumpN n).Preserves (lnkErr j)
  | 0 => .nop
  | n + 1 => lnkErr_withFresh fun _ => .dyn fun s => by
    dsimp only
    split
    · next a h =>
      obtain ⟨k, -, hk⟩ := List.exists_of_findSome?_eq_some h
      exact .seq (lnkErr_queueStep hk) (lnkErr_pumpN n)
    · exact .nop

theorem lnkErr_pump : pump.Preserves (lnkErr j) := .dyn fun _ => preserves_when' (lnkErr_pumpN _)

theorem lnkErr_inject (f : List Byte) : (inject f).Preserves (lnkErr j) := by
  refine .dyn fun s => preserves_ite ⟨fun _ hs => hs⟩ ?_
  split
  · exact .seq (lnkErr_of_within (w_putQueue ..) (by decide)) lnkErr_pump
  · exact .seq (lnkErr_dropNoPath f) lnkErr_pump

theorem lnkErr_sendToPeer (h : Nat) (r f : List Byte) : (sendToPeer h r f).Preserves (lnkErr j) := by
  refine .seq (.dyn fun _ => lnkErr_addFld _ _ _ _ (by decide) (by decide)) ?_
  split
  · exact .seq (lnkErr_of_within (p := { flds := [.lnk .lnkQ], regs := [] }) (w_modLnkQ _ _ (by decide)) (by decide)) lnkErr_pump
  · exact lnkErr_inject f

theorem lnkErr_flushPack (h st : Nat) : (flushPack h st).Preserves (lnkErr j) :=
  .dyn fun _ => preserves_ite .nop (.seq (lnkErr_of_within (p := { flds := [.lnk .stream], regs := [] })
    (w_modStream _ _ (by decide)) (by decide)) (preserves_each _ fun _ => lnkErr_sendToPeer ..))

theorem lnkErr_gatewayOut (k out : Nat) (t : Token) : (gatewayOut k out t).Preserves (lnkErr j) :=
  .dyn fun _ => preserves_withSome fun _ => .seq ⟨fun _ hs => hs⟩ (preserves_when' (lnkErr_flushPack ..))

theorem lnkErr_streamReset (h : Nat) : (streamReset h).Preserves (lnkErr j) :=
  .dyn fun _ => .seq (preserves_each _ fun _ => .dyn fun _ => .seq (lnkErr_of_within (w_resetStream ..) (by decide))
    (preserves_when' (preserves_each _ fun _ => preserves_when' (lnkErr_sendLost ..)))) lnkErr_pump

/-! ### What a flit taken locally may start keeps LNK_ERR's bits -/

theorem lnkErr_sendOut (k o stream : Nat) (t : Token) : (sendOut k o stream t).Preserves (lnkErr j) := by
  have hcred : ∀ c f, (modCredit c f).Preserves (lnkErr j) := fun c f =>
    lnkErr_of_within (p := { flds := [.fab .credit], regs := [] }) (w_modCredit c f (by decide)) (by decide)
  refine preserves_ite (.seq (hcred ..) ?_) ?_
  · exact lnkErr_of_within (p := { flds := [.cell .arrived], regs := [] }) (w_modArrived _ _ (by decide)) (by decide)
  · split
    · exact .seq (hcred ..) (lnkErr_of_within (p := { flds := [.fab .wire], regs := [] }) (w_modWire _ _ (by decide)) (by decide))
    · exact lnkErr_gatewayOut ..

theorem lnkErr_forwardSlot (k i : Nat) (x : Slot) (t : Token) : (forwardSlot k i x t).Preserves (lnkErr j) :=
  preserves_seqs_cons ⟨fun _ hs => hs⟩ (preserves_seqs_cons (lnkErr_of_within (w_creditBack ..) (by decide))
    (preserves_seqs_cons (preserves_each _ fun _ => .seq (lnkErr_sendOut ..) ⟨fun _ hs => hs⟩)
      (preserves_when' (preserves_seqs_cons ⟨fun _ hs => hs⟩ (preserves_seqs_cons
        (lnkErr_of_within (w_settleSlots _) (by decide)) (lnkErr_of_within (w_settleSite _) (by decide)))))))

theorem lnkErr_forwardN (k : Nat) : ∀ n, (forwardN n k).Preserves (lnkErr j)
  | 0 => .nop
  | n + 1 => .dyn fun s => by
    split
    · exact .nop
    · split
      · exact .nop
      · exact .seq (lnkErr_forwardSlot ..) (lnkErr_forwardN k n)

theorem lnkErr_forward (k : Nat) : (forward k).Preserves (lnkErr j) := .dyn fun _ => lnkErr_forwardN k _

theorem lnkErr_boundary (h : Nat) : (boundary h).Preserves (lnkErr j) :=
  .dyn fun _ => preserves_ite .nop (preserves_ite (lnkErr_of_within (w_releaseLoad h) (by decide))
    (preserves_seqs_cons (lnkErr_of_within (w_drainBays h) (by decide)) (.dyn fun _ => preserves_each _ fun _ =>
      preserves_whenS (lnkErr_of_within (w_startScan ..) (by decide)))))

theorem lnkErr_endLoad (h : Nat) : (endLoad h).Preserves (lnkErr j) := by
  have hload : ∀ f, (modLoad h f).Preserves (lnkErr j) := fun f =>
    lnkErr_of_within (p := { flds := [.exh .load], regs := [] }) (w_modLoad h f (by decide)) (by decide)
  refine .dyn fun _ => .dyn fun _ => preserves_withSome fun id => ?_
  refine preserves_seqs_cons (preserves_when' (lnkErr_of_within (w_clearLoadQueues h) (by decide))) ?_
  refine preserves_seqs_cons (preserves_when' (lnkErr_streamReset h)) ?_
  refine preserves_seqs_cons (hload _) ?_
  refine preserves_seqs_cons (lnkErr_of_within (w_finishCmd ..) (by decide)) ?_
  refine preserves_seqs_cons (preserves_when' (lnkErr_of_within (w_cancelLoadWork h) (by decide))) ?_
  refine preserves_seqs_cons (preserves_withSome fun _ => lnkErr_of_within (w_complete ..) (by decide)) ?_
  exact lnkErr_boundary h

theorem lnkErr_endWith (h rank : Nat) : (endWith h rank).Preserves (lnkErr j) :=
  .seq (lnkErr_of_within (w_addCause ..) (by decide)) (lnkErr_endLoad h)

theorem lnkErr_lostAt (h st gen : Nat) : (lostAt h st gen).Preserves (lnkErr j) :=
  .dyn fun _ => preserves_ite (preserves_ite
    (preserves_seqs_cons (lnkErr_of_within (p := { flds := [.lnk .stream], regs := [] }) (w_modStream _ _ (by decide)) (by decide))
      (preserves_seqs_cons (lnkErr_incident rfl) (lnkErr_endWith ..)))
    (lnkErr_of_within (w_resetStream ..) (by decide))) .nop

theorem lnkErr_deliver (peer : List Nat) (f : List Byte) : (deliver peer f).Preserves (lnkErr j) := by
  have hstream : ∀ k g, (modStream k g).Preserves (lnkErr j) := fun k g =>
    lnkErr_of_within (p := { flds := [.lnk .stream], regs := [] }) (w_modStream k g (by decide)) (by decide)
  refine preserves_ite (hstream ..) (preserves_ite ?credit (preserves_ite (hstream ..) ?lost))
  case credit =>
    exact preserves_each _ fun _ => .dyn fun _ => preserves_withSome fun _ => .seq (hstream ..)
      (preserves_withSome fun _ => lnkErr_forward _)
  case lost => exact .seq (lnkErr_addFld _ _ _ _ (by decide) (by decide)) (lnkErr_lostAt ..)

theorem lnkErr_takeLocal : ∀ n, (takeLocal n).Preserves (lnkErr j)
  | 0 => .nop
  | n + 1 => .dyn fun s => by
    split
    · exact preserves_seqs_cons ⟨fun _ hs => hs⟩ (preserves_seqs_cons (lnkErr_addFld _ _ _ _ (by decide) (by decide))
        (preserves_seqs_cons (lnkErr_lostAt ..) (lnkErr_takeLocal n)))
    · exact preserves_seqs_cons ⟨fun _ hs => hs⟩ (preserves_seqs_cons (preserves_when' (lnkErr_deliver ..)) (lnkErr_takeLocal n))
    · exact .nop

/-- What a command of the link switch leaves to be sent and taken keeps LNK_ERR's bits. -/
theorem lnkErr_settled {s : State} (h : lnkErr j s) : lnkErr j (run settleLocal (run pump s)) :=
  (lnkErr_takeLocal 256).keeps _ (lnkErr_pump.keeps s h)

end

end Sys2Proof.Machine
end

section
/-!
SUPPORT. Chapter 09: what sending leaves of a port, a link switch in which nothing waits, a port's quarantine and failure.
-/

set_option Elab.async false

namespace Sys2Proof.Machine

/-! ### What sending leaves of a port (R330 to R332) -/

/-- The port but for what sending changes: the sequence numbers, the position sent, its buffers and its hop credits. -/
def Port.sans (x : Port) : Port :=
  { x with tx := 0, rx := 0, txPos := 0, replay := [], waiting := [], credits := [], partner := [], freed := [] }

theorem port_modPort (p : Nat) (f : Port → Port) (s : State) (q : Nat) :
    (run (modPort p f) s).port q = if q = p then f (s.port p) else s.port q := applyUpd_port s p _ q

theorem port_modPort_same (p : Nat) (f : Port → Port) (s : State) : (run (modPort p f) s).port p = f (s.port p) := by
  rw [port_modPort, if_pos rfl]

/-- The script reads the same of the state before and after. -/
def Act.Leaves {α : Type} (r : State → α) (a : Act) : Prop := ∀ v, a.Preserves (fun s => r s = v)

theorem Act.Leaves.eq {α : Type} {r : State → α} {a : Act} (h : a.Leaves r) (s : State) : r (run a s) = r s :=
  (h _).keeps s rfl

theorem leaves_of_eq {α : Type} {r : State → α} {a : Act} (h : ∀ s, r (run a s) = r s) : a.Leaves r :=
  fun _ => ⟨fun s hs => (h s).trans hs⟩

/-- A script leaves what sending leaves of every port. -/
def Act.OnlySends (a : Act) : Prop := a.Leaves fun s q => (s.port q).sans

theorem Act.OnlySends.port {a : Act} (h : a.OnlySends) (s : State) (q : Nat) :
    ((run a s).port q).sans = (s.port q).sans := congrFun (h.eq s) q

/-- A port replaced by one that differs only in what sending changes. -/
theorem sans_upd_port {p : Nat} {v : Port} {s : State} (h : v.sans = (s.port p).sans) :
    (fun q => ((applyUpd (.port p v) s).port q).sans) = fun q => (s.port q).sans := by
  funext q
  rw [applyUpd_port]
  split
  · next e => rw [e, h]
  · rfl

theorem onlySends_modPort {p : Nat} {f : Port → Port} (h : ∀ x, (f x).sans = x.sans) : (modPort p f).OnlySends :=
  leaves_of_eq fun _ => sans_upd_port (h _)

theorem onlySends_emit (p : Nat) (f : List Byte) : (emit p f).OnlySends :=
  leaves_of_eq fun s => sans_upd_port (s := s) rfl

theorem onlySends_sendSeq (p : Nat) (f : List Byte) : (sendSeq p f).OnlySends :=
  leaves_of_eq fun s => ((onlySends_emit p _).eq _).trans (sans_upd_port (s := s) rfl)

theorem onlySends_drainWaiting (p : Nat) : ∀ n, (drainWaiting n p).OnlySends
  | 0 => fun _ => .nop
  | n + 1 => fun v => .dyn fun s => by
    split
    · exact .nop
    · exact preserves_ite (preserves_seqs_cons (onlySends_modPort (by exact fun _ => rfl) v)
        (preserves_seqs_cons (onlySends_sendSeq p _ v) (onlySends_drainWaiting p n v))) .nop

theorem onlySends_sendLink (p sub : Nat) (body : List Byte) : (sendLink p sub body).OnlySends := fun v =>
  .seq (onlySends_modPort (by exact fun _ => rfl) v) (.dyn fun _ => onlySends_drainWaiting p _ v)

theorem onlySends_sendKex (p kind : Nat) (msg : List Byte) : (sendKex p kind msg).OnlySends := fun v =>
  .dyn fun _ => preserves_each _ fun _ => onlySends_sendLink p _ _ v

/-! ### Nothing waits in the link switch (R346, R351) -/

theorem linkQuiet_of_within {p : Foot} {a : Act} (w : a.Within p) (hq : Fld.lnk .lnkQ ∉ p.flds)
    (hf : Fld.lnk .localFlits ∉ p.flds) (hl : Fld.lnk .localLost ∉ p.flds) : a.Preserves State.linkQuiet :=
  ⟨fun s h => ⟨fun k => (keep_lnkQ w hq s k).trans (h.1 k), (keep_localFlits w hf s).trans h.2.1,
    (keep_localLost w hl s).trans h.2.2⟩⟩

theorem State.linkQuiet.noLocal {s : State} (h : s.linkQuiet) : s.noLocal := ⟨h.2.2, h.2.1⟩

/-- With every queue empty, nothing is sent on. -/
theorem run_pump_of_quiet {s : State} (h : s.linkQuiet) : run pump s = s := by
  have hz : ((tkeys s.lnk.queues).map (fun k => (s.lnkQ k).length)).sum = 0 := by
    refine List.sum_eq_zero fun n hn => ?_
    obtain ⟨k, -, rfl⟩ := List.mem_map.mp hn
    rw [h.1 k, List.length_nil]
  simp only [pump, run_dyn, hz, run_when', Nat.lt_irrefl, decide_false, Bool.false_eq_true, if_false]

/-- With nothing waiting, nothing is left to be sent and taken. -/
theorem run_settled_of_quiet {s : State} (h : s.linkQuiet) : run settleLocal (run pump s) = s := by
  rw [run_pump_of_quiet h, run_settleLocal_of_noLocal h.noLocal]

theorem run_linkAct (a : Act) (s : State) : run (linkAct a) s = run settleLocal (run pump (run a s)) := rfl

theorem run_linkAct_of_quiet {a : Act} (ha : a.Preserves State.linkQuiet) {s : State} (h : s.linkQuiet) :
    run (linkAct a) s = run a s := by rw [run_linkAct, run_settled_of_quiet (ha.keeps s h)]

/-! ### The quarantine of a port (R342, R343) -/

/-- The port in quarantine. -/
def Port.shut (x : Port) (reason : Nat) : Port :=
  { x with st := .quarantined, reason := reason, enc := false, rxNew := none, kex := {}, dropTimes := [] }

/-- What a quarantine does before it sends on what waits. -/
def shutPort (p reason : Nat) (tell carries : Bool) : Act :=
  seqs [portFault p 1 reason, when' carries (pauseBundle p), modPort p (fun x => x.shut reason),
    setFld rLNK_PORT_CTL 61 61 0 p, when' tell (sendLink p subQUAR (leBytes 1 reason))]

/-- What the fault of a port changes. -/
def ft_shutPort : Foot :=
  { flds := [.log .logWr, .log .logIntake, .log .logLost, .out .ibis, .log .ibiWait, .log .ibiHold, .out .sentFlits,
      .lnk .port, .lnk .pausedBundles],
    regs := [rINT_CNT, rLNK_ERR, rLNK_ERR_PORT, rLNK_PORT_CTL] }

theorem w_shutPort (p reason : Nat) (tell carries : Bool) : (shutPort p reason tell carries).Within ft_shutPort :=
  .seq ((w_portFault ..).mono (by decide)) (.seq (within_when' ((w_pauseBundle p).mono (by decide)))
    (.seq (w_modPort _ _ (by decide)) (.seq (within_setFld _ _ _ _ (by decide) (by decide))
      (within_when' ((w_sendLink ..).mono (by decide))))))

theorem run_quarantine {p reason : Nat} {tell : Bool} {s : State} (hq : s.linkQuiet) (h : (s.port p).st ≠ .quarantined) :
    run (quarantine p reason tell) s = run (shutPort p reason tell (s.port p).carries) s := by
  have hw := linkQuiet_of_within (w_shutPort p reason tell (s.port p).carries) (by decide) (by decide) (by decide)
  have hrun : run (quarantine p reason tell) s = run pump (run (shutPort p reason tell (s.port p).carries) s) := by
    rw [quarantine, run_dyn, if_neg h]
    rfl
  rw [hrun, run_pump_of_quiet (hw.keeps s hq)]

theorem linkQuiet_quarantine (p reason : Nat) (tell : Bool) : (quarantine p reason tell).Preserves State.linkQuiet := by
  refine ⟨fun s h => ?_⟩
  by_cases hst : (s.port p).st = .quarantined
  · rw [quarantine, run_dyn, if_pos hst]
    exact h
  · rw [run_quarantine h hst]
    exact (linkQuiet_of_within (w_shutPort ..) (by decide) (by decide) (by decide)).keeps s h

/-- A fault of a port shows in LNK_ERR. -/
theorem lnkErr_portFault_own (p reason : Nat) (j : Fin 8) (s : State) : lnkErr j (run (portFault p j reason) s) :=
  lnkErr_incident_own rfl rfl _

theorem lnkErr_portFault (p code reason : Nat) (j : Fin 8) : (portFault p code reason).Preserves (lnkErr j) :=
  .seq (lnkErr_of_within (p := { flds := [], regs := [rLNK_ERR_PORT] }) (w_firstFault _ _ (by decide) (by decide)) (by decide))
    (lnkErr_incident rfl)

/-- What follows the fault in a quarantine leaves LNK_ERR. -/
theorem lnkErr_shutRest (p reason : Nat) (tell carries : Bool) (j : Fin 8) :
    (seqs [when' carries (pauseBundle p), modPort p (fun x => x.shut reason), setFld rLNK_PORT_CTL 61 61 0 p,
      when' tell (sendLink p subQUAR (leBytes 1 reason))]).Preserves (lnkErr j) :=
  lnkErr_of_within (p := { flds := [.out .sentFlits, .lnk .port, .lnk .pausedBundles], regs := [rLNK_PORT_CTL] })
    (.seq (within_when' ((w_pauseBundle p).mono (by decide))) (.seq (w_modPort _ _ (by decide))
      (.seq (within_setFld _ _ _ _ (by decide) (by decide)) (within_when' ((w_sendLink ..).mono (by decide)))))) (by decide)

theorem lnkErr_shutPort (p reason : Nat) (tell carries : Bool) (j : Fin 8) :
    (shutPort p reason tell carries).Preserves (lnkErr j) :=
  preserves_seqs_cons (lnkErr_portFault p 1 reason j) (lnkErr_shutRest p reason tell carries j)

/-- Bit 61 of LNK_PORT_CTL, RETRAIN, after it is cleared. -/
theorem retrain_setFld {p : Nat} (s : State) : (run (setFld rLNK_PORT_CTL 61 61 0 p) s).flag rLNK_PORT_CTL 61 p = false :=
  (flag_setFld_own (by decide) (by decide) s).trans rfl

/-- A quarantined port, and what shows it. -/
theorem readers_shutPort (p reason : Nat) (tell carries : Bool) (s : State) : let t := run (shutPort p reason tell carries) s
    (t.port p).sans = ((s.port p).shut reason).sans ∧ lnkErr 1 t ∧ t.flag rLNK_PORT_CTL 61 p = false := by
  set s₁ := run (when' carries (pauseBundle p)) (run (portFault p 1 reason) s) with hs₁
  have wtell : (when' tell (sendLink p subQUAR (leBytes 1 reason))).Within ft_emit := within_when' (w_sendLink ..)
  have hsend : (when' tell (sendLink p subQUAR (leBytes 1 reason))).OnlySends := fun v =>
    preserves_when' (onlySends_sendLink p _ _ v)
  have hport : s₁.port p = s.port p :=
    (keep_port (within_when' (w_pauseBundle p)) (by decide) _ p).trans (keep_port (w_portFault ..) (by decide) s p)
  have hrun : run (shutPort p reason tell carries) s = run (when' tell (sendLink p subQUAR (leBytes 1 reason)))
      (run (setFld rLNK_PORT_CTL 61 61 0 p) (run (modPort p (fun x => x.shut reason)) s₁)) := rfl
  refine ⟨?_, ?_, ?_⟩
  · rw [hrun, hsend.port, ← hport]
    exact congrArg Port.sans (port_modPort_same p (fun x => x.shut reason) s₁)
  · exact (lnkErr_shutRest p reason tell carries 1).keeps _ (lnkErr_portFault_own p reason 1 s)
  · rw [hrun, keep_flag wtell _ _ _ (by decide) (by decide)]
    exact retrain_setFld _

/-! ### The failure of a link (R350) -/

/-- What a failure does when nothing was in the replay buffer. -/
def darkenPort (p reason : Nat) (x : Port) : Act :=
  seqs [portFault p 2 reason, .upd (.port p { x.dark .failed with reason := reason }), setFld rLNK_PORT_CTL 61 61 0 p,
    pauseBundle p]

theorem w_darkenPort (p reason : Nat) (x : Port) : (darkenPort p reason x).Within ft_shutPort :=
  .seq ((w_portFault ..).mono (by decide)) (.seq (within_upd ⟨_, rfl, by decide⟩)
    (.seq (within_setFld _ _ _ _ (by decide) (by decide)) ((w_pauseBundle p).mono (by decide))))

/-- With nothing routed in the replay buffer of a torus port, no end is told. -/
theorem run_failPort {p reason : Nat} {s : State} (hq : s.linkQuiet) (hst : (s.port p).st ≠ .off ∧ (s.port p).st ≠ .failed)
    (hl : lostFlits (s.port p) = []) (hr : s.live.role p ≠ 1) :
    run (failPort p reason) s = run (darkenPort p reason (s.port p)) s := by
  have w := w_darkenPort p reason (s.port p)
  set t := run (darkenPort p reason (s.port p)) s with ht
  have hlive : t.live = s.live := keep_live w (by decide) s
  have htell : run (tellEnds p (s.port p)) t = t := by
    rw [tellEnds, run_dyn, hlive, if_neg hr, hl]
    rfl
  have hrun : run (failPort p reason) s = run pump (run (tellEnds p (s.port p)) t) := by
    rw [failPort, run_dyn, if_neg (by simpa using hst)]
    rfl
  rw [hrun, htell, run_pump_of_quiet ((linkQuiet_of_within w (by decide) (by decide) (by decide)).keeps s hq)]

theorem readers_darkenPort (p reason : Nat) (x : Port) (s : State) : let t := run (darkenPort p reason x) s
    t.port p = { x.dark .failed with reason := reason } ∧ lnkErr 2 t ∧ t.flag rLNK_PORT_CTL 61 p = false := by
  refine ⟨?_, ?_, ?_⟩
  · exact (keep_port (w_pauseBundle p) (by decide) _ p).trans ((applyUpd_port (run (portFault p 2 reason) s) p _ p).trans
      (if_pos rfl))
  · refine (lnkErr_of_within (a := seqs [.upd (.port p { x.dark .failed with reason := reason }),
      setFld rLNK_PORT_CTL 61 61 0 p, pauseBundle p])
      (p := { flds := [.lnk .port, .lnk .pausedBundles], regs := [rLNK_PORT_CTL] }) ?_ (by decide)).keeps _
      (lnkErr_portFault_own p reason 2 s)
    exact .seq (within_upd ⟨_, rfl, by decide⟩) (.seq (within_setFld _ _ _ _ (by decide) (by decide))
      ((w_pauseBundle p).mono (by decide)))
  · exact (keep_flag (w_pauseBundle p) _ _ _ (by decide) (by decide) _).trans (retrain_setFld _)

/-! ### A flit dropped at a check (R357) -/

/-- A dropped flit is counted in its field of LNK_PORT_DROP and shown in LNK_ERR bit 3; nothing waits after it. -/
theorem readers_dropFlit {p lo : Nat} {s : State} (hq : s.linkQuiet) (hc : covers rLNK_PORT_DROP (lo + 11) lo = true) :
    let t := run (dropFlit p lo) s
    (t.fld rLNK_PORT_DROP (lo + 11) lo p = sat 12 (s.fld rLNK_PORT_DROP (lo + 11) lo p + 1) ∧ lnkErr 3 t) ∧ t.linkQuiet := by
  obtain ⟨x, due, f, c, hrun⟩ : ∃ x due f c, run (dropFlit p lo) s =
      run (when' c (quarantine p rsDROPS true)) (run (if due = true then
        incident { cls := .A, blk := blkLNK, code := 3, locus := p, arg2 := x } else setErr blkLNK 3)
        (run (modPort p f) (run (addFld rLNK_PORT_DROP (lo + 11) lo 1 p) s))) := ⟨_, _, _, _, rfl⟩
  have wcount : (addFld rLNK_PORT_DROP (lo + 11) lo 1 p).Within { flds := [], regs := [rLNK_PORT_DROP] } :=
    within_addFld _ _ _ _ (by decide) (by decide)
  have wport : (modPort p f).Within ft_freeEntry := w_modPort _ _ (by decide)
  have wshow : (if due = true then incident { cls := .A, blk := blkLNK, code := 3, locus := p, arg2 := x }
      else setErr blkLNK 3).Within ft_shutPort :=
    within_ite (w_incident _ (by decide) (errOk_any (blk := blkLNK) (by decide))) (w_setErr _ _ (errOk_any (by decide)))
  have wquar : (when' c (quarantine p rsDROPS true)).Within ft_failPort := within_when' (w_quarantine ..)
  set s₁ := run (modPort p f) (run (addFld rLNK_PORT_DROP (lo + 11) lo 1 p) s) with hs₁
  set s₂ := run (if due = true then incident { cls := .A, blk := blkLNK, code := 3, locus := p, arg2 := x }
      else setErr blkLNK 3) s₁ with hs₂
  have hq₁ : s₁.linkQuiet := (linkQuiet_of_within wport (by decide) (by decide) (by decide)).keeps _
    ((linkQuiet_of_within wcount (by decide) (by decide) (by decide)).keeps s hq)
  have hq₂ : s₂.linkQuiet := (linkQuiet_of_within wshow (by decide) (by decide) (by decide)).keeps s₁ hq₁
  have herr₂ : lnkErr 3 s₂ := by
    rw [hs₂, run_ite]
    split
    · exact lnkErr_incident_own (j := 3) rfl rfl s₁
    · exact lnkErr_setErr_own (j := 3) s₁
  have herr : (when' c (quarantine p rsDROPS true)).Preserves fun t => t.linkQuiet ∧ lnkErr 3 t := by
    refine preserves_when' ⟨fun t ht => ⟨(linkQuiet_quarantine ..).keeps t ht.1, ?_⟩⟩
    by_cases hst : (t.port p).st = .quarantined
    · rw [quarantine, run_dyn, if_pos hst]
      exact (lnkErr_of_within (p := ft_freeEntry) (w_modPort _ _ (by decide)) (by decide)).keeps t ht.2
    · rw [run_quarantine ht.1 hst]
      exact (lnkErr_shutPort ..).keeps t ht.2
  obtain ⟨hq₃, h₃⟩ := herr.keeps s₂ ⟨hq₂, herr₂⟩
  rw [hrun]
  refine ⟨⟨?_, h₃⟩, hq₃⟩
  rw [keep_fld wquar _ _ _ _ (by decide) (by decide), keep_fld wshow _ _ _ _ (by decide) (by decide),
    keep_fld wport _ _ _ _ (by decide) (by decide), fld_addFld _ _ _ _ _ _ (by decide) hc]
  congr 1
  omega

end Sys2Proof.Machine
end

section
/-!
SUPPORT. Chapter 09: what a flit that is accepted changes before its message takes effect.
-/

set_option Elab.async false

namespace Sys2Proof.Machine

/-! ### The header of an accepted flit (R331, R332, Table 9.2) -/

theorem run_settlePort_of_lit {p : Nat} {s : State} (h : (s.port p).st ≠ .draining) : run (settlePort p) s = s := by
  rw [settlePort, run_dyn, if_neg fun hc => h hc.1, run_nop]

/-- An ACK on a port that is not DRAINING: what it covers leaves the replay buffer, and LINK messages that wait are sent. -/
def ackSends (p ack : Nat) : Act :=
  .dyn fun s => when' (decide ((s.port p).ackd ack ≠ (s.port p).replay))
    (.seq (modPort p (fun x => { x with replay := x.ackd ack })) (.dyn fun s => drainWaiting (s.port p).waiting.length p))

theorem onlySends_ackSends (p ack : Nat) : (ackSends p ack).OnlySends := fun v =>
  .dyn fun _ => preserves_when' (.seq (onlySends_modPort (by exact fun _ => rfl) v) (.dyn fun _ => onlySends_drainWaiting p _ v))

theorem w_ackSends (p ack : Nat) : (ackSends p ack).Within ft_emit :=
  .dyn fun _ => within_when' (.seq (w_modPort _ _ (by decide)) (.dyn fun _ => w_drainWaiting ..))

theorem st_of_sans {x y : Port} (h : x.sans = y.sans) : x.st = y.st := (congrArg Port.st h : x.sans.st = y.sans.st)

theorem run_acked {p ack : Nat} {s : State} (h : (s.port p).st ≠ .draining) : run (acked p ack) s = run (ackSends p ack) s := by
  cases hr : (s.port p).replay with
  | nil =>
    have hk : (s.port p).ackd ack = (s.port p).replay := by rw [Port.ackd, hr]
    simp only [acked, ackSends, run_dyn, hr, hk, run_nop, ne_eq, not_true_eq_false, decide_false, run_when', Bool.false_eq_true,
      if_false]
  | cons r rs =>
    simp only [acked, ackSends, run_dyn, hr, run_when']
    by_cases hd : (ack + 65536 - r.seq) % 65536 < (r :: rs).length
    · have hk : (s.port p).ackd ack = (r :: rs).drop ((ack + 65536 - r.seq) % 65536 + 1) := by
        rw [Port.ackd, hr]
        exact if_pos hd
      have hne : (s.port p).ackd ack ≠ r :: rs := fun e => by
        have := congrArg List.length (hk.symm.trans e)
        rw [List.length_drop, List.length_cons] at this
        omega
      set s₁ := run (modPort p (fun x => { x with replay := x.ackd ack })) s with hs₁
      have hmod : run (modPort p (fun x => { x with replay := x.replay.drop ((ack + 65536 - r.seq) % 65536 + 1) })) s = s₁ := by
        simp only [hs₁, modPort, run_dyn, hk, hr]
      have hst : (s₁.port p).st ≠ .draining := by
        rw [hs₁, port_modPort_same]
        exact h
      have hst₂ : ((run (drainWaiting (s₁.port p).waiting.length p) s₁).port p).st ≠ .draining := by
        rwa [st_of_sans ((onlySends_drainWaiting p _).port s₁ p)]
      simp only [hd, hne, ne_eq, not_false_eq_true, decide_true, if_true, run_seqs_cons, run_seqs_nil, run_seq, run_dyn,
        hmod, hst, run_when', run_settlePort_of_lit hst₂, ← hs₁]
    · have hk : (s.port p).ackd ack = r :: rs := by
        rw [Port.ackd, hr]
        exact if_neg hd
      simp only [hd, hk, ne_eq, not_true_eq_false, decide_false, Bool.false_eq_true, if_false]

/-- The header of a flit that is accepted: its ACK, its credits, and its SEQ if it is sequenced. -/
def takeHeader (p : Nat) (f : List Byte) : Act :=
  seqs [ackSends p (flACK f),
    modPort p (fun x => { x with
      credits := lset x.credits (flHCRED f / 2 ^ 14) (lget 0 x.credits (flHCRED f / 2 ^ 14) + flHCRED f % 2 ^ 14) }),
    when' (sequenced f) (modPort p (fun x => { x with rx := (x.rx + 1) % 65536 }))]

theorem onlySends_takeHeader (p : Nat) (f : List Byte) : (takeHeader p f).OnlySends := fun v =>
  preserves_seqs_cons (onlySends_ackSends p _ v) (preserves_seqs_cons (onlySends_modPort (by exact fun _ => rfl) v)
    (preserves_when' (onlySends_modPort (by exact fun _ => rfl) v)))

theorem w_takeHeader (p : Nat) (f : List Byte) : (takeHeader p f).Within ft_emit :=
  .seq (w_ackSends ..) (.seq (w_modPort _ _ (by decide)) (within_when' (w_modPort _ _ (by decide))))

/-- The port once that header has been taken, where no LINK message waits. -/
def Port.headed (x : Port) (f : List Byte) : Port :=
  { x with
    replay := x.ackd (flACK f)
    credits := lset x.credits (flHCRED f / 2 ^ 14) (lget 0 x.credits (flHCRED f / 2 ^ 14) + flHCRED f % 2 ^ 14)
    rx := if sequenced f then (x.rx + 1) % 65536 else x.rx }

/-- With no LINK message waiting, a header sends nothing. -/
theorem readers_takeHeader {p : Nat} (f : List Byte) {s : State} (hw : (s.port p).waiting = []) :
    let t := run (takeHeader p f) s
    t.port p = (s.port p).headed f ∧ ∀ q, t.sentFlits q = s.sentFlits q := by
  set s₁ := run (ackSends p (flACK f)) s with hs₁
  have h₁ : s₁.port p = { s.port p with replay := (s.port p).ackd (flACK f) } ∧ ∀ q, s₁.sentFlits q = s.sentFlits q := by
    rw [hs₁, ackSends, run_dyn, run_when']
    split
    · set s₀ := run (modPort p (fun x => { x with replay := x.ackd (flACK f) })) s with hs₀
      have hp : s₀.port p = { s.port p with replay := (s.port p).ackd (flACK f) } := port_modPort_same ..
      have hnil : (s₀.port p).waiting = [] := by rw [hp]; exact hw
      rw [run_seq, ← hs₀, run_dyn, hnil]
      exact ⟨hp, fun _ => rfl⟩
    · next hk =>
      simp only [ne_eq, decide_not, Bool.not_eq_true', decide_eq_false_iff_not, Decidable.not_not] at hk
      exact ⟨by rw [hk], fun _ => rfl⟩
  have hrun : run (takeHeader p f) s = run (when' (sequenced f) (modPort p (fun x => { x with rx := (x.rx + 1) % 65536 })))
      (run (modPort p (fun x => { x with
        credits := lset x.credits (flHCRED f / 2 ^ 14) (lget 0 x.credits (flHCRED f / 2 ^ 14) + flHCRED f % 2 ^ 14) })) s₁) := rfl
  rw [hrun, run_when']
  refine ⟨?_, fun q => ?_⟩
  · split
    · next hs => rw [port_modPort_same, port_modPort_same, h₁.1, Port.headed, if_pos hs]
    · next hs => rw [port_modPort_same, h₁.1, Port.headed, if_neg hs]
  · split <;> exact h₁.2 q

/-! ### An accepted flit (R330, R355) -/

/-- A port whose state carries a flit is lit. -/
theorem lit_of_stateCarries {st : PortState} {f : List Byte} (h : stateCarries st f = true) :
    ¬ (st = .off ∨ st = .training ∨ st = .failed) := by
  rintro (rfl | rfl | rfl) <;> exact absurd h (by simp [stateCarries])

/-- An accepted flit: its header is taken, then it is inspected, then what it left is sent and taken. -/
theorem run_receive_accepts {p : Nat} {flit : Flit} {s : State} (h : s.accepts p flit) (found : Found) :
    run (receive p flit found) s = run settleLocal (run pump
      (run (inspect p found (flitBytes flit)) (run (takeHeader p (flitBytes flit)) s))) := by
  obtain ⟨hc, hd, hcrc, hseq⟩ := h
  set f := flitBytes flit with hf
  have hhead : run (hearHeader p f) s = run (modPort p (fun x => { x with
      credits := lset x.credits (flHCRED f / 2 ^ 14) (lget 0 x.credits (flHCRED f / 2 ^ 14) + flHCRED f % 2 ^ 14) }))
      (run (ackSends p (flACK f)) s) := by rw [hearHeader, run_seq, run_acked hd]
  have hcrc' : ¬ crc32 (f.take 0xFC) ≠ leAt f 0xFC 4 := not_not_intro hcrc
  simp only [receive, run_dyn, ← hf, if_neg (lit_of_stateCarries hc), if_neg hcrc', run_seqs_cons, run_seqs_nil, hc, run_when',
    if_true, hhead, takeHeader]
  cases hsq : sequenced f with
  | true => simp only [if_true, hseq hsq, run_seq]
  | false => simp only [Bool.false_eq_true, if_false]

/-! ### The receive entry and the session's position (R332, R355, R358) -/

/-- The port but for what sending changes and what authentication of a flit advances. -/
def Port.talk (x : Port) : Port :=
  { x.sans with rxPos := 0, rxPhase := false, rxKeys := {}, rxNew := none }

/-- The receive entry that the flit takes. -/
def State.entryOf (s : State) (p : Nat) (f : List Byte) : Option (Nat × Nat) :=
  if routed f && decide (0 < lget 0 (s.port p).partner (flVC f)) then some (p, flVC f) else none

/-- What a flit takes before it is heard: a receive entry, and its place in the session. -/
def takeEntry (p : Nat) (f : List Byte) : Act :=
  .dyn fun s => .seq (when' (routed f && decide (0 < lget 0 (s.port p).partner (flVC f)))
      (modPort p (fun x => { x with partner := lset x.partner (flVC f) (lget 0 x.partner (flVC f) - 1) })))
    (s.authentic p f).2

theorem w_takeEntry (p : Nat) (f : List Byte) : (takeEntry p f).Within ft_freeEntry :=
  .dyn fun s => .seq (within_when' (w_modPort _ _ (by decide))) (w_State_authentic s p f)

/-- A script leaves `Port.talk` of every port. -/
def Act.OnlyTalks (a : Act) : Prop := a.Leaves fun s q => (s.port q).talk

theorem onlyTalks_of_onlySends {a : Act} (h : a.OnlySends) : a.OnlyTalks := leaves_of_eq fun s => funext fun q =>
  congrArg (fun x => { x with rxPos := 0, rxPhase := false, rxKeys := {}, rxNew := none }) (h.port s q)

theorem onlyTalks_modPort {p : Nat} {f : Port → Port} (h : ∀ x, (f x).talk = x.talk) : (modPort p f).OnlyTalks := by
  refine leaves_of_eq fun s => funext fun q => ?_
  rw [port_modPort]
  split
  · next e => rw [e, h]
  · rfl

/-- Authentication advances the session's receiving side and nothing else. -/
theorem onlyTalks_authentic (s : State) (p : Nat) (f : List Byte) : (s.authentic p f).2.OnlyTalks := by
  intro v
  unfold State.authentic
  dsimp only
  split
  · exact .nop
  · split
    · split <;> exact .nop
    · split
      · exact .nop
      · split
        · dsimp only
          exact onlyTalks_modPort (by exact fun _ => rfl) v
        · split
          · exact .nop
          · split
            · dsimp only
              exact onlyTalks_modPort (by exact fun _ => rfl) v
            · exact .nop

theorem onlyTalks_takeEntry (p : Nat) (f : List Byte) : (takeEntry p f).OnlyTalks := fun v => .dyn fun s =>
  .seq (preserves_when' (onlyTalks_modPort (by exact fun _ => rfl) v)) (onlyTalks_authentic s p f v)

/-- Authentication reads only the session's receiving side. -/
theorem authentic_congr {s t : State} {p : Nat} (h : (t.port p).sans = (s.port p).sans) (f : List Byte) :
    t.authentic p f = s.authentic p f := by
  have henc : (t.port p).enc = (s.port p).enc := (congrArg Port.enc h : (t.port p).sans.enc = (s.port p).sans.enc)
  have hph : (t.port p).rxPhase = (s.port p).rxPhase := (congrArg Port.rxPhase h : (t.port p).sans.rxPhase = (s.port p).sans.rxPhase)
  have hk : (t.port p).rxKeys = (s.port p).rxKeys := (congrArg Port.rxKeys h : (t.port p).sans.rxKeys = (s.port p).sans.rxKeys)
  have hpos : (t.port p).rxPos = (s.port p).rxPos := (congrArg Port.rxPos h : (t.port p).sans.rxPos = (s.port p).sans.rxPos)
  have hnew : (t.port p).rxNew = (s.port p).rxNew := (congrArg Port.rxNew h : (t.port p).sans.rxNew = (s.port p).sans.rxNew)
  simp only [State.authentic, henc, hph, hk, hpos, hnew]

/-! ### Checks 3 and 4 (R355, R358) -/

/-- What the flit says takes effect. -/
def hearClear (p : Nat) (found : Found) (entry : Option (Nat × Nat)) (g : List Byte) : Act :=
  if routed g then hearStored p entry found g else if flTYPE g = tyLINK then hearLink p found g else .nop

/-- A flit that fails check 3 only leaves its entry and its place in the session. -/
theorem run_inspect_malformed {p : Nat} {f : List Byte} (hf : formatOk f = false) (found : Found) (s : State) :
    ∃ a : Act, a.Within ft_freeEntry ∧ run (inspect p found f) s = run (dropFlit p 48) (run a s) := by
  refine ⟨.dyn fun s => .seq (when' (routed f && decide (0 < lget 0 (s.port p).partner (flVC f)))
      (modPort p (fun x => { x with partner := lset x.partner (flVC f) (lget 0 x.partner (flVC f) - 1) })))
    (.seq (when' ((s.port p).enc && isProtected f && flENC f) (modPort p (fun x => { x with rxPos := x.rxPos + 1 })))
      (freeEntry (s.entryOf p f))), ?_, ?_⟩
  · exact .dyn fun s => .seq (within_when' (w_modPort _ _ (by decide)))
      (.seq (within_when' (w_modPort _ _ (by decide))) (w_freeEntry _))
  · simp only [inspect, run_dyn, run_seq, hf, Bool.not_false, if_true, run_seqs_cons, run_seqs_nil]
    rfl

/-- A flit that fails check 4. -/
theorem run_inspect_forged {p : Nat} {f : List Byte} {s : State} (hf : formatOk f = true) (ha : (s.authentic p f).1 = none)
    (found : Found) :
    run (inspect p found f) s = run (dropFlit p 36) (run (freeEntry (s.entryOf p f)) (run (takeEntry p f) s)) := by
  simp only [inspect, run_dyn, run_seq, hf, Bool.not_true, Bool.false_eq_true, if_false, ha]
  rfl

/-- A flit that passes both. -/
theorem run_inspect_clear {p : Nat} {f g : List Byte} {s : State} (hf : formatOk f = true)
    (ha : (s.authentic p f).1 = some g) (found : Found) :
    run (inspect p found f) s = run (hearClear p found (s.entryOf p f) g) (run (takeEntry p f) s) := by
  simp only [inspect, run_dyn, run_seq, hf, Bool.not_true, Bool.false_eq_true, if_false, ha]
  rfl

/-! ### A flit that is heard -/

/-- All that a flit changes before its message takes effect. -/
def hearBefore (p : Nat) (f : List Byte) : Act := .seq (takeHeader p f) (takeEntry p f)

theorem w_hearBefore (p : Nat) (f : List Byte) : (hearBefore p f).Within ft_emit :=
  .seq (w_takeHeader p f) ((w_takeEntry p f).mono (by decide))

/-- Before its message takes effect, a flit leaves `Port.talk` of every port. -/
theorem talk_hearBefore (p : Nat) (f : List Byte) (s : State) (q : Nat) :
    ((run (hearBefore p f) s).port q).talk = (s.port q).talk :=
  (congrFun ((onlyTalks_takeEntry p f).eq _) q).trans (congrFun ((onlyTalks_of_onlySends (onlySends_takeHeader p f)).eq s) q)

theorem linkQuiet_hearBefore (p : Nat) (f : List Byte) : (hearBefore p f).Preserves State.linkQuiet :=
  linkQuiet_of_within (w_hearBefore p f) (by decide) (by decide) (by decide)

/-- A flit that is heard takes effect on what it finds. -/
theorem run_receive_hears {p : Nat} {flit : Flit} {s : State} {g : List Byte} (h : s.hears p flit g) (found : Found) :
    run (receive p flit found) s = run settleLocal (run pump (run (hearClear p found
      ((run (takeHeader p (flitBytes flit)) s).entryOf p (flitBytes flit)) g) (run (hearBefore p (flitBytes flit)) s))) := by
  obtain ⟨-, hacc, hfmt, hau⟩ := h
  have hau' : ((run (takeHeader p (flitBytes flit)) s).authentic p (flitBytes flit)).1 = some g := by
    rw [authentic_congr ((onlySends_takeHeader p _).port s p), hau]
  rw [run_receive_accepts hacc, run_inspect_clear hfmt hau', hearBefore, run_seq]

/-! ### Receive entries that senders pay for (R332) -/

theorem lget_le_lget_lset (l : List Nat) (i j n : Nat) : lget 0 l i ≤ lget 0 (lset l j (lget 0 l j + n)) i := by
  induction l generalizing i j with
  | nil => exact Nat.le_refl _
  | cons x l ih =>
    cases j with
    | zero =>
      cases i with
      | zero => exact Nat.le_add_right x n
      | succ i => exact Nat.le_refl _
    | succ j =>
      cases i with
      | zero => exact Nat.le_refl _
      | succ i => exact ih i j

/-- The partner of the port holds a hop credit. -/
def State.partnerPaid (p vc : Nat) (s : State) : Prop := 0 < lget 0 (s.port p).partner vc

theorem partnerPaid_modPort {p vc : Nat} {f : Port → Port} (h : ∀ x, (f x).partner = x.partner) :
    (modPort p f).Preserves (State.partnerPaid p vc) :=
  ⟨fun s hs => by rw [State.partnerPaid, port_modPort_same, h]; exact hs⟩

/-- Sending only gives hop credits to the partner. -/
theorem partnerPaid_emit (p vc : Nat) (f : List Byte) : (emit p f).Preserves (State.partnerPaid p vc) := by
  refine ⟨fun s hs => Nat.lt_of_lt_of_le hs ?_⟩
  have hport : ((run (emit p f) s).port p).partner = _ := congrArg Port.partner ((applyUpd_port s p _ p).trans (if_pos rfl))
  rw [hport]
  exact lget_le_lget_lset ..

theorem partnerPaid_sendSeq (p vc : Nat) (f : List Byte) : (sendSeq p f).Preserves (State.partnerPaid p vc) := by
  refine ⟨fun s hs => (partnerPaid_emit p vc _).keeps _ ?_⟩
  rw [State.partnerPaid, run_upd, applyUpd_port, if_pos rfl]
  exact hs

theorem partnerPaid_drainWaiting (p vc : Nat) : ∀ n, (drainWaiting n p).Preserves (State.partnerPaid p vc)
  | 0 => .nop
  | n + 1 => .dyn fun s => by
    split
    · exact .nop
    · exact preserves_ite (preserves_seqs_cons (partnerPaid_modPort (by exact fun _ => rfl))
        (preserves_seqs_cons (partnerPaid_sendSeq p vc _) (partnerPaid_drainWaiting p vc n))) .nop

theorem partnerPaid_takeHeader (p vc : Nat) (f : List Byte) : (takeHeader p f).Preserves (State.partnerPaid p vc) :=
  preserves_seqs_cons
    (.dyn fun _ => preserves_when' (.seq (partnerPaid_modPort (by exact fun _ => rfl)) (.dyn fun _ => partnerPaid_drainWaiting p vc _)))
    (preserves_seqs_cons (partnerPaid_modPort (by exact fun _ => rfl))
      (preserves_when' (partnerPaid_modPort (by exact fun _ => rfl))))

/-- A routed flit whose sender held a credit has its receive entry. -/
theorem entryOf_of_paid {p : Nat} {f : List Byte} {s : State} (hr : routed f = true) (hc : 0 < lget 0 (s.port p).partner (flVC f)) :
    (run (takeHeader p f) s).entryOf p f = some (p, flVC f) := by
  have h := (partnerPaid_takeHeader p (flVC f) f).keeps s hc
  rw [State.partnerPaid] at h
  simp only [State.entryOf, hr, Bool.true_and, h, decide_true, if_true]

/-- A flit whose sender held none has none, where the header sends nothing. -/
theorem entryOf_of_unpaid {p : Nat} {f : List Byte} {s : State} (hw : (s.port p).waiting = [])
    (hc : lget 0 (s.port p).partner (flVC f) = 0) : (run (takeHeader p f) s).entryOf p f = none := by
  have h : lget 0 ((run (takeHeader p f) s).port p).partner (flVC f) = 0 := by
    rw [(readers_takeHeader f hw).1]
    exact hc
  simp only [State.entryOf, h, Nat.lt_irrefl, decide_false, Bool.and_false, Bool.false_eq_true, if_false]

end Sys2Proof.Machine
end

section
/-!
SUPPORT. Chapter 09: the checks of an arriving flit (O37).
-/

set_option Elab.async false

namespace Sys2Proof.Machine

/-! ### Rows by which a flit arrives -/

/-- Each row does what `receive` does. -/
theorem givesFlit_of_receive {port : Fin 32} {flit : Flit} {s : State} {q : State → Prop}
    (h : q (run (receive port.val flit) s)) : GivesFlit port flit s q := by
  intro i hi
  simp only [flitRows, List.mem_cons, List.not_mem_nil, or_false] at hi
  rcases hi with rfl | rfl | rfl | rfl | rfl | rfl | rfl | rfl | rfl | rfl | rfl | rfl | rfl <;> exact ⟨_, rfl, h⟩

/-! ### What authentication leaves of a flit (R358) -/

/-- A patch leaves the bytes before it. -/
theorem getD_patch_below {bs x : List Byte} {off i : Nat} (h : i < off) (hl : i < bs.length) :
    (patch bs off x).getD i 0 = bs.getD i 0 := by
  have hi : i < (bs.take off).length := by
    rw [List.length_take]
    omega
  rw [patch, List.append_assoc, List.getD_append _ _ _ _ hi, List.getD_eq_getElem?_getD, List.getElem?_take, if_pos h,
    List.getD_eq_getElem?_getD]

theorem lt_length_patch {bs x : List Byte} {off i : Nat} (h : i < off) (hl : i < bs.length) : i < (patch bs off x).length := by
  simp only [patch, List.length_append, List.length_take]
  omega

theorem le_cryptRange (f : List Byte) : 8 ≤ (cryptRange f).1 := by
  unfold cryptRange
  split
  · decide
  · split
    · decide
    · split <;> decide

/-- Decryption leaves the common header. -/
theorem getD_openFlit {k : Keys} {pos : Nat} {f g : List Byte} (h : openFlit k pos f = some g) (hl : f.length = 256) {i : Nat}
    (hi : i < 8) : g.getD i 0 = f.getD i 0 := by
  have hr := le_cryptRange f
  unfold openFlit at h
  dsimp only at h
  split at h
  · obtain rfl := Option.some.inj h
    have hlt : i < (cryptRange f).1 := by omega
    rw [getD_patch_below (by omega) (lt_length_patch hlt (by omega)), getD_patch_below hlt (by omega)]
  · exact absurd h (by simp)

/-- A flit that is authentic has the common header that it came with. -/
theorem getD_authentic {s : State} {p : Nat} {f g : List Byte} (h : (s.authentic p f).1 = some g) (hl : f.length = 256) {i : Nat}
    (hi : i < 8) : g.getD i 0 = f.getD i 0 := by
  unfold State.authentic at h
  dsimp only at h
  split at h
  · rw [Option.some.inj h]
  · split at h
    · split at h
      · exact absurd h (by simp)
      · rw [Option.some.inj h]
    · split at h
      · exact absurd h (by simp)
      · split at h
        · exact getD_openFlit h hl hi
        · split at h
          · exact absurd h (by simp)
          · split at h
            · next k _ g' ho =>
              obtain rfl : g' = g := Option.some.inj h
              exact getD_openFlit ho hl hi
            · exact absurd h (by simp)

/-- TYPE, VC and SUB are those of the flit that came. -/
theorem State.hears.header {s : State} {p : Nat} {flit : Flit} {g : List Byte} (h : s.hears p flit g) :
    flTYPE g = flTYPE (flitBytes flit) ∧ flVC g = flVC (flitBytes flit) ∧ flSUB g = flSUB (flitBytes flit) := by
  obtain ⟨-, -, -, hau⟩ := h
  exact header_congr (getD_authentic hau (length_flitBytes flit) (by omega)) (getD_authentic hau (length_flitBytes flit) (by omega))

/-- IDLE and the LINK messages but RATE, QUAR and KEX are not sequenced (Table 9.6). -/
theorem sequenced_of_idle {f : List Byte} (h : flTYPE f = tyIDLE) : sequenced f = false := by
  simp only [sequenced, routed, h]
  rfl

theorem sequenced_of_link {f : List Byte} (h : flTYPE f = tyLINK) (hs : flSUB f ∉ [subRATE, subQUAR, subKEX]) :
    sequenced f = false := by
  simp only [sequenced, routed, h, List.contains_eq_mem, decide_eq_false hs]
  rfl

theorem routed_of_sequenced {f : List Byte} (h : sequenced f = false) : routed f = false := by
  rw [sequenced, Bool.or_eq_false_iff] at h
  exact h.1

/-- An unsequenced flit takes no entry and no place in the session. -/
theorem run_takeEntry_of_unsequenced {f : List Byte} (h : sequenced f = false) (p : Nat) (s : State) :
    run (takeEntry p f) s = s := by
  have hau : ∃ o, s.authentic p f = (o, .nop) := by
    unfold State.authentic
    simp only [isProtected, h, Bool.false_and, Bool.not_false, if_true]
    split <;> exact ⟨_, rfl⟩
  obtain ⟨o, ho⟩ := hau
  simp only [takeEntry, run_dyn, routed_of_sequenced h, Bool.false_and, run_seq, run_when', Bool.false_eq_true, if_false, ho, run_nop]

/-- What an unsequenced flit leaves of the port before its message takes effect, where no LINK message waits. -/
theorem readers_hearBefore {p : Nat} {f : List Byte} {s : State} (h : sequenced f = false) (hw : (s.port p).waiting = []) :
    let t := run (hearBefore p f) s
    t.port p = (s.port p).headed f ∧ ∀ q, t.sentFlits q = s.sentFlits q := by
  rw [hearBefore, run_seq, run_takeEntry_of_unsequenced h]
  exact readers_takeHeader f hw

/-! ### A wrong CRC (R330) -/

theorem not_dark_iff {st : PortState} : ¬ (st = .off ∨ st = .training ∨ st = .failed) ↔ st ≠ .off ∧ st ≠ .training ∧ st ≠ .failed := by
  simp only [not_or, ne_eq]

theorem run_receive_of_unlit {p : Nat} {flit : Flit} {s : State}
    (h : ¬ ((s.port p).st ≠ .off ∧ (s.port p).st ≠ .training ∧ (s.port p).st ≠ .failed)) (found : Found) :
    run (receive p flit found) s = s := by
  rw [receive, run_dyn, if_pos (by rwa [← not_dark_iff, Decidable.not_not] at h), run_nop]

theorem run_receive_of_crc {p : Nat} {flit : Flit} {s : State}
    (h : (s.port p).st ≠ .off ∧ (s.port p).st ≠ .training ∧ (s.port p).st ≠ .failed)
    (hcrc : crc32 ((flitBytes flit).take 0xFC) ≠ leAt (flitBytes flit) 0xFC 4) (found : Found) :
    run (receive p flit found) s = run (when' (sequenced (flitBytes flit)) (sendNak p)) s := by
  rw [receive, run_dyn, if_neg (not_dark_iff.mpr h), if_pos hcrc]

/-- A NAK that is not due is not sent. -/
theorem run_sendNak_early {p n : Nat} {s : State} (h : (s.port p).lastNak = some n) (hn : s.now < n + 1000) :
    run (sendNak p) s = s := by
  simp only [sendNak, run_dyn, h, hn, decide_true, if_true, run_nop]

/-- One that is due is noted and counted. -/
theorem readers_sendNak {p : Nat} {s : State} (h : ∀ n, (s.port p).lastNak = some n → n + 1000 ≤ s.now) :
    let t := run (sendNak p) s
    (t.port p).lastNak = some s.now ∧ (t.port p).rx = (s.port p).rx ∧
      t.fld rLNK_PORT_REPLAY 63 32 p = sat 32 (s.fld rLNK_PORT_REPLAY 63 32 p + 1) := by
  set s₁ := run (modPort p (fun x => { x with lastNak := some s.now })) s with hs₁
  set s₂ := run (addFld rLNK_PORT_REPLAY 63 32 1 p) s₁ with hs₂
  have hrun : run (sendNak p) s = run (emit p (mkFlit tyLINK subNAK (leBytes 2 (s.port p).rx))) s₂ := by
    cases hn : (s.port p).lastNak with
    | none =>
      simp only [sendNak, run_dyn, hn, Bool.false_eq_true, if_false]
      rfl
    | some n =>
      simp only [sendNak, run_dyn, hn, Nat.not_lt.mpr (h n hn), decide_false, Bool.false_eq_true, if_false]
      rfl
  have hcount : (addFld rLNK_PORT_REPLAY 63 32 1 p).Within { flds := [], regs := [rLNK_PORT_REPLAY] } :=
    within_addFld _ _ _ _ (by decide) (by decide)
  have hmod : (modPort p (fun x => { x with lastNak := some s.now })).Within ft_freeEntry := w_modPort _ _ (by decide)
  have hport : s₂.port p = { s.port p with lastNak := some s.now } :=
    (keep_port hcount (by decide) s₁ p).trans (port_modPort_same ..)
  have hemit : (run (emit p (mkFlit tyLINK subNAK (leBytes 2 (s.port p).rx))) s₂).port p = _ :=
    (applyUpd_port s₂ p _ p).trans (if_pos rfl)
  rw [hrun]
  refine ⟨?_, ?_, ?_⟩
  · rw [hemit, hport]
  · rw [hemit, hport]
  · rw [keep_fld (w_emit ..) _ _ _ _ (by decide) (by decide), fld_addFld _ _ _ _ _ _ (by decide) (by decide),
      keep_fld hmod _ _ _ _ (by decide) (by decide)]

/-! ### A check that fails (R355, R357) -/

/-- A flit dropped after a script that only touches the ports. -/
theorem readers_dropped {p lo : Nat} {a : Act} (w : a.Within ft_emit) {s : State} (hq : s.linkQuiet)
    (hc : covers rLNK_PORT_DROP (lo + 11) lo = true) : let t := run settleLocal (run pump (run (dropFlit p lo) (run a s)))
    t.fld rLNK_PORT_DROP (lo + 11) lo p = sat 12 (s.fld rLNK_PORT_DROP (lo + 11) lo p + 1) ∧ t.flag rLNK_ERR 3 = true := by
  have hqa : (run a s).linkQuiet := (linkQuiet_of_within w (by decide) (by decide) (by decide)).keeps s hq
  obtain ⟨⟨hcount, herr⟩, hqt⟩ := readers_dropFlit (p := p) hqa hc
  rw [run_settled_of_quiet hqt]
  exact ⟨by rw [hcount, keep_fld w _ _ _ _ (by decide) (by decide)], herr⟩

/-- A routed flit is heard as routed. -/
theorem hearClear_of_routed {p : Nat} {e : Option (Nat × Nat)} {g : List Byte} (h : routed g = true) :
    hearClear p .clean e g = hearRouted p e g := by
  rw [hearClear, if_pos h, hearStored]
  split <;> rfl

theorem run_hearRouted_none (p : Nat) (g : List Byte) (s : State) : run (hearRouted p none g) s = run (dropFlit p 24) s := rfl

theorem run_hearRouted_misrouted {p : Nat} {e : Nat × Nat} {g : List Byte} {s : State} (h : s.routeOk p g = false) :
    run (hearRouted p (some e) g) s = run (dropFlit p 12) (run (freeEntry (some e)) s) := by
  simp only [hearRouted, run_dyn, Option.isNone_some, Bool.false_eq_true, if_false, h, Bool.not_false, if_true, run_seq]

/-- A routed flit at its destination, in the order in which the model looks. -/
theorem run_hearRouted_home {p : Nat} {e : Nat × Nat} {g : List Byte} {s : State} (h : s.routeOk p g = true)
    (hh : s.live.role p = 1 ∨ flDEST g = s.live.me) :
    run (hearRouted p (some e) g) s = run (if s.streamOk (s.peerFrom p g) g then deliver (s.peerFrom p g) g else dropFlit p 0)
      (run (freeEntry (some e)) s) := by
  simp only [hearRouted, run_dyn, Option.isNone_some, Bool.false_eq_true, if_false, h, Bool.not_true, hh, if_true, run_ite, run_seq]

/-- Check 6 reads the table of routes. -/
theorem routeOk_congr {s t : State} (h : t.live = s.live) (p : Nat) (g : List Byte) : t.routeOk p g = s.routeOk p g := by
  rw [State.routeOk, State.routeOk, h]

theorem peerFrom_congr {s t : State} (h : t.live = s.live) (p : Nat) (g : List Byte) : t.peerFrom p g = s.peerFrom p g := by
  rw [State.peerFrom, State.peerFrom, h]

theorem remotes_congr {s t : State} (h : ∀ k, t.load k = s.load k) (k : Nat) : t.remotes k = s.remotes k := by
  rw [State.remotes, State.remotes, h]

theorem outRecs_congr {s t : State} (h : ∀ k, t.load k = s.load k) (k st : Nat) : t.outRecs k st = s.outRecs k st := by
  rw [State.outRecs, State.outRecs, remotes_congr h]

theorem inRec_congr {s t : State} (h : ∀ k, t.load k = s.load k) (k st : Nat) : t.inRec k st = s.inRec k st := by
  rw [State.inRec, State.inRec, remotes_congr h]

theorem outNumber_congr {s t : State} (h : ∀ k, t.load k = s.load k) (k st : Nat) (peer : List Nat) :
    t.outNumber k st peer = s.outNumber k st peer := by rw [State.outNumber, State.outNumber, outRecs_congr h]

/-- Check 7 reads the loads, the streams and the table. -/
theorem streamOk_congr {s t : State} (hl : t.live = s.live) (hload : ∀ k, t.load k = s.load k)
    (hst : ∀ k, t.stream k = s.stream k) (peer : List Nat) (g : List Byte) : t.streamOk peer g = s.streamOk peer g := by
  simp only [State.streamOk, inRec_congr hload, outNumber_congr hload, remotes_congr hload, hst, hl]

/-- What the checks of a routed flit read is the same after a script that leaves the table, the loads and the streams. -/
theorem checks_of_within {q : Foot} {a : Act} (w : a.Within q) (ht : Fld.top .live ∉ q.flds) (hl : Fld.exh .load ∉ q.flds)
    (hs : Fld.lnk .stream ∉ q.flds) (s : State) : let t := run a s
    t.live = s.live ∧ (∀ p g, t.routeOk p g = s.routeOk p g) ∧ (∀ p g, t.peerFrom p g = s.peerFrom p g) ∧
      ∀ peer g, t.streamOk peer g = s.streamOk peer g :=
  have hlive := keep_live w ht s
  ⟨hlive, routeOk_congr hlive, peerFrom_congr hlive, streamOk_congr hlive (keep_load w hl s) (keep_stream w hs s)⟩

/-- IDLE and KEEPALIVE say nothing more. -/
theorem run_hearClear_idle {p : Nat} {e : Option (Nat × Nat)} {g : List Byte} {found : Found}
    (h : flTYPE g = tyIDLE ∨ (flTYPE g = tyLINK ∧ flSUB g = subKEEPALIVE)) (s : State) : run (hearClear p found e g) s = s := by
  rcases h with ht | ⟨ht, hs⟩
  · simp only [hearClear, routed, ht]
    rfl
  · simp only [hearClear, routed, ht, hearLink, hs]
    rfl

end Sys2Proof.Machine

open Sys2Proof.Machine

/-- Settles O37, check by check: what `receive` does up to the check that fails only touches the ports, and `readers_dropped`
says what the drop shows. -/
theorem flitChecks : Obligations.FlitChecks := by
  intro port flit s p f x drops lit
  refine ⟨fun h => ?_, fun h hcrc => ⟨fun hs => ?_, fun n hs hn hlt => ?_, fun hs hn => ?_⟩, fun hq hacc hf => ?_,
    fun hq hacc hf ha => ?_, fun g hh hf hg hw => ?_, fun g hh hidle hw => ?_⟩
  · exact givesFlit_of_receive (run_receive_of_unlit h .clean)
  · refine givesFlit_of_receive ?_
    rw [run_receive_of_crc h hcrc, hs]
    rfl
  · refine givesFlit_of_receive ?_
    rw [run_receive_of_crc h hcrc, hs]
    exact run_sendNak_early hn hlt
  · refine givesFlit_of_receive ?_
    rw [run_receive_of_crc h hcrc, hs]
    exact readers_sendNak hn
  · obtain ⟨a, w, hrun⟩ := run_inspect_malformed hf .clean (run (takeHeader p f) s)
    refine givesFlit_of_receive ?_
    rw [run_receive_accepts hacc, hrun]
    exact readers_dropped (a := .seq (takeHeader p f) a) (.seq (w_takeHeader p f) (w.mono (by decide))) hq (by decide)
  · have hau : ((run (takeHeader p f) s).authentic p f).1 = none := by
      rw [authentic_congr ((onlySends_takeHeader p f).port s p), ha]
    refine givesFlit_of_receive ?_
    rw [run_receive_accepts hacc, run_inspect_forged hf hau]
    exact readers_dropped (a := .seq (hearBefore p f) (freeEntry ((run (takeHeader p f) s).entryOf p f)))
      (.seq (w_hearBefore p f) ((w_freeEntry _).mono (by decide))) hq (by decide)
  · obtain ⟨hlive, hroute, hpeer, hstream⟩ := checks_of_within (w_hearBefore p f) (by decide) (by decide) (by decide) s
    have hfree : (Act.seq (hearBefore p f) (freeEntry (some (p, flVC f)))).Within ft_emit :=
      .seq (w_hearBefore p f) ((w_freeEntry _).mono (by decide))
    refine ⟨fun hc => ?_, fun hc hr => ?_, fun hc hr home hs => ?_⟩
    · refine givesFlit_of_receive ?_
      rw [run_receive_hears hh, entryOf_of_unpaid hw hc, hearClear_of_routed hg, run_hearRouted_none]
      exact readers_dropped (w_hearBefore p f) hh.1 (by decide)
    · refine givesFlit_of_receive ?_
      rw [run_receive_hears hh, entryOf_of_paid hf hc, hearClear_of_routed hg, run_hearRouted_misrouted ((hroute p g).trans hr)]
      exact readers_dropped hfree hh.1 (by decide)
    · refine givesFlit_of_receive ?_
      rw [run_receive_hears hh, entryOf_of_paid hf hc, hearClear_of_routed hg,
        run_hearRouted_home ((hroute p g).trans hr) (by rwa [hlive]), hstream, hpeer, if_neg (by rw [hs]; exact Bool.false_ne_true)]
      exact readers_dropped hfree hh.1 (by decide)
  · obtain ⟨hty, -, hsub⟩ := hh.header
    have hseq : sequenced f = false := by
      rcases hidle with ht | ⟨ht, hs⟩
      · exact sequenced_of_idle (hty.symm.trans ht)
      · exact sequenced_of_link (hty.symm.trans ht) (by rw [← hsub, hs]; decide)
    have hport := (readers_hearBefore (p := p) hseq hw).1
    refine givesFlit_of_receive ?_
    rw [run_receive_hears hh, run_hearClear_idle hidle, run_settled_of_quiet ((linkQuiet_hearBefore p f).keeps s hh.1), hport]
    refine ⟨rfl, ?_, rfl, rfl⟩
    simp only [Port.headed, hseq, Bool.false_eq_true, if_false]
    rfl
end

section
/-!
SUPPORT. Chapter 09: LINK messages: HELLO, RATE, QUAR, NAK and the messages of module time.
-/

set_option Elab.async false

namespace Sys2Proof.Machine

/-! ### A LINK message that is heard -/

theorem hearClear_of_link {p : Nat} {found : Found} {e : Option (Nat × Nat)} {g : List Byte} (h : flTYPE g = tyLINK) :
    hearClear p found e g = hearLink p found g := by
  simp only [hearClear, routed, h]
  rfl

theorem run_receive_link {p : Nat} {flit : Flit} {s : State} {g : List Byte} (h : s.hears p flit g) (ht : flTYPE g = tyLINK)
    (found : Found) : run (receive p flit found) s =
      run settleLocal (run pump (run (hearLink p found g) (run (hearBefore p (flitBytes flit)) s))) := by
  rw [run_receive_hears h, hearClear_of_link ht]

/-- Where nothing is left to be sent and taken, the message's own effect is all. -/
theorem run_receive_link_of_quiet {p : Nat} {flit : Flit} {s : State} {g : List Byte} (h : s.hears p flit g) (ht : flTYPE g = tyLINK)
    {found : Found} (hq : (hearLink p found g).Preserves State.linkQuiet) :
    run (receive p flit found) s = run (hearLink p found g) (run (hearBefore p (flitBytes flit)) s) := by
  rw [run_receive_link h ht, run_settled_of_quiet (hq.keeps _ ((linkQuiet_hearBefore p _).keeps s h.1))]

/-- A port that hears a flit is in a state that carries it. -/
theorem State.hears.carried {s : State} {p : Nat} {flit : Flit} {g : List Byte} (h : s.hears p flit g) :
    stateCarries (s.port p).st (flitBytes flit) = true := h.2.1.1

/-- Fields of a port that neither sending nor authentication changes. -/
theorem fields_of_talk {x y : Port} (h : x.talk = y.talk) : x.st = y.st ∧ x.far = y.far ∧ x.kex = y.kex ∧ x.encReq = y.encReq ∧
    x.toldLow = y.toldLow ∧ x.session = y.session ∧ x.enc = y.enc := by
  have hst : x.talk.st = y.talk.st := congrArg Port.st h
  have hfar : x.talk.far = y.talk.far := congrArg Port.far h
  have hkex : x.talk.kex = y.talk.kex := congrArg Port.kex h
  have hreq : x.talk.encReq = y.talk.encReq := congrArg Port.encReq h
  have hlow : x.talk.toldLow = y.talk.toldLow := congrArg Port.toldLow h
  have hses : x.talk.session = y.talk.session := congrArg Port.session h
  have henc : x.talk.enc = y.talk.enc := congrArg Port.enc h
  exact ⟨hst, hfar, hkex, hreq, hlow, hses, henc⟩

/-- What this end wants of the rate reads no port. -/
theorem wantsLow_of_within {q : Foot} {a : Act} (w : a.Within q) (hn : Fld.pwr .nwSt ∉ q.flds) (hu : Fld.upd .updSt ∉ q.flds)
    (hr : rLNK_PORT_CTL ∉ q.regs) (s : State) (p : Nat) : (run a s).wantsLow p = s.wantsLow p := by
  rw [State.wantsLow, State.wantsLow, keep_nwSt w hn, keep_updSt w hu, keep_flag w _ _ _ (by decide) hr]

/-! ### HELLO (R342, R465) -/

theorem hearLink_hello {p : Nat} {found : Found} {g : List Byte} (h : flSUB g = subHELLO) : hearLink p found g =
    .seq (modPort p (fun x => { x with far := byteSlice g 0x08 28 }))
      (.dyn fun s => if (s.port p).st = .checking then checkHello p
        else if (s.port p).carries then
          .seq (modPort p (fun x => { x with farLow := (leAt x.far 0x15 1).testBit 1 })) (settleRate p)
        else .nop) := by
  rw [hearLink, h]
  rfl

/-- The checks of a HELLO read the table and the far end's HELLO. -/
theorem helloFault_congr {s t : State} {p : Nat} (hl : t.live = s.live) (hf : (t.port p).far = (s.port p).far) :
    t.helloFault p = s.helloFault p := by rw [State.helloFault, State.helloFault, hl, hf]

theorem run_checkHello_fault {p : Nat} {s : State} (h : s.helloFault p ≠ 0) :
    run (checkHello p) s = run (quarantine p (s.helloFault p) true) s := by rw [checkHello, run_dyn, if_pos h]

theorem run_checkHello_open {p : Nat} {s : State} (h : s.helloFault p = 0) (hreq : (s.port p).encReq = false)
    (hbit : (leAt (s.port p).far 0x15 1).testBit 0 = false) : run (checkHello p) s = run (activate p) s := by
  rw [checkHello, run_dyn, if_neg (not_not_intro h), if_neg (by rw [hreq, hbit]; exact Bool.false_ne_true)]

/-- The port in service. -/
def Port.activated (x : Port) (low : Bool) : Port :=
  { x with
    st := if low || (leAt x.far 0x15 1).testBit 1 then .lowRate else .active
    farLow := (leAt x.far 0x15 1).testBit 1, toldLow := low, version := min 3 (leAt x.far 7 1)
    credits := List.replicate 4 1536, partner := List.replicate 4 1536, freed := List.replicate 4 0 }

theorem port_activate (p : Nat) (s : State) : (run (activate p) s).port p = (s.port p).activated (s.wantsLow p) := by
  have wrest : (seqs [setFld rLNK_PORT_CTL 61 61 0 p, pauseBundle p]).Within
      { flds := [.lnk .pausedBundles], regs := [rLNK_PORT_CTL] } :=
    .seq (within_setFld _ _ _ _ (by decide) (by decide)) ((w_pauseBundle p).mono (by decide))
  exact (keep_port wrest (by decide) _ p).trans (port_modPort_same ..)

theorem carries_activated (x : Port) (low : Bool) : (x.activated low).carries = true := by
  unfold Port.carries Port.activated
  dsimp only
  split <;> rfl

theorem linkQuiet_activate (p : Nat) : (activate p).Preserves State.linkQuiet :=
  linkQuiet_of_within (w_activate p) (by decide) (by decide) (by decide)

/-! ### Rates (R354) -/

/-- The port at the rate that both ends' requests give. -/
def Port.rated (x : Port) : Port :=
  if x.st = .active ∧ (x.toldLow || x.farLow) = true then { x with st := .lowRate, retraining := false }
  else if x.st = .lowRate then { x with retraining := !(x.toldLow || x.farLow) } else x

theorem port_settleRate (p : Nat) (s : State) : (run (settleRate p) s).port p = (s.port p).rated := by
  by_cases ha : (s.port p).st = .active ∧ ((s.port p).toldLow || (s.port p).farLow) = true
  · simp only [settleRate, run_dyn, Port.rated, if_pos ha, run_seq]
    rw [keep_port (w_pauseBundle p) (by decide), port_modPort_same]
  · by_cases hl : (s.port p).st = .lowRate
    · simp only [settleRate, run_dyn, Port.rated, if_neg ha, if_pos hl]
      rw [port_modPort_same]
    · simp only [settleRate, run_dyn, Port.rated, if_neg ha, if_neg hl, run_nop]

theorem linkQuiet_settleRate (p : Nat) : (settleRate p).Preserves State.linkQuiet :=
  linkQuiet_of_within (w_settleRate p) (by decide) (by decide) (by decide)

theorem linkQuiet_modPort (p : Nat) (f : Port → Port) : (modPort p f).Preserves State.linkQuiet :=
  linkQuiet_of_within (w_modPort (p := ft_freeEntry) _ _ (by decide)) (by decide) (by decide) (by decide)

/-- The far end's HELLO and its request stay. -/
theorem far_rated (x : Port) : x.rated.far = x.far ∧ x.rated.farLow = x.farLow := by
  unfold Port.rated
  split
  · exact ⟨rfl, rfl⟩
  · split <;> exact ⟨rfl, rfl⟩

/-- A low request takes an ACTIVE port to LOW_RATE. -/
theorem st_rated {x : Port} (h : x.st = .active) (hl : (x.toldLow || x.farLow) = true) : x.rated.st = .lowRate := by
  rw [Port.rated, if_pos ⟨h, hl⟩]

theorem hearLink_rate {p : Nat} {found : Found} {g : List Byte} (h : flSUB g = subRATE) : hearLink p found g =
    .seq (modPort p (fun x => { x with farLow := decide (leAt g 0x08 1 = 1) })) (settleRate p) := by
  rw [hearLink, h]
  rfl

/-! ### QUAR (R342) -/

theorem hearLink_quar {p : Nat} {found : Found} {g : List Byte} (h : flSUB g = subQUAR) :
    hearLink p found g = quarantine p (leAt g 0x08 1 % 16) false := by
  rw [hearLink, h]
  rfl

/-! ### NAK (R331, R367) -/

theorem hearLink_nak {p : Nat} {found : Found} {g : List Byte} (h : flSUB g = subNAK) :
    hearLink p found g = resendStored p found (leAt g 0x08 2) := by
  rw [hearLink, h]
  rfl

/-- Flits that the port keeps before `seq`, and those that it resends. -/
def Port.kept (x : Port) (seq : Nat) : List Held := x.replay.takeWhile (fun r => decide (r.seq ≠ seq))
def Port.again (x : Port) (seq : Nat) : List Held := x.replay.drop (x.kept seq).length

theorem again_eq_dropWhile (x : Port) (seq : Nat) : x.again seq = x.replay.dropWhile (fun r => decide (r.seq ≠ seq)) := by
  have h := List.takeWhile_append_dropWhile (p := fun r : Held => decide (r.seq ≠ seq)) (l := x.replay)
  have hd := List.drop_left (l₁ := x.replay.takeWhile (fun r => decide (r.seq ≠ seq)))
    (l₂ := x.replay.dropWhile (fun r => decide (r.seq ≠ seq)))
  rwa [h] at hd

/-- The flits sent again, one more time each. -/
def bumped (l : List Held) : List Held := l.map (fun r => { r with resent := r.resent + 1 })

/-- What resending does while no flit has been resent too often. -/
def resendSends (p seq : Nat) (x : Port) : Act :=
  seqs [modPort p (fun y => { y with replay := x.kept seq ++ bumped (x.again seq) }),
    addFld rLNK_PORT_REPLAY 31 0 (bumped (x.again seq)).length p, each (bumped (x.again seq)) (fun r => emit p r.bytes)]

theorem w_resendSends (p seq : Nat) (x : Port) : (resendSends p seq x).Within ft_sendNak :=
  .seq (w_modPort _ _ (by decide)) (.seq (within_addFld _ _ _ _ (by decide) (by decide))
    (within_each _ fun _ => (w_emit ..).mono (by decide)))

theorem linkQuiet_resendSends (p seq : Nat) (x : Port) : (resendSends p seq x).Preserves State.linkQuiet :=
  linkQuiet_of_within (w_resendSends p seq x) (by decide) (by decide) (by decide)

theorem run_resendFrom {p seq : Nat} {s : State} (h : ∀ r ∈ (s.port p).again seq, r.resent < 7) :
    run (resendFrom p seq) s = run (resendSends p seq (s.port p)) s := by
  have hfew : (bumped ((s.port p).again seq)).any (fun r => decide (8 ≤ r.resent)) = false := by
    simp only [bumped, List.any_map, List.any_eq_false, Function.comp_apply, decide_eq_true_eq]
    intro r hr
    have := h r hr
    omega
  have hrun : run (resendFrom p seq) s = run (when' ((bumped ((s.port p).again seq)).any (fun r => decide (8 ≤ r.resent)))
    (failPort p rsREPLAY)) (run (resendSends p seq (s.port p)) s) := rfl
  rw [hrun, hfew]
  rfl

/-- Putting a flit on the fibre leaves the replay buffer. -/
theorem replay_emit (p : Nat) (f : List Byte) (s : State) : ((run (emit p f) s).port p).replay = (s.port p).replay := by
  have hport : (run (emit p f) s).port p = _ := (applyUpd_port s p _ p).trans (if_pos rfl)
  rw [hport]

/-- What is in the replay buffer after it, and how LNK_PORT_REPLAY counts it. -/
theorem readers_resendSends (p seq : Nat) (x : Port) (s : State) : let t := run (resendSends p seq x) s
    (t.port p).replay = x.kept seq ++ bumped (x.again seq) ∧
      t.fld rLNK_PORT_REPLAY 31 0 p = sat 32 (s.fld rLNK_PORT_REPLAY 31 0 p + (x.again seq).length) := by
  set s₁ := run (modPort p (fun y => { y with replay := x.kept seq ++ bumped (x.again seq) })) s with hs₁
  set s₂ := run (addFld rLNK_PORT_REPLAY 31 0 (bumped (x.again seq)).length p) s₁ with hs₂
  have hrun : run (resendSends p seq x) s = run (each (bumped (x.again seq)) (fun r => emit p r.bytes)) s₂ := rfl
  have wmod : (modPort p (fun y => { y with replay := x.kept seq ++ bumped (x.again seq) })).Within ft_freeEntry :=
    w_modPort _ _ (by decide)
  have wcount : (addFld rLNK_PORT_REPLAY 31 0 (bumped (x.again seq)).length p).Within { flds := [], regs := [rLNK_PORT_REPLAY] } :=
    within_addFld _ _ _ _ (by decide) (by decide)
  have wsend : (each (bumped (x.again seq)) (fun r => emit p r.bytes)).Within ft_emit := within_each _ fun _ => w_emit ..
  have hreplay : ∀ (l : List Held) (t : State), ((run (each l (fun r => emit p r.bytes)) t).port p).replay = (t.port p).replay :=
    fun l t => run_each_keep (fun t => (t.port p).replay) (fun r t => replay_emit p r.bytes t) l t
  rw [hrun]
  refine ⟨?_, ?_⟩
  · rw [hreplay, hs₂, keep_port wcount (by decide), hs₁, port_modPort_same]
  · rw [keep_fld wsend _ _ _ _ (by decide) (by decide), hs₂, fld_addFld _ _ _ _ _ _ (by decide) (by decide), hs₁,
      keep_fld wmod _ _ _ _ (by decide) (by decide), bumped, List.length_map]

theorem run_resendStored_clean (p seq : Nat) (s : State) : run (resendStored p .clean seq) s = run (resendFrom p seq) s := by
  simp only [resendStored, run_dyn, ite_self]

/-- With a flit to resend, a corrected error is logged first, and an uncorrectable one fails the port. -/
theorem run_resendStored {p seq : Nat} {s : State} (h : (s.port p).again seq ≠ []) :
    run (resendStored p .corrected seq) s =
      run (resendFrom p seq) (run (incident { cls := .A, blk := blkLNK, locus := p }) s) ∧
    run (resendStored p .uncorrectable seq) s = run (failPort p rsREPLAY) s := by
  have hne : ¬ ((s.port p).replay.dropWhile (fun r => decide (r.seq ≠ seq))).isEmpty = true := by
    rw [← again_eq_dropWhile, List.isEmpty_iff]
    exact h
  simp only [resendStored, run_dyn, hne, Bool.false_eq_true, if_false, run_seq, and_self]

/-! ### TIME_REQ and TIME_RESP (R361) -/

theorem hearLink_timeReq {p : Nat} {found : Found} {g : List Byte} (h : flSUB g = subTIMEREQ) :
    hearLink p found g = when' (decide (p < 24)) (answerTime p (leAt g 0x08 8)) := by
  rw [hearLink, h]
  rfl

theorem hearLink_timeResp {p : Nat} {found : Found} {g : List Byte} (h : flSUB g = subTIMERESP) :
    hearLink p found g = hearTime p (leAt g 0x08 8) (leAt g 0x10 8) (leAt g 0x18 8) := by
  rw [hearLink, h]
  rfl

/-- A time stamp reads module time. -/
theorem stamp_of_within {q : Foot} {a : Act} (w : a.Within q) (hn : Fld.now ∉ q.flds) (hf : Fld.top .timeFrac ∉ q.flds)
    (s : State) : (run a s).stamp = s.stamp := by rw [State.stamp, State.stamp, keep_now w hn, keep_timeFrac w hf]

theorem run_answerTime {p t1 : Nat} {s : State} (h : s.updSt ≠ .pause) : run (answerTime p t1) s =
    run (sendFree p (mkFlit tyLINK subTIMERESP (leBytes 8 t1 ++ leBytes 8 s.stamp ++ leBytes 8 s.stamp))) s := by
  rw [answerTime, run_dyn, if_neg h]

theorem run_answerTime_pause {p t1 : Nat} {s : State} (h : s.updSt = .pause) : run (answerTime p t1) s = s := by
  rw [answerTime, run_dyn, if_pos h, run_nop]

/-- What follows an offset's record leaves it. -/
def ft_followOffset : Foot :=
  { ft_takeOffset with flds := [.now, .log .logWr, .log .logLost, .log .logIntake, .log .ibiHold, .log .ibiWait, .out .ibis,
      .top .timeLocked, .top .timeGood, .top .slewLeft, .top .slewFrac, .top .timeBehind] }

theorem timeOffset_takeOffset (ns : Int) (s : State) : (run (takeOffset ns) s).timeOffset = ns := by
  have wslew : (Act.seq (when' (decide (ns < -10000) || decide (10000 < ns)) (incA blkTOP 2)) (.upd (.slewLeft ns))).Within
      ft_followOffset :=
    .seq (within_when' (w_incA _ _ _ (by decide) (errOk_any (by decide)))) (within_upd ⟨_, rfl, by decide⟩)
  have wstep : ∀ c : State → Bool, (Act.seq (stepTime ((s.now : Int) + ns)) (whenS c (.upd (.timeLocked true)))).Within
      ft_followOffset := fun c =>
    .seq ((w_stepTime _).mono (by decide)) (within_whenS (within_upd ⟨_, rfl, by decide⟩))
  have wgood : (Act.upd (.timeGood (decide (-5 ≤ ns) && decide (ns ≤ 5)))).Within ft_followOffset := within_upd ⟨_, rfl, by decide⟩
  have wrest := Act.Within.seq wgood (within_ite (c := s.timeLocked = true) wslew (wstep fun t =>
    (decide (-5 ≤ ns) && decide (ns ≤ 5)) && s.timeGood && decide (t.timeBehind = 0)))
  exact (keep_timeOffset wrest (by decide) (applyUpd (.timeOffset ns) s)).trans rfl

/-- A response from the parent gives the offset. -/
theorem timeOffset_hearTime (p t1 t2 t3 : Nat) (s : State) : (run (hearTime p t1 t2 t3) s).timeOffset =
    if s.isRoot = false ∧ s.timeParent = p then (((t2 : Int) - (t1 : Int)) - ((s.stamp : Int) - (t3 : Int))) / 8
    else s.timeOffset := by
  have hc : (!s.isRoot && decide (s.timeParent = p)) = true ↔ s.isRoot = false ∧ s.timeParent = p := by
    rw [Bool.and_eq_true, Bool.not_eq_true', decide_eq_true_eq]
  rw [hearTime, run_dyn]
  by_cases h : s.isRoot = false ∧ s.timeParent = p
  · rw [if_pos (hc.mpr h), if_pos h, timeOffset_takeOffset]
  · rw [if_neg (mt hc.mp h), if_neg h, run_nop]

end Sys2Proof.Machine
end

section
/-!
SUPPORT. Chapter 09 and chapter 13: the key exchange on a link; O38.
-/

set_option Elab.async false

namespace Sys2Proof.Machine

/-! ### An incident between two scripts that leave the log -/

/-- What the record of an incident reads. -/
def logFlds : List Fld := [.log .logWr, .log .logIntake, .log .logLost, .now]

theorem logged_between {x : Inc} {q r : Foot} {a b : Act} (wa : a.Within q) (wb : b.Within r)
    (ha : ∀ f ∈ logFlds, f ∉ q.flds) (hb : ∀ f ∈ logFlds, f ∉ r.flds) (hra : rINT_CNT ∉ q.regs) (hrb : rINT_CNT ∉ r.regs)
    (s : State) : s.logged (run b (run (incident x) (run a s))) x := by
  have h := logged_incident x (run a s)
  simp only [logFlds, List.forall_mem_cons, List.not_mem_nil, false_implies, implies_true, and_true] at ha hb
  obtain ⟨ha1, ha2, ha3, ha4⟩ := ha
  obtain ⟨hb1, hb2, hb3, hb4⟩ := hb
  simp only [State.logged, keep_logWr wa ha1, keep_logIntake wa ha2, keep_logLost wa ha3, keep_now wa ha4,
    keep_fld wa _ _ _ _ (show rINT_CNT < 2 ^ 24 by decide) hra] at h
  simpa only [State.logged, keep_logWr wb hb1, keep_logIntake wb hb2, keep_logLost wb hb3,
    keep_fld wb _ _ _ _ (show rINT_CNT < 2 ^ 24 by decide) hrb] using h

/-! ### An exchange that fails (R359, R468) -/

/-- A port in quarantine, whether or not it was before. -/
theorem readers_quarantine {p reason : Nat} {tell : Bool} {s : State} (hq : s.linkQuiet) : let t := run (quarantine p reason tell) s
    (t.port p).st = .quarantined ∧ (t.port p).reason = reason ∧ ((s.port p).kex = {} → (t.port p).kex = {}) := by
  by_cases h : (s.port p).st = .quarantined
  · rw [quarantine, run_dyn, if_pos h]
    dsimp only
    rw [port_modPort_same]
    exact ⟨h, rfl, id⟩
  · obtain ⟨hport, -, -⟩ := readers_shutPort p reason tell (s.port p).carries s
    rw [run_quarantine hq h]
    have hkex : ((run (shutPort p reason tell (s.port p).carries) s).port p).sans.kex = ((s.port p).shut reason).sans.kex :=
      congrArg Port.kex hport
    have hreason : ((run (shutPort p reason tell (s.port p).carries) s).port p).sans.reason = ((s.port p).shut reason).sans.reason :=
      congrArg Port.reason hport
    exact ⟨st_of_sans hport, hreason, fun _ => hkex⟩

theorem readers_failKex {p : Nat} {s : State} (hq : s.linkQuiet) : let t := run (failKex p) s
    (t.flag rSEC_ERR 5 = true ∧ (t.port p).kex = {} ∧
      ((s.port p).st = .checking → (t.port p).st = .quarantined ∧ (t.port p).reason = rsCRYPTO)) ∧
    ((s.port p).st ≠ .checking → s.rekeyDue p = false → (t.port p).st = (s.port p).st) ∧ t.linkQuiet := by
  set s₁ := run (setErr blkSEC 5) s with hs₁
  set s₂ := run (modPort p (fun x => { x with kex := {} })) s₁ with hs₂
  have werr : (setErr blkSEC 5).Within { flds := [], regs := [rSEC_ERR] } := w_setErr _ _ (errOk_any (by decide))
  have wmod : (modPort p (fun x => { x with kex := {} })).Within ft_freeEntry := w_modPort _ _ (by decide)
  have hrun : run (failKex p) s =
      run (when' (decide ((s.port p).st = .checking) || s.rekeyDue p) (quarantine p rsCRYPTO true)) s₂ := rfl
  have hport : s₂.port p = { s.port p with kex := {} } := by rw [hs₂, port_modPort_same, hs₁, keep_port werr (by decide)]
  have hq₂ : s₂.linkQuiet := (linkQuiet_of_within wmod (by decide) (by decide) (by decide)).keeps _
    ((linkQuiet_of_within werr (by decide) (by decide) (by decide)).keeps s hq)
  have herr₂ : s₂.flag rSEC_ERR 5 = true := by
    rw [hs₂, keep_flag wmod _ _ _ (by decide) (by decide)]
    exact flag_orReg_bit (off := rSEC_ERR) (by decide) (by decide) s
  obtain ⟨hst, hreason, hkex⟩ := readers_quarantine (p := p) (reason := rsCRYPTO) (tell := true) hq₂
  rw [hrun, run_when']
  cases hc : decide ((s.port p).st = .checking) || s.rekeyDue p with
  | true =>
    rw [if_pos rfl]
    refine ⟨⟨?_, hkex (by rw [hport]), fun _ => ⟨hst, hreason⟩⟩, fun hne hdue => ?_, (linkQuiet_quarantine ..).keeps s₂ hq₂⟩
    · rw [keep_flag (w_quarantine ..) _ _ _ (by decide) (by decide), herr₂]
    · rw [hdue, Bool.or_false, decide_eq_true_eq] at hc
      exact absurd hc hne
  | false =>
    rw [if_neg Bool.false_ne_true]
    refine ⟨⟨herr₂, by rw [hport], fun h => ?_⟩, fun _ _ => by rw [hport], hq₂⟩
    rw [h, decide_eq_true rfl, Bool.true_or] at hc
    exact absurd hc Bool.noConfusion

/-! ### A fragment (R466, R468) -/

/-- Fragments of a message. -/
def kexFrags (kind : Nat) : Nat := max 1 (cdiv (kexBytes kind) 228)

/-- The exchange as a fragment finds it: the first of a message starts it. -/
def Port.kexPart (x : Port) (g : List Byte) : Kex :=
  if leAt g 0x09 1 = 0 then { x.kex with kind := leAt g 0x08 1, frag := 0, msg := [] } else x.kex

/-- The message as far as the fragment brings it. -/
def Port.kexMsg (x : Port) (g : List Byte) : List Byte :=
  (x.kexPart g).msg ++ byteSlice g 0x18 (min 228 (kexBytes (leAt g 0x08 1) - 228 * leAt g 0x09 1))

/-- The fragment is the one that comes next. -/
def State.kexFits (s : State) (p : Nat) (g : List Byte) : Prop :=
  let kind := leAt g 0x08 1
  let i := leAt g 0x09 1
  s.kexTurn p kind = true ∧ ((s.port p).kexPart g).kind = kind ∧ ((s.port p).kexPart g).frag = i ∧ i < kexFrags kind ∧
    leAt g 0x0A 1 = kexFrags kind ∧ leAt g 0x14 2 = min 228 (kexBytes kind - 228 * i) ∧ leAt g 0x10 4 = (s.port p).session ∧
    (kind = 1 ∨ kind = 4 ∨ leAt g 0x0C 4 = ((s.port p).kexPart g).cred)

theorem hearLink_kex {p : Nat} {found : Found} {g : List Byte} {s : State} (h : flSUB g = subKEX) (hf : (s.port p).far ≠ []) :
    run (hearLink p found g) s = run (hearKex p g) s := by
  have hlink : hearLink p found g = whenS (fun s => decide ((s.port p).far ≠ [])) (hearKex p g) := by
    rw [hearLink, h]
    rfl
  rw [hlink, run_whenS, decide_eq_true hf, if_pos rfl]

theorem run_hearKex_malformed {p : Nat} {g : List Byte} {s : State} (h : ¬ s.kexFits p g) :
    run (hearKex p g) s = run (failKex p) s := by
  rw [hearKex, run_dyn]
  refine congrFun (congrArg run (if_neg fun hc => h ?_)) s
  simp only [Bool.and_eq_true, Bool.or_eq_true, decide_eq_true_eq, and_assoc, or_assoc] at hc
  exact hc

/-- A fragment that fits joins its message; the last completes it. -/
theorem run_hearKex_fits {p : Nat} {g : List Byte} {s : State} (h : s.kexFits p g) : run (hearKex p g) s =
    run (when' (decide (leAt g 0x09 1 + 1 = kexFrags (leAt g 0x08 1)))
      (.seq (modPort p (fun x => { x with kex := { x.kex with msg := [], frag := 0 } }))
        (kexMessage p (leAt g 0x08 1) (leAt g 0x0C 4) ((s.port p).kexMsg g))))
      (run (modPort p (fun x => { x with kex := { (s.port p).kexPart g with
        on := decide (leAt g 0x08 1 ≠ 4) || ((s.port p).kexPart g).on, frag := leAt g 0x09 1 + 1, msg := (s.port p).kexMsg g } })) s) := by
  rw [hearKex, run_dyn]
  refine (congrFun (congrArg run (if_pos ?_)) s).trans rfl
  simp only [Bool.and_eq_true, Bool.or_eq_true, decide_eq_true_eq, and_assoc, or_assoc]
  exact h

/-- Whether a fragment fits depends on the exchange and on the far end. -/
theorem kexFits_congr {s t : State} {p : Nat} (h : (t.port p).talk = (s.port p).talk) (hi : t.ident = s.ident) (g : List Byte) :
    (t.kexFits p g ↔ s.kexFits p g) ∧ (t.port p).kexPart g = (s.port p).kexPart g ∧ (t.port p).kexMsg g = (s.port p).kexMsg g := by
  obtain ⟨-, hfar, hkex, -, -, hses, henc⟩ := fields_of_talk h
  have hpart : (t.port p).kexPart g = (s.port p).kexPart g := by rw [Port.kexPart, Port.kexPart, hkex]
  have hmsg : (t.port p).kexMsg g = (s.port p).kexMsg g := by rw [Port.kexMsg, Port.kexMsg, hpart]
  have hturn : ∀ kind, t.kexTurn p kind = s.kexTurn p kind := fun kind => by
    simp only [State.kexTurn, State.startsKex, hfar, hkex, henc, hi]
  exact ⟨by simp only [State.kexFits, hturn, hpart, hses], hpart, hmsg⟩

/-! ### An OFFER (R467 steps 2 to 5) -/

theorem kex_sendKex (p kind : Nat) (msg : List Byte) (s : State) : ((run (sendKex p kind msg) s).port p).kex = (s.port p).kex :=
  have h := (onlySends_sendKex p kind msg).port s p
  (congrArg Port.kex h : ((run (sendKex p kind msg) s).port p).sans.kex = (s.port p).sans.kex)

/-- What the responder does with a credential slot and the draw `n`. -/
def answerOffer (p slot cred n : Nat) (secret ek : List Byte) : Act :=
  seqs [modPort p (fun x => { x with kex := { on := true, slot := slot, cred := cred, secret := secret, ek := ek } }),
    sendKex p 2 ((List.range 1088).map (Config.kemCipher ek n)),
    formKeys p ((List.range 1088).map (Config.kemCipher ek n)) ((List.range 32).map (Config.kemShared ek n)), sendConfirm p]

theorem run_acceptKex {p cred slot : Nat} {ek : List Byte} {s : State}
    (h : [0, 1].find? (fun i => (s.cred i).valid && decide ((s.cred i).id = cred)) = some slot) :
    run (acceptKex p cred ek) s =
      run (answerOffer p slot cred s.fresh (s.cred slot).bytes ek) (applyUpd (.fresh (s.fresh + 1)) s) := by
  have hfresh : [0, 1].find? (fun i => ((applyUpd (.fresh (s.fresh + 1)) s).cred i).valid &&
      decide (((applyUpd (.fresh (s.fresh + 1)) s).cred i).id = cred)) = some slot := h
  simp only [acceptKex, run_withFresh, run_dyn, hfresh]
  rfl

theorem w_answerOffer (p slot cred n : Nat) (secret ek : List Byte) : (answerOffer p slot cred n secret ek).Within ft_emit :=
  .seq (w_modPort _ _ (by decide)) (.seq (w_sendKex ..) (.seq ((w_formKeys ..).mono (by decide)) (w_sendConfirm p)))

/-- The responder has formed the keys. -/
theorem readers_answerOffer (p slot cred n : Nat) (secret ek : List Byte) (s : State) :
    let k := ((run (answerOffer p slot cred n secret ek) s).port p).kex
    k.formed = true ∧ k.slot = slot ∧ k.ek = ek := by
  set s₁ := run (modPort p (fun x => { x with kex := { on := true, slot := slot, cred := cred, secret := secret, ek := ek } })) s with hs₁
  set s₂ := run (sendKex p 2 ((List.range 1088).map (Config.kemCipher ek n))) s₁ with hs₂
  set s₃ := run (formKeys p ((List.range 1088).map (Config.kemCipher ek n)) ((List.range 32).map (Config.kemShared ek n))) s₂ with hs₃
  have hrun : run (answerOffer p slot cred n secret ek) s = run (sendKex p 3 (s₃.port p).kex.msg)
      (run (modPort p (fun x => { x with kex := { x.kex with msg := [] } })) s₃) := rfl
  have h₂ : (s₂.port p).kex = { on := true, slot := slot, cred := cred, secret := secret, ek := ek } := by
    rw [hs₂, kex_sendKex, hs₁, port_modPort_same]
  have h₃ : (s₃.port p).kex.formed = true ∧ (s₃.port p).kex.slot = (s₂.port p).kex.slot ∧ (s₃.port p).kex.ek = (s₂.port p).kex.ek := by
    rw [hs₃, formKeys, port_modPort_same]
    exact ⟨rfl, rfl, rfl⟩
  rw [h₂] at h₃
  rw [hrun, kex_sendKex, port_modPort_same]
  exact h₃

theorem run_kexMessage_offer (p cred : Nat) (msg : List Byte) (s : State) :
    run (kexMessage p 1 cred msg) s = run (acceptKex p cred msg) s := rfl

/-! ### A CONFIRM (R467 step 6) -/

theorem run_kexMessage_confirm (p cred : Nat) (msg : List Byte) (s : State) : run (kexMessage p 3 cred msg) s =
    run (if msg = hmac (s.port p).kex.theirs (s.port p).kex.th then startSession p else failKex p) s := rfl

/-- The session that starts. -/
theorem readers_startSession (p : Nat) (s : State) : let t := run (startSession p) s; let x := s.port p
    (t.port p).enc = true ∧ (t.port p).session = x.session + 1 ∧ (t.port p).txKeys = x.kex.txKeys ∧ (t.port p).kex = {} ∧
      (x.st = .checking → (t.port p).carries = true) := by
  obtain ⟨y, hrun, hst, henc, hses, htx, hkex⟩ : ∃ y : Port, run (startSession p) s =
      run (when' (decide ((s.port p).st = .checking)) (activate p)) (applyUpd (.port p y) s) ∧ y.st = (s.port p).st ∧
      y.enc = true ∧ y.session = (s.port p).session + 1 ∧ y.txKeys = (s.port p).kex.txKeys ∧ y.kex = {} := by
    refine ⟨_, rfl, ?_⟩
    split
    · next henc => exact ⟨rfl, henc, rfl, rfl, rfl⟩
    · exact ⟨rfl, rfl, rfl, rfl, rfl⟩
  have hport : (applyUpd (.port p y) s).port p = y := (applyUpd_port s p y p).trans (if_pos rfl)
  rw [hrun, run_when']
  dsimp only
  split
  · rw [port_activate, hport]
    exact ⟨henc, hses, htx, hkex, fun _ => carries_activated ..⟩
  · next h =>
    rw [hport]
    exact ⟨henc, hses, htx, hkex, fun hc => absurd (decide_eq_true hc) h⟩

theorem linkQuiet_startSession (p : Nat) : (startSession p).Preserves State.linkQuiet :=
  linkQuiet_of_within (w_startSession p) (by decide) (by decide) (by decide)

end Sys2Proof.Machine
end

section
/-!
SUPPORT. Chapter 09: what each LINK message leaves; O38.
-/

set_option Elab.async false

namespace Sys2Proof.Machine

/-- A request that makes an ACTIVE port low. -/
theorem st_rated_told {x : Port} {low : Bool} (h : x.st = .active) (hl : (x.toldLow || low) = true) :
    ({ x with farLow := low } : Port).rated.st = .lowRate := st_rated h hl

/-- What a port in quarantine shows. -/
theorem fields_of_shut {x y : Port} {n : Nat} (h : x.sans = (y.shut n).sans) : x.st = .quarantined ∧ x.reason = n ∧ x.far = y.far := by
  have hst : x.sans.st = (y.shut n).sans.st := congrArg Port.st h
  have hreason : x.sans.reason = (y.shut n).sans.reason := congrArg Port.reason h
  have hfar : x.sans.far = (y.shut n).sans.far := congrArg Port.far h
  exact ⟨hst, hreason, hfar⟩

section
variable {p : Nat} {flit : Flit} {s : State} {g : List Byte} (h : s.hears p flit g)
include h

/-! ### HELLO -/

/-- The port as its checks find it once a HELLO has come. -/
theorem hello_found (hsub : flSUB g = subHELLO) : ∃ t : State,
    (∀ found, run (hearLink p found g) (run (hearBefore p (flitBytes flit)) s) = run (.dyn fun s =>
      if (s.port p).st = .checking then checkHello p
      else if (s.port p).carries then
        .seq (modPort p (fun x => { x with farLow := (leAt x.far 0x15 1).testBit 1 })) (settleRate p)
      else .nop) t) ∧ t.linkQuiet ∧ t.live = s.live ∧ t.wantsLow p = s.wantsLow p ∧ (t.port p).far = byteSlice g 0x08 28 ∧
    (t.port p).st = (s.port p).st ∧ (t.port p).encReq = (s.port p).encReq := by
  have w : (Act.seq (hearBefore p (flitBytes flit)) (modPort p (fun x => { x with far := byteSlice g 0x08 28 }))).Within ft_emit :=
    .seq (w_hearBefore ..) (w_modPort _ _ (by decide))
  obtain ⟨hst, -, -, hreq, -⟩ := fields_of_talk (talk_hearBefore p (flitBytes flit) s p)
  refine ⟨run (.seq (hearBefore p (flitBytes flit)) (modPort p (fun x => { x with far := byteSlice g 0x08 28 }))) s, fun found => ?_,
    (linkQuiet_of_within w (by decide) (by decide) (by decide)).keeps s h.1, keep_live w (by decide) s,
    wantsLow_of_within w (by decide) (by decide) (by decide) s p, ?_⟩
  · rw [hearLink_hello hsub, run_seq, run_seq]
  · rw [run_seq, port_modPort_same]
    dsimp only
    exact ⟨rfl, hst, hreq⟩

variable (ht : flTYPE g = tyLINK)
include ht

/-- A HELLO that fails a check. -/
theorem hello_fails (hsub : flSUB g = subHELLO) (hst : (s.port p).st = .checking) {n : Nat} (hn : n ≠ 0)
    (hf : (applyUpd (.port p { s.port p with far := byteSlice g 0x08 28 }) s).helloFault p = n) :
    let t := run (receive p flit) s
    (t.port p).st = .quarantined ∧ (t.port p).reason = n ∧ (t.port p).far = byteSlice g 0x08 28 ∧ t.flag rLNK_ERR 1 = true := by
  obtain ⟨t, hrun, hq, hlive, -, hfar, hport, -⟩ := hello_found h hsub
  have hfault : t.helloFault p = n := by
    rw [← hf]
    exact helloFault_congr hlive (by rw [hfar, applyUpd_port, if_pos rfl])
  have hst' : (t.port p).st = .checking := hport.trans hst
  have hst₂ : (t.port p).st ≠ .quarantined := by rw [hst']; decide
  have hq' := (linkQuiet_quarantine p n true).keeps t hq
  have hall : run (receive p flit) s = run (shutPort p n true (t.port p).carries) t := by
    rw [run_receive_link h ht, hrun, run_dyn, if_pos hst', run_checkHello_fault (by rwa [hfault]), hfault, run_settled_of_quiet hq',
      run_quarantine hq hst₂]
  obtain ⟨hsans, herr, -⟩ := readers_shutPort p n true (t.port p).carries t
  rw [hall]
  obtain ⟨hst₃, hreason, hfar'⟩ := fields_of_shut hsans
  exact ⟨hst₃, hreason, hfar'.trans hfar, herr⟩

/-- A HELLO that passes, where no end asks for encryption. -/
theorem hello_passes (hsub : flSUB g = subHELLO) (hst : (s.port p).st = .checking)
    (hf : (applyUpd (.port p { s.port p with far := byteSlice g 0x08 28 }) s).helloFault p = 0) (hreq : (s.port p).encReq = false)
    (hbit : (leAt (byteSlice g 0x08 28) 0x15 1).testBit 0 = false) : let t := run (receive p flit) s
    (t.port p).st = (if s.wantsLow p = true ∨ (leAt (byteSlice g 0x08 28) 0x15 1).testBit 1 = true then .lowRate else .active) ∧
      (t.port p).credits = List.replicate 4 1536 ∧ (t.port p).version = min 3 (leAt (byteSlice g 0x08 28) 7 1) := by
  obtain ⟨t, hrun, hq, hlive, hlow, hfar, hport, hreq'⟩ := hello_found h hsub
  have hfault : t.helloFault p = 0 := by
    rw [← hf]
    exact helloFault_congr hlive (by rw [hfar, applyUpd_port, if_pos rfl])
  have hall : run (receive p flit) s = run (activate p) t := by
    rw [run_receive_link h ht, hrun, run_dyn, if_pos (hport.trans hst), run_checkHello_open hfault (hreq'.trans hreq) (by rwa [hfar]),
      run_settled_of_quiet ((linkQuiet_activate p).keeps t hq)]
  dsimp only
  rw [hall, port_activate, hlow, Port.activated, hfar]
  refine ⟨?_, rfl, rfl⟩
  simp only [Bool.or_eq_true]

/-- A HELLO on a port in service. -/
theorem hello_serves (hsub : flSUB g = subHELLO) (hc : (s.port p).carries = true) : let t := run (receive p flit) s
    (t.port p).far = byteSlice g 0x08 28 ∧ (t.port p).farLow = (leAt (byteSlice g 0x08 28) 0x15 1).testBit 1 := by
  obtain ⟨t, hrun, hq, -, -, hfar, hport, -⟩ := hello_found h hsub
  have hne : (t.port p).st ≠ .checking := by
    rw [hport]
    intro he
    rw [Port.carries, he] at hc
    exact absurd hc (by decide)
  have hcar : (t.port p).carries = true := by rwa [Port.carries, hport]
  have hq' := ((linkQuiet_modPort p (fun x => { x with farLow := (leAt x.far 0x15 1).testBit 1 })).seq (linkQuiet_settleRate p)).keeps t hq
  have hall : run (receive p flit) s = run (settleRate p) (run (modPort p (fun x => { x with farLow := (leAt x.far 0x15 1).testBit 1 })) t) := by
    rw [run_receive_link h ht, hrun, run_dyn, if_neg hne, if_pos hcar, run_settled_of_quiet hq', run_seq]
  dsimp only
  rw [hall, port_settleRate, port_modPort_same, (far_rated _).1, (far_rated _).2, hfar]
  exact ⟨rfl, rfl⟩

/-! ### RATE and QUAR -/

theorem rate_heard (hsub : flSUB g = subRATE) : let t := run (receive p flit) s
    (t.port p).farLow = decide (leAt g 0x08 1 = 1) ∧
      ((s.port p).st = .active → ((s.port p).toldLow = true ∨ leAt g 0x08 1 = 1) → (t.port p).st = .lowRate) := by
  obtain ⟨hst, -, -, -, htold, -⟩ := fields_of_talk (talk_hearBefore p (flitBytes flit) s p)
  have hq := (linkQuiet_modPort p (fun x => { x with farLow := decide (leAt g 0x08 1 = 1) })).seq (linkQuiet_settleRate p)
  dsimp only
  rw [run_receive_link_of_quiet h ht (by rwa [hearLink_rate hsub]), hearLink_rate hsub, run_seq, port_settleRate, port_modPort_same]
  refine ⟨(far_rated _).2, fun hact hlow => st_rated_told (hst.trans hact) ?_⟩
  rw [htold, Bool.or_eq_true, decide_eq_true_eq]
  exact hlow

theorem quar_heard (hsub : flSUB g = subQUAR) (hne : (s.port p).st ≠ .quarantined) : let t := run (receive p flit) s
    (t.port p).st = .quarantined ∧ (t.port p).reason = leAt g 0x08 1 % 16 ∧ t.flag rLNK_ERR 1 = true ∧
      t.flag rLNK_PORT_CTL 61 p = false := by
  obtain ⟨hst, -⟩ := fields_of_talk (talk_hearBefore p (flitBytes flit) s p)
  have hq := (linkQuiet_hearBefore p (flitBytes flit)).keeps s h.1
  set t := run (hearBefore p (flitBytes flit)) s with htt
  have hall : run (receive p flit) s = run (shutPort p (leAt g 0x08 1 % 16) false (t.port p).carries) t := by
    rw [run_receive_link_of_quiet h ht (by rw [hearLink_quar hsub]; exact linkQuiet_quarantine ..), hearLink_quar hsub, ← htt,
      run_quarantine hq (by rwa [hst])]
  obtain ⟨hsans, herr, hret⟩ := readers_shutPort p (leAt g 0x08 1 % 16) false (t.port p).carries t
  rw [hall]
  obtain ⟨hst₃, hreason, -⟩ := fields_of_shut hsans
  exact ⟨hst₃, hreason, herr, hret⟩

/-! ### NAK -/

/-- The port and LNK_PORT_REPLAY as an unsequenced LINK message finds them, where no LINK message waits. -/
theorem unsequenced_found (hsub : flSUB g ∉ [subRATE, subQUAR, subKEX]) (hw : (s.port p).waiting = []) :
    ((run (hearBefore p (flitBytes flit)) s).port p).replay = (s.port p).ackd (flACK (flitBytes flit)) ∧
      ∀ q, (run (hearBefore p (flitBytes flit)) s).sentFlits q = s.sentFlits q := by
  obtain ⟨hty, -, hs⟩ := h.header
  obtain ⟨hport, hsent⟩ := readers_hearBefore (sequenced_of_link (hty.symm.trans ht) (by rwa [← hs])) hw
  exact ⟨by rw [hport]; rfl, hsent⟩

theorem nak_resends (hsub : flSUB g = subNAK) (hw : (s.port p).waiting = []) {old again : List Held}
    (hold : old = ((s.port p).ackd (flACK (flitBytes flit))).takeWhile (fun r => decide (r.seq ≠ leAt g 0x08 2)))
    (hagain : again = ((s.port p).ackd (flACK (flitBytes flit))).drop old.length) (hfew : ∀ r ∈ again, r.resent < 7) :
    let t := run (receive p flit) s
    (t.port p).replay = old ++ bumped again ∧
      t.fld rLNK_PORT_REPLAY 31 0 p = sat 32 (s.fld rLNK_PORT_REPLAY 31 0 p + again.length) := by
  obtain ⟨hreplay, -⟩ := unsequenced_found h ht (by rw [hsub]; decide) hw
  have hfld := keep_fld (w_hearBefore p (flitBytes flit)) rLNK_PORT_REPLAY 31 0 p (by decide) (by decide) s
  have hq := (linkQuiet_hearBefore p (flitBytes flit)).keeps s h.1
  set t := run (hearBefore p (flitBytes flit)) s with htt
  have hkept : (t.port p).kept (leAt g 0x08 2) = old := by rw [Port.kept, hreplay, hold]
  have hag : (t.port p).again (leAt g 0x08 2) = again := by rw [Port.again, hkept, hreplay, hagain]
  rw [run_receive_link h ht, hearLink_nak hsub, run_resendStored_clean, ← htt, run_resendFrom (by rwa [hag]),
    run_settled_of_quiet ((linkQuiet_resendSends ..).keeps t hq)]
  obtain ⟨hrep, hcount⟩ := readers_resendSends p (leAt g 0x08 2) (t.port p) t
  rw [hkept, hag] at hrep
  rw [hag, hfld] at hcount
  exact ⟨hrep, hcount⟩

/-- A corrected error in the replay buffer. -/
theorem nak_corrected (hsub : flSUB g = subNAK) (hw : (s.port p).waiting = []) {again : List Held} (hne : again ≠ [])
    (hagain : again = ((s.port p).ackd (flACK (flitBytes flit))).dropWhile (fun r => decide (r.seq ≠ leAt g 0x08 2)))
    (hfew : ∀ r ∈ again, r.resent < 7) : let t := run (receive p flit .corrected) s
    s.logged t { cls := .A, blk := blkLNK, locus := p } ∧
      t.fld rLNK_PORT_REPLAY 31 0 p = sat 32 (s.fld rLNK_PORT_REPLAY 31 0 p + again.length) := by
  obtain ⟨hreplay, -⟩ := unsequenced_found h ht (by rw [hsub]; decide) hw
  have winc : (incident { cls := .A, blk := blkLNK, locus := p }).Within ft_shutPort :=
    w_incident _ (by decide) (errOk_any (blk := blkLNK) (by decide))
  have hq := (linkQuiet_hearBefore p (flitBytes flit)).keeps s h.1
  have hlog := fun x => logged_between (x := { cls := .A, blk := blkLNK, locus := p }) (w_hearBefore p (flitBytes flit))
    (w_resendSends p (leAt g 0x08 2) x) (by decide) (by decide) (by decide) (by decide) s
  have hfld := keep_fld (w_hearBefore p (flitBytes flit)) rLNK_PORT_REPLAY 31 0 p (by decide) (by decide) s
  set t := run (hearBefore p (flitBytes flit)) s with htt
  set u := run (incident { cls := .A, blk := blkLNK, locus := p }) t with hu
  have hport : ∀ k, u.port k = t.port k :=
    keep_port (w_incident (p := { ft_shutPort with flds := [.log .logWr, .log .logIntake, .log .logLost, .out .ibis, .log .ibiWait,
      .log .ibiHold] }) _ (by decide) (errOk_any (blk := blkLNK) (by decide))) (by decide) t
  have hag : (t.port p).again (leAt g 0x08 2) = again := by rw [again_eq_dropWhile, hreplay, hagain]
  have hagu : (u.port p).again (leAt g 0x08 2) = again := by rw [hport, hag]
  have hqu : u.linkQuiet := (linkQuiet_of_within winc (by decide) (by decide) (by decide)).keeps t hq
  rw [run_receive_link h ht, hearLink_nak hsub, ← htt, (run_resendStored (by rwa [hag])).1, ← hu, run_resendFrom (by rwa [hagu]),
    run_settled_of_quiet ((linkQuiet_resendSends ..).keeps u hqu)]
  obtain ⟨-, hcount⟩ := readers_resendSends p (leAt g 0x08 2) (u.port p) u
  rw [hagu, hu, keep_fld winc _ _ _ _ (by decide) (by decide), hfld] at hcount
  exact ⟨hlog _, hcount⟩

/-- An uncorrectable one. -/
theorem nak_uncorrectable (hsub : flSUB g = subNAK) (hw : (s.port p).waiting = [])
    (hne : ((s.port p).ackd (flACK (flitBytes flit))).dropWhile (fun r => decide (r.seq ≠ leAt g 0x08 2)) ≠ [])
    (hlost : lostFlits { s.port p with replay := (s.port p).ackd (flACK (flitBytes flit)) } = []) (hrole : s.live.role p ≠ 1) :
    let t := run (receive p flit .uncorrectable) s
    (t.port p).st = .failed ∧ (t.port p).reason = rsREPLAY ∧ (t.port p).replay = [] ∧ t.flag rLNK_ERR 2 = true := by
  obtain ⟨hreplay, -⟩ := unsequenced_found h ht (by rw [hsub]; decide) hw
  have hlive := keep_live (w_hearBefore p (flitBytes flit)) (by decide) s
  have hq := (linkQuiet_hearBefore p (flitBytes flit)).keeps s h.1
  obtain ⟨hst, -⟩ := fields_of_talk (talk_hearBefore p (flitBytes flit) s p)
  set t := run (hearBefore p (flitBytes flit)) s with htt
  have hlit := lit_of_stateCarries h.carried
  have hag : (t.port p).again (leAt g 0x08 2) ≠ [] := by rwa [again_eq_dropWhile, hreplay]
  have hlost' : lostFlits (t.port p) = [] := by
    rw [lostFlits, hreplay]
    exact hlost
  have hfail : run (failPort p rsREPLAY) t = run (darkenPort p rsREPLAY (t.port p)) t :=
    run_failPort hq (by rw [hst]; exact ⟨fun e => hlit (.inl e), fun e => hlit (.inr (.inr e))⟩) hlost' (by rw [hlive]; exact hrole)
  rw [run_receive_link h ht, hearLink_nak hsub, ← htt, (run_resendStored hag).2, hfail, run_settled_of_quiet
    ((linkQuiet_of_within (w_darkenPort ..) (by decide) (by decide) (by decide)).keeps t hq)]
  obtain ⟨hport, herr, -⟩ := readers_darkenPort p rsREPLAY (t.port p) t
  dsimp only
  rw [hport]
  exact ⟨rfl, rfl, rfl, herr⟩

/-! ### TIME_REQ and TIME_RESP -/

theorem timeReq_answered (hsub : flSUB g = subTIMEREQ) (hw : (s.port p).waiting = []) (hp : p < 24) (hu : s.updSt ≠ .pause) :
    ∃ f, (run (receive p flit) s).sentFlits p = s.sentFlits p ++ [flitOf (f ++ leBytes 4 (crc32 f))] ∧ flTYPE f = tyLINK ∧
      flSUB f = subTIMERESP ∧ byteSlice f 0x08 24 = leBytes 8 (leAt g 0x08 8) ++ leBytes 8 s.stamp ++ leBytes 8 s.stamp := by
  obtain ⟨-, hsent⟩ := unsequenced_found h ht (by rw [hsub]; decide) hw
  have hupd := keep_updSt (w_hearBefore p (flitBytes flit)) (by decide) s
  have hstamp := stamp_of_within (w_hearBefore p (flitBytes flit)) (by decide) (by decide) s
  have hq : (hearLink p .clean g).Preserves State.linkQuiet := by
    rw [hearLink_timeReq hsub]
    exact linkQuiet_of_within (within_when' (w_answerTime ..)) (by decide) (by decide) (by decide)
  rw [run_receive_link_of_quiet h ht hq, hearLink_timeReq hsub]
  set t := run (hearBefore p (flitBytes flit)) s
  rw [run_when', decide_eq_true hp, if_pos rfl, run_answerTime (by rwa [hupd]), hstamp]
  obtain ⟨f, hf, hty, hs, hbody⟩ := sentFlits_sendFree_link p subTIMERESP
    (leBytes 8 (leAt g 0x08 8) ++ leBytes 8 s.stamp ++ leBytes 8 s.stamp) t (by decide)
  refine ⟨f, by rw [hf, hsent], hty, hs, (hbody 24 (by decide)).trans (byteSlice_self ?_)⟩
  simp only [List.length_append, length_leBytes]

theorem timeReq_unanswered (hsub : flSUB g = subTIMEREQ) (hw : (s.port p).waiting = []) (hp : 24 ≤ p ∨ s.updSt = .pause) :
    (run (receive p flit) s).sentFlits p = s.sentFlits p := by
  obtain ⟨-, hsent⟩ := unsequenced_found h ht (by rw [hsub]; decide) hw
  have hupd := keep_updSt (w_hearBefore p (flitBytes flit)) (by decide) s
  have hq : (hearLink p .clean g).Preserves State.linkQuiet := by
    rw [hearLink_timeReq hsub]
    exact linkQuiet_of_within (within_when' (w_answerTime ..)) (by decide) (by decide) (by decide)
  rw [run_receive_link_of_quiet h ht hq, hearLink_timeReq hsub, run_when']
  rcases hp with hp | hp
  · rw [decide_eq_false (Nat.not_lt.mpr hp), if_neg Bool.false_ne_true, hsent]
  · rw [run_answerTime_pause (hupd.trans hp), ite_self, hsent]

theorem timeResp_heard (hsub : flSUB g = subTIMERESP) : (run (receive p flit) s).timeOffset =
    if s.isRoot = false ∧ s.timeParent = p then
      (((leAt g 0x10 8 : Int) - (leAt g 0x08 8 : Int)) - ((s.stamp : Int) - (leAt g 0x18 8 : Int))) / 8
    else s.timeOffset := by
  have w := w_hearBefore p (flitBytes flit)
  have hroot : (run (hearBefore p (flitBytes flit)) s).isRoot = s.isRoot := keep_flag w _ _ _ (by decide) (by decide) s
  have hq : (hearLink p .clean g).Preserves State.linkQuiet := by
    rw [hearLink_timeResp hsub]
    exact linkQuiet_of_within (w_hearTime ..) (by decide) (by decide) (by decide)
  rw [run_receive_link_of_quiet h ht hq, hearLink_timeResp hsub, timeOffset_hearTime, hroot, keep_timeParent w (by decide),
    stamp_of_within w (by decide) (by decide), keep_timeOffset w (by decide)]

/-! ### KEX -/

/-- The state in which a KEX fragment is heard. -/
theorem kex_found (hsub : flSUB g = subKEX) (hfar : (s.port p).far ≠ []) : ∃ t : State,
    run (receive p flit) s = run settleLocal (run pump (run (hearKex p g) t)) ∧ t.linkQuiet ∧ (t.port p).talk = (s.port p).talk ∧
      (t.kexFits p g ↔ s.kexFits p g) ∧ (t.port p).kexPart g = (s.port p).kexPart g ∧ (t.port p).kexMsg g = (s.port p).kexMsg g ∧
      ∀ k, t.cred k = s.cred k := by
  have w := w_hearBefore p (flitBytes flit)
  have htalk := talk_hearBefore p (flitBytes flit) s p
  obtain ⟨hfit, hpart, hmsg⟩ := kexFits_congr htalk (keep_ident w (by decide) s) g
  obtain ⟨-, hf, -⟩ := fields_of_talk htalk
  refine ⟨_, ?_, (linkQuiet_hearBefore p _).keeps s h.1, htalk, hfit, hpart, hmsg, keep_cred w (by decide) s⟩
  rw [run_receive_link h ht, hearLink_kex hsub (by rwa [hf])]

/-- A fragment that does not fit. -/
theorem kex_malformed (hsub : flSUB g = subKEX) (hfar : (s.port p).far ≠ []) (hfit : ¬ s.kexFits p g) :
    let t := run (receive p flit) s
    t.flag rSEC_ERR 5 = true ∧ (t.port p).kex = {} ∧
      ((s.port p).st = .checking → (t.port p).st = .quarantined ∧ (t.port p).reason = rsCRYPTO) := by
  obtain ⟨t, hrun, hq, htalk, hf, -⟩ := kex_found h ht hsub hfar
  obtain ⟨hst, -⟩ := fields_of_talk htalk
  obtain ⟨hfail, -, hqt⟩ := readers_failKex (p := p) hq
  rw [hrun, run_hearKex_malformed (mt hf.mp hfit), run_settled_of_quiet hqt]
  rwa [hst] at hfail

/-- One that fits and is not the last. -/
theorem kex_joins (hsub : flSUB g = subKEX) (hfar : (s.port p).far ≠ []) (hfit : s.kexFits p g)
    (hmore : leAt g 0x09 1 + 1 < kexFrags (leAt g 0x08 1)) : ((run (receive p flit) s).port p).kex =
      { (s.port p).kexPart g with
        on := decide (leAt g 0x08 1 ≠ 4) || ((s.port p).kexPart g).on, frag := leAt g 0x09 1 + 1, msg := (s.port p).kexMsg g } := by
  obtain ⟨t, hrun, hq, -, hf, hpart, hmsg, -⟩ := kex_found h ht hsub hfar
  rw [hrun, run_hearKex_fits (hf.mpr hfit), decide_eq_false (by omega), run_when', if_neg Bool.false_ne_true,
    run_settled_of_quiet ((linkQuiet_modPort ..).keeps t hq), port_modPort_same, hpart, hmsg]

/-- The exchange once a message is whole. -/
theorem kex_completes (hsub : flSUB g = subKEX) (hfar : (s.port p).far ≠ []) (hfit : s.kexFits p g)
    (hlast : leAt g 0x09 1 + 1 = kexFrags (leAt g 0x08 1)) : ∃ t : State,
    run (receive p flit) s = run settleLocal (run pump (run (kexMessage p (leAt g 0x08 1) (leAt g 0x0C 4) ((s.port p).kexMsg g)) t)) ∧
      t.linkQuiet ∧ (t.port p).st = (s.port p).st ∧ (t.port p).session = (s.port p).session ∧
      (t.port p).kex = { (s.port p).kexPart g with on := decide (leAt g 0x08 1 ≠ 4) || ((s.port p).kexPart g).on, frag := 0, msg := [] } ∧
      ∀ k, t.cred k = s.cred k := by
  obtain ⟨t, hrun, hq, htalk, hf, hpart, hmsg, hcred⟩ := kex_found h ht hsub hfar
  obtain ⟨hst, -, -, -, -, hses, -⟩ := fields_of_talk htalk
  have wmod : ∀ f, (modPort p f).Within ft_freeEntry := fun f => w_modPort _ _ (by decide)
  refine ⟨_, ?_, (linkQuiet_modPort p (fun x => { x with kex := { x.kex with msg := [], frag := 0 } })).keeps _
    ((linkQuiet_modPort p (fun x => { x with kex := { (t.port p).kexPart g with
      on := decide (leAt g 0x08 1 ≠ 4) || ((t.port p).kexPart g).on, frag := leAt g 0x09 1 + 1, msg := (t.port p).kexMsg g } })).keeps t hq),
    ?_, ?_, ?_, ?_⟩
  · rw [hrun, run_hearKex_fits (hf.mpr hfit), decide_eq_true hlast, run_when', if_pos rfl, run_seq, hmsg]
  · rw [port_modPort_same, port_modPort_same]
    dsimp only
    exact hst
  · rw [port_modPort_same, port_modPort_same]
    dsimp only
    exact hses
  · rw [port_modPort_same, port_modPort_same, hpart]
  · intro k
    rw [keep_cred (wmod _) (by decide), keep_cred (wmod _) (by decide), hcred]

/-- An OFFER for a credential that this end holds. -/
theorem kex_offer (hsub : flSUB g = subKEX) (hfar : (s.port p).far ≠ []) (hfit : s.kexFits p g) (hkind : leAt g 0x08 1 = 1)
    (hlast : leAt g 0x09 1 + 1 = kexFrags (leAt g 0x08 1)) {slot : Nat}
    (hslot : [0, 1].find? (fun i => (s.cred i).valid && decide ((s.cred i).id = leAt g 0x0C 4)) = some slot) :
    let k := ((run (receive p flit) s).port p).kex
    k.formed = true ∧ k.slot = slot ∧ k.ek = (s.port p).kexMsg g := by
  obtain ⟨t, hrun, hq, -, -, -, hcred⟩ := kex_completes h ht hsub hfar hfit hlast
  have hs : [0, 1].find? (fun i => (t.cred i).valid && decide ((t.cred i).id = leAt g 0x0C 4)) = some slot := by
    simpa only [hcred] using hslot
  have hq' : (applyUpd (.fresh (t.fresh + 1)) t).linkQuiet := hq
  rw [hrun, hkind, run_kexMessage_offer, run_acceptKex hs, run_settled_of_quiet
    ((linkQuiet_of_within (w_answerOffer ..) (by decide) (by decide) (by decide)).keeps _ hq')]
  exact readers_answerOffer ..

/-- A CONFIRM is one fragment, and what it is compared with is in the exchange already. -/
theorem kex_confirm (hsub : flSUB g = subKEX) (hfar : (s.port p).far ≠ []) (hfit : s.kexFits p g) (hkind : leAt g 0x08 1 = 3) :
    ∃ t : State, run (receive p flit) s = run settleLocal (run pump (run (if (s.port p).kexMsg g = hmac (s.port p).kex.theirs (s.port p).kex.th
      then startSession p else failKex p) t)) ∧ t.linkQuiet ∧ (t.port p).st = (s.port p).st ∧
      (t.port p).session = (s.port p).session ∧ (t.port p).kex.txKeys = (s.port p).kex.txKeys := by
  have hlast : leAt g 0x09 1 + 1 = kexFrags (leAt g 0x08 1) := by
    obtain ⟨-, -, -, hi, -⟩ := hfit
    have hone : kexFrags (leAt g 0x08 1) = 1 := by rw [hkind]; rfl
    rw [hone] at hi ⊢
    omega
  obtain ⟨t, hrun, hq, hst, hses, hkex, -⟩ := kex_completes h ht hsub hfar hfit hlast
  have hkeys : ((s.port p).kexPart g).theirs = (s.port p).kex.theirs ∧ ((s.port p).kexPart g).th = (s.port p).kex.th ∧
      ((s.port p).kexPart g).txKeys = (s.port p).kex.txKeys := by
    rw [Port.kexPart]
    split <;> exact ⟨rfl, rfl, rfl⟩
  obtain ⟨htheirs, hth, htx⟩ := hkeys
  refine ⟨t, ?_, hq, hst, hses, by rw [hkex]; exact htx⟩
  rw [hrun, hkind, run_kexMessage_confirm, hkex]
  dsimp only
  rw [htheirs, hth]

theorem kex_confirm_verifies (hsub : flSUB g = subKEX) (hfar : (s.port p).far ≠ []) (hfit : s.kexFits p g) (hkind : leAt g 0x08 1 = 3)
    (hmac' : (s.port p).kexMsg g = hmac (s.port p).kex.theirs (s.port p).kex.th) : let t := run (receive p flit) s
    (t.port p).enc = true ∧ (t.port p).session = (s.port p).session + 1 ∧ (t.port p).txKeys = (s.port p).kex.txKeys ∧
      (t.port p).kex = {} ∧ ((s.port p).st = .checking → (t.port p).carries = true) := by
  obtain ⟨t, hrun, hq, hst, hses, htx⟩ := kex_confirm h ht hsub hfar hfit hkind
  rw [hrun, if_pos hmac', run_settled_of_quiet ((linkQuiet_startSession p).keeps t hq)]
  have hstart := readers_startSession p t
  dsimp only at hstart
  rwa [hst, hses, htx] at hstart

theorem kex_confirm_fails (hsub : flSUB g = subKEX) (hfar : (s.port p).far ≠ []) (hfit : s.kexFits p g) (hkind : leAt g 0x08 1 = 3)
    (hmac' : (s.port p).kexMsg g ≠ hmac (s.port p).kex.theirs (s.port p).kex.th) : let t := run (receive p flit) s
    t.flag rSEC_ERR 5 = true ∧ (t.port p).kex = {} := by
  obtain ⟨t, hrun, hq, -⟩ := kex_confirm h ht hsub hfar hfit hkind
  obtain ⟨⟨herr, hkex, -⟩, -, hqt⟩ := readers_failKex (p := p) hq
  rw [hrun, if_neg hmac', run_settled_of_quiet hqt]
  exact ⟨herr, hkex⟩

end

end Sys2Proof.Machine

open Sys2Proof.Machine

/-- Settles O38, message by message: a flit that is heard leaves `Port.talk` of its port to the message it carries. -/
theorem linkMessages : Obligations.LinkMessages := by
  intro port flit s g p x h ht
  refine ⟨fun hsub hst => ⟨fun hbad => ?_, fun hok hreq hbit => ?_⟩, fun hsub hc => ?_, fun hsub => ?_, fun hsub hw hfew => ?_,
    fun hsub hw hne => ⟨fun hfew => ?_, fun hlost hrole => ?_⟩, fun hsub hw => ⟨fun hp hu => ?_, fun hp => ?_⟩, fun hsub => ?_,
    fun hsub hne => ?_, fun hsub hfar => ⟨fun hfit => ?_, fun hfit hmore => ?_, fun hfit hkind hlast slot hslot => ?_,
      fun hfit hkind hmsg => ?_, fun hfit hkind hmsg => ?_⟩⟩
  · exact givesFlit_of_receive (hello_fails h ht hsub hst hbad rfl)
  · exact givesFlit_of_receive (hello_passes h ht hsub hst hok hreq hbit)
  · exact givesFlit_of_receive (hello_serves h ht hsub hc)
  · exact givesFlit_of_receive (rate_heard h ht hsub)
  · exact givesFlit_of_receive (nak_resends h ht hsub hw rfl rfl hfew)
  · exact ⟨_, rfl, nak_corrected h ht hsub hw hne rfl hfew⟩
  · exact ⟨_, rfl, nak_uncorrectable h ht hsub hw hne hlost hrole⟩
  · exact givesFlit_of_receive (timeReq_answered h ht hsub hw hp hu)
  · exact givesFlit_of_receive (timeReq_unanswered h ht hsub hw hp)
  · exact givesFlit_of_receive (timeResp_heard h ht hsub)
  · exact givesFlit_of_receive (quar_heard h ht hsub hne)
  · exact givesFlit_of_receive (kex_malformed h ht hsub hfar hfit)
  · exact givesFlit_of_receive (kex_joins h ht hsub hfar hfit hmore)
  · exact givesFlit_of_receive (kex_offer h ht hsub hfar hfit hkind (hlast.trans (by rw [hkind]; rfl)) hslot)
  · exact givesFlit_of_receive (kex_confirm_verifies h ht hsub hfar hfit hkind hmsg)
  · exact givesFlit_of_receive (kex_confirm_fails h ht hsub hfar hfit hkind hmsg)
end

section
/-!
SUPPORT. Chapter 09: a flit that stays in its inbound queue because its bundle pauses (R346, R347).
-/

set_option Elab.async false

namespace Sys2Proof.Machine

/-! ### What a queue's step reads -/

theorem activePorts_congr {s t : State} (hl : t.live = s.live) (hp : ∀ k, (t.port k).carries = (s.port k).carries) (b : Nat) :
    t.activePorts b = s.activePorts b := by simp only [State.activePorts, State.bundle, hl, hp]

theorem admits_congr {s t : State} (hl : t.live = s.live) (hp : ∀ k, (t.port k).carries = (s.port k).carries) (came : Option Nat) (f : List Byte) :
    t.admits came f = s.admits came f := by simp only [State.admits, hl, activePorts_congr hl hp]

theorem stuck_congr {s t : State} (hl : t.live = s.live) (hp : ∀ k, (t.port k).carries = (s.port k).carries) (hb : t.pausedBundles = s.pausedBundles)
    {b : Nat} (h : s.stuck b) : t.stuck b := by rwa [State.stuck, hb, activePorts_congr hl hp]

/-- A bundle with a port has a number below 8. -/
theorem lt_of_activePorts {s : State} {b : Nat} (h : s.activePorts b ≠ []) : b < 8 := by
  obtain ⟨p, hp⟩ := List.exists_mem_of_ne_nil _ h
  obtain ⟨hb, -⟩ := List.mem_filter.mp hp
  obtain ⟨hb, -⟩ := List.mem_filter.mp hb
  obtain ⟨hp32, hb⟩ := List.mem_filter.mp hb
  have hlt := List.mem_range.mp hp32
  rw [decide_eq_true_eq, bundleOf] at hb
  split at hb <;> omega

/-! ### Nothing moves -/

/-- No queue head can move. -/
def State.queuesRest (s : State) : Prop := ∀ k, queueStep k s = none

theorem queuesRest_fresh {s : State} (h : s.queuesRest) (n : Nat) : (applyUpd (.fresh n) s).queuesRest := h

/-- A pump that finds nothing to move at most draws a free value. -/
theorem run_pump_of_rest {s : State} (h : s.queuesRest) : ∃ n, run pump s = applyUpd (.fresh n) s := by
  have hstep : ∀ m, ∃ n, run (pumpN m) s = applyUpd (.fresh n) s
    | 0 => ⟨s.fresh, rfl⟩
    | m + 1 => by
      refine ⟨s.fresh + 1, ?_⟩
      have hnone : ∀ l : List Nat, l.findSome? (fun k => queueStep k (applyUpd (.fresh (s.fresh + 1)) s)) = none := fun l =>
        List.findSome?_eq_none_iff.mpr fun k _ => queuesRest_fresh h _ k
      simp only [pumpN, run_withFresh, run_dyn, hnone, run_nop]
  rw [pump, run_dyn, run_when']
  split
  · exact hstep _
  · exact ⟨s.fresh, rfl⟩

/-- With one queue filled, whose bundle pauses, nothing moves. -/
theorem queuesRest_of_stuck {s : State} {k : Nat} (hk : k < 1024) (hs : s.stuck (k % 16)) (hothers : ∀ j, j ≠ k → s.lnkQ j = []) :
    s.queuesRest := by
  obtain ⟨hpause, hports⟩ := hs
  intro j
  rw [queueStep]
  by_cases hj : j = k
  · subst hj
    split
    · rfl
    · simp only [show ¬ 1024 ≤ j by omega, hports, hpause, if_false, if_true]
  · rw [hothers j hj]

/-! ### A flit enters its queue -/

/-- The flit as its queue holds it. -/
def queuedFlit (entry : Option (Nat × Nat)) (f : List Byte) (v : Nat) : Fwd :=
  { bytes := patch f 1 (leBytes 1 (if flTYPE f = tyDATA then flSUB f % 4 + (if 2 ≤ v then 4 else 0) else flSUB f)), vc := v
    entry := entry }

/-- The queue that the flit enters. -/
def queueOf (came : Option Nat) (f : List Byte) (b : Nat) : Nat :=
  queueKey ((came.map facing).getD 8) (if came.isSome then flVC f else 0) b

theorem run_putQueue (came : Option Nat) (entry : Option (Nat × Nat)) (f : List Byte) (b v : Nat) (s : State) :
    run (putQueue came entry f b v) s =
      applyUpd (.lnkQ (queueOf came f b) (s.lnkQ (queueOf came f b) ++ [queuedFlit entry f v])) s := rfl

/-- The flit stays there: what follows draws at most a free value. -/
theorem run_settled_putQueue {came : Option Nat} {entry : Option (Nat × Nat)} {f : List Byte} {b v : Nat} {s : State}
    (hq : s.linkQuiet) (hs : s.stuck b) (hk : queueOf came f b < 1024) (hb : queueOf came f b % 16 = b) :
    ∃ n, run settleLocal (run pump (run (putQueue came entry f b v) s)) = applyUpd (.fresh n) (run (putQueue came entry f b v) s) ∧
      (run (putQueue came entry f b v) s).queuesRest ∧
      (run (putQueue came entry f b v) s).lnkQ (queueOf came f b) = [queuedFlit entry f v] := by
  have hothers : ∀ j, j ≠ queueOf came f b → (run (putQueue came entry f b v) s).lnkQ j = [] := fun j hj => by
    rw [run_putQueue, applyUpd_lnkQ, if_neg hj, hq.1]
  have hrest : (run (putQueue came entry f b v) s).queuesRest := queuesRest_of_stuck hk (by rw [hb]; exact hs) hothers
  obtain ⟨n, hn⟩ := run_pump_of_rest hrest
  refine ⟨n, ?_, hrest, ?_⟩
  · have hl : (applyUpd (.fresh n) (run (putQueue came entry f b v) s)).noLocal := ⟨hq.2.2, hq.2.1⟩
    rw [hn, run_settleLocal_of_noLocal hl]
  · rw [run_putQueue, applyUpd_lnkQ, if_pos rfl, hq.1, List.nil_append]

/-- A queue of a flit that starts here. -/
theorem queueOf_none {f : List Byte} {b : Nat} (h : b < 8) : queueOf none f b = queueKey 8 0 b ∧ queueOf none f b < 1024 ∧
    queueOf none f b % 16 = b := by
  have he : queueOf none f b = queueKey 8 0 b := rfl
  rw [he, queueKey]
  omega

/-- A flit that this module injects into a bundle that pauses. -/
theorem run_settled_inject {f : List Byte} {b v : Nat} {s : State} (hq : s.linkQuiet) (hd : flDEST f ≠ s.live.me)
    (ha : s.admits none f = some (b, v)) (hs : s.stuck b) : ∃ n,
    run settleLocal (run pump (run (inject f) s)) = applyUpd (.fresh n) (run (putQueue none none f b v) s) ∧
      (run (putQueue none none f b v) s).lnkQ (queueKey 8 0 b) = [queuedFlit none f v] := by
  obtain ⟨hkey, hlt, hmod⟩ := queueOf_none (f := f) (lt_of_activePorts hs.2)
  obtain ⟨-, -, hrest, hqueue⟩ := run_settled_putQueue (entry := none) (v := v) hq hs hlt hmod
  rw [hkey] at hqueue
  have hinj : run (inject f) s = run pump (run (putQueue none none f b v) s) := by
    simp only [inject, run_dyn, hd, if_false, ha, run_seq]
  obtain ⟨n, hn⟩ := run_pump_of_rest hrest
  obtain ⟨m, hm⟩ := run_pump_of_rest (queuesRest_fresh hrest n)
  have hl : (applyUpd (.fresh m) (applyUpd (.fresh n) (run (putQueue none none f b v) s))).noLocal := ⟨hq.2.2, hq.2.1⟩
  exact ⟨m, by rw [hinj, hn, hm, run_settleLocal_of_noLocal hl]; rfl, hqueue⟩

end Sys2Proof.Machine
end

section
/-!
SUPPORT. Chapter 09: timers, training and failures of a link; O40.
-/

set_option Elab.async false

namespace Sys2Proof.Machine

/-! ### A port that only sends -/

/-- Fields of a port that sending leaves. -/
theorem fields_of_sans {x y : Port} (h : x.sans = y.sans) : x.st = y.st ∧ x.far = y.far ∧ x.session = y.session ∧
    x.mine = y.mine ∧ x.toldLow = y.toldLow := by
  have hst : x.sans.st = y.sans.st := congrArg Port.st h
  have hfar : x.sans.far = y.sans.far := congrArg Port.far h
  have hses : x.sans.session = y.sans.session := congrArg Port.session h
  have hmine : x.sans.mine = y.sans.mine := congrArg Port.mine h
  have hlow : x.sans.toldLow = y.sans.toldLow := congrArg Port.toldLow h
  exact ⟨hst, hfar, hses, hmine, hlow⟩

theorem sentFlits_modPort (p : Nat) (f : Port → Port) (s : State) (q : Nat) : (run (modPort p f) s).sentFlits q = s.sentFlits q :=
  keep_sentFlits (w_modPort (p := ft_freeEntry) p f (by decide)) (by decide) s q

/-- A HELLO that is sent. -/
theorem readers_sendHello (p : Nat) (s : State) : let t := run (sendHello p) s
    (t.port p).st = (s.port p).st ∧ (t.port p).far = (s.port p).far ∧ (t.port p).session = (s.port p).session ∧
      (t.port p).mine = byteSlice (s.helloBody p) 0 28 ∧ (t.port p).toldLow = s.wantsLow p ∧
      ∃ f, t.sentFlits p = s.sentFlits p ++ [f] := by
  have hrun : run (sendHello p) s = run (emit p (mkFlit tyLINK subHELLO (s.helloBody p)))
      (run (modPort p (fun x => { x with mine := byteSlice (s.helloBody p) 0 28, toldLow := s.wantsLow p })) s) := rfl
  set s₁ := run (modPort p (fun x => { x with mine := byteSlice (s.helloBody p) 0 28, toldLow := s.wantsLow p })) s with hs₁
  have hport : s₁.port p = { s.port p with mine := byteSlice (s.helloBody p) 0 28, toldLow := s.wantsLow p } := port_modPort_same ..
  obtain ⟨hst, hfar, hses, hmine, hlow⟩ := fields_of_sans ((onlySends_emit p (mkFlit tyLINK subHELLO (s.helloBody p))).port s₁ p)
  obtain ⟨f, hsent⟩ := sentFlits_emit_grows p (mkFlit tyLINK subHELLO (s.helloBody p)) s₁
  dsimp only
  rw [hrun, hst, hfar, hses, hmine, hlow, hport]
  exact ⟨rfl, rfl, rfl, rfl, rfl, f, by rw [hsent, hs₁, sentFlits_modPort]⟩

/-! ### Failures of a lit link (R350) -/

/-- A port is lit unless it is OFF, TRAINING or FAILED. -/
theorem st_of_lit {x : Port} (h : x.lit = true) : x.st ≠ .off ∧ x.st ≠ .failed := by
  simp only [Port.lit, Bool.and_eq_true, decide_eq_true_eq] at h
  exact ⟨h.1.1, h.2⟩

theorem run_linkFails_dark {p reason : Nat} {s : State} (hq : s.linkQuiet) (h : (s.port p).lit = false) :
    run (linkFails p reason) s = s := by
  have hnop : run (whenS (fun s => (s.port p).lit) (failPort p reason)) s = s := by rw [run_whenS, h, if_neg Bool.false_ne_true]
  rw [linkFails, run_linkAct, hnop, run_settled_of_quiet hq]

theorem run_linkFails_lit {p reason : Nat} {s : State} (hq : s.linkQuiet) (h : (s.port p).lit = true)
    (hl : lostFlits (s.port p) = []) (hr : s.live.role p ≠ 1) :
    run (linkFails p reason) s = run (darkenPort p reason (s.port p)) s := by
  have hfail : run (whenS (fun s => (s.port p).lit) (failPort p reason)) s = run (darkenPort p reason (s.port p)) s := by
    rw [run_whenS, h, if_pos rfl, run_failPort hq (st_of_lit h) hl hr]
  rw [linkFails, run_linkAct, hfail, run_settled_of_quiet
    ((linkQuiet_of_within (w_darkenPort ..) (by decide) (by decide) (by decide)).keeps s hq)]

/-- What shows a failed link. -/
def State.linkDead (t : State) (p reason : Nat) : Prop :=
  (t.port p).st = .failed ∧ (t.port p).reason = reason ∧ (t.port p).replay = [] ∧ (t.port p).enc = false ∧
    t.flag rLNK_ERR 2 = true ∧ t.flag rLNK_PORT_CTL 61 p = false

theorem linkDead_linkFails {p reason : Nat} {s : State} (hq : s.linkQuiet) (h : (s.port p).lit = true)
    (hl : lostFlits (s.port p) = []) (hr : s.live.role p ≠ 1) : (run (linkFails p reason) s).linkDead p reason := by
  obtain ⟨hport, herr, hret⟩ := readers_darkenPort p reason (s.port p) s
  rw [run_linkFails_lit hq h hl hr, State.linkDead, hport]
  exact ⟨rfl, rfl, rfl, rfl, herr, hret⟩

/-- The codewords of FEC_THRESHOLD are counted first (R328). -/
def fecCount (p : Nat) : Act := whenS (fun s => (s.port p).lit) (addFld rLNK_PORT_FEC 31 0 65 p)

theorem w_fecCount (p : Nat) : (fecCount p).Within { flds := [], regs := [rLNK_PORT_FEC] } :=
  within_whenS (within_addFld _ _ _ _ (by decide) (by decide))

theorem fecThreshold_lit {p : Nat} {s : State} (hq : s.linkQuiet) (h : (s.port p).lit = true)
    (hl : lostFlits (s.port p) = []) (hr : s.live.role p ≠ 1) : let t := run (.seq (fecCount p) (linkFails p rsFEC)) s
    t.linkDead p rsFEC ∧ t.fld rLNK_PORT_FEC 31 0 p = sat 32 (s.fld rLNK_PORT_FEC 31 0 p + 65) := by
  have w := w_fecCount p
  have hport := keep_port w (by decide) s p
  have hlive := keep_live w (by decide) s
  have hcount : (run (fecCount p) s).fld rLNK_PORT_FEC 31 0 p = sat 32 (s.fld rLNK_PORT_FEC 31 0 p + 65) := by
    rw [fecCount, run_whenS, h, if_pos rfl]
    exact fld_addFld _ _ _ _ _ _ (by decide) (by decide)
  have hq₁ := (linkQuiet_of_within w (by decide) (by decide) (by decide)).keeps s hq
  set s₁ := run (fecCount p) s with hs₁
  have hlit : (s₁.port p).lit = true := by rw [hport, h]
  have hl₁ : lostFlits (s₁.port p) = [] := by rw [hport, hl]
  have hr₁ : s₁.live.role p ≠ 1 := by rw [hlive]; exact hr
  dsimp only
  rw [run_seq, ← hs₁]
  refine ⟨linkDead_linkFails hq₁ hlit hl₁ hr₁, ?_⟩
  rw [run_linkFails_lit hq₁ hlit hl₁ hr₁, keep_fld (w_darkenPort ..) _ _ _ _ (by decide) (by decide), hcount]

theorem fecThreshold_dark {p : Nat} {s : State} (hq : s.linkQuiet) (h : (s.port p).lit = false) :
    run (.seq (fecCount p) (linkFails p rsFEC)) s = s := by
  have hnop : run (fecCount p) s = s := by rw [fecCount, run_whenS, h, if_neg Bool.false_ne_true]
  rw [run_seq, hnop, run_linkFails_dark hq h]

/-! ### REPLAY_TIMEOUT (R331) -/

theorem run_replayTimeoutA_idle {p : Nat} {s : State} (hq : s.linkQuiet) (h : (s.port p).replay = [] ∨ (s.port p).lit = false) :
    run (replayTimeoutA p) s = s := by
  rw [replayTimeoutA, run_dyn]
  split
  · rfl
  · next r l hr =>
    have hlit : (s.port p).lit = false := h.resolve_left (by rw [hr]; exact List.cons_ne_nil _ _)
    rw [hlit, run_linkAct, run_when', if_neg Bool.false_ne_true, run_settled_of_quiet hq]

/-- From its oldest flit on, a port resends all that it holds. -/
theorem again_head {x : Port} {r : Held} {l : List Held} (h : x.replay = r :: l) : x.kept r.seq = [] ∧ x.again r.seq = x.replay := by
  have hk : x.kept r.seq = [] := by rw [Port.kept, h, List.takeWhile_cons_of_neg (by simp)]
  exact ⟨hk, by rw [Port.again, hk]; rfl⟩

theorem replayTimeout_resends {p : Nat} {s : State} (hq : s.linkQuiet) (hne : (s.port p).replay ≠ []) (hlit : (s.port p).lit = true)
    (hfew : ∀ r ∈ (s.port p).replay, r.resent < 7) : let t := run (replayTimeoutA p) s
    (t.port p).replay = bumped (s.port p).replay ∧
      t.fld rLNK_PORT_REPLAY 31 0 p = sat 32 (s.fld rLNK_PORT_REPLAY 31 0 p + (s.port p).replay.length) := by
  obtain ⟨r, l, hr⟩ := List.exists_cons_of_ne_nil hne
  obtain ⟨hkept, hagain⟩ := again_head hr
  have hrun : run (replayTimeoutA p) s = run (resendSends p r.seq (s.port p)) s := by
    simp only [replayTimeoutA, run_dyn, hr, run_linkAct, hlit, run_when', if_true, run_resendFrom (p := p) (seq := r.seq)
      (by rw [hagain]; exact hfew)]
    rw [run_settled_of_quiet ((linkQuiet_resendSends ..).keeps s hq)]
  have h := readers_resendSends p r.seq (s.port p) s
  rw [hkept, hagain] at h
  dsimp only
  rw [hrun]
  exact h

/-! ### Rekeying (R359, R467, R468) -/

theorem run_rekeyA_idle {p : Nat} {s : State} (h : s.rekeyDue p = false ∨ (s.port p).carries = false ∨ (s.port p).kex.on = true) :
    run (rekeyA p) s = s := by
  have hc : (s.rekeyDue p && (s.port p).carries && !(s.port p).kex.on) = false := by
    rcases h with h | h | h <;> simp only [h, Bool.false_and, Bool.and_false, Bool.not_true]
  rw [rekeyA, run_dyn, hc, if_neg Bool.false_ne_true, run_nop]

theorem run_rekeyA_due {p : Nat} {s : State} (hd : s.rekeyDue p = true) (hc : (s.port p).carries = true)
    (hk : (s.port p).kex.on = false) : run (rekeyA p) s = run (if s.startsKex p then offerKex p else sendKex p 4 []) s := by
  rw [rekeyA, run_dyn, hd, hc, hk]
  rfl

theorem linkQuiet_offerKex (p : Nat) : (offerKex p).Preserves State.linkQuiet :=
  linkQuiet_of_within (w_offerKex p) (by decide) (by decide) (by decide)

theorem linkQuiet_sendKex (p kind : Nat) (msg : List Byte) : (sendKex p kind msg).Preserves State.linkQuiet :=
  linkQuiet_of_within (w_sendKex p kind msg) (by decide) (by decide) (by decide)

/-- The exchange that an OFFER starts. -/
theorem readers_offerKex (p : Nat) (s : State) : let k := ((run (offerKex p) s).port p).kex
    k.on = true ∧ k.mine = true ∧ k.cred = (s.cred (b2n (s.flag rSEC_CRED_CTL 62))).id := by
  obtain ⟨k, msg, u, hrun, hon, hmine, hcred⟩ : ∃ (k : Kex) (msg : List Byte) (u : State), run (offerKex p) s =
      run (sendKex p 1 msg) (run (modPort p (fun x => { x with kex := k })) u) ∧ k.on = true ∧ k.mine = true ∧
      k.cred = (s.cred (b2n (s.flag rSEC_CRED_CTL 62))).id := ⟨_, _, _, rfl, rfl, rfl, rfl⟩
  rw [hrun, kex_sendKex, port_modPort_same]
  exact ⟨hon, hmine, hcred⟩

theorem tx_emit (p : Nat) (f : List Byte) (s : State) : ((run (emit p f) s).port p).tx = (s.port p).tx := by
  have hport : (run (emit p f) s).port p = _ := (applyUpd_port s p _ p).trans (if_pos rfl)
  rw [hport]

theorem tx_sendSeq (p : Nat) (f : List Byte) (s : State) : ((run (sendSeq p f) s).port p).tx = ((s.port p).tx + 1) % 65536 := by
  obtain ⟨x, g, hrun, hx⟩ : ∃ (x : Port) (g : List Byte), run (sendSeq p f) s = run (emit p g) (applyUpd (.port p x) s) ∧
      x.tx = ((s.port p).tx + 1) % 65536 := ⟨_, _, rfl, rfl⟩
  rw [hrun, tx_emit, applyUpd_port, if_pos rfl, hx]

/-- A LINK message on a port with room in its replay buffer, where none waits. -/
theorem tx_sendLink {p : Nat} {s : State} (hw : (s.port p).waiting = []) (hr : (s.port p).replay.length < replaySize) (sub : Nat)
    (body : List Byte) : ((run (sendLink p sub body) s).port p).tx = ((s.port p).tx + 1) % 65536 := by
  set s₁ := run (modPort p (fun x => { x with waiting := x.waiting ++ [mkFlit tyLINK sub body] })) s with hs₁
  have hport : s₁.port p = { s.port p with waiting := [mkFlit tyLINK sub body] } := by
    rw [hs₁, port_modPort_same, hw]
    rfl
  have hdrain : run (drainWaiting 1 p) s₁ = run (sendSeq p (mkFlit tyLINK sub body)) (run (modPort p (fun x => { x with waiting := [] })) s₁) := by
    simp only [drainWaiting, run_dyn, hport, hr, if_true, run_seqs_cons, run_seqs_nil, run_nop]
  have hrun : run (sendLink p sub body) s = run (drainWaiting (s₁.port p).waiting.length p) s₁ := rfl
  have hone : (s₁.port p).waiting.length = 1 := by rw [hport]; rfl
  rw [hrun, hone, hdrain, tx_sendSeq, port_modPort_same, hport]

/-- An empty key-exchange message is one fragment. -/
theorem tx_sendKex_nil {p : Nat} {s : State} (hw : (s.port p).waiting = []) (hr : (s.port p).replay.length < replaySize)
    (kind : Nat) : ((run (sendKex p kind []) s).port p).tx = ((s.port p).tx + 1) % 65536 := by
  obtain ⟨body, hrun⟩ : ∃ body, run (sendKex p kind []) s = run (sendLink p subKEX body) s := ⟨_, rfl⟩
  rw [hrun, tx_sendLink hw hr]

/-! ### Training (R342) -/

theorem readers_checkPort (p : Nat) (s : State) : let t := run (checkPort p) s
    (t.port p).st = .checking ∧ (t.port p).far = [] ∧ (t.port p).session = 0 ∧ ∃ f, t.sentFlits p = s.sentFlits p ++ [f] := by
  have hrun : run (checkPort p) s = run (sendHello p) (run (modPort p (fun x => { x with
    st := .checking, far := [], enc := false, session := 0, rxNew := none, kex := {} })) s) := rfl
  set s₁ := run (modPort p (fun x => { x with st := .checking, far := [], enc := false, session := 0, rxNew := none, kex := {} })) s
    with hs₁
  obtain ⟨hst, hfar, hses, -, -, f, hsent⟩ := readers_sendHello p s₁
  dsimp only
  rw [hrun, hst, hfar, hses, hs₁, port_modPort_same]
  exact ⟨rfl, rfl, rfl, f, by rw [hsent, hs₁, sentFlits_modPort]⟩

theorem readers_trainFail (p : Nat) (s : State) : let t := run (.seq (portFault p 0 rsTRAIN)
      (modPort p (fun x => { x.dark .failed with reason := rsTRAIN }))) s
    (t.port p).st = .failed ∧ (t.port p).reason = rsTRAIN ∧ t.flag rLNK_ERR 0 = true := by
  have wmod : (modPort p (fun x => { x.dark .failed with reason := rsTRAIN })).Within ft_freeEntry := w_modPort _ _ (by decide)
  dsimp only
  rw [run_seq, port_modPort_same]
  exact ⟨rfl, rfl, (lnkErr_of_within (j := 0) wmod (by decide)).keeps _ (lnkErr_portFault_own p rsTRAIN 0 s)⟩

/-! ### What a gateway sends at a timer (R335, R337) -/

theorem run_flushPack_empty {h st : Nat} {s : State} (he : (s.stream (streamKey h st)).pack = []) : run (flushPack h st) s = s := by
  rw [flushPack, run_dyn, if_pos he, run_nop]

theorem run_flushCredits_idle {h st : Nat} {s : State} (he : (s.stream (streamKey h st)).owed = 0 ∨ s.inRec h st = none) :
    run (flushCredits h st) s = s := by
  rcases he with he | he
  · simp only [flushCredits, run_dyn, he, if_true]
    cases s.inRec h st <;> rfl
  · simp only [flushCredits, run_dyn, he, run_withSome_none]

/-- One stream changes, and a flit of load `h` goes to a peer on the torus. -/
def gatewaySends (h key : Nat) (y : Stream) (f : List Byte) : Act :=
  seqs [.upd (.stream key y), .dyn fun s => addFld rTEN_ACC_LINK 63 0 256 (s.load h).tenant, inject f]

theorem run_flushPack_one {h st : Nat} {s : State} {r : List Byte} (hp : (s.stream (streamKey h st)).pack ≠ [])
    (hc : (s.stream (streamKey h st)).cut = 0) (hr : s.outRecs h st = [r]) (hb : bridgePeer r = none) :
    run (flushPack h st) s = run (gatewaySends h (streamKey h st) { s.stream (streamKey h st) with pack := [] }
      (dataFlitBytes s.live.me r (s.stream (streamKey h st)).gen
        ((s.stream (streamKey h st)).index - (s.stream (streamKey h st)).pack.length) (s.stream (streamKey h st)).pack)) s := by
  have hpeers : (s.stream (streamKey h st)).peers [r] = [(0, r)] := by
    simp [Stream.peers, hc]
  simp only [flushPack, gatewaySends, modStream, sendToPeer, run_dyn, hp, if_false, hr, hpeers, run_seq, run_each_cons, run_each_nil,
    run_seqs_cons, run_seqs_nil, run_upd, hb]

theorem run_flushCredits_one {h st : Nat} {s : State} {r : List Byte} (ho : (s.stream (streamKey h st)).owed ≠ 0)
    (hr : s.inRec h st = some r) (hb : bridgePeer r = none) :
    run (flushCredits h st) s = run (gatewaySends h (streamKey h st) { s.stream (streamKey h st) with owed := 0 }
      (patch (mkFlit tyCREDIT 1 (rmPeer r ++ coordBytes s.live.me)) 0x30
        (leBytes 1 (rmPeerLoad r) ++ leBytes 1 (rmPeerStream r) ++ leBytes 2 (s.stream (streamKey h st)).owed))) s := by
  simp only [flushCredits, gatewaySends, modStream, sendToPeer, run_dyn, hr, run_withSome_some, ho, if_false, run_seq,
    run_seqs_cons, run_seqs_nil, run_upd, hb]

/-- The flit waits in its queue where its bundle pauses. -/
theorem readers_gatewaySends {h key b v : Nat} {y : Stream} {f : List Byte} {s : State} (hq : s.linkQuiet)
    (hd : flDEST f ≠ s.live.me) (ha : s.admits none f = some (b, v)) (hs : s.stuck b) :
    let t := run (linkAct (gatewaySends h key y f)) s
    t.stream key = y ∧ t.lnkQ (queueKey 8 0 b) = [queuedFlit none f v] := by
  have w : (Act.seq (.upd (.stream key y)) (.dyn fun s => addFld rTEN_ACC_LINK 63 0 256 (s.load h).tenant)).Within
      { flds := [.lnk .stream], regs := [rTEN_ACC_LINK] } :=
    .seq (within_upd ⟨_, rfl, by decide⟩) (.dyn fun _ => within_addFld _ _ _ _ (by decide) (by decide))
  have wacc : (Act.dyn fun s => addFld rTEN_ACC_LINK 63 0 256 (s.load h).tenant).Within { flds := [], regs := [rTEN_ACC_LINK] } :=
    .dyn fun _ => within_addFld _ _ _ _ (by decide) (by decide)
  have hlive := keep_live w (by decide) s
  have hport := fun k => congrArg Port.carries (keep_port w (by decide) s k)
  have hq₁ := (linkQuiet_of_within w (by decide) (by decide) (by decide)).keeps s hq
  have hst := stuck_congr hlive hport (keep_pausedBundles w (by decide) s) hs
  have hstream : (run (Act.seq (.upd (.stream key y)) (.dyn fun s => addFld rTEN_ACC_LINK 63 0 256 (s.load h).tenant)) s).stream key = y := by
    rw [run_seq, keep_stream wacc (by decide), run_upd, applyUpd_stream, if_pos rfl]
  set s₁ := run (Act.seq (.upd (.stream key y)) (.dyn fun s => addFld rTEN_ACC_LINK 63 0 256 (s.load h).tenant)) s with hs₁
  have hrun : run (linkAct (gatewaySends h key y f)) s = run settleLocal (run pump (run (inject f) s₁)) := rfl
  obtain ⟨n, hn, hqueue⟩ := run_settled_inject hq₁ (by rw [hlive]; exact hd) ((admits_congr hlive hport none f).trans ha) hst
  dsimp only
  rw [hrun, hn]
  exact ⟨hstream, hqueue⟩

/-- The TYPE of a DATA flit and of a CREDIT flit that this module makes. -/
theorem flTYPE_patch_mkFlit {ty sub : Nat} {body x : List Byte} {off : Nat} (ht : ty < 16) (ho : 0 < off) :
    flTYPE (patch (mkFlit ty sub body) off x) = ty := by
  rw [flTYPE, leAt_one, getD_patch_below ho (by rw [length_mkFlit]; decide), (getD_mkFlit_head ty sub body).1, BitVec.toNat_ofNat, bits]
  omega

theorem flTYPE_dataFlitBytes (r : List Byte) (me : List Nat) (gen index : Nat) (ts : List Token) :
    flTYPE (dataFlitBytes me r gen index ts) = tyDATA := by
  unfold dataFlitBytes
  dsimp only
  rw [flTYPE, leAt_one, getD_patch_below (by decide) (lt_length_patch (by decide) (by rw [length_mkFlit]; decide)), ← leAt_one, ← flTYPE]
  exact flTYPE_patch_mkFlit (by decide) (by decide)

/-- A DATA flit in its queue shows the detour of its VC (R353); another flit is as it was. -/
theorem queuedFlit_data {entry : Option (Nat × Nat)} {f : List Byte} {v : Nat} (h : flTYPE f = tyDATA) : queuedFlit entry f v =
    { bytes := patch f 1 (leBytes 1 (flSUB f % 4 + (if 2 ≤ v then 4 else 0))), vc := v, entry := entry } := by
  rw [queuedFlit, if_pos h]

theorem queuedFlit_other {entry : Option (Nat × Nat)} {f : List Byte} {v : Nat} (h : flTYPE f ≠ tyDATA) : queuedFlit entry f v =
    { bytes := patch f 1 (leBytes 1 (flSUB f)), vc := v, entry := entry } := by rw [queuedFlit, if_neg h]

/-! ### The rows of O40 -/

/-- REKEY_LIMIT. -/
theorem rekeyLimit_idle {p : Nat} {s : State} (hq : s.linkQuiet)
    (h : s.rekeyDue p = false ∨ (s.port p).carries = false ∨ (s.port p).kex.on = true) : run (linkAct (rekeyA p)) s = s := by
  rw [run_linkAct, run_rekeyA_idle h, run_settled_of_quiet hq]

theorem rekeyLimit_offers {p : Nat} {s : State} (hq : s.linkQuiet) (hd : s.rekeyDue p = true) (hc : (s.port p).carries = true)
    (hk : (s.port p).kex.on = false) (hs : s.startsKex p = true) : let k := ((run (linkAct (rekeyA p)) s).port p).kex
    k.on = true ∧ k.mine = true ∧ k.cred = (s.cred (b2n (s.flag rSEC_CRED_CTL 62))).id := by
  rw [run_linkAct, run_rekeyA_due hd hc hk, hs, if_pos rfl, run_settled_of_quiet ((linkQuiet_offerKex p).keeps s hq)]
  exact readers_offerKex p s

theorem rekeyLimit_asks {p : Nat} {s : State} (hq : s.linkQuiet) (hd : s.rekeyDue p = true) (hc : (s.port p).carries = true)
    (hk : (s.port p).kex.on = false) (hs : s.startsKex p = false) (hw : (s.port p).waiting = [])
    (hr : (s.port p).replay.length < replaySize) : let t := run (linkAct (rekeyA p)) s
    (t.port p).tx = ((s.port p).tx + 1) % 65536 ∧ (t.port p).kex = (s.port p).kex := by
  dsimp only
  rw [run_linkAct, run_rekeyA_due hd hc hk, hs, if_neg Bool.false_ne_true,
    run_settled_of_quiet ((linkQuiet_sendKex p 4 []).keeps s hq)]
  exact ⟨tx_sendKex_nil hw hr 4, kex_sendKex p 4 [] s⟩

/-- KEX_TIMEOUT. -/
theorem run_kexTimeout_idle {p : Nat} {s : State} (hq : s.linkQuiet) (h : (s.port p).kex.on = false) :
    run (linkAct (whenS (fun s => (s.port p).kex.on) (failKex p))) s = s := by
  rw [run_linkAct, run_whenS, h, if_neg Bool.false_ne_true, run_settled_of_quiet hq]

theorem run_kexTimeout_on {p : Nat} {s : State} (hq : s.linkQuiet) (h : (s.port p).kex.on = true) :
    run (linkAct (whenS (fun s => (s.port p).kex.on) (failKex p))) s = run (failKex p) s := by
  obtain ⟨-, -, hqt⟩ := readers_failKex (p := p) hq
  rw [run_linkAct, run_whenS, h, if_pos rfl, run_settled_of_quiet hqt]

/-- BUNDLE_RESUME. -/
theorem run_bundleResume {b : Nat} {s : State} (hq : s.linkQuiet) : run (linkAct (bundleResumeA b)) s =
    if (s.activePorts b).all (fun p => ((s.port p).replay.filter (fun r => routed r.clear)).isEmpty)
    then applyUpd (.pausedBundles (s.pausedBundles &&& (2 ^ 8 - 1 - (1 <<< b)))) s else s := by
  have w : (bundleResumeA b).Within { flds := [.lnk .pausedBundles], regs := [] } :=
    .dyn fun _ => within_ite (within_upd ⟨_, rfl, by decide⟩) .nop
  rw [run_linkAct_of_quiet (linkQuiet_of_within w (by decide) (by decide) (by decide)) hq, bundleResumeA, run_dyn, run_ite]
  rfl

end Sys2Proof.Machine

open Sys2Proof.Machine

/-- Settles O40, row by row; a flit that a gateway sends stays in its queue because its bundle pauses. -/
theorem linkTimers : Obligations.LinkTimers := by
  refine ⟨?links, ?ports, ?gateways, ?bundles⟩
  case links =>
    intro port s p x hq dead
    refine ⟨fun h => ⟨⟨_, rfl, run_linkFails_dark hq h⟩, ⟨_, rfl, run_linkFails_dark hq h⟩, ⟨_, rfl, fecThreshold_dark hq h⟩⟩,
      fun h hl hr => ⟨⟨_, rfl, linkDead_linkFails hq h hl hr⟩, ⟨_, rfl, linkDead_linkFails hq h hl hr⟩,
        ⟨_, rfl, fecThreshold_lit hq h hl hr⟩⟩,
      fun h => ⟨_, rfl, run_replayTimeoutA_idle hq h⟩, fun hne h hfew => ⟨_, rfl, replayTimeout_resends hq hne h hfew⟩,
      fun h => ⟨_, rfl, rekeyLimit_idle hq h⟩, fun hd hc hk => ⟨fun hs => ⟨_, rfl, rekeyLimit_offers hq hd hc hk hs⟩,
        fun hs hw hr => ⟨_, rfl, rekeyLimit_asks hq hd hc hk hs hw hr⟩⟩, fun h => ⟨_, rfl, run_kexTimeout_idle hq h⟩, fun h => ⟨_, rfl, ?_⟩⟩
    obtain ⟨⟨herr, hkex, hchecking⟩, hst, -⟩ := readers_failKex (p := p) hq
    rw [run_kexTimeout_on hq h]
    exact ⟨herr, hkex, hchecking, hst⟩
  case ports =>
    intro port s p x
    refine ⟨fun h => ⟨⟨_, rfl, ?_⟩, ⟨_, rfl, ?_⟩⟩, fun h => ⟨⟨_, rfl, ?_⟩, ⟨_, rfl, ?_⟩⟩, ⟨_, rfl, port_modPort_same ..⟩,
      fun hlit hd => ⟨_, rfl, ?_⟩, fun h => ⟨_, rfl, ?_⟩, fun h => ⟨_, rfl, ?_⟩, fun hc hq hl => ⟨_, rfl, ?_⟩⟩
    · rw [run_whenS, if_neg (by simpa using h)]
    · rw [trainFailA, run_whenS, if_neg (by simpa using h)]
    · rw [run_whenS, if_pos (by simpa using h)]
      exact readers_checkPort p s
    · rw [trainFailA, run_whenS, if_pos (by simpa using h)]
      exact readers_trainFail p s
    · obtain ⟨-, -, -, hmine, hlow, hsent⟩ := readers_sendHello p s
      rw [run_whenS, if_pos (by rw [Bool.and_eq_true, decide_eq_true_eq]; exact ⟨hlit, hd⟩)]
      exact ⟨hlow, hmine, hsent⟩
    · rw [run_whenS, if_neg]
      rw [Bool.and_eq_true, decide_eq_true_eq, not_and_or, Bool.not_eq_true, not_not]
      exact h
    · rw [run_whenS, if_pos (by simpa [or_assoc] using h)]
      exact sentFlits_emit_grows p _ s
    · rw [run_whenS, if_neg]
      simp only [Bool.or_eq_true, decide_eq_true_eq, not_or]
      exact ⟨⟨hc, hq⟩, hl⟩
  case gateways =>
    intro load stream s h st key x hq
    refine ⟨fun he => ⟨_, rfl, ?_⟩, fun he => ⟨_, rfl, ?_⟩, fun r b v hp hc hr hb hd ha hs => ⟨_, rfl, ?_⟩,
      fun r b v ho hr hb hd ha hs => ⟨_, rfl, ?_⟩⟩
    · rw [run_linkAct, run_flushPack_empty he, run_settled_of_quiet hq]
    · rw [run_linkAct, run_flushCredits_idle he, run_settled_of_quiet hq]
    · have hdata := flTYPE_dataFlitBytes r s.live.me x.gen (x.index - x.pack.length) x.pack
      rw [run_linkAct, run_flushPack_one hp hc hr hb, ← run_linkAct, ← queuedFlit_data (entry := none) hdata]
      exact readers_gatewaySends hq hd ha hs
    · have hcredit : flTYPE (patch (mkFlit tyCREDIT 1 (rmPeer r ++ coordBytes s.live.me)) 0x30
          (leBytes 1 (rmPeerLoad r) ++ leBytes 1 (rmPeerStream r) ++ leBytes 2 x.owed)) ≠ tyDATA := by
        rw [flTYPE_patch_mkFlit (by decide) (by decide)]
        decide
      rw [run_linkAct, run_flushCredits_one ho hr hb, ← run_linkAct, ← queuedFlit_other (entry := none) hcredit]
      exact readers_gatewaySends hq hd ha hs
  case bundles =>
    intro bundle s b done hq
    refine ⟨fun h => ⟨_, rfl, ?_⟩, fun h => ⟨_, rfl, ?_⟩⟩
    · rw [run_bundleResume hq, if_pos h]
      rfl
    · rw [run_bundleResume hq, if_neg (fun hd => Bool.false_ne_true (h.symm.trans hd))]
end

section
/-!
SUPPORT. Chapter 09: a DATA flit whose receive entry held an uncorrectable error (R367).
-/

set_option Elab.async false

namespace Sys2Proof.Machine

/-! ### Blocks of bytes -/

theorem length_flatMap_block {α : Type} {f : α → List Byte} {n : Nat} (hf : ∀ a, (f a).length = n) (l : List α) :
    (l.flatMap f).length = n * l.length := by
  induction l with
  | nil => rfl
  | cons a l ih => rw [List.flatMap_cons, List.length_append, hf, ih, List.length_cons, Nat.mul_add, Nat.mul_one, Nat.add_comm]

/-- A byte of a list of blocks is a byte of its block. -/
theorem getD_flatMap_block {α : Type} {f : α → List Byte} {n : Nat} (hf : ∀ a, (f a).length = n) :
    ∀ (l : List α) (i j : Nat) (hi : i < l.length), j < n → (l.flatMap f).getD (n * i + j) 0 = (f l[i]).getD j 0
  | a :: l, 0, j, _, hj => by
    rw [List.flatMap_cons, Nat.mul_zero, Nat.zero_add, List.getD_append _ _ _ _ (by rw [hf]; exact hj)]
    rfl
  | a :: l, i + 1, j, hi, hj => by
    have hge : (f a).length ≤ n * (i + 1) + j := by rw [hf, Nat.mul_add, Nat.mul_one]; omega
    have hsub : n * (i + 1) + j - (f a).length = n * i + j := by rw [hf, Nat.mul_add, Nat.mul_one]; omega
    rw [List.flatMap_cons, List.getD_append_right _ _ _ _ hge, hsub]
    exact getD_flatMap_block hf l i j (Nat.lt_of_succ_lt_succ hi) hj

/-- A number read where its bytes were put. -/
theorem leAt_patch_block {α : Type} {bs : List Byte} {f : α → Nat} {n off : Nat} (l : List α) (hoff : off ≤ bs.length) {i : Nat}
    (hi : i < l.length) (hv : f l[i] < 256 ^ n) : leAt (patch bs off (l.flatMap fun a => leBytes n (f a))) (off + n * i) n = f l[i] := by
  have hlen : ∀ a, (leBytes n (f a)).length = n := fun a => length_leBytes n (f a)
  have hmul : n * i + n ≤ n * l.length := by
    rw [← Nat.mul_succ]
    exact Nat.mul_le_mul_left n hi
  have hbytes : leAt (patch bs off (l.flatMap fun a => leBytes n (f a))) (off + n * i) n = leAt (leBytes n (f l[i])) 0 n := by
    refine leAt_congr fun j hj => ?_
    rw [getD_patch hoff, length_flatMap_block hlen, if_pos (by omega), show off + n * i + j - off = n * i + j by omega,
      getD_flatMap_block hlen l i j hi hj, Nat.zero_add]
  rw [hbytes, leAt, byteSlice_self (length_leBytes n _), leNat_of_leBytes hv]

/-! ### A poisoned token -/

/-- The POISON bit of a sideband, wherever the fields above it stand. -/
theorem testBit_poison (hi : Nat) : (BitVec.ofNat 24 (hi * 2 ^ 10 + b2n true * 2 ^ 9 + parity 15 hi * 2 ^ 8 +
    Tok.residueOf 0)).toNat.testBit 9 = true := by
  have hpar : parity 15 hi < 2 := Nat.mod_lt _ (by decide)
  rw [show b2n true = 1 from rfl, show Tok.residueOf 0 = 0 from rfl, BitVec.toNat_ofNat, Nat.testBit_eq_decide_div_mod_eq,
    decide_eq_true_eq]
  omega

theorem poison_make (last : Bool) (kind stream epoch : Nat) : Tok.poison (Tok.make 0 last kind stream epoch true) = true := by
  simp only [Tok.poison, Tok.make, Nat.zero_mod]
  exact testBit_poison _

/-! ### The poisoned flit -/

/-- The tokens that the flit carries once poisoned. -/
def poisonTokens (f : List Byte) : List Token :=
  (flitTokens f).map (fun t => Tok.make 0 (Tok.last t) (Tok.kind t) (Tok.stream t) (Tok.epoch t) true)

theorem length_poisonTokens (f : List Byte) : (poisonTokens f).length = flSUB f % 4 := by
  rw [poisonTokens, flitTokens, List.length_map, List.length_map, List.length_range]

theorem of_mem_poisonTokens {f : List Byte} {t : Token} (h : t ∈ poisonTokens f) : t.payload = 0 ∧ Tok.poison t = true := by
  obtain ⟨u, -, rfl⟩ := List.mem_map.mp h
  exact ⟨rfl, poison_make ..⟩

/-- The sidebands and the payloads of those tokens. -/
def poisonSb (f : List Byte) : List Byte := (poisonTokens f).flatMap (fun t => leBytes 3 t.sb.toNat)
def poisonPayload (f : List Byte) : List Byte := (poisonTokens f).flatMap (fun t => leBytes 64 t.payload.toNat)

theorem poisonFlit_eq (f : List Byte) : poisonFlit f = patch (patch f 0x14 (poisonSb f)) 0x30 (poisonPayload f) := rfl

theorem length_poisonSb (f : List Byte) : (poisonSb f).length = 3 * (flSUB f % 4) := by
  rw [poisonSb, length_flatMap_block (f := fun t : Token => leBytes 3 t.sb.toNat) (fun t => length_leBytes 3 t.sb.toNat), length_poisonTokens]

theorem length_poisonPayload (f : List Byte) : (poisonPayload f).length = 64 * (flSUB f % 4) := by
  rw [poisonPayload, length_flatMap_block (f := fun t : Token => leBytes 64 t.payload.toNat) (fun t => length_leBytes 64 t.payload.toNat), length_poisonTokens]

section
variable {f : List Byte} (hl : f.length = 256)
include hl

theorem length_patch_sb : (patch f 0x14 (poisonSb f)).length = 256 := by
  rw [length_patch (by rw [length_poisonSb, hl]; omega), hl]

/-- Poisoning leaves the bytes before the sidebands and those after the payloads. -/
theorem getD_poisonFlit {i : Nat} (hi : i < 0x14 ∨ 0xF0 ≤ i) : (poisonFlit f).getD i 0 = f.getD i 0 := by
  rw [poisonFlit_eq, getD_patch_other (by rw [length_patch_sb hl]; omega) (by rw [length_poisonPayload]; omega),
    getD_patch_other (by omega) (by rw [length_poisonSb]; omega)]

/-- What the checks of a DATA flit read. -/
theorem fields_poisonFlit : (flTYPE (poisonFlit f) = flTYPE f ∧ flVC (poisonFlit f) = flVC f ∧ flSUB (poisonFlit f) = flSUB f) ∧
    (byteSlice (poisonFlit f) 0x08 8 = byteSlice f 0x08 8 ∧ flDEST (poisonFlit f) = flDEST f ∧ flSRC (poisonFlit f) = flSRC f) ∧
    (flLOAD (poisonFlit f) = flLOAD f ∧ flSTREAM (poisonFlit f) = flSTREAM f) ∧
    flGEN (poisonFlit f) = flGEN f ∧ flINDEX (poisonFlit f) = flINDEX f := by
  have hslice : ∀ o n, o + n ≤ 0x14 ∨ 0xF0 ≤ o → byteSlice (poisonFlit f) o n = byteSlice f o n := fun o n ho =>
    byteSlice_congr fun i hi => getD_poisonFlit hl (by omega)
  have hle : ∀ o n, o + n ≤ 0x14 ∨ 0xF0 ≤ o → leAt (poisonFlit f) o n = leAt f o n := fun o n ho => by
    rw [leAt, leAt, hslice o n ho]
  refine ⟨header_congr (getD_poisonFlit hl (by decide)) (getD_poisonFlit hl (by decide)), ⟨hslice _ _ (by decide), ?_, ?_⟩, ⟨?_, ?_⟩, ?_, ?_⟩
  · rw [flDEST, flDEST, coordAt, coordAt, hslice _ _ (by decide)]
  · rw [flSRC, flSRC, coordAt, coordAt, hslice _ _ (by decide)]
  · rw [flLOAD, flLOAD, hle _ _ (by decide)]
  · rw [flSTREAM, flSTREAM, hle _ _ (by decide)]
  · rw [flGEN, flGEN, hle _ _ (by decide)]
  · rw [flINDEX, flINDEX, hle _ _ (by decide)]

/-- The poisoned flit carries the poisoned tokens. -/
theorem flitTokens_poisonFlit : flitTokens (poisonFlit f) = poisonTokens f := by
  obtain ⟨⟨-, -, hsub⟩, -⟩ := fields_poisonFlit hl
  have hlen := length_poisonTokens f
  refine List.ext_getElem (by rw [hlen, flitTokens, List.length_map, List.length_range, hsub]) fun i hi hi' => ?_
  have hzero : (poisonTokens f)[i].payload.toNat = 0 := by rw [(of_mem_poisonTokens (List.getElem_mem hi')).1, BitVec.ofNat_eq_ofNat, BitVec.toNat_zero]
  have hput : 0x30 ≤ (patch f 0x14 (poisonSb f)).length := by rw [length_patch_sb hl]; decide
  have hpay : leAt (poisonFlit f) (0x30 + 64 * i) 64 = (poisonTokens f)[i].payload.toNat :=
    leAt_patch_block (f := fun t : Token => t.payload.toNat) _ hput hi'
      (by rw [hzero]; exact Nat.pow_pos (by decide))
  have hsb₁ : leAt (patch f 0x14 (poisonSb f)) (0x14 + 3 * i) 3 = (poisonTokens f)[i].sb.toNat :=
    leAt_patch_block (f := fun t : Token => t.sb.toNat) _ (by omega) hi' ((poisonTokens f)[i].sb.isLt.trans_le (by decide))
  have hsb : leAt (poisonFlit f) (0x14 + 3 * i) 3 = (poisonTokens f)[i].sb.toNat := by
    rw [← hsb₁, poisonFlit_eq]
    exact leAt_congr fun j hj => getD_patch_other (by rw [length_patch_sb hl]; decide) (.inl (by omega))
  simp only [flitTokens, List.getElem_map, List.getElem_range, hpay, hsb, BitVec.ofNat_toNat, BitVec.setWidth_eq]

/-- It passes the checks that the flit passes. -/
theorem checks_poisonFlit (hd : flTYPE f = tyDATA) (s : State) (p : Nat) (peer : List Nat) :
    s.routeOk p (poisonFlit f) = s.routeOk p f ∧ s.peerFrom p (poisonFlit f) = s.peerFrom p f ∧
      s.streamOk peer (poisonFlit f) = s.streamOk peer f := by
  obtain ⟨⟨hty, hvc, hsub⟩, ⟨hslice, hdest, hsrc⟩, ⟨hload, hstream⟩, hgen, hindex⟩ := fields_poisonFlit hl
  have hd' : flTYPE (poisonFlit f) = tyDATA := hty.trans hd
  refine ⟨?_, ?_, ?_⟩
  · simp only [State.routeOk, anyByte, List.any_cons, List.any_nil, hty, hvc, hslice, hdest]
  · rw [State.peerFrom, State.peerFrom, hsrc]
  · simp only [State.streamOk, hd, hd', if_true, hload, hstream, hgen, hindex, hsub]

end

end Sys2Proof.Machine
end

section
/-!
SUPPORT. Chapter 09: routed flits at their destination and on their way, and the cut of a multicast peer; O39.
-/

set_option Elab.async false

namespace Sys2Proof.Machine

/-! ### What a delivered flit does (R337, R340, R352, R356) -/

/-- The stream that a DATA flit has reached. -/
def Stream.received (x : Stream) (g : List Byte) : Stream :=
  if x.cutHere then x else { x with store := x.store ++ flitTokens g, inIndex := x.inIndex + flSUB g % 4 }

/-- The stream that a CUT notice has reached. -/
def Stream.cutOff (x : Stream) (g : List Byte) : Stream :=
  if x.cutHere then x else { x with store := x.store ++ [cutToken (flSTREAM g)], cutHere := true }

theorem deliver_data {peer : List Nat} {g : List Byte} (h : flTYPE g = tyDATA) :
    deliver peer g = modStream (streamKey (flLOAD g) (flSTREAM g)) (fun x => x.received g) := if_pos h

theorem deliver_cut {peer : List Nat} {g : List Byte} (h : flTYPE g = tyNOTICE) (hs : flSUB g = 2) :
    deliver peer g = modStream (streamKey (flLOAD g) (flSTREAM g)) (fun x => x.cutOff g) := by
  simp only [deliver, h, hs]
  rfl

theorem deliver_lost {peer : List Nat} {g : List Byte} (h : flTYPE g = tyNOTICE) (hs : flSUB g ≠ 2) :
    deliver peer g = .seq (addFld rLNK_NOTICE_CNT 15 0 1) (lostAt (flLOAD g) (flSTREAM g) (leAt g 0x13 1 % 16)) := by
  simp only [deliver, h, hs]
  rfl

theorem stream_modStream (k : Nat) (f : Stream → Stream) (s : State) : (run (modStream k f) s).stream k = f (s.stream k) :=
  (applyUpd_stream s k _ k).trans (if_pos rfl)

theorem linkQuiet_modStream (k : Nat) (f : Stream → Stream) : (modStream k f).Preserves State.linkQuiet :=
  linkQuiet_of_within (w_modStream (p := ft_resetStream) k f (by decide)) (by decide) (by decide) (by decide)

/-- One entry of a CREDIT flit, where no token waits at the gateway. -/
theorem run_deliver_credit {peer : List Nat} {g : List Byte} {h st n i : Nat} {r : List Byte} {rs : List (List Byte)} {s : State}
    (ht : flTYPE g = tyCREDIT) (he : creditEntries g = [(h, st, n)]) (hi : s.outNumber h st peer = some i)
    (hr : s.outRecs h st = r :: rs) (hs : s.slotsOf (edgeSite (rmGateway r) st).1 = []) : run (deliver peer g) s =
      run (modStream (streamKey h st) (fun x => { x with spent := lset x.spent i (lget 0 x.spent i - n) })) s := by
  have w : (modStream (streamKey h st) (fun x => { x with spent := lset x.spent i (lget 0 x.spent i - n) })).Within ft_resetStream :=
    w_modStream _ _ (by decide)
  have hempty : (run (modStream (streamKey h st) (fun x => { x with spent := lset x.spent i (lget 0 x.spent i - n) })) s).slotsEmpty
      (edgeSite (rmGateway r) st).1 := by
    rw [State.slotsEmpty, slotsOf_congr (keep_slot w (by decide) s), hs]
    exact fun q hq => absurd hq List.not_mem_nil
  have hdeliver : deliver peer g = each (creditEntries g) (fun (q : Nat × Nat × Nat) => .dyn fun s =>
      withSome (s.outNumber q.1 q.2.1 peer) (fun i => .seq
        (modStream (streamKey q.1 q.2.1) (fun x => { x with spent := lset x.spent i (lget 0 x.spent i - q.2.2) }))
        (withSome (s.outRecs q.1 q.2.1).head? (fun r => forward (edgeSite (rmGateway r) q.2.1).1)))) := by
    simp only [deliver, ht]
    rfl
  rw [hdeliver, he, run_each_cons, run_each_nil]
  simp only [run_dyn, hi, run_withSome_some, run_seq, hr, List.head?_cons]
  exact run_forward_of_empty hempty

/-- A LOST notice for a stream of a load without a command. -/
theorem run_lostAt_reset {h st gen : Nat} {s : State} (hs : (s.remoteStreams h).contains st = true) (hc : (s.load h).cmd = none) :
    run (lostAt h st gen) s = run (resetStream h st gen) s := by
  simp only [lostAt, run_dyn, hs, hc, if_true, Option.isSome_none, Bool.false_eq_true, if_false]

/-- The incident of a lost link. -/
def lostInc (tenant : Nat) : Inc :=
  { cls := .B, blk := blkLNK, code := 4, status := Status.linkLost.code, tenant := some tenant }

/-- One for a stream that a command uses. -/
theorem lnkErr_lostAt_own {h st gen : Nat} {s : State} (hs : (s.remoteStreams h).contains st = true) (hc : (s.load h).cmd ≠ none) :
    lnkErr 4 (run (lostAt h st gen) s) := by
  have hrun : run (lostAt h st gen) s = run (endWith h rankLINK) (run (incident (lostInc (s.load h).tenant))
      (run (modStream (streamKey h st) (fun x => { x with lostGen := some gen })) s)) := by
    simp only [lostAt, run_dyn, hs, if_true, Option.isSome_iff_ne_none.mpr hc, run_seqs_cons, run_seqs_nil,
      lostInc]
  rw [hrun]
  exact (lnkErr_endWith h rankLINK).keeps _ (lnkErr_incident_own (j := 4) rfl rfl _)

theorem remoteStreams_congr {s t : State} (h : ∀ k, t.load k = s.load k) (k : Nat) : t.remoteStreams k = s.remoteStreams k := by
  rw [State.remoteStreams, State.remoteStreams, remotes_congr h]

/-! ### DATA from an entry with an error (R367) -/

/-- The incident of the entry is logged, and the flit that the error leaves reaches its stream. -/
theorem data_logged {p : Nat} {flit : Flit} {s : State} {g : List Byte} (h : s.hears p flit g) {c : FClass}
    {g' : List Byte} (ht : flTYPE g' = tyDATA) (hr : s.routeOk p g' = true) (hh : s.live.role p = 1 ∨ flDEST g' = s.live.me)
    (hs : s.streamOk (s.peerFrom p g') g' = true) :
    let t := run settleLocal (run pump (run (.seq (incident { cls := c, blk := blkLNK, locus := p })
      (hearRouted p (some (p, flVC (flitBytes flit))) g')) (run (hearBefore p (flitBytes flit)) s)))
    s.logged t { cls := c, blk := blkLNK, locus := p } ∧
      t.stream (streamKey (flLOAD g') (flSTREAM g')) = (s.stream (streamKey (flLOAD g') (flSTREAM g'))).received g' := by
  have winc : (incident { cls := c, blk := blkLNK, locus := p }).Within ft_shutPort :=
    w_incident _ (by decide) (errOk_any (blk := blkLNK) (by decide))
  have wbefore : (Act.seq (hearBefore p (flitBytes flit)) (incident { cls := c, blk := blkLNK, locus := p })).Within ft_shutPort :=
    .seq ((w_hearBefore ..).mono (by decide)) winc
  have wdeliver : (Act.seq (freeEntry (some (p, flVC (flitBytes flit))))
      (modStream (streamKey (flLOAD g') (flSTREAM g')) (fun x => x.received g'))).Within { flds := [.lnk .port, .lnk .stream], regs := [] } :=
    .seq ((w_freeEntry _).mono (by decide)) (w_modStream _ _ (by decide))
  obtain ⟨hlive, hroute, hpeer, hstream⟩ := checks_of_within wbefore (by decide) (by decide) (by decide) s
  have hst := keep_stream wbefore (by decide) s (streamKey (flLOAD g') (flSTREAM g'))
  have hq := (linkQuiet_of_within wdeliver (by decide) (by decide) (by decide)).keeps _
    ((linkQuiet_of_within wbefore (by decide) (by decide) (by decide)).keeps s h.1)
  have hlog := logged_between (x := { cls := c, blk := blkLNK, locus := p }) (w_hearBefore p (flitBytes flit)) wdeliver
    (by decide) (by decide) (by decide) (by decide) s
  rw [run_seq (hearBefore p (flitBytes flit))] at hlive hroute hpeer hstream hst hq
  set u := run (incident { cls := c, blk := blkLNK, locus := p }) (run (hearBefore p (flitBytes flit)) s) with hu
  have hrun : run (hearRouted p (some (p, flVC (flitBytes flit))) g') u = run (Act.seq (freeEntry (some (p, flVC (flitBytes flit))))
      (modStream (streamKey (flLOAD g') (flSTREAM g')) (fun x => x.received g'))) u := by
    rw [run_hearRouted_home ((hroute p g').trans hr) (by rw [hlive]; exact hh), hpeer, hstream, if_pos hs, deliver_data ht, run_seq]
  dsimp only
  rw [run_seq (incident _), ← hu, hrun, run_settled_of_quiet hq]
  refine ⟨hlog, ?_⟩
  rw [run_seq, stream_modStream, keep_stream (w_freeEntry _) (by decide), hst]

/-! ### A routed flit for another module -/

/-- What the way of a flit reads is the same once a flit is heard. -/
theorem carries_hearBefore (p : Nat) (f : List Byte) (s : State) (k : Nat) :
    ((run (hearBefore p f) s).port k).carries = (s.port k).carries := by
  obtain ⟨hst, -⟩ := fields_of_talk (talk_hearBefore p f s k)
  rw [Port.carries, Port.carries, hst]

theorem run_hearRouted_queued {p b v : Nat} {e : Nat × Nat} {g : List Byte} {s : State} (hr : s.routeOk p g = true)
    (hh : ¬ (s.live.role p = 1 ∨ flDEST g = s.live.me)) (ha : s.admits (some (facing (bundleOf p))) g = some (b, v)) :
    run (hearRouted p (some e) g) s = run (putQueue (some (facing (bundleOf p))) (some e) g b v) s := by
  simp only [hearRouted, run_dyn, Option.isNone_some, Bool.false_eq_true, if_false, hr, Bool.not_true, hh, ha]

theorem run_hearRouted_lost {p : Nat} {e : Nat × Nat} {g : List Byte} {s : State} (hr : s.routeOk p g = true)
    (hh : ¬ (s.live.role p = 1 ∨ flDEST g = s.live.me)) (ha : s.admits (some (facing (bundleOf p))) g = none) :
    run (hearRouted p (some e) g) s = run (dropNoPath g) (run (freeEntry (some e)) s) := by
  simp only [hearRouted, run_dyn, Option.isNone_some, Bool.false_eq_true, if_false, hr, Bool.not_true, hh, ha, run_seq]

/-- A free value drawn leaves the queues. -/
theorem lnkQ_fresh (s : State) (n k : Nat) : (applyUpd (.fresh n) s).lnkQ k = s.lnkQ k := rfl

/-- The queue of a flit that came by a port. -/
theorem queueOf_some {p b : Nat} (hp : p < 32) (hb : b < 8) (g : List Byte) :
    queueOf (some (facing (bundleOf p))) g b = queueKey (facing (facing (bundleOf p))) (flVC g) b ∧
      queueOf (some (facing (bundleOf p))) g b < 1024 ∧ queueOf (some (facing (bundleOf p))) g b % 16 = b := by
  have he : queueOf (some (facing (bundleOf p))) g b = queueKey (facing (facing (bundleOf p))) (flVC g) b := rfl
  have hface : facing (facing (bundleOf p)) = bundleOf p := by rw [facing, facing, Nat.xor_assoc, Nat.xor_self, Nat.xor_zero]
  have hbundle : bundleOf p < 8 := by
    rw [bundleOf]
    split <;> omega
  have hvc : flVC g < 4 := Nat.mod_lt _ (by decide)
  rw [he, hface, queueKey]
  omega

/-! ### A routed flit that passes the checks before check 7 -/

section
variable {p : Nat} {flit : Flit} {s : State} {g : List Byte} (h : s.hears p flit g) (hf : routed (flitBytes flit) = true)
  (hg : routed g = true) (hc : 0 < lget 0 (s.port p).partner (flVC (flitBytes flit)))
include h hf hg hc

/-- It leaves its receive entry as the code of that entry reports. -/
theorem run_receive_routed (found : Found) : run (receive p flit found) s = run settleLocal (run pump
    (run (hearStored p (some (p, flVC (flitBytes flit))) found g) (run (hearBefore p (flitBytes flit)) s))) := by
  rw [run_receive_hears h, entryOf_of_paid hf hc, hearClear, if_pos hg]

/-- What an error in the entry of another flit than DATA does. -/
theorem routed_uncorrectable (ht : flTYPE g ≠ tyDATA) : let t := run (receive p flit .uncorrectable) s
    t.fld rLNK_PORT_DROP 59 48 p = sat 12 (s.fld rLNK_PORT_DROP 59 48 p + 1) ∧ t.flag rLNK_ERR 3 = true := by
  have hrun : hearStored p (some (p, flVC (flitBytes flit))) .uncorrectable g =
      .seq (freeEntry (some (p, flVC (flitBytes flit)))) (dropFlit p 48) := by
    simp only [hearStored, Option.isNone_some, Bool.false_eq_true, if_false, ht]
  dsimp only
  rw [run_receive_routed h hf hg hc, hrun, run_seq (freeEntry _)]
  exact readers_dropped (a := .seq (hearBefore p (flitBytes flit)) (freeEntry (some (p, flVC (flitBytes flit)))))
    (.seq (w_hearBefore ..) ((w_freeEntry _).mono (by decide))) h.1 (by decide)

/-! ### At its destination -/

/-- The state in which it is delivered. -/
theorem run_receive_home (hr : s.routeOk p g = true) (hh : s.live.role p = 1 ∨ flDEST g = s.live.me)
    (hs : s.streamOk (s.peerFrom p g) g = true) : ∃ a : Act, a.Within ft_emit ∧
      run (receive p flit) s = run settleLocal (run pump (run (deliver (s.peerFrom p g) g) (run a s))) := by
  obtain ⟨hlive, hroute, hpeer, hstream⟩ := checks_of_within (w_hearBefore p (flitBytes flit)) (by decide) (by decide) (by decide) s
  refine ⟨.seq (hearBefore p (flitBytes flit)) (freeEntry (some (p, flVC (flitBytes flit)))),
    .seq (w_hearBefore ..) ((w_freeEntry _).mono (by decide)), ?_⟩
  have hclean : hearStored p (some (p, flVC (flitBytes flit))) .clean g = hearRouted p (some (p, flVC (flitBytes flit))) g := rfl
  rw [run_receive_routed h hf hg hc, hclean, run_hearRouted_home ((hroute p g).trans hr) (by rw [hlive]; exact hh), hpeer, hstream,
    if_pos hs, run_seq]

/-- DATA and CUT only change the stream they name. -/
theorem stream_delivered (hr : s.routeOk p g = true) (hh : s.live.role p = 1 ∨ flDEST g = s.live.me)
    (hs : s.streamOk (s.peerFrom p g) g = true) {k : Nat} {F : Stream → Stream} (hd : ∀ peer, deliver peer g = modStream k F) :
    (run (receive p flit) s).stream k = F (s.stream k) := by
  obtain ⟨a, w, hrun⟩ := run_receive_home h hf hg hc hr hh hs
  have hq := (linkQuiet_of_within w (by decide) (by decide) (by decide)).keeps s h.1
  rw [hrun, hd, run_settled_of_quiet ((linkQuiet_modStream k F).keeps _ hq), stream_modStream, keep_stream w (by decide)]

theorem credit_delivered (hr : s.routeOk p g = true) (hh : s.live.role p = 1 ∨ flDEST g = s.live.me)
    (hs : s.streamOk (s.peerFrom p g) g = true) {k st n i : Nat} {r : List Byte} {rs : List (List Byte)} (ht : flTYPE g = tyCREDIT)
    (he : creditEntries g = [(k, st, n)]) (hi : s.outNumber k st (s.peerFrom p g) = some i) (hrec : s.outRecs k st = r :: rs)
    (hslots : s.slotsOf (edgeSite (rmGateway r) st).1 = []) : (run (receive p flit) s).stream (streamKey k st) =
      { s.stream (streamKey k st) with
        spent := lset (s.stream (streamKey k st)).spent i (lget 0 (s.stream (streamKey k st)).spent i - n) } := by
  obtain ⟨a, w, hrun⟩ := run_receive_home h hf hg hc hr hh hs
  have hload := keep_load w (by decide) s
  have hq := (linkQuiet_of_within w (by decide) (by decide) (by decide)).keeps s h.1
  rw [hrun, run_deliver_credit ht he ((outNumber_congr hload ..).trans hi) ((outRecs_congr hload ..).trans hrec)
    ((slotsOf_congr (keep_slot w (by decide) s) _).trans hslots), run_settled_of_quiet ((linkQuiet_modStream ..).keeps _ hq),
    stream_modStream, keep_stream w (by decide)]

theorem lost_delivered_reset (hr : s.routeOk p g = true) (hh : s.live.role p = 1 ∨ flDEST g = s.live.me)
    (hs : s.streamOk (s.peerFrom p g) g = true) (ht : flTYPE g = tyNOTICE) (hsub : flSUB g ≠ 2)
    (hrem : (s.remoteStreams (flLOAD g)).contains (flSTREAM g) = true) (hcmd : (s.load (flLOAD g)).cmd = none) :
    let t := run (receive p flit) s
    t.stream (streamKey (flLOAD g) (flSTREAM g)) = { gen := leAt g 0x13 1 % 16 % 16 } ∧
      t.fld rLNK_NOTICE_CNT 15 0 = sat 16 (s.fld rLNK_NOTICE_CNT 15 0 + 1) := by
  obtain ⟨a, w, hrun⟩ := run_receive_home h hf hg hc hr hh hs
  have hload := keep_load w (by decide) s
  have hq := (linkQuiet_of_within w (by decide) (by decide) (by decide)).keeps s h.1
  have hcnt := keep_fld w rLNK_NOTICE_CNT 15 0 0 (by decide) (by decide) s
  set u := run a s with hu
  have wcount : (addFld rLNK_NOTICE_CNT 15 0 1).Within { flds := [], regs := [rLNK_NOTICE_CNT] } :=
    within_addFld _ _ _ _ (by decide) (by decide)
  have hload' : ∀ k, (run (addFld rLNK_NOTICE_CNT 15 0 1) u).load k = s.load k := fun k =>
    (keep_load wcount (by decide) u k).trans (hload k)
  have wreset := w_resetStream (flLOAD g) (flSTREAM g) (leAt g 0x13 1 % 16)
  have hq' := (linkQuiet_of_within wreset (by decide) (by decide) (by decide)).keeps _
    ((linkQuiet_of_within wcount (by decide) (by decide) (by decide)).keeps u hq)
  have hreset : run (lostAt (flLOAD g) (flSTREAM g) (leAt g 0x13 1 % 16)) (run (addFld rLNK_NOTICE_CNT 15 0 1) u) =
      run (resetStream (flLOAD g) (flSTREAM g) (leAt g 0x13 1 % 16)) (run (addFld rLNK_NOTICE_CNT 15 0 1) u) :=
    run_lostAt_reset (by rw [remoteStreams_congr hload', hrem]) (by rw [hload', hcmd])
  dsimp only
  rw [hrun, deliver_lost ht hsub, run_seq, hreset, run_settled_of_quiet hq']
  refine ⟨(applyUpd_stream _ _ _ _).trans (if_pos rfl), ?_⟩
  rw [keep_fld wreset _ _ _ _ (by decide) (by decide), fld_addFld _ _ _ _ _ _ (by decide) (by decide), hcnt]

theorem lost_delivered_ends (hr : s.routeOk p g = true) (hh : s.live.role p = 1 ∨ flDEST g = s.live.me)
    (hs : s.streamOk (s.peerFrom p g) g = true) (ht : flTYPE g = tyNOTICE) (hsub : flSUB g ≠ 2)
    (hrem : (s.remoteStreams (flLOAD g)).contains (flSTREAM g) = true) (hcmd : (s.load (flLOAD g)).cmd ≠ none) :
    lnkErr 4 (run (receive p flit) s) := by
  obtain ⟨a, w, hrun⟩ := run_receive_home h hf hg hc hr hh hs
  have hload : ∀ k, (run (addFld rLNK_NOTICE_CNT 15 0 1) (run a s)).load k = s.load k := fun k =>
    (keep_load (within_addFld (p := { flds := [], regs := [rLNK_NOTICE_CNT] }) _ _ _ _ (by decide) (by decide)) (by decide) _ k).trans
      (keep_load w (by decide) s k)
  rw [hrun, deliver_lost ht hsub, run_seq]
  exact lnkErr_settled (lnkErr_lostAt_own (by rw [remoteStreams_congr hload, hrem]) (by rwa [hload]))

/-- DATA from an entry with a corrected error. -/
theorem data_corrected (hr : s.routeOk p g = true) (hh : s.live.role p = 1 ∨ flDEST g = s.live.me)
    (hs : s.streamOk (s.peerFrom p g) g = true) (ht : flTYPE g = tyDATA)
    (hcut : (s.stream (streamKey (flLOAD g) (flSTREAM g))).cutHere = false) : let t := run (receive p flit .corrected) s
    s.logged t { cls := .A, blk := blkLNK, locus := p } ∧
      (t.stream (streamKey (flLOAD g) (flSTREAM g))).store = (s.stream (streamKey (flLOAD g) (flSTREAM g))).store ++ flitTokens g := by
  have hrun : hearStored p (some (p, flVC (flitBytes flit))) .corrected g = .seq (incident { cls := .A, blk := blkLNK, locus := p })
      (hearRouted p (some (p, flVC (flitBytes flit))) g) := rfl
  obtain ⟨hlog, hstream⟩ := data_logged h (c := .A) ht hr hh hs
  dsimp only
  rw [run_receive_routed h hf hg hc, hrun, hstream, Stream.received, hcut]
  exact ⟨hlog, rfl⟩

/-- DATA in the clear from an entry with an uncorrectable one. -/
theorem data_uncorrectable (hr : s.routeOk p g = true) (hh : s.live.role p = 1 ∨ flDEST g = s.live.me)
    (hs : s.streamOk (s.peerFrom p g) g = true) (ht : flTYPE g = tyDATA)
    (hcut : (s.stream (streamKey (flLOAD g) (flSTREAM g))).cutHere = false) (henc : (s.port p).enc = false) :
    let t := run (receive p flit .uncorrectable) s
    s.logged t { cls := .B, blk := blkLNK, locus := p } ∧
      (t.stream (streamKey (flLOAD g) (flSTREAM g))).store =
        (s.stream (streamKey (flLOAD g) (flSTREAM g))).store ++ poisonTokens g := by
  have hclear : g = flitBytes flit := by
    obtain ⟨-, -, -, hau⟩ := h
    rw [State.authentic, henc] at hau
    exact (Option.some.inj hau).symm
  have hl : g.length = 256 := by rw [hclear, length_flitBytes]
  obtain ⟨⟨hty, -, -⟩, ⟨-, hdest, -⟩, ⟨hload, hst⟩, -⟩ := fields_poisonFlit hl
  obtain ⟨hroute, hpeer, hok⟩ := checks_poisonFlit hl ht s p (s.peerFrom p g)
  have hrun : hearStored p (some (p, flVC (flitBytes flit))) .uncorrectable g = .seq (incident { cls := .B, blk := blkLNK, locus := p })
      (hearRouted p (some (p, flVC (flitBytes flit))) (poisonFlit g)) := by
    simp only [hearStored, Option.isNone_some, Bool.false_eq_true, if_false, ht, if_true]
  obtain ⟨hlog, hstream⟩ := data_logged h (c := .B) (hty.trans ht) (hroute.trans hr) (by rw [hdest]; exact hh)
    (by rw [hpeer, hok, hs])
  rw [hload, hst] at hstream
  dsimp only
  rw [run_receive_routed h hf hg hc, hrun, hstream, Stream.received, hcut, flitTokens_poisonFlit hl]
  exact ⟨hlog, rfl⟩

/-! ### On its way (R345 to R347, R351) -/

/-- A flit for another module whose bundle pauses waits in its queue. -/
theorem queue_away (hp : p < 32) (hr : s.routeOk p g = true) (hh : ¬ (s.live.role p = 1 ∨ flDEST g = s.live.me)) {b v : Nat}
    (ha : s.admits (some (facing (bundleOf p))) g = some (b, v)) (hs : s.stuck b) :
    (run (receive p flit) s).lnkQ (queueKey (facing (facing (bundleOf p))) (flVC g) b) =
      [queuedFlit (some (p, flVC (flitBytes flit))) g v] := by
  have w := w_hearBefore p (flitBytes flit)
  obtain ⟨hlive, hroute, -⟩ := checks_of_within w (by decide) (by decide) (by decide) s
  have hcarries := carries_hearBefore p (flitBytes flit) s
  have hclean : hearStored p (some (p, flVC (flitBytes flit))) .clean g = hearRouted p (some (p, flVC (flitBytes flit))) g := rfl
  obtain ⟨hkey, hlt, hmod⟩ := queueOf_some hp (lt_of_activePorts hs.2) g
  obtain ⟨n, hn, -, hqueue⟩ := run_settled_putQueue (entry := some (p, flVC (flitBytes flit))) (v := v)
    ((linkQuiet_of_within w (by decide) (by decide) (by decide)).keeps s h.1)
    (stuck_congr hlive hcarries (keep_pausedBundles w (by decide) s) hs) hlt hmod
  rw [run_receive_routed h hf hg hc, hclean, run_hearRouted_queued ((hroute p g).trans hr) (by rw [hlive]; exact hh)
    ((admits_congr hlive hcarries _ g).trans ha), hn, lnkQ_fresh, ← hkey, hqueue]

/-- One without a path is dropped. -/
theorem drop_away (hr : s.routeOk p g = true) (hh : ¬ (s.live.role p = 1 ∨ flDEST g = s.live.me))
    (ha : s.admits (some (facing (bundleOf p))) g = none) : lnkErr 6 (run (receive p flit) s) := by
  obtain ⟨hlive, hroute, -⟩ := checks_of_within (w_hearBefore p (flitBytes flit)) (by decide) (by decide) (by decide) s
  have hclean : hearStored p (some (p, flVC (flitBytes flit))) .clean g = hearRouted p (some (p, flVC (flitBytes flit))) g := rfl
  rw [run_receive_routed h hf hg hc, hclean, run_hearRouted_lost ((hroute p g).trans hr) (by rw [hlive]; exact hh)
    ((admits_congr hlive (carries_hearBefore p (flitBytes flit) s) _ g).trans ha)]
  exact lnkErr_settled ((lnkErr_tellSources g).keeps _ (lnkErr_countNOPATH_own _))

end

end Sys2Proof.Machine
end

section
/-!
SUPPORT. Chapter 09: the cut of a multicast peer (R340); O39.
-/

set_option Elab.async false

namespace Sys2Proof.Machine

/-! ### What a slot's readiness reads (R22, R336) -/

theorem slotReady_congr {s t : State} (hsite : ∀ k, t.site k = s.site k) (hcredit : ∀ k, t.credit k = s.credit k)
    (hbay : ∀ k, t.bay k = s.bay k) (hstream : ∀ k, t.stream k = s.stream k) (hrec : ∀ h st, t.outRecs h st = s.outRecs h st)
    (k : Nat) (x : Slot) : t.slotReady k x = s.slotReady k x := by
  have hload : ∀ o, t.edgeLoad k o = s.edgeLoad k o := fun o => by simp only [State.edgeLoad, hbay]
  have hout : ∀ o st, t.edgeOut k o st = s.edgeOut k o st := fun o st => by simp only [State.edgeOut, hload, hrec]
  simp only [State.slotReady, State.gatewayReady, hsite, hcredit, hout, hstream]

/-- With no slot ready, nothing moves at a switch. -/
theorem run_forward_of_unready {s : State} {k : Nat} (h : ∀ q ∈ s.slotsOf k, s.slotReady k q.2 = false) : run (forward k) s = s := by
  have hready : (s.slotsOf k).filter (fun (_, x) => s.slotReady k x) = [] :=
    List.filter_eq_nil_iff.mpr fun (j, x) hq => by
      dsimp only
      rw [h (j, x) hq]
      exact Bool.false_ne_true
  have hnext : s.nextSlot k = none := by simp only [State.nextSlot, hready, List.find?_nil, List.head?_nil]
  have hN : ∀ n, run (forwardN n k) s = s
    | 0 => rfl
    | n + 1 => by simp only [forwardN, run_dyn, hnext, run_nop]
  rw [forward, run_dyn, hN]

/-- A cause noted leaves the records of every load. -/
theorem outRecs_addCause (h rank : Nat) (s : State) (k st : Nat) : (run (addCause h rank) s).outRecs k st = s.outRecs k st := by
  have hload : ∀ k, ((run (addCause h rank) s).load k).st = (s.load k).st ∧ ((run (addCause h rank) s).load k).image = (s.load k).image := by
    intro k
    rw [addCause, modLoad, run_dyn, run_upd, applyUpd_load]
    split
    · next e =>
      subst e
      split <;> exact ⟨rfl, rfl⟩
    · exact ⟨rfl, rfl⟩
  obtain ⟨hst, himage⟩ := hload k
  rw [State.outRecs, State.outRecs, State.remotes, State.remotes, hst, himage]

/-! ### MCAST_CUT -/

/-- The peer may be cut: it is one of several, not cut, behind, and a token waits for it. -/
def State.peerBehind (s : State) (h st i : Nat) : Prop :=
  2 ≤ (s.outRecs h st).length ∧ (s.stream (streamKey h st)).cut.testBit i = false ∧
    (s.stream (streamKey h st)).hasCredit (i, lget [] (s.outRecs h st) i) = false ∧ s.gatewayWaits h st = true

theorem run_mcastCut_stranger {h st peer : Nat} {s : State} (ho : s.outNumber h st (coordOf peer) = none) :
    run (mcastCutA h st peer) s = s := by rw [mcastCutA, run_dyn, ho, run_withSome_none]

theorem run_mcastCut_other {h st peer i : Nat} {s : State} (ho : s.outNumber h st (coordOf peer) = some i)
    (hb : ¬ s.peerBehind h st i) : run (mcastCutA h st peer) s = s := by
  rw [State.peerBehind] at hb
  rw [mcastCutA, run_dyn, ho, run_withSome_some]
  dsimp only
  rw [if_neg hb, run_nop]

/-- What shows the cut and is logged of it. -/
def cutInc (tenant : Nat) : Inc := { cls := .B, blk := blkLNK, code := 5, status := Status.remoteTimeout.code, tenant := some tenant }

/-- The cut of a peer across a bridge, which is told nothing. -/
theorem run_mcastCut {h st peer i : Nat} {s : State} (ho : s.outNumber h st (coordOf peer) = some i) (hb : s.peerBehind h st i)
    (hbr : bridgePeer (lget [] (s.outRecs h st) i) ≠ none) : run (mcastCutA h st peer) s =
      run (forward (edgeSite (rmGateway (lget [] (s.outRecs h st) i)) st).1) (run (incident (cutInc (s.load h).tenant))
        (run (addCause h rankREMOTE) (applyUpd (.stream (streamKey h st) { s.stream (streamKey h st) with
          cut := (s.stream (streamKey h st)).cut ||| (1 <<< i) }) s))) := by
  have hnone : (bridgePeer (lget [] (s.outRecs h st) i)).isNone = false := by
    rw [Option.isNone_eq_false_iff, Option.isSome_iff_ne_none]
    exact hbr
  rw [State.peerBehind] at hb
  rw [mcastCutA, run_dyn, ho, run_withSome_some]
  dsimp only
  rw [if_pos hb, hnone]
  rfl

theorem mcastCut_cuts {h st peer i : Nat} {s : State} (hq : s.linkQuiet) (ho : s.outNumber h st (coordOf peer) = some i)
    (hb : s.peerBehind h st i) (hbr : bridgePeer (lget [] (s.outRecs h st) i) ≠ none) {y : Stream}
    (hy : y = { s.stream (streamKey h st) with cut := (s.stream (streamKey h st)).cut ||| (1 <<< i) })
    (hslots : ∀ q ∈ s.slotsOf (edgeSite (rmGateway (lget [] (s.outRecs h st) i)) st).1,
      (applyUpd (.stream (streamKey h st) y) s).slotReady (edgeSite (rmGateway (lget [] (s.outRecs h st) i)) st).1 q.2 = false) :
    let t := run (linkAct (mcastCutA h st peer)) s
    t.stream (streamKey h st) = y ∧ lnkErr 5 t := by
  have wcause := w_addCause h rankREMOTE
  have winc : (incident (cutInc (s.load h).tenant)).Within ft_shutPort :=
    w_incident _ (by decide) (errOk_any (blk := blkLNK) (by decide))
  have wboth : (Act.seq (addCause h rankREMOTE) (incident (cutInc (s.load h).tenant))).Within
      { ft_shutPort with flds := .exh .load :: ft_shutPort.flds } := .seq (wcause.mono (by decide)) (winc.mono (by decide))
  set s₁ := applyUpd (.stream (streamKey h st) y) s with hs₁
  have hq₁ : s₁.linkQuiet := hq
  have hstream : s₁.stream (streamKey h st) = y := (applyUpd_stream s _ y _).trans (if_pos rfl)
  set k := (edgeSite (rmGateway (lget [] (s.outRecs h st) i)) st).1 with hk
  set t := run (Act.seq (addCause h rankREMOTE) (incident (cutInc (s.load h).tenant))) s₁ with ht
  have hrec : ∀ j l, t.outRecs j l = s₁.outRecs j l := fun j l =>
    (outRecs_congr (keep_load winc (by decide) _) j l).trans (outRecs_addCause h rankREMOTE s₁ j l)
  have hready : ∀ q ∈ t.slotsOf k, t.slotReady k q.2 = false := fun q hmem => by
    rw [slotReady_congr (keep_site wboth (by decide) s₁) (keep_credit wboth (by decide) s₁) (keep_bay wboth (by decide) s₁)
      (keep_stream wboth (by decide) s₁) hrec]
    rw [slotsOf_congr (keep_slot wboth (by decide) s₁)] at hmem
    exact hslots q hmem
  have hqt : t.linkQuiet := (linkQuiet_of_within wboth (by decide) (by decide) (by decide)).keeps s₁ hq₁
  have hrun : run (mcastCutA h st peer) s = t := by
    rw [run_mcastCut ho hb hbr, ← hy, ← hs₁, ← hk, ht, run_seq]
    exact run_forward_of_unready hready
  dsimp only
  rw [run_linkAct, hrun, run_settled_of_quiet hqt]
  exact ⟨(keep_stream wboth (by decide) s₁ _).trans hstream, lnkErr_incident_own (j := 5) rfl rfl _⟩

end Sys2Proof.Machine

open Sys2Proof.Machine

/-- Settles O39: a routed flit is delivered from its entry, waits in its queue or is dropped; a peer across a bridge is cut. -/
theorem routedFlits : Obligations.RoutedFlits := by
  refine ⟨?flits, ?cuts⟩
  case flits =>
    intro port flit s g p x came home key h hf hg hc hr
    refine ⟨fun ht i hi => ?_, fun hh hs ht hcut => ⟨⟨_, rfl, data_corrected h hf hg hc hr hh hs ht hcut⟩, fun henc => ⟨_, rfl, ?_⟩⟩,
      fun hh hs => ⟨fun ht => ?_, fun k st n i r rs ht he hi hrec hslots => ?_, fun ht hsub => ?_,
        fun ht hsub hrem => ⟨fun hcmd => ?_, fun hcmd => ?_⟩⟩,
      fun hh => ⟨fun b v ha hs => ?_, fun ha => ?_⟩⟩
    · simp only [List.mem_cons, List.not_mem_nil, or_false] at hi
      rcases hi with rfl | rfl | rfl <;> exact ⟨_, rfl, routed_uncorrectable h hf hg hc ht⟩
    · obtain ⟨hlog, hstore⟩ := data_uncorrectable h hf hg hc hr hh hs ht hcut henc
      exact ⟨hlog, _, hstore, length_poisonTokens g, fun _ hy => of_mem_poisonTokens hy⟩
    · exact givesFlit_of_receive (stream_delivered h hf hg hc hr hh hs fun _ => deliver_data ht)
    · exact givesFlit_of_receive (credit_delivered h hf hg hc hr hh hs ht he hi hrec hslots)
    · exact givesFlit_of_receive (stream_delivered h hf hg hc hr hh hs fun _ => deliver_cut ht hsub)
    · exact givesFlit_of_receive (lost_delivered_reset h hf hg hc hr hh hs ht hsub hrem hcmd)
    · exact givesFlit_of_receive (lost_delivered_ends h hf hg hc hr hh hs ht hsub hrem hcmd)
    · exact givesFlit_of_receive (queue_away h hf hg hc port.isLt hr hh ha hs)
    · exact givesFlit_of_receive (drop_away h hf hg hc hr hh ha)
  case cuts =>
    intro load stream peer s h st key x rs hq
    refine ⟨fun ho => ⟨_, rfl, ?_⟩, fun i ho => ⟨fun hn => ⟨_, rfl, ?_⟩, fun hlen hcut hcred hwait hbr hslots => ⟨_, rfl, ?_⟩⟩⟩
    · rw [run_linkAct, run_mcastCut_stranger ho, run_settled_of_quiet hq]
    · have hb : ¬ s.peerBehind h st i := by
        rintro ⟨hlen, hcut, hcred, hwait⟩
        rcases hn with hn | hn | hn | hn
        · exact absurd hlen (Nat.not_le.mpr hn)
        · exact Bool.false_ne_true (hcut.symm.trans hn)
        · exact Bool.false_ne_true (hcred.symm.trans hn)
        · exact Bool.false_ne_true (hn.symm.trans hwait)
      rw [run_linkAct, run_mcastCut_other ho hb, run_settled_of_quiet hq]
    · exact mcastCut_cuts hq ho ⟨hlen, hcut, hcred, hwait⟩ hbr rfl hslots
end
